-- ==== Sys2Proof/Word.lean ====
section
/-! DEFINITION. Words, bytes and the plain bit-field arithmetic every other file uses (R1 to R3:
bit 0 is the least significant bit; multi-byte values are little-endian). -/

namespace Sys2Proof

/-- A byte. -/
abbrev Byte := BitVec 8

/-- A 32-bit value. -/
abbrev W32 := BitVec 32

/-- A 64-bit register, address or descriptor word. -/
abbrev W64 := BitVec 64

/-- A 128-bit descriptor or format-table entry. -/
abbrev W128 := BitVec 128

/-- A 256-bit instruction word. -/
abbrev W256 := BitVec 256

/-- Bits `hi` to `lo` of a word of any width, as a number. -/
def bitsOf {n : Nat} (w : BitVec n) (hi lo : Nat) : Nat := (w.toNat >>> lo) % 2 ^ (hi + 1 - lo)

/-- Bit `k` of a word. -/
def bitOf {n : Nat} (w : BitVec n) (k : Nat) : Bool := w.getLsbD k

/-- A word of 64 bits with ones at bits `hi` to `lo`. -/
def maskOf (hi lo : Nat) : W64 := BitVec.ofNat 64 (2 ^ (hi + 1 - lo) - 1) <<< lo

/-- The field at bits `hi` to `lo` of a 64-bit word. -/
def getBits (v : W64) (hi lo : Nat) : Nat := ((v &&& maskOf hi lo) >>> lo).toNat

/-- The word with the field at bits `hi` to `lo` replaced by `x`, cut to the field's width. -/
def setBits (v : W64) (hi lo : Nat) (x : Nat) : W64 :=
  (v &&& ~~~(maskOf hi lo)) ||| ((BitVec.ofNat 64 x <<< lo) &&& maskOf hi lo)

/-- A number read as two's complement of `n` bits. -/
def signedOf (n x : Nat) : Int := if 2 ^ (n - 1) ≤ x % 2 ^ n then (x % 2 ^ n : Int) - 2 ^ n else (x % 2 ^ n : Int)

/-- An integer cut to `n` bits, two's complement. -/
def ofSigned (n : Nat) (x : Int) : Nat := (x % (2 ^ n : Int)).toNat

/-- The bytes of a value, least significant first (R3). -/
def leBytes (n x : Nat) : List Byte :=
  (List.range n).map fun k => BitVec.ofNat 8 (x >>> (8 * k))

/-- The value of bytes, least significant first (R3). -/
def leValue : List Byte → Nat
  | [] => 0
  | b :: bs => b.toNat + 256 * leValue bs

/-- A counter of `n` bits that saturates at all ones. -/
def satAdd (n x d : Nat) : Nat := min (x + d) (2 ^ n - 1)

/-- A counter of `n` bits that wraps. -/
def wrapAdd (n x d : Nat) : Nat := (x + d) % 2 ^ n

end Sys2Proof
end

