-- ==== Sys2Proof/Syntax.lean ====
section
/-! DEFINITION. The commands the block takes (opcode_table.json): one constructor per row, with the
row's operands. A command that carries a Birzin word `w` performs that word on spindle `sp` (package
spindle number, R34). -/

namespace Sys2Proof

/-- Who makes an access or a write (R24, R379, R392, R402): a host port, a warden's core (0 for WD-A,
1 for WD-B), a spindle by package spindle number, or the device's own hardware and sequencers. -/
inductive Master where
  | host (port : Nat)
  | warden (w : Nat)
  | spindle (sp : Nat)
  | hw
  deriving DecidableEq, Repr

/-- How a word that took time ends (R58, R61, R62, R162): it completes; it fails its residue check; a read
meets a multi-bit ECC error; a request completes with DIE_LOST; the combined residue of a read-out fails once, or twice. -/
inductive WordEnd where
  | ok
  | residue
  | eccMultibit
  | dieLost
  | combine (twice : Bool)
  deriving DecidableEq, Repr

/-- A memory bank (R237): bank `k` of the scratchpad of a package spindle number, or of a warden's SRAM. -/
inductive Bank where
  | pad (sp k : Nat)
  | sram (w k : Nat)
  deriving DecidableEq, Repr

/-- What the ECC of a word or fragment finds (R54, R195, R256): nothing, an error it corrects, an error it
only detects. -/
inductive Ecc where
  | good
  | corrected
  | multibit
  deriving DecidableEq, Repr

/-- Where a request at a bank comes from (Table BNK-2): the core's loads and stores (S-words, LDT and STT through LOCAL
descriptors), its fetch, the owner's DMA, the index, weight and buffer traffic of table words, the ply sequencer, capture
writes, recorder staging, or an access of a master through the spindle slot or the warden window. -/
inductive BankSource where
  | core | fetch | dma | table | ply | capture | recorder
  | window (m : Master)
  deriving DecidableEq, Repr

/-- A request at a bank (R238, R239): its source, the bank offset, the bytes read, or the bytes written with `mode` 0
plainly, 1 through the set alias, 2 through the clear alias; `ecc` is what the read of each word it covers finds, good
where the list is shorter. -/
structure BankReq where
  source : BankSource
  off : Nat
  len : Nat
  data : Option (List Byte)
  mode : Nat
  ecc : List Ecc
  deriving DecidableEq, Repr

/-- What the active warden finds of a CXL expander (R278, R279): whether it is of type 3, offers CXL.cache, or
sits behind a switch or is multi-logical or multi-headed; its volatile capacity in bytes, its serial number, and the
link's version, speed, width and flit size as Table LNK-9 codes them. -/
structure Expander where
  type3 : Bool
  cache : Bool
  multi : Bool
  bytes : Nat
  serial : W64
  version : Nat
  speed : Nat
  width : Nat
  flit256 : Bool
  deriving DecidableEq, Repr

/-- What a flit from another package asks of this one: bytes written at a package address, or doorbell bits of a
target (Table ISA-16). -/
inductive RemoteAct where
  | write (addr : Nat) (data : List Byte)
  | bell (target : W64) (bits : Nat)
  deriving DecidableEq, Repr

/-- A request to another package whose response does not come, at its requester (R271, R275, R293, R300): a spindle's word or a
read, a write of an address through BAR2, the oldest descriptor of a host DMA channel. -/
inductive RemoteReq where
  | read
  | write (addr : Nat)
  | dma (c : Nat)
  deriving DecidableEq, Repr

/-- A requester that waits, and its request. -/
structure Waiter where
  m : Master
  req : RemoteReq
  deriving DecidableEq, Repr

/-- A warp flit as it arrives (Table LNK-12), with `good` where its codeword was corrected and its CRC agrees,
`corrected` the symbols the FEC corrected, `fec` false where the FEC could not correct its codeword; `isReq` and `addr` are
of the transaction it carries, `acts` what it asks of this package; `credits` come back in a control flit, channel by channel. -/
structure Flit where
  seq : Nat
  ackseq : Nat
  ack : Bool
  nak : Bool
  kind : Nat
  vc : Nat
  dst : Nat
  src : Nat
  hops : Nat
  unit : Nat
  good : Bool
  fec : Bool
  corrected : Nat
  isReq : Bool
  addr : Nat
  acts : List RemoteAct
  credits : List Nat
  deriving DecidableEq, Repr

/-- What the sensor front end reads in a policy cycle (R418, R432, R452 to R454): input power in mW averaged over the
cycle; Pt1000 inputs in mK; each flow input as its mode has it, the period of its last two pulses and the time since the last in
µs (no period: 0), or its current in µA; pressure and general inputs in mV or µA; the time between pulses in µs (none: 0) and current in mA of each
fan and pump channel; coil currents in mA and the boost voltage in mV; metered power of each die in mW. -/
structure Readings where
  pin : Nat
  temps : List Int
  flows : List (Nat × Nat)
  ain : List Int
  fans : List (Nat × Nat)
  coils : List Nat
  boost : Nat
  dies : List Nat
  deriving DecidableEq, Repr

/-- A CAN frame as received without error (R490, R499): a remote frame or a data frame, with an extended or base identifier
in the 29-bit field, FD, BRS and ESI bits, length code and payload. -/
structure Frame where
  rtr : Bool
  ide : Bool
  id : Nat
  fdf : Bool
  brs : Bool
  esi : Bool
  dlc : Nat
  data : List Byte
  deriving DecidableEq, Repr

/-- A CAN error's kind (Table TB-15). -/
inductive BusError where
  | bit | stuff | form | crc | ack
  deriving DecidableEq, Repr

/-- How an attempt to send ends (R505, R507): acknowledged; lost arbitration; or an error of a kind, which the sender met
in the frame's data field or elsewhere. -/
inductive TxEnd where
  | sent
  | lost
  | error (e : BusError) (inData : Bool)
  deriving DecidableEq, Repr

/-- A flit of the package mesh (R18, R21): on the response channel or the request channel, the virtual channel it takes on
the ring, the stops it goes from and to, its contents and the CRC-32 it carries over them. -/
structure MeshFlit where
  resp : Bool
  vc : Bool
  src : Nat
  dst : Nat
  bytes : List Byte
  crc : W32
  deriving DecidableEq, Repr

/-- How a table word ends (R212, R213): it completes; a read or write of it in the quarry met DATA_LOST or DIE_LOST; a pooled
bag failed its residue check once, and was computed again; it failed twice. -/
inductive TblEnd where
  | done
  | lost
  | bagAgain
  | bagTwice
  deriving DecidableEq, Repr

/-- The commands: every row of the table of operations and events. -/
inductive Instr where
  /-- REGISTER_WRITE (R8): A write to a register that has no row of its own, checked against width, reserved bits, access code, presence and the master allowed to write it. -/
  | registerWrite (m : Master) (addr : Nat) (size : Nat) (v : W64)
  /-- MESH_FLIT_RECEIVE (R21): A stop receives a mesh flit, checks its CRC and, on a mismatch, has the link replay it from the sender's replay buffer. -/
  | meshFlitReceive (d : Nat) (link : Nat) (x : MeshFlit)
  /-- ROUTE_HOLD_END (R20): Flits already sent on the old route have been delivered, so the held flits of the new route are released. -/
  | routeHoldEnd (d : Nat)
  /-- MESH_STOP_RAIL_TRIP (R23): A stop rail's overcurrent comparator trips; the stop rail and the die isolation switch open, and one class-0x08 occurrence is counted. -/
  | meshStopRailTrip (d : Nat)
  /-- DIE_OVERCURRENT_TRIP (R31): A die's VIN_ current passes its overcurrent limit, so its isolation switch opens and TRIP latches. -/
  | dieOvercurrentTrip (d : Nat)
  /-- PW_DIE_ISO_WRITE (R32): A write of CLOSE, MS_CLOSE or TRIP to a die's isolation register, honoured only from the active warden and only when no trip stands. -/
  | pwDieIsoWrite (m : Master) (d : Nat) (v : W64)
  /-- PW_TWIN_CTL_WRITE (R30): A write of VID or STATE to a twin regulator, refused outside the legal VID range. -/
  | pwTwinCtlWrite (m : Master) (d : Nat) (k : Nat) (v : W64) (same : Bool)
  /-- TWIN_ILIM_ENTRY (R29): A twin regulator starts limiting its output current at 14 A. -/
  | twinIlimEntry (d : Nat) (k : Nat) (on : Bool)
  /-- RAIL_CAP_RECOMPUTE (R26): Every 100 µs the active warden recomputes the rail cap from V_IN and the bus converters in service. -/
  | railCapRecompute (vin : Nat) (iin : Nat) (pin : Nat)
  /-- BUS_CONVERTER_FAIL (R27): A bus converter fails and is taken out of service, and the rail cap is recomputed. -/
  | busConverterFail (n : Nat)
  /-- VIN_UNDERVOLTAGE (R28): V_IN stays below 38.0 V for 100 µs, so every rail except VSTBY opens and the package enters OFF. -/
  | vinUndervoltage
  /-- VIN_OVERVOLTAGE (R28): V_IN rises above 62.0 V and the bus converters stop in hardware, putting the package in OFF. -/
  | vinOvervoltage
  /-- VIN_BACK_IN_BAND (R28): After an input trip, V_IN has held within 40.0–60.0 V for 100 ms, and bring-up resumes from the step I/O when the order is RUN. -/
  | vinBackInBand
  /-- HI_BAR2_BASE_WRITE (R42): A write of a new BAR2 window base, which applies to every request the port receives after it. -/
  | hiBar2BaseWrite (port : Nat) (v : W64)
  /-- HI_PKG_NUM_WRITE (R277): A write of the package number, refused while any warp port is ACTIVE. -/
  | hiPkgNumWrite (port : Nat) (v : W64)
  /-- BAR4_DOORBELL_WRITE (R43): A host write to a spindle's BAR4 doorbell word, or to a warden pair's doorbell word. -/
  | bar4DoorbellWrite (port : Nat) (off : Nat) (v : W64)
  /-- HOST_MEMORY_REQUEST (R271): A host port receives a memory read or write to BAR0, BAR2 or BAR4, translates it and serves it in order. -/
  | hostMemoryRequest (port : Nat) (bar : Nat) (off : Nat) (len : Nat) (data : Option (List Byte))
  /-- DOORBELL_SET_ARRIVE (R69): A write to SPN_DB_SET sets pending doorbell bits, which may end a WAIT or wake a powered-down twin. -/
  | doorbellSetArrive (m : Master) (sp : Nat) (v : W64)
  /-- WAIT_TIMEOUT (R75): A WAIT's timeout elapses before a match, so it writes zero and predicate 0. -/
  | waitTimeout (sp : Nat)
  /-- TIMER_COMPARE (R72): The nanosecond counter reaches SPN_TIMER_CMP and SPN_IRQ.TIMER sets. -/
  | timerCompare (sp : Nat)
  /-- WRITE_REFUSAL_NOTICE (R59): A remote package refuses a committed write, and the spindle sets ASYNC and records the address without raising an exception. -/
  | writeRefusalNotice (sp : Nat) (addr : W64)
  /-- WORD_ISSUE (R55): The spindle issues the next word in program order into a spool entry, checking it at decode and issue. -/
  | wordIssue (sp : Nat)
  /-- WORD_COMPLETE (R58): A word that took time completes, passes its commit point and retires in order, changing its destinations. -/
  | wordComplete (sp : Nat) (e : WordEnd)
  /-- EXCEPTION_TAKEN (R63): A word that raised a cause becomes the oldest word not retired, so the exception is taken: halt, vector, or a double exception. -/
  | exceptionTaken (sp : Nat)
  /-- INTERRUPT_TAKEN (R73): A pending interrupt is taken while IN_HANDLER is 0: committed words finish, the rest are discarded, and the spindle vectors. -/
  | interruptTaken (sp : Nat)
  /-- SPN_RUN (R82): SPN_CTL.RUN starts issue from HALTED, unless a refusal condition holds. -/
  | spnRun (m : Master) (sp : Nat)
  /-- SPN_HALT_REQUEST (R82): SPN_CTL.HALT stops issue; committed words complete and uncommitted ones are discarded. -/
  | spnHaltRequest (m : Master) (sp : Nat)
  /-- SPN_STEP (R82): SPN_CTL.STEP issues and retires one word from HALTED and then halts. -/
  | spnStep (m : Master) (sp : Nat)
  /-- SPINDLE_HALTED (R82): After a halt request or a step, the committed words have retired and the spindle enters HALTED. -/
  | spindleHalted (sp : Nat)
  /-- STATE_VIEW_ACCESS (R83): An access through the state view, served only while the spindle is HALTED; replicated state of a ply is written through member 0. -/
  | stateViewAccess (m : Master) (sp : Nat) (off : Nat) (size : Nat) (data : Option W64)
  /-- S_WORD (R93): An S-word performs its slots 1 to COUNT in order; any slot exception cancels every slot. -/
  | sWord (sp : Nat) (w : W256)
  /-- MMA (R107): Accumulate A × Bᵀ exactly into the shaped mortar lanes. -/
  | mma (sp : Nat) (w : W256)
  /-- MMS (R107): Subtract A × Bᵀ exactly from the shaped mortar lanes. -/
  | mms (sp : Nat) (w : W256)
  /-- MACC (R144): Add tile elements exactly into mortar lanes. -/
  | macc (sp : Nat) (w : W256)
  /-- MCLR (R148): Clear the shaped lanes, with their flags and residue. -/
  | mclr (sp : Nat) (w : W256)
  /-- MRD (R149): Check the residues, then read mortar out to a tile with one rounding. -/
  | mrd (sp : Nat) (w : W256)
  /-- MRDC (R149): Read mortar out like MRD, then clear the lanes read. -/
  | mrdc (sp : Nat) (w : W256)
  /-- MFLAG (R124): OR the lane flags into a g register. -/
  | mflag (sp : Nat) (w : W256)
  /-- TADD (R130): Elementwise add, rounded once. -/
  | tadd (sp : Nat) (w : W256)
  /-- TSUB (R130): Elementwise subtract. -/
  | tsub (sp : Nat) (w : W256)
  /-- TMUL (R130): Elementwise multiply. -/
  | tmul (sp : Nat) (w : W256)
  /-- TDIV (R130): Elementwise divide, raising DIV_ZERO on a zero divisor. -/
  | tdiv (sp : Nat) (w : W256)
  /-- TFMA (R130): Fused A × B + C, rounded once. -/
  | tfma (sp : Nat) (w : W256)
  /-- TMIN (R130): Elementwise minimum. -/
  | tmin (sp : Nat) (w : W256)
  /-- TMAX (R130): Elementwise maximum. -/
  | tmax (sp : Nat) (w : W256)
  /-- TABS (R130): Elementwise absolute value. -/
  | tabs (sp : Nat) (w : W256)
  /-- TADDS (R125): Add a scalar from GS to each element. -/
  | tadds (sp : Nat) (w : W256)
  /-- TMULS (R125): Multiply each element by a scalar from GS. -/
  | tmuls (sp : Nat) (w : W256)
  /-- TSCL2 (R130): Scale each element by a power of two. -/
  | tscl2 (sp : Nat) (w : W256)
  /-- TRELU (R130): Elementwise ReLU. -/
  | trelu (sp : Nat) (w : W256)
  /-- TGELU (R125): Elementwise GELU. -/
  | tgelu (sp : Nat) (w : W256)
  /-- TSIGM (R125): Elementwise sigmoid. -/
  | tsigm (sp : Nat) (w : W256)
  /-- TTANH (R125): Elementwise tanh. -/
  | ttanh (sp : Nat) (w : W256)
  /-- TEXP (R125): Elementwise exponential. -/
  | texp (sp : Nat) (w : W256)
  /-- TLOG (R125): Elementwise natural logarithm. -/
  | tlog (sp : Nat) (w : W256)
  /-- TSQRT (R125): Elementwise square root. -/
  | tsqrt (sp : Nat) (w : W256)
  /-- TRSQRT (R125): Elementwise reciprocal square root. -/
  | trsqrt (sp : Nat) (w : W256)
  /-- TRECIP (R125): Elementwise reciprocal, raising DIV_ZERO on a zero. -/
  | trecip (sp : Nat) (w : W256)
  /-- TCGT (R130): Elementwise greater-than as 1 or 0. -/
  | tcgt (sp : Nat) (w : W256)
  /-- TCEQ (R130): Elementwise equality as 1 or 0. -/
  | tceq (sp : Nat) (w : W256)
  /-- TSEL (R130): Elementwise select by C. -/
  | tsel (sp : Nat) (w : W256)
  /-- TCOPY (R124): Copy elements bit for bit. -/
  | tcopy (sp : Nat) (w : W256)
  /-- TTRANS (R163): Transpose the logical shape. -/
  | ttrans (sp : Nat) (w : W256)
  /-- TCVT (R138): Convert between formats, including block scaling. -/
  | tcvt (sp : Nat) (w : W256)
  /-- TFILL (R125): Fill the shaped elements with a scalar. -/
  | tfill (sp : Nat) (w : W256)
  /-- TBCAST (R163): Broadcast one row to every row. -/
  | tbcast (sp : Nat) (w : W256)
  /-- TGET (R125): Read a single element into GS. -/
  | tget (sp : Nat) (w : W256)
  /-- TPUT (R125): Write a single element from GS. -/
  | tput (sp : Nat) (w : W256)
  /-- TZERO (R124): Zero the shaped elements. -/
  | tzero (sp : Nat) (w : W256)
  /-- LDT (R110): Load tile rows from memory with conversion. -/
  | ldt (sp : Nat) (w : W256)
  /-- STT (R110): Store tile rows to memory with conversion. -/
  | stt (sp : Nat) (w : W256)
  /-- DMA (R111): Copy LEN bytes between descriptors. -/
  | dma (sp : Nat) (w : W256)
  /-- DMAF (R111): Fill LEN bytes with an 8-byte pattern. -/
  | dmaf (sp : Nat) (w : W256)
  /-- GATHER (R211): Gather the region rows named by an index list into a buffer. -/
  | gather (sp : Nat) (w : W256)
  /-- POOL_SUM (R213): Exact sum of each bag's rows, rounded once. -/
  | poolSum (sp : Nat) (w : W256)
  /-- POOL_MEAN (R213): Exact mean of each bag's rows, rounded once. -/
  | poolMean (sp : Nat) (w : W256)
  /-- POOL_MAX (R213): Elementwise maximum over each bag. -/
  | poolMax (sp : Nat) (w : W256)
  /-- POOL_WSUM (R213): Exact weighted sum of each bag's rows. -/
  | poolWsum (sp : Nat) (w : W256)
  /-- SCATTER (R211): Write buffer rows to the named region rows. -/
  | scatter (sp : Nat) (w : W256)
  /-- SCATTER_ADD (R211): Add buffer rows exactly into the named rows, rounded once per row. -/
  | scatterAdd (sp : Nat) (w : W256)
  /-- UPD_SGD (R215): Apply an SGD step to the named rows. -/
  | updSgd (sp : Nat) (w : W256)
  /-- UPD_ADAGRAD (R215): Apply a row-wise Adagrad step. -/
  | updAdagrad (sp : Nat) (w : W256)
  /-- UPD_ADAM (R215): Apply an Adam step. -/
  | updAdam (sp : Nat) (w : W256)
  /-- TABLE_WORD_COMPLETE (R212): Every change and output of a table word is visible, so it completes, sets its doorbell, or ends with DATA_LOST. -/
  | tableWordComplete (sp : Nat) (how : TblEnd)
  /-- BR (R117): Branch to an absolute word index. -/
  | br (sp : Nat) (w : W256)
  /-- BRR (R117): Branch to a register target. -/
  | brr (sp : Nat) (w : W256)
  /-- CALL (R117): Write the link and branch. -/
  | call (sp : Nat) (w : W256)
  /-- CALLR (R117): Write the link and branch to a register target. -/
  | callr (sp : Nat) (w : W256)
  /-- LOOP (R118): Counted branch. -/
  | loop (sp : Nat) (w : W256)
  /-- HALT (R122): Retire, then halt the spindle or the ply. -/
  | halt (sp : Nat) (w : W256)
  /-- FENCE (R60): Retire only after every older write is visible everywhere. -/
  | fence (sp : Nat) (w : W256)
  /-- DOORBELL (R119): Set doorbell bits in a spindle or the active warden after the older writes are visible. -/
  | doorbell (sp : Nat) (w : W256)
  /-- WAIT (R75): Hold younger words until doorbell bits match or the timeout ends. -/
  | wait (sp : Nat) (w : W256)
  /-- SYNC (R121): Rendezvous of the ply's members, with the older writes visible. -/
  | sync (sp : Nat) (w : W256)
  /-- RETX (R66): Return from a handler by retrying or skipping the word. -/
  | retx (sp : Nat) (w : W256)
  /-- BREAK (R122): Raise the BREAK exception with its immediate. -/
  | brk (sp : Nat) (w : W256)
  /-- EPOCH (R358): Fence, write the epoch image and mark the unit READY; retire when the package commits. -/
  | epoch (sp : Nat) (w : W256)
  /-- RDEPOCH (R123): Read the current epoch number. -/
  | rdepoch (sp : Nat) (w : W256)
  /-- PLY_FORM (R182): PLY_CMD FORM checks and claims every member, then forms a level-1 ply. -/
  | plyForm (m : Master) (d : Nat) (v : W64)
  /-- PLY_JOIN (R184): PLY_CMD JOIN joins plies into one of the next level. -/
  | plyJoin (m : Master) (d : Nat) (v : W64)
  /-- PLY_SPLIT (R185): PLY_CMD SPLIT removes the top level of a ply. -/
  | plySplit (m : Master) (d : Nat) (v : W64)
  /-- PLY_DISSOLVE (R185): PLY_CMD DISSOLVE makes every member a plain spindle. -/
  | plyDissolve (m : Master) (d : Nat) (v : W64)
  /-- PLY_RUN (R179): PLY_CMD RUN starts every member at one boundary. -/
  | plyRun (m : Master) (d : Nat) (v : W64)
  /-- PLY_HALT (R179): PLY_CMD HALT halts every member at one boundary. -/
  | plyHalt (m : Master) (d : Nat) (v : W64)
  /-- PLY_STEP (R179): PLY_CMD STEP steps the whole ply by one word. -/
  | plyStep (m : Master) (d : Nat) (v : W64)
  /-- PLY_REFORM (R190): PLY_CMD REFORM replaces the members named in its pairs. -/
  | plyReform (m : Master) (d : Nat) (v : W64)
  /-- PLY_BAD_COMMAND (R187): A reserved PLY_CMD.OP fails with BAD_COMMAND. -/
  | plyBadCommand (m : Master) (d : Nat) (v : W64)
  /-- PLY_CMD_COMPLETE (R187): A ply command succeeds or fails, clears BUSY and sets its completion doorbell. -/
  | plyCmdComplete (d : Nat)
  /-- PLY_DOORBELL_MOVE (R177): A doorbell set on a non-zero member is moved by the sequencers to member 0. -/
  | plyDoorbellMove (sp : Nat)
  /-- PLY_WORD_CLEARED (R172): A member's step report says a word is cleared in every member, so the word passes its commit point and the window advances. -/
  | plyWordCleared (psn : Nat) (mem : Nat)
  /-- PLY_MEMBER_LOST (R189): A member's spindle, die or package is lost, so the ply stops and its notices are set. -/
  | plyMemberLost (pkg : Nat) (sp : Nat)
  /-- PLY_AUTO_REFORM (R191): After a rollback has restored the epoch, the active warden re-forms an AUTO ply from the reserve. -/
  | plyAutoReform (psn : Nat)
  /-- QD_PLAIN_ACCESS (R195): A plain read or write to a quarry slice, with ECC correction, parity or mirror rebuild, or DATA_LOST. -/
  | qdPlainAccess (m : Master) (addr : Nat) (len : Nat) (data : Option (List Byte)) (err : Ecc) (poison : Bool)
  /-- PATROL_SCRUB_READ (R196): The patrol scrubber reads the next fragment and handles any error it finds. -/
  | patrolScrubRead (addr : Nat) (err : Ecc)
  /-- QD_CARVE_WRITE (R198): A write that sets the carves, refused while regions exist or if sizes are out of range. -/
  | qdCarveWrite (m : Master) (d : Nat) (v : W64)
  /-- QD_CFG_WRITE (R222): A write of the mirror partner, refused when self-partnered or while regions are mirrored. -/
  | qdCfgWrite (m : Master) (d : Nat) (v : W64)
  /-- QD_TEN_WRITE (R208): A write of a tenancy's rate share or capacity, refused if the RATE fields would sum above 750. -/
  | qdTenWrite (m : Master) (d : Nat) (k : Nat) (v : W64)
  /-- REGION_LOAD (R203): QD_RGN_CMD LOAD checks the staged descriptor and puts the slot in LOADING. -/
  | regionLoad (m : Master) (d : Nat) (v : W64)
  /-- REGION_LOAD_DONE (R204): Parity and the mirror copy are written, and the slot becomes ACTIVE. -/
  | regionLoadDone (d : Nat)
  /-- REGION_UNLOAD (R205): QD_RGN_CMD UNLOAD holds new words on the region and waits for those in flight. -/
  | regionUnload (m : Master) (d : Nat) (v : W64)
  /-- REGION_UNLOAD_DONE (R205): The in-flight words have finished, so the slot, its parity space and its mirror entry are freed. -/
  | regionUnloadDone (d : Nat)
  /-- REGION_BAD_COMMAND (R203): A reserved QD_RGN_CMD.OP fails with BAD_COMMAND. -/
  | regionBadCommand (m : Master) (d : Nat) (v : W64)
  /-- SKEIN_QUIESCE (R233): QUIESCE holds new changes back by handshake. -/
  | skeinQuiesce (m : Master) (d : Nat) (v : W64)
  /-- SKEIN_QUIESCE_DONE (R233): Every accepted change has completed, and QUIESCED sets. -/
  | skeinQuiesceDone (d : Nat)
  /-- SKEIN_RESUME (R233): RESUME releases the quiesce. -/
  | skeinResume (m : Master) (d : Nat) (v : W64)
  /-- SKEIN_ROLLBACK (R233): ROLLBACK restores the skein records newest first. -/
  | skeinRollback (m : Master) (d : Nat) (v : W64)
  /-- SKEIN_ROLLBACK_DONE (R233): The quarry's rollback finishes, or stops on a bad record with FAILED set. -/
  | skeinRollbackDone (d : Nat) (bad : Option Nat)
  /-- SKEIN_COMMIT (R232): A COMMIT, by message or register write, discards records up to epoch E and advances QD_SKEIN_EPOCH. -/
  | skeinCommit (m : Master) (d : Nat) (v : W64)
  /-- QUARRY_LOST (R225): A quarry is lost, and the partner serves its mirrored regions under their own handles. -/
  | quarryLost (d : Nat)
  /-- PARTNER_LOST (R226): A mirror partner is lost, and the mirrored regions run unmirrored and DEGRADED. -/
  | partnerLost (d : Nat)
  /-- PC_REBUILD_DONE (R227): The rebuild of a retired pseudo-channel ends, and REBUILT sets. -/
  | pcRebuildDone (d : Nat) (p : Nat)
  /-- HBM_EYE_ADJUST (R327): Every 64 µs the HBM PHY moves its samplers, holding and re-centring a pseudo-channel whose eye is too narrow. -/
  | hbmEyeAdjust (d : Nat) (stack : Nat) (pc : Nat) (eyeT : Nat) (eyeV : Nat) (moves : Nat)
  /-- BANK_ACCESS (R239): The ports of a bank present requests in a handshake and are served by sub-array arbitration, same-word rules and ECC. -/
  | bankAccess (b : Bank) (rs : List BankReq)
  /-- BIT_ALIAS_WRITE (R247): A write through the set or clear alias performs an atomic read-modify-write. -/
  | bitAliasWrite (b : Bank) (off : Nat) (clear : Bool) (m : Master) (data : List Byte) (ecc : List Ecc)
  /-- CD_BNK_PWR_WRITE (R250): A write of bank power requests, honoured from a host port or the active warden. -/
  | cdBnkPwrWrite (m : Master) (sp : Nat) (v : W64)
  /-- WD_BNK_PWR_WRITE (R254): A write of warden bank 2 and 3 power requests, honoured only from the owning warden. -/
  | wdBnkPwrWrite (m : Master) (w : Nat) (v : W64)
  /-- BANK_POWER_TRANSITION (R251): A bank's request to leave ON takes effect once no access is in progress. -/
  | bankPowerTransition (b : Bank)
  /-- BANK_WAKE_DONE (R253): The wake ends, with the clear if the bank was OFF, and the held accesses are served. -/
  | bankWakeDone (b : Bank)
  /-- MTEST_BORROW (R259): The test controller borrows an idle line, runs the patterns and restores the line. -/
  | mtestBorrow (b : Bank) (line : Nat) (done : Bool) (fails : List (Nat × Nat)) (pass : Bool)
  /-- COLREP_PROGRAM (R266): FS_COLREP_CMD PROGRAM checks the target and blows a field column repair. -/
  | colrepProgram (m : Master) (w : Nat) (v : W64)
  /-- COLREP_DONE (R266): A column-repair program ends with its readback result. -/
  | colrepDone (w : Nat) (blown : Bool)
  /-- PCIE0_PERST (R269): PCIE0_PERST_N asserted is a PKG reset. -/
  | pcie0Perst
  /-- PCIE1_PERST (R269): PCIE1_PERST_N asserted is a PORT reset of host port 1. -/
  | pcie1Perst
  /-- PCIE_HOT_RESET (R269): A hot reset or link disable received is a PORT reset of that host port. -/
  | pcieHotReset (port : Nat)
  /-- FUNCTION_LEVEL_RESET (R269): An FLR restores HI_BAR2_BASE and DEGRADED and aborts the port's DMA channels. -/
  | functionLevelReset (port : Nat) (link : Bool)
  /-- HOST_LINK_TRAINED (R270): A host link trains, setting DEGRADED when below x16 or 64 GT/s. -/
  | hostLinkTrained (port : Nat) (width : Nat) (speed : Nat) (flit : Bool)
  /-- HOST_DMA_ENABLE (R276): A write of ENABLE = 1 starts a channel, refused with an illegal LOG2. -/
  | hostDmaEnable (port : Nat) (c : Nat) (v : W64)
  /-- HOST_DMA_DISABLE (R276): A write of ENABLE = 0 lets the moving descriptors finish. -/
  | hostDmaDisable (port : Nat) (c : Nat) (v : W64)
  /-- HOST_DMA_HEAD_WRITE (R273): A write of HEAD posts descriptors to a running channel. -/
  | hostDmaHeadWrite (port : Nat) (c : Nat) (v : W64)
  /-- HOST_DMA_DESC_START (R273): The channel takes the next posted descriptor at TAIL and starts moving it. -/
  | hostDmaDescStart (port : Nat) (c : Nat) (desc : W256)
  /-- HOST_DMA_DESC_COMPLETE (R274): A descriptor ends: doorbell, STATUS, TAIL advance and MSI-X, or on failure ERR with ENABLE cleared. -/
  | hostDmaDescComplete (port : Nat) (c : Nat) (data : Option (List Byte))
  /-- HOST_DMA_IDLE (R276): The last moving descriptor finishes after a disable, and IDLE sets. -/
  | hostDmaIdle (port : Nat) (c : Nat)
  /-- CXL_PORT_BRINGUP (R278): The active warden trains, enumerates and maps a CXL port, or refuses it. -/
  | cxlPortBringup (p : Nat) (x : Expander)
  /-- CXL_LINK_DOWN (R281): The link of a MAPPED CXL port goes down and the port enters LOST. -/
  | cxlLinkDown (p : Nat)
  /-- CXL_RETRAIN (R282): CX_PORT_CTL.RETRAIN makes a PORT reset and bring-up, checking the serial number and capacity. -/
  | cxlRetrain (m : Master) (p : Nat)
  /-- CXL_EVENT_LOG_POLL (R283): Once per second the warden copies each new expander event record and clears it. -/
  | cxlEventLogPoll (p : Nat) (recs : List Nat)
  /-- WARP_NEGOTIATE_START (R284): A DOWN warp port with TRAIN_EN starts auto-negotiation, and again every 1 s. -/
  | warpNegotiateStart (p : Nat)
  /-- WARP_PAGES_EXCHANGED (R285): Negotiation pages are exchanged and the rate, version and lanes are agreed or found lacking. -/
  | warpPagesExchanged (p : Nat) (rates : Nat) (versions : Nat) (peerPkg : Nat) (peerPort : Nat) (peerRetired : Nat)
  /-- WARP_TRAINING_DONE (R286): Lane training and deskew end; a failed lane is retired, otherwise the port enters HELD. -/
  | warpTrainingDone (p : Nat) (failed : Nat)
  /-- WARP_ENTER_ACTIVE (R288): A HELD port with ENABLE and a different peer package number enters ACTIVE. -/
  | warpEnterActive (p : Nat)
  /-- WARP_LEAVE_ACTIVE (R288): After ENABLE = 0, every forwarded request has its response, and the port returns to HELD. -/
  | warpLeaveActive (p : Nat)
  /-- WARP_FLIT_RECEIVE (R291): A warp flit arrives; a bad one is dropped with a NAK, and good ones are acknowledged and credited. -/
  | warpFlitReceive (p : Nat) (x : Flit)
  /-- WARP_NAK_RECEIVE (R291): A NAK makes the sender replay from the flit after ACKSEQ. -/
  | warpNakReceive (p : Nat) (ackseq : Nat)
  /-- WARP_RETRAIN (R292): After eight replays of one flit, or a RETRAIN write, the port retrains and then replays. -/
  | warpRetrain (p : Nat)
  /-- WARP_PORT_DOWN (R293): Three failed retrains take the port DOWN, and its buffered requests complete with DIE_LOST. -/
  | warpPortDown (p : Nat) (silent : Nat) (waiting : List Waiter)
  /-- WARP_LANE_RETIRE (R294): A lane is retired by threshold, training failure or LANE_RETIRE, and the port retrains without it. -/
  | warpLaneRetire (p : Nat) (l : Nat)
  /-- WARP_PORT_RETIRE (R295): A port is retired by too few lanes, a permanent DOWN or RETIRE. -/
  | warpPortRetire (p : Nat)
  /-- WP_ROUTE_WRITE (R297): A route-table write through XD0 updates every copy; the same write through another XD is refused. -/
  | wpRouteWrite (m : Master) (xd : Nat) (k : Nat) (v : W64)
  /-- FLOW_ROUTE_HOLD_END (R298): The older requests of a held flow have their responses, and its new flits are released. -/
  | flowRouteHoldEnd (pkg : Nat)
  /-- REMOTE_REQUEST_TIMEOUT (R300): A remote request waits TIMEOUT_US and completes with DIE_LOST. -/
  | remoteRequestTimeout (xd : Nat) (x : Waiter)
  /-- WARP_LANE_MARGIN_CHECK (R328): Each second a lane's corrected symbols are compared with 10⁻⁴, setting LOW. -/
  | warpLaneMarginCheck (p : Nat) (l : Nat) (syms : Nat) (received : Nat) (eyeH : Nat)
  /-- COLL_GROUP_LOAD (R302): A GROUP_LOAD descriptor loads a collective group slot and its check value. -/
  | collGroupLoad (m : Master) (v : W64)
  /-- COLL_BROADCAST (R307): A posted BROADCAST collective. -/
  | collBroadcast (m : Master) (v : W64)
  /-- COLL_ALLGATHER (R307): A posted ALLGATHER collective. -/
  | collAllgather (m : Master) (v : W64)
  /-- COLL_ALLTOALL (R307): A posted ALLTOALL collective. -/
  | collAlltoall (m : Master) (v : W64)
  /-- COLL_REDUCE_SCATTER (R304): A posted REDUCE_SCATTER with exact reduction. -/
  | collReduceScatter (m : Master) (v : W64)
  /-- COLL_ALLREDUCE (R305): A posted ALLREDUCE in two phases. -/
  | collAllreduce (m : Master) (v : W64)
  /-- COLL_BEGIN (R307): Every member has posted the same SEQ, so the collective is matched and starts, or fails with MISMATCH. -/
  | collBegin (g : Nat) (same : Bool)
  /-- COLL_COMPLETE (R308): The destination bytes are visible, so the collective completes and sets WP_COLL_STAT and its doorbell. -/
  | collComplete (g : Nat) (sent : List (List Byte))
  /-- COLL_MEMBER_LOST (R309): A member is unreachable or the timeout passes, so the collective fails with MEMBER_LOST. -/
  | collMemberLost (g : Nat)
  /-- SLACK_WINDOW_END (R311): A 10 µs slack window ends and MIN and AVG are reported. -/
  | slackWindowEnd (d : Nat) (k : Nat) (least : Nat) (mean : Nat) (stretches : Nat) (mv : Nat) (ma : Nat) (cyc : List (Nat × Nat))
  /-- AVS_CYCLE (R316): Every 100 µs the active warden raises twins below GUARD or FLOOR, and may start a probe. -/
  | avsCycle
  /-- AVS_PROBE_END (R317): A probe passes after 10 ms of good windows and lowers FLOOR, or fails and returns VID. -/
  | avsProbeEnd (d : Nat) (k : Nat)
  /-- PW_TWIN_AVS_WRITE (R320): A write of FLOOR, GUARD and ALARM, refused if any is outside its range. -/
  | pwTwinAvsWrite (m : Master) (d : Nat) (k : Nat) (v : W64) (same : Bool)
  /-- TIMEBASE_SERIAL_WORD (R322): Each 1 ms serial word is compared, and a differing counter slice is reloaded. -/
  | timebaseSerialWord (d : Nat) (differs : Bool)
  /-- CLOCK_TO_BACKUP (R324): The crystal fails or drifts, and the PLL changes to the backup oscillator. -/
  | clockToBackup
  /-- CLOCK_TO_CRYSTAL (R324): The crystal has run within 20 ppm for 1 s, and the PLL returns to it. -/
  | clockToCrystal
  /-- BACKUP_TRIM (R324): Once a second the backup oscillator is trimmed against the crystal. -/
  | backupTrim (trim : Int)
  /-- WD_TIME_ADJ_WRITE (R326): A write of the counter's rate slew, refused out of range. -/
  | wdTimeAdjWrite (m : Master) (v : W64)
  /-- WD_TIME_STEP_WRITE (R326): A forward step of the counter, applied at the next serial word. -/
  | wdTimeStepWrite (m : Master) (v : W64)
  /-- DIODE_CONVERSION (R330): A diode or delay-thermometer conversion updates TH_HS_TEMP and its FAULT bits. -/
  | diodeConversion (d : Nat) (k : Nat) (ta : Int) (tb : Int) (td : Int) (bad : Nat)
  /-- SOAK_END (R332): The soak settles or reaches 10 s, and the diode offsets and delay-thermometer points are set. -/
  | soakEnd
  /-- DIE_IDLE_BURST (R333): A die's power has stayed below 4 W for 200 ms, and its diode offsets are nudged. -/
  | dieIdleBurst (d : Nat)
  /-- TWIN_IDLE_BURST (R333): A twin has stayed idle for 2 ms, and delay-thermometer points are added. -/
  | twinIdleBurst (d : Nat) (k : Nat)
  /-- POWER_REFERENCE_CHECK (R336): Every 10 s the power references are compared. -/
  | powerReferenceCheck (a : Nat) (b : Nat)
  /-- METER_TRIM (R336): Once a second the twin and die meters are trimmed to P_IN. -/
  | meterTrim (losses : Nat)
  /-- HEAT_BALANCE (R337): Once a second the heat balance computes Q_HB and DEV, and sets or clears WARN and the trim. -/
  | heatBalance
  /-- CALIBRATION_WRITE (R340): A write of a calibration configuration register, refused out of range. -/
  | calibrationWrite (m : Master) (k : Nat) (v : W64)
  /-- ERROR_OCCURRENCE (R343): An occurrence reaches the active warden and is tallied; a permanent one takes its ACTION. -/
  | errorOccurrence (cls : Nat) (unit : Nat)
  /-- WD_FLT_THR_WRITE (R347): A threshold write, refused if it breaks the rules. -/
  | wdFltThrWrite (m : Master) (c : Nat) (v : W64)
  /-- FAULT_INJECT (R378): WD_FLT_INJECT GO under jumper presence injects one occurrence. -/
  | faultInject (m : Master) (v : W64)
  /-- RETIREMENT_LOG_CLEAR (R354): WD_RET_CLEAR under seal presence erases the retirement log. -/
  | retirementLogClear (m : Master) (v : W64)
  /-- EP_ENROL (R356): WD_EP_CMD ENROL enters a unit and writes its enrolment image. -/
  | epEnrol (m : Master) (v : W64)
  /-- EP_RELEASE (R359): WD_EP_CMD RELEASE releases a halted unit's enrolment. -/
  | epRelease (m : Master) (v : W64)
  /-- EP_FORCE_COMMIT (R362): WD_EP_CMD FORCE_COMMIT commits every quarry without images and clears ANCHORED. -/
  | epForceCommit (m : Master) (v : W64)
  /-- EP_ROLLBACK (R377): WD_EP_CMD ROLLBACK from the host starts a rollback, including one without the guarantee in HELD. -/
  | epRollback (m : Master) (v : W64)
  /-- EP_RESUME (R377): WD_EP_CMD RESUME in HELD releases the quarries and leaves the units halted. -/
  | epResume (m : Master) (v : W64)
  /-- EP_BAD_COMMAND (R372): A reserved or badly timed epoch command fails with BAD_COMMAND or BUSY. -/
  | epBadCommand (m : Master) (v : W64)
  /-- EP_GRP_CFG_WRITE (R363): A write of the epoch group list, failing with GROUP when units are enrolled or the list is wrong. -/
  | epGrpCfgWrite (m : Master) (v : W64)
  /-- EPOCH_COMMIT (R358): Every enrolled unit is READY, so COMMIT is sent to every quarry, or READY to the group leader. -/
  | epochCommit
  /-- EPOCH_COMMIT_POINT (R358): Every quarry has completed the commit, so CURRENT advances and the waiting EPOCH words retire. -/
  | epochCommitPoint
  /-- GROUP_READY_MESSAGE (R364): The leader receives READY and sends COMMIT once it holds every member's. -/
  | groupReadyMessage (pkg : Nat)
  /-- GROUP_COMMIT_MESSAGE (R364): A member receives COMMIT from the leader and commits its own epoch. -/
  | groupCommitMessage
  /-- GROUP_ABORT_MESSAGE (R364): The leader receives ABORT and sends ROLLBACK to every member. -/
  | groupAbortMessage (pkg : Nat)
  /-- GROUP_ROLLBACK_MESSAGE (R365): A member receives ROLLBACK from the leader and starts a rollback. -/
  | groupRollbackMessage
  /-- GROUP_MEMBER_TIMEOUT (R364): A member cannot be reached within the timeout, so the leader sends ROLLBACK. -/
  | groupMemberTimeout (pkg : Nat)
  /-- ROLLBACK_START (R365): A trigger starts a rollback: it is counted, and every member of every enrolled unit is stopped. -/
  | rollbackStart
  /-- ROLLBACK_STOP_DONE (R367): Every member is stopped, so the retirements are applied and the quarries are quiesced and rolled back. -/
  | rollbackStopDone
  /-- ROLLBACK_QUARRIES_DONE (R367): Every quarry has rolled back, so members are re-formed and restored, then quarries resumed and units run. -/
  | rollbackQuarriesDone
  /-- HEALTHY_WRITE (R382): A warden core writes its HEALTHY bit, which may end the forced state or give the role. -/
  | healthyWrite (m : Master) (w : Nat) (v : W64)
  /-- WARDEN_TAKEOVER (R383): The active warden's HEALTHY falls while the other is healthy, so the role passes. -/
  | wardenTakeover
  /-- HANDOVER (R384): WD_ROLE_CMD.HANDOVER passes the role when the peer is healthy and the mirror is current. -/
  | handover (m : Master) (v : W64)
  /-- MIRROR_COPY_DONE (R386): A restarted standby finishes its full copy, and MIRROR_OK becomes 1. -/
  | mirrorCopyDone
  /-- WATCHDOG_KICK (R387): A write to WD_WDOG_KICK; the right pair restarts the count, and a wrong value expires it. -/
  | watchdogKick (m : Master) (w : Nat) (v : W64)
  /-- WATCHDOG_EXPIRE (R388): A warden's watchdog expires, so HEALTHY clears, the warden enters WDR and one occurrence is counted. -/
  | watchdogExpire (w : Nat)
  /-- LEAK_UNLATCH (R391): UNLATCH under seal presence clears the leak latch and erases the leak record. -/
  | leakUnlatch (m : Master) (v : W64)
  /-- MB_OUT_WRITE (R393): A write to the outbound mailbox slot, refused while it is POSTED. -/
  | mbOutWrite (m : Master) (pair : Nat) (low : Bool) (off : Nat) (data : List Byte)
  /-- MB_POST (R393): MB_CMD POST posts the outbound message and sets MSG toward the receiver. -/
  | mbPost (m : Master) (pair : Nat) (low : Bool)
  /-- MB_WAIT (R395): MB_CMD WAIT arms a wait on the side's own posted message. -/
  | mbWait (m : Master) (pair : Nat) (low : Bool)
  /-- MB_POST_WAIT (R395): MB_CMD POST_WAIT posts the message and arms the wait at once. -/
  | mbPostWait (m : Master) (pair : Nat) (low : Bool)
  /-- MB_RESET_IN (R398): MB_CMD RESET_IN performs a receiver reset of the side. -/
  | mbResetIn (m : Master) (pair : Nat) (low : Bool)
  /-- MB_ACK (R394): The receiver acknowledges with a result, and DONE is set toward the sender. -/
  | mbAck (m : Master) (pair : Nat) (low : Bool) (x : W32)
  /-- MB_DB_OUT_WRITE (R396): A side sets software doorbell bits toward the other side, which may raise its interrupt. -/
  | mbDbOutWrite (m : Master) (pair : Nat) (low : Bool) (x : W32)
  /-- WD_DIE_PHASE_WRITE (R400): A host write of TEST or SERVICE, refused otherwise. -/
  | wdDiePhaseWrite (m : Master) (d : Nat) (v : W64)
  /-- LOCK_READ (R402): A read of a lock takes it if free and returns the owner. -/
  | lockRead (m : Master) (n : Nat)
  /-- LOCK_WRITE (R402): A write by the holder frees a lock; one from any other master is refused. -/
  | lockWrite (m : Master) (n : Nat)
  /-- LK_FORCE (R405): The active warden forces locks free. -/
  | lkForce (m : Master) (v : W64)
  /-- EVENT_RECORD (R407): An event occurrence reaches the recorder and is limited, suppressed, overflowed or appended. -/
  | eventRecord (code : Nat) (sev : Nat) (unit : Nat) (payload : Nat)
  /-- RECORDER_CLEAR (R409): EV_CTL.CLEAR under button presence empties both recorders. -/
  | recorderClear (m : Master) (v : W64)
  /-- EV_LIMIT_WRITE (R411): A rate-limit entry write, refused if it breaks the rules. -/
  | evLimitWrite (m : Master) (n : Nat) (v : W64)
  /-- PRESENCE_BUTTON (R413): A debounced PRESENCE_N assertion opens or restarts the 120 s button window. -/
  | presenceButton (rested : Bool)
  /-- BUTTON_WINDOW_END (R413): The button window's 120 s run out. -/
  | buttonWindowEnd
  /-- BUTTON_STUCK (R413): PRESENCE_N asserted beyond 10 s sets BTN_STUCK and closes the window. -/
  | buttonStuck
  /-- SEAL_LOOP_CHANGE (R414): The debounced seal loop enters OPEN, CLOSED or FAULT; OPEN blows a seal-counter bit. -/
  | sealLoopChange (reading : Nat)
  /-- FUSE_PROGRAM (R417): FS_FUSE_CMD PROGRAM blows field fuse bits under jumper presence. -/
  | fuseProgram (m : Master) (w : Nat) (v : W64)
  /-- FUSE_PROGRAM_DONE (R417): The field fuse word reads back DONE or PROGRAM_FAIL. -/
  | fuseProgramDone (w : Nat) (reads : W32)
  /-- POLICY_CYCLE (R428): Every 100 µs the warden forms trusted temperatures and the effective cap, then throttles, gates or raises twins. -/
  | policyCycle (r : Readings)
  /-- TH_ORDER_HOST_WRITE (R423): A host order write is combined with the rack order into the effective order. -/
  | thOrderHostWrite (m : Master) (v : W64)
  /-- DRAIN_TIMER_END (R425): A DRAIN timer ends and the package enters STANDBY. -/
  | drainTimerEnd
  /-- FLOW_LOSS_DETECT (R434): The 1 ms hardware check finds flow loss, so it clamps, sets the pumps to 100 % and opens the valves. -/
  | flowLossDetect (n : Nat) (x : Nat) (y : Nat)
  /-- FLOW_RESTORED (R435): Flow has held above RESUME_Q for 200 ms, so the clamp is released and the ramp cap starts. -/
  | flowRestored
  /-- RAMP_STEP (R435): Every 100 ms the ramp cap rises by SLEW_W until it meets the curve cap. -/
  | rampStep
  /-- PUMP_HOLD_END (R435): Ten seconds after restoration the pumps return to their loops. -/
  | pumpHoldEnd
  /-- FLOW_LOSS_SHUTDOWN (R436): Flow is not restored within RESUME_MS, or is lost again within 10 s, so the package enters STANDBY. -/
  | flowLossShutdown
  /-- LEAK_LOOP_SAMPLE (R455): At the end of each 50 ms excitation cycle a leak loop is classified. -/
  | leakLoopSample (k : Nat) (off : Nat) (r1 : Nat) (r2 : Nat)
  /-- LEAK_CONFIRM (R438): A loop has read non-DRY for LEAK_MS, so LATCH sets and the compute and quarry rails open. -/
  | leakConfirm (k : Nat)
  /-- LEAK_ACTUATOR_STOP (R438): Once the rails are off, or 5 ms after the latch, the masked pumps stop and the masked valves close. -/
  | leakActuatorStop
  /-- JUNCTION_TRIP (R440): Two of three hot-spot comparators exceed TJ_TRIP, so THERMTRIP_N asserts and every rail opens. -/
  | junctionTrip (d : Nat) (k : Nat)
  /-- OUTLET_TRIP (R440): An outlet input exceeds OUT_TRIP for 10 samples, and the package trips. -/
  | outletTrip (n : Nat)
  /-- TH_TENMAP_WRITE (R442): A tenancy map write, with entries refused for spindles that are running. -/
  | thTenmapWrite (m : Master) (d : Nat) (half : Nat) (v : W64)
  /-- TH_TEN_SHARE_WRITE (R443): A power share write, refused if the shares would sum above 1,000. -/
  | thTenShareWrite (m : Master) (t : Nat) (v : W64)
  /-- EMERG_IN (R446): EMERG_N held low by another node for 100 µs opens the rails and sets the emergency hold. -/
  | emergIn
  /-- EMERG_HOLD_CLEAR (R446): An order written after EMERG_N has read high for 1 s clears the emergency hold. -/
  | emergHoldClear
  /-- EMERG_DRIVE_END (R447): The 1 s drive of EMERG_N ends. -/
  | emergDriveEnd
  /-- CURVE_APPLY (R449): APPLY checks the staged curve and installs it at the next cycle boundary. -/
  | curveApply (m : Master) (v : W64)
  /-- POLICY_REGISTER_WRITE (R448): A write of a policy register, refused out of range; a lowered trip limit reaches the comparators. -/
  | policyRegisterWrite (m : Master) (off : Nat) (v : W64)
  /-- LOOP_SAMPLE (R457): A control loop samples at its boundary, applies swaps, modes and supervision, and computes its output. -/
  | loopSample (w : Nat) (k : Nat)
  /-- LOOP_SWAP (R461): CE_LOOP_CTL.SWAP requests a coefficient swap at the next boundary. -/
  | loopSwap (m : Master) (k : Nat) (v : W64)
  /-- LOOP_MODE_WRITE (R464): A write of loop MODE, taking effect at the next boundary. -/
  | loopModeWrite (m : Master) (k : Nat) (v : W64)
  /-- LOOP_CLR_FAULT (R467): A request to leave FAULT at the next boundary. -/
  | loopClrFault (m : Master) (k : Nat) (v : W64)
  /-- LOOP_SET_WRITE (R460): A coefficient set write, refused for the set in force. -/
  | loopSetWrite (m : Master) (k : Nat) (set : Nat) (part : Nat) (v : W64)
  /-- TSG_START (R469): Start a test signal on the attached loop, unless refused. -/
  | tsgStart (m : Master) (v : W64)
  /-- TSG_STOP (R469): Stop the test signal. -/
  | tsgStop (m : Master) (v : W64)
  /-- CAPTURE_START (R470): Start a capture into warden bank 2, unless refused. -/
  | captureStart (m : Master) (v : W64)
  /-- CAPTURE_STOP (R470): Stop the capture. -/
  | captureStop (m : Master) (v : W64)
  /-- SOLENOID_ON (R471): SV_CMD ON starts a profile in WAIT, or extends a running hold. -/
  | solenoidOn (m : Master) (c : Nat) (v : W64)
  /-- SOLENOID_OFF (R474): SV_CMD OFF cancels a waiting profile or turns the channel off. -/
  | solenoidOff (m : Master) (c : Nat) (v : W64)
  /-- SOLENOID_PEAK_START (R476): The partner has left PEAK and the boost is at least 58 V, so the waiting channel starts PEAK. -/
  | solenoidPeakStart (c : Nat)
  /-- SOLENOID_PEAK_REACHED (R472): The coil reaches PEAK_MA, and the time to peak is judged. -/
  | solenoidPeakReached (c : Nat) (us : Nat)
  /-- SOLENOID_TTP_TIMEOUT (R472): PEAK_MA is not reached by TTP_MAX_US, so the channel enters HOLD with TTP_SLOW. -/
  | solenoidTtpTimeout (c : Nat)
  /-- SOLENOID_DIP (R473): The armature dip is detected in the current. -/
  | solenoidDip (c : Nat) (us : Nat)
  /-- SOLENOID_PEAK_END (R471): PEAK_US ends, the dip window is judged, and the channel enters HOLD or retries. -/
  | solenoidPeakEnd (c : Nat)
  /-- SOLENOID_RETRY_WAIT_END (R473): The 50 ms retry wait ends and the profile runs again. -/
  | solenoidRetryWaitEnd (c : Nat)
  /-- SOLENOID_HOLD_END (R471): A TIMED hold ends and the channel turns off. -/
  | solenoidHoldEnd (c : Nat)
  /-- SOLENOID_RECOVER_END (R475): The coil current falls below 50 mA, or 5 ms pass, and RECOVER ends. -/
  | solenoidRecoverEnd (c : Nat) (late : Bool)
  /-- COIL_OVERCURRENT (R478): The coil current exceeds its limit, so SHORT sets and the channel turns off. -/
  | coilOvercurrent (c : Nat) (ma : Nat)
  /-- COIL_OPEN_LOAD (R478): The hold current stays below half HOLD_MA for 2 ms, and OPEN sets. -/
  | coilOpenLoad (c : Nat) (ma : Nat)
  /-- BOOST_WAIT_TIMEOUT (R477): A channel has waited 200 ms for the boost voltage, so LOW sets and peaks run from the supply. -/
  | boostWaitTimeout
  /-- BOOST_RECHARGED (R477): The boost capacitor reaches 65 V and LOW clears. -/
  | boostRecharged
  /-- TACH_SILENCE (R484): No tach pulse for TACH_TIME_MS; the current classifies it as a broken wire, a blocked rotor or no motor. -/
  | tachSilence (c : Nat) (ma : Nat)
  /-- FAN_SLOW (R483): Speed below TACH_MIN_RPM for TACH_TIME_MS sets SLOW. -/
  | fanSlow (c : Nat) (us : Nat)
  /-- SPINUP_ATTEMPT_END (R485): A spin-up attempt reaches speed or fails after SPIN_TIME_MS. -/
  | spinupAttemptEnd (c : Nat) (us : Nat) (ma : Nat)
  /-- SPINUP_PAUSE_END (R485): The 1 s pause after a failed attempt ends and the next retry starts. -/
  | spinupPauseEnd (c : Nat)
  /-- BLOCKED_RETRY (R485): RETRY_S passes, and a BLOCKED channel repeats its spin-up sequence. -/
  | blockedRetry (c : Nat)
  /-- CAN_FRAME_RECEIVE (R499): A data frame received without error is filtered and placed in a buffer, or discarded, or overruns. -/
  | canFrameReceive (w : Nat) (f : Frame)
  /-- RX_BUFFER_READ (R501): A read of a receive buffer's first word locks it; a read of its last word releases it. -/
  | rxBufferRead (m : Master) (w : Nat) (b : Nat) (off : Nat)
  /-- TX_REQUEST (R503): A transmit buffer's REQ makes it PENDING, or BAD. -/
  | txRequest (m : Master) (w : Nat) (b : Nat)
  /-- TX_ABORT (R506): A transmit buffer's ABORT removes it from the pending set. -/
  | txAbort (m : Master) (w : Nat) (b : Nat)
  /-- TX_ATTEMPT_START (R504): Before a start of frame, the controller chooses the pending buffer that would win arbitration. -/
  | txAttemptStart (w : Nat)
  /-- TX_ATTEMPT_END (R505): An attempt ends as SENT or as a failure, which may abandon the buffer, detect a collision or lead to bus-off. -/
  | txAttemptEnd (w : Nat) (e : TxEnd)
  /-- TX_LIFETIME_END (R506): A pending buffer's lifetime ends, and it becomes EXPIRED. -/
  | txLifetimeEnd (w : Nat) (b : Nat)
  /-- CAN_RECOVER (R509): RECOVER in BUS_OFF starts the recovery sequence. -/
  | canRecover (m : Master) (w : Nat)
  /-- BUS_OFF_AUTO_RECOVER (R511): 100 ms after entering BUS_OFF, or 10 s on the third entry in 10 s, the warden writes RECOVER. -/
  | busOffAutoRecover
  /-- BUS_OFF_RECOVERY_DONE (R509): Recovery sees 128 × 11 recessive bits, and the controller is ERROR_ACTIVE. -/
  | busOffRecoveryDone (w : Nat)
  /-- TB_MODE_WRITE (R489): A write of TB_CTL.MODE; NORMAL leads to integration, and OFF aborts the pending buffers. -/
  | tbModeWrite (m : Master) (w : Nat) (v : W64)
  /-- CAN_INTEGRATION_DONE (R497): Eleven recessive bits are seen, and the controller becomes ERROR_ACTIVE. -/
  | canIntegrationDone (w : Nat)
  /-- AUTORATE (R495): An auto-rate search starts in listen-only mode. -/
  | autorate (m : Master) (w : Nat)
  /-- AUTORATE_CANDIDATE_TIMEOUT (R495): 250 ms pass without a complete frame, and the search moves on. -/
  | autorateCandidateTimeout (w : Nat)
  /-- TB_TIMING_WRITE (R493): A write of TB_NOM or TB_DATA, refused if illegal or made while running. -/
  | tbTimingWrite (m : Master) (w : Nat) (phase : Bool) (v : W64)
  /-- POWER_ORDER (R516): An Orwilos POWER_ORDER is accepted and answered, rejected, or ignored. -/
  | powerOrder (b : Nat)
  /-- POWER_ORDER_EXPIRE (R517): The rack order's lifetime ends, so VALID clears and POWER_REPORT EXPIRED is sent. -/
  | powerOrderExpire
  /-- STATUS_REQUEST (R518): A STATUS_REQUEST from node 0 is answered with STATUS. -/
  | statusRequest (b : Nat)
  /-- STATUS_PERIODIC (R518): Every STAT_MS a STATUS message is queued. -/
  | statusPeriodic
  /-- EMERGENCY_RECEIVE (R521): A received EMERGENCY is recorded and changes nothing. -/
  | emergencyReceive (b : Nat)
  /-- EVENT_FORWARD (R519): A record at or above FWD_SEV is sent as EVENT when no EVENT is pending and the rate allows. -/
  | eventForward
  /-- PKG_RESET (R525): A PKG reset of every die, including both wardens. -/
  | pkgReset
  /-- WDR (R525): One warden restarts, loading its firmware and tables again. -/
  | wdr (w : Nat) (cause : Nat)
  /-- DIE_RESET (R528): A DIE reset of one compute, quarry or I/O die. -/
  | dieReset (d : Nat) (cause : Nat)
  /-- DIE_RESET_END (R528): The DIE reset ends, so the warden rewrites S and T fields, reapplies retirements and sets RECOVERY. -/
  | dieResetEnd (d : Nat)
  /-- SPN_RESET (R529): An SPN reset of a spindle, ending in HALTED at word 0. -/
  | spnReset (d : Nat) (ph : Nat) (done : Bool)
  /-- PORT_RESET (R525): A PORT reset of a host, warp or CXL port. -/
  | portReset (unit : Nat) (cause : Nat)
  /-- WD_RST_CMD (R526): WD_RST_CMD GO starts the reset its UNIT names, unless refused. -/
  | wdRstCmd (m : Master) (v : W64)
  /-- BRINGUP_STEP_COMPLETE (R541): A bring-up step's condition is met, so the next step starts, or the package enters RUN. -/
  | bringupStepComplete (slow : Nat) (failed : Nat)
  /-- FLOW_PROOF_LONG_WAIT (R542): Flow has not been proven after 60 s, which is recorded while the wait goes on. -/
  | flowProofLongWait
  /-- WD_DIE_PWR_WRITE (R536): A die power-state request, refused in some cases. -/
  | wdDiePwrWrite (m : Master) (d : Nat) (v : W64)
  /-- DIE_POWER_CHANGE_DONE (R536): A die reaches its requested power state. -/
  | diePowerChangeDone (d : Nat) (slow : Nat) (failed : Nat)
  /-- ORDERED_SHUTDOWN_START (R545): An ordered shutdown starts by gating issue in every spindle. -/
  | orderedShutdownStart
  /-- ORDERED_SHUTDOWN_STEP (R545): A shutdown step completes or reaches its bound, and the next step runs. -/
  | orderedShutdownStep
  /-- PWRFAIL_ASSERT (R547): PWRFAIL_N asserted for 5 µs starts an immediate shutdown and a power-fail save. -/
  | pwrfailAssert
  /-- POWER_FAIL_SAVE_DONE (R547): The save has been written to flash, and SAVE_OK sets. -/
  | powerFailSaveDone (good : Bool)
  /-- PWRFAIL_DEASSERT (R548): PWRFAIL_N withdraws with V_IN held above 40 V for 100 ms, so the save is erased and bring-up starts from I/O. -/
  | pwrfailDeassert
  /-- SAVE_AREA_ERASE_DONE (R549): The save area has been erased after a save was applied. -/
  | saveAreaEraseDone
  /-- FLASH_PROGRAM (R540): WD_FLASH_CMD PROGRAM checks the staged table and writes the copy not loaded. -/
  | flashProgram (m : Master) (v : W64)
  /-- FLASH_PROGRAM_DONE (R540): A flash program ends with its readback result. -/
  | flashProgramDone (good : Bool)
  /-- LEAK_RECORD_WRITE_DONE (R533): The leak record is written to flash within 50 ms of the latch. -/
  | leakRecordWriteDone
  /-- VSTBY_OUT_FOLDBACK (R553): VSTBY_OUT is overloaded and folds back to 50 mA. -/
  | vstbyOutFoldback
  /-- VSTBY_OUT_RECOVERED (R553): VSTBY_OUT has been back in regulation for 1 s. -/
  | vstbyOutRecovered
  /-- BSCAN_INSTRUCTION (R561): A boundary-scan instruction is loaded; instructions that drive balls are refused outside OFF. -/
  | bscanInstruction (drives : Bool)
  /-- POWER_ON_RESET (R525): VSTBY comes up with VIN at or above 36 V, which is a POR of everything, samples the straps and starts bring-up in the forced state. -/
  | powerOnReset (slots : Nat) (jumper : Bool) (pwrfail : Bool)
  /-- VSTBY_DOWN (R525): VIN falls below 36 V and VSTBY drops, so the wardens, the timebase and every remaining domain lose power and any save in progress is cut short. -/
  | vstbyDown
  /-- PERST_N_DEASSERT (R527): PCIE0_PERST_N or PCIE1_PERST_N deasserts, which releases the bring-up steps held after Cooling established or ends the PORT reset of host port 1. -/
  | perstNDeassert (port : Nat)
  /-- HOST_CONFIG_REQUEST (R543): A host port receives a configuration request and answers it with Configuration Request Retry Status until the step I/O, and serves it afterwards. -/
  | hostConfigRequest (port : Nat)
  /-- CAN_BUS_ERROR (R508): A bus error is detected on a received frame, which raises the receive error counter, can make the controller error passive and moves an auto-rate search to its next candidate. -/
  | canBusError (w : Nat) (e : BusError) (brs : Bool)
  /-- STACK_TEMPERATURE_READOUT (R445): Every 1 ms a quarry reads each HBM3E stack's temperature into QD_HBM.TEMP and halves or restores that stack's slots at 95 °C and 90 °C. -/
  | stackTemperatureReadout (d : Nat) (stack : Nat) (temp : Nat)
  /-- SOLENOID_DEFER_LIMIT (R476): A channel still in WAIT passes DEFER_MAX_US, so DEFER_LONG sets and EV 0x5403 is recorded while the peak stays deferred. -/
  | solenoidDeferLimit (c : Nat)
  deriving DecidableEq, Repr

end Sys2Proof
end

