-- ==== Sys2Proof/Decode.lean ====
section
/-! DEFINITION. The commands a word spells. No row of the table gives bits (opcode_table.json has no fields):
the commands come from the hosts, the wardens, the spindles and the package's own events, and the 256-bit word
of a Birzin command is its operand. -/

namespace Sys2Proof

/-- The command that a word of `nbits` bits spells by the table's bits: the table gives no row any. -/
def decodeTableWord (_nbits _w : Nat) : Option Instr := none

end Sys2Proof
end

