-- ==== Sys2Proof/Config.lean ====
section
/-! DEFINITION. What an implementation fixes and what the spec leaves open: constants without a body
(free values), so that no proof can rest on a value of them. Where a fresh value is drawn at each
use, the first argument is the state's counter `State.free`. -/

namespace Sys2Proof.Config

/-- A fresh 64-bit value where the spec leaves a value open. -/
opaque freeWord : Nat → W64

/-- A fresh byte where the spec leaves the content of a byte open (R275, R308, Table LNK-21). -/
opaque freeByte : Nat → Nat → Byte

/-- A fresh choice where the spec leaves a choice open (R169, R182, R306). -/
opaque freeChoice : Nat → Nat

/-- The distance, taken modulo 5 and less 2, of a function's FP32 result from the correctly rounded
one (R125: within 2 units in the last place, the same on every spindle): by operation and operand
code. -/
opaque ulpOffset : Nat → Nat → Nat

/-- A function's FP32 result where the spec states no value for the operand (GELU of −∞). -/
opaque openResult : Nat → Nat → BitVec 32

/-- The content of a partial mortar lane held by a member in another package: value and flags. -/
opaque remoteLane : Nat → Nat → BitVec 640 × BitVec 5

/-- What the sequencer of another package answers to a claim (R182, R184), by the command's key and the spindle named. -/
opaque remoteGrant : Nat → Nat → Nat → Nat

/-- Member `j` of a ply whose member 0 is in another package (R184): package and spindle, by the same key. -/
opaque remoteMember : Nat → Nat → Nat → Nat → Nat × Nat

/-- WINDOW of such a ply, less 16, modulo 1,009 (R173). -/
opaque remoteWindow : Nat → Nat → Nat → Nat

/-- The registers a flash table's body stands for (the spec gives no layout of a body): table ID and
body bytes to pairs of a register store key and a value. -/
opaque flashImage : Nat → List Byte → List (Nat × W64)

/-- A quantity of one real measurement or sample the spec names and gives no value of: block, index
and time. -/
opaque measured : Nat → Nat → Nat → Nat

/-- MESH_STAT.DETOUR of a die while something of the mesh is retired: which routes the active warden wrote
is open (R19). -/
opaque detour : List Nat → Nat → Nat → Nat

/-- sin φ(n) of the generator's sweep in Q8.40 (R468; the spec states no rounding of it), n above 0: by F0, F1, LEN, PERIOD
and n. -/
opaque sweepSine : Nat → Nat → Nat → Nat → Nat → Int

end Sys2Proof.Config
end

