-- ==== Sys2Proof/Machine/Num.lean ====
section
/-! DEFINITION. Number formats, exact values, rounding and conversion (chapter 04): every element is
read as the exact value its class defines (R127), every result is the exact real value rounded once
(R130, R139 to R142). -/

namespace Sys2Proof.Machine

/-! ## Formats -/

/-- An element format (Table FMT-1, Table FMT-2). `expw = 0` is a scaled integer; `slot` is the
storage of one element in half-bytes (R102); `isInt` marks INT8 and INT4, which read a scalar in GS
as an integer (R125). -/
structure Fmt where
  width : Nat
  expw : Nat
  bias : Int
  signed : Bool
  special : Nat
  sat : Bool
  denorm : Bool
  block : Nat
  slot : Nat
  isInt : Bool
  deriving DecidableEq, Repr

/-- FP32: IEEE 754 binary32. -/
def fmtFP32 : Fmt := ⟨32, 8, 127, true, 2, false, true, 0, 8, false⟩
/-- FP16: IEEE 754 binary16. -/
def fmtFP16 : Fmt := ⟨16, 5, 15, true, 2, false, true, 0, 4, false⟩
/-- BF16: the high half of a binary32. -/
def fmtBF16 : Fmt := ⟨16, 8, 127, true, 2, false, true, 0, 4, false⟩
/-- INT8, two's complement. -/
def fmtINT8 : Fmt := ⟨8, 0, 0, true, 0, false, false, 0, 2, true⟩
/-- INT4, two's complement. -/
def fmtINT4 : Fmt := ⟨4, 0, 0, true, 0, false, false, 0, 1, true⟩

/-- Mantissa bits of a format (R133). -/
def Fmt.mant (f : Fmt) : Nat := f.width - (if f.signed then 1 else 0) - f.expw

/-- The format an entry of the format table holds (Table FMT-2, R133). -/
def fmtOfEntry (e : W128) : Fmt :=
  let w := bitsOf e 3 0
  ⟨w, bitsOf e 7 4, signedOf 8 (bitsOf e 15 8), bitOf e 20, bitsOf e 19 16, bitOf e 21, bitOf e 22,
    bitsOf e 39 32, if w = 4 then 1 else 2, false⟩

/-! ## Exact values -/

/-- The exact value an element, a product or a sum stands for: not a number, an infinity, or a
rational of a sign, so that a zero keeps its sign. -/
inductive FV where
  | nan
  | inf (neg : Bool)
  | fin (neg : Bool) (num den : Nat)
  deriving DecidableEq, Repr

/-- `n * 2 ^ e` of a sign. -/
def FV.scaled (neg : Bool) (n : Nat) (e : Int) : FV :=
  if 0 ≤ e then .fin neg (n * 2 ^ e.toNat) 1 else .fin neg n (2 ^ (-e).toNat)

/-- The value of an integer. -/
def FV.ofInt (i : Int) : FV := .fin (decide (i < 0)) i.natAbs 1

/-- The value is a zero of either sign. -/
def FV.isZero : FV → Bool
  | .fin _ n _ => n == 0
  | _ => false

/-- The value is not a number. -/
def FV.isNan : FV → Bool
  | .nan => true
  | _ => false

/-- The value is neither an infinity nor a NaN. -/
def FV.isFin : FV → Bool
  | .fin _ _ _ => true
  | _ => false

/-- The sign of a value. -/
def FV.sign : FV → Bool
  | .nan => false
  | .inf n => n
  | .fin n _ _ => n

/-- The numerator with its sign. -/
def signedNum (neg : Bool) (n : Nat) : Int := if neg then -(n : Int) else n

/-- The magnitude. -/
def FV.abs : FV → FV
  | .nan => .nan
  | .inf _ => .inf false
  | .fin _ n d => .fin false n d

/-- The negation. -/
def FV.neg : FV → FV
  | .nan => .nan
  | .inf s => .inf (!s)
  | .fin s n d => .fin (!s) n d

/-- The exact value of a code of a format (R128, R133, Table FMT-3). -/
def decodeVal (f : Fmt) (code : Nat) : FV :=
  if f.expw = 0 then
    let i : Int := if f.signed then signedOf f.width code else (code % 2 ^ f.width : Nat)
    FV.scaled (decide (i < 0)) i.natAbs (-f.bias)
  else
    let M := f.mant
    let s := f.signed && code.testBit (f.width - 1)
    let x := (code >>> M) % 2 ^ f.expw
    let m := code % 2 ^ M
    let top := 2 ^ f.expw - 1
    if f.special = 1 ∧ x = top ∧ m = 2 ^ M - 1 then .nan
    else if f.special = 2 ∧ x = top then (if m = 0 then .inf s else .nan)
    else if f.special = 3 ∧ s = true ∧ x = 0 ∧ m = 0 then .nan
    else if x ≠ 0 then FV.scaled s (2 ^ M + m) ((x : Int) - f.bias - M)
    else if f.denorm then FV.scaled s m (1 - f.bias - M)
    else .fin s 0 1

/-! ## Rounding -/

/-- The rounding modes of R139. -/
inductive RMode where
  | nearest | zero | up | down | stochastic
  deriving DecidableEq, Repr

/-- The 24-bit draw of seeded stochastic rounding at coordinates `(r, e)` (R141). -/
def stochDraw (seed : W64) (r e : Nat) : Nat :=
  let x0 := seed + BitVec.ofNat 64 (r * 65536 + e + 1) * 0x9E3779B97F4A7C15#64
  let x1 := (x0 ^^^ (x0 >>> 30)) * 0xBF58476D1CE4E5B9#64
  let x2 := (x1 ^^^ (x1 >>> 27)) * 0x94D049BB133111EB#64
  let x3 := x2 ^^^ (x2 >>> 31)
  (x3 >>> 40).toNat

/-- The rounding in force: a mode and, for the stochastic mode, the draw at the result's
coordinates. -/
structure Rnd where
  mode : RMode
  draw : Nat
  deriving DecidableEq, Repr

/-- Whether the magnitude `k + rem / den` (in units of the last place, `odd` the lowest bit of the
encoding of `k`) rounds to `k + 1` (R139, R141). -/
def roundsAway (rd : Rnd) (neg odd : Bool) (rem den : Nat) : Bool :=
  if rem = 0 then false
  else match rd.mode with
    | .nearest => decide (den < 2 * rem) || (decide (2 * rem = den) && odd)
    | .zero => false
    | .up => !neg
    | .down => neg
    | .stochastic =>
      if neg then !decide (rd.draw < (den - rem) * 2 ^ 24 / den)
      else decide (rd.draw < rem * 2 ^ 24 / den)

/-- The floor of the base-2 logarithm of `n / d`, both not zero. -/
def floorLog2 (n d : Nat) : Int :=
  let k : Int := (Nat.log2 n : Int) - Nat.log2 d
  let ge : Bool := if 0 ≤ k then decide (d * 2 ^ k.toNat ≤ n) else decide (d ≤ n * 2 ^ (-k).toNat)
  if ge then k else k - 1

/-- The largest finite code of a floating format, without its sign (Table FMT-3). -/
def Fmt.maxCode (f : Fmt) : Nat :=
  if f.special = 2 then (2 ^ f.expw - 1) * 2 ^ f.mant - 1
  else if f.special = 1 then 2 ^ (f.expw + f.mant) - 2
  else 2 ^ (f.expw + f.mant) - 1

/-- The greatest integer of an integer format. -/
def Fmt.maxInt (f : Fmt) : Int := if f.signed then 2 ^ (f.width - 1) - 1 else 2 ^ f.width - 1

/-- The least integer of an integer format. -/
def Fmt.minInt (f : Fmt) : Int := if f.signed then -(2 ^ (f.width - 1)) else 0

/-- The code of a magnitude code with a sign: an unsigned format and NEGZERO_NAN hold no negative
zero, an unsigned format no negative value (R140). -/
def signCode (f : Fmt) (neg : Bool) (c : Nat) : Nat :=
  if neg then
    (if f.signed then (if c = 0 ∧ f.special = 3 then 0 else c + 2 ^ (f.width - 1)) else 0)
  else c

/-- A finite value rounded into a floating format (R139, R140, Table FMT-7). -/
def roundFloat (f : Fmt) (rd : Rnd) (neg : Bool) (num den : Nat) : Nat :=
  if num = 0 then signCode f neg 0
  else if neg ∧ f.signed = false then 0
  else
    let M := f.mant
    let emin : Int := 1 - f.bias
    let e := floorLog2 num den
    let q : Int := (if emin ≤ e then e else emin) - M
    let (n', d') := if 0 ≤ q then (num, den * 2 ^ q.toNat) else (num * 2 ^ (-q).toNat, den)
    let k := n' / d'
    let rem := n' % d'
    let lo := (if emin ≤ e then (e - emin).toNat * 2 ^ M else 0) + k
    let c := if roundsAway rd neg (lo % 2 = 1) rem d' then lo + 1 else lo
    let beyond : Bool := decide (f.maxCode < lo) || (decide (lo = f.maxCode) && decide (rem ≠ 0))
    let c1 :=
      if beyond then
        if f.special = 2 ∧ f.sat = false then
          match rd.mode with
          | .nearest => if f.maxCode < c then f.maxCode + 1 else f.maxCode
          | .zero => f.maxCode
          | .up => if neg then f.maxCode else f.maxCode + 1
          | .down => if neg then f.maxCode + 1 else f.maxCode
          | .stochastic => f.maxCode + 1
        else f.maxCode
      else c
    let c2 := if f.denorm = false ∧ c1 < 2 ^ M then 0 else c1
    signCode f neg c2

/-- A finite value rounded into an integer format, saturating (R139, Table FMT-7). -/
def roundInt (f : Fmt) (rd : Rnd) (neg : Bool) (num den : Nat) : Nat :=
  let (n', d') := if 0 ≤ f.bias then (num * 2 ^ f.bias.toNat, den) else (num, den * 2 ^ (-f.bias).toNat)
  let k := n' / d'
  let m : Nat := if roundsAway rd neg (k % 2 = 1) (n' % d') d' then k + 1 else k
  let i := signedNum neg m
  let j := if f.maxInt < i then f.maxInt else if i < f.minInt then f.minInt else i
  ofSigned f.width j

/-- The code of an exact value in a format under the rounding in force (Table FMT-7). -/
def encodeVal (f : Fmt) (rd : Rnd) (v : FV) : Nat :=
  if f.expw = 0 then
    match v with
    | .nan => 0
    | .inf neg => ofSigned f.width (if neg then f.minInt else f.maxInt)
    | .fin neg n d => roundInt f rd neg n d
  else
    match v with
    | .nan =>
      if f.special = 2 then (2 ^ f.expw - 1) * 2 ^ f.mant + 2 ^ (f.mant - 1)
      else if f.special = 1 then 2 ^ (f.expw + f.mant) - 1
      else if f.special = 3 then 2 ^ (f.width - 1)
      else 0
    | .inf neg =>
      if neg ∧ f.signed = false then 0
      else if f.special = 2 then signCode f neg (f.maxCode + 1)
      else signCode f neg f.maxCode
    | .fin neg n d => roundFloat f rd neg n d

/-- The greatest finite value's code of a format, for a read-out that overflowed upward
(Table FMT-11). -/
def greatestCode (f : Fmt) : Nat := if f.expw = 0 then ofSigned f.width f.maxInt else f.maxCode

/-- The least finite value's code of a format (Table FMT-11). -/
def leastCode (f : Fmt) : Nat :=
  if f.expw = 0 then ofSigned f.width f.minInt
  else if f.signed then f.maxCode + 2 ^ (f.width - 1) else 0

/-! ## Exact arithmetic with the special cases of IEEE 754 (R130) -/

/-- The exact sum; a zero sum of unlike signs is +0, or −0 toward −∞. -/
def FV.add (m : RMode) : FV → FV → FV
  | .nan, _ => .nan
  | _, .nan => .nan
  | .inf a, .inf b => if a = b then .inf a else .nan
  | .inf a, .fin _ _ _ => .inf a
  | .fin _ _ _, .inf b => .inf b
  | .fin s n d, .fin t k e =>
    let x := signedNum s (n * e) + signedNum t (k * d)
    if x = 0 then
      .fin (if s = t then s else decide (m = .down)) 0 1
    else .fin (decide (x < 0)) x.natAbs (d * e)

/-- The exact product. -/
def FV.mul : FV → FV → FV
  | .nan, _ => .nan
  | _, .nan => .nan
  | .inf a, .inf b => .inf (a != b)
  | .inf a, .fin t k _ => if k = 0 then .nan else .inf (a != t)
  | .fin s n _, .inf b => if n = 0 then .nan else .inf (s != b)
  | .fin s n d, .fin t k e => .fin (s != t) (n * k) (d * e)

/-- The exact quotient by a value that is not a zero (a zero divisor raises DIV_ZERO). -/
def FV.div : FV → FV → FV
  | .nan, _ => .nan
  | _, .nan => .nan
  | .inf _, .inf _ => .nan
  | .inf a, .fin t _ _ => .inf (a != t)
  | .fin s _ _, .inf b => .fin (s != b) 0 1
  | .fin s n d, .fin t k e => if k = 0 then .nan else .fin (s != t) (n * e) (d * k)

/-- `a < b` for values that are not NaN, with −0 less than +0 where `zeroSigned`. -/
def FV.lt (zeroSigned : Bool) : FV → FV → Bool
  | .nan, _ => false
  | _, .nan => false
  | .inf a, .inf b => a && !b
  | .inf a, .fin _ _ _ => a
  | .fin _ _ _, .inf b => !b
  | .fin s n d, .fin t k e =>
    if n = 0 ∧ k = 0 then zeroSigned && s && !t
    else decide (signedNum s (n * e) < signedNum t (k * d))

/-- Equality of values, the two zeros being equal; false on a NaN. -/
def FV.eqv (a b : FV) : Bool := !a.isNan && !b.isNan && !FV.lt false a b && !FV.lt false b a

/-- The minimum; NaN when either operand is NaN (R130). -/
def FV.min (a b : FV) : FV := if a.isNan || b.isNan then .nan else if FV.lt true b a then b else a

/-- The maximum; NaN when either operand is NaN (R130). -/
def FV.max (a b : FV) : FV := if a.isNan || b.isNan then .nan else if FV.lt true a b then b else a

/-- The value times a power of two. -/
def FV.scale2 (i : Int) : FV → FV
  | .nan => .nan
  | .inf a => .inf a
  | .fin s n d => if 0 ≤ i then .fin s (n * 2 ^ i.toNat) d else .fin s n (d * 2 ^ (-i).toNat)

/-- The square root as a rational exact enough for every rounding of R139: the root itself where it
is rational in 2^-300, else the midpoint of the two neighbours in 2^-300 (R125). -/
def FV.sqrt : FV → FV
  | .nan => .nan
  | .inf a => if a then .nan else .inf false
  | .fin s n d =>
    if n = 0 then .fin s 0 1
    else if s then .nan
    else
      let x := n * d * 2 ^ 600
      let r := Nat.sqrt x
      if r * r = x then .fin false r (d * 2 ^ 300) else .fin false (2 * r + 1) (d * 2 ^ 301)

end Sys2Proof.Machine
end

