-- ==== Sys2Proof/Machine/SMap.lean ====
section
/-! DEFINITION. Sparse maps from numbers: a list of key and value pairs in one canonical form, keys
strictly rising and no entry equal to what an unlisted key reads as. Every register file, memory and
table of the state is one of these, so that equal contents are equal data. -/

namespace Sys2Proof.Machine

/-- A sparse map; what an unlisted key reads as is named where the map is read. -/
abbrev SMap (α : Type) := List (Nat × α)

/-- The value at key `a`, `d` where `a` is not listed. -/
def sget {α : Type} (d : α) : SMap α → Nat → α
  | [], _ => d
  | (k, v) :: m, a => if k = a then v else sget d m a

/-- Put an entry before the first entry of a greater key. -/
def sins {α : Type} (a : Nat) (v : α) : SMap α → SMap α
  | [] => [(a, v)]
  | (k, w) :: m => if a < k then (a, v) :: (k, w) :: m else (k, w) :: sins a v m

/-- Drop every entry of key `a`. -/
def sdel {α : Type} (a : Nat) : SMap α → SMap α
  | [] => []
  | (k, w) :: m => if k = a then sdel a m else (k, w) :: sdel a m

/-- Write `v` at key `a`; a value equal to `d` is not listed. -/
def sset {α : Type} [DecidableEq α] (d : α) (m : SMap α) (a : Nat) (v : α) : SMap α :=
  if v = d then sdel a m else sins a v (sdel a m)

/-- The keys rise strictly from a lower bound on, and no entry equals `d`. -/
def swfFrom {α : Type} [DecidableEq α] (d : α) : Nat → SMap α → Bool
  | _, [] => true
  | b, (k, v) :: m => decide (b ≤ k) && !decide (v = d) && swfFrom d (k + 1) m

/-- The canonical form. -/
def swf {α : Type} [DecidableEq α] (d : α) (m : SMap α) : Bool := swfFrom d 0 m

/-- Write a list of values at consecutive keys. -/
def ssetList {α : Type} [DecidableEq α] (d : α) (m : SMap α) (a : Nat) : List α → SMap α
  | [] => m
  | v :: vs => ssetList d (sset d m a v) (a + 1) vs

/-- Read `n` values at consecutive keys. -/
def sgetList {α : Type} (d : α) (m : SMap α) (a n : Nat) : List α :=
  (List.range n).map fun k => sget d m (a + k)

end Sys2Proof.Machine
end

