-- ==== Sys2Proof/Machine/RegNames.lean ====
section
/-! DEFINITION. The names of the block's registers (R7): one constructor per register of the
spec's register tables. A register of more than 64 bits is named by its 64-bit words, word 0 the
lowest. Where a register exists once per die, spindle slot, twin, port, loop and so on, the die and
the index stand beside the name (`State.reg`). -/

namespace Sys2Proof.Machine

/-- The register names. -/
inductive Reg where
  | PW_TWIN_CTL | PW_TWIN_MEAS | PW_TWIN_ENERGY | PW_TWIN_SLACK | PW_TWIN_AVS | PW_DIE_ISO
  | PW_IN_MEAS | PW_RAIL_CAP | PW_CONV_OK | DIE_ID | MESH_STAT | MESH_FLITS | DIE_SLACK | SPN_CTL
  | SPN_STAT | SPN_PC | SPN_VEC | SPN_EXC_CAUSE | SPN_EXC_PC | SPN_EXC_INFO | SPN_DB_PEND
  | SPN_DB_SET | SPN_DB_MASK | SPN_IRQ | SPN_IRQ_EN | SPN_TIMER_CMP | SPN_SPOOL | SPN_RETIRED
  | SPN_CYCLES | SPN_IDLE | SPN_MAP | SPN_ASYNC_ADDR | PLY_CMD | PLY_CMD_ADDR | PLY_CMD_STAT
  | PLY_CMD_ID | PLY_RESERVE | PLY_ENTRY | PLY_ENTRY_CFG | PLY_ENTRY_STAT | PLY_ENTRY_WAIT
  | QD_CFG | QD_CARVE | QD_OPEN_TOP | QD_HBM | QD_RGN_STAGE0 | QD_RGN_STAGE1 | QD_RGN_STAGE2
  | QD_RGN_STAGE3 | QD_RGN_CMD | QD_RGN_STAT | QD_RGN0 | QD_RGN1 | QD_RGN2 | QD_RGN3 | QD_RGN_INFO
  | QD_MIR0 | QD_MIR1 | QD_MIR2 | QD_MIR3 | QD_MIR_INFO | QD_SKEIN_STAT | QD_SKEIN_EPOCH
  | QD_SKEIN_CMD | QD_SKEIN_WM | QD_SKEIN_WM_TGT | QD_TEN | QD_PC | QD_ENG_SLOTS | QD_ENG_HELD
  | QD_ENG_SKEIN_NS | QD_ENG_NONFINITE | QD_ENG_DEGRADED | QD_PHY | CD_BNK_PWR | CD_BNK_STAT
  | CD_BNK_STARVE | CD_BNK_MAXWAIT | CD_BNK_PIN | CD_MTEST_CTL | CD_MTEST_STAT | CD_MTEST_FAULT
  | WD_BNK_PWR | WD_BNK_STAT | WD_BNK_STARVE | WD_BNK_MAXWAIT | WD_BNK_PIN | WD_MTEST_CTL
  | WD_MTEST_STAT | WD_MTEST_FAULT | FS_COLREP_TGT | FS_COLREP_CMD | FS_COLREP_STAT | HI_BAR2_BASE
  | HI_PKG_NUM | HI_LINK_STAT | HI_DMA_BASE | HI_DMA_CTL | HI_DMA_HEAD | HI_DMA_TAIL | HI_MSIX_LO
  | HI_MSIX_HI | HI_MSIX_PBA | CX_PORT_CTL | CX_PORT_STAT | CX_PORT_SN | WP_PORT_CTL
  | WP_PORT_STAT | WP_PORT_ERR | WP_PORT_FEC | WP_LANE | WP_ROUTE | WP_GCFG | WP_COLL_POST
  | WP_COLL_STAT | WP_COLL_GRP | WD_TIME_NS | WD_TIME_ADJ | WD_TIME_STEP | WD_TIME_STAT
  | TH_HS_TEMP | TH_HS_CAL | TH_COOL_T | TH_DT | TH_FLOW | TH_HB_STAT | TH_HB_TRIM | TH_CAL_FLUID
  | TH_CAL_HB | TH_CAL_TRIM | TH_CAL_DIE | WD_FLT_THR | WD_FLT_QUERY | WD_FLT_TALLY
  | WD_FLT_INJECT | WD_RET_STAT | WD_RET_CLEAR | WD_EP_CMD | WD_EP_ARG | WD_EP_STAT | WD_EP_EPOCH
  | WD_EP_GRP_CFG | WD_EP_WAIT | WD_EP_ENT0 | WD_EP_ENT1 | WD_ROLE | WD_ROLE_CMD | WD_WDOG_KICK
  | WD_WDOG_STAT | WD_FORCE_LEAK | WD_DIE_PHASE | LK_LOCK | LK_HELD | LK_FORCE | EV_STAT | EV_CTL
  | EV_LIMIT0 | EV_LIMIT1 | FS_PRES | FS_SEAL_CNT | WD_LED | FS_FUSE_PGM | FS_FUSE_CMD
  | FS_FUSE_STAT | FS_FUSE_BANK | TH_TWIN | TH_STAT | TH_CAP | TH_FLOW_USED | TH_IN_USED
  | TH_ORDER_HOST | TH_ORDER_RACK | TH_ORDER_EFF | TH_SOFT | TH_HARD_T | TH_HARD_FLOW
  | TH_HARD_LEAK | TH_HARD_EMERG | TH_CURVE | TH_CURVE_STG | TH_CURVE_CMD | TH_LEAK | TH_TEN
  | TH_TENMAP0 | TH_TENMAP1 | CE_TSG_CFG | CE_TSG_TIME | CE_TSG_FREQ | CE_TSG_CMD | CE_TSG_STAT
  | CE_CAP_CFG | CE_CAP_CMD | CE_CAP_STAT | CE_LOOP_CFG | CE_LOOP_SAFE | CE_LOOP_SUP | CE_LOOP_FS
  | CE_LOOP_SP | CE_LOOP_MAN | CE_LOOP_CTL | CE_LOOP_STAT | CE_LOOP_OUT | CE_LOOP_I | CE_LOOP_SET0
  | CE_LOOP_SET1 | CE_LOOP_SET2 | CE_LOOP_SET3 | CE_FLOW_CFG | CE_AIN_CFG | CE_LEAK_CFG
  | CE_AIN_VAL | CE_FLOW_VAL | SV_PROF0 | SV_PROF1 | SV_PROF2 | SV_CFG | SV_CMD | SV_STAT
  | SV_FAULT | SV_MEAS | SV_BOOST | FP_CFG | FP_SUP | FP_ISUP | FP_FIXED | FP_STAT | FP_ZONE_SRC
  | FP_ZONE_PT | TB_CTL | TB_STAT | TB_NOM | TB_DATA | TB_CFG | TB_AUTO | TB_ERRCNT | TB_FWD
  | TB_ORW_STAT | TB_FILT_ID | TB_FILT_MASK | TB_FILT_BUF | TB_FILT_HITS | TB_TXB_ID | TB_TXB_CTRL
  | TB_TXB_CMD | TB_TXB_DATA | TB_RXB_ID | TB_RXB_CTRL | TB_RXB_TS | TB_RXB_DATA | WD_RST_CMD
  | WD_RST_STAT | WD_PKG_STAT | WD_DIE_PWR | WD_FLASH_CMD | WD_FLASH_STAT | WD_FLASH_TBL
  deriving DecidableEq, Repr

/-- The access codes of Table SC-4. -/
inductive Acc where
  | rw | ro | wo | w1c | w1s | rc | rl | wp
  deriving DecidableEq, Repr

/-- The reset notes of Table SC-5; `plain` is a register without a letter. -/
inductive Cls where
  | F | S | T | E | Q | P | X | plain
  deriving DecidableEq, Repr

/-- The presence level a WP field needs (R412); `byTable` is the level Table RST-5 gives for the
table a flash command names. -/
inductive Presence where
  | none | button | seal | jumper | byTable
  deriving DecidableEq, Repr

/-- One field of a register: bits `hi` to `lo`, its access code, the value after POR, its reset note
and the presence a WP field needs. Bits of a register that no field holds are reserved (R9). -/
structure FieldDesc where
  hi : Nat
  lo : Nat
  acc : Acc
  reset : Nat
  cls : Cls
  pres : Presence := .none
  deriving DecidableEq, Repr

/-- Where a register is seen in a control window (R39): on the dies `dLo` to `dHi`, at window offset
`base + i1 * s1 + i2 * s2` for `i1 < n1` and `i2 < n2`; the instance index is `i1 * n2 + i2`.
`shared` marks a block that exists once and is shown in every window of the range. -/
structure Place where
  dLo : Nat
  dHi : Nat
  base : Nat
  s1 : Nat
  n1 : Nat
  s2 : Nat
  n2 : Nat
  shared : Bool
  deriving DecidableEq, Repr

/-- A register's description: its width in bits (32 or 64, R8), its place and its fields. -/
structure RegDesc where
  width : Nat
  place : Place
  fields : List FieldDesc
  deriving DecidableEq, Repr

/-- A field named by its register and bits, as the spec writes REG.FIELD (R7). -/
structure RField where
  reg : Reg
  hi : Nat
  lo : Nat
  deriving DecidableEq, Repr

/-- The name's number, which keys the register store. -/
def regId (r : Reg) : Nat := r.ctorIdx

end Sys2Proof.Machine
end

