-- ==== Sys2Proof/Machine/RegFields.lean ====
section
/-! DEFINITION. The fields of the registers by the spec's names: REG.FIELD of the spec is `fREG_FIELD`. -/

namespace Sys2Proof.Machine

abbrev fPW_TWIN_CTL_VID_ACT : RField := ⟨.PW_TWIN_CTL, 23, 16⟩
abbrev fPW_TWIN_CTL_VID : RField := ⟨.PW_TWIN_CTL, 15, 8⟩
abbrev fPW_TWIN_CTL_STATE : RField := ⟨.PW_TWIN_CTL, 5, 4⟩
abbrev fPW_TWIN_CTL_ILIM : RField := ⟨.PW_TWIN_CTL, 3, 3⟩
abbrev fPW_TWIN_CTL_RETIRED : RField := ⟨.PW_TWIN_CTL, 2, 2⟩
abbrev fPW_TWIN_MEAS_SEQ : RField := ⟨.PW_TWIN_MEAS, 63, 48⟩
abbrev fPW_TWIN_MEAS_V_MEAS : RField := ⟨.PW_TWIN_MEAS, 47, 32⟩
abbrev fPW_TWIN_MEAS_I_MEAS : RField := ⟨.PW_TWIN_MEAS, 15, 0⟩
abbrev fPW_TWIN_ENERGY_UJ : RField := ⟨.PW_TWIN_ENERGY, 63, 0⟩
abbrev fPW_TWIN_SLACK_STRETCH : RField := ⟨.PW_TWIN_SLACK, 63, 48⟩
abbrev fPW_TWIN_SLACK_RAISES : RField := ⟨.PW_TWIN_SLACK, 47, 40⟩
abbrev fPW_TWIN_SLACK_MIN : RField := ⟨.PW_TWIN_SLACK, 15, 8⟩
abbrev fPW_TWIN_SLACK_AVG : RField := ⟨.PW_TWIN_SLACK, 7, 0⟩
abbrev fPW_TWIN_AVS_FLOOR : RField := ⟨.PW_TWIN_AVS, 23, 16⟩
abbrev fPW_TWIN_AVS_GUARD : RField := ⟨.PW_TWIN_AVS, 15, 8⟩
abbrev fPW_TWIN_AVS_ALARM : RField := ⟨.PW_TWIN_AVS, 7, 0⟩
abbrev fPW_DIE_ISO_LAST_CAUSE : RField := ⟨.PW_DIE_ISO, 15, 8⟩
abbrev fPW_DIE_ISO_MS_CLOSE : RField := ⟨.PW_DIE_ISO, 4, 4⟩
abbrev fPW_DIE_ISO_MS_ON : RField := ⟨.PW_DIE_ISO, 3, 3⟩
abbrev fPW_DIE_ISO_TRIP : RField := ⟨.PW_DIE_ISO, 2, 2⟩
abbrev fPW_DIE_ISO_CLOSE : RField := ⟨.PW_DIE_ISO, 1, 1⟩
abbrev fPW_DIE_ISO_ON : RField := ⟨.PW_DIE_ISO, 0, 0⟩
abbrev fPW_IN_MEAS_P_IN : RField := ⟨.PW_IN_MEAS, 63, 32⟩
abbrev fPW_IN_MEAS_V_IN : RField := ⟨.PW_IN_MEAS, 31, 16⟩
abbrev fPW_IN_MEAS_I_IN : RField := ⟨.PW_IN_MEAS, 15, 0⟩
abbrev fPW_RAIL_CAP_CONV_LOST : RField := ⟨.PW_RAIL_CAP, 31, 16⟩
abbrev fPW_RAIL_CAP_CAP_W : RField := ⟨.PW_RAIL_CAP, 15, 0⟩
abbrev fPW_CONV_OK_OK : RField := ⟨.PW_CONV_OK, 15, 0⟩
abbrev fDIE_ID_KIND : RField := ⟨.DIE_ID, 25, 24⟩
abbrev fDIE_ID_INDEX : RField := ⟨.DIE_ID, 21, 16⟩
abbrev fDIE_ID_STEPPING : RField := ⟨.DIE_ID, 15, 8⟩
abbrev fMESH_STAT_DETOUR : RField := ⟨.MESH_STAT, 8, 8⟩
abbrev fMESH_STAT_RETIRED : RField := ⟨.MESH_STAT, 7, 4⟩
abbrev fMESH_STAT_UP : RField := ⟨.MESH_STAT, 3, 0⟩
abbrev fMESH_FLITS_COUNT : RField := ⟨.MESH_FLITS, 63, 0⟩
abbrev fDIE_SLACK_STRETCH : RField := ⟨.DIE_SLACK, 63, 48⟩
abbrev fDIE_SLACK_STOP_MIN : RField := ⟨.DIE_SLACK, 31, 24⟩
abbrev fDIE_SLACK_STOP_AVG : RField := ⟨.DIE_SLACK, 23, 16⟩
abbrev fDIE_SLACK_LOGIC_MIN : RField := ⟨.DIE_SLACK, 15, 8⟩
abbrev fDIE_SLACK_LOGIC_AVG : RField := ⟨.DIE_SLACK, 7, 0⟩
abbrev fSPN_CTL_EXC_MODE : RField := ⟨.SPN_CTL, 5, 5⟩
abbrev fSPN_CTL_IRQ_ON : RField := ⟨.SPN_CTL, 4, 4⟩
abbrev fSPN_CTL_STEP : RField := ⟨.SPN_CTL, 3, 3⟩
abbrev fSPN_CTL_HALT : RField := ⟨.SPN_CTL, 2, 2⟩
abbrev fSPN_CTL_RUN : RField := ⟨.SPN_CTL, 1, 1⟩
abbrev fSPN_STAT_PLY_MEMBER : RField := ⟨.SPN_STAT, 11, 11⟩
abbrev fSPN_STAT_DOUBLE : RField := ⟨.SPN_STAT, 10, 10⟩
abbrev fSPN_STAT_IN_HANDLER : RField := ⟨.SPN_STAT, 9, 9⟩
abbrev fSPN_STAT_EXC_HALT : RField := ⟨.SPN_STAT, 8, 8⟩
abbrev fSPN_STAT_STATE : RField := ⟨.SPN_STAT, 2, 0⟩
abbrev fSPN_PC_WORD : RField := ⟨.SPN_PC, 13, 0⟩
abbrev fSPN_VEC_IRQ_WORD : RField := ⟨.SPN_VEC, 29, 16⟩
abbrev fSPN_VEC_EXC_WORD : RField := ⟨.SPN_VEC, 13, 0⟩
abbrev fSPN_EXC_CAUSE_CAUSE : RField := ⟨.SPN_EXC_CAUSE, 7, 0⟩
abbrev fSPN_EXC_PC_WORD : RField := ⟨.SPN_EXC_PC, 13, 0⟩
abbrev fSPN_EXC_INFO_INFO : RField := ⟨.SPN_EXC_INFO, 63, 0⟩
abbrev fSPN_DB_PEND_PEND : RField := ⟨.SPN_DB_PEND, 31, 0⟩
abbrev fSPN_DB_SET_SET : RField := ⟨.SPN_DB_SET, 31, 0⟩
abbrev fSPN_DB_MASK_MASK : RField := ⟨.SPN_DB_MASK, 31, 0⟩
abbrev fSPN_IRQ_PLY : RField := ⟨.SPN_IRQ, 3, 3⟩
abbrev fSPN_IRQ_ASYNC : RField := ⟨.SPN_IRQ, 2, 2⟩
abbrev fSPN_IRQ_TIMER : RField := ⟨.SPN_IRQ, 1, 1⟩
abbrev fSPN_IRQ_DB : RField := ⟨.SPN_IRQ, 0, 0⟩
abbrev fSPN_IRQ_EN_EN : RField := ⟨.SPN_IRQ_EN, 3, 0⟩
abbrev fSPN_TIMER_CMP_CMP : RField := ⟨.SPN_TIMER_CMP, 63, 0⟩
abbrev fSPN_SPOOL_OCCUPANCY : RField := ⟨.SPN_SPOOL, 26, 16⟩
abbrev fSPN_SPOOL_STALL : RField := ⟨.SPN_SPOOL, 7, 0⟩
abbrev fSPN_RETIRED_COUNT : RField := ⟨.SPN_RETIRED, 63, 0⟩
abbrev fSPN_CYCLES_COUNT : RField := ⟨.SPN_CYCLES, 63, 0⟩
abbrev fSPN_IDLE_COUNT : RField := ⟨.SPN_IDLE, 63, 0⟩
abbrev fSPN_MAP_LOGICAL : RField := ⟨.SPN_MAP, 13, 8⟩
abbrev fSPN_MAP_SPARE : RField := ⟨.SPN_MAP, 7, 7⟩
abbrev fSPN_MAP_PHYS : RField := ⟨.SPN_MAP, 5, 0⟩
abbrev fSPN_ASYNC_ADDR_ADDR : RField := ⟨.SPN_ASYNC_ADDR, 63, 0⟩
abbrev fPLY_CMD_PKG : RField := ⟨.PLY_CMD, 63, 52⟩
abbrev fPLY_CMD_SPINDLE : RField := ⟨.PLY_CMD, 42, 32⟩
abbrev fPLY_CMD_OP : RField := ⟨.PLY_CMD, 3, 0⟩
abbrev fPLY_CMD_ADDR_ADDR : RField := ⟨.PLY_CMD_ADDR, 63, 4⟩
abbrev fPLY_CMD_STAT_BUSY : RField := ⟨.PLY_CMD_STAT, 31, 31⟩
abbrev fPLY_CMD_STAT_REFUSED : RField := ⟨.PLY_CMD_STAT, 16, 16⟩
abbrev fPLY_CMD_STAT_RESULT : RField := ⟨.PLY_CMD_STAT, 7, 0⟩
abbrev fPLY_CMD_ID_PKG : RField := ⟨.PLY_CMD_ID, 63, 52⟩
abbrev fPLY_CMD_ID_SPINDLE : RField := ⟨.PLY_CMD_ID, 10, 0⟩
abbrev fPLY_RESERVE_SPARE : RField := ⟨.PLY_RESERVE, 31, 0⟩
abbrev fPLY_ENTRY_PKG : RField := ⟨.PLY_ENTRY, 63, 52⟩
abbrev fPLY_ENTRY_SPINDLE : RField := ⟨.PLY_ENTRY, 42, 32⟩
abbrev fPLY_ENTRY_MEMBER : RField := ⟨.PLY_ENTRY, 31, 10⟩
abbrev fPLY_ENTRY_LEVEL : RField := ⟨.PLY_ENTRY, 9, 7⟩
abbrev fPLY_ENTRY_LOG2N : RField := ⟨.PLY_ENTRY, 6, 2⟩
abbrev fPLY_ENTRY_STATE : RField := ⟨.PLY_ENTRY, 1, 0⟩
abbrev fPLY_ENTRY_CFG_AUTO : RField := ⟨.PLY_ENTRY_CFG, 48, 48⟩
abbrev fPLY_ENTRY_CFG_WINDOW : RField := ⟨.PLY_ENTRY_CFG, 47, 32⟩
abbrev fPLY_ENTRY_CFG_LOG2C : RField := ⟨.PLY_ENTRY_CFG, 4, 0⟩
abbrev fPLY_ENTRY_STAT_SLOWEST : RField := ⟨.PLY_ENTRY_STAT, 57, 36⟩
abbrev fPLY_ENTRY_STAT_NOTICE : RField := ⟨.PLY_ENTRY_STAT, 35, 32⟩
abbrev fPLY_ENTRY_STAT_EXC_MEMBER : RField := ⟨.PLY_ENTRY_STAT, 21, 0⟩
abbrev fPLY_ENTRY_WAIT_CYCLES : RField := ⟨.PLY_ENTRY_WAIT, 63, 0⟩
abbrev fQD_CFG_SCRUB_H : RField := ⟨.QD_CFG, 23, 16⟩
abbrev fQD_CFG_PARTNER_EN : RField := ⟨.QD_CFG, 8, 8⟩
abbrev fQD_CFG_PARTNER : RField := ⟨.QD_CFG, 2, 0⟩
abbrev fQD_CARVE_PARITY_GIB : RField := ⟨.QD_CARVE, 23, 16⟩
abbrev fQD_CARVE_SPARE_GIB : RField := ⟨.QD_CARVE, 12, 8⟩
abbrev fQD_CARVE_SKEIN_GIB : RField := ⟨.QD_CARVE, 4, 0⟩
abbrev fQD_OPEN_TOP_ADDR : RField := ⟨.QD_OPEN_TOP, 51, 0⟩
abbrev fQD_HBM_TEMP : RField := ⟨.QD_HBM, 31, 24⟩
abbrev fQD_HBM_PC_LOST : RField := ⟨.QD_HBM, 13, 8⟩
abbrev fQD_HBM_RATE : RField := ⟨.QD_HBM, 1, 0⟩
abbrev fQD_RGN_STAGE0_BASE : RField := ⟨.QD_RGN_STAGE0, 51, 12⟩
abbrev fQD_RGN_STAGE1_OWNER : RField := ⟨.QD_RGN_STAGE1, 54, 52⟩
abbrev fQD_RGN_STAGE1_SHARED : RField := ⟨.QD_RGN_STAGE1, 49, 49⟩
abbrev fQD_RGN_STAGE1_NON_EPOCH : RField := ⟨.QD_RGN_STAGE1, 48, 48⟩
abbrev fQD_RGN_STAGE1_POLICY : RField := ⟨.QD_RGN_STAGE1, 45, 44⟩
abbrev fQD_RGN_STAGE1_STATE : RField := ⟨.QD_RGN_STAGE1, 41, 40⟩
abbrev fQD_RGN_STAGE1_ROWLEN : RField := ⟨.QD_RGN_STAGE1, 38, 32⟩
abbrev fQD_RGN_STAGE1_ROWS : RField := ⟨.QD_RGN_STAGE1, 30, 0⟩
abbrev fQD_RGN_STAGE2_MIRROR_BASE : RField := ⟨.QD_RGN_STAGE2, 51, 12⟩
abbrev fQD_RGN_STAGE2_CLASS : RField := ⟨.QD_RGN_STAGE2, 3, 0⟩
abbrev fQD_RGN_STAGE3_FMTDEF : RField := ⟨.QD_RGN_STAGE3, 43, 0⟩
abbrev fQD_RGN_CMD_SLOT : RField := ⟨.QD_RGN_CMD, 15, 8⟩
abbrev fQD_RGN_CMD_OP : RField := ⟨.QD_RGN_CMD, 3, 0⟩
abbrev fQD_RGN_STAT_BUSY : RField := ⟨.QD_RGN_STAT, 31, 31⟩
abbrev fQD_RGN_STAT_REFUSED : RField := ⟨.QD_RGN_STAT, 16, 16⟩
abbrev fQD_RGN_STAT_RESULT : RField := ⟨.QD_RGN_STAT, 7, 0⟩
abbrev fQD_RGN0_BASE : RField := ⟨.QD_RGN0, 51, 12⟩
abbrev fQD_RGN1_OWNER : RField := ⟨.QD_RGN1, 54, 52⟩
abbrev fQD_RGN1_SHARED : RField := ⟨.QD_RGN1, 49, 49⟩
abbrev fQD_RGN1_NON_EPOCH : RField := ⟨.QD_RGN1, 48, 48⟩
abbrev fQD_RGN1_POLICY : RField := ⟨.QD_RGN1, 45, 44⟩
abbrev fQD_RGN1_STATE : RField := ⟨.QD_RGN1, 41, 40⟩
abbrev fQD_RGN1_ROWLEN : RField := ⟨.QD_RGN1, 38, 32⟩
abbrev fQD_RGN1_ROWS : RField := ⟨.QD_RGN1, 30, 0⟩
abbrev fQD_RGN2_MIRROR_BASE : RField := ⟨.QD_RGN2, 51, 12⟩
abbrev fQD_RGN2_CLASS : RField := ⟨.QD_RGN2, 3, 0⟩
abbrev fQD_RGN3_FMTDEF : RField := ⟨.QD_RGN3, 43, 0⟩
abbrev fQD_RGN_INFO_USED_MIB : RField := ⟨.QD_RGN_INFO, 63, 32⟩
abbrev fQD_RGN_INFO_MIRROR_OK : RField := ⟨.QD_RGN_INFO, 4, 4⟩
abbrev fQD_RGN_INFO_STATE : RField := ⟨.QD_RGN_INFO, 2, 0⟩
abbrev fQD_MIR0_BASE : RField := ⟨.QD_MIR0, 51, 12⟩
abbrev fQD_MIR1_OWNER : RField := ⟨.QD_MIR1, 54, 52⟩
abbrev fQD_MIR1_SHARED : RField := ⟨.QD_MIR1, 49, 49⟩
abbrev fQD_MIR1_NON_EPOCH : RField := ⟨.QD_MIR1, 48, 48⟩
abbrev fQD_MIR1_POLICY : RField := ⟨.QD_MIR1, 45, 44⟩
abbrev fQD_MIR1_STATE : RField := ⟨.QD_MIR1, 41, 40⟩
abbrev fQD_MIR1_ROWLEN : RField := ⟨.QD_MIR1, 38, 32⟩
abbrev fQD_MIR1_ROWS : RField := ⟨.QD_MIR1, 30, 0⟩
abbrev fQD_MIR2_MIRROR_BASE : RField := ⟨.QD_MIR2, 51, 12⟩
abbrev fQD_MIR2_CLASS : RField := ⟨.QD_MIR2, 3, 0⟩
abbrev fQD_MIR3_FMTDEF : RField := ⟨.QD_MIR3, 43, 0⟩
abbrev fQD_MIR_INFO_USED_MIB : RField := ⟨.QD_MIR_INFO, 63, 32⟩
abbrev fQD_MIR_INFO_MIRROR_OK : RField := ⟨.QD_MIR_INFO, 4, 4⟩
abbrev fQD_MIR_INFO_STATE : RField := ⟨.QD_MIR_INFO, 2, 0⟩
abbrev fQD_SKEIN_STAT_USED_MIB : RField := ⟨.QD_SKEIN_STAT, 63, 32⟩
abbrev fQD_SKEIN_STAT_UNMIRRORED : RField := ⟨.QD_SKEIN_STAT, 3, 3⟩
abbrev fQD_SKEIN_STAT_QUIESCED : RField := ⟨.QD_SKEIN_STAT, 2, 2⟩
abbrev fQD_SKEIN_STAT_FAILED : RField := ⟨.QD_SKEIN_STAT, 1, 1⟩
abbrev fQD_SKEIN_STAT_FULL : RField := ⟨.QD_SKEIN_STAT, 0, 0⟩
abbrev fQD_SKEIN_EPOCH_EPOCH : RField := ⟨.QD_SKEIN_EPOCH, 63, 0⟩
abbrev fQD_SKEIN_CMD_ARG : RField := ⟨.QD_SKEIN_CMD, 63, 8⟩
abbrev fQD_SKEIN_CMD_OP : RField := ⟨.QD_SKEIN_CMD, 3, 0⟩
abbrev fQD_SKEIN_WM_DBE : RField := ⟨.QD_SKEIN_WM, 13, 13⟩
abbrev fQD_SKEIN_WM_DBBIT : RField := ⟨.QD_SKEIN_WM, 12, 8⟩
abbrev fQD_SKEIN_WM_PCT : RField := ⟨.QD_SKEIN_WM, 6, 0⟩
abbrev fQD_SKEIN_WM_TGT_TARGET : RField := ⟨.QD_SKEIN_WM_TGT, 63, 0⟩
abbrev fQD_TEN_USED_GIB : RField := ⟨.QD_TEN, 63, 32⟩
abbrev fQD_TEN_RATE : RField := ⟨.QD_TEN, 25, 16⟩
abbrev fQD_TEN_CAP_GIB : RField := ⟨.QD_TEN, 7, 0⟩
abbrev fQD_PC_CORR : RField := ⟨.QD_PC, 31, 16⟩
abbrev fQD_PC_UNCORR : RField := ⟨.QD_PC, 15, 8⟩
abbrev fQD_PC_REBUILT : RField := ⟨.QD_PC, 1, 1⟩
abbrev fQD_PC_RETIRED : RField := ⟨.QD_PC, 0, 0⟩
abbrev fQD_ENG_SLOTS_COUNT : RField := ⟨.QD_ENG_SLOTS, 63, 0⟩
abbrev fQD_ENG_HELD_COUNT : RField := ⟨.QD_ENG_HELD, 63, 0⟩
abbrev fQD_ENG_SKEIN_NS_COUNT : RField := ⟨.QD_ENG_SKEIN_NS, 63, 0⟩
abbrev fQD_ENG_NONFINITE_COUNT : RField := ⟨.QD_ENG_NONFINITE, 31, 0⟩
abbrev fQD_ENG_DEGRADED_COUNT : RField := ⟨.QD_ENG_DEGRADED, 63, 0⟩
abbrev fQD_PHY_RECENTRE : RField := ⟨.QD_PHY, 63, 48⟩
abbrev fQD_PHY_WORST_PC : RField := ⟨.QD_PHY, 39, 32⟩
abbrev fQD_PHY_EYE_V : RField := ⟨.QD_PHY, 31, 24⟩
abbrev fQD_PHY_EYE_T : RField := ⟨.QD_PHY, 23, 16⟩
abbrev fQD_PHY_ADJUST : RField := ⟨.QD_PHY, 15, 0⟩
abbrev fCD_BNK_PWR_ACT : RField := ⟨.CD_BNK_PWR, 23, 16⟩
abbrev fCD_BNK_PWR_REQ : RField := ⟨.CD_BNK_PWR, 7, 0⟩
abbrev fCD_BNK_STAT_TESTFAULT : RField := ⟨.CD_BNK_STAT, 27, 24⟩
abbrev fCD_BNK_STAT_WOKEN : RField := ⟨.CD_BNK_STAT, 19, 16⟩
abbrev fCD_BNK_STAT_STARVED : RField := ⟨.CD_BNK_STAT, 11, 8⟩
abbrev fCD_BNK_STAT_COLL : RField := ⟨.CD_BNK_STAT, 3, 0⟩
abbrev fCD_BNK_STARVE_LIMIT : RField := ⟨.CD_BNK_STARVE, 15, 0⟩
abbrev fCD_BNK_MAXWAIT_WAIT : RField := ⟨.CD_BNK_MAXWAIT, 63, 0⟩
abbrev fCD_BNK_PIN_LINES : RField := ⟨.CD_BNK_PIN, 31, 16⟩
abbrev fCD_BNK_PIN_START : RField := ⟨.CD_BNK_PIN, 12, 0⟩
abbrev fCD_MTEST_CTL_IDLE : RField := ⟨.CD_MTEST_CTL, 31, 16⟩
abbrev fCD_MTEST_CTL_PERIOD : RField := ⟨.CD_MTEST_CTL, 7, 0⟩
abbrev fCD_MTEST_STAT_PASSES : RField := ⟨.CD_MTEST_STAT, 63, 32⟩
abbrev fCD_MTEST_STAT_FAULTS : RField := ⟨.CD_MTEST_STAT, 31, 16⟩
abbrev fCD_MTEST_STAT_VALID : RField := ⟨.CD_MTEST_STAT, 1, 1⟩
abbrev fCD_MTEST_STAT_BORROWED : RField := ⟨.CD_MTEST_STAT, 0, 0⟩
abbrev fCD_MTEST_FAULT_PHYS : RField := ⟨.CD_MTEST_FAULT, 61, 56⟩
abbrev fCD_MTEST_FAULT_BIT : RField := ⟨.CD_MTEST_FAULT, 46, 40⟩
abbrev fCD_MTEST_FAULT_OFFSET : RField := ⟨.CD_MTEST_FAULT, 20, 0⟩
abbrev fWD_BNK_PWR_ACT : RField := ⟨.WD_BNK_PWR, 23, 16⟩
abbrev fWD_BNK_PWR_REQ : RField := ⟨.WD_BNK_PWR, 7, 0⟩
abbrev fWD_BNK_STAT_TESTFAULT : RField := ⟨.WD_BNK_STAT, 27, 24⟩
abbrev fWD_BNK_STAT_WOKEN : RField := ⟨.WD_BNK_STAT, 19, 16⟩
abbrev fWD_BNK_STAT_STARVED : RField := ⟨.WD_BNK_STAT, 11, 8⟩
abbrev fWD_BNK_STAT_COLL : RField := ⟨.WD_BNK_STAT, 3, 0⟩
abbrev fWD_BNK_STAT_CAP_DROP : RField := ⟨.WD_BNK_STAT, 31, 28⟩
abbrev fWD_BNK_STARVE_LIMIT : RField := ⟨.WD_BNK_STARVE, 15, 0⟩
abbrev fWD_BNK_MAXWAIT_WAIT : RField := ⟨.WD_BNK_MAXWAIT, 63, 0⟩
abbrev fWD_BNK_PIN_LINES : RField := ⟨.WD_BNK_PIN, 31, 16⟩
abbrev fWD_BNK_PIN_START : RField := ⟨.WD_BNK_PIN, 11, 0⟩
abbrev fWD_MTEST_CTL_IDLE : RField := ⟨.WD_MTEST_CTL, 31, 16⟩
abbrev fWD_MTEST_CTL_PERIOD : RField := ⟨.WD_MTEST_CTL, 7, 0⟩
abbrev fWD_MTEST_STAT_PASSES : RField := ⟨.WD_MTEST_STAT, 63, 32⟩
abbrev fWD_MTEST_STAT_FAULTS : RField := ⟨.WD_MTEST_STAT, 31, 16⟩
abbrev fWD_MTEST_STAT_VALID : RField := ⟨.WD_MTEST_STAT, 1, 1⟩
abbrev fWD_MTEST_STAT_BORROWED : RField := ⟨.WD_MTEST_STAT, 0, 0⟩
abbrev fWD_MTEST_FAULT_PHYS : RField := ⟨.WD_MTEST_FAULT, 61, 56⟩
abbrev fWD_MTEST_FAULT_BIT : RField := ⟨.WD_MTEST_FAULT, 46, 40⟩
abbrev fWD_MTEST_FAULT_OFFSET : RField := ⟨.WD_MTEST_FAULT, 20, 0⟩
abbrev fFS_COLREP_TGT_DIE : RField := ⟨.FS_COLREP_TGT, 57, 52⟩
abbrev fFS_COLREP_TGT_PHYS : RField := ⟨.FS_COLREP_TGT, 45, 40⟩
abbrev fFS_COLREP_TGT_BANK : RField := ⟨.FS_COLREP_TGT, 33, 32⟩
abbrev fFS_COLREP_TGT_SUB : RField := ⟨.FS_COLREP_TGT, 27, 24⟩
abbrev fFS_COLREP_TGT_COLUMN : RField := ⟨.FS_COLREP_TGT, 11, 0⟩
abbrev fFS_COLREP_CMD_OP : RField := ⟨.FS_COLREP_CMD, 3, 0⟩
abbrev fFS_COLREP_STAT_BUSY : RField := ⟨.FS_COLREP_STAT, 31, 31⟩
abbrev fFS_COLREP_STAT_FREE : RField := ⟨.FS_COLREP_STAT, 16, 8⟩
abbrev fFS_COLREP_STAT_RESULT : RField := ⟨.FS_COLREP_STAT, 7, 0⟩
abbrev fHI_BAR2_BASE_PKG : RField := ⟨.HI_BAR2_BASE, 63, 52⟩
abbrev fHI_BAR2_BASE_BASE : RField := ⟨.HI_BAR2_BASE, 51, 36⟩
abbrev fHI_BAR2_BASE_LOCAL : RField := ⟨.HI_BAR2_BASE, 0, 0⟩
abbrev fHI_PKG_NUM_NUM : RField := ⟨.HI_PKG_NUM, 11, 0⟩
abbrev fHI_LINK_STAT_WIDTH : RField := ⟨.HI_LINK_STAT, 20, 16⟩
abbrev fHI_LINK_STAT_SPEED : RField := ⟨.HI_LINK_STAT, 11, 8⟩
abbrev fHI_LINK_STAT_FLIT : RField := ⟨.HI_LINK_STAT, 2, 2⟩
abbrev fHI_LINK_STAT_DEGRADED : RField := ⟨.HI_LINK_STAT, 1, 1⟩
abbrev fHI_LINK_STAT_UP : RField := ⟨.HI_LINK_STAT, 0, 0⟩
abbrev fHI_DMA_BASE_ADDR : RField := ⟨.HI_DMA_BASE, 63, 12⟩
abbrev fHI_DMA_CTL_LOG2 : RField := ⟨.HI_DMA_CTL, 20, 16⟩
abbrev fHI_DMA_CTL_ERR : RField := ⟨.HI_DMA_CTL, 3, 3⟩
abbrev fHI_DMA_CTL_IDLE : RField := ⟨.HI_DMA_CTL, 2, 2⟩
abbrev fHI_DMA_CTL_ENABLE : RField := ⟨.HI_DMA_CTL, 0, 0⟩
abbrev fHI_DMA_HEAD_INDEX : RField := ⟨.HI_DMA_HEAD, 15, 0⟩
abbrev fHI_DMA_TAIL_INDEX : RField := ⟨.HI_DMA_TAIL, 15, 0⟩
abbrev fHI_MSIX_LO_ADDR : RField := ⟨.HI_MSIX_LO, 63, 0⟩
abbrev fHI_MSIX_HI_DATA : RField := ⟨.HI_MSIX_HI, 63, 0⟩
abbrev fHI_MSIX_PBA_PEND : RField := ⟨.HI_MSIX_PBA, 15, 0⟩
abbrev fCX_PORT_CTL_RETRAIN : RField := ⟨.CX_PORT_CTL, 1, 1⟩
abbrev fCX_PORT_CTL_ENABLE : RField := ⟨.CX_PORT_CTL, 0, 0⟩
abbrev fCX_PORT_STAT_CAP : RField := ⟨.CX_PORT_STAT, 47, 32⟩
abbrev fCX_PORT_STAT_FLIT256 : RField := ⟨.CX_PORT_STAT, 28, 28⟩
abbrev fCX_PORT_STAT_SPEED : RField := ⟨.CX_PORT_STAT, 27, 24⟩
abbrev fCX_PORT_STAT_WIDTH : RField := ⟨.CX_PORT_STAT, 20, 16⟩
abbrev fCX_PORT_STAT_VERSION : RField := ⟨.CX_PORT_STAT, 11, 8⟩
abbrev fCX_PORT_STAT_REASON : RField := ⟨.CX_PORT_STAT, 7, 4⟩
abbrev fCX_PORT_STAT_STATE : RField := ⟨.CX_PORT_STAT, 2, 0⟩
abbrev fCX_PORT_SN_SN : RField := ⟨.CX_PORT_SN, 63, 0⟩
abbrev fWP_PORT_CTL_LANE_RETIRE : RField := ⟨.WP_PORT_CTL, 23, 16⟩
abbrev fWP_PORT_CTL_RATES : RField := ⟨.WP_PORT_CTL, 10, 8⟩
abbrev fWP_PORT_CTL_RETRAIN : RField := ⟨.WP_PORT_CTL, 3, 3⟩
abbrev fWP_PORT_CTL_RETIRE : RField := ⟨.WP_PORT_CTL, 2, 2⟩
abbrev fWP_PORT_CTL_ENABLE : RField := ⟨.WP_PORT_CTL, 1, 1⟩
abbrev fWP_PORT_CTL_TRAIN_EN : RField := ⟨.WP_PORT_CTL, 0, 0⟩
abbrev fWP_PORT_STAT_PEER_PKG : RField := ⟨.WP_PORT_STAT, 63, 52⟩
abbrev fWP_PORT_STAT_PEER_PORT : RField := ⟨.WP_PORT_STAT, 51, 48⟩
abbrev fWP_PORT_STAT_LANES_UP : RField := ⟨.WP_PORT_STAT, 47, 40⟩
abbrev fWP_PORT_STAT_RETIRED_LANES : RField := ⟨.WP_PORT_STAT, 31, 24⟩
abbrev fWP_PORT_STAT_PROTO : RField := ⟨.WP_PORT_STAT, 19, 16⟩
abbrev fWP_PORT_STAT_RATE : RField := ⟨.WP_PORT_STAT, 10, 8⟩
abbrev fWP_PORT_STAT_STATE : RField := ⟨.WP_PORT_STAT, 2, 0⟩
abbrev fWP_PORT_ERR_REPLAYS : RField := ⟨.WP_PORT_ERR, 63, 48⟩
abbrev fWP_PORT_ERR_CRC : RField := ⟨.WP_PORT_ERR, 47, 32⟩
abbrev fWP_PORT_ERR_UNCORR : RField := ⟨.WP_PORT_ERR, 31, 16⟩
abbrev fWP_PORT_ERR_RETRAINS : RField := ⟨.WP_PORT_ERR, 15, 0⟩
abbrev fWP_PORT_FEC_SYMBOLS : RField := ⟨.WP_PORT_FEC, 63, 0⟩
abbrev fWP_LANE_SYMS : RField := ⟨.WP_LANE, 63, 32⟩
abbrev fWP_LANE_EYE_H : RField := ⟨.WP_LANE, 31, 24⟩
abbrev fWP_LANE_LOW : RField := ⟨.WP_LANE, 0, 0⟩
abbrev fWP_ROUTE_CHOICE : RField := ⟨.WP_ROUTE, 31, 0⟩
abbrev fWP_GCFG_TIMEOUT_US : RField := ⟨.WP_GCFG, 23, 0⟩
abbrev fWP_COLL_POST_ADDR : RField := ⟨.WP_COLL_POST, 63, 6⟩
abbrev fWP_COLL_STAT_SEQ : RField := ⟨.WP_COLL_STAT, 63, 32⟩
abbrev fWP_COLL_STAT_GROUP : RField := ⟨.WP_COLL_STAT, 23, 20⟩
abbrev fWP_COLL_STAT_REFUSED : RField := ⟨.WP_COLL_STAT, 16, 16⟩
abbrev fWP_COLL_STAT_QUEUED : RField := ⟨.WP_COLL_STAT, 12, 8⟩
abbrev fWP_COLL_STAT_RESULT : RField := ⟨.WP_COLL_STAT, 7, 0⟩
abbrev fWP_COLL_GRP_CHECK : RField := ⟨.WP_COLL_GRP, 63, 32⟩
abbrev fWP_COLL_GRP_COUNT : RField := ⟨.WP_COLL_GRP, 12, 0⟩
abbrev fWD_TIME_NS_NS : RField := ⟨.WD_TIME_NS, 63, 0⟩
abbrev fWD_TIME_ADJ_PPM : RField := ⟨.WD_TIME_ADJ, 15, 0⟩
abbrev fWD_TIME_STEP_NS : RField := ⟨.WD_TIME_STEP, 63, 0⟩
abbrev fWD_TIME_STAT_TRIM : RField := ⟨.WD_TIME_STAT, 31, 16⟩
abbrev fWD_TIME_STAT_SOURCE : RField := ⟨.WD_TIME_STAT, 8, 8⟩
abbrev fWD_TIME_STAT_PLL_LOCK : RField := ⟨.WD_TIME_STAT, 2, 2⟩
abbrev fWD_TIME_STAT_ON_BACKUP : RField := ⟨.WD_TIME_STAT, 1, 1⟩
abbrev fWD_TIME_STAT_XTAL_OK : RField := ⟨.WD_TIME_STAT, 0, 0⟩
abbrev fTH_HS_TEMP_TA : RField := ⟨.TH_HS_TEMP, 63, 48⟩
abbrev fTH_HS_TEMP_TB : RField := ⟨.TH_HS_TEMP, 47, 32⟩
abbrev fTH_HS_TEMP_TD : RField := ⟨.TH_HS_TEMP, 31, 16⟩
abbrev fTH_HS_TEMP_SEQ : RField := ⟨.TH_HS_TEMP, 15, 8⟩
abbrev fTH_HS_TEMP_D_UNCAL : RField := ⟨.TH_HS_TEMP, 3, 3⟩
abbrev fTH_HS_TEMP_D_FAULT : RField := ⟨.TH_HS_TEMP, 2, 2⟩
abbrev fTH_HS_TEMP_B_FAULT : RField := ⟨.TH_HS_TEMP, 1, 1⟩
abbrev fTH_HS_TEMP_A_FAULT : RField := ⟨.TH_HS_TEMP, 0, 0⟩
abbrev fTH_HS_CAL_OFS_A : RField := ⟨.TH_HS_CAL, 63, 48⟩
abbrev fTH_HS_CAL_OFS_B : RField := ⟨.TH_HS_CAL, 47, 32⟩
abbrev fTH_HS_CAL_BURSTS : RField := ⟨.TH_HS_CAL, 31, 16⟩
abbrev fTH_HS_CAL_DRIFT : RField := ⟨.TH_HS_CAL, 15, 0⟩
abbrev fTH_COOL_T_TEMP : RField := ⟨.TH_COOL_T, 31, 0⟩
abbrev fTH_DT_DT : RField := ⟨.TH_DT, 31, 0⟩
abbrev fTH_FLOW_Q_METER : RField := ⟨.TH_FLOW, 63, 32⟩
abbrev fTH_FLOW_Q_HB : RField := ⟨.TH_FLOW, 31, 0⟩
abbrev fTH_HB_STAT_DEV : RField := ⟨.TH_HB_STAT, 31, 16⟩
abbrev fTH_HB_STAT_HELD : RField := ⟨.TH_HB_STAT, 3, 3⟩
abbrev fTH_HB_STAT_WARN : RField := ⟨.TH_HB_STAT, 2, 2⟩
abbrev fTH_HB_STAT_VALID : RField := ⟨.TH_HB_STAT, 1, 1⟩
abbrev fTH_HB_STAT_SOAKED : RField := ⟨.TH_HB_STAT, 0, 0⟩
abbrev fTH_HB_TRIM_TRIM : RField := ⟨.TH_HB_TRIM, 15, 0⟩
abbrev fTH_CAL_FLUID_C_VOL : RField := ⟨.TH_CAL_FLUID, 31, 16⟩
abbrev fTH_CAL_FLUID_DC_VOL : RField := ⟨.TH_CAL_FLUID, 15, 0⟩
abbrev fTH_CAL_HB_LAG : RField := ⟨.TH_CAL_HB, 31, 24⟩
abbrev fTH_CAL_HB_MIN_DT : RField := ⟨.TH_CAL_HB, 23, 16⟩
abbrev fTH_CAL_HB_LOSS : RField := ⟨.TH_CAL_HB, 15, 0⟩
abbrev fTH_CAL_TRIM_TRIM_LIM : RField := ⟨.TH_CAL_TRIM, 15, 0⟩
abbrev fTH_CAL_DIE_RTH : RField := ⟨.TH_CAL_DIE, 31, 16⟩
abbrev fTH_CAL_DIE_X : RField := ⟨.TH_CAL_DIE, 7, 0⟩
abbrev fWD_FLT_THR_ACTION : RField := ⟨.WD_FLT_THR, 55, 52⟩
abbrev fWD_FLT_THR_COUNT : RField := ⟨.WD_FLT_THR, 47, 32⟩
abbrev fWD_FLT_THR_WINDOW_MS : RField := ⟨.WD_FLT_THR, 31, 0⟩
abbrev fWD_FLT_QUERY_UNIT : RField := ⟨.WD_FLT_QUERY, 31, 16⟩
abbrev fWD_FLT_QUERY_CLASS : RField := ⟨.WD_FLT_QUERY, 4, 0⟩
abbrev fWD_FLT_TALLY_AGE_MS : RField := ⟨.WD_FLT_TALLY, 63, 32⟩
abbrev fWD_FLT_TALLY_RETIRED : RField := ⟨.WD_FLT_TALLY, 16, 16⟩
abbrev fWD_FLT_TALLY_TALLY : RField := ⟨.WD_FLT_TALLY, 15, 0⟩
abbrev fWD_FLT_INJECT_UNIT : RField := ⟨.WD_FLT_INJECT, 31, 16⟩
abbrev fWD_FLT_INJECT_GO : RField := ⟨.WD_FLT_INJECT, 8, 8⟩
abbrev fWD_FLT_INJECT_CLASS : RField := ⟨.WD_FLT_INJECT, 4, 0⟩
abbrev fWD_RET_STAT_FREE : RField := ⟨.WD_RET_STAT, 31, 16⟩
abbrev fWD_RET_STAT_RETIRED : RField := ⟨.WD_RET_STAT, 15, 0⟩
abbrev fWD_RET_CLEAR_CLEAR : RField := ⟨.WD_RET_CLEAR, 0, 0⟩
abbrev fWD_EP_CMD_PKG : RField := ⟨.WD_EP_CMD, 63, 52⟩
abbrev fWD_EP_CMD_SPINDLE : RField := ⟨.WD_EP_CMD, 42, 32⟩
abbrev fWD_EP_CMD_MASK : RField := ⟨.WD_EP_CMD, 11, 8⟩
abbrev fWD_EP_CMD_OP : RField := ⟨.WD_EP_CMD, 3, 0⟩
abbrev fWD_EP_ARG_HANDLE : RField := ⟨.WD_EP_ARG, 63, 0⟩
abbrev fWD_EP_STAT_BUSY : RField := ⟨.WD_EP_STAT, 31, 31⟩
abbrev fWD_EP_STAT_REFUSED : RField := ⟨.WD_EP_STAT, 16, 16⟩
abbrev fWD_EP_STAT_PHASE : RField := ⟨.WD_EP_STAT, 14, 12⟩
abbrev fWD_EP_STAT_ANCHORED : RField := ⟨.WD_EP_STAT, 11, 11⟩
abbrev fWD_EP_STAT_RESULT : RField := ⟨.WD_EP_STAT, 7, 0⟩
abbrev fWD_EP_EPOCH_CURRENT : RField := ⟨.WD_EP_EPOCH, 63, 0⟩
abbrev fWD_EP_GRP_CFG_ADDR : RField := ⟨.WD_EP_GRP_CFG, 63, 13⟩
abbrev fWD_EP_GRP_CFG_COUNT : RField := ⟨.WD_EP_GRP_CFG, 12, 0⟩
abbrev fWD_EP_WAIT_READY : RField := ⟨.WD_EP_WAIT, 31, 16⟩
abbrev fWD_EP_WAIT_ENROLLED : RField := ⟨.WD_EP_WAIT, 15, 0⟩
abbrev fWD_EP_ENT0_PKG : RField := ⟨.WD_EP_ENT0, 63, 52⟩
abbrev fWD_EP_ENT0_SPINDLE : RField := ⟨.WD_EP_ENT0, 42, 32⟩
abbrev fWD_EP_ENT0_LOG2N : RField := ⟨.WD_EP_ENT0, 28, 24⟩
abbrev fWD_EP_ENT0_MASK : RField := ⟨.WD_EP_ENT0, 19, 16⟩
abbrev fWD_EP_ENT0_STATE : RField := ⟨.WD_EP_ENT0, 1, 0⟩
abbrev fWD_EP_ENT1_HANDLE : RField := ⟨.WD_EP_ENT1, 63, 0⟩
abbrev fWD_ROLE_MIRROR_OK : RField := ⟨.WD_ROLE, 11, 11⟩
abbrev fWD_ROLE_PEER_HEALTHY : RField := ⟨.WD_ROLE, 10, 10⟩
abbrev fWD_ROLE_FORCED : RField := ⟨.WD_ROLE, 9, 9⟩
abbrev fWD_ROLE_HEALTHY : RField := ⟨.WD_ROLE, 8, 8⟩
abbrev fWD_ROLE_ACTIVE : RField := ⟨.WD_ROLE, 1, 1⟩
abbrev fWD_ROLE_SELF : RField := ⟨.WD_ROLE, 0, 0⟩
abbrev fWD_ROLE_CMD_HANDOVER : RField := ⟨.WD_ROLE_CMD, 0, 0⟩
abbrev fWD_WDOG_KICK_KEY : RField := ⟨.WD_WDOG_KICK, 31, 0⟩
abbrev fWD_WDOG_STAT_EXPIRIES : RField := ⟨.WD_WDOG_STAT, 31, 16⟩
abbrev fWD_WDOG_STAT_REMAIN_MS : RField := ⟨.WD_WDOG_STAT, 8, 0⟩
abbrev fWD_FORCE_LEAK_LATCH : RField := ⟨.WD_FORCE_LEAK, 31, 31⟩
abbrev fWD_FORCE_LEAK_UNLATCH : RField := ⟨.WD_FORCE_LEAK, 30, 30⟩
abbrev fWD_FORCE_LEAK_STOP_MASK : RField := ⟨.WD_FORCE_LEAK, 13, 8⟩
abbrev fWD_FORCE_LEAK_CLOSE_MASK : RField := ⟨.WD_FORCE_LEAK, 3, 0⟩
abbrev fWD_DIE_PHASE_PHASE : RField := ⟨.WD_DIE_PHASE, 1, 0⟩
abbrev fLK_LOCK_OWNER : RField := ⟨.LK_LOCK, 31, 16⟩
abbrev fLK_LOCK_ACQ : RField := ⟨.LK_LOCK, 0, 0⟩
abbrev fLK_HELD_HELD : RField := ⟨.LK_HELD, 63, 0⟩
abbrev fLK_FORCE_FREE : RField := ⟨.LK_FORCE, 63, 0⟩
abbrev fEV_STAT_OVERFLOW : RField := ⟨.EV_STAT, 63, 32⟩
abbrev fEV_STAT_RESTORED : RField := ⟨.EV_STAT, 17, 17⟩
abbrev fEV_STAT_FULL : RField := ⟨.EV_STAT, 16, 16⟩
abbrev fEV_STAT_COUNT : RField := ⟨.EV_STAT, 13, 0⟩
abbrev fEV_CTL_NOTIFY : RField := ⟨.EV_CTL, 9, 8⟩
abbrev fEV_CTL_CLEAR : RField := ⟨.EV_CTL, 0, 0⟩
abbrev fEV_LIMIT0_CODE : RField := ⟨.EV_LIMIT0, 63, 48⟩
abbrev fEV_LIMIT0_BURST : RField := ⟨.EV_LIMIT0, 47, 32⟩
abbrev fEV_LIMIT0_RATE : RField := ⟨.EV_LIMIT0, 31, 0⟩
abbrev fEV_LIMIT1_SUPPRESSED : RField := ⟨.EV_LIMIT1, 63, 32⟩
abbrev fFS_PRES_BTN_REMAIN : RField := ⟨.FS_PRES, 23, 16⟩
abbrev fFS_PRES_JUMPER : RField := ⟨.FS_PRES, 7, 7⟩
abbrev fFS_PRES_SEAL : RField := ⟨.FS_PRES, 5, 4⟩
abbrev fFS_PRES_BTN_STUCK : RField := ⟨.FS_PRES, 1, 1⟩
abbrev fFS_PRES_BUTTON : RField := ⟨.FS_PRES, 0, 0⟩
abbrev fFS_SEAL_CNT_CNT_B : RField := ⟨.FS_SEAL_CNT, 27, 16⟩
abbrev fFS_SEAL_CNT_CNT_A : RField := ⟨.FS_SEAL_CNT, 11, 0⟩
abbrev fWD_LED_STATUS : RField := ⟨.WD_LED, 9, 8⟩
abbrev fWD_LED_FAULT : RField := ⟨.WD_LED, 5, 4⟩
abbrev fWD_LED_LOCATE : RField := ⟨.WD_LED, 0, 0⟩
abbrev fFS_FUSE_PGM_DATA : RField := ⟨.FS_FUSE_PGM, 63, 32⟩
abbrev fFS_FUSE_PGM_WORD : RField := ⟨.FS_FUSE_PGM, 4, 0⟩
abbrev fFS_FUSE_CMD_OP : RField := ⟨.FS_FUSE_CMD, 3, 0⟩
abbrev fFS_FUSE_STAT_BUSY : RField := ⟨.FS_FUSE_STAT, 31, 31⟩
abbrev fFS_FUSE_STAT_RESULT : RField := ⟨.FS_FUSE_STAT, 7, 0⟩
abbrev fFS_FUSE_BANK_BITS : RField := ⟨.FS_FUSE_BANK, 31, 0⟩
abbrev fTH_TWIN_TRUSTED : RField := ⟨.TH_TWIN, 63, 48⟩
abbrev fTH_TWIN_TSRC : RField := ⟨.TH_TWIN, 27, 24⟩
abbrev fTH_TWIN_DUTY : RField := ⟨.TH_TWIN, 19, 16⟩
abbrev fTH_TWIN_GATED : RField := ⟨.TH_TWIN, 9, 9⟩
abbrev fTH_TWIN_SLEEP : RField := ⟨.TH_TWIN, 8, 8⟩
abbrev fTH_TWIN_THERMAL : RField := ⟨.TH_TWIN, 3, 3⟩
abbrev fTH_TWIN_CAPPED : RField := ⟨.TH_TWIN, 2, 2⟩
abbrev fTH_TWIN_SENS_WARN : RField := ⟨.TH_TWIN, 1, 1⟩
abbrev fTH_TWIN_HOTTEST : RField := ⟨.TH_TWIN, 0, 0⟩
abbrev fTH_STAT_TRIP_CAUSE : RField := ⟨.TH_STAT, 13, 12⟩
abbrev fTH_STAT_DRAIN : RField := ⟨.TH_STAT, 8, 8⟩
abbrev fTH_STAT_EXCURSION : RField := ⟨.TH_STAT, 7, 7⟩
abbrev fTH_STAT_EMERG_OUT : RField := ⟨.TH_STAT, 6, 6⟩
abbrev fTH_STAT_EMERG_IN : RField := ⟨.TH_STAT, 5, 5⟩
abbrev fTH_STAT_TRIP : RField := ⟨.TH_STAT, 4, 4⟩
abbrev fTH_STAT_LEAK : RField := ⟨.TH_STAT, 3, 3⟩
abbrev fTH_STAT_RECOVERY : RField := ⟨.TH_STAT, 2, 2⟩
abbrev fTH_STAT_FLOW_LOSS : RField := ⟨.TH_STAT, 1, 1⟩
abbrev fTH_STAT_CLAMP : RField := ⟨.TH_STAT, 0, 0⟩
abbrev fTH_CAP_P_COMP : RField := ⟨.TH_CAP, 63, 48⟩
abbrev fTH_CAP_BUDGET_W : RField := ⟨.TH_CAP, 47, 32⟩
abbrev fTH_CAP_SRC : RField := ⟨.TH_CAP, 18, 16⟩
abbrev fTH_CAP_CAP_W : RField := ⟨.TH_CAP, 15, 0⟩
abbrev fTH_FLOW_USED_SRC : RField := ⟨.TH_FLOW_USED, 31, 30⟩
abbrev fTH_FLOW_USED_Q : RField := ⟨.TH_FLOW_USED, 29, 0⟩
abbrev fTH_IN_USED_OUTLET : RField := ⟨.TH_IN_USED, 63, 32⟩
abbrev fTH_IN_USED_INLET : RField := ⟨.TH_IN_USED, 31, 0⟩
abbrev fTH_ORDER_HOST_DRAIN_MS : RField := ⟨.TH_ORDER_HOST, 63, 32⟩
abbrev fTH_ORDER_HOST_STATE : RField := ⟨.TH_ORDER_HOST, 25, 24⟩
abbrev fTH_ORDER_HOST_CAP_EN : RField := ⟨.TH_ORDER_HOST, 16, 16⟩
abbrev fTH_ORDER_HOST_CAP_W : RField := ⟨.TH_ORDER_HOST, 15, 0⟩
abbrev fTH_ORDER_RACK_DRAIN_MS : RField := ⟨.TH_ORDER_RACK, 63, 32⟩
abbrev fTH_ORDER_RACK_VALID : RField := ⟨.TH_ORDER_RACK, 31, 31⟩
abbrev fTH_ORDER_RACK_STATE : RField := ⟨.TH_ORDER_RACK, 25, 24⟩
abbrev fTH_ORDER_RACK_CAP_EN : RField := ⟨.TH_ORDER_RACK, 16, 16⟩
abbrev fTH_ORDER_RACK_CAP_W : RField := ⟨.TH_ORDER_RACK, 15, 0⟩
abbrev fTH_ORDER_EFF_REMAIN_MS : RField := ⟨.TH_ORDER_EFF, 63, 32⟩
abbrev fTH_ORDER_EFF_EMERG_HOLD : RField := ⟨.TH_ORDER_EFF, 31, 31⟩
abbrev fTH_ORDER_EFF_STATE : RField := ⟨.TH_ORDER_EFF, 25, 24⟩
abbrev fTH_ORDER_EFF_CAP_EN : RField := ⟨.TH_ORDER_EFF, 16, 16⟩
abbrev fTH_ORDER_EFF_CAP_W : RField := ⟨.TH_ORDER_EFF, 15, 0⟩
abbrev fTH_SOFT_SLEW_W : RField := ⟨.TH_SOFT, 63, 48⟩
abbrev fTH_SOFT_HEADROOM_W : RField := ⟨.TH_SOFT, 47, 32⟩
abbrev fTH_SOFT_RUN_VID : RField := ⟨.TH_SOFT, 31, 24⟩
abbrev fTH_SOFT_HYST : RField := ⟨.TH_SOFT, 23, 16⟩
abbrev fTH_SOFT_THROTTLE : RField := ⟨.TH_SOFT, 15, 0⟩
abbrev fTH_HARD_T_OUT_TRIP : RField := ⟨.TH_HARD_T, 31, 16⟩
abbrev fTH_HARD_T_TJ_TRIP : RField := ⟨.TH_HARD_T, 15, 0⟩
abbrev fTH_HARD_FLOW_RESUME_MS : RField := ⟨.TH_HARD_FLOW, 63, 48⟩
abbrev fTH_HARD_FLOW_RESUME_Q : RField := ⟨.TH_HARD_FLOW, 47, 32⟩
abbrev fTH_HARD_FLOW_FALL_PCT : RField := ⟨.TH_HARD_FLOW, 31, 24⟩
abbrev fTH_HARD_FLOW_FALL_MS : RField := ⟨.TH_HARD_FLOW, 23, 16⟩
abbrev fTH_HARD_FLOW_LOSS_Q : RField := ⟨.TH_HARD_FLOW, 15, 0⟩
abbrev fTH_HARD_LEAK_LEAK_MS : RField := ⟨.TH_HARD_LEAK, 31, 16⟩
abbrev fTH_HARD_LEAK_USE : RField := ⟨.TH_HARD_LEAK, 3, 0⟩
abbrev fTH_HARD_EMERG_INPUTS : RField := ⟨.TH_HARD_EMERG, 15, 12⟩
abbrev fTH_HARD_EMERG_IN_EN : RField := ⟨.TH_HARD_EMERG, 8, 8⟩
abbrev fTH_HARD_EMERG_OUT : RField := ⟨.TH_HARD_EMERG, 3, 0⟩
abbrev fTH_CURVE_CAP_W : RField := ⟨.TH_CURVE, 47, 32⟩
abbrev fTH_CURVE_FLOW : RField := ⟨.TH_CURVE, 31, 16⟩
abbrev fTH_CURVE_INLET : RField := ⟨.TH_CURVE, 15, 0⟩
abbrev fTH_CURVE_STG_CAP_W : RField := ⟨.TH_CURVE_STG, 47, 32⟩
abbrev fTH_CURVE_STG_FLOW : RField := ⟨.TH_CURVE_STG, 31, 16⟩
abbrev fTH_CURVE_STG_INLET : RField := ⟨.TH_CURVE_STG, 15, 0⟩
abbrev fTH_CURVE_CMD_POINT : RField := ⟨.TH_CURVE_CMD, 31, 16⟩
abbrev fTH_CURVE_CMD_RESULT : RField := ⟨.TH_CURVE_CMD, 15, 8⟩
abbrev fTH_CURVE_CMD_APPLY : RField := ⟨.TH_CURVE_CMD, 0, 0⟩
abbrev fTH_LEAK_LOOP : RField := ⟨.TH_LEAK, 15, 0⟩
abbrev fTH_TEN_DRAW_W : RField := ⟨.TH_TEN, 63, 48⟩
abbrev fTH_TEN_BREACH : RField := ⟨.TH_TEN, 34, 32⟩
abbrev fTH_TEN_SHARE : RField := ⟨.TH_TEN, 9, 0⟩
abbrev fTH_TENMAP0_SLOTS : RField := ⟨.TH_TENMAP0, 63, 0⟩
abbrev fTH_TENMAP1_SLOTS : RField := ⟨.TH_TENMAP1, 63, 0⟩
abbrev fCE_TSG_CFG_KIND : RField := ⟨.CE_TSG_CFG, 63, 60⟩
abbrev fCE_TSG_CFG_LOOP : RField := ⟨.CE_TSG_CFG, 59, 56⟩
abbrev fCE_TSG_CFG_POINT : RField := ⟨.CE_TSG_CFG, 55, 55⟩
abbrev fCE_TSG_CFG_AMP : RField := ⟨.CE_TSG_CFG, 31, 0⟩
abbrev fCE_TSG_TIME_LEN : RField := ⟨.CE_TSG_TIME, 63, 32⟩
abbrev fCE_TSG_TIME_DELAY : RField := ⟨.CE_TSG_TIME, 31, 16⟩
abbrev fCE_TSG_TIME_BIT : RField := ⟨.CE_TSG_TIME, 15, 0⟩
abbrev fCE_TSG_FREQ_F1 : RField := ⟨.CE_TSG_FREQ, 63, 32⟩
abbrev fCE_TSG_FREQ_F0 : RField := ⟨.CE_TSG_FREQ, 31, 0⟩
abbrev fCE_TSG_CMD_STOP : RField := ⟨.CE_TSG_CMD, 1, 1⟩
abbrev fCE_TSG_CMD_START : RField := ⟨.CE_TSG_CMD, 0, 0⟩
abbrev fCE_TSG_STAT_RESULT : RField := ⟨.CE_TSG_STAT, 15, 8⟩
abbrev fCE_TSG_STAT_RUNNING : RField := ⟨.CE_TSG_STAT, 0, 0⟩
abbrev fCE_CAP_CFG_DECIM : RField := ⟨.CE_CAP_CFG, 63, 48⟩
abbrev fCE_CAP_CFG_SIG : RField := ⟨.CE_CAP_CFG, 47, 40⟩
abbrev fCE_CAP_CFG_LOOP : RField := ⟨.CE_CAP_CFG, 39, 36⟩
abbrev fCE_CAP_CFG_TRIG : RField := ⟨.CE_CAP_CFG, 1, 1⟩
abbrev fCE_CAP_CFG_RING : RField := ⟨.CE_CAP_CFG, 0, 0⟩
abbrev fCE_CAP_CMD_STOP : RField := ⟨.CE_CAP_CMD, 1, 1⟩
abbrev fCE_CAP_CMD_START : RField := ⟨.CE_CAP_CMD, 0, 0⟩
abbrev fCE_CAP_STAT_RESULT : RField := ⟨.CE_CAP_STAT, 31, 24⟩
abbrev fCE_CAP_STAT_WRAPPED : RField := ⟨.CE_CAP_STAT, 18, 18⟩
abbrev fCE_CAP_STAT_RUNNING : RField := ⟨.CE_CAP_STAT, 17, 17⟩
abbrev fCE_CAP_STAT_COUNT : RField := ⟨.CE_CAP_STAT, 16, 0⟩
abbrev fCE_LOOP_CFG_PERIOD : RField := ⟨.CE_LOOP_CFG, 63, 48⟩
abbrev fCE_LOOP_CFG_PV_SRC : RField := ⟨.CE_LOOP_CFG, 47, 40⟩
abbrev fCE_LOOP_CFG_SP_SRC : RField := ⟨.CE_LOOP_CFG, 39, 32⟩
abbrev fCE_LOOP_CFG_FF_SRC : RField := ⟨.CE_LOOP_CFG, 31, 24⟩
abbrev fCE_LOOP_CFG_DEST : RField := ⟨.CE_LOOP_CFG, 19, 16⟩
abbrev fCE_LOOP_CFG_MODE : RField := ⟨.CE_LOOP_CFG, 1, 0⟩
abbrev fCE_LOOP_SAFE_SAFE_MAX : RField := ⟨.CE_LOOP_SAFE, 63, 32⟩
abbrev fCE_LOOP_SAFE_SAFE_MIN : RField := ⟨.CE_LOOP_SAFE, 31, 0⟩
abbrev fCE_LOOP_SUP_FE_LIMIT : RField := ⟨.CE_LOOP_SUP, 63, 32⟩
abbrev fCE_LOOP_SUP_ACTION : RField := ⟨.CE_LOOP_SUP, 31, 28⟩
abbrev fCE_LOOP_SUP_FE_TIME_MS : RField := ⟨.CE_LOOP_SUP, 23, 0⟩
abbrev fCE_LOOP_FS_FS_OUT : RField := ⟨.CE_LOOP_FS, 31, 0⟩
abbrev fCE_LOOP_SP_SP : RField := ⟨.CE_LOOP_SP, 31, 0⟩
abbrev fCE_LOOP_MAN_MAN : RField := ⟨.CE_LOOP_MAN, 31, 0⟩
abbrev fCE_LOOP_CTL_SWAP_PEND : RField := ⟨.CE_LOOP_CTL, 2, 2⟩
abbrev fCE_LOOP_CTL_CLR_FAULT : RField := ⟨.CE_LOOP_CTL, 1, 1⟩
abbrev fCE_LOOP_CTL_SWAP : RField := ⟨.CE_LOOP_CTL, 0, 0⟩
abbrev fCE_LOOP_STAT_RESULT : RField := ⟨.CE_LOOP_STAT, 15, 8⟩
abbrev fCE_LOOP_STAT_SET : RField := ⟨.CE_LOOP_STAT, 4, 4⟩
abbrev fCE_LOOP_STAT_STATE : RField := ⟨.CE_LOOP_STAT, 2, 0⟩
abbrev fCE_LOOP_OUT_U : RField := ⟨.CE_LOOP_OUT, 63, 32⟩
abbrev fCE_LOOP_OUT_E : RField := ⟨.CE_LOOP_OUT, 31, 0⟩
abbrev fCE_LOOP_I_I : RField := ⟨.CE_LOOP_I, 47, 0⟩
abbrev fCE_LOOP_SET0_KI : RField := ⟨.CE_LOOP_SET0, 63, 32⟩
abbrev fCE_LOOP_SET0_KP : RField := ⟨.CE_LOOP_SET0, 31, 0⟩
abbrev fCE_LOOP_SET1_KDF : RField := ⟨.CE_LOOP_SET1, 63, 32⟩
abbrev fCE_LOOP_SET1_KD : RField := ⟨.CE_LOOP_SET1, 31, 0⟩
abbrev fCE_LOOP_SET2_BIAS : RField := ⟨.CE_LOOP_SET2, 63, 32⟩
abbrev fCE_LOOP_SET2_KFF : RField := ⟨.CE_LOOP_SET2, 31, 0⟩
abbrev fCE_LOOP_SET3_OUT_MAX : RField := ⟨.CE_LOOP_SET3, 63, 32⟩
abbrev fCE_LOOP_SET3_OUT_MIN : RField := ⟨.CE_LOOP_SET3, 31, 0⟩
abbrev fCE_FLOW_CFG_K : RField := ⟨.CE_FLOW_CFG, 63, 32⟩
abbrev fCE_FLOW_CFG_SPAN : RField := ⟨.CE_FLOW_CFG, 31, 16⟩
abbrev fCE_FLOW_CFG_MODE : RField := ⟨.CE_FLOW_CFG, 1, 0⟩
abbrev fCE_AIN_CFG_SPAN : RField := ⟨.CE_AIN_CFG, 31, 16⟩
abbrev fCE_AIN_CFG_MODE : RField := ⟨.CE_AIN_CFG, 1, 0⟩
abbrev fCE_LEAK_CFG_EOL_OHM : RField := ⟨.CE_LEAK_CFG, 31, 0⟩
abbrev fCE_AIN_VAL_VALUE : RField := ⟨.CE_AIN_VAL, 31, 0⟩
abbrev fCE_FLOW_VAL_MLMIN : RField := ⟨.CE_FLOW_VAL, 31, 0⟩
abbrev fSV_PROF0_PEAK_US : RField := ⟨.SV_PROF0, 63, 48⟩
abbrev fSV_PROF0_HOLD_MS : RField := ⟨.SV_PROF0, 47, 32⟩
abbrev fSV_PROF0_HOLD_MA : RField := ⟨.SV_PROF0, 31, 16⟩
abbrev fSV_PROF0_PEAK_MA : RField := ⟨.SV_PROF0, 15, 0⟩
abbrev fSV_PROF1_DIP_MAX_US : RField := ⟨.SV_PROF1, 63, 48⟩
abbrev fSV_PROF1_DIP_MIN_US : RField := ⟨.SV_PROF1, 47, 32⟩
abbrev fSV_PROF1_TTP_MAX_US : RField := ⟨.SV_PROF1, 31, 16⟩
abbrev fSV_PROF1_TTP_MIN_US : RField := ⟨.SV_PROF1, 15, 0⟩
abbrev fSV_PROF2_RETRY : RField := ⟨.SV_PROF2, 33, 33⟩
abbrev fSV_PROF2_MODE : RField := ⟨.SV_PROF2, 32, 32⟩
abbrev fSV_PROF2_DEFER_MAX_US : RField := ⟨.SV_PROF2, 15, 0⟩
abbrev fSV_CFG_PROFILE : RField := ⟨.SV_CFG, 1, 0⟩
abbrev fSV_CMD_ON : RField := ⟨.SV_CMD, 0, 0⟩
abbrev fSV_STAT_OVERRIDE : RField := ⟨.SV_STAT, 15, 15⟩
abbrev fSV_STAT_RETRIED : RField := ⟨.SV_STAT, 14, 14⟩
abbrev fSV_STAT_OPEN_RECOVERY : RField := ⟨.SV_STAT, 7, 7⟩
abbrev fSV_STAT_OPEN : RField := ⟨.SV_STAT, 6, 6⟩
abbrev fSV_STAT_DEFER_LONG : RField := ⟨.SV_STAT, 5, 5⟩
abbrev fSV_STAT_STUCK : RField := ⟨.SV_STAT, 4, 4⟩
abbrev fSV_STAT_TTP_SLOW : RField := ⟨.SV_STAT, 3, 3⟩
abbrev fSV_STAT_PHASE : RField := ⟨.SV_STAT, 2, 0⟩
abbrev fSV_FAULT_SHORT : RField := ⟨.SV_FAULT, 0, 0⟩
abbrev fSV_MEAS_TTP_US : RField := ⟨.SV_MEAS, 63, 48⟩
abbrev fSV_MEAS_DIP_US : RField := ⟨.SV_MEAS, 47, 32⟩
abbrev fSV_MEAS_DEFER_US : RField := ⟨.SV_MEAS, 31, 16⟩
abbrev fSV_MEAS_I_MA : RField := ⟨.SV_MEAS, 15, 0⟩
abbrev fSV_BOOST_V_MV : RField := ⟨.SV_BOOST, 31, 16⟩
abbrev fSV_BOOST_LOW : RField := ⟨.SV_BOOST, 1, 1⟩
abbrev fSV_BOOST_CHARGING : RField := ⟨.SV_BOOST, 0, 0⟩
abbrev fFP_CFG_KIND : RField := ⟨.FP_CFG, 63, 60⟩
abbrev fFP_CFG_SOURCE : RField := ⟨.FP_CFG, 59, 56⟩
abbrev fFP_CFG_ZONES : RField := ⟨.FP_CFG, 47, 40⟩
abbrev fFP_CFG_PWM_KHZ : RField := ⟨.FP_CFG, 39, 32⟩
abbrev fFP_CFG_POL : RField := ⟨.FP_CFG, 31, 31⟩
abbrev fFP_CFG_TACH_PPR : RField := ⟨.FP_CFG, 23, 16⟩
abbrev fFP_CFG_MIN_PCT : RField := ⟨.FP_CFG, 15, 0⟩
abbrev fFP_SUP_TACH_MIN_RPM : RField := ⟨.FP_SUP, 63, 48⟩
abbrev fFP_SUP_TACH_TIME_MS : RField := ⟨.FP_SUP, 47, 32⟩
abbrev fFP_SUP_SPIN_TIME_MS : RField := ⟨.FP_SUP, 31, 16⟩
abbrev fFP_SUP_START_PCT : RField := ⟨.FP_SUP, 15, 0⟩
abbrev fFP_ISUP_I_LOCK_MA : RField := ⟨.FP_ISUP, 63, 48⟩
abbrev fFP_ISUP_I_RUN_MA : RField := ⟨.FP_ISUP, 47, 32⟩
abbrev fFP_ISUP_RETRY_S : RField := ⟨.FP_ISUP, 31, 16⟩
abbrev fFP_ISUP_RAMP_DN : RField := ⟨.FP_ISUP, 15, 0⟩
abbrev fFP_FIXED_PCT : RField := ⟨.FP_FIXED, 15, 0⟩
abbrev fFP_STAT_RPM : RField := ⟨.FP_STAT, 63, 48⟩
abbrev fFP_STAT_I_MA : RField := ⟨.FP_STAT, 47, 32⟩
abbrev fFP_STAT_DRIVE : RField := ⟨.FP_STAT, 31, 16⟩
abbrev fFP_STAT_CAUSE : RField := ⟨.FP_STAT, 15, 12⟩
abbrev fFP_STAT_ATTEMPT : RField := ⟨.FP_STAT, 11, 8⟩
abbrev fFP_STAT_BLOCKED : RField := ⟨.FP_STAT, 4, 4⟩
abbrev fFP_STAT_OPEN : RField := ⟨.FP_STAT, 3, 3⟩
abbrev fFP_STAT_TACH_WIRE : RField := ⟨.FP_STAT, 2, 2⟩
abbrev fFP_STAT_SLOW : RField := ⟨.FP_STAT, 1, 1⟩
abbrev fFP_ZONE_SRC_SOURCE : RField := ⟨.FP_ZONE_SRC, 7, 0⟩
abbrev fFP_ZONE_PT_X : RField := ⟨.FP_ZONE_PT, 31, 16⟩
abbrev fFP_ZONE_PT_Y : RField := ⟨.FP_ZONE_PT, 15, 0⟩
abbrev fTB_CTL_BRS_EN : RField := ⟨.TB_CTL, 9, 9⟩
abbrev fTB_CTL_FD_EN : RField := ⟨.TB_CTL, 8, 8⟩
abbrev fTB_CTL_AUTORATE : RField := ⟨.TB_CTL, 5, 5⟩
abbrev fTB_CTL_RECOVER : RField := ⟨.TB_CTL, 4, 4⟩
abbrev fTB_CTL_MODE : RField := ⟨.TB_CTL, 1, 0⟩
abbrev fTB_STAT_TEC : RField := ⟨.TB_STAT, 63, 56⟩
abbrev fTB_STAT_REC : RField := ⟨.TB_STAT, 55, 48⟩
abbrev fTB_STAT_NODE : RField := ⟨.TB_STAT, 47, 42⟩
abbrev fTB_STAT_TXEN : RField := ⟨.TB_STAT, 15, 15⟩
abbrev fTB_STAT_NODE_BAD : RField := ⟨.TB_STAT, 14, 14⟩
abbrev fTB_STAT_SLOWDATA : RField := ⟨.TB_STAT, 13, 13⟩
abbrev fTB_STAT_COLL : RField := ⟨.TB_STAT, 12, 12⟩
abbrev fTB_STAT_OVERRUN : RField := ⟨.TB_STAT, 11, 11⟩
abbrev fTB_STAT_STATE : RField := ⟨.TB_STAT, 3, 0⟩
abbrev fTB_NOM_BRP : RField := ⟨.TB_NOM, 31, 24⟩
abbrev fTB_NOM_TSEG1 : RField := ⟨.TB_NOM, 23, 16⟩
abbrev fTB_NOM_TSEG2 : RField := ⟨.TB_NOM, 14, 8⟩
abbrev fTB_NOM_SJW : RField := ⟨.TB_NOM, 6, 0⟩
abbrev fTB_DATA_TDC_EN : RField := ⟨.TB_DATA, 31, 31⟩
abbrev fTB_DATA_TDCO : RField := ⟨.TB_DATA, 30, 24⟩
abbrev fTB_DATA_BRP : RField := ⟨.TB_DATA, 20, 16⟩
abbrev fTB_DATA_TSEG1 : RField := ⟨.TB_DATA, 12, 8⟩
abbrev fTB_DATA_TSEG2 : RField := ⟨.TB_DATA, 7, 4⟩
abbrev fTB_DATA_SJW : RField := ⟨.TB_DATA, 3, 0⟩
abbrev fTB_CFG_AUTO : RField := ⟨.TB_CFG, 63, 63⟩
abbrev fTB_CFG_ORW_EN : RField := ⟨.TB_CFG, 62, 62⟩
abbrev fTB_CFG_FWD_MAX : RField := ⟨.TB_CFG, 55, 48⟩
abbrev fTB_CFG_FWD_SEV : RField := ⟨.TB_CFG, 41, 40⟩
abbrev fTB_CFG_STAT_MS : RField := ⟨.TB_CFG, 31, 16⟩
abbrev fTB_AUTO_CYCLES : RField := ⟨.TB_AUTO, 31, 16⟩
abbrev fTB_AUTO_DCAND : RField := ⟨.TB_AUTO, 15, 12⟩
abbrev fTB_AUTO_NCAND : RField := ⟨.TB_AUTO, 11, 8⟩
abbrev fTB_AUTO_COUNT : RField := ⟨.TB_AUTO, 7, 4⟩
abbrev fTB_AUTO_LOCKED_DATA : RField := ⟨.TB_AUTO, 1, 1⟩
abbrev fTB_AUTO_LOCKED_NOM : RField := ⟨.TB_AUTO, 0, 0⟩
abbrev fTB_ERRCNT_BUSOFFS : RField := ⟨.TB_ERRCNT, 63, 48⟩
abbrev fTB_ERRCNT_BIT : RField := ⟨.TB_ERRCNT, 47, 40⟩
abbrev fTB_ERRCNT_STUFF : RField := ⟨.TB_ERRCNT, 39, 32⟩
abbrev fTB_ERRCNT_FORM : RField := ⟨.TB_ERRCNT, 31, 24⟩
abbrev fTB_ERRCNT_CRC : RField := ⟨.TB_ERRCNT, 23, 16⟩
abbrev fTB_ERRCNT_ACK : RField := ⟨.TB_ERRCNT, 15, 8⟩
abbrev fTB_FWD_PTR : RField := ⟨.TB_FWD, 13, 0⟩
abbrev fTB_ORW_STAT_BAD : RField := ⟨.TB_ORW_STAT, 31, 16⟩
abbrev fTB_ORW_STAT_ORDER_SEQ : RField := ⟨.TB_ORW_STAT, 15, 0⟩
abbrev fTB_FILT_ID_EN : RField := ⟨.TB_FILT_ID, 31, 31⟩
abbrev fTB_FILT_ID_IDE : RField := ⟨.TB_FILT_ID, 30, 30⟩
abbrev fTB_FILT_ID_ID : RField := ⟨.TB_FILT_ID, 28, 0⟩
abbrev fTB_FILT_MASK_MASK : RField := ⟨.TB_FILT_MASK, 28, 0⟩
abbrev fTB_FILT_BUF_OVR : RField := ⟨.TB_FILT_BUF, 31, 16⟩
abbrev fTB_FILT_BUF_MODE : RField := ⟨.TB_FILT_BUF, 15, 14⟩
abbrev fTB_FILT_BUF_COUNT : RField := ⟨.TB_FILT_BUF, 13, 8⟩
abbrev fTB_FILT_BUF_FIRST : RField := ⟨.TB_FILT_BUF, 4, 0⟩
abbrev fTB_FILT_HITS_HITS : RField := ⟨.TB_FILT_HITS, 31, 0⟩
abbrev fTB_TXB_ID_IDE : RField := ⟨.TB_TXB_ID, 30, 30⟩
abbrev fTB_TXB_ID_ID : RField := ⟨.TB_TXB_ID, 28, 0⟩
abbrev fTB_TXB_CTRL_LIFETIME_MS : RField := ⟨.TB_TXB_CTRL, 31, 16⟩
abbrev fTB_TXB_CTRL_LT_EN : RField := ⟨.TB_TXB_CTRL, 15, 15⟩
abbrev fTB_TXB_CTRL_RETRY : RField := ⟨.TB_TXB_CTRL, 11, 8⟩
abbrev fTB_TXB_CTRL_FDF : RField := ⟨.TB_TXB_CTRL, 7, 7⟩
abbrev fTB_TXB_CTRL_BRS : RField := ⟨.TB_TXB_CTRL, 6, 6⟩
abbrev fTB_TXB_CTRL_DLC : RField := ⟨.TB_TXB_CTRL, 3, 0⟩
abbrev fTB_TXB_CMD_ATTEMPTS : RField := ⟨.TB_TXB_CMD, 31, 24⟩
abbrev fTB_TXB_CMD_STATUS : RField := ⟨.TB_TXB_CMD, 18, 16⟩
abbrev fTB_TXB_CMD_ABORT : RField := ⟨.TB_TXB_CMD, 1, 1⟩
abbrev fTB_TXB_CMD_REQ : RField := ⟨.TB_TXB_CMD, 0, 0⟩
abbrev fTB_TXB_DATA_DATA : RField := ⟨.TB_TXB_DATA, 31, 0⟩
abbrev fTB_RXB_ID_IDE : RField := ⟨.TB_RXB_ID, 30, 30⟩
abbrev fTB_RXB_ID_ID : RField := ⟨.TB_RXB_ID, 28, 0⟩
abbrev fTB_RXB_CTRL_STATE : RField := ⟨.TB_RXB_CTRL, 31, 30⟩
abbrev fTB_RXB_CTRL_FILTER : RField := ⟨.TB_RXB_CTRL, 23, 20⟩
abbrev fTB_RXB_CTRL_FDF : RField := ⟨.TB_RXB_CTRL, 7, 7⟩
abbrev fTB_RXB_CTRL_BRS : RField := ⟨.TB_RXB_CTRL, 6, 6⟩
abbrev fTB_RXB_CTRL_ESI : RField := ⟨.TB_RXB_CTRL, 5, 5⟩
abbrev fTB_RXB_CTRL_DLC : RField := ⟨.TB_RXB_CTRL, 3, 0⟩
abbrev fTB_RXB_TS_TS : RField := ⟨.TB_RXB_TS, 31, 0⟩
abbrev fTB_RXB_DATA_DATA : RField := ⟨.TB_RXB_DATA, 31, 0⟩
abbrev fWD_RST_CMD_GO : RField := ⟨.WD_RST_CMD, 16, 16⟩
abbrev fWD_RST_CMD_UNIT : RField := ⟨.WD_RST_CMD, 15, 0⟩
abbrev fWD_RST_STAT_BUSY : RField := ⟨.WD_RST_STAT, 31, 31⟩
abbrev fWD_RST_STAT_KIND : RField := ⟨.WD_RST_STAT, 23, 20⟩
abbrev fWD_RST_STAT_CAUSE : RField := ⟨.WD_RST_STAT, 19, 16⟩
abbrev fWD_RST_STAT_RESULT : RField := ⟨.WD_RST_STAT, 7, 0⟩
abbrev fWD_PKG_STAT_WAIT_MS : RField := ⟨.WD_PKG_STAT, 63, 32⟩
abbrev fWD_PKG_STAT_STEP : RField := ⟨.WD_PKG_STAT, 15, 12⟩
abbrev fWD_PKG_STAT_SAVE_OK : RField := ⟨.WD_PKG_STAT, 7, 7⟩
abbrev fWD_PKG_STAT_SAVING : RField := ⟨.WD_PKG_STAT, 6, 6⟩
abbrev fWD_PKG_STAT_PWRFAIL : RField := ⟨.WD_PKG_STAT, 5, 5⟩
abbrev fWD_PKG_STAT_RESTORED : RField := ⟨.WD_PKG_STAT, 4, 4⟩
abbrev fWD_PKG_STAT_STATE : RField := ⟨.WD_PKG_STAT, 2, 0⟩
abbrev fWD_DIE_PWR_ACT : RField := ⟨.WD_DIE_PWR, 9, 8⟩
abbrev fWD_DIE_PWR_REQ : RField := ⟨.WD_DIE_PWR, 1, 0⟩
abbrev fWD_FLASH_CMD_LEN : RField := ⟨.WD_FLASH_CMD, 63, 32⟩
abbrev fWD_FLASH_CMD_TABLE : RField := ⟨.WD_FLASH_CMD, 23, 16⟩
abbrev fWD_FLASH_CMD_OP : RField := ⟨.WD_FLASH_CMD, 3, 0⟩
abbrev fWD_FLASH_STAT_BUSY : RField := ⟨.WD_FLASH_STAT, 31, 31⟩
abbrev fWD_FLASH_STAT_TABLE : RField := ⟨.WD_FLASH_STAT, 15, 8⟩
abbrev fWD_FLASH_STAT_RESULT : RField := ⟨.WD_FLASH_STAT, 7, 0⟩
abbrev fWD_FLASH_TBL_SEQ : RField := ⟨.WD_FLASH_TBL, 63, 32⟩
abbrev fWD_FLASH_TBL_COPY : RField := ⟨.WD_FLASH_TBL, 7, 6⟩
abbrev fWD_FLASH_TBL_LOAD : RField := ⟨.WD_FLASH_TBL, 3, 0⟩

end Sys2Proof.Machine
end

