-- ==== Sys2Proof/Machine/Lat.lean ====
section
/-! DEFINITION. The latches: numbers and single bits of the block's state that the spec describes in
its rules and gives no register (a hold, a count, a time, a cause). Each is named here with its rule;
a die (or 0) and an index stand beside the name (`State.lat`). Every latch is 0 after reset. -/

namespace Sys2Proof.Machine

/-- The latch names. -/
inductive Lat where
  /-- 1 while a mesh stop holds new flits back for a new route (R20); by die. -/
  | routeHold
  /-- Replays made on a mesh link (R21); by die and link. -/
  | meshReplays
  /-- Tokens an event-limit entry lacks of a full bucket, in 10⁻¹² of a token (R407); by entry. -/
  | evDeficit
  /-- Nanosecond counter when a limit entry was last used (R407); by entry. -/
  | evLast
  /-- Occurrences skipped since a limit entry last let a record through (R407); by entry. -/
  | evSkipped
  /-- MSI-X messages sent on a vector (Table LNK-4); by host port and vector. -/
  | msixSent
  /-- 1 once the word of a STEP has retired (R82); by package spindle number. -/
  | stepDone
  /-- 1 for a slot whose physical spindle is retired and has no spare (R349, Table SP-8); by package
  spindle number. -/
  | slotRetired
  /-- 1 while a mesh stop is retired (R22, R23); by die. -/
  | stopRetired
  /-- Spool words of a ply past their commit point (R172); by its lead's package spindle number. -/
  | cleared
  /-- Result of the ply command that runs, plus 1 (Table PLY-7); by die. -/
  | plyResult
  /-- Identity of the ply the running command produced or kept (R187); by die. -/
  | plyId
  /-- Completion doorbell of the running command: DBE (R187); by die. -/
  | plyDbe
  /-- Completion doorbell of the running command: DBBIT (R187); by die. -/
  | plyDbbit
  /-- Completion doorbell target of the running command (R187); by die. -/
  | plyDbTarget
  /-- Unit whose fault is to start a rollback, plus 1 (R365). -/
  | rollbackDue
  /-- Conditions of R374 that have failed for the rollback due or running: bit n for condition n. -/
  | rollbackFail
  /-- 1 for an enrolled unit that was RUNNING or WAITING when a trigger or the rollback stopped it (R367);
  by enrolment entry. -/
  | runAfter
  /-- Doorbell bits that arrived since the rollback stopped the members (R368); by package spindle number. -/
  | dbArrived
  /-- 1 for a retired pseudo-channel whose blocks the spare carve can hold (R228); by die and channel. -/
  | pcFits
  /-- 1 once EV 0x8112 has been recorded for a die (R350); by die. -/
  | noSpare
  /-- 1 after a mesh-stop rail trip until a DIE reset of its die (R23); by die. -/
  | msReset
  /-- 1 while a twin waits to enter RETAIN (R537); by die and twin. -/
  | retainDue
  /-- 1 while a die is in DIE reset (R528); by die. -/
  | inReset
  /-- 1 once EV 0x3403 has been recorded for a write since the CXL port entered LOST (R281); by port. -/
  | cxlWrote
  /-- 1 while a die is retired (R352); by die. -/
  | dieRetired
  /-- A quarry's loss (R225): 1 lost, 2 its partner answers for it; by die. -/
  | quarryLost
  /-- QD_SKEIN_STAT.UNMIRRORED of a lost quarry as read before the loss (R234); by die. -/
  | quarryUnmir
  /-- The partner of a lost quarry, plus 1 (R225); by die. -/
  | quarryPartner
  /-- The quarry that serves a region of a lost quarry from its copy, plus 1 (R225); by die and slot. -/
  | servedBy
  /-- Sequence number of the next skein record (Table QD-7); by die. -/
  | skeinSeq
  /-- 1 once EV 0x2140 has been recorded in this epoch (R230); by die. -/
  | fullSeen
  /-- 1 once EV 0x2141 has been recorded in this epoch (R231); by die. -/
  | markSeen
  /-- 1 while a QUIESCE waits for accepted changes (R233); by die. -/
  | quiesceDue
  /-- 1 while a quarry rolls back (R233); by die. -/
  | rollingBack
  /-- Slot of the region command that runs, plus 1 (R204, R205); by die. -/
  | rgnDue
  /-- Rows a stalled table word has changed, plus 1 (R230); by package spindle number. -/
  | tblDone
  /-- Slot of a region an unfinished table word works on, plus 1 + 256 * quarry (R205); by package spindle number. -/
  | tblFly
  /-- 1 while flows to a destination package hold new flits back (R298); by package. -/
  | flowHold
  /-- Retrains in a row that failed at a warp port (R293); by port. -/
  | warpFails
  /-- Replays of the oldest flit not acknowledged (R292); by port. -/
  | warpReplays
  /-- SEQ of the next data flit expected (R291); by port. -/
  | warpExpect
  /-- 1 while later flits are dropped until the expected one comes (R291); by port. -/
  | warpDrop
  /-- SEQ of the last data flit acknowledged to this port (R290); by port. -/
  | warpAcked
  /-- Flits kept in a warp port's replay buffer (R290); by port. -/
  | warpUnacked
  /-- 1 while a warden is held in reset because it is retired (R353); by die. -/
  | wardenHeld
  /-- The fraction bit of the nanosecond counter (R322). -/
  | timeHalf
  /-- Thirds of an engine slot completed beyond QD_ENG_SLOTS (Table QD-8); by die. -/
  | slotThird
  /-- The line a test controller has borrowed, plus 1, with the spindle slot times 8192 (R259); by die. -/
  | mtestLine
  /-- Spare columns of a group brought into use in the field (R266); by die and ((spindle * 4 + bank) * 16 +
  sub-array) * 36 + group. -/
  | colrepSpares
  /-- Field repair records used on a die (R267); by die. -/
  | colrepRecords
  /-- The high half latched by a read of the low half of a 64-bit register, plus 1 (R8); by die window and offset. -/
  | halfHigh
  /-- 1 while the next accumulating word of a spindle is to fail its residue check once (R378); by unit. -/
  | injReplay
  /-- 1 while the next read-out of a spindle is to fail (R378); by unit. -/
  | injReadout
  /-- 1 while a rollback the host ordered in HELD runs without the guarantee (R377). -/
  | unguarded
  /-- 1 for a package of the group whose READY the leader holds (R364); by package. -/
  | groupReady
  /-- 1 once this package has sent READY to the leader, until the leader decides (R364). -/
  | groupSent
  /-- The last group message sent to a package: 1 READY, 2 COMMIT, 3 ABORT, 4 ROLLBACK (R364); by package. -/
  | groupMsg
  /-- 1 while a host port's PERST_N is asserted (R269, R527); by port. -/
  | perst
  /-- A PKG reset that waits for a power-fail save to end: its cause plus 1 (R530). -/
  | pkgDue
  /-- Serial number of the expander a CXL port had before a RETRAIN, plus 1 (R282); by port. -/
  | cxlWasSn
  /-- Mapped capacity a CXL port had before a RETRAIN (R282); by port. -/
  | cxlWasCap
  /-- 1 for a collective group that lost a member, until it is loaded again (R309); by group. -/
  | collLost
  /-- Data flits received in order since a warp port last acknowledged (R290); by port. -/
  | warpSince
  /-- 1 after the first write of a kick (R387); by warden die. -/
  | kicked
  /-- 1 while a wake of a compute die waits for flow to be proven (R401); by die. -/
  | wakeDue
  /-- The word a field fuse program writes (R417); by warden die. -/
  | fuseWord
  /-- The bits a field fuse program is to blow (R417); by warden die. -/
  | fuseData
  /-- Rate slew of the nanosecond counter not yet applied, in 10⁻⁸ of half a nanosecond (R326). -/
  | adjAcc
  /-- Nanoseconds to be added at the next serial word (R326). -/
  | timeStep
  /-- Energy of a twin below 1 µJ, in 10⁻⁶ µJ (Table FL-7); by die and twin. -/
  | ujFrac
  /-- Trim of the twin and die meters in 10⁻⁶, plus 1 (R336). -/
  | meterTrim
  /-- A probe of a twin: 1 runs, 2 a window of it was below GUARD (R317); by die and twin. -/
  | probe
  /-- Nanosecond counter when a probe of a twin last failed, plus 1 (R317); by die and twin. -/
  | probeFailed
  /-- 1 while the thermal policy asks for a VID below FLOOR (R317); by die and twin. -/
  | vidAsk
  /-- Slack windows left in which a twin makes no hardware raise (R315); by die and twin. -/
  | ilimEnd
  /-- Diode A of a diode pair outside the compute dies, 16-bit, 1/128 °C (R330, R420); by die and pair. -/
  | diodeA
  /-- Diode B of such a pair (R330); by die and pair. -/
  | diodeB
  /-- FAULT bits of such a pair (R330): bit 0 A, bit 1 B; by die and pair. -/
  | diodeFault
  /-- Consecutive conversions diode A held one value, at most 2,000 (R418); by die and hot spot. -/
  | sameA
  /-- Consecutive conversions diode B held one value, at most 2,000 (R418); by die and hot spot. -/
  | sameB
  /-- Diodes beyond their offset limit: bit 0 A, bit 1 B (R334); by die and hot spot. -/
  | ofsFault
  /-- TA − TB at the last soak, 16-bit, 1/128 K (R333); by die and hot spot. -/
  | soakDiff
  /-- Lowest delay-thermometer point, 16-bit plus 1 (R331); by die and hot spot. -/
  | dLow
  /-- Highest delay-thermometer point, 16-bit plus 1 (R331); by die and hot spot. -/
  | dHigh
  /-- Zero offset of the coolant rise, 32-bit, 0.1 mK (R335). -/
  | dtZero
  /-- Consecutive valid balances within 1.5 % (R338). -/
  | hbGood
  /-- The meter trim in 1/3,600 of 0.01 %, 32-bit (R339). -/
  | trimAcc
  /-- Heat balances since the last valid one, plus 1 (Table TH-3). -/
  | lastGood
  /-- Metered power of a die in mW (R336, R418); by die. -/
  | dieMw
  /-- Pt1000 inputs that are invalid (R432). -/
  | coolBad
  /-- Flow inputs that are invalid (R432). -/
  | flowBad
  /-- Pressure and general inputs that are invalid (R454). -/
  | ainBad
  /-- Rows of Table TH-3 in force: bit 0 no inlet, 1 no outlet, 2 a flow input invalid. -/
  | coolRow
  /-- Row of Table TH-1 in force (R419); by die and hot spot. -/
  | hsRow
  /-- Trusted temperature of a hot spot, 16-bit, 1/128 °C (R419); by die and hot spot. -/
  | hsTemp
  /-- 1 while a quarry or I/O die is above THROTTLE (R445), or a compute die is throttled (R427); by die. -/
  | dieHot
  /-- 1 while a compute die holds a twin gated for temperature (R427); by die. -/
  | dieGated
  /-- Issue duty of a twin, 0 to 16 (R429); by die and twin. -/
  | duty
  /-- Duty steps of a twin taken for temperature (R427, R444); by die and twin. -/
  | thermDuty
  /-- Policy cycles a throttled twin has stayed below THROTTLE − HYST (R430); by die and twin. -/
  | coolFor
  /-- Causes that hold the idle clamp: 1 flow loss, 2 excursion, 4 cap below the clamp (R431). -/
  | clampCause
  /-- Consecutive policy cycles with P_IN above the effective cap (R426). -/
  | capOver
  /-- Consecutive policy cycles with P_IN below the effective cap (R426). -/
  | capUnder
  /-- The ramp cap in W (R435). -/
  | rampCap
  /-- 1 in the 10 s after flow was restored (R435, R436). -/
  | pumpHold
  /-- 1 while a checked curve waits for the cycle boundary (R449). -/
  | curveDue
  /-- End of the running drain timer, plus 1 (R425). -/
  | drainEnd
  /-- Orders whose drain time has ended: bit 0 host, bit 1 rack (R425). -/
  | drained
  /-- 1 once an order was written after EMERG_N was received (R446). -/
  | orderSince
  /-- Causes of the EMERG_N drive in progress (R447). -/
  | emergCause
  /-- Time a leak loop has read other than DRY, in ms (R437); by loop. -/
  | leakMs
  /-- 1 while the latch has not stopped the actuators (R438). -/
  | leakDue
  /-- 1 while the leak record is to be written (R533). -/
  | leakRecord
  /-- 1 while a stack grants half its slots (R445); by die and stack. -/
  | hotStack
  /-- Guarantees in breach: bit 0 power, 1 gather rate, 2 capacity (R444); by tenancy. -/
  | breached
  /-- Draw of a tenancy summed over the cycles of 100 ms, in mW (R443); by tenancy. -/
  | drawSum
  /-- Policy cycles in that sum (R443). -/
  | drawN
  /-- 1 while an ordered shutdown waits to start (R545). -/
  | shutdownDue
  /-- Step of Table RST-10 that runs (R545). -/
  | downStep
  /-- Why the package stands in OFF: 1 order, 2 input, 3 PWRFAIL_N, 4 input, back in its band (R535). -/
  | offCause
  /-- Nanosecond counter when the bring-up step began (Table RST-13). -/
  | stepSince
  /-- 1 in a bring-up that skips the soak (R541). -/
  | soakSkip
  /-- Reset other than POR whose bring-up is to write WD_RST_STAT: kind * 16 + cause; 256 once written (R526). -/
  | lastReset
  /-- 1 while VSTBY is down (R525). -/
  | noPower
  /-- 1 while the save area is to be erased (R549). -/
  | eraseDue
  /-- 1 while VSTBY_OUT is folded back (R553). -/
  | foldback
  /-- Unit of the commanded reset that runs, plus 1 (R526). -/
  | rstUnit
  /-- Bytes a flash program writes (R540). -/
  | flashLen
  /-- Filter state d of a loop, 48-bit (R457); by warden die and loop. -/
  | loopD
  /-- Process variable of a loop at its last sample, 48-bit (R457); by warden die and loop. -/
  | loopPv
  /-- Output of a loop at its last sample, 48-bit (R462); by warden die and loop. -/
  | loopU
  /-- 1 once a loop has sampled in AUTO or MANUAL (R464); by warden die and loop. -/
  | loopRan
  /-- 1 while CLR_FAULT waits for the boundary (R467); by warden die and loop. -/
  | loopClr
  /-- 1 after a sample in OVERRIDE (R458); by warden die and loop. -/
  | loopOver
  /-- Samples in a row beyond FE_LIMIT (R466); by warden die and loop. -/
  | feTime
  /-- Sample number of the test signal (R468). -/
  | tsgN
  /-- Shift register of the PRBS (R468). -/
  | tsgReg
  /-- Loop samples since the last captured frame (R470). -/
  | capDec
  /-- 1 when a command ON came during RECOVER (R475); by channel. -/
  | svExtend
  /-- 1 once a dip was seen in the peak (R473); by channel. -/
  | svDip
  /-- 1 while a channel waits to retry, 2 in the retried profile (R473); by channel. -/
  | svRetry
  /-- Nanosecond counter when a channel entered WAIT (R476); by channel. -/
  | svSince
  /-- Drive from which a fan and pump channel falls, plus 1 (R482); by channel. -/
  | fpDrive
  /-- Nanosecond counter when that fall began (R482); by channel. -/
  | fpAt
  /-- 1 between attempts of a spin-up, 2 while a blocked channel stays at 0 (R485); by channel. -/
  | fpPause
  /-- Messages of an Orwilos type sent, modulo 64 (R514); by type. -/
  | orwSeq
  /-- End of a transmit buffer's lifetime, plus 1 (R503); by warden die and buffer. -/
  | txLife
  /-- The buffer on the bus, plus 1 (R504); by warden die. -/
  | txNow
  /-- 1 once an attempt of a buffer met a bit error in the data field (R507); by warden die and buffer. -/
  | txData
  /-- What ends a buffer when its attempt fails: 1 lifetime, 2 abort (R506); by warden die and buffer. -/
  | txEnds
  /-- Nanosecond counters of the last bus-off entries, plus 1 (R511); by warden die and turn. -/
  | busOffAt
  /-- End of the rack order's lifetime, plus 1 (R516). -/
  | rackEnd
  /-- EVENT messages queued in the current second (R519). -/
  | fwdCount
  /-- The second they were queued in (R519). -/
  | fwdSec
  /-- 1 while a warden found no valid firmware copy (R539); by warden die. -/
  | noFirmware
  /-- The node ID strap sampled at POR, its bit 0 inverted (R491). -/
  | straps
  /-- 1 while a handover waits for the solenoid channels (R479). -/
  | handoverDue
  /-- Next sample a capture writes in the bank (R470). -/
  | capPos
  /-- 1 while a capture waits for the generator's start (R470). -/
  | capArm
  /-- The free value a stalled table word took its order among members from (R210); by package spindle number. -/
  | tblSeed
  /-- Nanosecond counter when a watchdog began to count (R387); by warden die. -/
  | kickAt
  /-- Nanosecond counter when the button window was opened or restarted (R413). -/
  | btnAt
  /-- Links and stop of a die that the route tables in force avoid: bits 0 to 3 links E, W, N, S, bit 4 the stop (R19); by
  die. -/
  | routeMask
  /-- 1 while the computed rail cap lies below 7,200 W (R27). -/
  | railLow
  /-- 1 after an overcurrent trip until a DIE reset of the die (R33); by die. -/
  | tripReset
  /-- 1 after an input trip until V_IN is back in its band (R28). -/
  | inputBad
  /-- The DMA-port source a bank served last, in the rotation (R240); by die and slot * 4 + bank. -/
  | bankTurn
  /-- 1 more than the idle handshakes of a scratchpad bank since its last access, 0 where it had none (R259); by die and
  slot * 4 + bank. -/
  | bankIdle
  /-- The target of the column repair that runs (R266); by warden die. -/
  | colrepTgt
  /-- The high half latched by a read of the low half of a 64-bit place of a state view, plus 1 (R8, R83); by package spindle
  number and place. -/
  | viewHigh
  /-- Key of the answers other packages give to the ply command that runs (R182); by die. -/
  | plyKey
  /-- 1 for an enrolled unit a rollback left LOST after it restored the epoch, 2 where it ran before (R191, R367); by enrolment
  entry. -/
  | epochBack
  /-- Slice offset below which the blocks of a channel whose rebuild stopped stand in the spare carve (R228); by die and channel. -/
  | pcReach
  /-- Blocks of a channel in the spare carve (R228); by die and channel. -/
  | pcKept
  /-- 1 for a region that lost a block while it was LOADING (R204, R228); by die and slot. -/
  | rgnHurt
  /-- Windows of 10 µs a twin has ended in its window of 10 ms (R318); by die and twin. -/
  | rateWin
  /-- Cycles its spindles completed in them (R318); by die and twin. -/
  | rateCyc
  /-- Windows of 10 ms in a row that failed R85 (R318); by die and twin. -/
  | rateBad
  /-- 1 where the last window of a twin made a hardware raise (R314); by die and twin. -/
  | raised
  /-- Diode A of a pair before its offset, 32-bit, 1/1024 °C (R330); by die and pair. -/
  | rawA
  /-- Diode B of a pair before its offset (R330); by die and pair. -/
  | rawB
  /-- Offset of diode A as the active warden holds it, 16-bit, 1/1024 K (R332, R334); by die and pair. -/
  | ofsA
  /-- Offset of diode B as the active warden holds it (R332, R334); by die and pair. -/
  | ofsB
  /-- Delay thermometer under the factory curve, 16-bit, 1/128 °C (R331); by die and hot spot. -/
  | rawD
  /-- That reading at the lowest point (R331); by die and hot spot. -/
  | dLowRaw
  /-- That reading at the highest point (R331); by die and hot spot. -/
  | dHighRaw
  /-- Flits sent on a virtual channel of a warp port whose credit has not come back (R289); by port and channel. -/
  | warpCredit
  /-- Lanes the peer of a warp port has retired, as its pages said (R285, R295); by port. -/
  | warpPeer
  /-- When flows to a package began to be held (R298); by package. -/
  | flowSince
  /-- 1 for a warden that has restarted by WDR and has taken no copy of the active warden's state since (R386); by warden die. -/
  | restarted
  /-- Policy cycles a Pt1000 input has held one value, at most 600,000 (R432); by input. -/
  | coolSame
  /-- The flow input's value its flat stretch began at, in mL/min plus 1 (R432); by input. -/
  | flatRef
  /-- Policy cycles of that stretch, at most 300,000 (R432); by input. -/
  | flatFor
  /-- Lowest drive of the pump channels in that stretch (R432); by input. -/
  | flatLow
  /-- Highest drive of the pump channels in that stretch (R432); by input. -/
  | flatHigh
  /-- A flow input's highest reading in a millisecond, in mL/min, with that millisecond times 2^32 (R434); by input and the
  millisecond modulo 1,024. -/
  | flowMs
  /-- 1 once the current of a peak has reached PEAK_MA (R472); by channel. -/
  | svReached
  /-- Nanosecond counter from which a HOLD is counted (R471, R474); by channel. -/
  | svHeld
  /-- Nanoseconds the counter was stepped by since POR (R326, Table TB-8). -/
  | timeStepped
  /-- 1 while the frame on the bus goes with BRS (R496, R498); by warden die. -/
  | txBrs
  /-- Nanosecond counter when the firmware copy in a warden was first loaded, plus 1; 0 once it has set HEALTHY (R539); by warden die. -/
  | fwSince
  /-- Nanosecond counter since when a flow input has read above RESUME_Q without a break, plus 1; 0 where it does not (R435,
  R542); by input. -/
  | flowOk
  /-- Nanosecond counter when the flow was lost (R434, R435). -/
  | lossAt
  deriving DecidableEq, Repr

/-- The latch's number, which keys the latch store. -/
def latId (l : Lat) : Nat := l.ctorIdx

/-- The latches a DIE reset clears, keyed by the die. -/
def dieLats : List Lat :=
  [.plyResult, .plyId, .plyDbe, .plyDbbit, .plyDbTarget, .retainDue, .skeinSeq, .fullSeen, .markSeen,
   .quiesceDue, .rollingBack, .rgnDue, .slotThird, .mtestLine, .ujFrac, .probe, .probeFailed, .vidAsk,
   .ilimEnd, .diodeA, .diodeB, .diodeFault, .sameA, .sameB, .hsRow, .hsTemp, .duty, .thermDuty, .coolFor,
   .hotStack, .bankTurn, .bankIdle, .plyKey, .rgnHurt, .rateWin, .rateCyc, .rateBad, .raised, .rawA, .rawB,
   .rawD]

/-- The latches a DIE reset clears, keyed by a package spindle number. -/
def spLats : List Lat :=
  [.stepDone, .cleared, .tblDone, .tblFly, .tblSeed, .viewHigh]

/-- The latches a WDR clears, keyed by the warden die. -/
def wardenLats : List Lat :=
  [.kicked, .loopD, .loopPv, .loopU, .loopRan, .loopClr, .loopOver, .feTime, .txLife, .txNow, .txData,
   .txEnds, .busOffAt, .restarted, .txBrs]

end Sys2Proof.Machine
end

