-- ==== Sys2Proof/Machine/RegTable.lean ====
section
/-! DEFINITION. The register tables of the spec, register by register: widths, places, fields,
access codes, reset values and reset notes (R7, R8, R13). A reset the spec gives as a word and not a
number (fused, flash, strap) stands here as 0; `regReset` (RegReset.lean) gives its value. -/

namespace Sys2Proof.Machine

/-- A field with a plain access code. -/
def fd (hi lo : Nat) (acc : Acc) (reset : Nat) (cls : Cls) : FieldDesc := ⟨hi, lo, acc, reset, cls, .none⟩

/-- A WP field with the presence it needs (R12, R412). -/
def fw (hi lo : Nat) (reset : Nat) (cls : Cls) (p : Presence) : FieldDesc := ⟨hi, lo, .wp, reset, cls, p⟩

/-- The description of a register. -/
def regDesc : Reg → RegDesc
  | .PW_TWIN_CTL => ⟨32, ⟨0, 47, 0x90200000, 0x40, 17, 0x0, 1, false⟩,
      [fd 23 16 .ro 0 .plain,
       fd 15 8 .rw 0x3c .plain,
       fd 5 4 .rw 0 .plain,
       fd 3 3 .ro 0 .plain,
       fd 2 2 .ro 0 .S]⟩
  | .PW_TWIN_MEAS => ⟨64, ⟨0, 47, 0x90200008, 0x40, 17, 0x0, 1, false⟩,
      [fd 63 48 .ro 0 .plain,
       fd 47 32 .ro 0 .plain,
       fd 15 0 .ro 0 .plain]⟩
  | .PW_TWIN_ENERGY => ⟨64, ⟨0, 47, 0x90200010, 0x40, 17, 0x0, 1, false⟩,
      [fd 63 0 .ro 0 .plain]⟩
  | .PW_TWIN_SLACK => ⟨64, ⟨0, 47, 0x90200018, 0x40, 17, 0x0, 1, false⟩,
      [fd 63 48 .ro 0 .plain,
       fd 47 40 .ro 0 .plain,
       fd 15 8 .ro 0xff .plain,
       fd 7 0 .ro 0xff .plain]⟩
  | .PW_TWIN_AVS => ⟨32, ⟨0, 47, 0x90200020, 0x40, 17, 0x0, 1, false⟩,
      [fd 23 16 .rw 0x3c .plain,
       fd 15 8 .rw 0x14 .plain,
       fd 7 0 .rw 0xa .plain]⟩
  | .PW_DIE_ISO => ⟨32, ⟨62, 63, 0x2000000, 0x10, 64, 0x0, 1, true⟩,
      [fd 15 8 .ro 0 .plain,
       fd 4 4 .rw 0 .plain,
       fd 3 3 .ro 0 .plain,
       fd 2 2 .w1c 0 .plain,
       fd 1 1 .rw 0 .plain,
       fd 0 0 .ro 0 .plain]⟩
  | .PW_IN_MEAS => ⟨64, ⟨62, 63, 0x2000800, 0x0, 1, 0x0, 1, true⟩,
      [fd 63 32 .ro 0 .plain,
       fd 31 16 .ro 0 .plain,
       fd 15 0 .ro 0 .plain]⟩
  | .PW_RAIL_CAP => ⟨32, ⟨62, 63, 0x2000810, 0x0, 1, 0x0, 1, true⟩,
      [fd 31 16 .w1c 0 .plain,
       fd 15 0 .ro 0 .plain]⟩
  | .PW_CONV_OK => ⟨32, ⟨62, 63, 0x2000818, 0x0, 1, 0x0, 1, true⟩,
      [fd 15 0 .ro 0 .plain]⟩
  | .DIE_ID => ⟨32, ⟨0, 63, 0xffff0000, 0x0, 1, 0x0, 1, false⟩,
      [fd 25 24 .ro 0 .F,
       fd 21 16 .ro 0 .F,
       fd 15 8 .ro 0 .F]⟩
  | .MESH_STAT => ⟨32, ⟨0, 63, 0xffff0008, 0x0, 1, 0x0, 1, false⟩,
      [fd 8 8 .ro 0 .plain,
       fd 7 4 .ro 0 .S,
       fd 3 0 .ro 0 .plain]⟩
  | .MESH_FLITS => ⟨64, ⟨0, 63, 0xffff0010, 0x0, 1, 0x0, 1, false⟩,
      [fd 63 0 .ro 0 .plain]⟩
  | .DIE_SLACK => ⟨64, ⟨0, 63, 0xffff0018, 0x0, 1, 0x0, 1, false⟩,
      [fd 63 48 .ro 0 .plain,
       fd 31 24 .ro 0xff .plain,
       fd 23 16 .ro 0xff .plain,
       fd 15 8 .ro 0xff .plain,
       fd 7 0 .ro 0xff .plain]⟩
  | .SPN_CTL => ⟨32, ⟨0, 47, 0x1000000, 0x4000000, 32, 0x0, 1, false⟩,
      [fd 5 5 .rw 0 .X,
       fd 4 4 .rw 0 .X,
       fd 3 3 .w1s 0 .plain,
       fd 2 2 .w1s 0 .plain,
       fd 1 1 .w1s 0 .plain]⟩
  | .SPN_STAT => ⟨32, ⟨0, 47, 0x1000008, 0x4000000, 32, 0x0, 1, false⟩,
      [fd 11 11 .ro 0 .plain,
       fd 10 10 .ro 0 .plain,
       fd 9 9 .ro 0 .X,
       fd 8 8 .w1c 0 .plain,
       fd 2 0 .ro 2 .plain]⟩
  | .SPN_PC => ⟨32, ⟨0, 47, 0x1000010, 0x4000000, 32, 0x0, 1, false⟩,
      [fd 13 0 .rw 0 .X]⟩
  | .SPN_VEC => ⟨32, ⟨0, 47, 0x1000018, 0x4000000, 32, 0x0, 1, false⟩,
      [fd 29 16 .rw 0 .X,
       fd 13 0 .rw 0 .X]⟩
  | .SPN_EXC_CAUSE => ⟨32, ⟨0, 47, 0x1000020, 0x4000000, 32, 0x0, 1, false⟩,
      [fd 7 0 .ro 0 .X]⟩
  | .SPN_EXC_PC => ⟨32, ⟨0, 47, 0x1000024, 0x4000000, 32, 0x0, 1, false⟩,
      [fd 13 0 .rw 0 .X]⟩
  | .SPN_EXC_INFO => ⟨64, ⟨0, 47, 0x1000028, 0x4000000, 32, 0x0, 1, false⟩,
      [fd 63 0 .ro 0 .X]⟩
  | .SPN_DB_PEND => ⟨32, ⟨0, 47, 0x1000030, 0x4000000, 32, 0x0, 1, false⟩,
      [fd 31 0 .w1c 0 .plain]⟩
  | .SPN_DB_SET => ⟨32, ⟨0, 47, 0x1000034, 0x4000000, 32, 0x0, 1, false⟩,
      [fd 31 0 .wo 0 .plain]⟩
  | .SPN_DB_MASK => ⟨32, ⟨0, 47, 0x1000038, 0x4000000, 32, 0x0, 1, false⟩,
      [fd 31 0 .rw 0 .plain]⟩
  | .SPN_IRQ => ⟨32, ⟨0, 47, 0x1000040, 0x4000000, 32, 0x0, 1, false⟩,
      [fd 3 3 .ro 0 .plain,
       fd 2 2 .w1c 0 .plain,
       fd 1 1 .w1c 0 .plain,
       fd 0 0 .ro 0 .plain]⟩
  | .SPN_IRQ_EN => ⟨32, ⟨0, 47, 0x1000044, 0x4000000, 32, 0x0, 1, false⟩,
      [fd 3 0 .rw 0 .plain]⟩
  | .SPN_TIMER_CMP => ⟨64, ⟨0, 47, 0x1000048, 0x4000000, 32, 0x0, 1, false⟩,
      [fd 63 0 .rw 0xffffffffffffffff .X]⟩
  | .SPN_SPOOL => ⟨32, ⟨0, 47, 0x1000050, 0x4000000, 32, 0x0, 1, false⟩,
      [fd 26 16 .ro 0 .plain,
       fd 7 0 .ro 0 .plain]⟩
  | .SPN_RETIRED => ⟨64, ⟨0, 47, 0x1000058, 0x4000000, 32, 0x0, 1, false⟩,
      [fd 63 0 .ro 0 .plain]⟩
  | .SPN_CYCLES => ⟨64, ⟨0, 47, 0x1000060, 0x4000000, 32, 0x0, 1, false⟩,
      [fd 63 0 .ro 0 .plain]⟩
  | .SPN_IDLE => ⟨64, ⟨0, 47, 0x1000068, 0x4000000, 32, 0x0, 1, false⟩,
      [fd 63 0 .ro 0 .plain]⟩
  | .SPN_MAP => ⟨32, ⟨0, 47, 0x1000070, 0x4000000, 32, 0x0, 1, false⟩,
      [fd 13 8 .ro 0 .F,
       fd 7 7 .ro 0 .F,
       fd 5 0 .ro 0 .F]⟩
  | .SPN_ASYNC_ADDR => ⟨64, ⟨0, 47, 0x1000078, 0x4000000, 32, 0x0, 1, false⟩,
      [fd 63 0 .ro 0 .plain]⟩
  | .PLY_CMD => ⟨64, ⟨0, 47, 0x90100000, 0x0, 1, 0x0, 1, false⟩,
      [fd 63 52 .rw 0 .plain,
       fd 42 32 .rw 0 .plain,
       fd 3 0 .rw 0 .plain]⟩
  | .PLY_CMD_ADDR => ⟨64, ⟨0, 47, 0x90100008, 0x0, 1, 0x0, 1, false⟩,
      [fd 63 4 .rw 0 .plain]⟩
  | .PLY_CMD_STAT => ⟨32, ⟨0, 47, 0x90100010, 0x0, 1, 0x0, 1, false⟩,
      [fd 31 31 .ro 0 .plain,
       fd 16 16 .w1c 0 .plain,
       fd 7 0 .ro 0 .plain]⟩
  | .PLY_CMD_ID => ⟨64, ⟨0, 47, 0x90100018, 0x0, 1, 0x0, 1, false⟩,
      [fd 63 52 .ro 0 .plain,
       fd 10 0 .ro 0 .plain]⟩
  | .PLY_RESERVE => ⟨32, ⟨0, 47, 0x90100020, 0x0, 1, 0x0, 1, false⟩,
      [fd 31 0 .rw 0 .plain]⟩
  | .PLY_ENTRY => ⟨64, ⟨0, 47, 0x90101000, 0x20, 32, 0x0, 1, false⟩,
      [fd 63 52 .ro 0 .plain,
       fd 42 32 .ro 0 .plain,
       fd 31 10 .ro 0 .plain,
       fd 9 7 .ro 0 .plain,
       fd 6 2 .ro 0 .plain,
       fd 1 0 .ro 0 .plain]⟩
  | .PLY_ENTRY_CFG => ⟨64, ⟨0, 47, 0x90101008, 0x20, 32, 0x0, 1, false⟩,
      [fd 48 48 .ro 0 .plain,
       fd 47 32 .ro 0 .plain,
       fd 4 0 .ro 0 .plain]⟩
  | .PLY_ENTRY_STAT => ⟨64, ⟨0, 47, 0x90101010, 0x20, 32, 0x0, 1, false⟩,
      [fd 57 36 .ro 0 .plain,
       fd 35 32 .w1c 0 .plain,
       fd 21 0 .ro 0 .plain]⟩
  | .PLY_ENTRY_WAIT => ⟨64, ⟨0, 47, 0x90101018, 0x20, 32, 0x0, 1, false⟩,
      [fd 63 0 .ro 0 .plain]⟩
  | .QD_CFG => ⟨32, ⟨48, 55, 0x0, 0x0, 1, 0x0, 1, false⟩,
      [fd 23 16 .rw 0xc .Q,
       fd 8 8 .rw 0 .Q,
       fd 2 0 .rw 0 .Q]⟩
  | .QD_CARVE => ⟨32, ⟨48, 55, 0x8, 0x0, 1, 0x0, 1, false⟩,
      [fd 23 16 .rw 0 .Q,
       fd 12 8 .rw 0 .Q,
       fd 4 0 .rw 0 .Q]⟩
  | .QD_OPEN_TOP => ⟨64, ⟨48, 55, 0x10, 0x0, 1, 0x0, 1, false⟩,
      [fd 51 0 .ro 0 .plain]⟩
  | .QD_HBM => ⟨32, ⟨48, 55, 0x100, 0x8, 4, 0x0, 1, false⟩,
      [fd 31 24 .ro 0 .plain,
       fd 13 8 .ro 0 .plain,
       fd 1 0 .ro 0 .plain]⟩
  | .QD_RGN_STAGE0 => ⟨64, ⟨48, 55, 0x10000, 0x0, 1, 0x0, 1, false⟩,
      [fd 63 52 .rw 0 .plain,
       fd 51 12 .rw 0 .plain,
       fd 11 0 .rw 0 .plain]⟩
  | .QD_RGN_STAGE1 => ⟨64, ⟨48, 55, 0x10008, 0x0, 1, 0x0, 1, false⟩,
      [fd 63 55 .rw 0 .plain,
       fd 54 52 .rw 0 .plain,
       fd 51 50 .rw 0 .plain,
       fd 49 49 .rw 0 .plain,
       fd 48 48 .rw 0 .plain,
       fd 47 46 .rw 0 .plain,
       fd 45 44 .rw 0 .plain,
       fd 43 42 .rw 0 .plain,
       fd 41 40 .rw 0 .plain,
       fd 39 39 .rw 0 .plain,
       fd 38 32 .rw 0 .plain,
       fd 31 31 .rw 0 .plain,
       fd 30 0 .rw 0 .plain]⟩
  | .QD_RGN_STAGE2 => ⟨64, ⟨48, 55, 0x10010, 0x0, 1, 0x0, 1, false⟩,
      [fd 63 52 .rw 0 .plain,
       fd 51 12 .rw 0 .plain,
       fd 11 4 .rw 0 .plain,
       fd 3 0 .rw 0 .plain]⟩
  | .QD_RGN_STAGE3 => ⟨64, ⟨48, 55, 0x10018, 0x0, 1, 0x0, 1, false⟩,
      [fd 63 44 .rw 0 .plain,
       fd 43 0 .rw 0 .plain]⟩
  | .QD_RGN_CMD => ⟨32, ⟨48, 55, 0x10020, 0x0, 1, 0x0, 1, false⟩,
      [fd 15 8 .rw 0 .plain,
       fd 3 0 .rw 0 .plain]⟩
  | .QD_RGN_STAT => ⟨32, ⟨48, 55, 0x10028, 0x0, 1, 0x0, 1, false⟩,
      [fd 31 31 .ro 0 .plain,
       fd 16 16 .w1c 0 .plain,
       fd 7 0 .ro 0 .plain]⟩
  | .QD_RGN0 => ⟨64, ⟨48, 55, 0x100000, 0x40, 256, 0x0, 1, false⟩,
      [fd 51 12 .ro 0 .plain]⟩
  | .QD_RGN1 => ⟨64, ⟨48, 55, 0x100008, 0x40, 256, 0x0, 1, false⟩,
      [fd 54 52 .ro 0 .plain,
       fd 49 49 .ro 0 .plain,
       fd 48 48 .ro 0 .plain,
       fd 45 44 .ro 0 .plain,
       fd 41 40 .ro 0 .plain,
       fd 38 32 .ro 0 .plain,
       fd 30 0 .ro 0 .plain]⟩
  | .QD_RGN2 => ⟨64, ⟨48, 55, 0x100010, 0x40, 256, 0x0, 1, false⟩,
      [fd 51 12 .ro 0 .plain,
       fd 3 0 .ro 0 .plain]⟩
  | .QD_RGN3 => ⟨64, ⟨48, 55, 0x100018, 0x40, 256, 0x0, 1, false⟩,
      [fd 43 0 .ro 0 .plain]⟩
  | .QD_RGN_INFO => ⟨64, ⟨48, 55, 0x100020, 0x40, 256, 0x0, 1, false⟩,
      [fd 63 32 .ro 0 .Q,
       fd 4 4 .ro 0 .Q,
       fd 2 0 .ro 0 .Q]⟩
  | .QD_MIR0 => ⟨64, ⟨48, 55, 0x200000, 0x40, 256, 0x0, 1, false⟩,
      [fd 51 12 .ro 0 .plain]⟩
  | .QD_MIR1 => ⟨64, ⟨48, 55, 0x200008, 0x40, 256, 0x0, 1, false⟩,
      [fd 54 52 .ro 0 .plain,
       fd 49 49 .ro 0 .plain,
       fd 48 48 .ro 0 .plain,
       fd 45 44 .ro 0 .plain,
       fd 41 40 .ro 0 .plain,
       fd 38 32 .ro 0 .plain,
       fd 30 0 .ro 0 .plain]⟩
  | .QD_MIR2 => ⟨64, ⟨48, 55, 0x200010, 0x40, 256, 0x0, 1, false⟩,
      [fd 51 12 .ro 0 .plain,
       fd 3 0 .ro 0 .plain]⟩
  | .QD_MIR3 => ⟨64, ⟨48, 55, 0x200018, 0x40, 256, 0x0, 1, false⟩,
      [fd 43 0 .ro 0 .plain]⟩
  | .QD_MIR_INFO => ⟨64, ⟨48, 55, 0x200020, 0x40, 256, 0x0, 1, false⟩,
      [fd 63 32 .ro 0 .Q,
       fd 4 4 .ro 0 .Q,
       fd 2 0 .ro 0 .Q]⟩
  | .QD_SKEIN_STAT => ⟨64, ⟨48, 55, 0x300000, 0x0, 1, 0x0, 1, false⟩,
      [fd 63 32 .ro 0 .Q,
       fd 3 3 .ro 0 .Q,
       fd 2 2 .ro 0 .plain,
       fd 1 1 .w1c 0 .Q,
       fd 0 0 .ro 0 .Q]⟩
  | .QD_SKEIN_EPOCH => ⟨64, ⟨48, 55, 0x300008, 0x0, 1, 0x0, 1, false⟩,
      [fd 63 0 .ro 0 .Q]⟩
  | .QD_SKEIN_CMD => ⟨64, ⟨48, 55, 0x300010, 0x0, 1, 0x0, 1, false⟩,
      [fd 63 8 .rw 0 .plain,
       fd 3 0 .rw 0 .plain]⟩
  | .QD_SKEIN_WM => ⟨32, ⟨48, 55, 0x300018, 0x0, 1, 0x0, 1, false⟩,
      [fd 13 13 .rw 0 .Q,
       fd 12 8 .rw 0 .Q,
       fd 6 0 .rw 0 .Q]⟩
  | .QD_SKEIN_WM_TGT => ⟨64, ⟨48, 55, 0x300020, 0x0, 1, 0x0, 1, false⟩,
      [fd 63 0 .rw 0 .Q]⟩
  | .QD_TEN => ⟨64, ⟨48, 55, 0x400000, 0x8, 8, 0x0, 1, false⟩,
      [fd 63 32 .ro 0 .Q,
       fd 25 16 .rw 0 .T,
       fd 7 0 .rw 0 .T]⟩
  | .QD_PC => ⟨32, ⟨48, 55, 0x500000, 0x8, 128, 0x0, 1, false⟩,
      [fd 31 16 .ro 0 .plain,
       fd 15 8 .ro 0 .plain,
       fd 1 1 .ro 0 .S,
       fd 0 0 .ro 0 .S]⟩
  | .QD_ENG_SLOTS => ⟨64, ⟨48, 55, 0x600000, 0x0, 1, 0x0, 1, false⟩,
      [fd 63 0 .ro 0 .plain]⟩
  | .QD_ENG_HELD => ⟨64, ⟨48, 55, 0x600008, 0x0, 1, 0x0, 1, false⟩,
      [fd 63 0 .ro 0 .plain]⟩
  | .QD_ENG_SKEIN_NS => ⟨64, ⟨48, 55, 0x600010, 0x0, 1, 0x0, 1, false⟩,
      [fd 63 0 .ro 0 .plain]⟩
  | .QD_ENG_NONFINITE => ⟨32, ⟨48, 55, 0x600018, 0x0, 1, 0x0, 1, false⟩,
      [fd 31 0 .ro 0 .plain]⟩
  | .QD_ENG_DEGRADED => ⟨64, ⟨48, 55, 0x600020, 0x0, 1, 0x0, 1, false⟩,
      [fd 63 0 .ro 0 .plain]⟩
  | .QD_PHY => ⟨64, ⟨48, 55, 0x700000, 0x8, 4, 0x0, 1, false⟩,
      [fd 63 48 .ro 0 .plain,
       fd 39 32 .ro 0 .plain,
       fd 31 24 .ro 0 .plain,
       fd 23 16 .ro 0 .plain,
       fd 15 0 .ro 0 .plain]⟩
  | .CD_BNK_PWR => ⟨32, ⟨0, 47, 0x90010000, 0x40, 32, 0x0, 1, false⟩,
      [fd 23 16 .ro 0 .plain,
       fd 7 0 .rw 0 .plain]⟩
  | .CD_BNK_STAT => ⟨32, ⟨0, 47, 0x90010008, 0x40, 32, 0x0, 1, false⟩,
      [fd 27 24 .w1c 0 .plain,
       fd 19 16 .w1c 0 .plain,
       fd 11 8 .w1c 0 .plain,
       fd 3 0 .w1c 0 .plain]⟩
  | .CD_BNK_STARVE => ⟨32, ⟨0, 47, 0x90010010, 0x40, 32, 0x0, 1, false⟩,
      [fd 15 0 .rw 0x1000 .plain]⟩
  | .CD_BNK_MAXWAIT => ⟨64, ⟨0, 47, 0x90010018, 0x40, 32, 0x0, 1, false⟩,
      [fd 63 0 .rc 0 .plain]⟩
  | .CD_BNK_PIN => ⟨32, ⟨0, 47, 0x90010020, 0x40, 32, 0x4, 8, false⟩,
      [fd 31 16 .rw 0 .plain,
       fd 12 0 .rw 0 .plain]⟩
  | .CD_MTEST_CTL => ⟨32, ⟨0, 47, 0x90011000, 0x0, 1, 0x0, 1, false⟩,
      [fd 31 16 .rw 0x100 .plain,
       fd 7 0 .rw 0x3c .plain]⟩
  | .CD_MTEST_STAT => ⟨64, ⟨0, 47, 0x90011008, 0x0, 1, 0x0, 1, false⟩,
      [fd 63 32 .ro 0 .plain,
       fd 31 16 .ro 0 .plain,
       fd 1 1 .w1c 0 .plain,
       fd 0 0 .ro 0 .plain]⟩
  | .CD_MTEST_FAULT => ⟨64, ⟨0, 47, 0x90011010, 0x0, 1, 0x0, 1, false⟩,
      [fd 61 56 .ro 0 .plain,
       fd 46 40 .ro 0 .plain,
       fd 20 0 .ro 0 .plain]⟩
  | .WD_BNK_PWR => ⟨32, ⟨62, 63, 0x1000000, 0x0, 1, 0x0, 1, false⟩,
      [fd 23 16 .ro 0xaa .plain,
       fd 7 0 .rw 0xaa .plain]⟩
  | .WD_BNK_STAT => ⟨32, ⟨62, 63, 0x1000008, 0x0, 1, 0x0, 1, false⟩,
      [fd 27 24 .w1c 0 .plain,
       fd 19 16 .w1c 0 .plain,
       fd 11 8 .w1c 0 .plain,
       fd 3 0 .w1c 0 .plain,
       fd 31 28 .rc 0 .plain]⟩
  | .WD_BNK_STARVE => ⟨32, ⟨62, 63, 0x1000010, 0x0, 1, 0x0, 1, false⟩,
      [fd 15 0 .rw 0x1000 .plain]⟩
  | .WD_BNK_MAXWAIT => ⟨64, ⟨62, 63, 0x1000018, 0x0, 1, 0x0, 1, false⟩,
      [fd 63 0 .rc 0 .plain]⟩
  | .WD_BNK_PIN => ⟨32, ⟨62, 63, 0x1000020, 0x4, 8, 0x0, 1, false⟩,
      [fd 31 16 .rw 0 .plain,
       fd 11 0 .rw 0 .plain]⟩
  | .WD_MTEST_CTL => ⟨32, ⟨62, 63, 0x1000040, 0x0, 1, 0x0, 1, false⟩,
      [fd 31 16 .rw 0 .plain,
       fd 7 0 .rw 0 .plain]⟩
  | .WD_MTEST_STAT => ⟨64, ⟨62, 63, 0x1000048, 0x0, 1, 0x0, 1, false⟩,
      [fd 63 32 .ro 0 .plain,
       fd 31 16 .ro 0 .plain,
       fd 1 1 .w1c 0 .plain,
       fd 0 0 .ro 0 .plain]⟩
  | .WD_MTEST_FAULT => ⟨64, ⟨62, 63, 0x1000050, 0x0, 1, 0x0, 1, false⟩,
      [fd 61 56 .ro 0 .plain,
       fd 46 40 .ro 0 .plain,
       fd 20 0 .ro 0 .plain]⟩
  | .FS_COLREP_TGT => ⟨64, ⟨62, 63, 0x2100000, 0x0, 1, 0x0, 1, false⟩,
      [fd 57 52 .rw 0 .plain,
       fd 45 40 .rw 0 .plain,
       fd 33 32 .rw 0 .plain,
       fd 27 24 .rw 0 .plain,
       fd 11 0 .rw 0 .plain]⟩
  | .FS_COLREP_CMD => ⟨32, ⟨62, 63, 0x2100008, 0x0, 1, 0x0, 1, false⟩,
      [fw 3 0 0 .plain .jumper]⟩
  | .FS_COLREP_STAT => ⟨32, ⟨62, 63, 0x2100010, 0x0, 1, 0x0, 1, false⟩,
      [fd 31 31 .ro 0 .plain,
       fd 16 8 .ro 0 .F,
       fd 7 0 .ro 0 .plain]⟩
  | .HI_BAR2_BASE => ⟨64, ⟨60, 60, 0x2000000, 0x0, 1, 0x0, 1, false⟩,
      [fd 63 52 .rw 0 .plain,
       fd 51 36 .rw 0 .plain,
       fd 0 0 .rw 1 .plain]⟩
  | .HI_PKG_NUM => ⟨32, ⟨60, 60, 0x2000010, 0x0, 1, 0x0, 1, false⟩,
      [fd 11 0 .rw 0 .plain]⟩
  | .HI_LINK_STAT => ⟨32, ⟨60, 60, 0x2000020, 0x0, 1, 0x0, 1, false⟩,
      [fd 20 16 .ro 0 .P,
       fd 11 8 .ro 0 .P,
       fd 2 2 .ro 0 .P,
       fd 1 1 .w1c 0 .plain,
       fd 0 0 .ro 0 .P]⟩
  | .HI_DMA_BASE => ⟨64, ⟨60, 60, 0x2000100, 0x40, 4, 0x0, 1, false⟩,
      [fd 63 12 .rw 0 .plain]⟩
  | .HI_DMA_CTL => ⟨32, ⟨60, 60, 0x2000108, 0x40, 4, 0x0, 1, false⟩,
      [fd 20 16 .rw 0 .plain,
       fd 3 3 .w1c 0 .plain,
       fd 2 2 .ro 1 .plain,
       fd 0 0 .rw 0 .plain]⟩
  | .HI_DMA_HEAD => ⟨32, ⟨60, 60, 0x2000110, 0x40, 4, 0x0, 1, false⟩,
      [fd 15 0 .rw 0 .plain]⟩
  | .HI_DMA_TAIL => ⟨32, ⟨60, 60, 0x2000118, 0x40, 4, 0x0, 1, false⟩,
      [fd 15 0 .ro 0 .plain]⟩
  | .HI_MSIX_LO => ⟨64, ⟨60, 60, 0x2001000, 0x10, 16, 0x0, 1, false⟩,
      [fd 63 0 .rw 0 .plain]⟩
  | .HI_MSIX_HI => ⟨64, ⟨60, 60, 0x2001008, 0x10, 16, 0x0, 1, false⟩,
      [fd 63 0 .rw 0 .plain]⟩
  | .HI_MSIX_PBA => ⟨64, ⟨60, 60, 0x2002000, 0x0, 1, 0x0, 1, false⟩,
      [fd 15 0 .ro 0 .plain]⟩
  | .CX_PORT_CTL => ⟨32, ⟨60, 61, 0x300000, 0x1000, 2, 0x0, 1, false⟩,
      [fd 1 1 .w1s 0 .plain,
       fd 0 0 .rw 1 .plain]⟩
  | .CX_PORT_STAT => ⟨64, ⟨60, 61, 0x300008, 0x1000, 2, 0x0, 1, false⟩,
      [fd 47 32 .ro 0 .P,
       fd 28 28 .ro 0 .P,
       fd 27 24 .ro 0 .P,
       fd 20 16 .ro 0 .P,
       fd 11 8 .ro 0 .P,
       fd 7 4 .ro 0 .plain,
       fd 2 0 .ro 0 .plain]⟩
  | .CX_PORT_SN => ⟨64, ⟨60, 61, 0x300010, 0x1000, 2, 0x0, 1, false⟩,
      [fd 63 0 .ro 0 .P]⟩
  | .WP_PORT_CTL => ⟨32, ⟨56, 59, 0x0, 0x10000, 4, 0x0, 1, false⟩,
      [fd 23 16 .w1s 0 .plain,
       fd 10 8 .rw 7 .plain,
       fd 3 3 .w1s 0 .plain,
       fd 2 2 .w1s 0 .plain,
       fd 1 1 .rw 0 .plain,
       fd 0 0 .rw 1 .plain]⟩
  | .WP_PORT_STAT => ⟨64, ⟨56, 59, 0x8, 0x10000, 4, 0x0, 1, false⟩,
      [fd 63 52 .ro 0 .P,
       fd 51 48 .ro 0 .P,
       fd 47 40 .ro 0 .P,
       fd 31 24 .ro 0 .S,
       fd 19 16 .ro 0 .P,
       fd 10 8 .ro 0 .P,
       fd 2 0 .ro 0 .plain]⟩
  | .WP_PORT_ERR => ⟨64, ⟨56, 59, 0x10, 0x10000, 4, 0x0, 1, false⟩,
      [fd 63 48 .ro 0 .plain,
       fd 47 32 .ro 0 .plain,
       fd 31 16 .ro 0 .plain,
       fd 15 0 .ro 0 .plain]⟩
  | .WP_PORT_FEC => ⟨64, ⟨56, 59, 0x18, 0x10000, 4, 0x0, 1, false⟩,
      [fd 63 0 .ro 0 .plain]⟩
  | .WP_LANE => ⟨64, ⟨56, 59, 0x40, 0x10000, 4, 0x8, 8, false⟩,
      [fd 63 32 .ro 0 .P,
       fd 31 24 .ro 0 .P,
       fd 0 0 .ro 0 .P]⟩
  | .WP_ROUTE => ⟨64, ⟨56, 59, 0x1000000, 0x8, 4096, 0x0, 1, true⟩,
      [fd 31 0 .rw 0 .plain]⟩
  | .WP_GCFG => ⟨32, ⟨56, 56, 0x1800000, 0x0, 1, 0x0, 1, false⟩,
      [fd 23 0 .rw 0x2710 .plain]⟩
  | .WP_COLL_POST => ⟨64, ⟨56, 56, 0x2000000, 0x0, 1, 0x0, 1, false⟩,
      [fd 63 6 .wo 0 .plain]⟩
  | .WP_COLL_STAT => ⟨64, ⟨56, 56, 0x2000008, 0x0, 1, 0x0, 1, false⟩,
      [fd 63 32 .ro 0 .plain,
       fd 23 20 .ro 0 .plain,
       fd 16 16 .w1c 0 .plain,
       fd 12 8 .ro 0 .plain,
       fd 7 0 .ro 0 .plain]⟩
  | .WP_COLL_GRP => ⟨64, ⟨56, 56, 0x2000100, 0x8, 16, 0x0, 1, false⟩,
      [fd 63 32 .ro 0 .plain,
       fd 12 0 .ro 0 .plain]⟩
  | .WD_TIME_NS => ⟨64, ⟨62, 63, 0x2200000, 0x0, 1, 0x0, 1, true⟩,
      [fd 63 0 .ro 0 .plain]⟩
  | .WD_TIME_ADJ => ⟨32, ⟨62, 63, 0x2200008, 0x0, 1, 0x0, 1, false⟩,
      [fd 15 0 .rw 0 .plain]⟩
  | .WD_TIME_STEP => ⟨64, ⟨62, 63, 0x2200010, 0x0, 1, 0x0, 1, false⟩,
      [fd 63 0 .wo 0 .plain]⟩
  | .WD_TIME_STAT => ⟨32, ⟨62, 63, 0x2200018, 0x0, 1, 0x0, 1, false⟩,
      [fd 31 16 .ro 0 .plain,
       fd 8 8 .ro 0 .plain,
       fd 2 2 .ro 0 .plain,
       fd 1 1 .ro 0 .plain,
       fd 0 0 .ro 0 .plain]⟩
  | .TH_HS_TEMP => ⟨64, ⟨0, 47, 0x90300000, 0x20, 34, 0x0, 1, false⟩,
      [fd 63 48 .ro 0 .plain,
       fd 47 32 .ro 0 .plain,
       fd 31 16 .ro 0 .plain,
       fd 15 8 .ro 0 .plain,
       fd 3 3 .ro 1 .plain,
       fd 2 2 .ro 0 .plain,
       fd 1 1 .ro 0 .plain,
       fd 0 0 .ro 0 .plain]⟩
  | .TH_HS_CAL => ⟨64, ⟨0, 47, 0x90300008, 0x20, 34, 0x0, 1, false⟩,
      [fd 63 48 .rw 0 .plain,
       fd 47 32 .rw 0 .plain,
       fd 31 16 .ro 0 .plain,
       fd 15 0 .ro 0 .plain]⟩
  | .TH_COOL_T => ⟨32, ⟨62, 63, 0x3000000, 0x8, 4, 0x0, 1, false⟩,
      [fd 31 0 .ro 0 .plain]⟩
  | .TH_DT => ⟨32, ⟨62, 63, 0x3000020, 0x0, 1, 0x0, 1, false⟩,
      [fd 31 0 .ro 0 .plain]⟩
  | .TH_FLOW => ⟨64, ⟨62, 63, 0x3000028, 0x0, 1, 0x0, 1, false⟩,
      [fd 63 32 .ro 0 .plain,
       fd 31 0 .ro 0 .plain]⟩
  | .TH_HB_STAT => ⟨32, ⟨62, 63, 0x3000030, 0x0, 1, 0x0, 1, false⟩,
      [fd 31 16 .ro 0 .plain,
       fd 3 3 .ro 0 .plain,
       fd 2 2 .ro 0 .plain,
       fd 1 1 .ro 0 .plain,
       fd 0 0 .ro 0 .plain]⟩
  | .TH_HB_TRIM => ⟨32, ⟨62, 63, 0x3000038, 0x0, 1, 0x0, 1, false⟩,
      [fd 15 0 .ro 0 .plain]⟩
  | .TH_CAL_FLUID => ⟨32, ⟨62, 63, 0x3000100, 0x0, 1, 0x0, 1, false⟩,
      [fd 31 16 .rw 0 .T,
       fd 15 0 .rw 0 .T]⟩
  | .TH_CAL_HB => ⟨32, ⟨62, 63, 0x3000108, 0x0, 1, 0x0, 1, false⟩,
      [fd 31 24 .rw 0 .T,
       fd 23 16 .rw 0 .T,
       fd 15 0 .rw 0 .T]⟩
  | .TH_CAL_TRIM => ⟨32, ⟨62, 63, 0x3000110, 0x0, 1, 0x0, 1, false⟩,
      [fd 15 0 .rw 0 .T]⟩
  | .TH_CAL_DIE => ⟨32, ⟨62, 63, 0x3000200, 0x4, 64, 0x0, 1, false⟩,
      [fd 31 16 .rw 0 .T,
       fd 7 0 .rw 0 .T]⟩
  | .WD_FLT_THR => ⟨64, ⟨62, 63, 0x4000000, 0x8, 32, 0x0, 1, false⟩,
      [fd 55 52 .rw 0 .T,
       fd 47 32 .rw 0 .T,
       fd 31 0 .rw 0 .T]⟩
  | .WD_FLT_QUERY => ⟨64, ⟨62, 63, 0x4000100, 0x0, 1, 0x0, 1, false⟩,
      [fd 31 16 .rw 0 .plain,
       fd 4 0 .rw 0 .plain]⟩
  | .WD_FLT_TALLY => ⟨64, ⟨62, 63, 0x4000108, 0x0, 1, 0x0, 1, false⟩,
      [fd 63 32 .ro 0 .S,
       fd 16 16 .ro 0 .S,
       fd 15 0 .ro 0 .S]⟩
  | .WD_FLT_INJECT => ⟨64, ⟨62, 63, 0x4000110, 0x0, 1, 0x0, 1, false⟩,
      [fw 31 16 0 .plain .jumper,
       fw 8 8 0 .plain .jumper,
       fw 4 0 0 .plain .jumper]⟩
  | .WD_RET_STAT => ⟨32, ⟨62, 63, 0x4000120, 0x0, 1, 0x0, 1, false⟩,
      [fd 31 16 .ro 0 .T,
       fd 15 0 .ro 0 .S]⟩
  | .WD_RET_CLEAR => ⟨32, ⟨62, 63, 0x4000128, 0x0, 1, 0x0, 1, false⟩,
      [fw 0 0 0 .plain .seal]⟩
  | .WD_EP_CMD => ⟨64, ⟨62, 63, 0x4000200, 0x0, 1, 0x0, 1, false⟩,
      [fd 63 52 .rw 0 .plain,
       fd 42 32 .rw 0 .plain,
       fd 11 8 .rw 0 .plain,
       fd 3 0 .rw 0 .plain]⟩
  | .WD_EP_ARG => ⟨64, ⟨62, 63, 0x4000208, 0x0, 1, 0x0, 1, false⟩,
      [fd 63 0 .rw 0 .plain]⟩
  | .WD_EP_STAT => ⟨32, ⟨62, 63, 0x4000210, 0x0, 1, 0x0, 1, false⟩,
      [fd 31 31 .ro 0 .plain,
       fd 16 16 .w1c 0 .plain,
       fd 14 12 .ro 0 .S,
       fd 11 11 .ro 1 .S,
       fd 7 0 .ro 0 .plain]⟩
  | .WD_EP_EPOCH => ⟨64, ⟨62, 63, 0x4000218, 0x0, 1, 0x0, 1, false⟩,
      [fd 63 0 .ro 0 .S]⟩
  | .WD_EP_GRP_CFG => ⟨64, ⟨62, 63, 0x4000220, 0x0, 1, 0x0, 1, false⟩,
      [fd 63 13 .rw 0 .S,
       fd 12 0 .rw 0 .S]⟩
  | .WD_EP_WAIT => ⟨32, ⟨62, 63, 0x4000228, 0x0, 1, 0x0, 1, false⟩,
      [fd 31 16 .ro 0 .plain,
       fd 15 0 .ro 0 .S]⟩
  | .WD_EP_ENT0 => ⟨64, ⟨62, 63, 0x4001000, 0x10, 256, 0x0, 1, false⟩,
      [fd 63 52 .ro 0 .S,
       fd 42 32 .ro 0 .S,
       fd 28 24 .ro 0 .S,
       fd 19 16 .ro 0 .S,
       fd 1 0 .ro 0 .S]⟩
  | .WD_EP_ENT1 => ⟨64, ⟨62, 63, 0x4001008, 0x10, 256, 0x0, 1, false⟩,
      [fd 63 0 .ro 0 .S]⟩
  | .WD_ROLE => ⟨32, ⟨62, 63, 0x5000000, 0x0, 1, 0x0, 1, false⟩,
      [fd 11 11 .ro 0 .plain,
       fd 10 10 .ro 0 .plain,
       fd 9 9 .ro 1 .plain,
       fd 8 8 .rw 0 .plain,
       fd 1 1 .ro 0 .plain,
       fd 0 0 .ro 0 .plain]⟩
  | .WD_ROLE_CMD => ⟨32, ⟨62, 63, 0x5000008, 0x0, 1, 0x0, 1, false⟩,
      [fd 0 0 .w1s 0 .plain]⟩
  | .WD_WDOG_KICK => ⟨32, ⟨62, 63, 0x5000010, 0x0, 1, 0x0, 1, false⟩,
      [fd 31 0 .wo 0 .plain]⟩
  | .WD_WDOG_STAT => ⟨32, ⟨62, 63, 0x5000018, 0x0, 1, 0x0, 1, false⟩,
      [fd 31 16 .ro 0 .S,
       fd 8 0 .ro 0x1f4 .plain]⟩
  | .WD_FORCE_LEAK => ⟨32, ⟨62, 63, 0x5000020, 0x0, 1, 0x0, 1, false⟩,
      [fd 31 31 .w1s 0 .S,
       fw 30 30 0 .plain .seal,
       fw 13 8 0 .T .seal,
       fw 3 0 0 .T .seal]⟩
  | .WD_DIE_PHASE => ⟨32, ⟨62, 63, 0x5000100, 0x4, 64, 0x0, 1, true⟩,
      [fd 1 0 .rw 1 .plain]⟩
  | .LK_LOCK => ⟨64, ⟨62, 63, 0x5200000, 0x8, 64, 0x0, 1, false⟩,
      [fd 31 16 .rl 0 .plain,
       fd 0 0 .rl 0 .plain]⟩
  | .LK_HELD => ⟨64, ⟨62, 63, 0x5200200, 0x0, 1, 0x0, 1, false⟩,
      [fd 63 0 .ro 0 .plain]⟩
  | .LK_FORCE => ⟨64, ⟨62, 63, 0x5200208, 0x0, 1, 0x0, 1, false⟩,
      [fd 63 0 .w1s 0 .plain]⟩
  | .EV_STAT => ⟨64, ⟨62, 63, 0x5400000, 0x0, 1, 0x0, 1, false⟩,
      [fd 63 32 .ro 0 .E,
       fd 17 17 .ro 0 .E,
       fd 16 16 .ro 0 .E,
       fd 13 0 .ro 0 .E]⟩
  | .EV_CTL => ⟨32, ⟨62, 63, 0x5400008, 0x0, 1, 0x0, 1, false⟩,
      [fd 9 8 .rw 2 .plain,
       fw 0 0 0 .plain .button]⟩
  | .EV_LIMIT0 => ⟨64, ⟨62, 63, 0x5401000, 0x10, 1024, 0x0, 1, false⟩,
      [fd 63 48 .rw 0 .T,
       fd 47 32 .rw 0 .T,
       fd 31 0 .rw 0 .T]⟩
  | .EV_LIMIT1 => ⟨64, ⟨62, 63, 0x5401008, 0x10, 1024, 0x0, 1, false⟩,
      [fd 63 32 .ro 0 .E]⟩
  | .FS_PRES => ⟨32, ⟨62, 63, 0x5500000, 0x0, 1, 0x0, 1, false⟩,
      [fd 23 16 .ro 0 .plain,
       fd 7 7 .ro 0 .plain,
       fd 5 4 .ro 3 .plain,
       fd 1 1 .ro 0 .plain,
       fd 0 0 .ro 0 .plain]⟩
  | .FS_SEAL_CNT => ⟨32, ⟨62, 63, 0x5500008, 0x0, 1, 0x0, 1, false⟩,
      [fd 27 16 .ro 0 .F,
       fd 11 0 .ro 0 .F]⟩
  | .WD_LED => ⟨32, ⟨62, 63, 0x5500010, 0x0, 1, 0x0, 1, false⟩,
      [fd 9 8 .rw 0 .plain,
       fd 5 4 .rw 0 .plain,
       fw 0 0 0 .S .button]⟩
  | .FS_FUSE_PGM => ⟨64, ⟨62, 63, 0x5500100, 0x0, 1, 0x0, 1, false⟩,
      [fd 63 32 .rw 0 .plain,
       fd 4 0 .rw 0 .plain]⟩
  | .FS_FUSE_CMD => ⟨32, ⟨62, 63, 0x5500108, 0x0, 1, 0x0, 1, false⟩,
      [fw 3 0 0 .plain .jumper]⟩
  | .FS_FUSE_STAT => ⟨32, ⟨62, 63, 0x5500110, 0x0, 1, 0x0, 1, false⟩,
      [fd 31 31 .ro 0 .plain,
       fd 7 0 .ro 0 .plain]⟩
  | .FS_FUSE_BANK => ⟨32, ⟨62, 63, 0x5500200, 0x4, 32, 0x0, 1, false⟩,
      [fd 31 0 .ro 0 .F]⟩
  | .TH_TWIN => ⟨64, ⟨0, 47, 0x90301000, 0x8, 17, 0x0, 1, false⟩,
      [fd 63 48 .ro 0 .plain,
       fd 27 24 .ro 0 .plain,
       fd 19 16 .ro 0 .plain,
       fd 9 9 .ro 0 .plain,
       fd 8 8 .ro 0 .plain,
       fd 3 3 .ro 0 .plain,
       fd 2 2 .ro 0 .plain,
       fd 1 1 .w1c 0 .plain,
       fd 0 0 .ro 0 .plain]⟩
  | .TH_STAT => ⟨32, ⟨62, 63, 0x6000000, 0x0, 1, 0x0, 1, false⟩,
      [fd 13 12 .ro 0 .S,
       fd 8 8 .ro 0 .plain,
       fd 7 7 .ro 0 .plain,
       fd 6 6 .ro 0 .plain,
       fd 5 5 .ro 0 .S,
       fd 4 4 .ro 0 .S,
       fd 3 3 .ro 0 .S,
       fd 2 2 .ro 0 .plain,
       fd 1 1 .ro 0 .plain,
       fd 0 0 .ro 0 .plain]⟩
  | .TH_CAP => ⟨64, ⟨62, 63, 0x6000008, 0x0, 1, 0x0, 1, false⟩,
      [fd 63 48 .ro 0 .plain,
       fd 47 32 .ro 0 .plain,
       fd 18 16 .ro 1 .plain,
       fd 15 0 .ro 0x1c20 .plain]⟩
  | .TH_FLOW_USED => ⟨32, ⟨62, 63, 0x6000010, 0x0, 1, 0x0, 1, false⟩,
      [fd 31 30 .ro 0 .plain,
       fd 29 0 .ro 0 .plain]⟩
  | .TH_IN_USED => ⟨64, ⟨62, 63, 0x6000018, 0x0, 1, 0x0, 1, false⟩,
      [fd 63 32 .ro 0 .plain,
       fd 31 0 .ro 0 .plain]⟩
  | .TH_ORDER_HOST => ⟨64, ⟨62, 63, 0x6000040, 0x0, 1, 0x0, 1, false⟩,
      [fd 63 32 .rw 0 .S,
       fd 25 24 .rw 0 .S,
       fd 16 16 .rw 0 .S,
       fd 15 0 .rw 0 .S]⟩
  | .TH_ORDER_RACK => ⟨64, ⟨62, 63, 0x6000048, 0x0, 1, 0x0, 1, false⟩,
      [fd 63 32 .ro 0 .S,
       fd 31 31 .ro 0 .S,
       fd 25 24 .ro 0 .S,
       fd 16 16 .ro 0 .S,
       fd 15 0 .ro 0 .S]⟩
  | .TH_ORDER_EFF => ⟨64, ⟨62, 63, 0x6000050, 0x0, 1, 0x0, 1, false⟩,
      [fd 63 32 .ro 0 .plain,
       fd 31 31 .ro 0 .S,
       fd 25 24 .ro 0 .plain,
       fd 16 16 .ro 0 .plain,
       fd 15 0 .ro 0 .plain]⟩
  | .TH_SOFT => ⟨64, ⟨62, 63, 0x6000100, 0x0, 1, 0x0, 1, false⟩,
      [fw 63 48 0 .T .button,
       fw 47 32 0 .T .button,
       fw 31 24 0 .T .button,
       fw 23 16 0 .T .button,
       fw 15 0 0 .T .button]⟩
  | .TH_HARD_T => ⟨32, ⟨62, 63, 0x6000200, 0x0, 1, 0x0, 1, false⟩,
      [fw 31 16 0 .T .seal,
       fw 15 0 0 .T .seal]⟩
  | .TH_HARD_FLOW => ⟨64, ⟨62, 63, 0x6000208, 0x0, 1, 0x0, 1, false⟩,
      [fw 63 48 0 .T .seal,
       fw 47 32 0 .T .seal,
       fw 31 24 0 .T .seal,
       fw 23 16 0 .T .seal,
       fw 15 0 0 .T .seal]⟩
  | .TH_HARD_LEAK => ⟨32, ⟨62, 63, 0x6000210, 0x0, 1, 0x0, 1, false⟩,
      [fw 31 16 0 .T .seal,
       fw 3 0 0 .T .seal]⟩
  | .TH_HARD_EMERG => ⟨32, ⟨62, 63, 0x6000218, 0x0, 1, 0x0, 1, false⟩,
      [fw 15 12 0 .T .seal,
       fw 8 8 0 .T .seal,
       fw 3 0 0 .T .seal]⟩
  | .TH_CURVE => ⟨64, ⟨62, 63, 0x6000300, 0x8, 32, 0x0, 1, false⟩,
      [fd 47 32 .ro 0 .T,
       fd 31 16 .ro 0 .T,
       fd 15 0 .ro 0 .T]⟩
  | .TH_CURVE_STG => ⟨64, ⟨62, 63, 0x6000400, 0x8, 32, 0x0, 1, false⟩,
      [fw 47 32 0 .plain .seal,
       fw 31 16 0 .plain .seal,
       fw 15 0 0 .plain .seal]⟩
  | .TH_CURVE_CMD => ⟨32, ⟨62, 63, 0x6000500, 0x0, 1, 0x0, 1, false⟩,
      [fd 31 16 .ro 0 .plain,
       fd 15 8 .ro 0 .plain,
       fw 0 0 0 .plain .seal]⟩
  | .TH_LEAK => ⟨32, ⟨62, 63, 0x6000508, 0x0, 1, 0x0, 1, false⟩,
      [fd 15 0 .ro 0x7777 .plain]⟩
  | .TH_TEN => ⟨64, ⟨62, 63, 0x6000600, 0x8, 8, 0x0, 1, false⟩,
      [fd 63 48 .ro 0 .plain,
       fd 34 32 .w1c 0 .plain,
       fd 9 0 .rw 0 .T]⟩
  | .TH_TENMAP0 => ⟨64, ⟨62, 63, 0x6000800, 0x10, 48, 0x0, 1, false⟩,
      [fd 63 0 .rw 0 .S]⟩
  | .TH_TENMAP1 => ⟨64, ⟨62, 63, 0x6000808, 0x10, 48, 0x0, 1, false⟩,
      [fd 63 0 .rw 0 .S]⟩
  | .CE_TSG_CFG => ⟨64, ⟨62, 63, 0x7000000, 0x0, 1, 0x0, 1, false⟩,
      [fd 63 60 .rw 0 .plain,
       fd 59 56 .rw 0 .plain,
       fd 55 55 .rw 0 .plain,
       fd 31 0 .rw 0 .plain]⟩
  | .CE_TSG_TIME => ⟨64, ⟨62, 63, 0x7000008, 0x0, 1, 0x0, 1, false⟩,
      [fd 63 32 .rw 0 .plain,
       fd 31 16 .rw 0 .plain,
       fd 15 0 .rw 0 .plain]⟩
  | .CE_TSG_FREQ => ⟨64, ⟨62, 63, 0x7000010, 0x0, 1, 0x0, 1, false⟩,
      [fd 63 32 .rw 0 .plain,
       fd 31 0 .rw 0 .plain]⟩
  | .CE_TSG_CMD => ⟨32, ⟨62, 63, 0x7000018, 0x0, 1, 0x0, 1, false⟩,
      [fd 1 1 .w1s 0 .plain,
       fd 0 0 .w1s 0 .plain]⟩
  | .CE_TSG_STAT => ⟨32, ⟨62, 63, 0x7000020, 0x0, 1, 0x0, 1, false⟩,
      [fd 15 8 .ro 0 .plain,
       fd 0 0 .ro 0 .plain]⟩
  | .CE_CAP_CFG => ⟨64, ⟨62, 63, 0x7000040, 0x0, 1, 0x0, 1, false⟩,
      [fd 63 48 .rw 1 .plain,
       fd 47 40 .rw 0 .plain,
       fd 39 36 .rw 0 .plain,
       fd 1 1 .rw 0 .plain,
       fd 0 0 .rw 0 .plain]⟩
  | .CE_CAP_CMD => ⟨32, ⟨62, 63, 0x7000048, 0x0, 1, 0x0, 1, false⟩,
      [fd 1 1 .w1s 0 .plain,
       fd 0 0 .w1s 0 .plain]⟩
  | .CE_CAP_STAT => ⟨32, ⟨62, 63, 0x7000050, 0x0, 1, 0x0, 1, false⟩,
      [fd 31 24 .ro 0 .plain,
       fd 18 18 .ro 0 .plain,
       fd 17 17 .ro 0 .plain,
       fd 16 0 .ro 0 .plain]⟩
  | .CE_LOOP_CFG => ⟨64, ⟨62, 63, 0x7001000, 0x100, 16, 0x0, 1, false⟩,
      [fw 63 48 0 .T .seal,
       fw 47 40 0 .T .seal,
       fw 39 32 0 .T .seal,
       fw 31 24 0 .T .seal,
       fw 19 16 0 .T .seal,
       fd 1 0 .rw 0 .T]⟩
  | .CE_LOOP_SAFE => ⟨64, ⟨62, 63, 0x7001008, 0x100, 16, 0x0, 1, false⟩,
      [fw 63 32 0 .T .seal,
       fw 31 0 0 .T .seal]⟩
  | .CE_LOOP_SUP => ⟨64, ⟨62, 63, 0x7001010, 0x100, 16, 0x0, 1, false⟩,
      [fw 63 32 0 .T .seal,
       fw 31 28 0 .T .seal,
       fw 23 0 0 .T .seal]⟩
  | .CE_LOOP_FS => ⟨32, ⟨62, 63, 0x7001018, 0x100, 16, 0x0, 1, false⟩,
      [fw 31 0 0 .T .seal]⟩
  | .CE_LOOP_SP => ⟨32, ⟨62, 63, 0x7001020, 0x100, 16, 0x0, 1, false⟩,
      [fd 31 0 .rw 0 .T]⟩
  | .CE_LOOP_MAN => ⟨32, ⟨62, 63, 0x7001028, 0x100, 16, 0x0, 1, false⟩,
      [fd 31 0 .rw 0 .plain]⟩
  | .CE_LOOP_CTL => ⟨32, ⟨62, 63, 0x7001030, 0x100, 16, 0x0, 1, false⟩,
      [fd 2 2 .ro 0 .plain,
       fd 1 1 .w1s 0 .plain,
       fd 0 0 .w1s 0 .plain]⟩
  | .CE_LOOP_STAT => ⟨32, ⟨62, 63, 0x7001038, 0x100, 16, 0x0, 1, false⟩,
      [fd 15 8 .ro 0 .plain,
       fd 4 4 .ro 0 .plain,
       fd 2 0 .ro 0 .plain]⟩
  | .CE_LOOP_OUT => ⟨64, ⟨62, 63, 0x7001080, 0x100, 16, 0x0, 1, false⟩,
      [fd 63 32 .ro 0 .plain,
       fd 31 0 .ro 0 .plain]⟩
  | .CE_LOOP_I => ⟨64, ⟨62, 63, 0x7001088, 0x100, 16, 0x0, 1, false⟩,
      [fd 47 0 .ro 0 .plain]⟩
  | .CE_LOOP_SET0 => ⟨64, ⟨62, 63, 0x7001040, 0x100, 16, 0x20, 2, false⟩,
      [fd 63 32 .rw 0 .T,
       fd 31 0 .rw 0 .T]⟩
  | .CE_LOOP_SET1 => ⟨64, ⟨62, 63, 0x7001048, 0x100, 16, 0x20, 2, false⟩,
      [fd 63 32 .rw 0 .T,
       fd 31 0 .rw 0 .T]⟩
  | .CE_LOOP_SET2 => ⟨64, ⟨62, 63, 0x7001050, 0x100, 16, 0x20, 2, false⟩,
      [fd 63 32 .rw 0 .T,
       fd 31 0 .rw 0 .T]⟩
  | .CE_LOOP_SET3 => ⟨64, ⟨62, 63, 0x7001058, 0x100, 16, 0x20, 2, false⟩,
      [fd 63 32 .rw 0 .T,
       fd 31 0 .rw 0 .T]⟩
  | .CE_FLOW_CFG => ⟨64, ⟨62, 63, 0x7100000, 0x8, 2, 0x0, 1, false⟩,
      [fw 63 32 0 .T .seal,
       fw 31 16 0 .T .seal,
       fw 1 0 0 .T .seal]⟩
  | .CE_AIN_CFG => ⟨32, ⟨62, 63, 0x7100020, 0x4, 9, 0x0, 1, false⟩,
      [fw 31 16 0 .T .seal,
       fw 1 0 0 .T .seal]⟩
  | .CE_LEAK_CFG => ⟨32, ⟨62, 63, 0x7100060, 0x4, 4, 0x0, 1, false⟩,
      [fw 31 0 0 .T .seal]⟩
  | .CE_AIN_VAL => ⟨32, ⟨62, 63, 0x7100080, 0x4, 9, 0x0, 1, false⟩,
      [fd 31 0 .ro 0 .plain]⟩
  | .CE_FLOW_VAL => ⟨32, ⟨62, 63, 0x71000c0, 0x4, 2, 0x0, 1, false⟩,
      [fd 31 0 .ro 0 .plain]⟩
  | .SV_PROF0 => ⟨64, ⟨62, 63, 0x7200000, 0x20, 4, 0x0, 1, false⟩,
      [fw 63 48 0 .T .seal,
       fw 47 32 0 .T .seal,
       fw 31 16 0 .T .seal,
       fw 15 0 0 .T .seal]⟩
  | .SV_PROF1 => ⟨64, ⟨62, 63, 0x7200008, 0x20, 4, 0x0, 1, false⟩,
      [fw 63 48 0 .T .seal,
       fw 47 32 0 .T .seal,
       fw 31 16 0 .T .seal,
       fw 15 0 0 .T .seal]⟩
  | .SV_PROF2 => ⟨64, ⟨62, 63, 0x7200010, 0x20, 4, 0x0, 1, false⟩,
      [fw 33 33 0 .T .seal,
       fw 32 32 0 .T .seal,
       fw 15 0 0 .T .seal]⟩
  | .SV_CFG => ⟨32, ⟨62, 63, 0x7200100, 0x20, 4, 0x0, 1, false⟩,
      [fw 1 0 0 .T .seal]⟩
  | .SV_CMD => ⟨32, ⟨62, 63, 0x7200108, 0x20, 4, 0x0, 1, false⟩,
      [fd 0 0 .rw 0 .plain]⟩
  | .SV_STAT => ⟨32, ⟨62, 63, 0x7200110, 0x20, 4, 0x0, 1, false⟩,
      [fd 15 15 .ro 0 .plain,
       fd 14 14 .w1c 0 .plain,
       fd 7 7 .w1c 0 .plain,
       fd 6 6 .w1c 0 .plain,
       fd 5 5 .w1c 0 .plain,
       fd 4 4 .w1c 0 .plain,
       fd 3 3 .w1c 0 .plain,
       fd 2 0 .ro 0 .plain]⟩
  | .SV_FAULT => ⟨32, ⟨62, 63, 0x7200114, 0x20, 4, 0x0, 1, false⟩,
      [fd 0 0 .w1c 0 .plain]⟩
  | .SV_MEAS => ⟨64, ⟨62, 63, 0x7200118, 0x20, 4, 0x0, 1, false⟩,
      [fd 63 48 .ro 0 .plain,
       fd 47 32 .ro 0xffff .plain,
       fd 31 16 .ro 0 .plain,
       fd 15 0 .ro 0 .plain]⟩
  | .SV_BOOST => ⟨32, ⟨62, 63, 0x7200200, 0x0, 1, 0x0, 1, false⟩,
      [fd 31 16 .ro 0 .plain,
       fd 1 1 .ro 0 .plain,
       fd 0 0 .ro 0 .plain]⟩
  | .FP_CFG => ⟨64, ⟨62, 63, 0x7300000, 0x40, 6, 0x0, 1, false⟩,
      [fw 63 60 0 .T .seal,
       fw 59 56 0 .T .seal,
       fw 47 40 0 .T .seal,
       fw 39 32 0 .T .seal,
       fw 31 31 0 .T .seal,
       fw 23 16 0 .T .seal,
       fw 15 0 0 .T .seal]⟩
  | .FP_SUP => ⟨64, ⟨62, 63, 0x7300008, 0x40, 6, 0x0, 1, false⟩,
      [fw 63 48 0 .T .seal,
       fw 47 32 0 .T .seal,
       fw 31 16 0 .T .seal,
       fw 15 0 0 .T .seal]⟩
  | .FP_ISUP => ⟨64, ⟨62, 63, 0x7300010, 0x40, 6, 0x0, 1, false⟩,
      [fw 63 48 0 .T .seal,
       fw 47 32 0 .T .seal,
       fw 31 16 0 .T .seal,
       fw 15 0 0 .T .seal]⟩
  | .FP_FIXED => ⟨32, ⟨62, 63, 0x7300018, 0x40, 6, 0x0, 1, false⟩,
      [fd 15 0 .rw 0 .T]⟩
  | .FP_STAT => ⟨64, ⟨62, 63, 0x7300020, 0x40, 6, 0x0, 1, false⟩,
      [fd 63 48 .ro 0 .plain,
       fd 47 32 .ro 0 .plain,
       fd 31 16 .ro 0x3e8 .plain,
       fd 15 12 .ro 2 .plain,
       fd 11 8 .ro 0 .plain,
       fd 4 4 .w1c 0 .plain,
       fd 3 3 .w1c 0 .plain,
       fd 2 2 .w1c 0 .plain,
       fd 1 1 .w1c 0 .plain]⟩
  | .FP_ZONE_SRC => ⟨32, ⟨62, 63, 0x7301000, 0x40, 8, 0x0, 1, false⟩,
      [fw 7 0 0 .T .button]⟩
  | .FP_ZONE_PT => ⟨32, ⟨62, 63, 0x7301008, 0x40, 8, 0x4, 8, false⟩,
      [fw 31 16 0 .T .button,
       fw 15 0 0 .T .button]⟩
  | .TB_CTL => ⟨32, ⟨62, 63, 0x8000000, 0x0, 1, 0x0, 1, false⟩,
      [fd 9 9 .rw 0 .T,
       fd 8 8 .rw 0 .T,
       fd 5 5 .w1s 0 .plain,
       fd 4 4 .w1s 0 .plain,
       fd 1 0 .rw 1 .plain]⟩
  | .TB_STAT => ⟨64, ⟨62, 63, 0x8000008, 0x0, 1, 0x0, 1, false⟩,
      [fd 63 56 .ro 0 .plain,
       fd 55 48 .ro 0 .plain,
       fd 47 42 .ro 0 .plain,
       fd 15 15 .ro 0 .plain,
       fd 14 14 .ro 0 .plain,
       fd 13 13 .ro 0 .plain,
       fd 12 12 .w1c 0 .plain,
       fd 11 11 .w1c 0 .plain,
       fd 3 0 .ro 1 .plain]⟩
  | .TB_NOM => ⟨32, ⟨62, 63, 0x8000010, 0x0, 1, 0x0, 1, false⟩,
      [fd 31 24 .rw 0 .T,
       fd 23 16 .rw 0 .T,
       fd 14 8 .rw 0 .T,
       fd 6 0 .rw 0 .T]⟩
  | .TB_DATA => ⟨32, ⟨62, 63, 0x8000018, 0x0, 1, 0x0, 1, false⟩,
      [fd 31 31 .rw 0 .T,
       fd 30 24 .rw 0 .T,
       fd 20 16 .rw 0 .T,
       fd 12 8 .rw 0 .T,
       fd 7 4 .rw 0 .T,
       fd 3 0 .rw 0 .T]⟩
  | .TB_CFG => ⟨64, ⟨62, 63, 0x8000020, 0x0, 1, 0x0, 1, false⟩,
      [fd 63 63 .rw 0 .T,
       fd 62 62 .rw 0 .T,
       fd 55 48 .rw 0 .T,
       fd 41 40 .rw 0 .T,
       fd 31 16 .rw 0 .T]⟩
  | .TB_AUTO => ⟨32, ⟨62, 63, 0x8000028, 0x0, 1, 0x0, 1, false⟩,
      [fd 31 16 .ro 0 .plain,
       fd 15 12 .ro 0 .plain,
       fd 11 8 .ro 0 .plain,
       fd 7 4 .ro 0 .plain,
       fd 1 1 .ro 0 .plain,
       fd 0 0 .ro 0 .plain]⟩
  | .TB_ERRCNT => ⟨64, ⟨62, 63, 0x8000030, 0x0, 1, 0x0, 1, false⟩,
      [fd 63 48 .ro 0 .plain,
       fd 47 40 .ro 0 .plain,
       fd 39 32 .ro 0 .plain,
       fd 31 24 .ro 0 .plain,
       fd 23 16 .ro 0 .plain,
       fd 15 8 .ro 0 .plain]⟩
  | .TB_FWD => ⟨32, ⟨62, 63, 0x8000038, 0x0, 1, 0x0, 1, false⟩,
      [fd 13 0 .ro 0 .S]⟩
  | .TB_ORW_STAT => ⟨32, ⟨62, 63, 0x8000040, 0x0, 1, 0x0, 1, false⟩,
      [fd 31 16 .ro 0 .plain,
       fd 15 0 .ro 0 .S]⟩
  | .TB_FILT_ID => ⟨32, ⟨62, 63, 0x8000100, 0x10, 16, 0x0, 1, false⟩,
      [fd 31 31 .rw 0 .plain,
       fd 30 30 .rw 0 .plain,
       fd 28 0 .rw 0 .plain]⟩
  | .TB_FILT_MASK => ⟨32, ⟨62, 63, 0x8000104, 0x10, 16, 0x0, 1, false⟩,
      [fd 28 0 .rw 0 .plain]⟩
  | .TB_FILT_BUF => ⟨32, ⟨62, 63, 0x8000108, 0x10, 16, 0x0, 1, false⟩,
      [fd 31 16 .ro 0 .plain,
       fd 15 14 .rw 0 .plain,
       fd 13 8 .rw 0 .plain,
       fd 4 0 .rw 0 .plain]⟩
  | .TB_FILT_HITS => ⟨32, ⟨62, 63, 0x800010c, 0x10, 16, 0x0, 1, false⟩,
      [fd 31 0 .ro 0 .plain]⟩
  | .TB_TXB_ID => ⟨32, ⟨62, 63, 0x8001000, 0x50, 32, 0x0, 1, false⟩,
      [fd 30 30 .rw 0 .plain,
       fd 28 0 .rw 0 .plain]⟩
  | .TB_TXB_CTRL => ⟨32, ⟨62, 63, 0x8001004, 0x50, 32, 0x0, 1, false⟩,
      [fd 31 16 .rw 0 .plain,
       fd 15 15 .rw 0 .plain,
       fd 11 8 .rw 0 .plain,
       fd 7 7 .rw 0 .plain,
       fd 6 6 .rw 0 .plain,
       fd 3 0 .rw 0 .plain]⟩
  | .TB_TXB_CMD => ⟨32, ⟨62, 63, 0x8001008, 0x50, 32, 0x0, 1, false⟩,
      [fd 31 24 .ro 0 .plain,
       fd 18 16 .ro 0 .plain,
       fd 1 1 .w1s 0 .plain,
       fd 0 0 .w1s 0 .plain]⟩
  | .TB_TXB_DATA => ⟨32, ⟨62, 63, 0x8001010, 0x50, 32, 0x4, 16, false⟩,
      [fd 31 0 .rw 0 .plain]⟩
  | .TB_RXB_ID => ⟨32, ⟨62, 63, 0x8002000, 0x50, 32, 0x0, 1, false⟩,
      [fd 30 30 .ro 0 .plain,
       fd 28 0 .ro 0 .plain]⟩
  | .TB_RXB_CTRL => ⟨32, ⟨62, 63, 0x8002004, 0x50, 32, 0x0, 1, false⟩,
      [fd 31 30 .ro 0 .plain,
       fd 23 20 .ro 0 .plain,
       fd 7 7 .ro 0 .plain,
       fd 6 6 .ro 0 .plain,
       fd 5 5 .ro 0 .plain,
       fd 3 0 .ro 0 .plain]⟩
  | .TB_RXB_TS => ⟨32, ⟨62, 63, 0x8002008, 0x50, 32, 0x4, 2, false⟩,
      [fd 31 0 .ro 0 .plain]⟩
  | .TB_RXB_DATA => ⟨32, ⟨62, 63, 0x8002010, 0x50, 32, 0x4, 16, false⟩,
      [fd 31 0 .ro 0 .plain]⟩
  | .WD_RST_CMD => ⟨32, ⟨62, 63, 0x5000200, 0x0, 1, 0x0, 1, false⟩,
      [fd 16 16 .w1s 0 .plain,
       fd 15 0 .rw 0 .plain]⟩
  | .WD_RST_STAT => ⟨32, ⟨62, 63, 0x5000208, 0x0, 1, 0x0, 1, false⟩,
      [fd 31 31 .ro 0 .plain,
       fd 23 20 .ro 1 .plain,
       fd 19 16 .ro 6 .plain,
       fd 7 0 .ro 0 .plain]⟩
  | .WD_PKG_STAT => ⟨64, ⟨62, 63, 0x5000210, 0x0, 1, 0x0, 1, true⟩,
      [fd 63 32 .ro 0 .plain,
       fd 15 12 .ro 1 .plain,
       fd 7 7 .ro 0 .plain,
       fd 6 6 .ro 0 .plain,
       fd 5 5 .ro 0 .plain,
       fd 4 4 .ro 0 .plain,
       fd 2 0 .ro 3 .plain]⟩
  | .WD_DIE_PWR => ⟨32, ⟨62, 63, 0x5000300, 0x4, 62, 0x0, 1, true⟩,
      [fd 9 8 .ro 0 .plain,
       fd 1 0 .rw 2 .plain]⟩
  | .WD_FLASH_CMD => ⟨64, ⟨62, 63, 0x5001000, 0x0, 1, 0x0, 1, false⟩,
      [fd 63 32 .rw 0 .plain,
       fd 23 16 .rw 0 .plain,
       fw 3 0 0 .plain .byTable]⟩
  | .WD_FLASH_STAT => ⟨32, ⟨62, 63, 0x5001008, 0x0, 1, 0x0, 1, false⟩,
      [fd 31 31 .ro 0 .plain,
       fd 15 8 .ro 0 .plain,
       fd 7 0 .ro 0 .plain]⟩
  | .WD_FLASH_TBL => ⟨64, ⟨62, 63, 0x5001108, 0x8, 8, 0x0, 1, false⟩,
      [fd 63 32 .ro 0 .plain,
       fd 7 6 .ro 0 .plain,
       fd 3 0 .ro 0 .plain]⟩

/-- Register names, part 0. -/
def regsPart0 : List Reg :=
  [.PW_TWIN_CTL, .PW_TWIN_MEAS, .PW_TWIN_ENERGY, .PW_TWIN_SLACK, .PW_TWIN_AVS, .PW_DIE_ISO, .PW_IN_MEAS, .PW_RAIL_CAP,
   .PW_CONV_OK, .DIE_ID, .MESH_STAT, .MESH_FLITS, .DIE_SLACK, .SPN_CTL, .SPN_STAT, .SPN_PC,
   .SPN_VEC, .SPN_EXC_CAUSE, .SPN_EXC_PC, .SPN_EXC_INFO, .SPN_DB_PEND, .SPN_DB_SET, .SPN_DB_MASK, .SPN_IRQ,
   .SPN_IRQ_EN, .SPN_TIMER_CMP, .SPN_SPOOL, .SPN_RETIRED, .SPN_CYCLES, .SPN_IDLE, .SPN_MAP, .SPN_ASYNC_ADDR,
   .PLY_CMD, .PLY_CMD_ADDR, .PLY_CMD_STAT, .PLY_CMD_ID, .PLY_RESERVE, .PLY_ENTRY, .PLY_ENTRY_CFG, .PLY_ENTRY_STAT,
   .PLY_ENTRY_WAIT, .QD_CFG, .QD_CARVE, .QD_OPEN_TOP, .QD_HBM, .QD_RGN_STAGE0, .QD_RGN_STAGE1, .QD_RGN_STAGE2]

/-- Register names, part 1. -/
def regsPart1 : List Reg :=
  [.QD_RGN_STAGE3, .QD_RGN_CMD, .QD_RGN_STAT, .QD_RGN0, .QD_RGN1, .QD_RGN2, .QD_RGN3, .QD_RGN_INFO,
   .QD_MIR0, .QD_MIR1, .QD_MIR2, .QD_MIR3, .QD_MIR_INFO, .QD_SKEIN_STAT, .QD_SKEIN_EPOCH, .QD_SKEIN_CMD,
   .QD_SKEIN_WM, .QD_SKEIN_WM_TGT, .QD_TEN, .QD_PC, .QD_ENG_SLOTS, .QD_ENG_HELD, .QD_ENG_SKEIN_NS, .QD_ENG_NONFINITE,
   .QD_ENG_DEGRADED, .QD_PHY, .CD_BNK_PWR, .CD_BNK_STAT, .CD_BNK_STARVE, .CD_BNK_MAXWAIT, .CD_BNK_PIN, .CD_MTEST_CTL,
   .CD_MTEST_STAT, .CD_MTEST_FAULT, .WD_BNK_PWR, .WD_BNK_STAT, .WD_BNK_STARVE, .WD_BNK_MAXWAIT, .WD_BNK_PIN, .WD_MTEST_CTL,
   .WD_MTEST_STAT, .WD_MTEST_FAULT, .FS_COLREP_TGT, .FS_COLREP_CMD, .FS_COLREP_STAT, .HI_BAR2_BASE, .HI_PKG_NUM, .HI_LINK_STAT]

/-- Register names, part 2. -/
def regsPart2 : List Reg :=
  [.HI_DMA_BASE, .HI_DMA_CTL, .HI_DMA_HEAD, .HI_DMA_TAIL, .HI_MSIX_LO, .HI_MSIX_HI, .HI_MSIX_PBA, .CX_PORT_CTL,
   .CX_PORT_STAT, .CX_PORT_SN, .WP_PORT_CTL, .WP_PORT_STAT, .WP_PORT_ERR, .WP_PORT_FEC, .WP_LANE, .WP_ROUTE,
   .WP_GCFG, .WP_COLL_POST, .WP_COLL_STAT, .WP_COLL_GRP, .WD_TIME_NS, .WD_TIME_ADJ, .WD_TIME_STEP, .WD_TIME_STAT,
   .TH_HS_TEMP, .TH_HS_CAL, .TH_COOL_T, .TH_DT, .TH_FLOW, .TH_HB_STAT, .TH_HB_TRIM, .TH_CAL_FLUID,
   .TH_CAL_HB, .TH_CAL_TRIM, .TH_CAL_DIE, .WD_FLT_THR, .WD_FLT_QUERY, .WD_FLT_TALLY, .WD_FLT_INJECT, .WD_RET_STAT,
   .WD_RET_CLEAR, .WD_EP_CMD, .WD_EP_ARG, .WD_EP_STAT, .WD_EP_EPOCH, .WD_EP_GRP_CFG, .WD_EP_WAIT, .WD_EP_ENT0]

/-- Register names, part 3. -/
def regsPart3 : List Reg :=
  [.WD_EP_ENT1, .WD_ROLE, .WD_ROLE_CMD, .WD_WDOG_KICK, .WD_WDOG_STAT, .WD_FORCE_LEAK, .WD_DIE_PHASE, .LK_LOCK,
   .LK_HELD, .LK_FORCE, .EV_STAT, .EV_CTL, .EV_LIMIT0, .EV_LIMIT1, .FS_PRES, .FS_SEAL_CNT,
   .WD_LED, .FS_FUSE_PGM, .FS_FUSE_CMD, .FS_FUSE_STAT, .FS_FUSE_BANK, .TH_TWIN, .TH_STAT, .TH_CAP,
   .TH_FLOW_USED, .TH_IN_USED, .TH_ORDER_HOST, .TH_ORDER_RACK, .TH_ORDER_EFF, .TH_SOFT, .TH_HARD_T, .TH_HARD_FLOW,
   .TH_HARD_LEAK, .TH_HARD_EMERG, .TH_CURVE, .TH_CURVE_STG, .TH_CURVE_CMD, .TH_LEAK, .TH_TEN, .TH_TENMAP0,
   .TH_TENMAP1, .CE_TSG_CFG, .CE_TSG_TIME, .CE_TSG_FREQ, .CE_TSG_CMD, .CE_TSG_STAT, .CE_CAP_CFG, .CE_CAP_CMD]

/-- Register names, part 4. -/
def regsPart4 : List Reg :=
  [.CE_CAP_STAT, .CE_LOOP_CFG, .CE_LOOP_SAFE, .CE_LOOP_SUP, .CE_LOOP_FS, .CE_LOOP_SP, .CE_LOOP_MAN, .CE_LOOP_CTL,
   .CE_LOOP_STAT, .CE_LOOP_OUT, .CE_LOOP_I, .CE_LOOP_SET0, .CE_LOOP_SET1, .CE_LOOP_SET2, .CE_LOOP_SET3, .CE_FLOW_CFG,
   .CE_AIN_CFG, .CE_LEAK_CFG, .CE_AIN_VAL, .CE_FLOW_VAL, .SV_PROF0, .SV_PROF1, .SV_PROF2, .SV_CFG,
   .SV_CMD, .SV_STAT, .SV_FAULT, .SV_MEAS, .SV_BOOST, .FP_CFG, .FP_SUP, .FP_ISUP,
   .FP_FIXED, .FP_STAT, .FP_ZONE_SRC, .FP_ZONE_PT, .TB_CTL, .TB_STAT, .TB_NOM, .TB_DATA,
   .TB_CFG, .TB_AUTO, .TB_ERRCNT, .TB_FWD, .TB_ORW_STAT, .TB_FILT_ID, .TB_FILT_MASK, .TB_FILT_BUF]

/-- Register names, part 5. -/
def regsPart5 : List Reg :=
  [.TB_FILT_HITS, .TB_TXB_ID, .TB_TXB_CTRL, .TB_TXB_CMD, .TB_TXB_DATA, .TB_RXB_ID, .TB_RXB_CTRL, .TB_RXB_TS,
   .TB_RXB_DATA, .WD_RST_CMD, .WD_RST_STAT, .WD_PKG_STAT, .WD_DIE_PWR, .WD_FLASH_CMD, .WD_FLASH_STAT, .WD_FLASH_TBL]

/-- Every register name, for the lookup by address. -/
def allRegs : List Reg :=
  List.flatten [regsPart0, regsPart1, regsPart2, regsPart3, regsPart4, regsPart5]

end Sys2Proof.Machine
end

