-- ==== Sys2Proof/Machine/RegReset.lean ====
section
/-! DEFINITION. The value every register holds after POR (R13): the reset column of its table, and by
hand the values the column gives as a word (fused, flash, strap). The flash tables are as manufactured: they
hold the defaults of their chapters, and the least legal value where a chapter gives no default and refuses
zero. -/

namespace Sys2Proof.Machine

/-- The reset values of a register's fields, put together. -/
def tableReset (r : Reg) : W64 :=
  (regDesc r).fields.foldl (fun v f => setBits v f.hi f.lo f.reset) 0

/-- The kind code of a die in DIE_ID (Table SC-2, Table FL-13). -/
def dieKindCode (d : Nat) : Nat := if d < 48 then 0 else if d < 56 then 1 else if d < 62 then 2 else 3

/-- A value put together from numbers and the bits they start at. -/
def pack (l : List (Nat × Nat)) : W64 := BitVec.ofNat 64 (l.foldl (fun n x => n + x.1 * 2 ^ x.2) 0)

/-- The default thresholds (Table REC-1): COUNT, WINDOW in ms, ACTION. -/
def thrDefault (c : Nat) : Nat × Nat × Nat :=
  match c with
  | 0x00 => (16, 1000, 1) | 0x01 => (1, 86400000, 1) | 0x02 => (64, 3600000, 1) | 0x03 => (2, 86400000, 1)
  | 0x04 => (2, 3600000, 1) | 0x05 => (1, 86400000, 1) | 0x06 => (8, 3600000, 1) | 0x07 => (1000, 1000, 1)
  | 0x08 => (0, 0, 1) | 0x09 => (256, 3600000, 1) | 0x0A => (2, 86400000, 1) | 0x0B => (32, 3600000, 1)
  | 0x0C => (8, 3600000, 1) | 0x0D => (16, 3600000, 1) | 0x0E => (3, 86400000, 1) | 0x0F => (4, 3600000, 0)
  | 0x10 => (3, 3600000, 1) | 0x11 => (4, 86400000, 0) | 0x12 => (3, 60000, 3) | _ => (0, 0, 0)

/-- The caps of the default curve by row (Table TH-4). -/
def curveCaps (r : Nat) : List Nat :=
  match r with
  | 0 => [600, 2000, 3600, 5000, 6200, 7000, 7200, 7200]
  | 1 => [600, 1800, 3200, 4600, 5800, 6700, 7200, 7200]
  | 2 => [600, 1500, 2800, 4000, 5100, 5900, 6500, 7000]
  | _ => [600, 1200, 2400, 3500, 4500, 5300, 6000, 6600]

/-- A point of the default curve (Table TH-4). -/
def curveDefault (i : Nat) : W64 :=
  pack [((curveCaps (i / 8)).getD (i % 8) 0, 32), ([200, 400, 600, 800, 1000, 1200, 1400, 2000].getD (i % 8) 0, 16),
    ([180, 380, 420, 450].getD (i / 8) 0, 0)]

/-- A point of a default fan curve (R487, the example after Table ACT-12); the points the example does not give
stand above its last and demand what that one does. -/
def zoneDefault (i : Nat) : W64 :=
  if i < 8 then
    pack [([35840, 43520, 48640, 48641, 48642, 48643, 48644, 48645].getD i 0, 16),
      ([300, 700, 1000, 1000, 1000, 1000, 1000, 1000].getD i 0, 0)]
  else pack [(i % 8, 16)]

/-- The control engine's and the actuators' defaults (R487). -/
def actDefault (r : Reg) (i : Nat) : W64 :=
  match r with
  | .CE_LOOP_CFG => if i = 0 then pack [(20, 48), (8, 40), (1, 32), (1, 0)] else pack [(1, 48), (0xF, 16)]
  | .CE_LOOP_SAFE => if i = 0 then pack [(0x10000000, 32), (0x04000000, 0)] else 0
  | .CE_LOOP_SUP => if i = 0 then pack [(0x01000000, 32), (1, 28), (5000, 0)] else 0
  | .CE_LOOP_FS => if i = 0 then pack [(0x10000000, 0)] else 0
  | .CE_LOOP_SP => if i = 0 then pack [(0x07000000, 0)] else 0
  | .CE_LOOP_SET0 => if i < 2 then pack [(0x28F5C2, 32), (0x20000000, 0)] else 0
  | .CE_LOOP_SET3 => if i < 2 then pack [(0x10000000, 32), (0x04000000, 0)] else 0
  | .CE_LEAK_CFG => pack [(1000, 0)]
  | .SV_PROF0 => pack [(2000, 48), (1000, 16), (4000, 0)]
  | .SV_PROF1 => pack [(10000, 16), (1000, 0)]
  | .SV_PROF2 => pack [(1, 32), (20000, 0)]
  | .FP_CFG => if i = 0 then pack [(1, 60), (2, 56), (1, 32)] else if i = 1 then pack [(2, 60), (1, 56), (1, 32)]
      else pack [(3, 56), (1, 40), (1, 32)]
  | .FP_SUP => pack [(1, 16), (1, 0)]
  | .FP_ISUP => pack [(1, 0)]
  | .FP_FIXED => pack [(1000, 0)]
  | .FP_ZONE_SRC => if i = 0 then pack [(0x38, 0)] else 0
  | .FP_ZONE_PT => zoneDefault i
  | _ => 0

/-- The value of a register after POR. -/
def regReset (r : Reg) (d i : Nat) : W64 :=
  match r with
  | .DIE_ID => BitVec.ofNat 64 (dieKindCode d * 2 ^ 24 + d % 64 * 2 ^ 16)
  | .SPN_MAP => BitVec.ofNat 64 (i * 2 ^ 8 + i)
  | .WD_ROLE => setBits (tableReset r) 0 0 (if d = 63 then 1 else 0)
  | .PW_DIE_ISO => if i < 62 then tableReset r else 0x9
  | .QD_OPEN_TOP => BitVec.ofNat 64 ((d - 48 + 1) * 0x2400000000)
  | .QD_TEN => pack [(255, 0)]
  | .EV_LIMIT0 => if i = 0 then pack [(16, 32), (1000, 0)] else 0
  | .WD_FLT_THR => let t := thrDefault i; pack [(t.2.2, 52), (t.1, 32), (t.2.1, 0)]
  | .FS_COLREP_STAT => pack [(256, 8)]
  | .HI_MSIX_HI => pack [(1, 32)]
  | .WD_RET_STAT => pack [(1024, 16)]
  | .WD_FORCE_LEAK => pack [(1, 8), (0xF, 0)]
  | .TH_SOFT => pack [(500, 48), (150, 32), (60, 24), (30, 16), (950, 0)]
  | .TH_HARD_T => pack [(700, 16), (1050, 0)]
  | .TH_HARD_FLOW => pack [(3000, 48), (600, 32), (50, 24), (20, 16), (200, 0)]
  | .TH_HARD_LEAK => pack [(200, 16), (0xF, 0)]
  | .TH_HARD_EMERG => pack [(3, 12), (1, 8), (0xF, 0)]
  | .TH_CURVE => curveDefault i
  | .TH_TEN => pack [(125, 0)]
  | .TH_CAL_FLUID => pack [(4160, 16), (0x10000 - 140, 0)]
  | .TH_CAL_HB => pack [(10, 24), (20, 16), (150, 0)]
  | .TH_CAL_TRIM => pack [(300, 0)]
  | .TH_CAL_DIE => pack [(50, 16), (128, 0)]
  | .TB_CTL => pack [(1, 9), (1, 8), (1, 0)]
  | .TB_STAT => pack [(1, 14), (1, 0)]
  | .TB_NOM => pack [(2, 24), (63, 16), (16, 8), (16, 0)]
  | .TB_DATA => pack [(1, 31), (32, 24), (1, 16), (31, 8), (8, 4), (8, 0)]
  | .TB_CFG => pack [(1, 63), (1, 62), (50, 48), (1, 40), (1000, 16)]
  | .CE_LOOP_CFG | .CE_LOOP_SAFE | .CE_LOOP_SUP | .CE_LOOP_FS | .CE_LOOP_SP | .CE_LOOP_SET0 | .CE_LOOP_SET3 | .CE_LEAK_CFG
  | .SV_PROF0 | .SV_PROF1 | .SV_PROF2 | .FP_CFG | .FP_SUP | .FP_ISUP | .FP_FIXED | .FP_ZONE_SRC | .FP_ZONE_PT =>
    actDefault r i
  | _ => tableReset r

end Sys2Proof.Machine
end

