-- ==== Sys2Proof/Machine/State.lean ====
section
/-! DEFINITION. The state of the block, its faults and refusals, and the state after reset. -/

namespace Sys2Proof.Machine

/-- A mortar lane (R143, R148): the 640-bit value, its flags (bit 0 NAN, 1 PINF, 2 NINF, 3 OVF,
4 OVF_NEG, Table FMT-10) and its residue. -/
structure Lane where
  n : BitVec 640
  flags : BitVec 5
  res : Nat
  deriving DecidableEq, Repr

/-- A cleared lane (R148). -/
def Lane.zero : Lane := ⟨0, 0, 0⟩

/-- A spool entry (R55): a word, its word index, the cause it raised at decode or issue (code and
SPN_EXC_INFO), and whether the word has begun effects it will complete later. -/
structure Entry where
  word : W256
  pc : Nat
  cause : Option (Nat × W64)
  started : Bool
  deriving DecidableEq, Repr

/-- The architectural state of a logical spindle beside its SPN_ registers and its scratchpad
(Table SP-1, R44): scalar registers, predicates, descriptors, selectors, format-table entries 6 to
15, tile bytes by `tile * 16384 + offset`, mortar lanes by `accumulator * 1024 + lane`; and the spool,
the replays of its oldest word (R61), and whether sequential fetch has passed word 16,383 (R52). -/
structure Spin where
  g : SMap W64
  p : SMap Bool
  a : SMap W128
  f : SMap W32
  fmt : SMap W128
  tile : SMap Byte
  lane : SMap Lane
  spool : List Entry
  replays : Nat
  overrun : Bool
  deriving DecidableEq, Repr

/-- A spindle after SPN reset (R84). -/
def Spin.zero : Spin := ⟨[], [], [], [], [], [], [], [], 0, false⟩

/-- A ply (R156 to R158): its members in order, each a package number and a package spindle number;
its level; `subs`, the plies it is made of at every lower level as (level, first member, log₂ of the
member count); window; AUTO; the members that are lost (R189). -/
structure Ply where
  members : List (Nat × Nat)
  level : Nat
  subs : List (Nat × Nat × Nat)
  window : Nat
  auto : Bool
  stopped : Bool
  lost : List Nat
  deriving DecidableEq, Repr

/-- An event record (Table WD-15). -/
structure Record where
  time : W64
  code : Nat
  unit : Nat
  sev : Nat
  flags : Nat
  skipped : Nat
  payload : Nat
  deriving DecidableEq, Repr

/-- One side of a mailbox pair (Tables WD-7, WD-11): its outbound slot's bytes, OUT_STATUS (0 EMPTY,
1 POSTED, 2 ACKED, 3 ABORTED), REFUSED, WSTAT (0 IDLE, 1 WAITING, 2 ACKED, 3 CROSSED, 4 ABORTED),
inbound doorbells and their mask, and MB_CFG. -/
structure Side where
  slot : SMap Byte
  outStatus : Nat
  refused : Bool
  wstat : Nat
  db : W32
  mask : W32
  cfg : W32
  deriving DecidableEq, Repr

/-- A mailbox side after reset (Table WD-11). -/
def Side.zero : Side := ⟨[], 0, false, 0, 0, 0, 0⟩

/-- What a warden holds for the pair: its sticky block beside the registers of class S, and its
recorder, its copy of the compute-die mailbox pairs, the fault tallies (by unit * 32 + class: tally and window
start) and the retired units (R343, R348, R385, R392, R406). The active warden's changes reach the standby
while MIRROR_OK is 1. -/
structure Sticky where
  records : List Record
  sides : SMap Side
  tallies : SMap (Nat × Nat)
  retired : List Nat
  deriving DecidableEq, Repr

/-- A warden's sticky block after POR. -/
def Sticky.zero : Sticky := ⟨[], [], [], []⟩

/-- A skein record (Table QD-7): `where` is a row number or a byte offset by `frag`. -/
structure SkeinRec where
  seq : Nat
  epoch : Nat
  handle : Nat
  place : Nat
  frag : Bool
  bytes : List Byte
  deriving DecidableEq, Repr

/-- What a span of a slice is rebuilt from (R219, R224, R227): `off` and `len` in the slice; the other copy, whose bytes begin
at package address `base`, or else the stripes, counted from slice offset `base`. -/
structure Shield where
  off : Nat
  len : Nat
  copy : Bool
  base : Nat
  deriving DecidableEq, Repr

/-- The blocks of a pseudo-channel lose their place (R227, R228): the quarry's die, the channel (32 * stack + number), what
could rebuild the blocks then, and the channels that were out and not rebuilt, each with the slice offset below which its blocks
stood in the spare carve. Where the channel was out before, `only` names the spans whose protection is gone now. -/
structure PcLoss where
  die : Nat
  pc : Nat
  only : Option (List (Nat × Nat))
  shields : List Shield
  others : List (Nat × Nat)
  deriving DecidableEq, Repr

/-- What makes blocks lost or valid: a channel's loss, or a copy of `len` bytes of one place to another (R204), which holds
what the source held. -/
inductive BlockEvent where
  | channel (x : PcLoss)
  | copied (dst src len : Nat)
  deriving DecidableEq, Repr

/-- A collective descriptor that waits or runs (R306, R307): its 64 bytes, and whether it has begun. -/
structure CollJob where
  desc : List Byte
  begun : Bool
  deriving DecidableEq, Repr

/-- A request that waits at a bank: the handshakes it has waited, and whether its wait has been recorded (R241). -/
structure BankWait where
  req : BankReq
  waited : Nat
  told : Bool
  deriving DecidableEq, Repr

/-- A ply descriptor as it was read (R181): the two words of its header, and its list where the list could be read. -/
structure PlyDesc where
  lo : W64
  hi : W64
  list : Option (List Nat)
  deriving DecidableEq, Repr

/-- A power-fail save in flash (R547, R549, R554): whether its CRC-32 is right; the warden that wrote it, its
sticky fields that are restored, and the recorder copy. -/
structure Save where
  good : Bool
  warden : Nat
  tallies : SMap (Nat × Nat)
  expiries : Nat
  locate : Nat
  ptr : Nat
  records : List Record
  evStat : W64
  suppressed : SMap Nat
  deriving DecidableEq, Repr

/-- Readings summed over up to 1,000 policy cycles, 100 ms (R337): the cycles; outlets and inlets (means in mK), P_IN in mW and the
metered flow after trim in mL/min; the least and the greatest P_IN; whether an inlet and an outlet were valid in each. -/
structure HeatSum where
  n : Nat
  outlet : Int
  inlet : Int
  pin : Nat
  q : Nat
  lo : Nat
  hi : Nat
  ok : Bool
  deriving DecidableEq, Repr

/-- Two sums together. -/
def HeatSum.add (x y : HeatSum) : HeatSum :=
  ⟨x.n + y.n, x.outlet + y.outlet, x.inlet + y.inlet, x.pin + y.pin, x.q + y.q, min x.lo y.lo, max x.hi y.hi, x.ok && y.ok⟩

/-- How a request ends for the master that made it (R22, R38, R543). -/
inductive Status where
  | ok
  | unsupported
  | addressFault
  | dieLost
  | dataLost
  | retry
  | held
  deriving DecidableEq, Repr

/-- What the last read or request answered: its status and the bytes read. -/
structure Reply where
  status : Status
  data : List Byte
  deriving DecidableEq, Repr

/-- The state of the block. `regs` holds every register of the register tables by name, die and
index, `lats` the numbers and bits no register shows; `mem` the bytes of HBM, CXL, scratchpads, die
pools and warden SRAM by 52-bit package address; `spins` the spindles by package spindle number (R44); `plies` the
plies (R156); `stickyA` and `stickyB` what each warden holds for the pair; `sides` the mailbox sides (R392); `retLog` the
retirement log in flash as unit and class (R354); `flash` the copies of the flash tables, the staged body and the leak
record (R410, R538); `skeins` each quarry's skein (R229); `losses` what made blocks lost, newest first, and `mended` how many of these
came before the last write of a 256-byte block (R227); `flaws` the 64-byte fragments of HBM or CXL memory that hold an error, by
address / 64: 1 correctable, 2 uncorrectable or poison (R195, R280); `dma` the descriptors a host DMA channel is moving, oldest first,
by port * 4 + channel (R273); `coll` the collective engine's queue, oldest first (R306), `collGroups` its group lists by
slot (R302); `mesh` the flits a stop keeps for replay, by die * 4 + link (R21); `plyRuns` the descriptor of the ply command that a sequencer runs with its claims held, by die (R182); `banks` the requests that wait at a memory bank, in order of arrival, by die and slot * 4 + bank (R239, R252); `heat` the readings of the last 10 s for the heat balance, newest first (R337); `saved` the power-fail save in flash; `reply` what the last request was answered; `free` counts the free values drawn; `pending` is the queue
of the commands that wait, first in, first out. -/
structure State where
  regs : SMap W64
  lats : SMap Nat
  mem : List Host.Cell
  spins : SMap Spin
  plies : List Ply
  stickyA : Sticky
  stickyB : Sticky
  sides : SMap Side
  retLog : List (Nat × Nat)
  flash : SMap (List Byte)
  skeins : SMap (List SkeinRec)
  losses : List BlockEvent
  mended : SMap Nat
  flaws : SMap Nat
  dma : SMap (List W256)
  coll : List CollJob
  collGroups : SMap (List Nat)
  mesh : SMap (List MeshFlit)
  plyRuns : SMap (Option PlyDesc)
  banks : SMap (List BankWait)
  heat : List HeatSum
  saved : Option Save
  reply : Reply
  free : Nat
  pending : List Instr
  deriving DecidableEq, Repr

/-- The faults of a step. -/
inductive Fault where
  /-- The command names a unit the block does not have (a die above 63, a spindle above 1,535, ...).
  Raised by every meaning whose command is not well-formed. Safe: no such command exists. -/
  | noSuchUnit
  deriving DecidableEq, Repr

/-- The refusals of a step. -/
inductive Refusal where
  /-- The command has no meaning yet; raised by an arm of `exec`. Safe: the model stops. -/
  | notModelled (mnemonic : String)
  deriving DecidableEq, Repr

/-- The block right after reset (POR): every register at its reset value, memory with nothing listed,
every spindle as after SPN reset, no ply, empty recorders, no command waiting. -/
def State.reset : State :=
  { regs := [], lats := [], mem := [], spins := [], plies := [], stickyA := Sticky.zero,
    stickyB := Sticky.zero, sides := [],
    retLog := [], flash := [], skeins := [], losses := [], mended := [], flaws := [], dma := [], coll := [], collGroups := [], mesh := [], plyRuns := [], banks := [], heat := [],
    saved := none, reply := ⟨.ok, []⟩, free := 0, pending := [] }

end Sys2Proof.Machine
end

