-- ==== Sys2Proof/Machine/Ops.lean ====
section
/-! DEFINITION. The shared operations on the state: registers, latches, memory bytes, the recorder
(R406 to R408), interrupts to the host and the free values. -/

namespace Sys2Proof.Machine

/-- What a command answers. -/
abbrev Out := Host.Outcome State Fault Refusal

/-- A command on a unit that exists; on one that does not, no such command is (WellFormed.lean). -/
def ifUnit (b : Bool) (t : State) : Out := if b then .next t else .fault .noSuchUnit

/-- Apply a change where a condition holds. -/
def State.iff (s : State) (b : Bool) (f : State → State) : State := if b then f s else s

/-- Apply a change for each of a list of indices. -/
def State.each {α : Type} (s : State) (l : List α) (f : α → State → State) : State :=
  l.foldl (fun t x => f x t) s

/-! ## Registers -/

/-- The die under which a register is kept: a shared block is kept once (Table FL-8). -/
def regHome (r : Reg) (d : Nat) : Nat := if (regDesc r).place.shared then (regDesc r).place.dLo else d

/-- The key of a register in the store. -/
def regKey (r : Reg) (d i : Nat) : Nat := Nat.pair (regId r) (Nat.pair (regHome r d) i)

/-- The value of register `r` of die `d`, instance `i`. -/
def State.reg (s : State) (r : Reg) (d i : Nat) : W64 := sget (regReset r (regHome r d) i) s.regs (regKey r d i)

/-- Set a register. -/
def State.setReg (s : State) (r : Reg) (d i : Nat) (v : W64) : State :=
  { s with regs := sset (regReset r (regHome r d) i) s.regs (regKey r d i) v }

/-- The value of a field. -/
def State.fld (s : State) (f : RField) (d i : Nat) : Nat := getBits (s.reg f.reg d i) f.hi f.lo

/-- A one-bit field. -/
def State.flag (s : State) (f : RField) (d i : Nat) : Bool := s.fld f d i != 0

/-- Set a field. -/
def State.setFld (s : State) (f : RField) (d i : Nat) (x : Nat) : State :=
  s.setReg f.reg d i (setBits (s.reg f.reg d i) f.hi f.lo x)

/-- Set a one-bit field. -/
def State.setFlag (s : State) (f : RField) (d i : Nat) (b : Bool) : State := s.setFld f d i b.toNat

/-- A counter field that wraps. -/
def State.incFld (s : State) (f : RField) (d i : Nat) (n : Nat) : State := s.setFld f d i (s.fld f d i + n)

/-- A counter field that saturates. -/
def State.satFld (s : State) (f : RField) (d i : Nat) (n : Nat) : State :=
  s.setFld f d i (satAdd (f.hi + 1 - f.lo) (s.fld f d i) n)

/-! ## Latches -/

/-- The value of a latch. -/
def State.lat (s : State) (l : Lat) (d i : Nat) : Nat := sget 0 s.lats (Nat.pair (latId l) (Nat.pair d i))

/-- Set a latch. -/
def State.setLat (s : State) (l : Lat) (d i : Nat) (v : Nat) : State :=
  { s with lats := sset 0 s.lats (Nat.pair (latId l) (Nat.pair d i)) v }

/-! ## The active warden (R381, R385) -/

/-- The die of the active warden. While neither warden is active, the one that last was serves
nothing; the model then names WD-A. -/
def State.aw (s : State) : Nat := if s.flag fWD_ROLE_ACTIVE 63 0 then 63 else 62

/-- The other warden's die. -/
def otherWarden (d : Nat) : Nat := if d = 62 then 63 else 62

/-- A master is the active warden's core. -/
def State.isActive (s : State) : Master → Bool
  | .warden w => decide (62 + w = s.aw) && s.flag fWD_ROLE_ACTIVE (62 + w) 0
  | _ => false

/-- A master is a host port or the active warden's core. -/
def State.hostOrActive (s : State) (m : Master) : Bool :=
  match m with
  | .host _ => true
  | m => s.isActive m

/-- The bits of a warden register the active warden mirrors: fields of class S and E, and the locks
(R385). A warden's expiries are its own (Table WD-4). -/
def mirrorMask (r : Reg) : W64 :=
  match r with
  | .LK_LOCK => BitVec.allOnes 64
  | .WD_WDOG_STAT => 0
  | .TH_HB_TRIM => maskOf 15 0
  | r => (regDesc r).fields.foldl
      (fun v f => if f.cls = .S ∨ f.cls = .E then v ||| maskOf f.hi f.lo else v) 0

/-- The active warden's register. -/
def State.wreg (s : State) (r : Reg) (i : Nat) : W64 := s.reg r s.aw i

/-- Set the active warden's register; while MIRROR_OK is 1 the standby's mirrored bits follow. -/
def State.setWreg (s : State) (r : Reg) (i : Nat) (v : W64) : State :=
  let t := s.setReg r s.aw i v
  let m := mirrorMask r
  if s.flag fWD_ROLE_MIRROR_OK s.aw 0 && m != 0 then
    let o := otherWarden s.aw
    t.setReg r o i ((t.reg r o i &&& ~~~m) ||| (v &&& m))
  else t

/-- A field of the active warden's register. -/
def State.wfld (s : State) (f : RField) (i : Nat) : Nat := getBits (s.wreg f.reg i) f.hi f.lo

/-- A one-bit field of the active warden's register. -/
def State.wflag (s : State) (f : RField) (i : Nat) : Bool := s.wfld f i != 0

/-- Set a field of the active warden's register. -/
def State.setWfld (s : State) (f : RField) (i : Nat) (x : Nat) : State :=
  s.setWreg f.reg i (setBits (s.wreg f.reg i) f.hi f.lo x)

/-- A saturating counter field of the active warden. -/
def State.satWfld (s : State) (f : RField) (i : Nat) (n : Nat) : State :=
  s.setWfld f i (satAdd (f.hi + 1 - f.lo) (s.wfld f i) n)

/-- A warden's sticky block. -/
def State.stickyOf (s : State) (d : Nat) : Sticky := if d = 63 then s.stickyB else s.stickyA

/-- Set a warden's sticky block. -/
def State.setStickyOf (s : State) (d : Nat) (k : Sticky) : State :=
  if d = 63 then { s with stickyB := k } else { s with stickyA := k }

/-- The active warden's sticky block. -/
def State.sticky (s : State) : Sticky := s.stickyOf s.aw

/-- Change the active warden's sticky block; while MIRROR_OK is 1 the standby's follows (R385). -/
def State.updSticky (s : State) (f : Sticky → Sticky) : State :=
  let t := s.setStickyOf s.aw (f (s.stickyOf s.aw))
  if s.flag fWD_ROLE_MIRROR_OK s.aw 0 then
    t.setStickyOf (otherWarden s.aw) (f (s.stickyOf (otherWarden s.aw)))
  else t

/-! ## Memory banks -/

/-- The requests that wait at the banks of a die are gone. -/
def State.dropWaits (s : State) (d : Nat) : State := { s with banks := s.banks.filter fun x => (Nat.unpair x.1).1 != d }

/-! ## Free values -/

/-- Draw a fresh free number. -/
def State.draw (s : State) : Nat × State := (s.free, { s with free := s.free + 1 })

/-! ## Time -/

/-- The package nanosecond counter (R322). -/
def State.now (s : State) : Nat := (s.reg .WD_TIME_NS 62 0).toNat

/-- The whole half-nanoseconds one edge of the 80 MHz clock adds, with the slew of WD_TIME_ADJ, and the slew kept back
(R322, R326). -/
def State.edge (s : State) : Nat × State :=
  let x := signedOf 48 (s.lat .adjAcc 0 0) + 25 * signedOf 16 (s.fld fWD_TIME_ADJ_PPM s.aw 0)
  let q := x / 100000000
  ((25 + q).toNat, s.setLat .adjAcc 0 0 (ofSigned 48 (x - q * 100000000)))

/-- One handshake of the 80 MHz clock: the nanosecond counter advances by 12.5 ns, slewed (R322, R326), and a quarry
whose skein is full counts the time its changes stall (Table QD-20). -/
def State.idle (s : State) : State :=
  let e := s.edge
  let n := s.lat .timeHalf 0 0 + e.1
  let t := (e.2.setLat .timeHalf 0 0 (n % 2)).setReg .WD_TIME_NS 62 0 (s.reg .WD_TIME_NS 62 0 + BitVec.ofNat 64 (n / 2))
  t.each (List.range' 48 8) fun d u =>
    if u.flag fQD_SKEIN_STAT_FULL d 0 then
      (u.incFld fQD_ENG_SKEIN_NS_COUNT d 0 (n / 2)).incFld fQD_ENG_HELD_COUNT d 0 (n / 2)
    else u

/-! ## Interrupts to the host (Table LNK-4) -/

/-- Raise an MSI-X vector of a host port: a masked vector sets its pending bit, another sends its
message. -/
def State.raiseMsix (s : State) (port vec : Nat) : State :=
  if bitOf (s.reg .HI_MSIX_HI 60 (port * 16 + vec)) 32 then
    s.setReg .HI_MSIX_PBA 60 port (s.reg .HI_MSIX_PBA 60 port ||| maskOf vec vec)
  else s.setLat .msixSent port vec (s.lat .msixSent port vec + 1)

/-- The host side of a warden's host pair (R392): pair 0 with WD-A, pair 1 with WD-B. -/
def hostSide (pair : Nat) : Nat := 2 * pair + 1

/-- A side of pairs 0 to 2. -/
def State.side (s : State) (k : Nat) : Side := sget Side.zero s.sides k

/-- Set a side of pairs 0 to 2. -/
def State.setSide (s : State) (k : Nat) (x : Side) : State := { s with sides := sset Side.zero s.sides k x }

/-- Set doorbells toward the host in a warden's host pair, raising vector 0 or 1 of both ports when an
unmasked bit is pending (R396). -/
def State.hostDoorbell (s : State) (pair : Nat) (bits : W32) : State :=
  let x := s.side (hostSide pair)
  let y := { x with db := x.db ||| bits }
  let t := s.setSide (hostSide pair) y
  if (bits &&& x.mask) != 0 then (t.raiseMsix 0 pair).raiseMsix 1 pair else t

/-! ## The event recorder (R406 to R408) -/

/-- The severities of Table SC-7. -/
inductive Sev where
  | note | warn | fault | fatal
  deriving DecidableEq, Repr

/-- The severity's code in a record. -/
def Sev.code : Sev → Nat
  | .note => 0 | .warn => 1 | .fault => 2 | .fatal => 3

/-- The unit identifier of a unit of a die (R35). -/
def unitId (d u : Nat) : Nat := d * 1024 + u

/-- The whole of a compute, quarry or I/O die (R35). -/
def dieUnit (d : Nat) : Nat := unitId d 0x3FF

/-- A die as a whole: a warden is named by its core (R35). -/
def wholeUnit (d : Nat) : Nat := if 62 ≤ d then unitId d 0 else dieUnit d

/-- The index of a warden register a store key stands for. -/
def keyIndex (r : Reg) (d k : Nat) : Option Nat :=
  let p := Nat.unpair k
  let q := Nat.unpair p.2
  if p.1 = regId r ∧ q.1 = d then some q.2 else none

/-- The rate-limit entry of a code: the entry that names it, else entry 0 (R407). -/
def State.limitEntry (s : State) (code : Nat) : Nat :=
  ((s.regs.filterMap fun kv =>
    match keyIndex .EV_LIMIT0 s.aw kv.1 with
    | some i => if i ≠ 0 ∧ code ≠ 0 ∧ getBits kv.2 63 48 = code then some i else none
    | none => none).head?).getD 0

/-- One token in the units of `Lat.evDeficit`. -/
def tokenUnit : Nat := 1000000000000

/-- Append a record to the active warden's recorder; at 8,192 recording has stopped and the occurrence
counts in OVERFLOW (R408). -/
def State.appendRecord (s : State) (e : Nat) (r : Record) : State :=
  if s.wflag fEV_STAT_FULL 0 then s.satWfld fEV_STAT_OVERFLOW 0 1
  else
    let t := (s.updSticky fun k => { k with records := k.records ++ [r] }).setLat .evSkipped 0 e 0
    let n := t.wfld fEV_STAT_COUNT 0 + 1
    let u := (t.setWfld fEV_STAT_COUNT 0 n).setWfld fEV_STAT_FULL 0 (if n = 8192 then 1 else 0)
    if s.wfld fEV_CTL_NOTIFY 0 ≤ r.sev ∨ n = 8192 then u.hostDoorbell (s.aw - 62) 4 else u

/-- One occurrence of an event reaches the recorder (R407). -/
def State.event (s : State) (code : Nat) (sev : Sev) (unit payload : Nat) : State :=
  let e := s.limitEntry code
  let burst := s.wfld fEV_LIMIT0_BURST e
  let rate := s.wfld fEV_LIMIT0_RATE e
  let gained := (s.now - s.lat .evLast 0 e) * rate
  let deficit := s.lat .evDeficit 0 e - gained
  let t := s.setLat .evLast 0 e s.now
  if rate = 0 ∨ burst * tokenUnit < deficit + tokenUnit then
    ((t.setLat .evDeficit 0 e deficit).satWfld fEV_LIMIT1_SUPPRESSED e 1).setLat .evSkipped 0 e
      (satAdd 16 (s.lat .evSkipped 0 e) 1)
  else
    (t.setLat .evDeficit 0 e (deficit + tokenUnit)).appendRecord e
      ⟨BitVec.ofNat 64 s.now, code, unit, sev.code, s.aw - 62, s.lat .evSkipped 0 e, payload⟩

/-- An event of the active warden itself. -/
def State.wevent (s : State) (code : Nat) (sev : Sev) (u payload : Nat) : State :=
  s.event code sev (unitId s.aw u) payload

/-! ## Memory -/

/-- What a byte of memory that nothing has written reads as (RAM after power-on: DESIGN CHOICE). -/
def memBlank : Byte := 0

/-- The byte at a package address. -/
def State.byte (s : State) (a : Nat) : Byte := sget memBlank s.mem a

/-- Write bytes from a package address on. -/
def State.setBytes (s : State) (a : Nat) (bs : List Byte) : State := { s with mem := ssetList memBlank s.mem a bs }

/-- Read `n` bytes from a package address on. -/
def State.bytes (s : State) (a n : Nat) : List Byte := sgetList memBlank s.mem a n

/-- The memory is in its canonical form. -/
def Memory.wf (m : List Host.Cell) : Bool := swf memBlank m

/-- `n` bits of a CRC-32 (reflected polynomial 0xEDB88320). -/
def crcBits : Nat → Nat → Nat
  | 0, x => x
  | n + 1, x => if x % 2 = 1 then crcBits n (x / 2 ^^^ 0xEDB88320) else crcBits n (x / 2)

/-- A CRC-32 in progress goes on over bytes; each value is a number before the next byte is looked at. -/
def crcOver : List Byte → Nat → Nat
  | [], x => x
  | b :: bs, 0 => crcOver bs (crcBits 8 b.toNat)
  | b :: bs, x + 1 => crcOver bs (crcBits 8 ((x + 1) ^^^ b.toNat))

/-- CRC-32 of bytes. -/
def crc32 (bs : List Byte) : W32 := ~~~BitVec.ofNat 32 (crcOver bs 0xFFFFFFFF)

/-- The last read's or request's answer. -/
def State.answer (s : State) (st : Status) (bs : List Byte) : State := { s with reply := ⟨st, bs⟩ }

end Sys2Proof.Machine
end

