-- ==== Sys2Proof/Machine/Spindle.lean ====
section
/-! DEFINITION. Spindles and plies as every word and command sees them: numbers and power, registers,
replicated state, doorbells and waits, taking an exception or a machine check, retiring a word
(chapters 02 and 05). -/

namespace Sys2Proof.Machine

/-! ## Numbers, power and presence -/

/-- Logical spindles of the package (R34). -/
def nSpindles : Nat := 1536

/-- The compute die of a package spindle number (R34). -/
def spDie (sp : Nat) : Nat := sp / 32

/-- The logical index on its die (R34). -/
def spIdx (sp : Nat) : Nat := sp % 32

/-- Start of die d's control window (R39). -/
def winBase (d : Nat) : Nat := 0xF000000000000 + d * 0x100000000

/-- Package address of a byte of a spindle's scratchpad (Table FL-16). -/
def padAddr (sp off : Nat) : Nat := winBase (spDie sp) + spIdx sp * 0x4000000 + off

/-- The physical spindle that answers the slot (R41). -/
def State.phys (s : State) (sp : Nat) : Nat := s.fld fSPN_MAP_PHYS (spDie sp) (spIdx sp)

/-- The twin of the slot: twin k holds physical spindles 2k and 2k + 1. -/
def State.twinOf (s : State) (sp : Nat) : Nat := s.phys sp / 2

/-- The unit identifier of the physical spindle (Table FL-11). -/
def State.spUnit (s : State) (sp : Nat) : Nat := unitId (spDie sp) (s.phys sp)

/-- A die can be reached, its rails are closed and it is in no DIE reset (R22, R32, R528): the wardens always
are. -/
def State.dieUp (s : State) (d : Nat) : Bool :=
  s.flag fPW_DIE_ISO_ON 62 d && s.flag fPW_DIE_ISO_MS_ON 62 d && s.lat .stopRetired d 0 == 0 &&
    s.lat .inReset d 0 == 0

/-- A twin's state (Table FL-5): 0 OFF, 1 RETAIN, 2 ON; OFF where the die's rails are open. -/
def State.twinState (s : State) (d k : Nat) : Nat :=
  if s.flag fPW_DIE_ISO_ON 62 d then s.fld fPW_TWIN_CTL_STATE d k else 0

/-- The spindle's twin is ON. -/
def State.spPowered (s : State) (sp : Nat) : Bool := s.twinState (spDie sp) (s.twinOf sp) == 2

/-- SPN_STAT.STATE as it reads (R80, Table SP-8): 0 OFF, 1 RESET, 2 HALTED, 3 RUNNING, 4 WAITING,
5 CHECKED, 6 RETIRED. -/
def State.spState (s : State) (sp : Nat) : Nat :=
  if s.lat .slotRetired sp 0 ≠ 0 then 6
  else if s.spPowered sp then s.fld fSPN_STAT_STATE (spDie sp) (spIdx sp) else 0

/-- A field of an SPN_ register of a spindle. -/
def State.spFld (s : State) (f : RField) (sp : Nat) : Nat := s.fld f (spDie sp) (spIdx sp)

/-- A one-bit field of an SPN_ register of a spindle. -/
def State.spFlag (s : State) (f : RField) (sp : Nat) : Bool := s.flag f (spDie sp) (spIdx sp)

/-- Set a field of an SPN_ register of a spindle. -/
def State.setSpFld (s : State) (f : RField) (sp x : Nat) : State := s.setFld f (spDie sp) (spIdx sp) x

/-- This package's own number (R36). -/
def State.pkg (s : State) : Nat := s.fld fHI_PKG_NUM_NUM 60 0

/-! ## Architectural registers (Table SP-1) -/

/-- The architectural state of a spindle. -/
def State.spin (s : State) (sp : Nat) : Spin := sget Spin.zero s.spins sp

/-- Change the architectural state of a spindle. -/
def State.updSpin (s : State) (sp : Nat) (f : Spin → Spin) : State :=
  { s with spins := sset Spin.zero s.spins sp (f (s.spin sp)) }

/-- Register g[k]. -/
def Spin.getG (x : Spin) (k : Nat) : W64 := sget 0 x.g k
/-- Set g[k]. -/
def Spin.setG (x : Spin) (k : Nat) (v : W64) : Spin := { x with g := sset 0 x.g k v }
/-- Predicate p[k]; p0 reads 1 (R45). -/
def Spin.getP (x : Spin) (k : Nat) : Bool := if k = 0 then true else sget false x.p k
/-- Set p[k]; a write to p0 is discarded (R45). -/
def Spin.setP (x : Spin) (k : Nat) (v : Bool) : Spin := if k = 0 then x else { x with p := sset false x.p k v }
/-- Descriptor a[k]. -/
def Spin.getA (x : Spin) (k : Nat) : W128 := sget 0 x.a k
/-- Set a[k]. -/
def Spin.setA (x : Spin) (k : Nat) (v : W128) : Spin := { x with a := sset 0 x.a k v }
/-- Selector f[k]. -/
def Spin.getF (x : Spin) (k : Nat) : W32 := sget 0 x.f k
/-- Set f[k]. -/
def Spin.setF (x : Spin) (k : Nat) (v : W32) : Spin := { x with f := sset 0 x.f k v }
/-- Tile bytes from an offset of tile `t` on. -/
def Spin.tileBytes (x : Spin) (t o n : Nat) : List Byte := sgetList 0 x.tile (t * 16384 + o) n
/-- Write tile bytes. -/
def Spin.setTileBytes (x : Spin) (t o : Nat) (bs : List Byte) : Spin :=
  { x with tile := ssetList 0 x.tile (t * 16384 + o) bs }
/-- Lane `l` of accumulator `m`. -/
def Spin.getLane (x : Spin) (m l : Nat) : Lane := sget Lane.zero x.lane (m * 1024 + l)
/-- Set a lane. -/
def Spin.setLane (x : Spin) (m l : Nat) (v : Lane) : Spin :=
  { x with lane := sset Lane.zero x.lane (m * 1024 + l) v }

/-- The preset format-table entries (Table FMT-5): low quadwords of entries 0 to 5. -/
def presetLow : Nat → Nat
  | 0 => 0x2000500124 | 1 => 0x2000500126 | 2 => 0x2000500336
  | 3 => 0x2000510748 | 4 => 0x2000720F58 | _ => 0x2000100608

/-- An entry of the format table: presets for 0 to 5, ENABLE and VALID 1; an unwritten entry 6 to 15
fails check 0x1 (Table FMT-2). -/
def Spin.fmtEntry (x : Spin) (k : Nat) : W128 :=
  if k < 6 then BitVec.ofNat 128 (presetLow k + 3 * 2 ^ 64) else sget (BitVec.ofNat 128 (2 ^ 68)) x.fmt k

/-! ## Plies (R156 to R159) -/

/-- The spindle is a member of the ply, in this package. -/
def State.inPly (s : State) (sp : Nat) (p : Ply) : Bool := p.members.contains (s.pkg, sp)

/-- The position of a spindle's ply in the list of plies. -/
def State.plyIdx (s : State) (sp : Nat) : Option Nat := s.plies.findIdx? (s.inPly sp)

/-- The ply of a spindle. -/
def State.plyOf (s : State) (sp : Nat) : Option Ply := s.plies.find? (s.inPly sp)

/-- The spindle belongs to a ply of more than one member. -/
def State.inRealPly (s : State) (sp : Nat) : Bool :=
  match s.plyOf sp with
  | some p => decide (1 < p.members.length)
  | none => false

/-- Members that are spindles of this package, with their indices. -/
def State.localOf (s : State) (ms : List (Nat × Nat)) : List (Nat × Nat) :=
  (ms.zipIdx.filter fun x => x.1.1 = s.pkg).map fun x => (x.2, x.1.2)

/-- The members that are lost (R189). -/
def Ply.gone (p : Ply) : List (Nat × Nat) := p.lost.filterMap fun i => p.members[i]?

/-- The members of a list that run words here: those of this package that are not lost (R180). -/
def State.aliveOf (s : State) (p : Ply) (ms : List (Nat × Nat)) : List (Nat × Nat) :=
  (s.localOf ms).filter fun m => !p.gone.contains (s.pkg, m.2)

/-- The local members, with their indices, of the ply of a spindle; the spindle alone where it is in no
ply of more than one. -/
def State.mates (s : State) (sp : Nat) : List (Nat × Nat) :=
  match s.plyOf sp with
  | some p => if 1 < p.members.length then s.aliveOf p p.members else [(0, sp)]
  | none => [(0, sp)]

/-- The ply of a spindle has stopped (R180): only its committed words still end. -/
def State.plyStopped (s : State) (sp : Nat) : Bool :=
  match s.plyOf sp with
  | some p => p.stopped && decide (1 < p.members.length)
  | none => false

/-- The spindle runs the word stream: it is in no ply of more than one, or is its member 0. -/
def State.isLead (s : State) (sp : Nat) : Bool :=
  match s.plyOf sp with
  | some p => decide (p.members.length ≤ 1) || decide (p.members.head? = some (s.pkg, sp))
  | none => true

/-- The lead of a spindle's ply. -/
def State.leadOf (s : State) (sp : Nat) : Nat :=
  match s.plyOf sp with
  | some p => match p.members.head? with
    | some (k, m) => if k = s.pkg then m else sp
    | none => sp
  | none => sp

/-- Change the architectural state of every local member (R159). -/
def State.updMates (s : State) (sp : Nat) (f : Spin → Spin) : State :=
  s.each (s.mates sp) fun m t => t.updSpin m.2 f

/-- Set a field of an SPN_ register in every local member (R159). -/
def State.setMatesFld (s : State) (f : RField) (sp x : Nat) : State :=
  s.each (s.mates sp) fun m t => t.setSpFld f m.2 x

/-- Put a list of NOTICE bits in a member's PLY_ENTRY_STAT (Table PLY-15). -/
def State.notice (s : State) (sp bits : Nat) : State :=
  s.setFld fPLY_ENTRY_STAT_NOTICE (spDie sp) (spIdx sp)
    (s.fld fPLY_ENTRY_STAT_NOTICE (spDie sp) (spIdx sp) ||| bits)

/-- The identity of a ply as a 64-bit word (R157). -/
def Ply.identity (p : Ply) : Nat :=
  match p.members.head? with
  | some (k, m) => k * 2 ^ 52 + m
  | none => 0

/-- Write the PLY_ENTRY and PLY_ENTRY_CFG registers of a ply's local members (Tables PLY-13, PLY-14). -/
def State.writeEntries (s : State) (p : Ply) (st : Nat) : State :=
  let id := match p.members.head? with | some x => x | none => (0, 0)
  let log2c := match p.subs.find? (fun x => x.1 + 1 = p.level) with | some x => x.2.2 | none => 0
  s.each (s.localOf p.members) fun m t =>
    let d := spDie m.2
    let i := spIdx m.2
    let t1 := t.setReg .PLY_ENTRY d i (BitVec.ofNat 64
      (id.1 * 2 ^ 52 + id.2 * 2 ^ 32 + m.1 * 2 ^ 10 + p.level * 2 ^ 7 + Nat.log2 p.members.length * 4 + st))
    let t2 := t1.setReg .PLY_ENTRY_CFG d i (BitVec.ofNat 64
      (p.auto.toNat * 2 ^ 48 + p.window * 2 ^ 32 + (if p.level = 1 then 0 else log2c)))
    t2.setSpFld fSPN_STAT_PLY_MEMBER m.2 (decide (1 < p.members.length)).toNat

/-! ## Doorbells and waits (R69 to R77) -/

/-- The fields of a C-word a WAIT uses. -/
def wGA (w : W256) : Nat := bitsOf w 34 30
/-- Second g register. -/
def wGB (w : W256) : Nat := bitsOf w 39 35
/-- Third g register. -/
def wGC (w : W256) : Nat := bitsOf w 44 40
/-- Destination predicate. -/
def wPD (w : W256) : Nat := bitsOf w 48 45
/-- MODE. -/
def wMODE (w : W256) : Bool := bitOf w 49

/-- The bits of a WAIT's mask that match, where it ends with a match (R75, R77). -/
def State.waitMatch (s : State) (sp : Nat) (w : W256) : Option Nat :=
  let mask := bitsOf ((s.spin sp).getG (wGA w)) 31 0
  let hit := s.spFld fSPN_DB_PEND_PEND sp &&& mask
  if wMODE w then (if hit = mask then some hit else none) else (if hit ≠ 0 then some hit else none)

/-- Every member enters HALTED and any RUN, HALT or STEP request ends (R82). -/
def State.halted (s : State) (sp : Nat) : State :=
  s.each (s.mates sp) fun m t =>
    ((((t.setSpFld fSPN_STAT_STATE m.2 2).setSpFld fSPN_CTL_STEP m.2 0).setSpFld fSPN_CTL_HALT m.2 0).setSpFld
      fSPN_CTL_RUN m.2 0).setLat .stepDone m.2 0 0

/-- The bytes of a word of bank 0 as the spindle would fetch it now. -/
def State.wordAt (s : State) (sp pc : Nat) : W256 := BitVec.ofNat 256 (leValue (s.bytes (padAddr sp (32 * pc)) 32))

/-- Issued words that a write to bank 0 has changed are discarded with those behind them, and issue again (R53); the first
`n`, past their commit point, stay. -/
def State.freshWords (s : State) (sp : Nat) : Nat → List Entry → List Entry
  | _, [] => []
  | 0, e :: es => if e.started || e.pc == 16384 || e.word == s.wordAt sp e.pc then e :: s.freshWords sp 0 es else []
  | n + 1, e :: es => e :: s.freshWords sp n es

/-- A word leaves the spool (R55, R58): the PC moves to `pc'` (16,384 where sequential fetch has passed the last
word, R52) and the word is counted; in every member of a ply (R174). -/
def State.passWord (s : State) (sp pc' : Nat) : State :=
  let left := s.lat .cleared sp 0 - 1
  (s.each (s.mates sp) fun m t =>
    let t1 := (t.setSpFld fSPN_PC_WORD m.2 pc').incFld fSPN_RETIRED_COUNT (spDie m.2) (spIdx m.2) 1
    (t1.updSpin m.2 fun x =>
      { x with spool := s.freshWords sp left (x.spool.drop 1), replays := 0, overrun := pc' == 16384 }).setLat
      .stepDone m.2 0 (t.spFld fSPN_CTL_STEP m.2)).setLat
      .cleared sp 0 left

/-- A word retires; a ply that has stopped halts with its last committed word (R180). -/
def State.retire (s : State) (sp pc' : Nat) : State :=
  let t := s.passWord sp pc'
  if s.plyStopped sp && s.lat .cleared sp 0 - 1 == 0 then t.halted sp else t

/-- A WAIT ends (R75): its destinations are written in every member, the matched bits clear, the word
retires and the spindle runs on. -/
def State.endWait (s : State) (sp : Nat) (w : W256) (pc : Nat) (hit : Option Nat) : State :=
  let bits := hit.getD 0
  let t := s.setSpFld fSPN_DB_PEND_PEND sp (s.spFld fSPN_DB_PEND_PEND sp &&& (0xFFFFFFFF ^^^ bits))
  let u := t.updMates sp fun x => (x.setG (wGC w) (BitVec.ofNat 64 bits)).setP (wPD w) hit.isSome
  (u.setMatesFld fSPN_STAT_STATE sp 3).retire sp (pc + 1)

/-- A waiting spindle's WAIT is tested (R75), of a ply at member 0 (R177); a halt request has ended it (R79). -/
def State.testWait (s : State) (sp : Nat) : State :=
  if s.isLead sp && s.spState sp == 4 && !s.spFlag fSPN_CTL_HALT sp then
    match (s.spin sp).spool.head? with
    | some e => match s.waitMatch sp e.word with
      | some h => s.endWait sp e.word e.pc (some h)
      | none => s
    | none => s
  else s

/-- The active warden brings a twin to ON (R70, R401); a retired twin stays OFF. -/
def State.twinOn (s : State) (d k : Nat) : State :=
  if s.flag fPW_TWIN_CTL_RETIRED d k || !s.dieUp d then s
  else (s.setFld fPW_TWIN_CTL_STATE d k 2).setFld fPW_TWIN_CTL_VID_ACT d k (s.fld fPW_TWIN_CTL_VID d k)

/-- The die's phase makes a doorbell a wake event (R400, R401). -/
def State.wakePhase (s : State) (d : Nat) : Bool := s.wfld fWD_DIE_PHASE_PHASE d != 0

/-- Doorbell bits arrive at a spindle (R69 to R71, R75, R401): discarded in SPN reset, whatever the twin's state, else
pending; a powered-down twin is woken in a start-up, test or recovery phase; a WAIT may end. -/
def State.doorbell (s : State) (sp bits : Nat) : State :=
  if s.spFld fSPN_STAT_STATE sp = 1 then s.event 0x1105 .warn (s.spUnit sp) sp
  else
    let t := s.setSpFld fSPN_DB_PEND_PEND sp (s.spFld fSPN_DB_PEND_PEND sp ||| bits % 2 ^ 32)
    let t := if 2 ≤ s.wfld fWD_EP_STAT_PHASE 0 then t.setLat .dbArrived sp 0 (s.lat .dbArrived sp 0 ||| bits % 2 ^ 32) else t
    if bits % 2 ^ 32 ≠ 0 ∧ s.wakePhase (spDie sp) ∧ s.spPowered sp = false then t.twinOn (spDie sp) (s.twinOf sp)
    else t.testWait sp

/-! ## Interrupts (R72) -/

/-- SPN_IRQ as it reads. -/
def State.irq (s : State) (sp : Nat) : Nat :=
  let ply := s.fld fPLY_ENTRY_STAT_NOTICE (spDie sp) (spIdx sp) != 0
  let db := s.spFld fSPN_DB_PEND_PEND sp &&& s.spFld fSPN_DB_MASK_MASK sp != 0
  ply.toNat * 8 + s.spFld fSPN_IRQ_ASYNC sp * 4 + s.spFld fSPN_IRQ_TIMER sp * 2 + db.toNat

/-- An interrupt is pending (R72). -/
def State.irqPending (s : State) (sp : Nat) : Bool :=
  s.spFlag fSPN_CTL_IRQ_ON sp && s.irq sp &&& s.spFld fSPN_IRQ_EN_EN sp != 0

/-- A pending interrupt may be taken (R73). -/
def State.irqDue (s : State) (sp : Nat) : Bool := s.irqPending sp && !s.spFlag fSPN_STAT_IN_HANDLER sp

/-! ## Exceptions and machine checks -/

/-- The words not past their commit point are discarded; the PC stands at `pc`. -/
def State.flush (s : State) (sp pc : Nat) : State :=
  (s.each (s.mates sp) fun m t =>
    (t.setSpFld fSPN_PC_WORD m.2 pc).updSpin m.2 fun x =>
      { x with spool := [], replays := 0, overrun := pc == 16384 }).setLat .cleared sp 0 0

/-- Taking an exception (R63 to R67, R175): of the word at `pc`, with a cause and its information, raised
by member `mem` of the ply. IN_HANDLER 1: a double exception halts with the exception registers kept.
EXC_MODE 0: halt at the word. EXC_MODE 1: vector. -/
def State.takeException (s : State) (sp pc cause : Nat) (info : W64) (mem : Nat) : State :=
  let dbl := s.spFlag fSPN_STAT_IN_HANDLER sp
  if dbl then
    let t := ((s.flush sp (pc % 16384)).setMatesFld fSPN_STAT_DOUBLE sp 1).halted sp
    t.event 0x1102 .fault (s.spUnit sp) cause
  else
    let t := s.each (s.mates sp) fun m t =>
      ((t.setSpFld fSPN_EXC_CAUSE_CAUSE m.2 cause).setSpFld fSPN_EXC_PC_WORD m.2 pc).setReg .SPN_EXC_INFO
        (spDie m.2) (spIdx m.2) info
    let t := if s.inRealPly sp then t.setFld fPLY_ENTRY_STAT_EXC_MEMBER (spDie sp) (spIdx sp) mem else t
    if s.spFlag fSPN_CTL_EXC_MODE sp then
      let u := (t.flush sp (s.spFld fSPN_VEC_EXC_WORD sp)).setMatesFld fSPN_STAT_IN_HANDLER sp 1
      if s.spFlag fSPN_CTL_STEP sp then u.halted sp else u.setMatesFld fSPN_STAT_STATE sp 3
    else
      let u := ((t.flush sp (pc % 16384)).setMatesFld fSPN_STAT_EXC_HALT sp 1).halted sp
      u.event 0x1101 .warn (s.spUnit sp) cause

/-- RUN, HALT and STEP of a spindle or of a whole ply (R82, R179). -/
inductive RunOp where
  | run | halt | step
  deriving DecidableEq, Repr

/-- RUN or STEP takes effect: from HALTED, without HALT, EXC_HALT or DOUBLE (R82). -/
def State.canRun (s : State) (sp : Nat) : Bool :=
  s.spState sp == 2 && !s.spFlag fSPN_CTL_HALT sp && !s.spFlag fSPN_STAT_EXC_HALT sp && !s.spFlag fSPN_STAT_DOUBLE sp

/-- A control request to every member (R82, R179). -/
def State.runOp (s : State) (sp : Nat) (o : RunOp) : State :=
  match o with
  | .run => if s.canRun sp then s.setMatesFld fSPN_STAT_STATE sp 3 else s
  | .step =>
    if s.canRun sp then
      s.each (s.mates sp) fun m t =>
        ((t.setSpFld fSPN_STAT_STATE m.2 3).setSpFld fSPN_CTL_STEP m.2 1).setLat .stepDone m.2 0 0
    else s
  | .halt =>
    if s.spState sp = 3 ∨ s.spState sp = 4 then s.setMatesFld fSPN_CTL_HALT sp 1 else s

/-- Return from a handler (R66, R73): retry or skip, with cause 0x00 always to SPN_EXC_PC; outside a
handler nothing but EV 0x1107 (R122). The answer is the next word's index. -/
def State.returnFromHandler (s : State) (sp pc : Nat) (skip : Bool) : State × Nat :=
  if s.spFlag fSPN_STAT_IN_HANDLER sp then
    let e := s.spFld fSPN_EXC_PC_WORD sp
    (s.setMatesFld fSPN_STAT_IN_HANDLER sp 0,
      if skip && s.spFld fSPN_EXC_CAUSE_CAUSE sp != 0 then e + 1 else e)
  else (s.event 0x1107 .warn (s.spUnit sp) pc, pc + 1)

/-- The pending interrupt is taken (R73): the words not past their commit point are discarded, cause
0x00, and the spindle continues at the interrupt handler; a STEP ends there (R82). -/
def State.takeInterrupt (s : State) (sp : Nat) : State :=
  let pc := match (s.spin sp).spool.head? with | some e => e.pc | none => s.spFld fSPN_PC_WORD sp
  let t := s.each (s.mates sp) fun m t =>
    ((t.setSpFld fSPN_EXC_CAUSE_CAUSE m.2 0).setSpFld fSPN_EXC_PC_WORD m.2 pc).setSpFld fSPN_STAT_IN_HANDLER m.2 1
  let u := t.flush sp (s.spFld fSPN_VEC_IRQ_WORD sp)
  if s.spFlag fSPN_CTL_STEP sp then u.halted sp else u.setMatesFld fSPN_STAT_STATE sp 3

/-- Words of a ply past their commit point that end although the ply stops (R180): none where member 0 is elsewhere or
lost, and none behind a word that cannot complete, the oldest one of a machine check. -/
def State.committed (s : State) (p : Ply) (who : Option Nat) : Nat :=
  match p.members.head? with
  | some (k, m) => if k = s.pkg ∧ who = none ∧ !p.lost.contains 0 ∧ s.spState m = 3 then s.lat .cleared m 0 else 0
  | none => 0

/-- Every member of a ply is stopped and LOST (R180, R189): the words not committed are discarded, and a member
enters HALTED, at once or with its last committed word; `who` is the member that stays as it is. -/
def State.plyStop (s : State) (p : Ply) (who : Option Nat) : State :=
  let n := s.committed p who
  let t := s.each (s.aliveOf p p.members) fun m t =>
    if who = some m.2 then t
    else if s.spState m.2 = 3 ∨ s.spState m.2 = 4 then
      let u := t.updSpin m.2 fun x => { x with spool := x.spool.take n, replays := 0 }
      if n = 0 then (u.setSpFld fSPN_STAT_STATE m.2 2).setLat .cleared m.2 0 0 else u
    else t
  let u := { t with plies := t.plies.map fun q => if q = p then { p with stopped := true } else q }
  u.writeEntries p 2

/-- The unit identifier of a die's ply sequencer (Table FL-11). -/
def plyUnit (d : Nat) : Nat := unitId d 0x061

/-- A spindle takes a machine check (R62): it stops issuing and enters CHECKED; its ply stops (R180). -/
def State.machineCheck (s : State) (sp cause : Nat) : State :=
  let t := (s.setSpFld fSPN_STAT_STATE sp 5).event 0x1111 .fault (s.spUnit sp) cause
  match s.plyOf sp with
  | some p =>
    if 1 < p.members.length then
      let i := (p.members.findIdx? (· = (s.pkg, sp))).getD 0
      ((t.plyStop p (some sp)).notice (s.leadOf sp) 2).event 0x1133 .fault (plyUnit (spDie (s.leadOf sp)))
        (i + cause * 2 ^ 32)
    else t
  | none => t

end Sys2Proof.Machine
end

