-- ==== Sys2Proof/Machine/Operands.lean ====
section
/-! DEFINITION. Every operand form of a Birzin word (chapter 03): fields, shapes, selectors,
descriptors, the groups a scope names (chapter 05), and the checks made at decode and at issue in the
order of their codes (Table SP-6). -/

namespace Sys2Proof.Machine

/-! ## Groups of a scope (Table ISA-3, R156 to R170) -/

/-- The members over which one part of a word acts: their number, and those of this package with their
indices in the group. -/
structure Grp where
  n : Nat
  mems : List (Nat × Nat)
  deriving DecidableEq, Repr

/-- The lowest of the group's members here. -/
def Grp.first (g : Grp) : Nat := match g.mems.head? with | some m => m.2 | none => 0

/-- The plies one level down of a joined ply (R158). -/
def Ply.components (p : Ply) : List (List (Nat × Nat)) :=
  (p.subs.filter fun x => x.1 + 1 = p.level).map fun x => (p.members.drop x.2.1).take (2 ^ x.2.2)

/-- The groups a word of a scope acts over. -/
def State.groups (s : State) (sp scope : Nat) : List Grp :=
  match s.plyOf sp with
  | some p =>
    if 1 < p.members.length then
      if scope = 0 then [⟨p.members.length, s.localOf p.members⟩]
      else if scope = 1 then p.components.map fun c => ⟨c.length, s.localOf c⟩
      else (s.localOf p.members).map fun m => ⟨1, [(0, m.2)]⟩
    else [⟨1, [(0, sp)]⟩]
  | none => [⟨1, [(0, sp)]⟩]

/-- The members of one group of a scope: for the agreement rules (R160, R170). -/
def State.groupN (s : State) (sp scope : Nat) : Nat :=
  match (s.groups sp scope).head? with | some g => g.n | none => 1

/-- STRAND names a level the spindle's ply does not have (R91). -/
def State.noStrand (s : State) (sp : Nat) : Bool :=
  match s.plyOf sp with
  | some p => decide (p.level ≤ 1) || decide (p.members.length ≤ 1)
  | none => true

/-! ## The head and the kinds of word (R87, R88) -/

/-- OPCODE. -/
def wOp (w : W256) : Nat := bitsOf w 15 6
/-- SCOPE. -/
def wScope (w : W256) : Nat := bitsOf w 5 4
/-- PRED. -/
def wPred (w : W256) : Nat := bitsOf w 3 0

/-- What a register field of a T-word names (R100). -/
inductive RK where
  | none | tile | mortar
  deriving DecidableEq, Repr

/-- How a T-word's shapes must agree (R106, R107, Table ISA-18). -/
inductive Agree where
  | free | elementwise | mma | macc | mrd | ttrans | tbcast | oneA | oneD
  deriving DecidableEq, Repr

/-- A row of Table ISA-18: its register kinds, the selectors it uses, whether it gives a rounded result
(R101), and the fields INIT, GS and IMM11; `strand` where it admits P, S and M. -/
structure TSpec where
  d : RK
  a : RK
  b : RK
  c : RK
  fa : Bool
  fb : Bool
  fd : Bool
  rnd : Bool
  init : Bool
  gs : Bool
  imm : Bool
  psm : Bool
  agree : Agree
  deriving DecidableEq, Repr

/-- An elementwise row with two sources. -/
def tBin : TSpec := ⟨.tile, .tile, .tile, .none, true, true, true, true, false, false, false, true, .elementwise⟩
/-- An elementwise row with one source. -/
def tUn : TSpec := ⟨.tile, .tile, .none, .none, true, false, true, true, false, false, false, true, .elementwise⟩

/-- Table ISA-18. -/
def tSpec : Nat → Option TSpec
  | 0x100 => some ⟨.mortar, .tile, .tile, .tile, true, true, false, false, true, false, false, true, .mma⟩
  | 0x101 => some ⟨.mortar, .tile, .tile, .tile, true, true, false, false, true, false, false, true, .mma⟩
  | 0x102 => some ⟨.mortar, .tile, .none, .none, true, false, false, false, true, false, false, true, .macc⟩
  | 0x103 => some ⟨.mortar, .none, .none, .none, false, false, false, false, false, false, false, true, .free⟩
  | 0x104 => some ⟨.tile, .mortar, .none, .none, false, false, true, true, false, false, false, true, .mrd⟩
  | 0x105 => some ⟨.tile, .mortar, .none, .none, false, false, true, true, false, false, false, true, .mrd⟩
  | 0x106 => some ⟨.none, .mortar, .none, .none, false, false, false, false, false, true, false, false, .free⟩
  | 0x110 => some tBin
  | 0x111 => some tBin
  | 0x112 => some tBin
  | 0x113 => some tBin
  | 0x114 => some { tBin with c := .tile }
  | 0x115 => some tBin
  | 0x116 => some tBin
  | 0x117 => some tUn
  | 0x118 => some { tUn with gs := true }
  | 0x119 => some { tUn with gs := true }
  | 0x11A => some { tUn with imm := true }
  | 0x120 => some tUn
  | 0x121 => some tUn
  | 0x122 => some tUn
  | 0x123 => some tUn
  | 0x124 => some tUn
  | 0x125 => some tUn
  | 0x126 => some tUn
  | 0x127 => some tUn
  | 0x128 => some tUn
  | 0x129 => some tBin
  | 0x12A => some tBin
  | 0x12B => some { tBin with c := .tile }
  | 0x130 => some { tUn with fd := false, rnd := false }
  | 0x131 => some { tUn with fd := false, rnd := false, agree := .ttrans }
  | 0x132 => some { tUn with c := .tile }
  | 0x133 => some { tUn with a := .none, fa := false, gs := true, agree := .free }
  | 0x134 => some { tUn with fd := false, rnd := false, agree := .tbcast }
  | 0x135 => some ⟨.none, .tile, .none, .none, true, false, false, false, false, true, false, false, .oneA⟩
  | 0x136 => some { tUn with a := .none, fa := false, gs := true, agree := .oneD }
  | 0x137 => some { tUn with a := .none, fa := false, rnd := false, agree := .free }
  | _ => none

/-- The form of an M-word (Table ISA-13). -/
inductive MForm where
  | mt | md | mx
  deriving DecidableEq, Repr

/-- Table ISA-19: the form, whether AS and AW are used, whether FM and RND are used, whether SOFF is a
descriptor offset. -/
structure MSpec where
  form : MForm
  usesAS : Bool
  usesAW : Bool
  rnd : Bool
  deriving DecidableEq, Repr

/-- Table ISA-19. -/
def mSpec : Nat → Option MSpec
  | 0x200 => some ⟨.mt, false, false, true⟩
  | 0x201 => some ⟨.mt, false, false, true⟩
  | 0x210 => some ⟨.md, true, false, false⟩
  | 0x211 => some ⟨.md, false, false, false⟩
  | 0x220 => some ⟨.mx, true, false, false⟩
  | 0x221 => some ⟨.mx, true, false, true⟩
  | 0x222 => some ⟨.mx, true, false, true⟩
  | 0x223 => some ⟨.mx, true, false, true⟩
  | 0x224 => some ⟨.mx, true, true, true⟩
  | 0x225 => some ⟨.mx, true, false, false⟩
  | 0x226 => some ⟨.mx, true, false, true⟩
  | 0x227 => some ⟨.mx, true, true, true⟩
  | 0x228 => some ⟨.mx, true, true, true⟩
  | 0x229 => some ⟨.mx, true, true, true⟩
  | _ => none

/-- A row of Table ISA-20: the fields a C-word uses beside its head. -/
structure CSpec where
  target : Bool := false
  ga : Bool := false
  gb : Bool := false
  gc : Bool := false
  pd : Bool := false
  mode : Bool := false
  imm : Bool := false
  psm : Bool := false
  deriving DecidableEq, Repr

/-- Table ISA-20; a DOORBELL uses GB or IMM32 as its MODE says. -/
def cSpec (w : W256) : Nat → Option CSpec
  | 0x300 => some { target := true }
  | 0x301 => some { ga := true }
  | 0x302 => some { ga := true, target := true }
  | 0x303 => some { ga := true, gb := true }
  | 0x304 => some { ga := true, target := true }
  | 0x305 => some {}
  | 0x310 => some {}
  | 0x311 => some { ga := true, mode := true, gb := !wMODE w, imm := wMODE w }
  | 0x312 => some { ga := true, gb := true, gc := true, pd := true, mode := true }
  | 0x313 => some { psm := true }
  | 0x320 => some { mode := true }
  | 0x321 => some { imm := true }
  | 0x322 => some { ga := true }
  | 0x323 => some { ga := true }
  | _ => none

/-! ## Fields of T-words and M-words (Tables ISA-7, ISA-12, ISA-13) -/

/-- Destination register. -/
def wD (w : W256) : Nat := bitsOf w 19 16
/-- First source register. -/
def wA (w : W256) : Nat := bitsOf w 23 20
/-- Second source register. -/
def wB (w : W256) : Nat := bitsOf w 27 24
/-- Third source register. -/
def wC (w : W256) : Nat := bitsOf w 31 28
/-- Selector of A. -/
def wFA (w : W256) : Nat := bitsOf w 33 32
/-- Selector of B. -/
def wFB (w : W256) : Nat := bitsOf w 35 34
/-- Selector of D. -/
def wFD (w : W256) : Nat := bitsOf w 37 36
/-- INIT. -/
def wINIT (w : W256) : Bool := bitOf w 41
/-- RND of a T-word. -/
def wRND (w : W256) : Nat := bitsOf w 40 38
/-- GS. -/
def wGS (w : W256) : Nat := bitsOf w 47 43
/-- GSEED of a T-word. -/
def wGSEED (w : W256) : Nat := bitsOf w 52 48
/-- IMM11, signed. -/
def wIMM11 (w : W256) : Int := signedOf 11 (bitsOf w 63 53)
/-- RND of an M-word. -/
def mRND (w : W256) : Nat := bitsOf w 38 36
/-- GSEED of an M-word. -/
def mGSEED (w : W256) : Nat := bitsOf w 61 57
/-- FM: the selector of the memory format. -/
def mFM (w : W256) : Nat := bitsOf w 33 32
/-- FT: the selector of the tile format. -/
def mFT (w : W256) : Nat := bitsOf w 35 34
/-- T: the tile. -/
def mT (w : W256) : Nat := bitsOf w 30 28
/-- AD. -/
def mAD (w : W256) : Nat := bitsOf w 19 16
/-- AS. -/
def mAS (w : W256) : Nat := bitsOf w 23 20
/-- AW. -/
def mAW (w : W256) : Nat := bitsOf w 27 24
/-- AB. -/
def mAB (w : W256) : Nat := bitsOf w 195 192
/-- GOE. -/
def mGOE (w : W256) : Bool := bitOf w 39
/-- GO. -/
def mGO (w : W256) : Nat := bitsOf w 44 40
/-- CNTR. -/
def mCNTR (w : W256) : Bool := bitOf w 45
/-- GC of an M-word. -/
def mGC (w : W256) : Nat := bitsOf w 50 46
/-- DBE. -/
def mDBE (w : W256) : Bool := bitOf w 51
/-- DBBIT. -/
def mDBBIT (w : W256) : Nat := bitsOf w 56 52
/-- GD. -/
def mGD (w : W256) : Nat := bitsOf w 255 251
/-- MSTRIDE. -/
def mMSTRIDE (w : W256) : Nat := bitsOf w 223 192
/-- BOFF. -/
def mBOFF (w : W256) : Nat := bitsOf w 191 160

/-- A tile shape (Table ISA-10). -/
structure Shape where
  off : Nat
  rstride : Nat
  rows : Nat
  elems : Nat
  deriving DecidableEq, Repr

/-- The tile shape whose 64 bits start at bit `b` of the word. -/
def shapeAt (w : W256) (b : Nat) : Shape :=
  ⟨bitsOf w (b + 13) b, bitsOf w (b + 29) (b + 16), bitsOf w (b + 42) (b + 32), bitsOf w (b + 58) (b + 48)⟩

/-- A mortar shape (Table ISA-11). -/
structure MShape where
  r0 : Nat
  rows : Nat
  c0 : Nat
  cols : Nat
  deriving DecidableEq, Repr

/-- The mortar shape whose 64 bits start at bit `b` of the word. -/
def mshapeAt (w : W256) (b : Nat) : MShape :=
  ⟨bitsOf w (b + 4) b, bitsOf w (b + 13) (b + 8), bitsOf w (b + 20) (b + 16), bitsOf w (b + 29) (b + 24)⟩

/-- The lanes of a mortar shape, row by row: (row, column, lane number). -/
def MShape.lanes (m : MShape) : List (Nat × Nat × Nat) :=
  (List.range m.rows).flatMap fun i => (List.range m.cols).map fun j => (i, j, (m.r0 + i) * 32 + m.c0 + j)

/-- The elements of a shape, row by row. -/
def Shape.cells (h : Shape) : List (Nat × Nat) :=
  (List.range h.rows).flatMap fun r => (List.range h.elems).map fun e => (r, e)

/-- Bytes of a row of `elems` elements of a format (R102): `slot` counts half-bytes. -/
def rowBytes (f : Fmt) (elems : Nat) : Nat := (elems * f.slot + 1) / 2

/-! ## Selectors (R50, R51) -/

/-- A selector's format and rounding mode, or the information of FORMAT_INVALID: the selector number,
or the entry number in bits 11:8. -/
def Spin.sel (x : Spin) (k : Nat) : Except W64 (Fmt × RMode) :=
  let v := x.getF k
  let cls := bitsOf v 3 0
  let rm := bitsOf v 11 8
  if bitsOf v 31 12 ≠ 0 ∨ 5 < cls ∨ 4 < rm then .error (BitVec.ofNat 64 k)
  else
    let m : RMode := match rm with | 0 => .nearest | 1 => .zero | 2 => .up | 3 => .down | _ => .stochastic
    match cls with
    | 0 => .ok (fmtFP32, m)
    | 1 => .ok (fmtFP16, m)
    | 2 => .ok (fmtBF16, m)
    | 3 => .ok (fmtINT8, m)
    | 4 => .ok (fmtINT4, m)
    | _ =>
      let e := bitsOf v 7 4
      if bitOf (x.fmtEntry e) 65 then .ok (fmtOfEntry (x.fmtEntry e), m) else .error (BitVec.ofNat 64 (e * 256))

/-- The format of a selector where it is valid. -/
def Spin.fmt? (x : Spin) (k : Nat) : Option Fmt :=
  match x.sel k with | .ok p => some p.1 | .error _ => none

/-- The format of a selector known to be valid. -/
def Spin.fmtD (x : Spin) (k : Nat) : Fmt := (x.fmt? k).getD fmtFP32

/-- The rounding mode in force (Table ISA-9): RND, or the selector's ROUND where RND is 0. -/
def Spin.rmode (x : Spin) (rnd k : Nat) : RMode :=
  match rnd with
  | 1 => .nearest | 2 => .zero | 3 => .up | 4 => .down | 5 => .stochastic
  | _ => match x.sel k with | .ok p => p.2 | .error _ => .nearest

/-! ## Decode: reserved bits and field values (R89) -/

/-- The bits of a word from `lo` to `hi`. -/
def fieldMask (hi lo : Nat) : Nat := (2 ^ (hi + 1 - lo) - 1) * 2 ^ lo

/-- A mask of several fields. -/
def masks (l : List (Nat × Nat)) : Nat := l.foldl (fun m x => m ||| fieldMask x.1 x.2) 0

/-- The lowest bit set. -/
def lowestBit (x : Nat) : Option Nat := (List.range 256).find? fun k => x.testBit k

/-- The lowest of a list of positions. -/
def lowest : List Nat → Option Nat
  | [] => none
  | x :: xs => match lowest xs with | some y => some (min x y) | none => some x

/-- The fields of a tile shape at bit `b`. -/
def tshapeMask (b : Nat) : Nat := masks [(b + 13, b), (b + 29, b + 16), (b + 42, b + 32), (b + 58, b + 48)]

/-- The fields of a mortar shape at bit `b`. -/
def mshapeMask (b : Nat) : Nat := masks [(b + 4, b), (b + 13, b + 8), (b + 20, b + 16), (b + 29, b + 24)]

/-- The mask of a field where it is used. -/
def useIf (b : Bool) (hi lo : Nat) : Nat := if b then fieldMask hi lo else 0

/-- The shape fields a register kind uses. -/
def shapeMask (k : RK) (b : Nat) : Nat :=
  match k with | .none => 0 | .tile => tshapeMask b | .mortar => mshapeMask b

/-- GSEED is read only where the rounding in force may be stochastic (R101). -/
def seedUsed (rnd : Bool) (r : Nat) : Bool := rnd && (r == 0 || r == 5)

/-- The bits a T-word uses. -/
def tMask (t : TSpec) (w : W256) : Nat :=
  fieldMask 15 0 ||| useIf (t.d ≠ .none) 19 16 ||| useIf (t.a ≠ .none) 23 20 ||| useIf (t.b ≠ .none) 27 24 |||
  useIf (t.c ≠ .none) 31 28 ||| useIf t.fa 33 32 ||| useIf t.fb 35 34 ||| useIf t.fd 37 36 ||| useIf t.rnd 40 38 |||
  useIf t.init 41 41 ||| useIf t.gs 47 43 ||| useIf (seedUsed t.rnd (wRND w)) 52 48 ||| useIf t.imm 63 53 |||
  shapeMask t.a 64 ||| shapeMask t.b 128 ||| shapeMask t.d 192

/-- A register code of the wrong kind offends (R100). -/
def badKind (k : RK) (v pos : Nat) : List Nat :=
  match k with
  | .none => []
  | .tile => if v < 8 then [] else [pos]
  | .mortar => if 8 ≤ v ∧ v < 12 then [] else [pos]

/-- Positions where a tile shape offends by itself (Table ISA-10, R103, R164); `f` where its selector is
valid. -/
def badShape (f : Option Fmt) (striped : Bool) (h : Shape) (b : Nat) : List Nat :=
  (if 1024 < h.rows then [b + 32] else []) ++ (if 1024 < h.elems then [b + 48] else []) ++
  match f with
  | none => []
  | some f =>
    (if h.rows ≠ 0 ∧ h.elems ≠ 0 ∧
        (16384 < h.off + (h.rows - 1) * h.rstride + rowBytes f h.elems ∨
          (2 < f.slot ∧ (h.off % (f.slot / 2) ≠ 0 ∨ (1 < h.rows ∧ h.rstride % (f.slot / 2) ≠ 0))))
      then [b + 32] else []) ++
    (if striped ∧ (h.elems * f.slot % 2 ≠ 0 ∨ (f.block ≠ 0 ∧ h.elems % f.block ≠ 0)) then [b + 48] else [])

/-- Positions where a mortar shape offends by itself (R103). -/
def badMShape (m : MShape) (b : Nat) : List Nat :=
  if 32 < m.r0 + m.rows ∨ 32 < m.c0 + m.cols then [b + 8] else []

/-- A shape of a register kind offends by itself. -/
def badShapeOf (k : RK) (f : Option Fmt) (striped : Bool) (w : W256) (b : Nat) : List Nat :=
  match k with
  | .none => []
  | .tile => badShape f striped (shapeAt w b) b
  | .mortar => badMShape (mshapeAt w b) b

/-- Positions where the shapes disagree (R106, R107, R160, R163): the field of the earliest shape of a
disagreeing pair (DEDUCED); `n` members of a group. -/
def disagree (t : TSpec) (n : Nat) (w : W256) : List Nat :=
  let sa := shapeAt w 64
  let sb := shapeAt w 128
  let sd := shapeAt w 192
  let ma := mshapeAt w 64
  let md := mshapeAt w 192
  let p := fun (x y pos : Nat) => if x = y then [] else [pos]
  match t.agree with
  | .free => []
  | .elementwise =>
    (if t.b = .none then [] else p sa.rows sb.rows 96 ++ p sa.elems sb.elems 112) ++
      p sa.rows sd.rows 96 ++ p sa.elems sd.elems 112
  | .mma => p sa.rows md.rows 96 ++ p sa.elems sb.elems 112 ++ p sb.rows md.cols 160
  | .macc => p sa.rows md.rows 96 ++ p (sa.elems * n) md.cols 112
  | .mrd => p ma.rows sd.rows 72 ++ p ma.cols (sd.elems * n) 88
  | .ttrans => p sa.rows (sd.elems * n) 96 ++ p (sa.elems * n) sd.rows 112
  | .tbcast => p sa.rows 1 96 ++ p sa.elems sd.elems 112
  | .oneA => (if 1 < sa.rows then [96] else []) ++ (if 1 < sa.elems then [112] else [])
  | .oneD => (if 1 < sd.rows then [224] else []) ++ (if 1 < sd.elems then [240] else [])

/-- The selector that gives a T-word's destination tile its element size: FD, or FA where the word moves
bits (TCOPY, TTRANS, TBCAST). -/
def destSel (t : TSpec) (w : W256) : Nat := if t.fd then wFD w else wFA w

/-- The selectors of a T-word in ascending order of use: A and C, B, D. -/
def tSels (t : TSpec) (w : W256) : List Nat :=
  (if t.fa then [wFA w] else []) ++ (if t.fb then [wFB w] else []) ++ (if t.fd then [wFD w] else [])

/-- Positions at which a T-word offends (R89). -/
def tReserved (s : State) (sp : Nat) (t : TSpec) (w : W256) : List Nat :=
  let x := s.spin sp
  let n := s.groupN sp (wScope w)
  let striped : Bool := decide (1 < n) && decide (wScope w ≠ 2)
  let ok := (tSels t w).all fun k => (x.fmt? k).isSome
  let fa := x.fmt? (wFA w)
  let fb := x.fmt? (wFB w)
  let fd := x.fmt? (destSel t w)
  let blk := fun (f : Option Fmt) => match f with | some f => f.block != 0 | none => false
  let anyBlk := (t.fa && blk fa) || (t.fb && blk fb) || (t.fd && blk fd)
  let scaled : Bool := decide (wOp w = 0x100) || decide (wOp w = 0x101) || decide (wOp w = 0x132)
  (match lowestBit ((w.toNat &&& (2 ^ 256 - 1 - tMask t w))) with | some k => [k] | none => []) ++
  (if wScope w = 3 ∨ (t.psm = false ∧ wScope w ≠ 0) then [4] else []) ++
  badKind t.d (wD w) 16 ++ badKind t.a (wA w) 20 ++ badKind t.b (wB w) 24 ++ badKind t.c (wC w) 28 ++
  (if t.rnd ∧ 5 < wRND w then [38] else []) ++
  badShapeOf t.a fa striped w 64 ++ badShapeOf t.b fb striped w 128 ++ badShapeOf t.d fd striped w 192 ++
  (if t.c = .tile ∧ scaled = false then badShape fa striped (shapeAt w 192) 192 else []) ++
  disagree t (if wScope w = 2 then 1 else n) w ++
  (if scaled ∧ wC w ≠ 0 ∧ ok ∧ anyBlk = false then (match lowestBit (wC w) with | some k => [28 + k] | none => [])
    else []) ++
  (if wOp w = 0x132 then
    (if blk fa ∧ 128 < (shapeAt w 64).rows then [96] else []) ++
    (if blk fd ∧ 128 < (shapeAt w 192).rows then [224] else []) ++
    (if blk fd ∧ wC w ≠ 0 ∧ wC w = wD w then [28] else [])
  else [])

/-- The bits an M-word uses. -/
def mMask (m : MSpec) (w : W256) : Nat :=
  let head := fieldMask 15 0 ||| fieldMask 19 16 ||| useIf m.usesAS 23 20 ||| useIf m.usesAW 27 24 |||
    fieldMask 39 39 ||| useIf (mGOE w) 44 40 ||| fieldMask 51 51 ||| useIf (mDBE w) 56 52 ||| useIf (mDBE w) 255 251 |||
    useIf m.rnd 33 32 ||| useIf m.rnd 38 36 ||| useIf (seedUsed m.rnd (mRND w)) 61 57
  let cnt := fieldMask 45 45 ||| useIf (mCNTR w) 50 46
  head ||| match m.form with
  | .mt => fieldMask 30 28 ||| fieldMask 35 34 ||| fieldMask 223 192 ||| tshapeMask 128 ||| fieldMask 127 64
  | .md => cnt ||| useIf (!mCNTR w) 223 192 ||| fieldMask 191 64
  | .mx => cnt ||| fieldMask 195 192 ||| fieldMask 191 160 ||| useIf (!mCNTR w) 159 128 ||| fieldMask 127 64

/-- FM and FT name the same class and entry (R110). -/
def sameFmt (x : Spin) (w : W256) : Bool :=
  let a := x.getF (mFM w)
  let b := x.getF (mFT w)
  bitsOf a 3 0 == bitsOf b 3 0 && (bitsOf a 3 0 != 5 || bitsOf a 7 4 == bitsOf b 7 4)

/-- Positions at which an M-word offends (R89, R101, R103, R109, R110): one that moves bytes unchanged carries no RND and no
GSEED, whether its selectors are valid or not. -/
def mReserved (s : State) (sp : Nat) (m : MSpec) (w : W256) : List Nat :=
  let x := s.spin sp
  let n := s.groupN sp (wScope w)
  let striped : Bool := decide (1 < n) && decide (wScope w ≠ 2)
  (match lowestBit ((w.toNat &&& (2 ^ 256 - 1 - mMask m w))) with | some k => [k] | none => []) ++
  (if wScope w = 3 then [4] else []) ++
  (if m.rnd ∧ 5 < mRND w then [36] else []) ++
  (if m.form = .mt then
    badShape (x.fmt? (mFT w)) striped (shapeAt w 128) 128 ++
      (match (if striped then x.fmt? (mFM w) else none) with
       | some f => let e := (shapeAt w 128).elems; if e * f.slot % 2 ≠ 0 ∨ (f.block ≠ 0 ∧ e % f.block ≠ 0) then [176] else []
       | none => []) ++
      (if sameFmt x w then
        (if mRND w ≠ 0 then [36] else []) ++ (match lowestBit (mGSEED w) with | some k => [57 + k] | none => [])
      else []) else [])

/-- The bits a C-word uses. -/
def cMask (c : CSpec) : Nat :=
  fieldMask 15 0 ||| useIf c.target 29 16 ||| useIf c.ga 34 30 ||| useIf c.gb 39 35 ||| useIf c.gc 44 40 |||
  useIf c.pd 48 45 ||| useIf c.mode 49 49 ||| useIf c.imm 95 64

/-- Positions at which a C-word offends. -/
def cReserved (c : CSpec) (w : W256) : List Nat :=
  (match lowestBit ((w.toNat &&& (2 ^ 256 - 1 - cMask c))) with | some k => [k] | none => []) ++
  (if wScope w = 3 ∨ (c.psm = false ∧ wScope w ≠ 0) then [4] else [])

/-! ### S-word slots (Table ISA-5, Table ISA-17) -/

/-- The forms of a scalar slot. -/
inductive SForm where
  | R | R1 | I | Sh | W | P | PI | Q | Q1 | PS | SEL | L | D | DS | K | G | F | FG | N
  deriving DecidableEq, Repr

/-- The form of a scalar operation, where it is assigned. -/
def sopForm : Nat → Option SForm
  | 0x10 => some .R | 0x11 => some .R | 0x12 => some .I | 0x13 => some .R | 0x14 => some .R | 0x15 => some .R
  | 0x16 => some .R | 0x17 => some .R | 0x18 => some .R | 0x19 => some .R | 0x1A => some .R | 0x1B => some .W
  | 0x1C => some .W | 0x20 => some .R | 0x21 => some .R | 0x22 => some .R | 0x23 => some .I | 0x24 => some .I
  | 0x25 => some .I | 0x26 => some .R | 0x27 => some .R | 0x28 => some .R | 0x29 => some .Sh | 0x2A => some .Sh
  | 0x2B => some .Sh | 0x2C => some .R1 | 0x2D => some .R1 | 0x2E => some .R1 | 0x30 => some .P | 0x31 => some .P
  | 0x32 => some .P | 0x33 => some .P | 0x34 => some .PI | 0x35 => some .PI | 0x36 => some .Q | 0x37 => some .Q
  | 0x38 => some .Q | 0x39 => some .Q | 0x3A => some .Q1 | 0x3B => some .PS | 0x3C => some .N | 0x3D => some .SEL
  | 0x40 => some .L | 0x41 => some .L | 0x42 => some .L | 0x43 => some .D | 0x44 => some .D | 0x45 => some .DS
  | 0x46 => some .DS | 0x47 => some .K | 0x48 => some .G | 0x49 => some .G | 0x4A => some .F | 0x4B => some .FG
  | 0x4C => some .N | 0x4D => some .N
  | _ => none

/-- The bits a slot of a form uses. -/
def sMask : SForm → Nat
  | .R => masks [(31, 9)]
  | .R1 => masks [(31, 14)]
  | .I => masks [(31, 0)]
  | .Sh => masks [(31, 14), (5, 0)]
  | .W => masks [(31, 19), (17, 0)]
  | .P => masks [(31, 20), (18, 9)]
  | .PI => masks [(31, 20), (18, 0)]
  | .Q => masks [(31, 12)]
  | .Q1 => masks [(31, 16)]
  | .PS => masks [(31, 20), (18, 14)]
  | .SEL => masks [(31, 5)]
  | .L => masks [(31, 0)]
  | .D => masks [(31, 20), (18, 10)]
  | .DS => masks [(31, 20), (18, 14)]
  | .K => masks [(31, 20), (5, 0)]
  | .G => masks [(31, 19), (13, 10)]
  | .F => masks [(31, 24), (18, 12)]
  | .FG => masks [(31, 19), (13, 12)]
  | .N => masks [(31, 19)]

/-- COUNT of an S-word. -/
def sCount (w : W256) : Nat := bitsOf w 18 16

/-- Slot `k`, 1 to 7. -/
def slotOf (w : W256) (k : Nat) : Nat := bitsOf w (32 * k + 31) (32 * k)

/-- The slots in use with an unassigned SOP (R94): the lowest. -/
def badSop (w : W256) : Option Nat :=
  (List.range (sCount w)).find? fun k => (sopForm (bitsOf (BitVec.ofNat 32 (slotOf w (k + 1))) 31 24)).isNone

/-- Positions at which an S-word offends: reserved bits of the head, the scope, reserved bits of the slots
in use, and any bit of a slot above COUNT (R93). -/
def sReserved (w : W256) : List Nat :=
  let used := (List.range 7).foldl (fun m k =>
    if k < sCount w then
      match sopForm (bitsOf (BitVec.ofNat 32 (slotOf w (k + 1))) 31 24) with
      | some f => m ||| sMask f * 2 ^ (32 * (k + 1))
      | none => m
    else m) (fieldMask 18 0)
  (match lowestBit (w.toNat &&& (2 ^ 256 - 1 - used)) with | some k => [k] | none => []) ++
    (if wScope w ≠ 0 then [4] else [])

/-- The causes found at decode, lowest first (R64, R88, R89, R94): ILLEGAL_OPCODE, RESERVED_FIELD. -/
def decodeCause (s : State) (sp : Nat) (w : W256) : Option (Nat × W64) :=
  let op := wOp w
  let ill : Option (Nat × W64) := some (2, BitVec.ofNat 64 op)
  let res := fun (l : List Nat) => (lowest l).map fun k => ((3, BitVec.ofNat 64 k) : Nat × W64)
  match op / 256 with
  | 0 =>
    if op ≠ 0 then ill
    else match badSop w with
      | some k => some (2, BitVec.ofNat 64 (bitsOf (BitVec.ofNat 32 (slotOf w (k + 1))) 31 24 + (k + 1) * 256 + 32768))
      | none => res (sReserved w)
  | 1 => match tSpec op with | some t => res (tReserved s sp t w) | none => ill
  | 2 => match mSpec op with | some m => res (mReserved s sp m w) | none => ill
  | _ => match cSpec w op with | some c => res (cReserved c w) | none => ill

/-! ## Issue: scope, zero fields, selectors and descriptors -/

/-- A cause and its information. -/
abbrev Cause := Nat × W64

/-- The first of two results of a check. -/
def orElse (a b : Option Cause) : Option Cause := match a with | some c => some c | none => b

/-- The lowest code of a list of causes, the first of equals. -/
def lowestCause : List Cause → Option Cause
  | [] => none
  | c :: cs => match lowestCause cs with | some d => some (if d.1 < c.1 then d else c) | none => some c

/-- PLY_SCOPE (R91). -/
def scopeCause (s : State) (sp : Nat) (w : W256) : List Cause :=
  if wScope w = 1 ∧ s.noStrand sp then [(4, 1)] else []

/-- ZERO_FIELD of a destination shape (R104); the field's lowest bit. -/
def zeroStride (h : Shape) (bit : Nat) : List Cause :=
  if h.rstride = 0 ∧ 1 < h.rows ∧ h.elems ≠ 0 then [(5, BitVec.ofNat 64 bit)] else []

/-- FORMAT_INVALID of a selector (R51). -/
def selCause (x : Spin) (k : Nat) : List Cause :=
  match x.sel k with | .ok _ => [] | .error i => [(7, i)]

/-- FORMAT_INVALID of a block-scaled selector where none is accepted (R137). -/
def blockCause (x : Spin) (k : Nat) : List Cause :=
  match x.fmt? k with
  | some f => if f.block ≠ 0 then [(7, BitVec.ofNat 64 k)] else []
  | none => []

/-- The causes a T-word meets at issue, apart from those that need data: PLY_SCOPE, ZERO_FIELD,
FORMAT_INVALID. -/
def tIssue (s : State) (sp : Nat) (t : TSpec) (w : W256) : List Cause :=
  let x := s.spin sp
  let sels := tSels t w
  let blocks : List Nat :=
    if wOp w = 0x100 ∨ wOp w = 0x101 then []
    else if wOp w = 0x132 then
      (match x.fmt? (wFA w), x.fmt? (wFD w) with
       | some a, some d => if a.block ≠ 0 ∧ d.block ≠ 0 then [min (wFA w) (wFD w)] else []
       | _, _ => [])
    else sels
  scopeCause s sp w ++ (if t.d = .tile then zeroStride (shapeAt w 192) 208 else []) ++
    sels.flatMap (selCause x) ++ blocks.flatMap (blockCause x)

/-! ### Descriptors (Table SP-2, R46 to R48) -/

/-- BASE. -/
def aBASE (a : W128) : Nat := bitsOf a 127 64
/-- LENGTH. -/
def aLENGTH (a : W128) : Nat := bitsOf a 63 32
/-- ACCESS. -/
def aACCESS (a : W128) : Nat := bitsOf a 5 4
/-- KIND: 1 LOCAL, 2 POOL, 3 SYSTEM, 4 REGION. -/
def aKIND (a : W128) : Nat := bitsOf a 3 0

/-- Bytes of a scratchpad. -/
def padBytes : Nat := 0x200000
/-- Bytes of a die pool. -/
def poolBytes : Nat := 0x4000000

/-- A descriptor is valid for a use (R48, R112, R165): a byte range, or the AD of a table word; `shared`
where the word acts at PLY or STRAND scope in a ply of more than one. -/
def descOk (a : W128) (region shared : Bool) : Bool :=
  let k := aKIND a
  decide (aACCESS a ≠ 0) && decide (bitsOf a 31 6 = 0) && decide (aBASE a + aLENGTH a ≤ 2 ^ 64) &&
  (if region then k == 4
   else (k == 1 && decide (aBASE a + aLENGTH a ≤ padBytes)) ||
     (k == 2 && decide (aBASE a + aLENGTH a ≤ poolBytes) && !shared) || k == 3)

/-- DESCRIPTOR_INVALID. -/
def descCause (x : Spin) (k : Nat) (region shared : Bool) : List Cause :=
  if descOk (x.getA k) region shared then [] else [(6, BitVec.ofNat 64 k)]

/-- ADDR_BOUNDS of a footprint of `n` bytes at an offset (R46, R47): the address of the first byte outside
the descriptor. -/
def boundsCause (a : W128) (off n : Nat) : List Cause :=
  if n ≠ 0 ∧ aLENGTH a < off + n then [(9, BitVec.ofNat 64 (aBASE a + max off (aLENGTH a)))] else []

/-- ACCESS_RIGHTS: bit 0 of `need` reads, bit 1 writes. -/
def rightsCause (x : Spin) (k need : Nat) : List Cause :=
  if aACCESS (x.getA k) &&& need = need then [] else [(0xB, BitVec.ofNat 64 k)]

/-- ADDR_ALIGN: the address of the first byte. -/
def alignCause (a : W128) (off n : Nat) : List Cause :=
  if off % n = 0 then [] else [(8, BitVec.ofNat 64 (aBASE a + off))]

/-- The primary offset of an M-word (R109). -/
def mOff (x : Spin) (w : W256) : Nat :=
  (bitsOf w 127 64 + (if mGOE w then (x.getG (mGO w)).toNat else 0)) % 2 ^ 64

/-- COUNT of an MX form (R109). -/
def mCOUNT (x : Spin) (w : W256) : Nat :=
  if mCNTR w then bitsOf (x.getG (mGC w)) 31 0 else bitsOf w 159 128

/-- LEN of an MD form (R109). -/
def mLEN (x : Spin) (w : W256) : Nat :=
  if mCNTR w then bitsOf (x.getG (mGC w)) 31 0 else bitsOf w 223 192

/-! ### Doorbell targets (Table ISA-16, R115, R119) -/

/-- PKG of a target. -/
def dbPkg (v : W64) : Nat := getBits v 63 52
/-- KIND of a target. -/
def dbKind (v : W64) : Nat := getBits v 51 48
/-- SPINDLE of a target. -/
def dbSpindle (v : W64) : Nat := getBits v 10 0

/-- A target's own fields are as Table ISA-16 has them. -/
def dbForm (v : W64) : Bool :=
  decide (getBits v 47 11 = 0) &&
    ((dbKind v == 0 && decide (dbSpindle v < nSpindles)) || (dbKind v == 1 && dbSpindle v == 0))

end Sys2Proof.Machine
end

