-- ==== Sys2Proof/Machine/Map.lean ====
section
/-! DEFINITION. The address maps (R36 to R43, Tables FL-12, FL-15, FL-16, WD-1) and the plain reads and
writes of memory bytes every mover of data uses. -/

namespace Sys2Proof.Machine

/-- Package address of a byte of a die pool (Table FL-15). -/
def poolAddr (d off : Nat) : Nat := winBase d + 0x80000000 + off

/-- Package address of a byte of a warden's SRAM (Table WD-1). -/
def sramAddr (w off : Nat) : Nat := winBase (62 + w) + off

/-- What a memory is reached through: plainly, or through its bit-set or bit-clear alias (R246). -/
inductive Alias where
  | plain | setBits | clearBits
  deriving DecidableEq, Repr

/-- What stands at a package address. -/
inductive Loc where
  /-- A byte of quarry slice `q` (R37). -/
  | hbm (q : Nat)
  /-- A byte of the CXL slice of port `p`. -/
  | cxl (p : Nat)
  /-- A byte of a scratchpad. -/
  | pad (sp off : Nat) (al : Alias)
  /-- A byte of a die pool. -/
  | pool (d off : Nat)
  /-- A byte of a warden's SRAM. -/
  | sram (w off : Nat) (al : Alias)
  /-- The state view of a slot (R83). -/
  | view (sp off : Nat)
  /-- Any other offset of a die control window: registers, or unimplemented (R9). -/
  | win (d off : Nat)
  /-- Unpopulated (R38). -/
  | none
  deriving DecidableEq, Repr

/-- The offset within a 2 MiB or 1 MiB memory and its aliases. -/
def aliasOf (size off : Nat) : Option (Nat × Alias) :=
  if off < size then some (off, .plain)
  else if 0x400000 ≤ off ∧ off < 0x400000 + size then some (off - 0x400000, .setBits)
  else if 0x800000 ≤ off ∧ off < 0x800000 + size then some (off - 0x800000, .clearBits)
  else none

/-- The CXL bytes a port has mapped (Table LNK-8): none unless the port is MAPPED or LOST. -/
def State.cxlBytes (s : State) (p : Nat) : Nat :=
  let st := s.fld fCX_PORT_STAT_STATE (60 + p / 2) (p % 2)
  if st = 2 ∨ st = 4 then s.fld fCX_PORT_STAT_CAP (60 + p / 2) (p % 2) * 0x10000000 else 0

/-- What stands at a 52-bit package address. -/
def State.locate (s : State) (a : Nat) : Loc :=
  if a < 0x12000000000 then .hbm (a / 0x2400000000)
  else if 0x40000000000 ≤ a ∧ a < 0xC0000000000 then
    let p := (a - 0x40000000000) / 0x20000000000
    if (a - 0x40000000000) % 0x20000000000 < s.cxlBytes p then .cxl p else .none
  else if 0xF000000000000 ≤ a ∧ a < 0xF004000000000 then
    let d := (a - 0xF000000000000) / 0x100000000
    let off := (a - 0xF000000000000) % 0x100000000
    if d < 48 then
      if off < 0x80000000 then
        let sp := d * 32 + off / 0x4000000
        let o := off % 0x4000000
        match aliasOf 0x200000 o with
        | some x => .pad sp x.1 x.2
        | none => if 0x1100000 ≤ o ∧ o < 0x1200000 then .view sp (o - 0x1100000) else .win d off
      else if off < 0x84000000 then .pool d (off - 0x80000000)
      else .win d off
    else if 62 ≤ d then
      match aliasOf 0x100000 off with
      | some x => .sram (d - 62) x.1 x.2
      | none => .win d off
    else .win d off
  else .none

/-! ## Registers by address -/

/-- Where an offset falls in a register's place: the instance and the byte within the register. -/
def Place.hit (p : Place) (width off : Nat) : Option (Nat × Nat) :=
  if off < p.base then none
  else
    let rel := off - p.base
    let i1 := if p.n1 ≤ 1 then 0 else rel / p.s1
    let r1 := if p.n1 ≤ 1 then rel else rel % p.s1
    let i2 := if p.n2 ≤ 1 then 0 else r1 / p.s2
    let b := if p.n2 ≤ 1 then r1 else r1 % p.s2
    if i1 < p.n1 ∧ i2 < p.n2 ∧ b < width / 8 then some (i1 * p.n2 + i2, b) else none

/-- A register seen in window `d` at an offset: its name, instance and the byte within it. The HI_
registers are reached through BAR0 only (Table FL-18). -/
def findReg (d off : Nat) : Option (Reg × Nat × Nat) :=
  allRegs.findSome? fun r =>
    let x := regDesc r
    if x.place.dLo ≤ d ∧ d ≤ x.place.dHi ∧ ¬ (d = 60 ∧ 0x2000000 ≤ x.place.base ∧ x.place.dHi = 60) then
      (x.place.hit x.width off).map fun y => (r, y.1, y.2)
    else none

/-- The HI_ registers of a host port at an offset of its BAR0 block (Table FL-18, R43). -/
def findHost (port off : Nat) : Option (Reg × Nat × Nat) :=
  let at4 := fun (base stride : Nat) => if base ≤ off ∧ off < base + 4 * stride then some ((off - base) / stride, (off - base) % stride) else none
  if off < 8 then some (.HI_BAR2_BASE, port, off)
  else if 0x10 ≤ off ∧ off < 0x14 then some (.HI_PKG_NUM, 0, off - 0x10)
  else if 0x20 ≤ off ∧ off < 0x24 then some (.HI_LINK_STAT, port, off - 0x20)
  else if 0x1000 ≤ off ∧ off < 0x1100 then
    let k := (off - 0x1000) / 16
    let b := (off - 0x1000) % 16
    if b < 8 then some (.HI_MSIX_LO, port * 16 + k, b) else some (.HI_MSIX_HI, port * 16 + k, b - 8)
  else if 0x2000 ≤ off ∧ off < 0x2008 then some (.HI_MSIX_PBA, port, off - 0x2000)
  else match at4 0x100 0x40 with
    | some (c, b) =>
      if b < 8 then some (.HI_DMA_BASE, port * 4 + c, b)
      else if b < 12 then some (.HI_DMA_CTL, port * 4 + c, b - 8)
      else if 0x10 ≤ b ∧ b < 0x14 then some (.HI_DMA_HEAD, port * 4 + c, b - 0x10)
      else if 0x18 ≤ b ∧ b < 0x1C then some (.HI_DMA_TAIL, port * 4 + c, b - 0x18)
      else none
    | none => none

/-! ## Routes to other packages (R296, R299) -/

/-- The available choices of a destination package, ports whose choice is enabled and that are ACTIVE, each with its dateline
mark. -/
def State.routes (s : State) (pkg : Nat) : List (Nat × Bool) :=
  let v := s.fld fWP_ROUTE_CHOICE 56 pkg
  (List.range 4).filterMap fun i =>
    let c := v >>> (8 * i) % 256
    let port := c % 16
    if c / 128 = 1 ∧ s.fld fWP_PORT_STAT_STATE (56 + port / 4) (port % 4) = 4 then some (port, c.testBit 6) else none

/-- Their ports. -/
def State.choices (s : State) (pkg : Nat) : List Nat := (s.routes pkg).map (·.1)

/-- A package is this one, or has a route (R299). -/
def State.reachable (s : State) (pkg : Nat) : Bool := pkg == s.pkg || !(s.choices pkg).isEmpty

/-- The flow hash (R296): the CRC-32 of SRC_UNIT and the address bits 51:12, each in whole bytes, low byte first. -/
def flowHash (unit addr : Nat) : Nat := (crc32 (leBytes 2 unit ++ leBytes 5 (addr / 2 ^ 12 % 2 ^ 40))).toNat

/-- The choice of a list that a flow takes. -/
def flowPick {α : Type} (l : List α) (unit addr : Nat) : Option α := l[flowHash unit addr % l.length]?

/-! ## Flits sent (R289, R290, R298, Table LNK-13) -/

/-- The virtual channel of a flit: requests 0 and 1, responses 2 and 3; the second of each after a dateline. -/
def warpVc (response late : Bool) : Nat := 2 * response.toNat + late.toNat

/-- A port has room for a flit: its replay buffer is not full, and it holds a credit for the channel. -/
def State.portRoom (s : State) (q vc : Nat) : Bool := decide (s.lat .warpUnacked q 0 < 1024) && decide (s.lat .warpCredit q vc < 128)

/-- A port sends a flit, and keeps it until it is acknowledged. -/
def State.sendFlit (s : State) (q vc : Nat) : State :=
  (s.setLat .warpUnacked q 0 (min (s.lat .warpUnacked q 0 + 1) 1024)).setLat .warpCredit q vc (min (s.lat .warpCredit q vc + 1) 128)

/-- The choices in force before a change, as a number. -/
def packPorts (l : List Nat) : Nat := l.foldl (fun n p => n * 17 + p + 1) 0

/-- The choices of such a number. -/
def unpackPorts : Nat → Nat → List Nat
  | 0, _ => []
  | k + 1, n => if n = 0 then [] else unpackPorts k (n / 17) ++ [n % 17 - 1]

/-- The new flits of a flow to a package are held back: its choices changed, the new ones send the flow by another port, and
older requests may still wait for their responses, for WP_GCFG.TIMEOUT_US at most (R298). -/
def State.flowHeld (s : State) (pkg unit addr : Nat) : Bool :=
  let old := s.lat .flowHold pkg 0
  let limit := s.fld fWP_GCFG_TIMEOUT_US 56 0
  old != 0 && (limit == 0 || decide (s.now < s.lat .flowSince pkg 0 + limit * 1000)) &&
    flowPick (unpackPorts 4 old) unit addr != flowPick (s.choices pkg) unit addr

/-- A transaction of a unit to a package waits at the XD: its flow is held, or its port has no room. -/
def State.flitHeld (s : State) (pkg unit addr : Nat) (response late : Bool) : Bool :=
  match flowPick (s.routes pkg) unit addr with
  | some x => s.flowHeld pkg unit addr || !s.portRoom x.1 (warpVc response (late || x.2))
  | none => false

/-- A transaction leaves for a package, in a flit of its own. -/
def State.flitLeaves (s : State) (pkg unit addr : Nat) (response late : Bool) : State :=
  match flowPick (s.routes pkg) unit addr with
  | some x => s.sendFlit x.1 (warpVc response (late || x.2))
  | none => s

/-! ## Doorbells by target (Table ISA-16, R119) -/

/-- The key of the warden side of compute die d's mailbox pair (Table WD-6). -/
def cdWardenSide (d : Nat) : Nat := 2 * d

/-- Doorbell bits toward the active warden through die d's pair (R396): bits 0 to 4 are the device's. -/
def State.wardenDoorbell (s : State) (d bits : Nat) : State :=
  s.updSticky fun k =>
    let x := sget Side.zero k.sides (cdWardenSide d)
    let y := { x with db := x.db ||| BitVec.ofNat 32 (bits &&& 0xFFFFFFE0) }
    { k with sides := sset Side.zero k.sides (cdWardenSide d) y }

/-- Doorbell bits for another package wait at the XD; the address in the hash is the target (R296). -/
def State.bellHeld (s : State) (u : Nat) (tgt : W64) : Bool := dbPkg tgt != s.pkg && s.flitHeld (dbPkg tgt) u tgt.toNat false false

/-- Doorbell bits are sent by unit `u` of die d to a target; `none` where it cannot be delivered: the target's die is
isolated, its spindle retired, or its package unreachable. Bits for another package leave this one. -/
def State.ring (s : State) (d u : Nat) (tgt : W64) (bits : Nat) : Option State :=
  if dbPkg tgt ≠ s.pkg then (if s.reachable (dbPkg tgt) then some (s.flitLeaves (dbPkg tgt) u tgt.toNat false false) else none)
  else if dbKind tgt = 1 then some (s.wardenDoorbell d bits)
  else if s.dieUp (spDie (dbSpindle tgt)) = false ∨ s.spState (dbSpindle tgt) = 6 then none
  else some (s.doorbell (dbSpindle tgt) bits)

/-! ## Bytes by system address, for the device's own readers -/

/-- Every byte of a range is populated and reachable; a range of another package where it has a route. -/
def State.populated (s : State) (a n : Nat) : Bool :=
  if a / 2 ^ 52 = s.pkg then
    (List.range ((n + 0xFFF) / 0x1000 + 1)).all fun k =>
      s.locate (min (a + k * 0x1000) (a + n - 1) % 2 ^ 52) ≠ .none
  else s.reachable (a / 2 ^ 52)

/-- Bytes read by the device at a system address: of this package's memory; a byte of another package's
memory is a free value. -/
def State.sysBytes (s : State) (a n : Nat) : List Byte :=
  if a / 2 ^ 52 = s.pkg then s.bytes (a % 2 ^ 52) n
  else (List.range n).map fun k => Config.freeByte s.free (a + k)

/-! ## Where a request comes from and goes to -/

/-- The die a master stands on. -/
def masterDie : Master → Nat
  | .spindle sp => spDie sp
  | .warden w => 62 + w
  | .host _ => 60
  | .hw => 62

/-- The unit of a master (Table FL-11). -/
def State.masterUnit (s : State) : Master → Nat
  | .spindle sp => s.spUnit sp
  | .warden w => unitId (62 + w) 0
  | .host port => unitId 60 port
  | .hw => unitId s.aw 0

/-- The die that serves a place; `home` where none does. -/
def Loc.die (l : Loc) (home : Nat) : Nat :=
  match l with
  | .hbm q => 48 + q
  | .cxl p => 60 + p / 2
  | .pad sp _ _ | .view sp _ => spDie sp
  | .pool d _ | .win d _ => d
  | .sram w _ _ => 62 + w
  | .none => home

/-- A request of die `d` to a system address waits: its stop holds new flits back for a new route (R20). -/
def State.crossHeld (s : State) (d a : Nat) : Bool :=
  s.lat .routeHold d 0 != 0 && (a / 2 ^ 52 != s.pkg || (s.locate (a % 2 ^ 52)).die d != d)

/-- Such a request of a master; the device's own hardware waits for no stop. -/
def State.masterHeld (s : State) (m : Master) (a : Nat) : Bool := m != .hw && s.crossHeld (masterDie m) a

end Sys2Proof.Machine
end

