-- ==== Sys2Proof/Machine/Regs.lean ====
section
/-! DEFINITION. Register access by the access codes of Table SC-4 (R8 to R12, R412), refusals of writes
to warden blocks (R379), and what a reset does to the fields of each class (R13, R531). -/

namespace Sys2Proof.Machine

/-! ## Presence (R412, Table WD-17) -/

/-- The presence a flash table needs (Table RST-5). -/
def tablePresence (t : Nat) : Presence := if t = 7 ∨ t = 8 then .button else .seal

/-- A presence level's number in the payload of EV 0x7160: 1 button, 2 seal, 3 jumper. -/
def Presence.code : Presence → Nat
  | .none => 0 | .button => 1 | .seal => 2 | .jumper => 3 | .byTable => 0

/-- A presence level is shown at warden die `d`. -/
def State.shown (s : State) (d : Nat) : Presence → Bool
  | .none => true
  | .button => s.flag fFS_PRES_BUTTON d 0
  | .seal => s.fld fFS_PRES_SEAL d 0 == 1
  | .jumper => s.flag fFS_PRES_JUMPER d 0
  | .byTable => false

/-- The presence a field needs for a value written to its register. -/
def FieldDesc.needs (f : FieldDesc) (v : W64) : Presence :=
  match f.pres with | .byTable => tablePresence (getBits v 23 16) | p => p

/-! ## Plain reads and writes -/

/-- The instance's place in the window of die `d` (Place.hit turns it back). -/
def regOffset (r : Reg) (i : Nat) : Nat :=
  let p := (regDesc r).place
  p.base + i / p.n2 * p.s1 + i % p.n2 * p.s2

/-- The package address of a register (R39). -/
def regAddr (r : Reg) (d i : Nat) : Nat := 0xF000000000000 + d * 0x100000000 + regOffset r i

/-- What a write of `v` leaves in a field that holds `old` (Table SC-4). -/
def FieldDesc.write (f : FieldDesc) (shown : Bool) (old v : W64) : Nat :=
  let o := getBits old f.hi f.lo
  let x := getBits v f.hi f.lo
  match f.acc with
  | .rw => x
  | .w1c => o - (o &&& x)
  | .w1s => o ||| x
  | .wp => if shown then x else o
  | .ro | .wo | .rc | .rl => o

/-- What a write of `v` by the plain rules leaves in register `r` that holds `old`. -/
def writtenValue (r : Reg) (shown : FieldDesc → Bool) (old v : W64) : W64 :=
  (regDesc r).fields.foldl (fun a f => setBits a f.hi f.lo (f.write (shown f) old v)) old

/-- A WP field that a write would change without its presence (R12). -/
def refusedField (r : Reg) (shown : FieldDesc → Bool) (old v : W64) : Option FieldDesc :=
  (regDesc r).fields.find? fun f =>
    f.acc == .wp && !shown f && getBits v f.hi f.lo != getBits old f.hi f.lo

/-- Set a register by its die: the active warden's own is mirrored (R385). -/
def State.putReg (s : State) (r : Reg) (d i : Nat) (v : W64) : State :=
  if d = s.aw then s.setWreg r i v else s.setReg r d i v

/-- Set a field by its die. -/
def State.putFld (s : State) (f : RField) (d i : Nat) (x : Nat) : State :=
  s.putReg f.reg d i (setBits (s.reg f.reg d i) f.hi f.lo x)

/-- EV 0x7160 of a write refused for lack of presence (R412). -/
def State.presenceRefused (s : State) (d addr : Nat) (p : Presence) : State :=
  s.event 0x7160 .warn (unitId d 0x003) (addr + p.code * 2 ^ 64)

/-- A write of a register by its access codes alone. -/
def State.plainWrite (s : State) (r : Reg) (d i : Nat) (v : W64) : State :=
  let old := s.reg r d i
  let shown := fun (f : FieldDesc) => s.shown d (f.needs v)
  let t := s.putReg r d i (writtenValue r shown old v)
  match refusedField r shown old v with
  | some f => t.presenceRefused d (regAddr r d i) (f.needs v)
  | none => t

/-- A WP command's field is written with its presence: the command may run (R12, R412). -/
def State.wpOk (s : State) (r : Reg) (d i : Nat) (v : W64) : Bool :=
  (refusedField r (fun f => s.shown d (f.needs v)) (s.reg r d i) v).isNone

/-- What a read of a register shows: write-only fields and the bits no field holds read zero (R9). -/
def shownValue (r : Reg) (v : W64) : W64 :=
  (regDesc r).fields.foldl (fun a f => if f.acc = .wo then a else setBits a f.hi f.lo (getBits v f.hi f.lo)) 0

/-- EV 0x7105: a write to a warden block from a master without access (R379, R24). -/
def State.wardenRefused (s : State) (addr : Nat) : State := s.wevent 0x7105 .warn 0 addr

/-- A write honoured from a host port and the active warden (R379). -/
def State.guardedWrite (s : State) (m : Master) (r : Reg) (d i : Nat) (f : State → State) : State :=
  if s.hostOrActive m then f s else s.wardenRefused (regAddr r d i)

/-! ## Resets of register blocks (R13, Table RST-2) -/

/-- The register of a store key. -/
def regOfId (k : Nat) : Option Reg := allRegs[k]?

/-- The bits of a register whose class a reset keeps. -/
def keepMask (r : Reg) (keep : Cls → Bool) : W64 :=
  (regDesc r).fields.foldl (fun v f => if keep f.cls then v ||| maskOf f.hi f.lo else v) 0

/-- What a block reset leaves of one stored register. -/
def resetEntry (sel : Reg → Nat → Nat → Bool) (keep : Cls → Bool) (kv : Nat × W64) : Option (Nat × W64) :=
  let a := Nat.unpair kv.1
  let b := Nat.unpair a.2
  match regOfId a.1 with
  | none => some kv
  | some r =>
    if sel r b.1 b.2 then
      let m := keepMask r keep
      let v := (regReset r b.1 b.2 &&& ~~~m) ||| (kv.2 &&& m)
      if v = regReset r b.1 b.2 then none else some (kv.1, v)
    else some kv

/-- A block reset: every register chosen by `sel` (name, die, index) returns to its reset value, apart from
the fields of a class that `keep` names. -/
def State.resetRegs (s : State) (sel : Reg → Nat → Nat → Bool) (keep : Cls → Bool) : State :=
  { s with regs := s.regs.filterMap (resetEntry sel keep) }

/-- A latch entry is not chosen by `sel` (latch number, die, index). -/
def keepLat (sel : Nat → Nat → Nat → Bool) (kv : Nat × Nat) : Bool :=
  let a := Nat.unpair kv.1
  let b := Nat.unpair a.2
  !sel a.1 b.1 b.2

/-- Latches chosen by `sel` return to 0. -/
def State.resetLats (s : State) (sel : Nat → Nat → Nat → Bool) : State :=
  { s with lats := s.lats.filter (keepLat sel) }

/-- Memory bytes from an address on return to what unwritten memory reads as. -/
def State.clearBytes (s : State) (a n : Nat) : State :=
  { s with mem := s.mem.filter fun c => c.1 < a || a + n ≤ c.1 }

/-- Memory bytes from an address on lose a factor: they read as given by a list of chosen spans. -/
def State.clearSpans (s : State) (l : List (Nat × Nat)) : State := s.each l fun x t => t.clearBytes x.1 x.2

/-- A write of a PW_ register, honoured from the active warden alone (R24). -/
def State.powerWrite (s : State) (m : Master) (r : Reg) (d i : Nat) (f : State → State) : State :=
  if s.isActive m then f s else s.wardenRefused (regAddr r d i)

end Sys2Proof.Machine
end

