-- ==== Sys2Proof/Machine/Legal.lean ====
section
/-! DEFINITION. The range rules of the registers that flash tables load, each held by a write and by a load alike
(R340, R347, R411, R448, R449, R459, R487, R493, R524), and the sections of the tables (Table RST-5, R538). -/

namespace Sys2Proof.Machine

/-! ## Thresholds and rate limits (R347, R411) -/

/-- A threshold entry breaks the rules of R347. -/
def thrBad (c : Nat) (v : W64) : Bool :=
  let a := getBits v 55 52
  decide (4 ≤ a) || getBits v 63 56 != 0 || getBits v 51 48 != 0 || (c == 0x10 && a == 2) ||
    (decide (0x12 ≤ c) && (a == 1 || a == 2))

/-- A rate-limit entry breaks the rules of R411. -/
def State.limitBad (s : State) (w i : Nat) (v : W64) : Bool :=
  let c := getBits v 63 48
  (i == 0 && c != 0) || (c != 0 && s.regs.any fun kv =>
    match keyIndex .EV_LIMIT0 w kv.1 with
    | some j => j != i && getBits kv.2 63 48 == c
    | none => false)

/-! ## Calibration (R340, Table ST-11) -/

/-- The register of a calibration write: 0 to 2 by offset, 3 + d for a die's. -/
def calReg (k : Nat) : Reg × Nat :=
  match k with
  | 0 => (.TH_CAL_FLUID, 0)
  | 1 => (.TH_CAL_HB, 0)
  | 2 => (.TH_CAL_TRIM, 0)
  | k => (.TH_CAL_DIE, k - 3)

/-- A value keeps the legal ranges of Table ST-11. -/
def calLegal (k : Nat) (v : W64) : Bool :=
  match k with
  | 0 => decide (3000 ≤ getBits v 31 16) && decide (getBits v 31 16 ≤ 4300)
  | 1 => decide (getBits v 31 24 ≤ 50) && decide (5 ≤ getBits v 23 16) && decide (getBits v 23 16 ≤ 100) &&
      decide (getBits v 15 0 ≤ 1000)
  | 2 => decide (getBits v 15 0 ≤ 500)
  | _ => getBits v 31 16 != 0

/-! ## Policy (R448, R449, Table TH-9) -/

/-- A value lies in a range. -/
def within (lo x hi : Nat) : Bool := decide (lo ≤ x) && decide (x ≤ hi)

/-- A value keeps the legal ranges of Table TH-9. -/
def policyLegal (r : Reg) (v : W64) : Bool :=
  match r with
  | .TH_SOFT =>
    within 100 (getBits v 63 48) 7200 && within 0 (getBits v 47 32) 1000 && within 48 (getBits v 31 24) 68 &&
      within 0 (getBits v 23 16) 100 && within 600 (getBits v 15 0) 950
  | .TH_HARD_T => within 400 (getBits v 31 16) 700 && within 900 (getBits v 15 0) 1050
  | .TH_HARD_FLOW =>
    within 500 (getBits v 63 48) 10000 && within 300 (getBits v 47 32) 1500 && within 20 (getBits v 31 24) 90 &&
      within 5 (getBits v 23 16) 100 && within 100 (getBits v 15 0) 600
  | .TH_HARD_LEAK => within 20 (getBits v 31 16) 5000
  | .TH_HARD_EMERG => !bitOf v 15
  | _ => true

/-- A point of a curve breaks R449: by its inlet, flow and cap fields in warden die `w`. -/
def State.badPoint (s : State) (inlet flow cap : RField) (w i : Nat) : Bool :=
  let x := fun j => s.fld inlet w j
  let q := fun j => s.fld flow w j
  let c := fun j => s.fld cap w j
  let r := i / 8
  x i != x (8 * r) || (i % 8 == 0 && i != 0 && decide (x i ≤ x (i - 8))) || decide (c i < 600) || decide (7200 < c i) ||
    (i % 8 != 0 && (decide (q i ≤ q (i - 1)) || decide (c i < c (i - 1)))) || (decide (8 ≤ i) && decide (c (i - 8) < c i))

/-! ## Loops (R459, R487) -/

/-- Q4.28 widened. -/
def wide (x : Int) : Int := x * 4096

/-- A Q4.28 field of a loop's register, widened. -/
def State.loopQ (s : State) (f : RField) (w i : Nat) : Int := wide (signedOf 32 (s.fld f w i))

/-- The index of a coefficient set of a loop. -/
def setIx (k set : Nat) : Nat := 2 * k + set

/-- The effective clamps of a set. -/
def State.clamps (s : State) (w k set : Nat) : Int × Int :=
  (max (s.loopQ fCE_LOOP_SET3_OUT_MIN w (setIx k set)) (s.loopQ fCE_LOOP_SAFE_SAFE_MIN w k),
   min (s.loopQ fCE_LOOP_SET3_OUT_MAX w (setIx k set)) (s.loopQ fCE_LOOP_SAFE_SAFE_MAX w k))

/-- The set in force. -/
def State.loopSet (s : State) (w k : Nat) : Nat := s.fld fCE_LOOP_STAT_SET w k

/-- A source code that is not reserved; 0x01 serves a setpoint only. -/
def sourceOk (setpoint : Bool) (c : Nat) : Bool :=
  c == 0 || (setpoint && c == 1) || decide (8 ≤ c ∧ c ≤ 0x0A) || decide (0x10 ≤ c ∧ c ≤ 0x16) || c == 0x18 ||
    decide (0x20 ≤ c ∧ c ≤ 0x27) || c == 0x30 || c == 0x31 || c == 0x38 || c == 0x39 || decide (0x40 ≤ c ∧ c ≤ 0x4F)

/-- A legal CE_LOOP_CFG: no reserved code, no refused zero, no second loop on a channel. -/
def State.loopCfgLegal (s : State) (w k : Nat) (v : W64) : Bool :=
  let dest := getBits v 19 16
  decide (1 ≤ getBits v 63 48) && decide (getBits v 63 48 ≤ 20000) && sourceOk false (getBits v 47 40) && sourceOk true (getBits v 39 32) &&
    sourceOk false (getBits v 31 24) &&
    (dest == 15 || (decide (dest ≤ 5) && ((List.range 16).all fun j => j == k || s.fld fCE_LOOP_CFG_DEST w j != dest))) &&
    getBits v 1 0 != 3

/-- Legal values of the other registers of a loop: the clamps of the set in force do not cross (R459), FE_LIMIT is positive,
ACTION is not reserved. -/
def State.loopLegal (s : State) (w : Nat) (r : Reg) (i : Nat) (v : W64) : Bool :=
  match r with
  | .CE_LOOP_SAFE =>
    let t := s.setReg .CE_LOOP_SAFE w i v
    let c := t.clamps w i (t.loopSet w i)
    decide (signedOf 32 (getBits v 31 0) ≤ signedOf 32 (getBits v 63 32)) && decide (c.1 ≤ c.2)
  | .CE_LOOP_SUP => decide (getBits v 63 32 < 2 ^ 31) && decide (getBits v 31 28 ≤ 2)
  | _ => true

/-! ## Actuators and inputs (R480, R481, R483, R487, Tables ACT-5, ACT-6, ACT-11, ACT-12) -/

/-- Legal values of the solenoid registers (Table ACT-6). -/
def svLegal (r : Reg) (v : W64) : Bool :=
  match r with
  | .SV_PROF0 =>
    decide (500 ≤ getBits v 31 16) && decide (getBits v 31 16 ≤ 2000) && decide (500 ≤ getBits v 15 0) && decide (getBits v 15 0 ≤ 6000)
  | .SV_PROF1 =>
    getBits v 31 16 != 0 && decide (getBits v 15 0 < getBits v 31 16) &&
      (getBits v 63 48 == 0 || decide (getBits v 47 32 < getBits v 63 48))
  | _ => true

/-- The legal values of the fan and pump registers, zone curves and input configuration (Tables ACT-5, ACT-11, ACT-12). -/
def State.fanLegal (s : State) (w : Nat) (r : Reg) (i : Nat) (v : W64) : Bool :=
  match r with
  | .FP_CFG =>
    decide (getBits v 63 60 ≤ 2) && decide (getBits v 59 56 ≤ 3) && decide (1 ≤ getBits v 39 32) && decide (getBits v 39 32 ≤ 25) &&
      decide (getBits v 15 0 ≤ 1000) &&
      (getBits v 23 16 == 0 || (s.fld fFP_ISUP_I_RUN_MA w i != 0 && s.fld fFP_ISUP_I_LOCK_MA w i != 0))
  | .FP_SUP => getBits v 31 16 != 0 && decide (1 ≤ getBits v 15 0) && decide (getBits v 15 0 ≤ 1000)
  | .FP_ISUP =>
    decide (1 ≤ getBits v 15 0) && decide (getBits v 15 0 ≤ 1000) &&
      (decide (getBits v 47 32 < getBits v 63 48) || (getBits v 47 32 == 0 && getBits v 63 48 == 0)) &&
      (s.fld fFP_CFG_TACH_PPR w i == 0 || (getBits v 47 32 != 0 && getBits v 63 48 != 0))
  | .FP_FIXED => decide (getBits v 15 0 ≤ 1000)
  | .FP_ZONE_SRC => sourceOk false (getBits v 7 0)
  | .FP_ZONE_PT =>
    decide (getBits v 15 0 ≤ 1000) && (i % 8 == 0 || decide (s.fld fFP_ZONE_PT_X w (i - 1) < getBits v 31 16)) &&
      (i % 8 == 7 || decide (getBits v 31 16 < s.fld fFP_ZONE_PT_X w (i + 1)))
  | .CE_FLOW_CFG =>
    match getBits v 1 0 with | 0 => true | 1 => getBits v 63 32 != 0 | 2 => getBits v 31 16 != 0 | _ => false
  | .CE_AIN_CFG => match getBits v 1 0 with | 0 => true | 3 => false | _ => getBits v 31 16 != 0
  | .CE_LEAK_CFG => decide (1000 ≤ getBits v 31 0) && decide (getBits v 31 0 ≤ 100000)
  | _ => true

/-! ## The tray bus (R493, R524, Table TB-13) -/

/-- Legal TB_NOM (`phase` false) and TB_DATA (R493, Table TB-13). -/
def timingLegal (phase : Bool) (v : W64) : Bool :=
  if phase then
    getBits v 20 16 != 0 && getBits v 12 8 != 0 && getBits v 7 4 != 0 && getBits v 3 0 != 0 && decide (getBits v 3 0 ≤ getBits v 7 4) &&
      decide (getBits v 7 4 ≤ getBits v 12 8) && (!bitOf v 31 || getBits v 30 24 != 0)
  else
    getBits v 31 24 != 0 && decide (2 ≤ getBits v 23 16) && getBits v 14 8 != 0 && getBits v 6 0 != 0 &&
      decide (getBits v 6 0 ≤ getBits v 14 8) && decide (getBits v 14 8 ≤ getBits v 23 16)

/-- Legal values of TB_CFG and the filters (Tables TB-14, TB-16, R500). -/
def tbLegal (r : Reg) (v : W64) : Bool :=
  match r with
  | .TB_CFG => getBits v 31 16 == 0 || (decide (100 ≤ getBits v 31 16) && decide (getBits v 31 16 ≤ 60000))
  | .TB_FILT_BUF =>
    decide (getBits v 15 14 ≤ 1) && decide (getBits v 13 8 ≤ 32) && decide (getBits v 4 0 + getBits v 13 8 ≤ 32)
  | _ => true

/-! ## Sections of the flash tables (Table RST-5, R538) -/

/-- The section a register is loaded from: 1 thresholds, 2 rate limits, 3 the actuator section and 4 the tray-bus section of
the fault-response table, 5 calibration, 6 thermal limits, 7 the loop section and 8 the actuator section of the hard-limit
table, 9 flow curve, 10 tenancy guarantee, 11 soft thermal, 12 fan curve; 0 for none. -/
def flashSection (r : Reg) : Nat :=
  match r with
  | .WD_FLT_THR => 1
  | .EV_LIMIT0 => 2
  | .CE_LOOP_SUP => 3
  | .TB_CTL | .TB_NOM | .TB_DATA | .TB_CFG => 4
  | .TH_CAL_FLUID | .TH_CAL_HB | .TH_CAL_TRIM | .TH_CAL_DIE => 5
  | .TH_HARD_T | .TH_HARD_FLOW | .TH_HARD_LEAK | .TH_HARD_EMERG | .WD_FORCE_LEAK => 6
  | .CE_LOOP_CFG | .CE_LOOP_SAFE | .CE_LOOP_FS | .CE_LOOP_SP | .CE_LOOP_SET0 | .CE_LOOP_SET1 | .CE_LOOP_SET2 | .CE_LOOP_SET3 => 7
  | .SV_PROF0 | .SV_PROF1 | .SV_PROF2 | .SV_CFG | .FP_CFG | .FP_SUP | .FP_ISUP | .FP_FIXED | .CE_FLOW_CFG | .CE_AIN_CFG
  | .CE_LEAK_CFG => 8
  | .TH_CURVE => 9
  | .TH_TEN | .QD_TEN => 10
  | .TH_SOFT => 11
  | .FP_ZONE_SRC | .FP_ZONE_PT => 12
  | _ => 0

/-- The sections of a table (Table RST-5). -/
def tableSections (t : Nat) : List Nat :=
  match t with
  | 2 => [5] | 3 => [1, 2, 3, 4] | 4 => [6, 7, 8] | 5 => [9] | 6 => [10] | 7 => [11] | 8 => [12] | _ => []

/-- The event that a rejected section is recorded as. -/
def sectionEvent (x : Nat) : Nat :=
  match x with
  | 1 => 0x8115 | 2 => 0x7133 | 3 | 7 | 8 | 12 => 0x5306 | 4 => 0x6103 | 5 => 0x4406 | _ => 0x4601

/-- The number of a calibration register among the writes of R340. -/
def calIndex (r : Reg) (i : Nat) : Nat :=
  match r with | .TH_CAL_FLUID => 0 | .TH_CAL_HB => 1 | .TH_CAL_TRIM => 2 | _ => i + 3

/-- A register loaded into warden die `w` breaks the range rules of its chapter; `raw` is what the table gives it, reserved
bits with it. The quarries' guarantees are loaded under the warden, entry `8 q + t` for tenancy `t` of quarry `q`. -/
def State.loadBad (s : State) (w : Nat) (r : Reg) (i : Nat) (raw : W64) : Bool :=
  let v := s.reg r w i
  let sum := fun (f : RField) (b : Nat) => ((List.range' b 8).map fun j => s.fld f w j).sum
  match r with
  | .WD_FLT_THR => thrBad i raw
  | .EV_LIMIT0 => s.limitBad w i raw
  | .TH_CAL_FLUID | .TH_CAL_HB | .TH_CAL_TRIM | .TH_CAL_DIE => !calLegal (calIndex r i) v
  | .TH_SOFT | .TH_HARD_T | .TH_HARD_FLOW | .TH_HARD_LEAK | .TH_HARD_EMERG => !policyLegal r v
  | .TH_CURVE => s.badPoint fTH_CURVE_INLET fTH_CURVE_FLOW fTH_CURVE_CAP_W w i
  | .TH_TEN => decide (1000 < sum fTH_TEN_SHARE 0)
  | .QD_TEN => decide (750 < sum fQD_TEN_RATE (i / 8 * 8))
  | .CE_LOOP_CFG => !s.loopCfgLegal w i v
  | .CE_LOOP_SAFE | .CE_LOOP_SUP => !s.loopLegal w r i v
  | .CE_LOOP_SET1 => decide (0x10000000 < getBits v 63 32)
  | .CE_LOOP_SET3 => let c := s.clamps w (i / 2) (i % 2); s.loopSet w (i / 2) == i % 2 && decide (c.2 < c.1)
  | .SV_PROF0 | .SV_PROF1 | .SV_PROF2 => !svLegal r v
  | .FP_CFG | .FP_SUP | .FP_ISUP | .FP_FIXED | .FP_ZONE_SRC | .FP_ZONE_PT | .CE_FLOW_CFG | .CE_AIN_CFG | .CE_LEAK_CFG =>
    !s.fanLegal w r i v
  | .TB_NOM => !timingLegal false v
  | .TB_DATA => !timingLegal true v
  | .TB_CFG => !tbLegal r v
  | _ => false

/-- What a table's body gives: register, index and value, of the registers its sections load. -/
def imageOf (t : Nat) (body : List Byte) : List (Reg × Nat × W64) :=
  (Config.flashImage t body).filterMap fun kv =>
    let k := Nat.unpair kv.1
    match regOfId k.1 with
    | some r => if (tableSections t).contains (flashSection r) then some (r, k.2, kv.2) else none
    | none => none

/-- The fields a flash table gives are of class T. -/
def maskT (r : Reg) : W64 := keepMask r fun c => c == .T

/-- Put what a table gives into warden die `w`. -/
def State.putImage (s : State) (w : Nat) (l : List (Reg × Nat × W64)) : State :=
  s.each l fun x u => u.setReg x.1 w x.2.1 ((u.reg x.1 w x.2.1 &&& ~~~(maskT x.1)) ||| (x.2.2 &&& maskT x.1))

/-- The sections of a table that break their chapters' range rules (R538, R540). -/
def State.badSections (s : State) (w t : Nat) (body : List Byte) : List Nat :=
  let l := imageOf t body
  let u := s.putImage w l
  (tableSections t).filter fun x => l.any fun y => flashSection y.1 == x && u.loadBad w y.1 y.2.1 y.2.2

end Sys2Proof.Machine
end

