-- ==== Sys2Proof/Machine/Tray.lean ====
section
/-! DEFINITION. The Orwilos messages the active warden queues (R513 to R522, Tables TB-4 to TB-9). -/

namespace Sys2Proof.Machine

/-- The length code of a payload (ISO 11898-1): the codes above 8 name 12, 16, 20, 24, 32, 48 and 64 bytes. -/
def dlcLen (c : Nat) : Nat :=
  if c ≤ 8 then c else match c with
    | 9 => 12 | 10 => 16 | 11 => 20 | 12 => 24 | 13 => 32 | 14 => 48 | _ => 64

/-- The length code of an Orwilos message of `n` bytes. -/
def dlcOf (n : Nat) : Nat := ((List.range 16).find? fun c => dlcLen c == n).getD 15

/-- The identifier of an Orwilos message (Table TB-4). -/
def orwId (prio ty dst src seq : Nat) : Nat := prio * 2 ^ 26 + ty * 2 ^ 18 + dst * 2 ^ 12 + src * 2 ^ 6 + seq % 64

/-- The priority of a type (Table TB-5). -/
def orwPrio (ty : Nat) : Nat :=
  match ty with | 1 => 0 | 2 | 3 => 1 | 4 => 2 | 5 => 3 | 6 | 7 => 4 | _ => 5

/-- A free transmit buffer of a warden: the lowest that is not PENDING. -/
def State.freeTx (s : State) (w : Nat) : Option Nat :=
  (List.range 32).find? fun b => s.fld fTB_TXB_CMD_STATUS w b != 1

/-- A buffer's 64 bytes of payload. -/
def State.setTxData (s : State) (w b : Nat) (bs : List Byte) : State :=
  s.each (List.range 16) fun k t =>
    t.setReg .TB_TXB_DATA w (b * 16 + k) (BitVec.ofNat 64 (leValue ((bs.drop (4 * k)).take 4)))

/-- A buffer becomes PENDING (R503). -/
def State.txPending (s : State) (w b : Nat) : State :=
  let t := (s.setFld fTB_TXB_CMD_STATUS w b 1).setFld fTB_TXB_CMD_ATTEMPTS w b 0
  let t := (t.setLat .txData w b 0).setLat .txEnds w b 0
  t.setLat .txLife w b (if s.flag fTB_TXB_CTRL_LT_EN w b then s.now + s.fld fTB_TXB_CTRL_LIFETIME_MS w b * 1000000 + 1 else 0)

/-- Frames go with BRS (R496, R498, R513). -/
def State.brsNow (s : State) (w : Nat) : Bool :=
  s.flag fTB_CTL_BRS_EN w 0 && s.flag fTB_AUTO_LOCKED_DATA w 0 && !s.flag fTB_STAT_SLOWDATA w 0

/-- The active warden queues an Orwilos message (R513 to R515), while it sends Orwilos: into the lowest transmit buffer
that is not PENDING. -/
def State.sendOrw (s : State) (ty dst : Nat) (payload : List Byte) (retry life : Nat) : State :=
  let w := s.aw
  if s.flag fWD_ROLE_ACTIVE w 0 && s.flag fTB_CFG_ORW_EN w 0 && s.flag fTB_CTL_FD_EN w 0 then
    match s.freeTx w with
    | none => s
    | some b =>
      let q := s.lat .orwSeq ty 0
      let id := orwId (orwPrio ty) ty dst (s.fld fTB_STAT_NODE w 0) q
      let ctrl := life * 2 ^ 16 + (if life = 0 then 0 else 2 ^ 15) + retry * 2 ^ 8 + 2 ^ 7 + (s.brsNow w).toNat * 2 ^ 6 +
        dlcOf payload.length
      let t := (s.setReg .TB_TXB_ID w b (BitVec.ofNat 64 (2 ^ 30 + id))).setReg .TB_TXB_CTRL w b (BitVec.ofNat 64 ctrl)
      ((t.setTxData w b payload).txPending w b).setLat .orwSeq ty 0 ((q + 1) % 64)
  else s

/-- POWER_REPORT (Table TB-7) with a result and the ORDER_SEQ it answers. -/
def State.powerReport (s : State) (result seq : Nat) : State :=
  let eff := s.wfld fTH_ORDER_EFF_STATE 0 + s.wfld fTH_ORDER_EFF_EMERG_HOLD 0 * 4 + s.wfld fTH_ORDER_RACK_VALID 0 * 8
  let host := s.wfld fTH_ORDER_HOST_CAP_EN 0 + s.wfld fTH_ORDER_HOST_STATE 0 * 2
  let remain := if s.lat .drainEnd 0 0 = 0 then 0 else (s.lat .drainEnd 0 0 - 1 - s.now) / 1000000
  s.sendOrw 3 0 (leBytes 2 seq ++ leBytes 1 result ++ leBytes 1 eff ++ leBytes 2 (s.wfld fTH_CAP_CAP_W 0) ++
    leBytes 1 (s.wfld fTH_CAP_SRC 0) ++ leBytes 1 0 ++ leBytes 2 (s.wfld fTH_ORDER_HOST_CAP_W 0) ++ leBytes 1 host ++
    leBytes 1 0 ++ leBytes 4 remain) 15 1000

/-- BREACH (R520, Table TB-9). -/
def State.breachSend (s : State) (ten kind unit guaranteed delivered : Nat) : State :=
  s.sendOrw 4 0 (leBytes 1 ten ++ leBytes 1 kind ++ leBytes 2 unit ++ leBytes 4 guaranteed ++ leBytes 4 delivered ++
    leBytes 4 0) 15 0

/-- EMERGENCY (R521). -/
def State.emergencySend (s : State) (causes : Nat) : State :=
  s.sendOrw 1 63 (leBytes 4 causes ++ leBytes 8 s.now) 15 10000

/-- NODE_ANNOUNCE (R522). -/
def State.announce (s : State) : State :=
  s.sendOrw 8 63 (leBytes 1 1 ++ leBytes 1 (s.fld fTB_AUTO_LOCKED_DATA s.aw 0 + s.fld fTB_CFG_AUTO s.aw 0 * 2) ++
    leBytes 2 0 ++ leBytes 4 (s.reg .FS_FUSE_BANK s.aw 0).toNat) 15 0

/-- The temperature of a register in mK as a count of 0.01 °C, 16-bit. -/
def centi (mk : Nat) : Nat := ofSigned 16 (signedOf 32 mk / 10)

/-- The highest trusted temperature of a twin, 1/128 °C. -/
def State.hottest (s : State) : Int :=
  (List.range 48).foldl (fun m d => (List.range 17).foldl (fun m k =>
    let x := signedOf 16 (s.fld fTH_TWIN_TRUSTED d k)
    if m < x then x else m) m) (-32768)

/-- The package state as STATUS gives it (Table TB-8); a free value in SHUTDOWN, which the table does not name. -/
def State.statusCode (s : State) : Nat :=
  match s.wfld fWD_PKG_STAT_STATE 0 with
  | 0 => 0
  | 1 => 1
  | 2 => 2
  | 3 => 3
  | _ => (Config.freeByte s.free 0).toNat

/-- STATUS (R518, Table TB-8); `forced` as R389 gives it. -/
def State.statusSend (s : State) (forced : Bool) : State :=
  let ms := s.fld fTB_CFG_STAT_MS s.aw 0
  let role := (s.aw - 62) + s.fld fWD_ROLE_MIRROR_OK s.aw 0 * 2 + forced.toNat * 4 + s.fld fWD_TIME_STAT_ON_BACKUP s.aw 0 * 8
  ({ s with free := s.free + 1 } : State).sendOrw 6 63 (leBytes 1 s.statusCode ++ leBytes 1 role ++ leBytes 2 (s.wreg .TH_STAT 0).toNat ++
    leBytes 2 (s.fld fPW_IN_MEAS_P_IN 62 0 / 1000) ++ leBytes 2 (s.wfld fTH_CAP_CAP_W 0) ++
    leBytes 2 (centi (s.wfld fTH_IN_USED_INLET 0)) ++ leBytes 2 (centi (s.wfld fTH_IN_USED_OUTLET 0)) ++
    leBytes 2 (s.wfld fTH_FLOW_USED_Q 0 / 10) ++ leBytes 2 (ofSigned 16 (s.hottest * 100 / 128)) ++
    leBytes 2 (s.wfld fEV_STAT_COUNT 0) ++ leBytes 2 0 ++ leBytes 4 ((s.now - s.lat .timeStepped 0 0) / 1000000000)) 3
    (if ms = 0 then 1000 else ms)

/-- A controller in MODE NORMAL of the active warden starts to integrate (R489, R491, R497). -/
def State.tbJoin (s : State) (w : Nat) : State :=
  if s.flag fWD_ROLE_ACTIVE w 0 && s.fld fTB_CTL_MODE w 0 == 2 && !s.flag fTB_STAT_NODE_BAD w 0 && s.fld fTB_STAT_STATE w 0 == 1 then
    ((s.setFld fTB_STAT_STATE w 0 3).setFld fTB_STAT_TEC w 0 0).setFld fTB_STAT_REC w 0 0
  else s

/-- The pending buffers of a controller are stopped, the frame on the bus cut short (R502, R512). -/
def State.txLost (s : State) (w : Nat) : State :=
  (s.setLat .txNow w 0 0).each ((List.range 32).filter fun b => s.fld fTB_TXB_CMD_STATUS w b == 1) fun b t =>
    (((t.setFld fTB_TXB_CMD_STATUS w b 5).setLat .txLife w b 0).setLat .txEnds w b 0).setLat .txData w b 0

/-- Warden die `w` becomes active and `o` no longer is, as the tray bus sees it (R488, R489, R512): frames pending in the other
controller are lost, and this one passes from listening to NORMAL. -/
def State.tbRole (s : State) (w o : Nat) (forced : Bool) : State :=
  let t := ((s.txLost o).setFld fTB_STAT_TXEN o 0 0).setFld fTB_STAT_TXEN w 0 1
  let t := if t.fld fTB_STAT_STATE o 0 = 0 then t else t.setFld fTB_STAT_STATE o 0 1
  let t := if t.fld fTB_STAT_STATE w 0 = 1 then (t.setFld fTB_CTL_MODE w 0 2).tbJoin w else t
  ((t.announce.powerReport 3 (t.wfld fTB_ORW_STAT_ORDER_SEQ 0)).statusSend forced)

end Sys2Proof.Machine
end

