-- ==== Sys2Proof/Machine/Role.lean ====
section
/-! DEFINITION. The wardens' roles and restarts, mailbox receiver resets, locks freed by a holder's reset,
and the loading of flash tables (R381 to R391, R398, R405, R538, Table RST-2), as every loss, retirement
and reset uses them. -/

namespace Sys2Proof.Machine

/-! ## Forced state and role (R381 to R389) -/

/-- The forced state holds: no warden is both active and HEALTHY (R389). -/
def State.forced (s : State) : Bool :=
  !((s.flag fWD_ROLE_ACTIVE 62 0 && s.flag fWD_ROLE_HEALTHY 62 0) ||
    (s.flag fWD_ROLE_ACTIVE 63 0 && s.flag fWD_ROLE_HEALTHY 63 0))

/-- WD_PKG_STAT.STATE: 0 RUN, 1 STANDBY, 2 OFF, 3 BRINGUP, 4 SHUTDOWN. -/
def State.pkgState (s : State) : Nat := s.wfld fWD_PKG_STAT_STATE 0

/-- The idle clamp is held: by a cause of the policy, or in the forced state (R389). -/
def State.clamped (s : State) : Bool := s.lat .clampCause 0 0 != 0 || s.forced

/-- The duty slot of the nanosecond counter holds issue at duty `x` (R429). -/
def dutyHeld (now x : Nat) : Bool :=
  let k := now % 1000 * 2 / 125
  decide (k * x / 16 < (k + 1) * x / 16)

/-- Issue of a spindle is held: by the clamp, by an ordered shutdown, or by its twin's duty (R429, R431, R545). -/
def State.issueHeld (s : State) (sp : Nat) : Bool :=
  s.clamped || s.pkgState == 4 || dutyHeld s.now (s.lat .duty (spDie sp) (s.twinOf sp))

/-- A twin's set point, which its regulator reaches (R30). -/
def State.setVid (s : State) (d k x : Nat) : State :=
  let t := s.setFld fPW_TWIN_CTL_VID d k x
  if t.twinState d k = 2 then t.setFld fPW_TWIN_CTL_VID_ACT d k x else t

/-- Every twin that is ON moves to its FLOOR (R431). -/
def State.floorTwins (s : State) : State :=
  s.each (List.range 48) fun d t => t.each (List.range 17) fun k u =>
    if u.twinState d k = 2 then u.setVid d k (u.fld fPW_TWIN_AVS_FLOOR d k) else u

/-- A solenoid channel turns off (R475): from PEAK or HOLD through RECOVER; a waiting profile is cancelled. -/
def State.svOff (s : State) (w c : Nat) : State :=
  let t := (s.setLat .svRetry c 0 0).setLat .svExtend c 0 0
  match s.fld fSV_STAT_PHASE w c with
  | 1 => t.setFld fSV_STAT_PHASE w c 0
  | 2 | 3 => t.setFld fSV_STAT_PHASE w c 4
  | _ => t

/-- The channels a leak latch closes have been closed (R438, R479). -/
def State.closing (s : State) (w c : Nat) : Bool :=
  s.flag fWD_FORCE_LEAK_LATCH w 0 && s.lat .leakDue 0 0 == 0 && (s.fld fWD_FORCE_LEAK_CLOSE_MASK w 0).testBit c

/-- A test signal of either warden ends (R469). -/
def State.signalsEnd (s : State) : State :=
  s.each [62, 63] fun w t =>
    if t.flag fCE_TSG_STAT_RUNNING w 0 then (t.putFld fCE_TSG_STAT_RUNNING w 0 0).event 0x5303 .note (unitId w 0x110) 1 else t

/-- The loops of warden die `w` find their destinations held (R458, R465): the first sample after it re-seeds from the drive held. -/
def State.loopsHeld (s : State) (w : Nat) : State :=
  s.each (List.range 16) fun k t => if t.fld fCE_LOOP_CFG_DEST w k < 6 then t.setLat .loopOver w k 1 else t

/-- Every solenoid channel is de-energised, but for those a leak latch closes. -/
def State.releaseValves (s : State) (w : Nat) : State :=
  s.each (List.range 4) fun c t => if t.closing w c then t else t.svOff w c

/-- Every fan and pump channel is driven as in the forced state (R389, R391, R440): stopped where a leak latch that has acted names
it, else at 100 %. -/
def State.forcedFans (s : State) (w : Nat) : State :=
  s.each (List.range 6) fun c t =>
    let off := t.flag fWD_FORCE_LEAK_LATCH w 0 && t.lat .leakDue 0 0 == 0 && (t.fld fWD_FORCE_LEAK_STOP_MASK w 0).testBit c
    let x := if off then 0 else 1000
    (((t.setFld fFP_STAT_DRIVE w c x).setFld fFP_STAT_CAUSE w c (if off then 1 else 2)).setLat .fpDrive c 0 (x + 1)).setLat .fpAt
      c 0 t.now

/-- The forced state begins while warden die `w` is or becomes active (R389, R391, R479): twins go to their FLOOR; every fan and pump channel is driven; each
solenoid channel is de-energised and its command dropped; a test signal ends and the loops wait to resume from the forced drive (R465, R469); under the leak latch the watchdog domain goes on with the profile
of a channel of CLOSE_MASK, or starts it. -/
def State.forcedBegin (s : State) (w : Nat) : State :=
  ((s.floorTwins.forcedFans w).signalsEnd.loopsHeld w).each (List.range 4) fun c t =>
    if t.closing w c then
      let p := t.fld fSV_STAT_PHASE w c
      let q := t.fld fSV_STAT_PHASE (otherWarden w) c
      let on := fun (x : Nat) => decide (1 ≤ x) && decide (x ≤ 3)
      t.setFld fSV_STAT_PHASE w c (if on p then p else if on q then q else 1)
    else (t.setFld fSV_CMD_ON w c 0).svOff w c

/-- A rollback that runs starts again from its first step under a new active warden (R370). -/
def State.rollbackAgain (s : State) : State :=
  if 2 ≤ s.wfld fWD_EP_STAT_PHASE 0 ∧ s.wfld fWD_EP_STAT_PHASE 0 ≤ 4 then
    (s.setWfld fWD_EP_STAT_PHASE 0 2).each (List.range' 48 8) fun d t => t.setLat .rollingBack d 0 0
  else s

/-- The role passes to warden die `w` by takeover (R383, R386): its HEALTHY clears; a mirror out of date is
recorded; the host is told. `first` is what the new active warden records before the takeover (R388). -/
def State.takeover (s : State) (w : Nat) (first : State → State) : State :=
  let stale := !s.flag fWD_ROLE_MIRROR_OK (otherWarden w) 0
  let t := (((s.setFld fWD_ROLE_ACTIVE (otherWarden w) 0 0).setFld fWD_ROLE_ACTIVE w 0 1).setFld fWD_ROLE_HEALTHY w 0
    0).setFld fWD_ROLE_MIRROR_OK w 0 0
  let t := t.setFld fWD_ROLE_MIRROR_OK (otherWarden w) 0 0
  let t := (first t).rollbackAgain.wevent 0x7101 .warn 0x004 0
  let t := if stale then t.wevent 0x7107 .fault 0x004 0 else t
  ((t.forcedBegin w).hostDoorbell (w - 62) 8).tbRole w (otherWarden w) true

/-- The active warden's HEALTHY is 0: the role passes to the other warden when that one is HEALTHY (R383). -/
def State.checkRoleWith (s : State) (first : State → State) : State :=
  let a := s.aw
  if s.flag fWD_ROLE_ACTIVE a 0 && !s.flag fWD_ROLE_HEALTHY a 0 && s.flag fWD_ROLE_HEALTHY (otherWarden a) 0 then
    s.takeover (otherWarden a) first
  else first s

/-- `checkRoleWith` and nothing recorded first. -/
def State.checkRole (s : State) : State := s.checkRoleWith id

/-! ## Mailbox sides (R392, R398) -/

/-- Set a doorbell bit pending at a side. -/
def Side.bell (x : Side) (bit : Nat) : Side := { x with db := x.db ||| BitVec.ofNat 32 (2 ^ bit) }

/-- The receiver reset of side `me` whose other side is `other` (R398). -/
def receiverReset (me other : Side) : Side × Side :=
  let o1 : Side := { other with slot := [], outStatus := 3, wstat := if other.wstat = 1 then 4 else other.wstat }
  let o2 : Side := { o1 with db := o1.db &&& 0xFFFFFFFE }
  ({ me with db := 0, outStatus := 0, wstat := 0 }, o2.bell 1)

/-- The key of the compute-die side of die d's pair; the warden side's is the even number before it. -/
def cdSide (d : Nat) : Nat := 2 * d + 1

/-- The receiver reset of one side of pairs 0 to 2 (host↔WD-A, host↔WD-B, WD-A↔WD-B). -/
def State.resetSide (s : State) (k : Nat) : State :=
  let o := if k % 2 = 0 then k + 1 else k - 1
  let r := receiverReset (s.side k) (s.side o)
  let t := (s.setSide k r.1).setSide o r.2
  let t := if (o = 1 ∨ o = 3) ∧ bitOf r.2.mask 1 then (t.raiseMsix 0 (o / 2)).raiseMsix 1 (o / 2) else t
  t.wevent 0x7111 .note (0x010 + k / 4) k

/-- The receiver reset of the compute-die side of die d's pair. -/
def State.resetCdSide (s : State) (d : Nat) : State :=
  (s.updSticky fun k =>
    let r := receiverReset (sget Side.zero k.sides (cdSide d)) (sget Side.zero k.sides (2 * d))
    { k with sides := sset Side.zero (sset Side.zero k.sides (cdSide d) r.1) (2 * d) r.2 }).wevent 0x7111 .note
    (0x020 + d) d

/-- MB_CFG.EN of a compute-die side. -/
def Side.en (x : Side) : Bool := bitOf x.cfg 15

/-- The compute-die side's unmasked doorbells reach its spindle (R396, R401): held while the die is down. -/
def State.cdDeliver (s : State) (d : Nat) : State :=
  let x := sget Side.zero s.sticky.sides (cdSide d)
  if s.dieUp d ∧ x.db &&& x.mask ≠ 0 ∧ x.en then s.doorbell (32 * d + bitsOf x.cfg 4 0) (2 ^ bitsOf x.cfg 12 8) else s

/-! ## Locks (R404, R405) -/

/-- The owner code of a spindle's slot (Table WD-13). -/
def ownerSpindle (sp : Nat) : Nat := sp + 1

/-- Locks held by owners that `p` names become free, each with EV 0x7121 (R405). -/
def State.freeLocks (s : State) (p : Nat → Bool) : State :=
  s.each (List.range 64) fun i t =>
    let o := t.wfld fLK_LOCK_OWNER i
    if o ≠ 0 ∧ p o then (t.setWfld fLK_LOCK_OWNER i 0).wevent 0x7121 .note 0x060 (i + o * 2 ^ 32) else t

/-- The locks of spindles of a die. -/
def ownedByDie (d o : Nat) : Bool := decide (32 * d + 1 ≤ o) && decide (o ≤ 32 * d + 32)

/-! ## Flash tables (R538, Table RST-5) -/

/-- A copy is valid (R538): as manufactured, or with a right header and CRC-32, while VSTBY_OUT is in regulation
(R553). -/
def State.copyValid (s : State) (t : Nat) (bs : List Byte) : Bool :=
  s.lat .foldback 0 0 == 0 &&
    (bs.isEmpty ||
      (leValue (bs.take 4) == t + 2 ^ 16 && decide (32 ≤ bs.length) &&
        BitVec.ofNat 32 (leValue ((bs.drop 12).take 4)) == crc32 (bs.drop 32)))

/-- A copy's SEQ. -/
def copySeq (bs : List Byte) : Nat := leValue ((bs.drop 8).take 4)

/-- The copy of a table that a load takes (R538): 0 where it is as manufactured, else 1 or 2 for copy A or
B, the valid copy of higher SEQ; 3 where neither is valid. -/
def State.flashCopy (s : State) (t : Nat) : Nat :=
  let a := sget [] s.flash (2 * t)
  let b := sget [] s.flash (2 * t + 1)
  let pick := fun (c : Nat) (bs : List Byte) => if bs.isEmpty then 0 else c
  if s.copyValid t a then
    if s.copyValid t b then (if copySeq a < copySeq b then pick 2 b else pick 1 a) else pick 1 a
  else if s.copyValid t b then pick 2 b
  else 3

/-- The events of a table with no valid copy: each of its sections is rejected (R340, R347, R411, R448, R487,
R524), R538 and, for the firmware, R539. -/
def lostTableEvents (t : Nat) : List (Nat × Sev) :=
  (if t = 1 then [(0x7174, .fatal)] else (tableSections t).map fun x => (sectionEvent x, .fault)) ++ [(0x7172, .fault)]

/-- The other copy of the firmware, valid, where the one loaded (1 copy A, 2 copy B) did not lead to HEALTHY in 10 s (R539). -/
def State.fallbackCopy (s : State) (w : Nat) : Option Nat :=
  let a := s.copyValid 1 (sget [] s.flash 2)
  let b := s.copyValid 1 (sget [] s.flash 3)
  let c := s.fld fWD_FLASH_TBL_COPY w 0
  if s.lat .fwSince w 0 = 0 ∨ s.now + 1 < s.lat .fwSince w 0 + 10000000000 then none
  else if c = 1 ∧ b then some 2 else if c = 2 ∧ a then some 1 else none

/-- The firmware copy `c` is loaded into bank 0 of warden die `w` (R539): the bytes of one as manufactured stay those of an empty
bank. The 10 s for HEALTHY run from the first load of a copy. -/
def State.loadFirmware (s : State) (w c : Nat) : State :=
  let bs := if c = 1 ∨ c = 2 then (sget [] s.flash (c + 1)).drop 32 else []
  let t := s.setBytes (winBase w) (bs.take 262144)
  t.setLat .fwSince w 0 (s.now + 1)

/-- At a WDR, firmware that has not led to HEALTHY is replaced by the other copy where 10 s have passed, and its time runs on
otherwise (R539). -/
def State.retryFirmware (s : State) (w : Nat) (before : State) : State :=
  let since := before.lat .fwSince w 0
  match before.fallbackCopy w with
  | some c =>
    let t := (s.setFld fWD_FLASH_TBL_COPY w 0 c).setFld fWD_FLASH_TBL_SEQ w 0
      (if (sget [] s.flash (c + 1)).isEmpty then 0 else copySeq (sget [] s.flash (c + 1)))
    (t.loadFirmware w c).event 0x7175 .warn (unitId w 0) c
  | none => if since = 0 then s else s.setLat .fwSince w 0 since

/-- Load the class T fields of table `t` into warden die `w` (R538): its chapter's defaults where the copy is as
manufactured or none is valid, else the values its body stands for, section by section: one that breaks its chapter's range
rules is rejected whole and its defaults stand. Without firmware the warden never sets HEALTHY
(R539). -/
def State.loadTable (s : State) (w t : Nat) : State :=
  let c := s.flashCopy t
  let one := s.copyValid t (sget [] s.flash (2 * t)) != s.copyValid t (sget [] s.flash (2 * t + 1))
  let s := if one then s.event 0x7173 .warn (unitId w 0) t else s
  if c = 3 then
    let u := s.each (lostTableEvents t) fun x u => u.event x.1 x.2 (unitId w 0) t
    let u := (u.setFld fWD_FLASH_TBL_LOAD w (t - 1) 1).setFld fWD_FLASH_TBL_COPY w (t - 1) 0
    if t = 1 then u.setLat .noFirmware w 0 1 else u
  else
    let s := (s.setFld fWD_FLASH_TBL_LOAD w (t - 1) 0).setFld fWD_FLASH_TBL_COPY w (t - 1) (if c = 0 then 1 else c)
    let s := if t = 1 then (s.setLat .noFirmware w 0 0).loadFirmware w c else s
    if c = 0 then s
    else
      let bs := sget [] s.flash (2 * t + c - 1)
      let bad := s.badSections w t (bs.drop 32)
      let u := s.putImage w ((imageOf t (bs.drop 32)).filter fun x => !bad.contains (flashSection x.1))
      let u := u.each bad fun x u => u.event (sectionEvent x) .fault (unitId w 0) t
      let u := if bad.isEmpty then u else u.setFld fWD_FLASH_TBL_LOAD w (t - 1) 2
      u.setFld fWD_FLASH_TBL_SEQ w (t - 1) (copySeq bs)

/-- The node ID strap stays until the next POR (R491). -/
def State.putStraps (s : State) (w : Nat) : State :=
  let n := s.lat .straps 0 0 ^^^ 1
  (s.setFld fTB_STAT_NODE w 0 n).setFld fTB_STAT_NODE_BAD w 0 (if n = 0 ∨ n = 63 then 1 else 0)

/-- A warden loads its flash tables again: every class T field of its window, and what it keeps for the quarries. -/
def State.loadTables (s : State) (w : Nat) : State :=
  let t := s.resetRegs (fun r d _ => d == w && ((regDesc r).place.dLo == 62 || r == .QD_TEN)) fun c => c != .T
  (t.each [1, 2, 3, 4, 5, 6, 7, 8] fun k u => u.loadTable w k).setFld fWD_RET_STAT_FREE w 0 (1024 - s.retLog.length)

/-! ## WDR (R388, Table RST-1, Table RST-2) -/

/-- The reset kinds of WD_RST_STAT.KIND. -/
inductive RstKind where
  | por | pkg | wdr | die | spn | port
  deriving DecidableEq, Repr

/-- The code of a reset kind. -/
def RstKind.code : RstKind → Nat
  | .por => 1 | .pkg => 2 | .wdr => 3 | .die => 4 | .spn => 5 | .port => 6

/-- A reset is shown in WD_RST_STAT and recorded (R526). -/
def State.resetRan (s : State) (k : RstKind) (unit cause : Nat) : State :=
  ((s.setWfld fWD_RST_STAT_KIND 0 k.code).setWfld fWD_RST_STAT_CAUSE 0 cause).wevent 0x7180 .note 0
    (k.code + unit * 2 ^ 16 + cause * 2 ^ 32)

/-- Registers a WDR leaves alone: the role, the watchdog domain's leak register, the strap and the state of the timebase,
which runs on through it (R324, R381, R391, R416). -/
def wdrKeeps (r : Reg) : Bool :=
  match r with | .WD_ROLE | .WD_FORCE_LEAK | .FS_PRES | .WD_TIME_STAT => true | _ => false

/-- A WDR of warden die `w` (Table RST-2): its plain registers return to their reset values, its tables load
again, its SRAM is lost; its pending transmit buffers are stopped (R502); its mailbox sides take their receiver resets; its locks are freed in the other
warden; the role passes where the other warden is HEALTHY, and an expiry of its watchdog (cause 2) is recorded (R388). A
bring-up step that runs starts again (R544). -/
def State.wdr (s : State) (w cause : Nat) : State :=
  let t := (s.setFld fWD_ROLE_HEALTHY w 0 0).setFld fWD_ROLE_MIRROR_OK w 0 0
  let t := t.setFld fWD_ROLE_MIRROR_OK (otherWarden w) 0 0
  let t := t.resetRegs
    (fun r d _ => d == w && ((regDesc r).place.dLo == 62 || r == .DIE_SLACK) && !(regDesc r).place.shared && !wdrKeeps r)
    (fun c => c != .plain && c != .T)
  let t := ((t.dropWaits w).resetLats fun n d _ => d == w && wardenLats.any fun l => latId l == n).setLat .restarted w 0 1
  let t := t.clearBytes (0xF000000000000 + w * 0x100000000) 0x100000
  let t := (((t.putStraps w).loadTables w).retryFirmware w s).setFld fTB_STAT_SLOWDATA w 0 (t.fld fWD_TIME_STAT_ON_BACKUP w 0)
  let t := t.setFld fTB_STAT_TXEN w 0 (t.fld fWD_ROLE_ACTIVE w 0)
  let t := t.each ((List.range 32).filter fun b => s.fld fTB_TXB_CMD_STATUS w b == 1) fun b u => u.setFld fTB_TXB_CMD_STATUS w b 5
  let t := t.each ((List.range 4).filter fun c => s.closing w c) fun c u => u.setFld fSV_STAT_PHASE w c (s.fld fSV_STAT_PHASE w c)
  let t := if t.flag fWD_ROLE_ACTIVE w 0 then (t.forcedBegin w).setLat .stepSince 0 0 t.now else t
  let t := (t.resetSide (2 * (w - 62))).resetSide (4 + (w - 62))
  let t := t.checkRoleWith fun u => if cause = 2 then u.event 0x7102 .fault (unitId w 0x001) 0 else u
  let t := t.freeLocks fun o => o == 0x8010 + (w - 62)
  (t.setLat .kickAt w 0 t.now).resetRan .wdr (unitId w 0) cause

end Sys2Proof.Machine
end

