-- ==== Sys2Proof/Machine/Bank.lean ====
section
/-! DEFINITION. Memory banks (chapter 07): their power states and wakes, the clear of a bank, and the
writes of the bit aliases. -/

namespace Sys2Proof

open Sys2Proof.Machine

/-! ## Names -/

/-- The register of a bank's kind: compute die or warden. -/
def Bank.pick (b : Bank) (cd wd : Reg) : Reg := match b with | .pad _ _ => cd | .sram _ _ => wd

/-- The die of a bank. -/
def Bank.die : Bank → Nat
  | .pad sp _ => spDie sp
  | .sram w _ => 62 + w

/-- The index of the bank's register block. -/
def Bank.blk : Bank → Nat
  | .pad sp _ => spIdx sp
  | .sram _ _ => 0

/-- The bank's number. -/
def Bank.num : Bank → Nat
  | .pad _ k => k
  | .sram _ k => k

/-- The bank exists. -/
def Bank.ok : Bank → Bool
  | .pad sp k => decide (sp < nSpindles) && decide (k < 4)
  | .sram w k => decide (w < 2) && decide (k < 4)

/-- Bytes of a bank. -/
def Bank.size : Bank → Nat
  | .pad _ _ => 0x80000
  | .sram _ _ => 0x40000

/-- Package address of the bank's first byte. -/
def Bank.base : Bank → Nat
  | .pad sp k => padAddr sp (k * 0x80000)
  | .sram w k => sramAddr w (k * 0x40000)

end Sys2Proof

namespace Sys2Proof.Machine

/-- The bank of a byte of a scratchpad or a warden's SRAM. -/
def padBank (sp off : Nat) : Bank := .pad sp (off / 0x80000)
/-- The bank of a byte of a warden's SRAM. -/
def sramBank (w off : Nat) : Bank := .sram w (off / 0x40000)

/-- A field of the bank's registers. -/
def State.bnk (s : State) (b : Bank) (cd wd : Reg) (hi lo : Nat) : Nat := s.fld ⟨b.pick cd wd, hi, lo⟩ b.die b.blk

/-- Set a field of the bank's registers. -/
def State.setBnk (s : State) (b : Bank) (cd wd : Reg) (hi lo x : Nat) : State :=
  s.putFld ⟨b.pick cd wd, hi, lo⟩ b.die b.blk x

/-- Set a one-bit-per-bank status bit of BNK_STAT, whose field starts at bit `lo` (Table BNK-8). -/
def State.setBnkBit (s : State) (b : Bank) (lo : Nat) : State :=
  s.setBnk b .CD_BNK_STAT .WD_BNK_STAT (lo + b.num) (lo + b.num) 1

/-- A bank's requested state: BNK_PWR.REQ (Table BNK-7). -/
def State.bankReq (s : State) (b : Bank) : Nat := s.bnk b .CD_BNK_PWR .WD_BNK_PWR (2 * b.num + 1) (2 * b.num)

/-- Set a bank's requested state. -/
def State.setBankReq (s : State) (b : Bank) (x : Nat) : State :=
  s.setBnk b .CD_BNK_PWR .WD_BNK_PWR (2 * b.num + 1) (2 * b.num) x

/-- The state the bank itself has reached, kept in the ACT bits. -/
def State.bankOwn (s : State) (b : Bank) : Nat := s.bnk b .CD_BNK_PWR .WD_BNK_PWR (17 + 2 * b.num) (16 + 2 * b.num)

/-- Set the state the bank itself has reached. -/
def State.setBankOwn (s : State) (b : Bank) (x : Nat) : State :=
  s.setBnk b .CD_BNK_PWR .WD_BNK_PWR (17 + 2 * b.num) (16 + 2 * b.num) x

/-- The state of what powers the bank: its twin, or the warden, which is always on (R249, R254). -/
def State.bankSupply (s : State) (b : Bank) : Nat :=
  match b with
  | .pad sp _ => s.twinState (spDie sp) (s.twinOf sp)
  | .sram _ _ => 2

/-- BNK_PWR.ACT: the lower of the bank's own state and its twin's (R249). -/
def State.bankAct (s : State) (b : Bank) : Nat :=
  let o := s.bankOwn b
  let p := s.bankSupply b
  if p = 2 then o else min (if o = 3 then 2 else o) p

/-- CD_BNK_PWR as it reads. -/
def State.bankPwrShown (s : State) (sp : Nat) : W64 :=
  (List.range 4).foldl (fun v k => setBits v (17 + 2 * k) (16 + 2 * k) (s.bankAct (.pad sp k)))
    (s.reg .CD_BNK_PWR (spDie sp) (spIdx sp))

/-- A bank's contents are lost: they read zero from its next wake on (R253). -/
def State.clearBank (s : State) (b : Bank) : State := s.clearBytes b.base b.size

/-- A bank requested ON that is not ON starts its wake (R249, R252). -/
def State.bankWake (s : State) (b : Bank) : State :=
  if s.bankSupply b = 2 ∧ s.bankReq b = 2 ∧ s.bankOwn b < 2 then s.setBankOwn b 3 else s

/-- A bank's request to leave ON, or between RETAIN and OFF, takes effect (R251): not while it wakes. OFF loses
the contents. While the twin is OFF the bank is to enter its requested state on the twin's return; in RETAIN it can only
go lower (R249). -/
def State.bankSettle (s : State) (b : Bank) : State :=
  let o := s.bankOwn b
  let r := s.bankReq b
  if s.bankSupply b = 0 then s.setBankOwn b (if r = 2 then 3 else r)
  else if o = r ∨ o = 3 ∨ (s.bankSupply b = 1 ∧ r = 2) then s
  else if r = 2 then s.setBankOwn b 3
  else if r = 0 then (s.setBankOwn b 0).clearBank b
  else s.setBankOwn b 1

/-- A bank's wake has ended (R253). -/
def State.bankWoken (s : State) (b : Bank) : State :=
  if s.bankSupply b = 2 ∧ s.bankOwn b = 3 then s.setBankOwn b 2 else s

/-- The bank's unit in events. -/
def State.bankUnit (s : State) (b : Bank) : Nat :=
  match b with
  | .pad sp _ => s.spUnit sp
  | .sram w k => unitId (62 + w) k

/-- An event of a bank: a compute die's code, or a warden's. -/
def State.bankEvent (s : State) (b : Bank) (cd wd : Nat) (sev : Sev) (payload : Nat) : State :=
  match b with
  | .pad _ _ => s.event cd sev (s.bankUnit b) payload
  | .sram _ _ => s.event wd sev (s.bankUnit b) payload

/-- The requests that wait at a bank, in order of arrival. -/
def State.bankQueue (s : State) (b : Bank) : List BankWait := sget [] s.banks (Nat.pair b.die (b.blk * 4 + b.num))

/-- Set the requests that wait at a bank. -/
def State.setBankQueue (s : State) (b : Bank) (q : List BankWait) : State :=
  { s with banks := sset [] s.banks (Nat.pair b.die (b.blk * 4 + b.num)) q }

/-- A port of a scratchpad bank has an access: its idle handshakes are counted anew (R259). -/
def State.bankUsed (s : State) (b : Bank) : State :=
  match b with
  | .pad _ _ => s.setLat .bankIdle b.die (b.blk * 4 + b.num) 1
  | .sram _ _ => s

/-- What an access meets at a bank (R252): it is served; it is held until the bank has woken; its address is
unpopulated. -/
inductive BankAnswer where
  | serve
  | wait
  | absent
  deriving DecidableEq, Repr

/-- An access reaches a bank (R252, R254): a bank not ON, or in transition, is woken and holds the access;
Table BNK-15 has an event for a scratchpad bank's wake only. -/
def State.bankTouch (s : State) (b : Bank) : BankAnswer × State :=
  if s.bankSupply b ≠ 2 then (.absent, s)
  else if s.bankOwn b = 2 ∧ s.bankReq b = 2 then (.serve, s.bankUsed b)
  else
    let t := if s.bankReq b = 2 ∧ s.bankOwn b = 3 then s
      else match b with
        | .pad _ _ => ((s.setBankReq b 2).setBnkBit b 16).event 0x1142 .note (s.bankUnit b) b.num
        | .sram _ _ => (s.setBankReq b 2).setBnkBit b 16
    if t.bankOwn b = 2 then (.serve, t.bankUsed b) else (.wait, t.setBankOwn b 3)

/-- The line a test controller holds, as a bank and the line's number in it (R259). -/
def State.borrowedIn (s : State) (b : Bank) : Option Nat :=
  let v := s.lat .mtestLine b.die 0
  if v = 0 then none
  else
    let slot := (v - 1) / 8192
    let line := (v - 1) % 8192
    let per := b.size / 256
    if slot = b.blk ∧ line / per = b.num then some (line % per) else none

/-- The controller restores the line it holds (R262, R263). -/
def State.mtestRestore (s : State) (b : Bank) : State :=
  (s.setLat .mtestLine b.die 0 0).putFld (match b with
    | .pad _ _ => fCD_MTEST_STAT_BORROWED | .sram _ _ => fWD_MTEST_STAT_BORROWED) b.die 0 0

/-- An access to bytes of a bank restores a borrowed line they name (R262). -/
def State.bankName (s : State) (b : Bank) (off n : Nat) : State :=
  match s.borrowedIn b with
  | some l => if off / 256 ≤ l ∧ l ≤ (off + n - 1) / 256 then s.mtestRestore b else s
  | none => s

/-- An access to bytes of a bank (R252, R262): a borrowed line they name is restored first. -/
def State.bankReach (s : State) (b : Bank) (off n : Nat) : BankAnswer × State := (s.bankName b off n).bankTouch b

/-- Bytes written over old ones plainly or through an alias (R246, R247). -/
def aliasBytes (mode : Alias) (old new : List Byte) : List Byte :=
  match mode with
  | .plain => new
  | .setBits => (old.zip new).map fun x => x.1 ||| x.2
  | .clearBits => (old.zip new).map fun x => x.1 &&& ~~~x.2

/-- Write bytes of a memory through an alias or plainly. -/
def State.aliasWrite (s : State) (mode : Alias) (a : Nat) (bs : List Byte) : State :=
  s.setBytes a (aliasBytes mode (s.bytes a bs.length) bs)

end Sys2Proof.Machine
end

