-- ==== Sys2Proof/Machine/Flags.lean ====
section
/-! DEFINITION. The flags of the machine: a mortar lane's NaN, infinity and overflow flags and its residue
(R143 to R153, R161, R162), and the checks of a format-table entry (Table FMT-4). -/

namespace Sys2Proof.Machine

/-! ## Mortar lanes -/

/-- The signed value N of a lane. -/
def Lane.val (l : Lane) : Int := l.n.toInt

/-- NAN. -/
def Lane.nan (l : Lane) : Bool := bitOf l.flags 0
/-- PINF. -/
def Lane.pinf (l : Lane) : Bool := bitOf l.flags 1
/-- NINF. -/
def Lane.ninf (l : Lane) : Bool := bitOf l.flags 2
/-- OVF. -/
def Lane.ovf (l : Lane) : Bool := bitOf l.flags 3
/-- OVF_NEG. -/
def Lane.ovfNeg (l : Lane) : Bool := bitOf l.flags 4

/-- The residue of a 640-bit pattern: the sum of its bytes modulo 255 (R152). -/
def residue (n : BitVec 640) : Nat := n.toNat % 255

/-- The lane's stored residue agrees with its value (R153). -/
def Lane.consistent (l : Lane) : Bool := residue l.n == l.res

/-- The addend pattern's residue ρ(P) (R152): of the magnitude in units of 2^−298, and the sign. -/
def addendResidue (neg : Bool) (mag : Nat) : Nat := if neg then (256 - mag % 255) % 255 else mag % 255

/-- One accumulation of a finite addend of `x` units of 2^−298 (R144 to R146, R152). -/
def Lane.addFinite (l : Lane) (x : Int) : Lane :=
  if l.ovf then l
  else
    let v := l.val + x
    if v < -(2 ^ 639) then ⟨BitVec.ofNat 640 (2 ^ 639), l.flags ||| 0b11000, 128⟩
    else if 2 ^ 639 ≤ v then ⟨BitVec.ofNat 640 (2 ^ 639 - 1), (l.flags ||| 0b01000) &&& 0b01111, 127⟩
    else
      let p : BitVec 640 := BitVec.ofInt 640 x
      let c := if 2 ^ 640 ≤ l.n.toNat + p.toNat then 1 else 0
      ⟨l.n + p, l.flags, (l.res + addendResidue (decide (x < 0)) x.natAbs + 255 - c) % 255⟩

/-- One accumulation of a product or an element (R147): a value that is not finite sets a flag. -/
def Lane.accumulate (l : Lane) (v : FV) : Lane :=
  match v with
  | .nan => { l with flags := l.flags ||| 0b00001 }
  | .inf false => { l with flags := l.flags ||| 0b00010 }
  | .inf true => { l with flags := l.flags ||| 0b00100 }
  | .fin s n d => l.addFinite (signedNum s (n * 2 ^ 298 / d))

/-- Accumulate a list in order. -/
def Lane.accumulateAll (l : Lane) (vs : List FV) : Lane := vs.foldl Lane.accumulate l

/-- The logical lane of partial lanes (R161, R162): the exact sum and the OR of the flags, with the
direction of an overflow. -/
structure Combined where
  sum : Int
  nan : Bool
  pinf : Bool
  ninf : Bool
  ovf : Bool
  ovfNeg : Bool
  deriving DecidableEq, Repr

/-- Combine the partial lanes of a group (R162). -/
def combine (ls : List Lane) : Combined :=
  let sum := ls.foldl (fun a l => a + l.val) 0
  let os := ls.filter Lane.ovf
  let outside : Bool := decide (sum < -(2 ^ 639)) || decide (2 ^ 639 ≤ sum)
  ⟨sum, ls.any Lane.nan, ls.any Lane.pinf, ls.any Lane.ninf, !os.isEmpty || outside,
    if os.isEmpty then decide (sum < 0)
    else if os.all Lane.ovfNeg then true else if os.all fun l => !l.ovfNeg then false else decide (sum < 0)⟩

/-- The code a read-out gives (Table FMT-11, R150). -/
def readOut (f : Fmt) (rd : Rnd) (c : Combined) : Nat :=
  if c.nan || (c.pinf && c.ninf) then encodeVal f rd .nan
  else if c.pinf then encodeVal f rd (.inf false)
  else if c.ninf then encodeVal f rd (.inf true)
  else if c.ovf then (if c.ovfNeg then leastCode f else greatestCode f)
  else encodeVal f rd (.fin (decide (c.sum < 0)) c.sum.natAbs (2 ^ 298))

/-- The flags MFLAG reports of a lane (Table ISA-18). -/
def Lane.mflag (l : Lane) : Nat := l.flags.toNat % 16

/-! ## Format-table entries (Table FMT-4) -/

/-- The bits of an entry software writes (Table FMT-2). -/
def fmtWritable : Nat := masks [(64, 64), (43, 32), (22, 0)]

/-- The greatest and least non-zero magnitudes of the codes of an entry, exact. -/
def fmtReach (f : Fmt) : Option (FV × FV) :=
  (List.range (2 ^ f.width)).foldl (fun acc c =>
    match decodeVal f c with
    | .fin _ n d =>
      if n = 0 then acc
      else
        let v : FV := .fin false n d
        match acc with
        | none => some (v, v)
        | some (hi, lo) => some (if FV.lt false hi v then v else hi, if FV.lt false v lo then v else lo)
    | _ => acc) none

/-- The reach rule (R134). -/
def fmtReachOk (f : Fmt) : Bool :=
  match fmtReach f with
  | none => true
  | some (hi, lo) =>
    if f.block = 0 then FV.lt false hi (.fin false (2 ^ 128) 1) && !FV.lt false lo (.fin false 1 (2 ^ 149))
    else FV.lt false hi (.fin false (2 ^ 31) 1) && !FV.lt false lo (.fin false 1 (2 ^ 22))

/-- CHECK of an entry: the lowest failing check (Table FMT-4). BLOCK is read as a number, so its 8 bits never hold 256 (DEDUCED,
log 160). -/
def fmtCheck (e : W128) : Nat :=
  let f := fmtOfEntry e
  let sg := if f.signed then 1 else 0
  if ¬ (f.width = 4 ∨ f.width = 6 ∨ f.width = 8) then 1
  else if f.width < f.expw + sg then 2
  else if 3 < f.special ∨ (f.special = 1 ∧ f.expw < 1) ∨ (f.special = 2 ∧ (f.expw < 2 ∨ f.mant < 1)) ∨
      (f.special = 3 ∧ f.signed = false) ∨ (f.expw = 0 ∧ (f.special ≠ 0 ∨ f.denorm)) ∨ (f.sat ∧ f.special ≠ 2) then 3
  else if ¬ [0, 8, 16, 32, 64, 128, 256].contains f.block then 4
  else if bitsOf e 43 40 ≠ 0 then 5
  else if fmtReachOk f = false then 6
  else 0

/-- An entry after a write: CHECK and VALID follow (R132). -/
def fmtEvaluate (e : W128) : W128 :=
  let v := BitVec.ofNat 128 (e.toNat &&& fmtWritable)
  let c := fmtCheck v
  BitVec.ofNat 128 (v.toNat + c * 2 ^ 68 + (if bitOf v 64 ∧ c = 0 then 2 ^ 65 else 0))

end Sys2Proof.Machine
end

