-- ==== Sys2Proof/Machine/Quarry.lean ====
section
/-! DEFINITION. The quarries' data (chapter 06): regions and copies, where an address is served, lost blocks,
the skein, and plain reads and writes of slices and CXL memory. -/

namespace Sys2Proof.Machine

/-! ## Regions (Table QD-3, R199 to R202) -/

/-- A region descriptor. -/
structure Rgn where
  base : Nat
  rows : Nat
  rowlen : Nat
  opt : Nat
  policy : Nat
  nonEpoch : Bool
  shared : Bool
  owner : Nat
  cls : Nat
  fmtdef : Nat
  mbase : Nat
  deriving DecidableEq, Repr

/-- A descriptor read from its four words. -/
def rgnOfWords (w0 w1 w2 w3 : W64) : Rgn :=
  ⟨getBits w0 51 12 * 4096, getBits w1 30 0, getBits w1 38 32, getBits w1 41 40, getBits w1 45 44, bitOf w1 48,
    bitOf w1 49, getBits w1 54 52, getBits w2 3 0, getBits w3 43 0, getBits w2 51 12 * 4096⟩

/-- The region in a slot of quarry die `d`. -/
def State.rgn (s : State) (d k : Nat) : Rgn :=
  rgnOfWords (s.reg .QD_RGN0 d k) (s.reg .QD_RGN1 d k) (s.reg .QD_RGN2 d k) (s.reg .QD_RGN3 d k)

/-- The mirror entry of slot `k` held by quarry die `d`. -/
def State.mir (s : State) (d k : Nat) : Rgn :=
  rgnOfWords (s.reg .QD_MIR0 d k) (s.reg .QD_MIR1 d k) (s.reg .QD_MIR2 d k) (s.reg .QD_MIR3 d k)

/-- The element format of a class with a format definition (Table FMT-1, R202). -/
def fmtOfClass (cls fmtdef : Nat) : Fmt :=
  match cls with
  | 0 => fmtFP32 | 1 => fmtFP16 | 2 => fmtBF16 | 3 => fmtINT8 | 4 => fmtINT4
  | _ => fmtOfEntry (BitVec.ofNat 128 fmtdef)

/-- The region's element format. -/
def Rgn.fmt (r : Rgn) : Fmt := fmtOfClass r.cls r.fmtdef
/-- Bytes of a data row (R201). -/
def Rgn.dataLen (r : Rgn) : Nat := 64 * r.rowlen
/-- Elements of a data row (R201). -/
def Rgn.elems (r : Rgn) : Nat := r.dataLen * 2 / r.fmt.slot
/-- Round up to a multiple of 64. -/
def ceil64 (n : Nat) : Nat := (n + 63) / 64 * 64
/-- Bytes of a record before rounding (R201). -/
def Rgn.recLen (r : Rgn) : Nat :=
  r.dataLen + (match r.opt with | 1 => 4 | 2 => 8 * r.elems | _ => 0)
/-- The pitch (R201). -/
def Rgn.pitch (r : Rgn) : Nat := ceil64 r.recLen
/-- The region's size (R201). -/
def Rgn.size (r : Rgn) : Nat := r.rows * r.pitch
/-- POLICY includes parity. -/
def Rgn.parity (r : Rgn) : Bool := r.policy % 2 == 1
/-- POLICY includes mirror. -/
def Rgn.mirror (r : Rgn) : Bool := decide (2 ≤ r.policy)
/-- An address lies in the region. -/
def Rgn.has (r : Rgn) (a : Nat) : Bool := decide (r.base ≤ a) && decide (a < r.base + r.size)
/-- An address lies in the region's copy. -/
def Rgn.copyHas (r : Rgn) (a : Nat) : Bool := decide (r.mbase ≤ a) && decide (a < r.mbase + r.size)
/-- Bytes of the parity carve a parity region takes (R219). -/
def Rgn.paritySize (r : Rgn) : Nat := if r.parity then 256 * ((r.size + 767) / 768) else 0

/-- Region states (Table QD-16). -/
def State.rgnState (s : State) (d k : Nat) : Nat := s.fld fQD_RGN_INFO_STATE d k
/-- The state of a mirror entry. -/
def State.mirState (s : State) (d k : Nat) : Nat := s.fld fQD_MIR_INFO_STATE d k
/-- Slots in use. -/
def State.rgnSlots (s : State) (d : Nat) : List Nat := (List.range 256).filter fun k => s.rgnState d k != 0
/-- Mirror entries in use. -/
def State.mirSlots (s : State) (d : Nat) : List Nat := (List.range 256).filter fun k => s.mirState d k != 0
/-- The region's copy is current. -/
def State.mirrorOk (s : State) (d k : Nat) : Bool := (s.rgn d k).mirror && s.flag fQD_RGN_INFO_MIRROR_OK d k
/-- The die of a quarry's mirror partner. -/
def State.partner (s : State) (d : Nat) : Nat := 48 + s.fld fQD_CFG_PARTNER d 0

/-- A region handle (Table QD-2). -/
def State.handleOf (s : State) (d k : Nat) : Nat := s.pkg * 2 ^ 52 + (d - 48) * 2 ^ 8 + k
/-- The quarry die a handle names. -/
def handleDie (h : Nat) : Nat := 48 + h / 2 ^ 8 % 8
/-- The slot a handle names. -/
def handleSlot (h : Nat) : Nat := h % 256

/-- First package address of a quarry die's slice (R37). -/
def sliceBase (d : Nat) : Nat := (d - 48) * 0x2400000000
/-- Bytes of a slice. -/
def sliceSize : Nat := 0x2400000000
/-- The quarry die whose slice holds an HBM address. -/
def sliceDie (a : Nat) : Nat := 48 + a / 0x2400000000

/-- The table engine's unit (Table FL-11). -/
def engineUnit (d : Nat) : Nat := unitId d 0x200
/-- A pseudo-channel's unit. -/
def pcUnit (d p : Nat) : Nat := unitId d (0x100 + p)

/-! ## Where an address is served (R223, R225, R235) -/

/-- A quarry is there to serve. -/
def State.quarryUp (s : State) (d : Nat) : Bool := s.dieUp d && s.lat .quarryLost d 0 == 0

/-- The region of a lost quarry that its partner serves at an HBM address: the partner's die and the mirror
entry (R225). -/
def State.servedAt (s : State) (a : Nat) : Option (Nat × Nat) :=
  let d := sliceDie a
  (List.range 256).findSome? fun k =>
    let p := s.lat .servedBy d k
    if p ≠ 0 ∧ (s.mir (p - 1) k).has a then some (p - 1, k) else none

/-- The region that holds an address: its quarry die and slot. A CXL address may lie in a cold region of any
quarry (R235). -/
def State.regionAt (s : State) (a : Nat) : Option (Nat × Nat) :=
  let ds := if a < 0x12000000000 then [sliceDie a] else List.range' 48 8
  ds.findSome? fun d => ((s.rgnSlots d).find? fun k => (s.rgn d k).has a).map fun k => (d, k)

/-! ## Lost blocks (R194, R219, R227, R228) -/

/-- The channel (32 * stack + pseudo-channel) of an offset in a slice (R194). -/
def pcOf (o : Nat) : Nat := o / 256 % 4 * 32 + o / 1024 % 32

/-- The channels of the four blocks of stripe `j` of a parity region at slice offset `o` (R219): three data
blocks and the parity block. -/
def stripePcs (o j : Nat) : List Nat :=
  [pcOf (o + 768 * j), pcOf (o + 768 * j + 256), pcOf (o + 768 * j + 512),
    (3 * j + 3) % 4 * 32 + (o + 768 * j) / 1024 % 32]

/-- Retired channels of a quarry whose blocks are not all rebuilt, each with the slice offset below which they stand in the
spare carve (R228). -/
def State.pcsDown (s : State) (d : Nat) : List (Nat × Nat) :=
  ((List.range 128).filter fun p => s.flag fQD_PC_RETIRED d p && !s.flag fQD_PC_REBUILT d p).map fun p => (p, s.lat .pcReach d p)

/-- The other blocks of the stripe of the block at slice offset `o` stand, with stripes counted from `b` and some channels
out (R221). -/
def stripeStands (out : List (Nat × Nat)) (b o : Nat) : Bool :=
  !(stripePcs b ((o - b) / 768)).any fun c => c != pcOf o && out.any fun x => x.1 == c && decide (x.2 ≤ o)

/-- A shield covers a slice offset. -/
def Shield.has (h : Shield) (o : Nat) : Bool := decide (h.off ≤ o) && decide (o < h.off + h.len)

/-- A byte of the slice block at offset `o`, in the other copy. -/
def Shield.other (h : Shield) (o : Nat) : Nat := h.base + (o - h.off)

/-- The event concerns the block at an HBM address: its channel, in the spans named. -/
def PcLoss.hits (x : PcLoss) (a : Nat) : Bool :=
  let o := a - sliceBase x.die
  x.die == sliceDie a && x.pc == pcOf o &&
    match x.only with
    | none => true
    | some l => l.any fun r => decide (r.1 ≤ o) && decide (o < r.1 + r.2)

/-- The block of an HBM address is lost by a list of events, the newest first, since its last write (R227, R228): a channel's loss
takes it where neither its stripe nor the other copy can rebuild it; a copy holds what its source held. -/
def lostBy (mended : SMap Nat) : List BlockEvent → Nat → Bool
  | [], _ => false
  | x :: older, a =>
    if older.length < sget 0 mended (a / 256) then false
    else match x with
      | .copied dst src len => if dst ≤ a ∧ a < dst + len then lostBy mended older (src + (a - dst)) else lostBy mended older a
      | .channel c =>
        (c.hits a && !c.shields.any fun h =>
          h.has (a - sliceBase c.die) &&
            if h.copy then !lostBy mended older (h.other (a - sliceBase c.die))
            else stripeStands c.others h.base (a - sliceBase c.die)) ||
          lostBy mended older a

/-- The block of an HBM address is lost. -/
def State.isLost (s : State) (a : Nat) : Bool := lostBy s.mended s.losses (a / 256 * 256)

/-- The block's channel is retired and the block not rebuilt: each read rebuilds it (R221, R228). -/
def State.degradedAt (s : State) (a : Nat) : Bool :=
  let d := sliceDie a
  let o := a - sliceBase d
  s.flag fQD_PC_RETIRED d (pcOf o) && !s.flag fQD_PC_REBUILT d (pcOf o) && decide (s.lat .pcReach d (pcOf o) ≤ o)

/-- A copy held for another quarry is current, and that quarry there. -/
def State.copyCurrent (s : State) (d k : Nat) : Bool :=
  let e := sliceDie (s.mir d k).base
  s.quarryUp e && s.mirrorOk e k && s.partner e == d

/-- What rebuilds the blocks of a slice (R219, R224, R227): the stripes of a parity region and its current copy; of a copy its own
stripes, or else the primary. -/
def State.shields (s : State) (d : Nat) : List Shield :=
  ((s.rgnSlots d).flatMap fun k =>
    let r := s.rgn d k
    let o := r.base - sliceBase d
    if 0x12000000000 ≤ r.base then []
    else (if r.parity then [(⟨o, r.size, false, o⟩ : Shield)] else []) ++
      (if s.mirrorOk d k && s.quarryUp (s.partner d) then [(⟨o, r.size, true, r.mbase⟩ : Shield)] else [])) ++
  ((s.mirSlots d).flatMap fun k =>
    let r := s.mir d k
    let o := r.mbase - sliceBase d
    if r.parity then [(⟨o, r.size, false, o⟩ : Shield)]
    else if s.copyCurrent d k then [(⟨o, r.size, true, r.base⟩ : Shield)] else [])

/-- The spans of a slice that are protected: offset, length, and whether parity blocks go with them (R219, R227). -/
def State.guarded (s : State) (d : Nat) : List (Nat × Nat × Bool) :=
  ((s.rgnSlots d).filter fun k => decide ((s.rgn d k).base < 0x12000000000) && ((s.rgn d k).parity || s.mirrorOk d k)).map
    (fun k => ((s.rgn d k).base - sliceBase d, (s.rgn d k).size, (s.rgn d k).parity)) ++
  (s.mirSlots d).map fun k => ((s.mir d k).mbase - sliceBase d, (s.mir d k).size, (s.mir d k).parity)

/-! ## Flawed fragments (R195, R280) -/

/-- The error a fragment holds: 1 correctable, 2 uncorrectable, or poison of CXL memory. -/
def State.flaw (s : State) (a : Nat) : Nat := sget 0 s.flaws (a / 64)

/-- A fragment comes to hold an error. -/
def State.setFlaw (s : State) (a x : Nat) : State := { s with flaws := sset 0 s.flaws (a / 64) x }

/-- A write makes the lost blocks it touches valid (R228), and the fragments it writes whole hold no error. -/
def State.mend (s : State) (a n : Nat) : State :=
  let t := { s with flaws := s.flaws.filter fun x => !(decide (a ≤ 64 * x.1) && decide (64 * x.1 + 64 ≤ a + n)) }
  if s.losses.isEmpty || decide (0x12000000000 ≤ a) then t
  else t.each (List.range ((a % 256 + n + 255) / 256)) fun i u => { u with mended := sset 0 u.mended (a / 256 + i) u.losses.length }

/-- What rebuilds the fragment at an HBM address: the stripe where its other blocks stand, else the other copy (R221, R224). -/
def State.rebuilder (s : State) (a : Nat) : Option Shield :=
  let d := sliceDie a
  let o := a - sliceBase d
  (s.shields d).find? fun h => h.has o &&
    if h.copy then s.quarryUp (sliceDie (h.other o)) && !s.isLost (h.other o) && s.flaw (h.other o) != 2
    else stripeStands (s.pcsDown d) h.base o && [1, 2].all fun i =>
      let b := h.base + (o - h.base) / 768 * 768 + ((o - h.base) / 256 + i) % 3 * 256
      s.flaw (sliceBase d + b + o % 256) != 2

/-- The fragment at an address can be read: its block stands or its other copy does, and no error or poison stops it (R195,
R221, R224, R280, R281). -/
def State.fragOk (s : State) (a : Nat) : Bool :=
  if a < 0x12000000000 then !s.isLost a && (s.flaw a != 2 || (s.rebuilder a).isSome)
  else
    let p := (a - 0x40000000000) / 0x20000000000
    s.dieUp (60 + p / 2) && s.fld fCX_PORT_STAT_STATE (60 + p / 2) (p % 2) == 2 && s.flaw a != 2

/-! ## The skein (R229 to R234) -/

/-- The records of a quarry, oldest first. -/
def State.skein (s : State) (d : Nat) : List SkeinRec := sget [] s.skeins d

/-- Set a quarry's records. -/
def State.setSkein (s : State) (d : Nat) (l : List SkeinRec) : State := { s with skeins := sset [] s.skeins d l }

/-- Record space used: 64 + LEN bytes a record (Table QD-7). -/
def skeinUsed (l : List SkeinRec) : Nat := l.foldl (fun n r => n + 64 + r.bytes.length) 0

/-- The skein's record capacity in bytes (R197). -/
def State.skeinCap (s : State) (d : Nat) : Nat := s.fld fQD_CARVE_SKEIN_GIB d 0 * 2 ^ 30

/-- Records of `n` logged bytes in all, `c` of them, fit (R230). -/
def State.skeinFits (s : State) (d c n : Nat) : Bool :=
  decide (skeinUsed (s.skein d) + 64 * c + n ≤ s.skeinCap d)

/-- The next record does not fit: changes to epoch regions stall (R230). -/
def State.skeinFull (s : State) (d : Nat) : State :=
  let t := s.setFld fQD_SKEIN_STAT_FULL d 0 1
  if t.lat .fullSeen d 0 = 0 then (t.setLat .fullSeen d 0 1).event 0x2140 .warn (engineUnit d) 0 else t

/-- The watermark is passed for the first time in an epoch (R231). -/
def State.skeinMark (s : State) (d : Nat) : State :=
  let pct := s.fld fQD_SKEIN_WM_PCT d 0
  if pct ≠ 0 ∧ s.lat .markSeen d 0 = 0 ∧ pct * s.skeinCap d < 100 * skeinUsed (s.skein d) then
    let t := (s.setLat .markSeen d 0 1).event 0x2141 .note (engineUnit d) 0
    if s.flag fQD_SKEIN_WM_DBE d 0 then
      (t.ring d (engineUnit d) (s.reg .QD_SKEIN_WM_TGT d 0) (2 ^ s.fld fQD_SKEIN_WM_DBBIT d 0)).getD t
    else t
  else s

/-- Append a record (R229). -/
def State.skeinAppend (s : State) (d handle place : Nat) (frag : Bool) (bytes : List Byte) : State :=
  let q := s.lat .skeinSeq d 0
  ((s.setSkein d (s.skein d ++ [⟨q, (s.reg .QD_SKEIN_EPOCH d 0).toNat, handle, place, frag, bytes⟩])).setLat
    .skeinSeq d 0 (q + 1)).skeinMark d

/-- Changes wait for a quiesce (R233). -/
def State.quiescing (s : State) (d : Nat) : Bool :=
  s.flag fQD_SKEIN_STAT_QUIESCED d 0 || s.lat .quiesceDue d 0 != 0

/-- A quarry in RETAIN holds requests (Table RST-4). -/
def State.dieRetained (s : State) (d : Nat) : Bool := s.wfld fWD_DIE_PWR_ACT d == 1

/-- The quarry holds unmirrored epoch data (R234): in one of its slots, or with records of a region it holds in a mirror entry and
serves for a lost quarry. -/
def State.unmirrored (s : State) (d : Nat) : Bool :=
  ((s.rgnSlots d).any fun k => !(s.rgn d k).nonEpoch && !s.mirrorOk d k) ||
    (s.skein d).any fun r => s.lat .servedBy (handleDie r.handle) (handleSlot r.handle) == d + 1 && !(s.mir d (handleSlot r.handle)).nonEpoch

/-! ## Where a region's bytes stand -/

/-- The quarry dies that hold a region's bytes with the base there: for the region of die `d`, slot `k`, the
primary and a current copy, or the copy alone that its partner serves. -/
def State.homes (s : State) (d k : Nat) : List (Nat × Nat) :=
  let p := s.lat .servedBy d k
  if p ≠ 0 then [(p - 1, (s.mir (p - 1) k).mbase)]
  else (d, (s.rgn d k).base) :: (if s.mirrorOk d k then [(s.partner d, (s.rgn d k).mbase)] else [])

/-- The descriptor of a region of die `d`, slot `k`, wherever it is served. -/
def State.rgnServed (s : State) (d k : Nat) : Rgn :=
  let p := s.lat .servedBy d k
  if p ≠ 0 then s.mir (p - 1) k else s.rgn d k

/-- Write bytes at a byte offset of a region in every home of it, mending what they cover. -/
def State.rgnWrite (s : State) (d k off : Nat) (bs : List Byte) : State :=
  s.each (s.homes d k) fun h t => (t.setBytes (h.2 + off) bs).mend (h.2 + off) bs.length

/-- Read bytes at a byte offset of a region. -/
def State.rgnRead (s : State) (d k off n : Nat) : List Byte :=
  match s.homes d k with
  | h :: _ => s.bytes (h.2 + off) n
  | [] => []

/-- Split a range at the multiples of 64. -/
def pieces (a n : Nat) : List (Nat × Nat) :=
  (List.range ((a % 64 + n + 63) / 64)).map fun i =>
    let lo := max a (a / 64 * 64 + 64 * i)
    (lo, min (a + n) (a / 64 * 64 + 64 * i + 64) - lo)

/-- Every fragment of a part of a region can be read (R212, R228, R235). -/
def State.rgnReadable (s : State) (d k off n : Nat) : Bool :=
  match s.homes d k with
  | h :: _ => (decide (0x12000000000 ≤ h.2) || s.quarryUp h.1) && (pieces (h.2 + off) n).all fun p => s.fragOk p.1
  | [] => false

/-- The homes of a region take writes (R212, R281): each quarry is there, and the port of a cold region MAPPED. -/
def State.rgnWritable (s : State) (d k : Nat) : Bool :=
  (s.homes d k).all fun h =>
    s.quarryUp h.1 && (decide (h.2 < 0x12000000000) ||
      let p := (h.2 - 0x40000000000) / 0x20000000000
      s.dieUp (60 + p / 2) && s.fld fCX_PORT_STAT_STATE (60 + p / 2) (p % 2) == 2)

/-- Records of old bytes are due in the skeins of a region's homes; a cold region's go to its quarry. -/
def State.loggers (s : State) (d k : Nat) : List Nat :=
  (s.homes d k).map fun h => h.1

/-- A skein takes a record of `n` bytes: it is not FULL, and the record fits (R230). -/
def State.skeinTakes (s : State) (q n : Nat) : Bool := !s.flag fQD_SKEIN_STAT_FULL q 0 && s.skeinFits q 1 n

/-- The record of a change of `n` bytes is taken by every skein that logs it. -/
def State.logFits (s : State) (d k n : Nat) : Bool := (s.loggers d k).all fun q => s.skeinTakes q n

/-- Log old bytes of a region in every skein of its homes. -/
def State.logOld (s : State) (d k place : Nat) (frag : Bool) (bytes : List Byte) : State :=
  s.each (s.loggers d k) fun q t => t.skeinAppend q (t.handleOf d k) place frag bytes

/-- Stall: FULL in every skein whose next record does not fit. -/
def State.logStall (s : State) (d k n : Nat) : State :=
  s.each (s.loggers d k) fun q t => if t.skeinTakes q n then t else t.skeinFull q

/-! ## Engine slots (R236, Table QD-8) -/

/-- Slots completed by a quarry's engine, in thirds of a slot. -/
def State.slots (s : State) (d n3 : Nat) : State :=
  let t := s.lat .slotThird d 0 + n3
  (s.setLat .slotThird d 0 (t % 3)).setReg .QD_ENG_SLOTS d 0 (s.reg .QD_ENG_SLOTS d 0 + BitVec.ofNat 64 (t / 3))

/-- Blocks rebuilt on read (R221). -/
def State.rebuilt (s : State) (d n : Nat) : State :=
  s.setReg .QD_ENG_DEGRADED d 0 (s.reg .QD_ENG_DEGRADED d 0 + BitVec.ofNat 64 n)

/-- The slots of a change of `k` fragments of a region beside what is read first (Table QD-8): each home writes them, with parity
reads and writes it too, and appends the record of `log` fragments where there is one. The partner's engine reads its own old data
for its parity. CXL memory costs no slot. -/
def State.spendChange (s : State) (d k : Nat) (r : Rgn) (n : Nat) (log : Option Nat) : State :=
  s.each (s.homes d k) fun h t =>
    let writes := if 0x12000000000 ≤ h.2 then 0 else if r.parity then (if h.1 = d ∨ s.lat .servedBy d k ≠ 0 then 9 else 12) else 3
    t.slots h.1 (n * writes + match log with | some m => 4 * m + 4 | none => 0)

/-! ## Plain accesses (R195, R198, R218, R223) -/

/-- Where a plain access to one fragment ends. -/
inductive Site where
  /-- A fragment of a region: the quarry die and slot of its handle, and the byte offset in the region. -/
  | region (d k off : Nat)
  /-- Memory outside every region. -/
  | free
  /-- It is not served. -/
  | bad (st : Status)
  deriving DecidableEq, Repr

/-- Where a plain access to an HBM or CXL address ends. -/
def State.site (s : State) (a : Nat) : Site :=
  if a < 0x12000000000 then
    let d := sliceDie a
    match s.servedAt a with
    | some (p, k) => if s.quarryUp p then .region d k (a - (s.mir p k).base) else .bad .dieLost
    | none =>
      if s.lat .quarryLost d 0 = 2 then .bad .dataLost
      else if !s.quarryUp d then .bad .dieLost
      else if s.dieRetained d then .bad .held
      else if (s.reg .QD_OPEN_TOP d 0).toNat ≤ a ∨ (s.mirSlots d).any fun k => (s.mir d k).copyHas a then
        .bad .unsupported
      else match s.regionAt a with
        | some (e, k) => if s.rgnState e k = 1 then .bad .held else .region e k (a - (s.rgn e k).base)
        | none => .free
  else
    match s.regionAt a with
    | some (e, k) => if s.rgnState e k = 1 then .bad .held else .region e k (a - (s.rgn e k).base)
    | none => .free

/-- The CXL port of an address. -/
def cxlPort (a : Nat) : Nat := (a - 0x40000000000) / 0x20000000000

/-- The CXL port is LOST (R281). -/
def State.cxlLost (s : State) (p : Nat) : Bool := s.fld fCX_PORT_STAT_STATE (60 + p / 2) (p % 2) == 4

/-- The unit of the port of a CXL address. -/
def cxlUnitAt (a : Nat) : Nat := unitId (60 + cxlPort a / 2) (0x10 + cxlPort a)

/-- A write to a LOST port's slice is discarded, and recorded once per entry into LOST (R281). -/
def State.cxlDiscard (s : State) (a : Nat) : State :=
  if s.cxlLost (cxlPort a) ∧ s.lat .cxlWrote (cxlPort a) 0 = 0 then
    (s.setLat .cxlWrote (cxlPort a) 0 1).event 0x3403 .fault (cxlUnitAt a) a
  else s

/-- A fragment is read: its status and bytes. -/
def State.readPiece (s : State) (a n : Nat) : Status × List Byte :=
  match s.site a with
  | .bad st => (st, [])
  | .free => if s.fragOk a then (.ok, s.bytes a n) else (.dataLost, [])
  | .region d k off => if s.rgnReadable d k off n then (.ok, s.rgnRead d k off n) else (.dataLost, [])

/-- A read of HBM or CXL memory: the status of the first fragment that is not served, else the bytes. -/
def State.readSlow (s : State) (a n : Nat) : Status × List Byte :=
  (pieces a n).foldl (fun acc (p : Nat × Nat) =>
    if acc.1 ≠ .ok then acc
    else
      let r := s.readPiece p.1 p.2
      if r.1 = .ok then (.ok, acc.2 ++ r.2) else (r.1, [])) (.ok, [])

end Sys2Proof.Machine
end

