-- ==== Sys2Proof/Machine/Channels.lean ====
section
/-! DEFINITION. The loss of a pseudo-channel (R227, R228): which of its blocks the spare carve takes, which are rebuilt on each
read, and which are lost. -/

namespace Sys2Proof.Machine

/-- The place of a channel in the rotation of 256-byte blocks (R194). -/
def pcTurn (p : Nat) : Nat := p % 32 * 4 + p / 32

/-- The lowest block offset from `o` on that lies on channel `p`. -/
def firstOn (p o : Nat) : Nat :=
  let b := (o + 255) / 256
  (b + (pcTurn p + 128 - b % 128) % 128) * 256

/-- Blocks of a span of a slice on channel `p`. -/
def blocksOn (p o n : Nat) : Nat :=
  ((o + n + 255) / 256 + 127 - pcTurn p) / 128 - (o / 256 + 127 - pcTurn p) / 128

/-- Parity blocks of the first `n` stripes of a region at offset `o` on channel `p` (R219). -/
def parityOn (p o n : Nat) : Nat :=
  let hit := fun (m : Nat) => ((List.range m).filter fun j => (stripePcs o j)[3]? == some p).length
  n / 128 * hit 128 + hit (n % 128)

/-! ## The spare carve (R228) -/

/-- A span in its place by offset. -/
def insertSpan (x : Nat × Nat × Bool) : List (Nat × Nat × Bool) → List (Nat × Nat × Bool)
  | [] => [x]
  | y :: l => if x.1 ≤ y.1 then x :: y :: l else y :: insertSpan x l

/-- How far the rebuild of channel `p` comes with room for `room` blocks: the blocks placed, the slice offset it reached, and whether
it ended. It goes up the slice in groups of 128 stripes of a span, parity blocks with their stripes (DESIGN CHOICE: the spec gives
no order). -/
def spareWalk (p : Nat) : List (Nat × Nat × Bool) → Nat → Nat → Nat × Nat × Bool
  | [], _, n => (n, sliceSize, true)
  | (o, l, par) :: xs, room, n =>
    let c := blocksOn p o l + if par then parityOn p o ((l + 767) / 768) else 0
    if c ≤ room then spareWalk p xs (room - c) (n + c)
    else
      let per := 3 + if par then parityOn p o 128 else 0
      (n + room / per * per, o + room / per * 98304, false)

/-- Blocks of the skein's records on a channel. -/
def State.skeinOn (s : State) (d p : Nat) : Nat :=
  blocksOn p (sliceSize - s.skeinCap d - (s.fld fQD_CARVE_SKEIN_GIB d 0 + 2) / 3 * 2 ^ 30) (skeinUsed (s.skein d))

/-- What the spare carve takes of a channel's blocks beside those it holds: the skein's records last. -/
def State.spareTakes (s : State) (d p : Nat) : Nat × Nat × Bool :=
  let room := s.fld fQD_CARVE_SPARE_GIB d 0 * 2 ^ 22 - (List.range 128).foldl (fun n q => n + s.lat .pcKept d q) 0
  let w := spareWalk p ((s.guarded d).foldr insertSpan []) room 0
  let k := s.skeinOn d p
  if !w.2.2 then w else if w.1 + k ≤ room then (w.1 + k, sliceSize, true) else (w.1, sliceSize, false)

/-! ## Blocks that cannot be rebuilt (R228) -/

/-- The lowest block of a span newly lost, on some channels: what decides repeats every 128 stripes between the points where a
rebuild stopped, here and at the other copy, at package address `c`. -/
def State.firstLost (s before : State) (d : Nat) (ps : List Nat) (o n c : Nat) : Option Nat :=
  let marks := o :: (s.pcsDown d).map (·.2) ++ (s.pcsDown (sliceDie c)).map fun x => x.2 + o - (c - sliceBase (sliceDie c))
  lowest ((marks.filter fun m => decide (o ≤ m) && decide (m < o + n)).flatMap fun m => ps.flatMap fun p =>
    ([0, 1, 2].map fun i => firstOn p m + 32768 * i).filter fun b =>
      decide (b < o + n) && s.isLost (sliceBase d + b) && !before.isLost (sliceBase d + b))

/-- Regions and copies that hold a block newly lost are DAMAGED, and the first lost address recorded; `opened` is the first
lost block of open memory. -/
def State.noteLosses (s before : State) (d : Nat) (ps : List Nat) (opened : Option Nat) : State :=
  let hits := (s.rgnSlots d).filterMap fun k =>
    if 0x12000000000 ≤ (s.rgn d k).base then none
    else (s.firstLost before d ps ((s.rgn d k).base - sliceBase d) (s.rgn d k).size (s.rgn d k).mbase).map fun o => (k, o)
  let copies := (s.mirSlots d).filterMap fun k =>
    (s.firstLost before d ps ((s.mir d k).mbase - sliceBase d) (s.mir d k).size (s.mir d k).base).map fun o => (k, o)
  let t := s.each hits fun x u => match u.rgnState d x.1 with
    | 1 => u.setLat .rgnHurt d x.1 1
    | 5 => u
    | _ => u.setFld fQD_RGN_INFO_STATE d x.1 4
  let t := t.each copies fun x u => if u.mirState d x.1 = 1 then u else u.setFld fQD_MIR_INFO_STATE d x.1 4
  match lowest (opened.toList ++ hits.map (·.2) ++ copies.map (·.2)) with
  | some o => t.event 0x2103 .fault (pcUnit d (ps.head?.getD 0)) (sliceBase d + o)
  | none => t

/-- The lowest lost block of open memory and unprotected regions on channel `p`. -/
def firstOpen (p top : Nat) (safe : List Shield) : Nat → Nat → Option Nat
  | 0, _ => none
  | n + 1, o =>
    let b := firstOn p o
    if top ≤ b then none
    else match safe.find? fun h => h.has b with
      | some h => firstOpen p top safe n (h.off + h.len)
      | none => some b

/-- A pseudo-channel is retired (R227, R228). -/
def State.retirePc (s : State) (d p : Nat) : State :=
  let others := (s.pcsDown d).filter fun q => q.1 != p
  let safe := s.shields d
  let w := s.spareTakes d p
  let t := (s.setFld fQD_PC_RETIRED d p 1).incFld fQD_HBM_PC_LOST d (p / 32) 1
  let t := if t.fld fQD_HBM_PC_LOST d (p / 32) = 32 then t.setFld fQD_HBM_RATE d (p / 32) 3 else t
  let t := t.event 0x2104 .fault (pcUnit d p) 0
  let es := others.map (fun q => BlockEvent.channel ⟨d, q.1, some ((s.guarded d).map fun x => (x.1, x.2.1)), safe, [(p, 0)]⟩) ++
    [.channel ⟨d, p, none, safe, others⟩]
  let t : State := { t with losses := es ++ t.losses }
  let t := t.setLat .pcKept d p w.1
  let t := if w.2.2 then t.setLat .pcFits d p 1 else (t.setLat .pcReach d p w.2.1).event 0x2106 .warn (pcUnit d p) 0
  t.noteLosses s d (p :: others.map (·.1)) (firstOpen p ((s.reg .QD_OPEN_TOP d 0).toNat - sliceBase d) safe (safe.length + 1) 0)

/-- The channels of quarry `d` that are out lose what a lost quarry held for their blocks: copies, or the primaries of copies
(R226, R227). -/
def State.sourcesGone (s before : State) (d : Nat) : State :=
  let ps := before.pcsDown d
  if ps.isEmpty then s
  else
    let es := ps.map fun q =>
      BlockEvent.channel ⟨d, q.1, some ((before.guarded d).map fun x => (x.1, x.2.1)), s.shields d, ps.filter fun x => x.1 != q.1⟩
    ({ s with losses := es ++ s.losses } : State).noteLosses before d (ps.map (·.1)) none

end Sys2Proof.Machine
end

