-- ==== Sys2Proof/Machine/Mesh.lean ====
section
/-! DEFINITION. The package mesh (R16 to R22): the place of every die, links and stops, distances. -/

namespace Sys2Proof.Machine

/-- The die at each mesh coordinate, row by row (Table FL-1). -/
def meshGrid : List Nat :=
  [56, 0, 1, 2, 3, 4, 5, 57, 6, 48, 7, 8, 9, 10, 49, 11, 12, 13, 14, 15, 16, 17, 18, 19, 60, 20, 50, 21, 22, 51, 23, 62,
    61, 24, 52, 25, 26, 53, 27, 63, 28, 29, 30, 31, 32, 33, 34, 35, 36, 54, 37, 38, 39, 40, 55, 41, 58, 42, 43, 44, 45,
    46, 47, 59]

/-- The place of a die in the grid: 8 * row + column (R16). -/
def meshPos (d : Nat) : Nat := meshGrid.idxOf d

/-- The shorter way round a ring of eight (R19). -/
def ringHops (a b : Nat) : Nat := min ((a + 8 - b) % 8) ((b + 8 - a) % 8)

/-- Mesh hops between two dies (R19). -/
def meshHops (a b : Nat) : Nat :=
  ringHops (meshPos a / 8) (meshPos b / 8) + ringHops (meshPos a % 8) (meshPos b % 8)

/-- The die at the other end of link `l` of die `d`: 0 E, 1 W, 2 N, 3 S; rows and columns are rings. -/
def meshNeighbour (d l : Nat) : Nat :=
  let y := meshPos d / 8
  let x := meshPos d % 8
  let q := match l with
    | 0 => (y, (x + 1) % 8)
    | 1 => (y, (x + 7) % 8)
    | 2 => ((y + 7) % 8, x)
    | _ => ((y + 1) % 8, x)
  (meshGrid[q.1 * 8 + q.2]?).getD 0

/-- The same link seen from its other end. -/
def linkBack (l : Nat) : Nat := if l % 2 = 0 then l + 1 else l - 1

/-- A link is retired (Table FL-14: bits 7 to 4 are S, N, W, E). -/
def State.linkRetired (s : State) (d l : Nat) : Bool := bitOf (s.reg .MESH_STAT d 0) (4 + l)

/-- Mark a link retired at both ends (R21). -/
def State.setLinkRetired (s : State) (d l : Nat) : State :=
  let t := s.setReg .MESH_STAT d 0 (s.reg .MESH_STAT d 0 ||| maskOf (4 + l) (4 + l))
  let e := meshNeighbour d l
  t.setReg .MESH_STAT e 0 (t.reg .MESH_STAT e 0 ||| maskOf (4 + linkBack l) (4 + linkBack l))

/-- A mesh stop runs: its rail is on and it is not retired (R22, R23). -/
def State.stopOn (s : State) (d : Nat) : Bool := s.flag fPW_DIE_ISO_MS_ON 62 d && s.lat .stopRetired d 0 == 0

/-- A link passes traffic. -/
def State.linkUp (s : State) (d l : Nat) : Bool :=
  s.stopOn d && s.stopOn (meshNeighbour d l) && !s.linkRetired d l

/-! ## Route tables (R19, R20) -/

/-- Links and stop of a die that are out of service: bits 0 to 3 links E, W, N, S, bit 4 the stop. -/
def State.meshMask (s : State) (d : Nat) : Nat :=
  getBits (s.reg .MESH_STAT d 0) 7 4 + (if s.lat .stopRetired d 0 = 0 then 0 else 16)

/-- What the route tables in force avoid, by die. -/
def State.routeMasks (s : State) : List Nat := (List.range 64).map fun d => s.lat .routeMask d 0

/-- The link of a flit at stop `d` for stop `e` (R19): along the row, then along the column, the shorter way round, E or S
where both are equal. -/
def homeLink (d e : Nat) : Option Nat :=
  let dx := (meshPos e % 8 + 8 - meshPos d % 8) % 8
  let dy := (meshPos e / 8 + 8 - meshPos d / 8) % 8
  if dx ≠ 0 then some (if dx ≤ 4 then 0 else 1) else if dy ≠ 0 then some (if dy ≤ 4 then 3 else 2) else none

/-- A link a route may take beside what is avoided. -/
def linkOpen (ms : List Nat) (d l : Nat) : Bool := !(ms.getD d 0).testBit l && !(ms.getD (meshNeighbour d l) 0).testBit 4

/-- The route of R19 meets nothing that is avoided. -/
def clearPath (ms : List Nat) : Nat → Nat → Nat → Bool
  | 0, d, e => d == e
  | n + 1, d, e => match homeLink d e with
    | none => true
    | some l => linkOpen ms d l && clearPath ms n (meshNeighbour d l) e

/-- The route table of stop `d`: the link toward stop `e`. Where the route of R19 is broken, which open link the active
warden wrote is a free choice. -/
def nextLink (ms : List Nat) (d e : Nat) : Option Nat :=
  if clearPath ms 8 d e then homeLink d e
  else
    let ls := (List.range 4).filter (linkOpen ms d)
    ls[Config.detour ms d e % ls.length]?

/-- The stops a flit passes from `d` to `e`. -/
def meshPath (ms : List Nat) : Nat → Nat → Nat → List Nat
  | 0, d, _ => [d]
  | n + 1, d, e => if d = e then [d] else match nextLink ms d e with
    | some l => d :: meshPath ms n (meshNeighbour d l) e
    | none => [d]

/-- A route through a stop avoids a retired link or stop (Table FL-14). -/
def detours (ms : List Nat) (d : Nat) : Bool :=
  ms.any (· != 0) && (List.range 64).any fun a => (List.range 64).any fun e =>
    !clearPath ms 8 a e && (meshPath ms 64 a e).contains d

/-- The active warden writes the route tables (R19). -/
def State.writeRoutes (s : State) : State :=
  s.each ((List.range 64).map fun d => (d, s.meshMask d)) fun x t => t.setLat .routeMask x.1 0 x.2

/-- The active warden rewrites the route tables (R20, R22): a stop whose table changes holds new flits back until the flits
on the old routes have been delivered. -/
def State.reroute (s : State) : State :=
  let t := s.writeRoutes
  let old := s.routeMasks
  let new := t.routeMasks
  t.each ((List.range 64).filter fun d => (List.range 64).any fun e => nextLink old d e != nextLink new d e) fun d u =>
    u.setLat .routeHold d 0 1

/-- MESH_STAT as it reads: UP by the state of the links, DETOUR by the routes in force. -/
def State.meshStat (s : State) (d : Nat) : W64 :=
  let up := ((List.range 4).filter (s.linkUp d)).foldl (fun n l => n + 2 ^ l) 0
  setBits (setBits (s.reg .MESH_STAT d 0) 3 0 up) 8 8 (detours s.routeMasks d).toNat

/-! ## Flits (R18, R21) -/

/-- A flit goes between stops of the mesh and holds 256 bytes. -/
def meshFits (x : MeshFlit) : Bool := decide (x.src < 64) && decide (x.dst < 64) && x.bytes.length == 256

/-- The CRC-32 a flit carries is that of its contents. -/
def meshGood (x : MeshFlit) : Bool := crc32 x.bytes == x.crc

/-- The flits a stop keeps for replay on a link. -/
def State.meshKept (s : State) (d l : Nat) : List MeshFlit := sget [] s.mesh (d * 4 + l)

/-- The last 16 flits of a list. -/
def lastFlits (q : List MeshFlit) : List MeshFlit := q.drop (q.length - 16)

/-- A stop sends a flit over a link and keeps it among the last 16 it sent. -/
def State.meshSend (s : State) (d l : Nat) (x : MeshFlit) : State :=
  { s with mesh := sset [] s.mesh (d * 4 + l) (lastFlits (s.meshKept d l ++ [x])) }

/-- A link closes the ring of its row or column: the dateline. -/
def wraps (d l : Nat) : Bool :=
  match l with
  | 0 => meshPos d % 8 == 7
  | 1 => meshPos d % 8 == 0
  | 2 => meshPos d / 8 == 0
  | _ => meshPos d / 8 == 7

/-- A flit that came over link `l` goes on over link `k` on its own channel: on the second virtual channel from the
dateline on, on the first again where it turns into its column. -/
def flitVia (x : MeshFlit) (d l k : Nat) : MeshFlit :=
  { x with vc := wraps d k || (l / 2 == k / 2 && x.vc) }

/-- A stop forwards a good flit that came over link `l`, and counts it. -/
def State.meshForward (s : State) (d l : Nat) (x : MeshFlit) : State :=
  if x.dst = d then s
  else match nextLink s.routeMasks d x.dst with
    | some k => (s.meshSend d k (flitVia x d l k)).incFld fMESH_FLITS_COUNT d 0 1
    | none => s

/-- The stop at the other end of link `l` sent a flit that arrives: its replay buffer holds it. -/
def State.meshArrives (s : State) (d l : Nat) (x : MeshFlit) : State :=
  let e := meshNeighbour d l
  if (s.meshKept e (linkBack l)).contains x then s else s.meshSend e (linkBack l) x

/-- A stop forgets its count and what it keeps: its rail has opened. -/
def State.meshForget (s : State) (d : Nat) : State :=
  { s.setReg .MESH_FLITS d 0 0 with mesh := s.mesh.filter fun x => x.1 / 4 != d }

end Sys2Proof.Machine
end

