-- ==== Sys2Proof/Machine/Ply.lean ====
section
/-! DEFINITION. The ply sequencer (chapter 05): descriptors, commands, forming, joining, splitting,
re-forming and the loss of members (R156 to R191, R569). -/

namespace Sys2Proof.Machine

/-! ## Descriptors (R181, Tables PLY-4, PLY-5) -/

/-- A ply descriptor header. -/
structure PlyHdr where
  dbTarget : W64
  dbe : Bool
  dbbit : Nat
  window : Nat
  count : Nat
  auto : Bool
  log2n : Nat
  reserved : Bool
  deriving DecidableEq, Repr

/-- The address of the descriptor of die d's sequencer. -/
def State.plyAddr (s : State) (d : Nat) : Nat := s.fld fPLY_CMD_ADDR_ADDR d 0 * 16

/-- The header of a descriptor. -/
def PlyDesc.hdr (x : PlyDesc) : PlyHdr :=
  ⟨x.hi, bitOf x.lo 63, getBits x.lo 62 58, getBits x.lo 47 32, getBits x.lo 31 20, bitOf x.lo 16, getBits x.lo 4 0,
    getBits x.lo 57 48 != 0 || getBits x.lo 19 17 != 0 || getBits x.lo 15 5 != 0⟩

/-- A member list entry: the package and spindle it names, and the codes it fails with. -/
def plyEntry (v : Nat) : (Nat × Nat) × List Nat :=
  ((v / 2 ^ 20 % 2 ^ 12, v % 2 ^ 11),
    (if v / 2 ^ 11 % 2 ^ 9 ≠ 0 then [1] else []) ++ (if nSpindles ≤ v % 2 ^ 11 then [3] else []))

/-- The 4-byte words of a list. -/
def State.plyWords (s : State) (a n : Nat) : List Nat :=
  (List.range n).map fun k => leValue (s.sysBytes (a + 16 + 4 * k) 4)

/-- The codes of a header (Table PLY-7, BAD_COMMAND). -/
def PlyHdr.codes (h : PlyHdr) : List Nat :=
  if h.reserved ∨ (h.dbe = false ∧ (h.dbbit ≠ 0 ∨ h.dbTarget ≠ 0)) ∨ (h.dbe ∧ dbForm h.dbTarget = false) then [1]
  else []

/-- The descriptor of die d's sequencer as it is read (R181): none where the header cannot be. `len` gives the length of the
list in entries; none where LOG2N is out of range, and no list is read. -/
def State.plyRead (s : State) (d : Nat) (len : PlyHdr → Option Nat) : Option PlyDesc :=
  let a := s.plyAddr d
  if s.populated a 16 then
    let q := fun (o : Nat) => BitVec.ofNat 64 (leValue (s.sysBytes (a + o) 8))
    let x : PlyDesc := ⟨q 0, q 8, some []⟩
    match len x.hdr with
    | none => some x
    | some n => some (if n = 0 ∨ s.populated (a + 16) (4 * n) then { x with list := some (s.plyWords a n) } else { x with list := none })
  else none

/-- Entries of a list of FORM or JOIN. -/
def formLen (h : PlyHdr) : Option Nat := if 22 < h.log2n then none else some (2 ^ h.log2n)

/-- Entries of a list of REFORM, which ignores LOG2N. -/
def reformLen (h : PlyHdr) : Option Nat := some (2 * h.count)

/-- LIST_FAULT of a list that could not be read. -/
def PlyDesc.fault (x : PlyDesc) : List Nat := if x.list.isNone then [4] else []

/-! ## Checks of named spindles and plies -/

/-- PLY_ENTRY.STATE of a local spindle. -/
def State.entryState (s : State) (sp : Nat) : Nat := s.fld fPLY_ENTRY_STATE (spDie sp) (spIdx sp)

/-- The codes of a spindle of this package that is not HALTED (R182): NOT_AVAILABLE alone where it is OFF, RETIRED or on
an isolated die (DESIGN CHOICE, log 162), else NOT_HALTED. -/
def State.idleCodes (s : State) (sp : Nat) : List Nat :=
  if s.dieUp (spDie sp) = false ∨ s.spState sp = 0 ∨ s.spState sp = 6 then [8] else if s.spState sp ≠ 2 then [7] else []

/-- The codes of a spindle of this package named for a ply (R182): in a ply or claimed, not available, not HALTED. -/
def State.localCodes (s : State) (sp : Nat) : List Nat :=
  (if (s.plyOf sp).isSome ∨ s.entryState sp = 3 then [6] else []) ++ s.idleCodes sp

/-- What another package answers to a claim of a spindle: NOT_AVAILABLE without a route, else one of `n` answers, a grant or
a code from MEMBER_BUSY on; open to this package. -/
def State.grantCodes (s : State) (key n : Nat) (m : Nat × Nat) : List Nat :=
  if !s.reachable m.1 then [8]
  else match Config.remoteGrant key m.1 m.2 % n with
    | 0 => []
    | k + 1 => [6 + k]

/-- The codes of a spindle named for a ply by the command of a key. -/
def State.freeCodes (s : State) (key : Nat) (m : Nat × Nat) : List Nat :=
  if m.1 ≠ s.pkg then s.grantCodes key 4 m else s.localCodes m.2

/-- The ply of an identity (R157). -/
def State.plyById (s : State) (pkg sp : Nat) : Option Ply :=
  s.plies.find? fun p => p.members.head? = some (pkg, sp)

/-- The lowest-numbered surviving member, which carries the ply's notices (R189). -/
def Ply.carrier (p : Ply) : Nat × Nat :=
  match (p.members.zipIdx.find? fun x => !p.lost.contains x.2) with
  | some x => x.1
  | none => p.members.head?.getD (0, 0)

/-- The enrolment entry of an identity (Table REC-10). -/
def State.enrolment (s : State) (pkg sp : Nat) : Option Nat :=
  (List.range 256).find? fun i =>
    s.wfld fWD_EP_ENT0_STATE i ≠ 0 ∧ s.wfld fWD_EP_ENT0_PKG i = pkg ∧ s.wfld fWD_EP_ENT0_SPINDLE i = sp

/-- A ply command naming an enrolled unit during a rollback (R372). -/
def State.rollbackBusy (s : State) (p : Ply) : List Nat :=
  match p.members.head? with
  | some (k, m) => if 2 ≤ s.wfld fWD_EP_STAT_PHASE 0 ∧ (s.enrolment k m).isSome then [6] else []
  | none => []

/-- Local members not in a state of a list. -/
def State.notIn (s : State) (ms : List (Nat × Nat)) (sts : List Nat) : Bool :=
  ms.any fun (m : Nat × Nat) => m.1 == s.pkg && !sts.contains (s.spState m.2)

/-! ## Effects on members -/

/-- The replicated state of one spindle copied into another (R159). -/
def State.copyReplicated (s : State) (a b : Nat) : State :=
  let x := s.spin a
  let t := s.updSpin b fun y => { y with g := x.g, p := x.p, a := x.a, f := x.f, fmt := x.fmt }
  let t := t.each [Reg.SPN_PC, .SPN_VEC, .SPN_EXC_CAUSE, .SPN_EXC_PC, .SPN_EXC_INFO, .SPN_IRQ_EN, .SPN_DB_MASK,
      .SPN_TIMER_CMP] fun r u => u.setReg r (spDie b) (spIdx b) (s.reg r (spDie a) (spIdx a))
  (t.setSpFld fSPN_CTL_EXC_MODE b (s.spFld fSPN_CTL_EXC_MODE a)).setSpFld fSPN_CTL_IRQ_ON b
    (s.spFld fSPN_CTL_IRQ_ON a)

/-- A member's mortar is cleared (R183). -/
def State.clearMortar (s : State) (sp : Nat) : State := s.updSpin sp fun x => { x with lane := [] }

/-- A spindle belongs to no ply: its entry reads FREE. -/
def State.freeEntry (s : State) (m : Nat × Nat) : State :=
  if m.1 = s.pkg then
    ((s.setReg .PLY_ENTRY (spDie m.2) (spIdx m.2) 0).setReg .PLY_ENTRY_CFG (spDie m.2) (spIdx m.2) 0).setSpFld
      fSPN_STAT_PLY_MEMBER m.2 0
  else s

/-- Set NOTICE bits at a member of this package. -/
def State.noticeAt (s : State) (m : Nat × Nat) (bits : Nat) : State :=
  if m.1 = s.pkg then s.notice m.2 bits else s

/-- The plies after one is replaced by others. -/
def State.replacePly (s : State) (p : Ply) (qs : List Ply) : State :=
  { s with plies := s.plies.flatMap fun q => if q = p then qs else [q] }

/-- FORM on a list that passed every check (R183). -/
def State.formPly (s : State) (ms : List (Nat × Nat)) (h : PlyHdr) : State :=
  let p : Ply := ⟨ms, 1, [], h.window, h.auto, false, []⟩
  let t := match ms.head? with
    | some m0 => s.each ((s.localOf ms).filter fun (m : Nat × Nat) => m.1 != 0) fun m u =>
        (if m0.1 = s.pkg then u.copyReplicated m0.2 m.2 else u).clearMortar m.2
    | none => s
  ({ t with plies := t.plies ++ [p] }).writeEntries p 1

/-- JOIN of plies that passed every check (R184). -/
def State.joinPlies (s : State) (ps : List Ply) (h : PlyHdr) : State :=
  match ps with
  | [] => s
  | p0 :: _ =>
    let n := p0.members.length
    let subs := (ps.zipIdx.flatMap fun c =>
      (p0.level, c.2 * n, Nat.log2 n) :: c.1.subs.map fun x => (x.1, x.2.1 + c.2 * n, x.2.2))
    let p : Ply := ⟨ps.flatMap (·.members), p0.level + 1, subs, (ps.map (·.window)).foldl max 0, h.auto, false, []⟩
    let t := s.each ((s.localOf p.members).filter fun (m : Nat × Nat) => m.1 != 0) fun m u =>
      match p0.members.head? with
      | some m0 =>
        let v := if m0.1 = s.pkg then u.copyReplicated m0.2 m.2 else u
        if n ≤ m.1 then v.clearMortar m.2 else v
      | none => u
    ({ t with plies := (t.plies.filter fun q => !ps.contains q) ++ [p] }).writeEntries p 1

/-- The enrolment of a ply that is split or dissolved is released (R361). -/
def State.releaseEnrolment (s : State) (p : Ply) : State :=
  match p.members.head? with
  | some (k, m) => match s.enrolment k m with
    | some i => ((s.setWreg .WD_EP_ENT0 i 0).setWreg .WD_EP_ENT1 i 0).wevent 0x8102 .note 0 p.identity
    | none => s
  | none => s

/-- The plies a ply was joined from, which SPLIT gives back (R185). -/
def Ply.parts (p : Ply) : List Ply :=
  (p.subs.filter fun x => x.1 + 1 = p.level).map fun x =>
    ⟨(p.members.drop x.2.1).take (2 ^ x.2.2), p.level - 1,
      (p.subs.filter fun y => y.1 + 1 < p.level ∧ x.2.1 ≤ y.2.1 ∧ y.2.1 < x.2.1 + 2 ^ x.2.2).map
        fun y => (y.1, y.2.1 - x.2.1, y.2.2), p.window, p.auto,
      p.lost.any (fun i => decide (x.2.1 ≤ i) && decide (i < x.2.1 + 2 ^ x.2.2)),
      (p.lost.filter fun i => decide (x.2.1 ≤ i) && decide (i < x.2.1 + 2 ^ x.2.2)).map (· - x.2.1)⟩

/-- SPLIT (R185); of a stopped ply the parts that hold a lost member stay stopped (DESIGN CHOICE, log 164). -/
def State.splitPly (s : State) (p : Ply) : State :=
  let t := (s.releaseEnrolment p).replacePly p p.parts
  (t.each p.parts fun q u => u.writeEntries q (if q.stopped then 2 else 1)).noticeAt (p.members.head?.getD (0, 0)) 8

/-- DISSOLVE (R185). -/
def State.dissolvePly (s : State) (p : Ply) : State :=
  let t := (s.releaseEnrolment p).replacePly p []
  (t.each p.members fun m u => u.freeEntry m).noticeAt (p.members.head?.getD (0, 0)) 8

/-- The members of a ply re-formed with pairs of member index and replacement (R190). -/
def Ply.renamed (p : Ply) (pairs : List (Nat × Nat × Nat)) : List (Nat × Nat) :=
  p.members.zipIdx.map fun x => match pairs.find? fun q => q.1 = x.2 with | some q => q.2 | none => x.1

/-- The ply re-formed: the replaced members are lost no more, and it is stopped while another is (R190). -/
def Ply.reformed (p : Ply) (pairs : List (Nat × Nat × Nat)) : Ply :=
  let lost := p.lost.filter fun i => !(pairs.map (·.1)).contains i
  { p with members := p.renamed pairs, lost := lost, stopped := !lost.isEmpty }

/-- REFORM with pairs that passed every check (R190): (member index, replacement). -/
def State.reformPly (s : State) (p : Ply) (pairs : List (Nat × Nat × Nat)) : State :=
  let idx := pairs.map (·.1)
  let q := p.reformed pairs
  let survivor := p.members.zipIdx.find? fun x => !p.lost.contains x.2 && !idx.contains x.2
  let lowestNamed := pairs.find? fun q => lowest idx = some q.1
  let src : Option (Nat × Nat) := match survivor, lowestNamed with
    | some x, _ => some x.1
    | none, some q => some q.2
    | none, none => none
  let t := s.each idx fun i u => match p.members[i]? with | some m => u.freeEntry m | none => u
  let t := t.each pairs fun x u =>
    if x.2.1 = s.pkg then
      let v := match src with
        | some m => if m.1 = s.pkg ∧ m ≠ x.2 then u.copyReplicated m.2 x.2.2 else u
        | none => u
      v.updSpin x.2.2 fun y => { y with tile := [], lane := [] }
    else u
  let t := match p.members.head?, q.members.head? with
    | some a, some b => match s.enrolment a.1 a.2 with
      | some i => (t.setWfld fWD_EP_ENT0_PKG i b.1).setWfld fWD_EP_ENT0_SPINDLE i b.2
      | none => t
    | _, _ => t
  let t := (t.replacePly p [q]).writeEntries q (if q.lost.isEmpty then 1 else 2)
  if q.lost.isEmpty then t.noticeAt (q.members.head?.getD (0, 0)) 4 else t

/-- A member is lost (R189, R180): the ply stops, every member's STATE reads LOST, and the notice goes to
member 0 or the lowest-numbered survivor. A member in CHECKED has its EV 0x1133 already. -/
def State.memberGone (s : State) (m : Nat × Nat) (cause : Nat) : State :=
  match s.plies.find? fun p => p.members.contains m with
  | none => s
  | some p =>
    let i := (p.members.findIdx? (· = m)).getD 0
    if p.lost.contains i then s
    else
      let q := { p with lost := p.lost ++ [i] }
      let t := (s.replacePly p [q]).plyStop q none
      let c := q.carrier
      let t := t.noticeAt c 2
      if m.1 = s.pkg ∧ s.spState m.2 = 5 then t
      else t.event 0x1133 .fault (plyUnit (spDie (p.members.head?.getD c).2)) (i + cause * 2 ^ 32)

/-- A member of this package is lost. -/
def State.memberLost (s : State) (sp cause : Nat) : State := s.memberGone (s.pkg, sp) cause

/-! ## Commands (R182, R187) -/

/-- What a command's checks come to: its codes; the header it carries and the ply it names, for its doorbell; the spindles of
this package it claims; and its effect, with the identity it produces or keeps. -/
structure PlyJob where
  codes : List Nat
  hdr : Option PlyHdr
  named : Nat
  claims : List Nat
  act : State → State × Nat

/-- A job that fails. -/
def PlyJob.fail (c : Nat) (h : Option PlyHdr) (named : Nat) : PlyJob := ⟨[c], h, named, [], fun t => (t, named)⟩

/-- The list holds an element twice. -/
def hasDup {α : Type} [DecidableEq α] : List α → Bool
  | [] => false
  | x :: xs => xs.contains x || hasDup xs

/-- An identity as a 64-bit word (R157). -/
def identOf (m : Nat × Nat) : Nat := m.1 * 2 ^ 52 + m.2

/-- The spindles of a list that are this package's. -/
def State.here (s : State) (ms : List (Nat × Nat)) : List Nat := (ms.filter fun m => m.1 == s.pkg).map (·.2)

/-- The key of the answers other packages give to the command that runs. -/
def State.plyKey (s : State) (d : Nat) : Nat := s.lat .plyKey d 0

/-- BAD_COMMAND of a target given to FORM or JOIN. -/
def targetCodes (v : W64) : List Nat := if getBits v 63 52 ≠ 0 ∨ getBits v 42 32 ≠ 0 then [1] else []

/-- NOT_HOME of a first entry that is not a spindle of this die. -/
def State.homeCodes (s : State) (d : Nat) (ms : List (Nat × Nat)) : List Nat :=
  match ms.head? with
  | some m => if m.1 = s.pkg ∧ spDie m.2 = d then [] else [0xA]
  | none => []

/-- FORM (R182, R183) of a descriptor. -/
def State.jobForm (s : State) (d : Nat) (v : W64) (x : Option PlyDesc) : PlyJob :=
  match x with
  | none => ⟨targetCodes v ++ [4], none, 0, [], fun t => (t, 0)⟩
  | some x =>
    let h := x.hdr
    let es := (x.list.getD []).map plyEntry
    let ms := es.map (·.1)
    let codes := targetCodes v ++ h.codes ++
      (if h.window = 0 then [2] else if h.window < 16 ∨ 1024 < h.window then [3] else []) ++
      (if 22 < h.log2n then [3] else []) ++ x.fault ++ es.flatMap (·.2) ++ (if hasDup ms then [5] else []) ++
      ms.flatMap (s.freeCodes (s.plyKey d)) ++ s.homeCodes d ms
    let id := identOf (ms.head?.getD (0, 0))
    ⟨codes, some h, id, s.here ms, fun t => (t.formPly ms h, id)⟩

/-- The ply a JOIN's entry names: one this package knows, or one whose member 0 is in another package, which that package
tells of: `n` members of level `l`. -/
def State.component (s : State) (key n l : Nat) (m : Nat × Nat) : Option Ply :=
  match s.plyById m.1 m.2 with
  | some p => some p
  | none =>
    if m.1 = s.pkg then none
    else
      let far := fun (j : Nat) =>
        if j = 0 then m
        else
          let r := Config.remoteMember key m.1 m.2 j
          (if r.1 % 4096 = s.pkg then m.1 else r.1 % 4096, r.2 % nSpindles)
      some ⟨(List.range n).map far, l, [], 16 + Config.remoteWindow key m.1 m.2 % 1009, false, false, []⟩

/-- The codes of one entry of a JOIN (R184): of another package's ply what that package answers; UNEQUAL, and the spindle's own
state, where a spindle is member 0 of no ply; of a ply whether it is enrolled or claimed, not HALTED or stopped (a ply that is
LOST is NOT_AVAILABLE: DESIGN CHOICE, log 163). -/
def State.joinCodes (s : State) (key : Nat) (m : Nat × Nat) : List Nat :=
  match s.plyById m.1 m.2 with
  | some p =>
    (if (s.enrolment m.1 m.2).isSome || (s.here p.members).any fun q => s.entryState q == 3 then [6] else []) ++
      (s.here p.members).flatMap s.idleCodes ++ (if p.stopped then [8] else [])
  | none =>
    if m.1 ≠ s.pkg then s.grantCodes key 5 m
    else 9 :: ((if s.entryState m.2 = 3 then [6] else []) ++ s.idleCodes m.2)

/-- JOIN (R184) of a descriptor. -/
def State.jobJoin (s : State) (d : Nat) (v : W64) (x : Option PlyDesc) : PlyJob :=
  match x with
  | none => ⟨targetCodes v ++ [4], none, 0, [], fun t => (t, 0)⟩
  | some x =>
    let h := x.hdr
    let es := (x.list.getD []).map plyEntry
    let ms := es.map (·.1)
    let p0 := ms.head?.bind fun m => s.plyById m.1 m.2
    let n := match p0 with | some p => p.members.length | none => 1
    let l := match p0 with | some p => p.level | none => 1
    let ps := ms.filterMap (s.component (s.plyKey d) n l)
    let codes := targetCodes v ++ h.codes ++ (if 22 < h.log2n then [3] else []) ++ x.fault ++
      es.flatMap (·.2) ++ (if hasDup ms then [5] else []) ++ ms.flatMap (s.joinCodes (s.plyKey d)) ++
      (if 6 ≤ l then [3] else []) ++ (if 22 < Nat.log2 n + h.log2n then [3] else []) ++
      (if ps.any fun p => p.members.length ≠ n ∨ p.level ≠ l then [9] else []) ++ s.homeCodes d ms
    let id := identOf (ms.head?.getD (0, 0))
    ⟨codes, some h, id, s.here (ps.flatMap (·.members)), fun t => (t.joinPlies ps h, id)⟩

/-- The ply a command names, homed at the sequencer written to (R157, R189). -/
def State.target (s : State) (d : Nat) (v : W64) : Option Ply :=
  match s.plyById (getBits v 63 52) (getBits v 42 32) with
  | some p =>
    let c := if p.lost.contains 0 then p.carrier else p.members.head?.getD (0, 0)
    if c.1 = s.pkg ∧ spDie c.2 = d then some p else none
  | none => none

/-- The identity a command names. -/
def targetId (v : W64) : Nat := identOf (getBits v 63 52, getBits v 42 32)

/-- A command that names an existing ply and reads no descriptor. -/
def State.jobOn (s : State) (d : Nat) (v : W64) (codes : Ply → List Nat) (act : Ply → State → State) : PlyJob :=
  match s.target d v with
  | none => PlyJob.fail 0xA none (targetId v)
  | some p => ⟨codes p ++ s.rollbackBusy p, none, p.identity, [], fun t => (act p t, p.identity)⟩

/-- SPLIT (R185). -/
def State.jobSplit (s : State) (d : Nat) (v : W64) : PlyJob :=
  s.jobOn d v (fun p => (if p.level ≤ 1 then [1] else []) ++ (if s.notIn p.members [2] then [7] else []))
    fun p t => t.splitPly p

/-- DISSOLVE (R185). -/
def State.jobDissolve (s : State) (d : Nat) (v : W64) : PlyJob :=
  s.jobOn d v (fun p => if s.notIn p.members [2] then [7] else []) fun p t => t.dissolvePly p

/-- The refusals of RUN and STEP (R179). -/
def State.runCodes (s : State) (p : Ply) : List Nat :=
  (if s.notIn p.members [2] ∨ p.members.any fun m => m.1 = s.pkg ∧
      (s.spFlag fSPN_STAT_EXC_HALT m.2 ∨ s.spFlag fSPN_STAT_DOUBLE m.2) then [7] else []) ++
    (if p.stopped then [8] else [])

/-- RUN, HALT and STEP of a ply (R179). -/
def State.jobRun (s : State) (d : Nat) (v : W64) (o : RunOp) : PlyJob :=
  s.jobOn d v (fun p => if o = .halt then [] else s.runCodes p)
    fun p t => match p.members.head? with | some m => t.runOp m.2 o | none => t

/-- The pairs of a REFORM descriptor: member index and replacement (Table PLY-5). -/
def reformPairs (h : PlyHdr) (ws : List Nat) : List (Nat × Nat × Nat) :=
  (List.range h.count).map fun k => ((ws[2 * k]?).getD 0 % 2 ^ 22, (plyEntry ((ws[2 * k + 1]?).getD 0)).1)

/-- The codes of a REFORM of a ply with the words of a list (R190). -/
def State.reformCodes (s : State) (d : Nat) (p : Ply) (h : PlyHdr) (ws : List Nat) : List Nat :=
  let pairs := reformPairs h ws
  s.rollbackBusy p ++
    ((List.range h.count).flatMap fun k =>
      (if 2 ^ 22 ≤ (ws[2 * k]?).getD 0 then [1] else []) ++ (plyEntry ((ws[2 * k + 1]?).getD 0)).2) ++
    (if pairs.any fun q => p.members.length ≤ q.1 then [3] else []) ++
    (if hasDup (pairs.map (·.1)) || hasDup (pairs.map (·.2)) then [5] else []) ++
    (pairs.flatMap fun q => s.freeCodes (s.plyKey d) q.2) ++
    (if s.notIn ((p.members.zipIdx.filter fun x => !p.lost.contains x.2).map (·.1)) [2, 5] then [7] else [])

/-- REFORM (R190) of a descriptor. -/
def State.jobReform (s : State) (d : Nat) (v : W64) (x : Option PlyDesc) : PlyJob :=
  let home := if (s.target d v).isNone then [0xA] else []
  match x with
  | none => ⟨home ++ [4], none, targetId v, [], fun t => (t, 0)⟩
  | some x =>
    let h := x.hdr
    match s.target d v, x.list with
    | some p, some ws =>
      let pairs := reformPairs h ws
      ⟨h.codes ++ s.reformCodes d p h ws, some h, targetId v, s.here (pairs.map (·.2)),
        fun t => (t.reformPly p pairs, (p.reformed pairs).identity)⟩
    | _, _ => ⟨home ++ h.codes ++ x.fault, some h, targetId v, [], fun t => (t, 0)⟩

/-- The job of a command (Table PLY-6), with the descriptor that FORM, JOIN and REFORM read. -/
def State.plyJob (s : State) (d : Nat) (v : W64) (x : Option PlyDesc) : PlyJob :=
  match getBits v 3 0 with
  | 1 => s.jobForm d v x
  | 2 => s.jobJoin d v x
  | 3 => s.jobSplit d v
  | 4 => s.jobDissolve d v
  | 5 => s.jobRun d v .run
  | 6 => s.jobRun d v .halt
  | 7 => s.jobRun d v .step
  | 8 => s.jobReform d v x
  | _ => PlyJob.fail 1 none 0

/-- The descriptor a command reads (R187): FORM, JOIN and REFORM only. -/
def State.plyDesc (s : State) (d : Nat) (v : W64) : Option PlyDesc :=
  match getBits v 3 0 with
  | 1 | 2 => s.plyRead d formLen
  | 8 => s.plyRead d reformLen
  | _ => none

/-! ## Claims (R182) -/

/-- PLY_ENTRY.STATE of a spindle. -/
def State.setEntryState (s : State) (sp st : Nat) : State := s.setFld fPLY_ENTRY_STATE (spDie sp) (spIdx sp) st

/-- The spindles a command names are claimed. -/
def State.claim (s : State) (sps : List Nat) : State := s.each sps fun q t => t.setEntryState q 3

/-- Claims are released: a spindle that is still claimed is FREE, or a MEMBER of the ply it was in. -/
def State.unclaimAll (s : State) (sps : List Nat) : State :=
  s.each sps fun q t => if t.entryState q = 3 then t.setEntryState q (if (t.plyOf q).isSome then 1 else 0) else t

/-- The descriptor a sequencer keeps while it runs a command with claims. -/
def State.plyRun (s : State) (d : Nat) : Option PlyDesc := sget none s.plyRuns d

/-- Set it. -/
def State.setPlyRun (s : State) (d : Nat) (x : Option PlyDesc) : State := { s with plyRuns := sset none s.plyRuns d x }

/-- The command of a kept descriptor, as it stands now. -/
def State.jobNow (s : State) (d : Nat) (x : PlyDesc) : PlyJob := s.plyJob d (s.reg .PLY_CMD d 0) (some x)

/-- The claims of the command that runs are released. -/
def State.unclaim (s : State) (d : Nat) : State :=
  match s.plyRun d with
  | some x => (s.unclaimAll (s.jobNow d x).claims).setPlyRun d none
  | none => s

/-- A write that is refused (R187). -/
def State.plyRefused (s : State) (d : Nat) : State :=
  (s.setFld fPLY_CMD_STAT_REFUSED d 0 1).event 0x1131 .warn (plyUnit d) 0

/-- A spindle's own request. -/
def fromSpindle : Master → Bool
  | .spindle _ => true
  | _ => false

/-- PLY_CMD takes a command: it shows what was written, and the sequencer is BUSY (R187); the answers it will have from
other packages are drawn. -/
def State.plyTaken (s : State) (d : Nat) (v : W64) : State :=
  let t := ((((s.setFld fPLY_CMD_PKG d 0 (getBits v 63 52)).setFld fPLY_CMD_SPINDLE d 0 (getBits v 42 32)).setFld
    fPLY_CMD_OP d 0 (getBits v 3 0)).setFld fPLY_CMD_STAT_BUSY d 0 1).setLat .plyKey d 0 s.free
  { t with free := s.free + 1 }

/-- The completion doorbell of a header is kept; LIST_FAULT rings none (R187). -/
def State.keepBell (s : State) (d : Nat) (j : PlyJob) (c : Nat) : State :=
  match j.hdr with
  | some h => if h.dbe ∧ c ≠ 4 then
      ((s.setLat .plyDbe d 0 1).setLat .plyDbbit d 0 h.dbbit).setLat .plyDbTarget d 0 h.dbTarget.toNat
    else s.setLat .plyDbe d 0 0
  | none => s.setLat .plyDbe d 0 0

/-- A command starts (R182, R187): one that fails a check changes nothing; FORM, JOIN and REFORM claim what they name and
take effect when they complete; the others take effect at once. -/
def State.plyStart (s : State) (d : Nat) (x : Option PlyDesc) (j : PlyJob) : State :=
  let c := (lowest j.codes).getD 0
  let t := ((s.keepBell d j c).setLat .plyResult d 0 (c + 1)).setLat .plyId d 0 j.named
  if c ≠ 0 then t
  else match x with
    | some x => (t.claim j.claims).setPlyRun d (some x)
    | none => let u := j.act t; u.1.setLat .plyId d 0 u.2

/-- A write to PLY_CMD (R187): refused while BUSY or from a spindle; else the command starts. Its result shows when it
completes. -/
def State.plyCmdWrite (s : State) (m : Master) (d : Nat) (v : W64) (job : State → Option PlyDesc → PlyJob) : State :=
  if s.flag fPLY_CMD_STAT_BUSY d 0 || fromSpindle m then s.plyRefused d
  else
    let t := s.plyTaken d v
    let x := t.plyDesc d v
    t.plyStart d x (job t x)

/-- A claimed command takes effect, whole or not at all (R182): its checks are made again once its claims are released. -/
def State.plyEffect (s : State) (d : Nat) : State :=
  match s.plyRun d with
  | none => s
  | some x =>
    let t := s.unclaim d
    let j := t.jobNow d x
    match (lowest j.codes).getD 0 with
    | 0 => let u := j.act t; u.1.setLat .plyId d 0 u.2
    | c => t.setLat .plyResult d 0 (c + 1)

/-- A sequencer's command shows its result (R187, R569): BUSY clears, the event is recorded, and the doorbell of the header is
delivered or discarded. -/
def State.plyResult (s : State) (d : Nat) : State :=
  let r := s.lat .plyResult d 0
  let id := s.lat .plyId d 0
  let t := ((s.setFld fPLY_CMD_STAT_BUSY d 0 0).setFld fPLY_CMD_STAT_RESULT d 0 (r - 1)).setLat .plyResult d 0 0
  let t :=
    if r = 1 then
      ((t.setFld fPLY_CMD_ID_PKG d 0 (id / 2 ^ 52)).setFld fPLY_CMD_ID_SPINDLE d 0 id).event 0x1130 .note
        (plyUnit d) id
    else t.event 0x1131 .warn (plyUnit d) (r - 1)
  if s.lat .plyDbe d 0 = 1 then
    let tgt := BitVec.ofNat 64 (s.lat .plyDbTarget d 0)
    match t.ring d (plyUnit d) tgt (2 ^ s.lat .plyDbbit d 0) with
    | some u => u
    | none => t.event 0x1135 .warn (plyUnit d) (id + tgt.toNat * 2 ^ 64)
  else t

/-- A sequencer's command completes. -/
def State.plyComplete (s : State) (d : Nat) : State := if s.lat .plyResult d 0 = 0 then s else (s.plyEffect d).plyResult d

end Sys2Proof.Machine
end

