-- ==== Sys2Proof/Machine/Loss.lean ====
section
/-! DEFINITION. Loss of spindles, twins, dies and quarries, as every trip, reset, retirement and shutdown
uses it (R22, R31, R189, R225, R365, R528, R529, Table RST-2). -/

namespace Sys2Proof.Machine

/-! ## Triggers of a rollback (R365, R371, R377) -/

/-- The enrolment entry of the unit a spindle belongs to. -/
def State.unitEntry (s : State) (sp : Nat) : Option Nat :=
  match s.plyOf sp with
  | some p => match p.members.head? with | some m => s.enrolment m.1 m.2 | none => none
  | none => s.enrolment s.pkg sp

/-- A trigger by `unit`, with conditions of R374 that fail because of it: it starts no rollback while PHASE
is HELD, and joins one that is due or runs. -/
def State.trigger (s : State) (unit fails : Nat) : State :=
  let ph := s.wfld fWD_EP_STAT_PHASE 0
  if ph = 5 then s
  else
    let first := decide (ph < 2) && s.lat .rollbackDue 0 0 == 0
    let t := s.setLat .rollbackFail 0 0 (s.lat .rollbackFail 0 0 ||| fails |||
      (if first && !s.wflag fWD_EP_STAT_ANCHORED 0 then 2 ^ 5 else 0))
    if first then t.setLat .rollbackDue 0 0 (unit + 1) else t

/-- The local members of an enrolled unit with their indices. -/
def State.entryMembers (s : State) (i : Nat) : List (Nat × Nat) :=
  let k := s.wfld fWD_EP_ENT0_PKG i
  let m := s.wfld fWD_EP_ENT0_SPINDLE i
  match s.plyById k m with
  | some p => s.localOf p.members
  | none => if k = s.pkg then [(0, m)] else []

/-- An enrolled unit about to be stopped by a trigger is noted as having run (R367). -/
def State.noteRunning (s : State) (sp : Nat) : State :=
  match s.unitEntry sp with
  | some i => if (s.entryMembers i).any fun m => s.spState m.2 == 3 || s.spState m.2 == 4 then s.setLat .runAfter i 0 1 else s
  | none => s

/-- A spindle takes a machine check (R62, R365), without its occurrence: its enrolled unit triggers a
rollback. -/
def State.checkSpindle (s : State) (sp cause : Nat) : State :=
  let t := (s.noteRunning sp).machineCheck sp cause
  match s.unitEntry sp with
  | some _ => t.trigger (s.spUnit sp) 0
  | none => t

/-- A spindle is lost to its ply and to its enrolled unit (R189, R365). -/
def State.loseSpindle (s : State) (sp cause : Nat) : State :=
  let t := (s.noteRunning sp).memberLost sp cause
  match s.unitEntry sp with
  | some i => (t.setWfld fWD_EP_ENT0_STATE i 3).trigger (s.spUnit sp) 0
  | none => t

/-! ## Spindles and twins -/

/-- An SPN_ register (Table FL-16). -/
def isSpn (r : Reg) : Bool := (regDesc r).place.s1 == 0x4000000

/-- The registers of the die's VDD_CU domain among them (chapter 02, before R80). -/
def spnInCu (r : Reg) : Bool :=
  match r with | .SPN_STAT | .SPN_MAP | .SPN_DB_PEND | .SPN_DB_SET | .SPN_DB_MASK => true | _ => false

/-- The latches of a spindle's word in progress return to 0. -/
def State.clearSpLats (s : State) (sp : Nat) : State := s.each spLats fun l t => t.setLat l sp 0 0

/-- The architectural state of a slot's spindle is lost (R84). -/
def State.clearSpin (s : State) (sp : Nat) : State :=
  (({ s with spins := sset Spin.zero s.spins sp Spin.zero } : State).clearSpLats sp)

/-- A slot is fresh: its SPN_ registers at their reset values but the map, HALTED at word 0 (R84, R529). -/
def State.freshSpindle (s : State) (sp : Nat) : State :=
  let pm := s.spFld fSPN_STAT_PLY_MEMBER sp
  let t := s.resetRegs (fun r d i => isSpn r && r != .SPN_MAP && d == spDie sp && i == spIdx sp) fun c => c == .F
  (t.clearSpin sp).setSpFld fSPN_STAT_PLY_MEMBER sp pm

/-- An SPN reset of a slot's spindle begins (R529, R405): its state is lost, and STATE reads RESET until it ends. -/
def State.spnReset (s : State) (sp : Nat) : State :=
  (((s.loseSpindle sp 0).freshSpindle sp).setSpFld fSPN_STAT_STATE sp 1).freeLocks fun o => o == ownerSpindle sp

/-- It ends: HALTED at word 0 (R84, R529). -/
def State.spnResetEnd (s : State) (sp : Nat) : State :=
  if s.spFld fSPN_STAT_STATE sp = 1 then s.setSpFld fSPN_STAT_STATE sp 2 else s

/-- The slots whose spindles a twin holds. -/
def State.slotsOfTwin (s : State) (d k : Nat) : List Nat :=
  ((List.range 32).map fun i => d * 32 + i).filter fun sp => s.lat .slotRetired sp 0 == 0 && s.twinOf sp == k

/-- The banks of a slot are forced OFF and lose their contents (R249): with its twin ON again each is in its
requested state, a bank requested ON waking. -/
def State.banksOff (s : State) (sp : Nat) : State :=
  s.each (List.range 4) fun k t =>
    let b : Bank := .pad sp k
    (t.setBankOwn b (if t.bankReq b = 2 then 3 else t.bankReq b)).clearBank b

/-- A twin enters OFF: its spindles' state and their banks' contents are lost; the registers of the VDD_CU
domain stay (R80, R249). -/
def State.twinOff (s : State) (d k : Nat) : State :=
  let t := ((s.setFld fPW_TWIN_CTL_STATE d k 0).setFld fPW_TWIN_CTL_VID_ACT d k 0).setFld fPW_TWIN_CTL_ILIM d k 0
  let t := ((t.setLat .rateWin d k 0).setLat .rateCyc d k 0).setLat .rateBad d k 0
  t.each (s.slotsOfTwin d k) fun sp u =>
    let v := u.resetRegs (fun r e i => isSpn r && !spnInCu r && e == d && i == spIdx sp) fun c => c == .F
    (((v.clearSpin sp).setSpFld fSPN_STAT_STATE sp 2).setSpFld fSPN_STAT_IN_HANDLER sp 0).banksOff sp

/-! ## Routes to packages (R298) -/

/-- The flows that a change of the available choices of a package since an earlier state sends by another port are held: what they
used before is kept, of the first change where one is held already. -/
def State.holdFlows (s before : State) : State :=
  let ks := (List.range 4096).filter fun k => before.fld fWP_ROUTE_CHOICE 56 k != 0 || s.fld fWP_ROUTE_CHOICE 56 k != 0
  s.each (ks.filter fun k => before.choices k != s.choices k) fun k t =>
    if t.lat .flowHold k 0 ≠ 0 then t else (t.setLat .flowHold k 0 (packPorts (before.choices k))).setLat .flowSince k 0 s.now

/-! ## Dies (R22, R31, R528, Table RST-2) -/

/-- A quarry is lost (R225, R234, R365): what the recovery conditions need is kept, and a rollback is due. -/
def State.quarryLoss (s : State) (d : Nat) : State :=
  if s.lat .quarryLost d 0 ≠ 0 then s
  else
    let snap := (List.range 256).any fun i =>
      s.wfld fWD_EP_ENT0_STATE i != 0 && handleDie (s.wreg .WD_EP_ENT1 i).toNat == d &&
        !s.mirrorOk d (handleSlot (s.wreg .WD_EP_ENT1 i).toNat)
    let um := s.unmirrored d
    let t := ((s.setLat .quarryLost d 0 1).setLat .quarryUnmir d 0 um.toNat).setLat .quarryPartner d 0
      (if s.flag fQD_CFG_PARTNER_EN d 0 then s.partner d + 1 else 0)
    let t := t.each ((List.range' 48 8).filter fun e => e != d && t.quarryUp e) fun e u => u.sourcesGone s e
    t.trigger (dieUnit d) (if um || snap then 2 ^ 3 else 0)

/-- A register of a die's own blocks; the common block's mesh registers belong to the stop. -/
def inDie (d : Nat) (r : Reg) (e : Nat) : Bool :=
  let p := (regDesc r).place
  e == d && decide (p.dLo ≤ d) && decide (d ≤ p.dHi) && decide (d < 62) &&
    match r with | .DIE_ID | .MESH_STAT | .MESH_FLITS | .SPN_MAP => false | _ => true

/-- The class T fields of a die's blocks take the active warden's loaded values (R528): a quarry's guarantees are the only
ones a die holds. -/
def State.loadDieT (s : State) (d : Nat) : State :=
  if 48 ≤ d ∧ d < 56 then s.each (List.range 8) fun k u => u.setReg .QD_TEN d k (u.wreg .QD_TEN (8 * (d - 48) + k)) else s

/-- The contents of a compute die's scratchpads are lost, and of its pool where the rails open (R255, R531). -/
def State.clearDieMem (s : State) (d : Nat) (dark : Bool) : State := s.clearBytes (winBase d) (if dark then 0x84000000 else 0x80000000)

/-- Contents of a quarry's slice are lost: it writes zero to all of it (R531). -/
def State.clearSlice (s : State) (d : Nat) : State :=
  let t := s.clearBytes (sliceBase d) sliceSize
  let gone := fun (a : Nat) => decide (sliceBase d ≤ a) && decide (a < sliceBase d + sliceSize)
  { t with
    losses := t.losses.map fun x => match x with
      | .channel c => if c.die = d then .channel { c with die := 0 } else x
      | .copied dst src len => if gone dst then .copied 0 0 0 else .copied dst src len
    flaws := t.flaws.filter fun x => !gone (64 * x.1) }

/-- What a die loses with its reset or its rails: its members, its blocks' state and its users' claims. `dark`
where its rails open, so that memory contents go and its class T fields stay. -/
def State.dieGone (s : State) (d : Nat) (dark : Bool) : State :=
  let sps := (List.range 32).map fun i => d * 32 + i
  let t :=
    if d < 48 then
      let u := s.each sps fun sp v => v.loseSpindle sp 0
      let u := (u.each sps fun sp v => v.clearSpin sp).clearDieMem d dark
      (((u.freeLocks (ownedByDie d)).resetCdSide d).dropWaits d).unclaim d
    else if d < 56 then
      let u := s.quarryLoss d
      let u := u.setSkein d []
      if dark then u.clearSlice d else u
    else if d = 56 then { s with coll := [], collGroups := [] }
    else if d = 60 then { s.freeLocks (fun o => o == 0x8000 || o == 0x8001) with dma := [] }
    else s
  let t := t.resetLats fun n e _ => e == d && dieLats.any fun l => latId l == n
  let t := t.resetRegs (fun r e _ => inDie d r e) fun c => c == .F || c == .S || c == .E || c == .T
  let t := if dark then t else t.loadDieT d
  if 56 ≤ d ∧ d < 60 then t.holdFlows s else t

/-- A die's rails open (R31, R32): ON clears, LAST_CAUSE tells why where `cause` is not 0. -/
def State.railsOpen (s : State) (d cause : Nat) : State :=
  if s.flag fPW_DIE_ISO_ON 62 d then
    let t := (s.setFld fPW_DIE_ISO_ON 62 d 0).setWfld fWD_DIE_PWR_ACT d 0
    (if cause = 0 then t else t.setFld fPW_DIE_ISO_LAST_CAUSE 62 d cause).dieGone d true
  else s

/-- A die's isolation switch is commanded open. -/
def State.isolate (s : State) (d cause : Nat) : State := (s.setFld fPW_DIE_ISO_CLOSE 62 d 0).railsOpen d cause

/-- A hard trip or the leak latch keeps bring-up from starting (R535). -/
def State.railsBarred (s : State) : Bool := s.wflag fTH_STAT_TRIP 0 || s.wflag fWD_FORCE_LEAK_LATCH 0

/-- A die's rails are asked to close (R32): CLOSE takes no 1 with a trip latched nor for a retired die, and the rails stay
open while a hard trip is active. -/
def State.railsClose (s : State) (d : Nat) : State :=
  if s.flag fPW_DIE_ISO_TRIP 62 d || s.lat .dieRetired d 0 != 0 then s
  else if s.wflag fTH_STAT_TRIP 0 then s.setFld fPW_DIE_ISO_CLOSE 62 d 1
  else
    let t := (s.setFld fPW_DIE_ISO_CLOSE 62 d 1).setFld fPW_DIE_ISO_ON 62 d 1
    let t := t.setWfld fWD_DIE_PWR_ACT d 2
    let t := if s.flag fPW_DIE_ISO_ON 62 d || s.wfld fWD_DIE_PHASE_PHASE d == 3 then t else t.setWfld fWD_DIE_PHASE_PHASE d 1
    if d < 48 then t.cdDeliver d else t

/-- A mesh stop's rail closes (R23): not while it is retired or waits for a DIE reset. A hard trip and the leak latch bar the die's
rails alone (DEDUCED, log 166). -/
def State.stopClose (s : State) (d : Nat) : State :=
  if s.lat .stopRetired d 0 ≠ 0 ∨ s.lat .msReset d 0 ≠ 0 then s
  else (s.setFld fPW_DIE_ISO_MS_CLOSE 62 d 1).setFld fPW_DIE_ISO_MS_ON 62 d 1

/-- A mesh stop's rail opens: its count and its replay buffers are lost (R39). -/
def State.stopOff (s : State) (d : Nat) : State :=
  let t := s.setFld fPW_DIE_ISO_MS_CLOSE 62 d 0
  if s.flag fPW_DIE_ISO_MS_ON 62 d then (t.setFld fPW_DIE_ISO_MS_ON 62 d 0).meshForget d else t

/-- A mesh stop's rail opens with the die behind it (R23). -/
def State.stopOpen (s : State) (d cause : Nat) : State := (s.stopOff d).isolate d cause

end Sys2Proof.Machine
end

