-- ==== Sys2Proof/Machine/Retire.lean ====
section
/-! DEFINITION. Occurrences, tallies and retirements (R342 to R354, R21, R22, R227, R228, R294, R295), the
hold of the epoch machinery (R366, R377), and machine checks with their occurrence (R62). -/

namespace Sys2Proof.Machine

/-! ## Stopping enrolled units (R366, R377) -/

/-- A unit's running members stop: each word not retired is abandoned, and they end HALTED. -/
def State.stopUnit (s : State) (i : Nat) : State :=
  let ms := s.entryMembers i
  if ms.any fun m => s.spState m.2 == 3 || s.spState m.2 == 4 then
    let l := match ms.head? with | some m => s.leadOf m.2 | none => 0
    let pc := match (s.spin l).spool.head? with | some e => e.pc | none => s.spFld fSPN_PC_WORD l
    ((s.setLat .runAfter i 0 1).flush l (pc % 16384)).halted l
  else s

/-- Entries in use (Table REC-10). -/
def State.entries (s : State) : List Nat := (List.range 256).filter fun i => s.wfld fWD_EP_ENT0_STATE i != 0

/-- Every member of every enrolled unit stops (R366). -/
def State.stopUnits (s : State) : State :=
  s.each s.entries fun i t =>
    let u := t.stopUnit i
    let u := if u.wfld fWD_EP_ENT0_STATE i = 2 then u.setWfld fWD_EP_ENT0_STATE i 1 else u
    u.each (u.entryMembers i) fun m v => v.setLat .dbArrived m.2 0 0

/-- Quarries in service. -/
def State.quarries (s : State) : List Nat := (List.range' 48 8).filter s.quarryUp

/-- A quarry is quiesced (R233). -/
def State.quiesce (s : State) (d : Nat) : State := (s.setFld fQD_SKEIN_STAT_QUIESCED d 0 1).setLat .quiesceDue d 0 0

/-- The epoch machinery enters HELD (R377): units stopped, quarries quiesced; EV 0x8108 with the failed
condition or EV 0x8109. -/
def State.hold (s : State) (code payload : Nat) : State :=
  let t := s.stopUnits
  let t := t.each t.quarries fun d u => u.quiesce d
  ((t.setWfld fWD_EP_STAT_PHASE 0 5).setLat .rollbackDue 0 0 0).wevent code .fatal 0 payload

/-! ## Retired units (R345, R348) -/

/-- A unit is retired: by itself or with its die. -/
def State.isRetired (s : State) (u : Nat) : Bool :=
  s.sticky.retired.contains u || (u != 0xFFFF && decide (u / 1024 < 62) && s.sticky.retired.contains (dieUnit (u / 1024)))

/-- A unit joins the retired ones in the sticky block. -/
def State.addRetired (s : State) (u : Nat) : State :=
  if s.sticky.retired.contains u then s
  else
    let t := s.updSticky fun k => { k with retired := k.retired ++ [u] }
    t.setWfld fWD_RET_STAT_RETIRED 0 t.sticky.retired.length

/-- The retirement is appended to the log in flash, or lost at the next PKG or POR (R354). -/
def State.logRetired (s : State) (u cls : Nat) : State :=
  if s.retLog.length < 1024 then
    let t : State := { s with retLog := s.retLog ++ [(u, cls)] }
    t.setWfld fWD_RET_STAT_FREE 0 (1024 - t.retLog.length)
  else s.wevent 0x8114 .warn 0 u

/-! ## Spindles and twins (R349 to R351) -/

/-- The slot in service that a physical spindle answers. -/
def State.slotOf (s : State) (d ph : Nat) : Option Nat :=
  ((List.range 32).map fun i => d * 32 + i).find? fun sp => s.lat .slotRetired sp 0 == 0 && s.phys sp == ph

/-- The lowest-numbered spare of a die whose twin is not retired (R349). -/
def State.spareOf (s : State) (d : Nat) : Option Nat :=
  (List.range 34).find? fun ph =>
    (s.slotOf d ph).isNone && !s.isRetired (unitId d ph) && !s.flag fPW_TWIN_CTL_RETIRED d (ph / 2)

/-- A slot's physical spindle leaves service (R349, R350): a spare takes the slot, its banks OFF, or the slot
stays RETIRED. -/
def State.remap (s : State) (d sp : Nat) : State :=
  let t := s.loseSpindle sp 0
  match t.spareOf d with
  | some ph =>
    let u := t.twinOn d (ph / 2)
    let u := ((u.setSpFld fSPN_MAP_PHYS sp ph).setSpFld fSPN_MAP_SPARE sp 1).freshSpindle sp
    let u := (u.banksOff sp).setReg .CD_BNK_PWR d (spIdx sp) 0
    u.wevent 0x8111 .note 0 (ph + spIdx sp * 2 ^ 8)
  | none =>
    let u := (((t.setLat .slotRetired sp 0 1).clearSpin sp).banksOff sp).freeLocks fun o => o == ownerSpindle sp
    if u.lat .noSpare d 0 = 0 then (u.setLat .noSpare d 0 1).event 0x8112 .warn (dieUnit d) 0 else u

/-- A physical spindle is retired. -/
def State.retireSpindle (s : State) (d ph : Nat) : State :=
  match s.slotOf d ph with | some sp => s.remap d sp | none => s

/-- A twin is retired with both its spindles, the lower-numbered first (R351). -/
def State.retireTwin (s : State) (d k : Nat) : State :=
  let a := s.slotOf d (2 * k)
  let b := s.slotOf d (2 * k + 1)
  let t := ((s.setFld fPW_TWIN_CTL_RETIRED d k 1).addRetired (unitId d (2 * k))).addRetired (unitId d (2 * k + 1))
  let t := match a with | some sp => t.remap d sp | none => t
  let t := match b with | some sp => t.remap d sp | none => t
  ((t.setFld fPW_TWIN_CTL_STATE d k 0).setFld fPW_TWIN_CTL_VID_ACT d k 0).setFld fPW_TWIN_CTL_ILIM d k 0

/-! ## Dies and the mesh (R21, R22, R352) -/

/-- A die is retired (R352). -/
def State.retireDie (s : State) (d : Nat) : State :=
  ((s.setLat .dieRetired d 0 1).isolate d 2).event 0x8113 .fault (dieUnit d) 0

/-- A mesh link is retired (R21). -/
def State.retireLink (s : State) (d l : Nat) : State :=
  ((s.setLinkRetired d l).event 0x3121 .fault (unitId d (0x300 + l)) 0).reroute

/-- A mesh stop is retired, and the die behind it is lost (R22). -/
def State.retireStop (s : State) (d : Nat) : State :=
  let t := ((s.setLat .stopRetired d 0 1).event 0x3122 .fault (unitId d 0x310) 0).reroute
  if d < 48 then t.each ((List.range 32).map fun i => d * 32 + i) fun sp u => u.loseSpindle sp 0
  else if d < 56 then t.quarryLoss d
  else t

/-! ## Warp ports (R292 to R295) -/

/-- The die and the port on it of warp port `p` (R17). -/
def warpDie (p : Nat) : Nat := 56 + p / 4
/-- The unit of warp port `p`. -/
def warpUnit (p : Nat) : Nat := unitId (warpDie p) (p % 4)
/-- A field of a warp port. -/
def State.wpFld (s : State) (f : RField) (p : Nat) : Nat := s.fld f (warpDie p) (p % 4)
/-- Set a field of a warp port. -/
def State.setWpFld (s : State) (f : RField) (p x : Nat) : State := s.setFld f (warpDie p) (p % 4) x
/-- A saturating count of a warp port. -/
def State.satWpFld (s : State) (f : RField) (p n : Nat) : State := s.satFld f (warpDie p) (p % 4) n

/-- The flits a port keeps are discarded, and it carries nothing (R293). -/
def State.dropFlits (s : State) (p : Nat) : State :=
  (((s.setLat .warpUnacked p 0 0).setLat .warpReplays p 0 0).setLat .warpDrop p 0 0).each (List.range 4) fun vc t =>
    t.setLat .warpCredit p vc 0

/-- A port is retired (R295). -/
def State.retirePort (s : State) (p : Nat) : State :=
  let t := ((s.setWpFld fWP_PORT_STAT_STATE p 5).setWpFld fWP_PORT_STAT_LANES_UP p 0).dropFlits p
  (t.event 0x3204 .fault (warpUnit p) 0).holdFlows s

/-- A port retrains (R292): it holds its flits and negotiates again. -/
def State.warpRetrain (again : State → Nat → Nat → State) (s : State) (p : Nat) : State :=
  let t := ((s.setWpFld fWP_PORT_STAT_STATE p 1).satWpFld fWP_PORT_ERR_RETRAINS p 1).setWpFld fWP_PORT_CTL_RETRAIN p 1
  let t := (t.setWpFld fWP_PORT_STAT_LANES_UP p 0).setLat .warpReplays p 0 0
  let t := (t.event 0x3202 .warn (warpUnit p) 0).holdFlows s
  again t 0x0D (warpUnit p)

/-- Lanes in a mask. -/
def popc8 (x : Nat) : Nat := ((List.range 8).filter fun k => x.testBit k).length

/-- A lane is retired (R294): the port retrains without it, or is retired where fewer than 4 that neither end retired are left (R295). -/
def State.retireLane (again : State → Nat → Nat → State) (s : State) (p l : Nat) : State :=
  let m := s.wpFld fWP_PORT_STAT_RETIRED_LANES p ||| 2 ^ l
  let t := (s.setWpFld fWP_PORT_STAT_RETIRED_LANES p m).event 0x3203 .fault
    (unitId (warpDie p) (0x10 + 8 * (p % 4) + l)) 0
  if 8 - popc8 (m ||| s.lat .warpPeer p 0) < 4 then (t.addRetired (warpUnit p)).retirePort p
  else if t.wpFld fWP_PORT_STAT_STATE p = 0 ∨ t.wpFld fWP_PORT_STAT_STATE p = 5 then t
  else t.warpRetrain again p

/-! ## Retiring by unit (Table REC-2, Table FL-11) -/

/-- A unit leaves service by its own rule. -/
def State.enact (again : State → Nat → Nat → State) (s : State) (u : Nat) : State :=
  let d := u / 1024
  let x := u % 1024
  if 62 ≤ d then
    if x = 0 then ((s.wdr d 0).setLat .wardenHeld d 0 1).checkRole else s
  else if x = 0x3FF then s.retireDie d
  else if 0x300 ≤ x ∧ x < 0x304 then s.retireLink d (x - 0x300)
  else if x = 0x310 then s.retireStop d
  else if d < 48 then
    if x < 34 then s.retireSpindle d x
    else if 0x40 ≤ x ∧ x < 0x51 then s.retireTwin d (x - 0x40)
    else s
  else if d < 56 then
    if 0x100 ≤ x ∧ x < 0x180 then s.retirePc d (x - 0x100) else s
  else if d < 60 then
    if x < 4 then s.retirePort ((d - 56) * 4 + x)
    else if 0x10 ≤ x ∧ x < 0x30 then s.retireLane again ((d - 56) * 4 + (x - 0x10) / 8) ((x - 0x10) % 8)
    else s
  else s

/-- To retire a unit (R348): EV 0x8110, its own rule, the log. The last warden in service is never retired
(R353). -/
def State.retireUnit (again : State → Nat → Nat → State) (s : State) (u cls : Nat) : State :=
  if s.isRetired u || (decide (62 ≤ u / 1024) && u % 1024 == 0 && s.isRetired (unitId (otherWarden (u / 1024)) 0)) then s
  else
    let t := (s.addRetired u).event 0x8110 .fault u (u + cls * 2 ^ 16)
    (t.enact again u).logRetired u cls

/-! ## Occurrences (R343 to R346) -/

/-- The ACTION of a permanent occurrence. -/
def State.takeAction (again : State → Nat → Nat → State) (s : State) (cls u : Nat) : State :=
  match s.wfld fWD_FLT_THR_ACTION cls with
  | 0 => s.event 0x8110 .warn u (u + cls * 2 ^ 16)
  | 1 => s.retireUnit again u cls
  | 2 => s.retireUnit again (if 62 ≤ u / 1024 then unitId (u / 1024) 0 else dieUnit (u / 1024)) cls
  | 3 => s.hold 0x8109 cls
  | _ => s

/-- One occurrence of a class at a unit, counted and acted on; `n` bounds the chain of occurrences one can
cause (a lane's retirement retrains its port). -/
def State.occurN : Nat → State → Nat → Nat → State
  | 0, s, _, _ => s
  | n + 1, s, cls, u =>
    if s.isRetired u then s
    else
      let k := u * 32 + cls
      let old := sget (0, 0) s.sticky.tallies k
      let fresh : Bool := old.1 == 0 || s.wfld fWD_FLT_THR_WINDOW_MS cls == 0 ||
        decide (s.wfld fWD_FLT_THR_WINDOW_MS cls * 1000000 < s.now - old.2)
      let new : Nat × Nat := if fresh then (1, s.now) else (old.1 + 1, old.2)
      let t := s.updSticky fun x => { x with tallies := sset (0, 0) x.tallies k new }
      if s.wfld fWD_FLT_THR_COUNT cls < new.1 then t.takeAction (State.occurN n) cls u else t

/-- One occurrence of a class at a unit (R343). -/
def State.occur (s : State) (cls u : Nat) : State := State.occurN 4 s cls u

/-- The causes of a machine check in the order R62 lists them: the code of an event's payload. -/
def mcReplays : Nat := 1
/-- A read-out's residue. -/
def mcResidue : Nat := 2
/-- A multi-bit ECC error. -/
def mcEcc : Nat := 3
/-- A request completed with DIE_LOST. -/
def mcDieLost : Nat := 4

/-- A spindle takes a machine check (R62), which is one occurrence of class 0x01. -/
def State.check (s : State) (sp cause : Nat) : State :=
  let u := s.spUnit sp
  (s.checkSpindle sp cause).occur 0x01 u

/-- The loss of a member as a machine check's cause: the fifth of R62. -/
def mcMemberLost : Nat := 5

/-- A lost member still stands in its slot, to take the machine check of R62. -/
def State.standsLost (s : State) (sp : Nat) : Bool :=
  s.inRealPly sp && s.dieUp (spDie sp) && s.spPowered sp && s.spState sp != 5 && s.spState sp != 6 &&
    match s.plyOf sp with
    | some p => !p.gone.contains (s.pkg, sp)
    | none => false

/-- The sequencer reports a lost member of this package (R62, R180, R189): the lost spindle, where it still stands, is
CHECKED, which is one occurrence of class 0x01; the others let their committed words end and halt. -/
def State.reportLost (s : State) (sp : Nat) : State :=
  if s.standsLost sp then
    (((s.event 0x1111 .fault (s.spUnit sp) mcMemberLost).loseSpindle sp mcMemberLost).setSpFld fSPN_STAT_STATE sp 5).occur
      0x01 (s.spUnit sp)
  else s.loseSpindle sp mcMemberLost

/-- A member in another package is lost, with its package or every warp route to it (R189, R365). -/
def State.loseRemote (s : State) (m : Nat × Nat) : State :=
  match s.plies.find? fun p => p.members.contains m with
  | none => s
  | some p =>
    let h := p.members.head?.getD (0, 0)
    let t := match s.here p.members with | q :: _ => s.noteRunning q | [] => s
    let t := t.memberGone m mcMemberLost
    match s.enrolment h.1 h.2 with
    | some i => (t.setWfld fWD_EP_ENT0_STATE i 3).trigger (plyUnit (spDie h.2)) 0
    | none => t

/-- PLY_MEMBER_LOST (R189): member `sp` of package `pkg`. -/
def execPlyMemberLost (pkg sp : Nat) (s : State) : Out :=
  ifUnit (pkg < 4096 && sp < nSpindles) (if pkg = s.pkg then s.reportLost sp else s.loseRemote (pkg, sp))

end Sys2Proof.Machine
end

