-- ==== Sys2Proof/Machine/Fragments.lean ====
section
/-! DEFINITION. Fragments as every reader and writer of HBM and CXL memory meets them (R195, R196, R218 to R221, R224, R229,
R230, R233, R280, R281): errors corrected, rebuilt or lost, the slots they take, plain reads and writes. -/

namespace Sys2Proof.Machine

/-! ## Errors (R195, R221, R224) -/

/-- A correctable error is corrected and written back. -/
def State.fragCorrect (s : State) (a : Nat) : State :=
  let d := sliceDie a
  let p := pcOf (a - sliceBase d)
  (((s.setFlaw a 0).satFld fQD_PC_CORR d p 1).event 0x2101 .note (pcUnit d p) a).occur 0x09 (pcUnit d p)

/-- An uncorrectable error is counted: EV 0x2102 where the fragment was rebuilt, else EV 0x2103. -/
def State.fragUncorrected (s : State) (a : Nat) (rebuilt : Bool) : State :=
  let d := sliceDie a
  let p := pcOf (a - sliceBase d)
  ((s.satFld fQD_PC_UNCORR d p 1).event (if rebuilt then 0x2102 else 0x2103) .fault (pcUnit d p) a).occur 0x0A (pcUnit d p)

/-- A fragment is rebuilt from its stripe, at three reads, or read from the other copy, in that quarry; a fragment that failed
there is written back. -/
def State.fragRebuild (s : State) (a : Nat) (h : Shield) : State :=
  let d := sliceDie a
  if !h.copy then (s.slots d 9).rebuilt d 1
  else if s.flaw a = 2 then ((s.slots (sliceDie h.base) 3).slots d 6).setFlaw a 0
  else s.slots (sliceDie h.base) 3

/-- The fragment at an address where bytes stand is read: its slots (Table QD-8) and what becomes of an error it holds. -/
def State.noteRaw (s : State) (a : Nat) : State :=
  if a < 0x12000000000 then
    if s.isLost a then s
    else match s.flaw a with
      | 0 =>
        if s.degradedAt a then match s.rebuilder a with
          | some h => s.fragRebuild a h
          | none => s.slots (sliceDie a) 3
        else s.slots (sliceDie a) 3
      | 1 => (s.fragCorrect a).slots (sliceDie a) 6
      | _ => match s.rebuilder a with
        | some h => (s.fragUncorrected a true).fragRebuild a h
        | none => (s.fragUncorrected a false).slots (sliceDie a) 3
  else if s.flaw a = 2 ∧ s.cxlLost (cxlPort a) = false then s.event 0x3404 .fault (cxlUnitAt a) a
  else s

/-- Where the bytes of a fragment at an address stand; none where it is not served. -/
def State.rawAt (s : State) (a : Nat) : Option Nat :=
  match s.site a with
  | .bad _ => none
  | .free => some a
  | .region d k off => (s.homes d k).head?.map fun h => h.2 + off

/-- What a read of HBM or CXL memory does beside answering: each fragment up to the first that is lost. -/
def State.noteRead (s : State) (a n : Nat) : State :=
  ((pieces a n).foldl (fun (acc : Bool × State) (p : Nat × Nat) =>
    if acc.1 then
      match acc.2.rawAt p.1 with
      | some x => (acc.2.fragOk x, acc.2.noteRaw x)
      | none => (false, acc.2)
    else acc) (true, s)).2

/-- The rows of a region are read: the same, by byte offset. -/
def State.noteRgn (s : State) (d k off n : Nat) : State :=
  match (s.homes d k).head? with
  | some h => s.each (pieces (h.2 + off) n) fun p t => t.noteRaw p.1
  | none => s

/-- The old bytes of a region for a record: of a fragment that cannot be read, free values. -/
def State.rgnOld (s : State) (d k off n : Nat) : List Byte :=
  if s.rgnReadable d k off n then s.rgnRead d k off n
  else (List.range n).map fun i => Config.freeByte (Nat.pair s.free off) i

/-! ## Writes (R218, R229, R230, R233, R281) -/

/-- Outside every region. -/
def State.writeFree (s : State) (a : Nat) (bs : List Byte) : Status × State :=
  if a < 0x12000000000 then
    if s.quiescing (sliceDie a) then (.held, s) else (.ok, ((s.setBytes a bs).mend a bs.length).slots (sliceDie a) 3)
  else if s.cxlLost (cxlPort a) then (.ok, s.cxlDiscard a)
  else (.ok, (s.setBytes a bs).mend a bs.length)

/-- In a region: in an epoch region the whole fragment is logged first. -/
def State.writeRgn (s : State) (d k off a : Nat) (bs : List Byte) : Status × State :=
  let r := s.rgnServed d k
  let f := off / 64 * 64
  if (s.loggers d k).any s.quiescing then (.held, s)
  else if !s.rgnWritable d k then (.ok, s.cxlDiscard a)
  else if r.nonEpoch then
    let t := if r.parity then s.noteRgn d k f 64 else s
    (.ok, (t.rgnWrite d k off bs).spendChange d k r 1 none)
  else if s.logFits d k 64 then
    let t : State := { s.noteRgn d k f 64 with free := s.free + 1 }
    (.ok, ((t.logOld d k f true (s.rgnOld d k f 64)).rgnWrite d k off bs).spendChange d k r 1 (some 1))
  else (.held, s.logStall d k 64)

/-- A write of a fragment. -/
def State.writePiece (s : State) (a : Nat) (bs : List Byte) : Status × State :=
  match s.site a with
  | .bad st => (st, s)
  | .free => s.writeFree a bs
  | .region d k off => s.writeRgn d k off a bs

/-- A write of HBM or CXL memory, fragment by fragment; it stops at the first that is not served. -/
def State.writeSlow (s : State) (a : Nat) (bs : List Byte) : Status × State :=
  (pieces a bs.length).foldl (fun acc (p : Nat × Nat) =>
    if acc.1 ≠ .ok then acc else acc.2.writePiece p.1 ((bs.drop (p.1 - a)).take p.2)) (.ok, s)

/-! ## Plain accesses (R195, R198, R218, R223, R224, R280) -/

/-- An unpopulated address answers a master (R38). -/
def State.unpopulated (s : State) (m : Master) (write : Bool) (u a : Nat) : State :=
  let t := s.event 0x3F01 .warn u a
  match m with
  | .host _ => if write then t.answer .ok [] else t.answer .unsupported []
  | _ => t.answer .addressFault []

/-- How a plain access ends for its master: a spindle that receives DATA_LOST takes a machine check (R195). -/
def State.endPlain (s : State) (m : Master) (write : Bool) (u a : Nat) (st : Status) (bs : List Byte) : State :=
  match st, m with
  | .unsupported, _ => s.unpopulated m write u a
  | .dataLost, .spindle sp => (s.check sp mcEcc).answer .dataLost []
  | _, _ => s.answer st bs

/-- The number of an error in a fragment. -/
def eccFlaw (e : Ecc) (poison : Bool) (a : Nat) : Nat :=
  if 0x12000000000 ≤ a then (if poison then 2 else 0) else match e with | .good => 0 | .corrected => 1 | .multibit => 2

/-- The first fragment of an access comes to hold an error, where the access shows one. -/
def State.strikeFlaw (s : State) (a x : Nat) : State :=
  match s.rawAt a with
  | some b => if x = 0 then s else s.setFlaw b x
  | none => s

/-- A plain read or write of a quarry's slice or of CXL memory. A read finds the error in its first fragment; a write leaves
it there. -/
def State.plainAccess (s : State) (m : Master) (a n : Nat) (data : Option (List Byte)) (x : Nat) : State :=
  let unit := if a < 0x12000000000 then engineUnit (sliceDie a) else cxlUnitAt a
  match data with
  | some bs =>
    let r := s.writeSlow a bs
    (if r.1 = .ok then r.2.strikeFlaw a x else r.2).endPlain m true unit a r.1 []
  | none =>
    let t := s.strikeFlaw a x
    let r := t.readSlow a n
    (t.noteRead a n).endPlain m false unit a r.1 r.2

/-- A plain access: a read of `n` bytes, or a write. -/
def execQdPlainAccess (m : Master) (addr len : Nat) (data : Option (List Byte)) (err : Ecc) (poison : Bool)
    (s : State) : Out :=
  .next (match s.locate addr with
    | .hbm _ | .cxl _ => s.plainAccess m addr len data (eccFlaw err poison addr)
    | _ => s.unpopulated m data.isSome (dieUnit 60) addr)

/-! ## The scrubber (R196, R197) -/

/-- The slice offsets at which the parity, the spare and the skein carve begin (R197). -/
def State.carves (s : State) (d : Nat) : Nat × Nat × Nat :=
  let g := s.fld fQD_CARVE_SKEIN_GIB d 0
  let top := sliceSize - (g + (g + 2) / 3) * 2 ^ 30
  let spare := top - s.fld fQD_CARVE_SPARE_GIB d 0 * 2 ^ 30
  (spare - s.fld fQD_CARVE_PARITY_GIB d 0 * 2 ^ 30, spare, top)

/-- What a carve's fragment is rebuilt from (R195, R219, R227): records of the skein from the carve's stripes; a parity block, or a
block the spare carve holds, from the stripe it belongs to. Which stripe that is is not architectural: with other channels out,
whether it stands is a free value. -/
def State.carveStands (s : State) (d o : Nat) : Bool :=
  let c := s.carves d
  let some_ := (s.pcsDown d).isEmpty || Config.freeChoice (Nat.pair s.free o) % 2 == 1
  if c.2.2 ≤ o then
    if o < c.2.2 + s.skeinCap d then stripeStands (s.pcsDown d) c.2.2 o else some_
  else if c.2.1 ≤ o then (List.range 128).any (fun p => s.lat .pcKept d p != 0) && some_
  else (s.guarded d).any (fun x => x.2.2) && some_

/-- The patrol scrubber reads a fragment of a carve. -/
def State.scrubCarve (s : State) (d a : Nat) : State :=
  let ok := s.carveStands d (a - sliceBase d)
  let t := match s.flaw a with
    | 0 => s.slots d 3
    | 1 => (s.fragCorrect a).slots d 6
    | _ => if ok then (((s.fragUncorrected a true).slots d 9).rebuilt d 1) else (s.fragUncorrected a false).slots d 3
  { t with free := t.free + 1 }

/-- The patrol scrubber reads the next fragment (R196), and finds `err`: no reads with SCRUB_H zero. -/
def execPatrolScrubRead (addr : Nat) (err : Ecc) (s : State) : Out :=
  ifUnit (addr < 0x12000000000)
    (let d := sliceDie addr
    let a := addr / 64 * 64
    if s.quarryUp d && s.fld fQD_CFG_SCRUB_H d 0 != 0 && !s.dieRetained d then
      let t := if err = .good then s else s.setFlaw a (eccFlaw err false a)
      if (s.carves d).1 ≤ a - sliceBase d then t.scrubCarve d a else t.noteRaw a
    else s)

end Sys2Proof.Machine
end

