-- ==== Sys2Proof/Machine/Regions.lean ====
section
/-! DEFINITION. The quarries (chapter 06): carves, the region commands, the skein commands, the loss of a quarry or of a
partner, rebuilds. -/

namespace Sys2Proof.Machine

/-- A quarry die. -/
def isQuarry (d : Nat) : Bool := decide (48 ≤ d) && decide (d < 56)

/-- EV 0x2112: a QD_ register write was refused. -/
def State.qdRefused (s : State) (d : Nat) : State := s.event 0x2112 .warn (engineUnit d) 0

/-- EV 0x2110: a region command failed, or a carve, partner or tenancy write was ignored. -/
def State.qdIgnored (s : State) (d payload : Nat) : State := s.event 0x2110 .warn (engineUnit d) payload

/-- A write reaches a die's register (R22, R32): the die is there. -/
def State.toDie (s : State) (d : Nat) (f : State → State) : State :=
  if s.dieUp d then f s else s.answer .dieLost []

/-- A write of a QD_ register by any master but a spindle (chapter 06, Registers). -/
def State.qdWrite (s : State) (m : Master) (d : Nat) (f : State → State) : State :=
  s.toDie d fun t => match m with
    | .spindle _ => t.qdRefused d
    | _ => f t

/-! ## Configuration (R198, R208, R222) -/

/-- GiB of the three carves of a QD_CARVE value (R197). -/
def carveGib (v : W64) : Nat := getBits v 4 0 + (getBits v 4 0 + 2) / 3 + getBits v 12 8 + getBits v 23 16

/-- QD_CARVE written (R197, R198). -/
def execQdCarveWrite (m : Master) (d : Nat) (v : W64) (s : State) : Out :=
  ifUnit (isQuarry d) (s.qdWrite m d fun t =>
    if !(t.rgnSlots d).isEmpty || !(t.mirSlots d).isEmpty || decide (16 < getBits v 4 0) || decide (144 < carveGib v)
    then t.qdIgnored d 0
    else (t.plainWrite .QD_CARVE d 0 v).setFld fQD_OPEN_TOP_ADDR d 0 (sliceBase d + sliceSize - carveGib v * 2 ^ 30))

/-- A quarry holds a mirrored region. -/
def State.anyMirrored (s : State) (d : Nat) : Bool := (s.rgnSlots d).any fun k => (s.rgn d k).mirror

/-- QD_CFG written (R222). -/
def execQdCfgWrite (m : Master) (d : Nat) (v : W64) (s : State) : Out :=
  ifUnit (isQuarry d) (s.qdWrite m d fun t =>
    let en := bitOf v 8
    let changes := en != t.flag fQD_CFG_PARTNER_EN d 0 || getBits v 2 0 != t.fld fQD_CFG_PARTNER d 0
    if (en && getBits v 2 0 == d - 48) || (changes && t.anyMirrored d) then t.qdIgnored d 0
    else t.plainWrite .QD_CFG d 0 v)

/-- The sum of the RATE fields with entry `k` at `r` (R208). -/
def State.rateSum (s : State) (d k r : Nat) : Nat :=
  (List.range 8).foldl (fun n j => n + if j = k then r else s.fld fQD_TEN_RATE d j) 0

/-- QD_TEN written (R208). -/
def execQdTenWrite (m : Master) (d k : Nat) (v : W64) (s : State) : Out :=
  ifUnit (isQuarry d && k < 8) (s.qdWrite m d fun t =>
    if 750 < t.rateSum d k (getBits v 25 16) then t.qdIgnored d 0 else t.plainWrite .QD_TEN d k v)

/-! ## Region commands (R203 to R206) -/

/-- The staged descriptor. -/
def State.staged (s : State) (d : Nat) : Rgn :=
  rgnOfWords (s.reg .QD_RGN_STAGE0 d 0) (s.reg .QD_RGN_STAGE1 d 0) (s.reg .QD_RGN_STAGE2 d 0) (s.reg .QD_RGN_STAGE3 d 0)

/-- The bits of a staged word that are no field of Table QD-3. -/
def stageReserved : Nat → W64
  | 0 => maskOf 63 52 ||| maskOf 11 0
  | 1 => maskOf 63 55 ||| maskOf 51 50 ||| maskOf 47 46 ||| maskOf 43 42 ||| maskOf 39 39 ||| maskOf 31 31
  | 2 => maskOf 63 52 ||| maskOf 11 4
  | _ => maskOf 63 44

/-- A reserved bit of the staged descriptor is not zero. -/
def State.stageBad (s : State) (d : Nat) : Bool :=
  s.reg .QD_RGN_STAGE0 d 0 &&& stageReserved 0 != 0 || s.reg .QD_RGN_STAGE1 d 0 &&& stageReserved 1 != 0 ||
    s.reg .QD_RGN_STAGE2 d 0 &&& stageReserved 2 != 0 || s.reg .QD_RGN_STAGE3 d 0 &&& stageReserved 3 != 0

/-- A cold region (R235). -/
def Rgn.cold (r : Rgn) : Bool := decide (0x12000000000 ≤ r.base)

/-- Two spans overlap. -/
def overlaps (a n b m : Nat) : Bool := decide (a < b + m) && decide (b < a + n)

/-- A span overlaps a region of any quarry but die `d`'s slot `k`, or a copy held by die `h`. -/
def State.taken (s : State) (d k h a n : Nat) : Bool :=
  ((List.range' 48 8).any fun e => (s.rgnSlots e).any fun j =>
    !(e == d && j == k) && overlaps a n (s.rgn e j).base (s.rgn e j).size) ||
  (s.mirSlots h).any fun j => overlaps a n (s.mir h j).mbase (s.mir h j).size

/-- A span lies in the open area of a quarry. -/
def State.inOpen (s : State) (d a n : Nat) : Bool :=
  decide (sliceBase d ≤ a) && decide (a + n ≤ (s.reg .QD_OPEN_TOP d 0).toNat)

/-- A span lies in one CXL port's slice, on bytes its expander has (R37, R235). -/
def State.inCxl (s : State) (a n : Nat) : Bool :=
  decide (0x40000000000 ≤ a) && decide (a < 0xC0000000000) &&
    decide ((a - 0x40000000000) % 0x20000000000 + n ≤ s.cxlBytes (cxlPort a))

/-- Bytes of the parity carve in use, leaving out region slot `k`. -/
def State.parityUsed (s : State) (d k : Nat) : Nat :=
  ((s.rgnSlots d).filter fun j => j != k).foldl (fun n j => n + (s.rgn d j).paritySize) 0 +
    (s.mirSlots d).foldl (fun n j => n + (s.mir d j).paritySize) 0

/-- The parity carve holds a region's parity beside what it holds. -/
def State.parityFits (s : State) (d k : Nat) (r : Rgn) : Bool :=
  decide (s.parityUsed d k + r.paritySize ≤ s.fld fQD_CARVE_PARITY_GIB d 0 * 2 ^ 30)

/-- What a region counts for its tenancy: itself, its parity, its copy and the copy's parity (R208). -/
def Rgn.cost (r : Rgn) : Nat := (r.size + r.paritySize) * (if r.mirror then 2 else 1)

/-- Bytes of a tenancy's regions in a quarry, leaving out slot `k`. -/
def State.tenUsed (s : State) (d k t : Nat) : Nat :=
  ((s.rgnSlots d).filter fun j => j != k && (s.rgn d j).owner == t).foldl (fun n j => n + (s.rgn d j).cost) 0

/-- A 44-bit format definition passes the checks of Table FMT-4 and is not block-scaled (R202). -/
def fmtdefOk (x : Nat) : Bool := fmtCheck (BitVec.ofNat 128 x) == 0 && getBits (BitVec.ofNat 64 x) 39 32 == 0

/-- The failing codes of a LOAD (Table QD-4). -/
def State.loadCodes (s : State) (d k : Nat) : List Nat :=
  let r := s.staged d
  let p := s.partner d
  let code := fun (c : Nat) (b : Bool) => if b then [c] else []
  code 1 (s.stageBad d) ++
  code 2 (r.rows == 0 || r.rowlen == 0) ++
  code 3 (decide (64 < r.rowlen) || decide (5 < r.cls) || r.opt == 3) ++
  code 4 ((if r.cls = 5 then !fmtdefOk r.fmtdef else r.fmtdef != 0) ||
    (r.opt != 0 && (r.cls == 3 || r.cls == 4 || (r.cls == 5 && getBits (BitVec.ofNat 64 r.fmtdef) 7 4 == 0)))) ++
  code 5 (!(s.inOpen d r.base r.size || s.inCxl r.base r.size) || s.taken d k d r.base r.size) ++
  code 6 (r.parity && !s.parityFits d k r) ++
  code 7 (if r.mirror then
      !s.flag fQD_CFG_PARTNER_EN d 0 || !s.quarryUp p || s.mirState p k != 0 || !s.inOpen p r.mbase r.size ||
        s.taken d k p r.mbase r.size || (r.parity && !s.parityFits p 256 r) || r.cold
    else r.mbase != 0 || (r.parity && r.cold)) ++
  code 8 (!r.nonEpoch && s.fld fQD_CARVE_SKEIN_GIB d 0 == 0) ++
  code 9 (decide (s.fld fQD_TEN_CAP_GIB d r.owner * 2 ^ 30 < s.tenUsed d k r.owner + r.cost)) ++
  code 0xA (s.rgnState d k != 0)

/-- A region command fails at once (R203): RESULT and EV 0x2110. -/
def State.rgnFail (s : State) (d c : Nat) : State :=
  ((s.setFld fQD_RGN_STAT_RESULT d 0 c).setFld fQD_RGN_STAT_BUSY d 0 0).qdIgnored d c

/-- A write of QD_RGN_CMD (R206): refused while BUSY, or from a master other than a host port or the active
warden. -/
def State.rgnCmd (s : State) (m : Master) (d : Nat) (v : W64) (f : Nat → State → State) : State :=
  s.toDie d fun t =>
    if t.flag fQD_RGN_STAT_BUSY d 0 || !t.hostOrActive m then (t.setFld fQD_RGN_STAT_REFUSED d 0 1).qdRefused d
    else f (getBits v 15 8) (t.plainWrite .QD_RGN_CMD d 0 v)

/-- Copy the staged words into a slot and its mirror entry. -/
def State.placeRgn (s : State) (d k : Nat) (mirror : Bool) : State :=
  let t := (((s.setReg .QD_RGN0 d k (s.reg .QD_RGN_STAGE0 d 0)).setReg .QD_RGN1 d k (s.reg .QD_RGN_STAGE1 d 0)).setReg
    .QD_RGN2 d k (s.reg .QD_RGN_STAGE2 d 0)).setReg .QD_RGN3 d k (s.reg .QD_RGN_STAGE3 d 0)
  let t := (t.setReg .QD_RGN_INFO d k 1).setLat .rgnHurt d k 0
  if mirror then
    let p := s.partner d
    let u := (((t.setReg .QD_MIR0 p k (s.reg .QD_RGN_STAGE0 d 0)).setReg .QD_MIR1 p k (s.reg .QD_RGN_STAGE1 d 0)).setReg
      .QD_MIR2 p k (s.reg .QD_RGN_STAGE2 d 0)).setReg .QD_MIR3 p k (s.reg .QD_RGN_STAGE3 d 0)
    u.setReg .QD_MIR_INFO p k 1
  else t

/-- LOAD (R203, R204): the staged descriptor is checked, and the slot becomes LOADING. -/
def execRegionLoad (m : Master) (d : Nat) (v : W64) (s : State) : Out :=
  ifUnit (isQuarry d) (if getBits v 3 0 = 1 then s.rgnCmd m d v fun k t =>
    match lowest (t.loadCodes d k) with
    | some c => t.rgnFail d c
    | none => ((t.placeRgn d k (t.staged d).mirror).setFld fQD_RGN_STAT_BUSY d 0 1).setLat .rgnDue d 0 (k + 1)
  else s)

/-- Bytes of memory copied to another place, which then holds what the source holds: a lost block or an error that cannot be
mended is lost there too. -/
def State.copyBytes (s : State) (a b n : Nat) : State :=
  let src := s.mem.filter fun c => decide (a ≤ c.1) && decide (c.1 < a + n)
  let bad := s.flaws.filter fun x => x.2 == 2 && decide (a ≤ 64 * x.1) && decide (64 * x.1 < a + n) && (s.rebuilder (64 * x.1)).isNone
  let t := s.clearBytes b n
  { t with
    mem := src.foldl (fun m c => sset memBlank m (b + (c.1 - a)) c.2) t.mem
    losses := if s.losses.isEmpty then [] else .copied b a n :: s.losses
    flaws := bad.foldl (fun m x => sset 0 m ((b + (64 * x.1 - a)) / 64) 2)
      (t.flaws.filter fun x => !(decide (b ≤ 64 * x.1) && decide (64 * x.1 < b + n))) }

/-- A region command completes (Table QD-4, DONE). -/
def State.rgnDone (s : State) (d : Nat) : State :=
  (((s.setFld fQD_RGN_STAT_RESULT d 0 0).setFld fQD_RGN_STAT_BUSY d 0 0).setLat .rgnDue d 0 0).event 0x2111 .note
    (engineUnit d) 0

/-- STATE of a region whose command ends: DAMAGED where it holds a block lost while LOADING (R228). -/
def State.loadedState (s : State) (d k st : Nat) : Nat := if s.lat .rgnHurt d k ≠ 0 then 4 else st

/-- A LOAD ends (R204): parity and copy stand, and the slot is ACTIVE. -/
def execRegionLoadDone (d : Nat) (s : State) : Out :=
  ifUnit (isQuarry d)
    (let k := s.lat .rgnDue d 0 - 1
    if s.lat .rgnDue d 0 ≠ 0 ∧ s.rgnState d k = 1 then
      let r := s.rgn d k
      let p := s.partner d
      if r.mirror then
        if s.quarryUp p && s.mirState p k == 1 then
          let t := (s.copyBytes r.base r.mbase r.size).setFld fQD_RGN_INFO_STATE d k (s.loadedState d k 2)
          let t := (t.setFld fQD_RGN_INFO_MIRROR_OK d k 1).setFld fQD_MIR_INFO_STATE p k 2
          (t.setFld fQD_MIR_INFO_MIRROR_OK p k 1).rgnDone d
        else (s.setFld fQD_RGN_INFO_STATE d k (s.loadedState d k 3)).rgnDone d
      else (s.setFld fQD_RGN_INFO_STATE d k (s.loadedState d k 2)).rgnDone d
    else s)

/-- The quarry whose skein an UNLOAD of slot `k` must find free of the region's records (R205, R225). -/
def State.servingDie (s : State) (d k : Nat) : Nat := if s.lat .servedBy d k ≠ 0 then s.lat .servedBy d k - 1 else d

/-- UNLOAD (R205): the slot becomes UNLOADING. -/
def execRegionUnload (m : Master) (d : Nat) (v : W64) (s : State) : Out :=
  ifUnit (isQuarry d) (if getBits v 3 0 = 2 then s.rgnCmd m d v fun k t =>
    if t.rgnState d k = 0 then t.rgnFail d 0xB
    else if (t.skein (t.servingDie d k)).any fun r => r.handle == t.handleOf d k then t.rgnFail d 0xC
    else ((t.setFld fQD_RGN_INFO_STATE d k 5).setFld fQD_RGN_STAT_BUSY d 0 1).setLat .rgnDue d 0 (k + 1)
  else s)

/-- A table word has not finished on a region. -/
def State.wordOn (s : State) (d k : Nat) : Bool :=
  (List.range nSpindles).any fun sp => s.lat .tblFly sp 0 == 1 + k + 256 * d &&
    match (s.spin sp).spool.head? with | some e => e.started | none => false

/-- A region slot is empty again. -/
def State.emptySlot (s : State) (d k : Nat) : State :=
  let t := (((s.setReg .QD_RGN0 d k 0).setReg .QD_RGN1 d k 0).setReg .QD_RGN2 d k 0).setReg .QD_RGN3 d k 0
  t.setReg .QD_RGN_INFO d k 0

/-- A mirror entry is empty again. -/
def State.emptyMir (s : State) (d k : Nat) : State :=
  let t := (((s.setReg .QD_MIR0 d k 0).setReg .QD_MIR1 d k 0).setReg .QD_MIR2 d k 0).setReg .QD_MIR3 d k 0
  t.setReg .QD_MIR_INFO d k 0

/-- An UNLOAD ends (R205, R225): the slot and its mirror entry are free; a region its partner served returns to
its own quarry. -/
def execRegionUnloadDone (d : Nat) (s : State) : Out :=
  ifUnit (isQuarry d)
    (let k := s.lat .rgnDue d 0 - 1
    if s.lat .rgnDue d 0 ≠ 0 ∧ s.rgnState d k = 5 ∧ s.wordOn d k = false then
      let by_ := s.lat .servedBy d k
      if by_ ≠ 0 then ((((s.emptyMir (by_ - 1) k).setLat .servedBy d k 0).emptySlot d k).reroute).rgnDone d
      else
        let mirrored := (s.rgn d k).mirror && s.quarryUp (s.partner d) &&
          s.mirState (s.partner d) k != 0 && sliceDie (s.mir (s.partner d) k).base == d
        (((if mirrored then s.emptyMir (s.partner d) k else s)).emptySlot d k).rgnDone d
    else s)

/-- A reserved OP (R203). -/
def execRegionBadCommand (m : Master) (d : Nat) (v : W64) (s : State) : Out :=
  ifUnit (isQuarry d)
    (if getBits v 3 0 = 0 ∨ 3 ≤ getBits v 3 0 then s.rgnCmd m d v fun _ t => t.rgnFail d 1 else s)

/-! ## The skein commands (R230, R232, R233) -/

/-- A write of QD_SKEIN_CMD with OP `op` (Table QD-17): honoured from the active warden, or sent as a message by
the epoch machinery (`hw`). -/
def State.skeinCmd (s : State) (m : Master) (d op : Nat) (v : W64) (f : State → State) : State :=
  s.toDie d fun t =>
    if m = .hw then f t
    else if getBits v 3 0 ≠ op then t
    else if t.isActive m then f (t.plainWrite .QD_SKEIN_CMD d 0 v)
    else t.qdRefused d

/-- QUIESCE (R233). -/
def execSkeinQuiesce (m : Master) (d : Nat) (v : W64) (s : State) : Out :=
  ifUnit (isQuarry d) (s.skeinCmd m d 1 v fun t =>
    if t.flag fQD_SKEIN_STAT_QUIESCED d 0 then t else t.setLat .quiesceDue d 0 1)

/-- A change that a quarry accepted has not completed (R233): a table word under way that changed rows of a region with a home
there, and does not wait for the skein. -/
def State.changeOn (s : State) (d : Nat) : Bool :=
  (List.range nSpindles).any fun sp =>
    let x := s.lat .tblFly sp 0
    x != 0 && decide (x < 2 ^ 16) && s.lat .tblDone sp 0 == 0 && (s.loggers ((x - 1) / 256) ((x - 1) % 256)).contains d &&
      match (s.spin sp).spool.head? with
      | some e => e.started && decide (0x225 ≤ bitsOf e.word 15 6)
      | none => false

/-- A QUIESCE completes, once every change already accepted has (R233). -/
def execSkeinQuiesceDone (d : Nat) (s : State) : Out :=
  ifUnit (isQuarry d) (if s.lat .quiesceDue d 0 ≠ 0 ∧ s.dieUp d ∧ s.changeOn d = false then s.quiesce d else s)

/-- RESUME releases the quiesce (R233). -/
def State.skeinResume (s : State) (d : Nat) : State :=
  ((s.setFld fQD_SKEIN_STAT_QUIESCED d 0 0).setLat .quiesceDue d 0 0).setLat .rollingBack d 0 0

/-- RESUME (R233). -/
def execSkeinResume (m : Master) (d : Nat) (v : W64) (s : State) : Out :=
  ifUnit (isQuarry d) (s.skeinCmd m d 2 v fun t => t.skeinResume d)

/-- ROLLBACK is accepted only while quiesced (R233). -/
def execSkeinRollback (m : Master) (d : Nat) (v : W64) (s : State) : Out :=
  ifUnit (isQuarry d) (s.skeinCmd m d 3 v fun t =>
    if t.flag fQD_SKEIN_STAT_QUIESCED d 0 then t.setLat .rollingBack d 0 1 else t.qdRefused d)

/-- One record is restored into its region or its copy, with parity and mirror copy (R233). -/
def State.restoreRec (s : State) (d : Nat) (r : SkeinRec) : State :=
  let e := handleDie r.handle
  let k := handleSlot r.handle
  if e = d ∨ s.lat .servedBy e k = d + 1 then
    let off := if r.frag then r.place else r.place * (s.rgnServed e k).pitch
    if s.rgnWritable e k then s.rgnWrite e k off r.bytes else s.cxlDiscard ((s.rgnServed e k).base + off)
  else
    let off := if r.frag then r.place else r.place * (s.mir d k).pitch
    (s.setBytes ((s.mir d k).mbase + off) r.bytes).mend ((s.mir d k).mbase + off) r.bytes.length

/-- A quarry rolls back (R233): records are restored newest first; at record `bad`, which fails its CRC and
cannot be rebuilt, it stops. -/
def State.skeinRollback (s : State) (d : Nat) (bad : Option Nat) : State :=
  let newest := (s.skein d).reverse
  let good := newest.takeWhile fun r => some r.seq != bad
  let t := (s.each good fun r u => u.restoreRec d r).setLat .rollingBack d 0 0
  if good.length < newest.length then
    let t := if t.wfld fWD_EP_STAT_PHASE 0 = 3 then t.setLat .rollbackFail 0 0 (t.lat .rollbackFail 0 0 ||| 2 ^ 2) else t
    (t.setFld fQD_SKEIN_STAT_FAILED d 0 1).event 0x2144 .fatal (engineUnit d) ((bad.getD 0))
  else
    ((t.setSkein d []).setFld fQD_SKEIN_STAT_FULL d 0 0).event 0x2143 .note (engineUnit d) 0

/-- A quarry's rollback finishes (R233). -/
def execSkeinRollbackDone (d : Nat) (bad : Option Nat) (s : State) : Out :=
  ifUnit (isQuarry d) (if s.lat .rollingBack d 0 ≠ 0 ∧ s.dieUp d then s.skeinRollback d bad else s)

/-- A commit of epoch `e` (R232). -/
def State.skeinCommit (s : State) (d e : Nat) : State :=
  if e < (s.reg .QD_SKEIN_EPOCH d 0).toNat then s
  else
    let t := (s.setSkein d ((s.skein d).filter fun r => e < r.epoch)).setReg .QD_SKEIN_EPOCH d 0 (BitVec.ofNat 64 (e + 1))
    ((t.setFld fQD_SKEIN_STAT_FULL d 0 0).setLat .fullSeen d 0 0).setLat .markSeen d 0 0

/-- COMMIT (R232): the epoch in ARG. -/
def execSkeinCommit (m : Master) (d : Nat) (v : W64) (s : State) : Out :=
  ifUnit (isQuarry d) (s.skeinCmd m d 4 v fun t => t.skeinCommit d (getBits v 63 8))

/-! ## Losses and rebuilds (R225 to R227) -/

/-- Entries in which a partner holds copies of a lost quarry's regions. -/
def State.copiesOf (s : State) (p d : Nat) : List Nat :=
  (s.mirSlots p).filter fun k => (s.mirState p k == 2 || s.mirState p k == 4) && sliceDie (s.mir p k).base == d

/-- The active warden acts on a lost quarry (R225). -/
def State.quarryTakeover (s : State) (d : Nat) : State :=
  let by_ := s.lat .quarryPartner d 0
  let t := s.reroute
  if by_ ≠ 0 ∧ s.quarryUp (by_ - 1) then
    let t := t.each (s.copiesOf (by_ - 1) d) fun k u =>
      ((u.setLat .servedBy d k by_).setFld fQD_MIR_INFO_STATE (by_ - 1) k (max 3 (u.mirState (by_ - 1) k))).setFld
        fQD_MIR_INFO_MIRROR_OK (by_ - 1) k 0
    t.setLat .quarryLost d 0 2
  else t.setLat .quarryLost d 0 3

/-- A quarry is lost, and its partner serves its mirrored regions (R225). -/
def execQuarryLost (d : Nat) (s : State) : Out :=
  ifUnit (isQuarry d)
    (if s.lat .quarryLost d 0 = 1 then (s.quarryTakeover d).event 0x2120 .fault (dieUnit d) 0 else s)

/-- A quarry's mirrored regions run on without their lost partner (R226). -/
def execPartnerLost (d : Nat) (s : State) : Out :=
  ifUnit (isQuarry d)
    (let ks := (s.rgnSlots d).filter fun k => s.mirrorOk d k
    if s.quarryUp d && s.flag fQD_CFG_PARTNER_EN d 0 && !s.quarryUp (s.partner d) && !ks.isEmpty then
      (s.each ks fun k t => (t.setFld fQD_RGN_INFO_MIRROR_OK d k 0).setFld fQD_RGN_INFO_STATE d k (max 3 (t.rgnState d k))).event 0x2122 .warn
        (engineUnit d) 0
    else s)

/-- The rebuild of a retired pseudo-channel ends (R227). -/
def execPcRebuildDone (d p : Nat) (s : State) : Out :=
  ifUnit (isQuarry d && p < 128)
    (if s.dieUp d && s.flag fQD_PC_RETIRED d p && !s.flag fQD_PC_REBUILT d p && s.lat .pcFits d p != 0 then
      (s.setFld fQD_PC_REBUILT d p 1).event 0x2105 .note (pcUnit d p) 0
    else s)

end Sys2Proof.Machine
end

