-- ==== Sys2Proof/Machine/BankCommands.lean ====
section
/-! DEFINITION. The meanings of the memory-bank commands (chapter 07): a handshake of a bank's two ports, the
bit aliases, power requests and wakes, the background test, column repair. -/

namespace Sys2Proof.Machine

/-! ## A handshake of a bank (R237 to R245, R248, R256 to R258, R54) -/

/-- Bytes a request names. -/
def reqLen (r : BankReq) : Nat := match r.data with | some bs => bs.length | none => r.len

/-- Words a request covers. -/
def reqWords (r : BankReq) : Nat := (r.off + reqLen r - 1) / 8 + 1 - r.off / 8

/-- A kind of memory has a source (Table BNK-2). -/
def bankSource (b : Bank) (x : BankSource) : Bool :=
  match b, x with
  | .pad _ _, .capture | .pad _ _, .recorder | .sram _ _, .table | .sram _ _, .ply => false
  | _, _ => true

/-- A request lies in one line of the bank. -/
def reqOk (b : Bank) (r : BankReq) : Bool :=
  decide (0 < reqLen r) && decide (r.off + reqLen r ≤ b.size) && r.off / 256 == (r.off + reqLen r - 1) / 256 &&
    decide (r.mode < 3) && bankSource b r.source && decide (r.ecc.length ≤ reqWords r)

/-- The source reaches the bank on its processor port (Table BNK-2). -/
def onProc : BankSource → Bool
  | .core | .fetch => true
  | _ => false

/-- A source's place in the rotation of the DMA port (R240). -/
def sourceTurn : BankSource → Nat
  | .dma => 0 | .table => 1 | .ply => 2 | .recorder => 3 | _ => 4

/-- The sub-array of a line (R237). -/
def subArray (b : Bank) (off : Nat) : Nat := off / 256 % (match b with | .pad _ _ => 16 | .sram _ _ => 8)

/-- Two requests name a common word. -/
def sameWord (p q : BankReq) : Bool :=
  decide (p.off / 8 ≤ (q.off + reqLen q - 1) / 8) && decide (q.off / 8 ≤ (p.off + reqLen p - 1) / 8)

/-- Two requests name a common byte. -/
def sameByte (p q : BankReq) : Bool :=
  decide (p.off < q.off + reqLen q) && decide (q.off < p.off + reqLen p)

/-- Two requests conflict (R239). -/
def reqConflict (b : Bank) (p q : BankReq) : Bool := !sameWord p q && subArray b p.off == subArray b q.off

/-- The request's alias. -/
def reqAlias (r : BankReq) : Alias := match r.mode with | 1 => .setBits | 2 => .clearBits | _ => .plain

/-- The request reads its words first: a read, or a write through an alias. -/
def reqReads (r : BankReq) : Bool := r.data.isNone || r.mode != 0

/-- What the read of word `k` of a request finds. -/
def reqEcc (r : BankReq) (k : Nat) : Ecc := if reqReads r then (r.ecc[k]?).getD .good else .good

/-- Bank offsets of the words whose read finds a state of the ECC. -/
def wordsOf (r : BankReq) (e : Ecc) : List Nat :=
  ((List.range (reqWords r)).filter fun k => reqEcc r k == e).map fun k => (r.off / 8 + k) * 8

/-- The master of a request, as R38 and events name it: the window's user, or the bank's own spindle or warden. -/
def reqMaster (b : Bank) (r : BankReq) : Master :=
  match r.source with
  | .window m => m
  | _ => match b with | .pad sp _ => .spindle sp | .sram w _ => .warden w

/-- A multi-bit error met by a request (R54, R62, R248, R256 to R258): the bank's own spindle is stopped by a machine check,
the warden's core restarts, any other master is answered DATA_LOST. -/
def State.bankMultibit (s : State) (b : Bank) (r : BankReq) : State :=
  let at_ := fun (k : Nat) => b.num * b.size + k
  let ks := wordsOf r .multibit
  if ks = [] then s
  else match b with
    | .pad sp _ =>
      let t := if r.data.isSome then s.each ks fun k u => u.event 0x1144 .fault (u.spUnit sp) (at_ k) else s
      match r.source with
      | .window _ => t.answer .dataLost []
      | _ => t.check sp mcEcc
    | .sram w _ =>
      if onProc r.source then
        ((s.event 0x7145 .fatal (unitId (62 + w) 0) (at_ (ks.headD 0))).wdr (62 + w) 3).occur 0x10 (unitId (62 + w) 0)
      else
        (s.each ks fun k u => (u.event 0x7144 .fault (unitId (62 + w) b.num) (at_ k)).occur 0x11 (unitId (62 + w) 0)).answer
          .dataLost []

/-- Single-bit errors are corrected and counted (R54, R256). -/
def State.bankCorrected (s : State) (b : Bank) (r : BankReq) : State :=
  s.each (wordsOf r .corrected) fun _ t =>
    match b with
    | .pad sp _ => t.occur 0x02 (t.spUnit sp)
    | .sram w _ => t.occur 0x11 (unitId (62 + w) 0)

/-- The write of a request takes place, but for the words an alias write cannot read (R248). -/
def State.bankPut (s : State) (b : Bank) (r : BankReq) : State :=
  match r.data with
  | some bs =>
    let a := b.base + r.off
    let old := s.bytes a bs.length
    let lost := wordsOf r .multibit
    s.setBytes a (((aliasBytes (reqAlias r) old bs).zip old).zipIdx.map fun x =>
      if lost.contains ((r.off + x.2) / 8 * 8) then x.1.2 else x.1.1)
  | none => s

/-- The bytes a request reads. -/
def State.bankGet (s : State) (b : Bank) (r : BankReq) : List Byte :=
  if r.data.isNone then s.bytes (b.base + r.off) r.len else []

/-- Requests served in one handshake: the writes one after the other, then the reads (R243 to R245). -/
def State.bankServe (s : State) (b : Bank) (rs : List BankReq) : State :=
  let t := s.each rs fun r u => u.bankPut b r
  let got := rs.flatMap fun r => t.bankGet b r
  let t := t.answer .ok got
  let common := match rs with
    | [p, q] => p.data.isSome && q.data.isSome && sameByte p q
    | _ => false
  let t := if common then (t.setBnkBit b 0).bankEvent b 0x1140 0x7140 .note b.num else t
  t.each rs fun r u => (u.bankCorrected b r).bankMultibit b r

/-- The request of the processor port (R240): a load or store before fetch, each source in its own order. -/
def procTurn (q : List BankWait) : Option Nat :=
  match q.findIdx? fun x => x.req.source == .core with
  | some k => some k
  | none => q.findIdx? fun x => x.req.source == .fetch

/-- The request of the DMA port (R240): a capture write first, the other sources in rotation after the one served last. -/
def dmaTurn (last : Nat) (q : List BankWait) : Option Nat :=
  match q.findIdx? fun x => x.req.source == .capture with
  | some k => some k
  | none => (List.range 5).findSome? fun j => q.findIdx? fun x =>
      !onProc x.req.source && sourceTurn x.req.source == (last + 1 + j) % 5

/-- The longest wait of the DMA port's requests of a bank so far (MAXWAIT). -/
def State.bankMaxWait (s : State) (b : Bank) : Nat := s.bnk b .CD_BNK_MAXWAIT .WD_BNK_MAXWAIT (16 * b.num + 15) (16 * b.num)

/-- A request waits one handshake more; one of the DMA port counts it (R241). -/
def State.bankWaits (s : State) (b : Bank) (x : BankWait) : State :=
  if onProc x.req.source then s.setBankQueue b (s.bankQueue b ++ [x])
  else
    let n := x.waited + 1
    let t := s.setBnk b .CD_BNK_MAXWAIT .WD_BNK_MAXWAIT (16 * b.num + 15) (16 * b.num) (max (s.bankMaxWait b) (min n 0xFFFF))
    let limit := t.bnk b .CD_BNK_STARVE .WD_BNK_STARVE 15 0
    let late := limit != 0 && decide (limit < n) && !x.told
    let t := t.setBankQueue b (t.bankQueue b ++ [⟨x.req, n, x.told || late⟩])
    if late then (t.setBnkBit b 8).bankEvent b 0x1141 0x7141 .warn b.num else t

/-- A handshake of an ON bank at which requests wait (R239, R240): each port presents one; on a conflict the DMA port's
waits. -/
def State.bankHandshake (s : State) (b : Bank) : State :=
  let q := s.bankQueue b
  let i := procTurn q
  let j := dmaTurn (s.lat .bankTurn b.die (b.blk * 4 + b.num)) q
  let conflict := match i.bind (q[·]?), j.bind (q[·]?) with
    | some x, some y => reqConflict b x.req y.req
    | _, _ => false
  let go := i.toList ++ (if conflict then [] else j.toList)
  let served := (go.filterMap (q[·]?)).map (·.req)
  let rest := (q.zipIdx.filter fun x => !go.contains x.2).map (·.1)
  let t := (s.setBankQueue b []).each rest fun x u => u.bankWaits b x
  let t := t.each (served.filter fun r => !onProc r.source && r.source != .capture) fun r u =>
    u.setLat .bankTurn b.die (b.blk * 4 + b.num) (sourceTurn r.source)
  t.bankServe b served

/-- A request to a bank whose twin is not ON ends as one to an unpopulated address (R252, R38). -/
def State.bankAbsent (s : State) (b : Bank) (r : BankReq) : State :=
  let m := reqMaster b r
  (s.event 0x3F01 .warn (s.masterUnit m) (b.base + r.off)).answer (match m with
    | .host _ => if r.data.isSome then .ok else .unsupported
    | _ => .addressFault) []

/-- One handshake of a bank, in which requests arrive (R239): they wait for a wake, find no memory (R252), or each port
serves one of those that wait. Without any request it is an idle handshake. -/
def State.bankAccess (s : State) (b : Bank) (rs : List BankReq) : State :=
  let q := s.bankQueue b ++ rs.map fun r => ⟨r, 0, false⟩
  if q.isEmpty then
    let n := s.lat .bankIdle b.die (b.blk * 4 + b.num)
    if n = 0 ∨ s.bankAct b ≠ 2 then s else s.setLat .bankIdle b.die (b.blk * 4 + b.num) (n + 1)
  else
    let t := (s.setBankQueue b q).each q fun x u => u.bankName b x.req.off (reqLen x.req)
    match t.bankTouch b with
    | (.absent, u) => (u.setBankQueue b []).each q fun x v => v.bankAbsent b x.req
    | (.wait, u) => u.answer .held []
    | (.serve, u) => u.bankHandshake b

/-- BANK_ACCESS: a handshake of a bank, with the requests that arrive in it. -/
def execBankAccess (b : Bank) (rs : List BankReq) (s : State) : Out := ifUnit (b.ok && rs.all (reqOk b)) (s.bankAccess b rs)

/-- The request of a bit-alias write (R238): a warden core's own is the core's; any other master's comes through the
window. -/
def aliasReq (b : Bank) (off : Nat) (clear : Bool) (m : Master) (data : List Byte) (ecc : List Ecc) : BankReq :=
  ⟨match b with | .sram w _ => if m = .warden w then .core else .window m | .pad _ _ => .window m,
    off, data.length, some data, if clear then 2 else 1, ecc⟩

/-- A write through the set or clear alias (R247, R248): an atomic read-modify-write at the bank. -/
def execBitAliasWrite (b : Bank) (off : Nat) (clear : Bool) (m : Master) (data : List Byte) (ecc : List Ecc) (s : State) : Out :=
  let r := aliasReq b off clear m data ecc
  ifUnit (b.ok && reqOk b r) (s.bankAccess b [r])

/-- The requests held for a wake are served in their order of arrival (R252). -/
def State.bankFlush (s : State) (b : Bank) : State :=
  (s.setBankQueue b []).each (s.bankQueue b) fun x t => t.bankServe b [x.req]

/-! ## Power (R249 to R255) -/

/-- Requested states written: a field of 0b11 leaves its bank's as it is; banks the write requests ON wake. -/
def State.writeReqs (s : State) (bs : List Bank) (v : W64) : State :=
  s.each bs fun b t =>
    let x := getBits v (2 * b.num + 1) (2 * b.num)
    if x = 3 then t else (t.setBankReq b x).bankWake b

/-- CD_BNK_PWR written (R250). -/
def execCdBnkPwrWrite (m : Master) (sp : Nat) (v : W64) (s : State) : Out :=
  ifUnit (sp < nSpindles) (s.toDie (spDie sp) fun t =>
    if t.hostOrActive m then t.writeReqs ((List.range 4).map fun k => .pad sp k) v
    else t.event 0x1143 .warn (t.spUnit sp) 0)

/-- WD_BNK_PWR written (R254): by the warden that owns the banks; banks 0 and 1 stay ON. -/
def execWdBnkPwrWrite (m : Master) (w : Nat) (v : W64) (s : State) : Out :=
  ifUnit (w < 2)
    (if m = .warden w then s.writeReqs [.sram w 2, .sram w 3] v else s.event 0x7143 .warn (unitId (62 + w) 0) 0)

/-- A request takes effect once no access is in progress or waits (R251, R263). -/
def execBankPowerTransition (b : Bank) (s : State) : Out :=
  ifUnit b.ok
    (if s.bankSupply b = 2 ∧ s.bankQueue b ≠ [] ∧ s.bankReq b ≠ 2 then s
    else
    let t := if (s.borrowedIn b).isSome && s.bankReq b != 2 then s.mtestRestore b else s
    t.bankSettle b)

/-- A bank's wake ends (R253), and the accesses held for it are served (R252). -/
def execBankWakeDone (b : Bank) (s : State) : Out :=
  ifUnit b.ok (if s.bankSupply b = 2 ∧ s.bankOwn b = 3 then (s.bankWoken b).bankFlush b else s)

/-! ## The background test (R259 to R264) -/

/-- A pin covers a line, counted over the whole memory (R261). -/
def State.pinned (s : State) (b : Bank) (line : Nat) : Bool :=
  (List.range 8).any fun i =>
    let v := s.reg (b.pick .CD_BNK_PIN .WD_BNK_PIN) b.die (b.blk * 8 + i)
    let start := getBits v (match b with | .pad _ _ => 12 | .sram _ _ => 11) 0
    decide (start ≤ line) && decide (line < start + getBits v 31 16)

/-- A compare fails (R264): `word` of the line and `bit` of the word. -/
def State.mtestFail (s : State) (b : Bank) (line word bit : Nat) : State :=
  let o := line * 256 + word * 8
  let f := fun (c w : RField) => match b with | .pad _ _ => c | .sram _ _ => w
  let phys := match b with | .pad sp _ => s.phys sp | .sram _ _ => 0
  let t := s.putFld (f fCD_MTEST_STAT_FAULTS fWD_MTEST_STAT_FAULTS) b.die 0
    (satAdd 16 (s.fld (f fCD_MTEST_STAT_FAULTS fWD_MTEST_STAT_FAULTS) b.die 0) 1)
  let t :=
    if t.flag (f fCD_MTEST_STAT_VALID fWD_MTEST_STAT_VALID) b.die 0 then t
    else (t.putReg (b.pick .CD_MTEST_FAULT .WD_MTEST_FAULT) b.die 0
      (BitVec.ofNat 64 (phys * 2 ^ 56 + bit * 2 ^ 40 + o))).putFld (f fCD_MTEST_STAT_VALID fWD_MTEST_STAT_VALID) b.die 0 1
  let t := (t.setBnkBit b 24).bankEvent b 0x1144 0x7144 .fault (o + bit * 2 ^ 40)
  match b with
  | .pad sp _ => t.occur 0x03 (t.spUnit sp)
  | .sram w _ => t.occur 0x11 (unitId (62 + w) 0)

/-- The test of a borrowed line ends: its failing compares count, and the line is restored. -/
def State.mtestEnd (s : State) (b : Bank) (line : Nat) (fails : List (Nat × Nat)) (pass : Bool) : State :=
  let t := (s.each fails fun x u => u.mtestFail b line x.1 x.2).mtestRestore b
  let f := match b with | .pad _ _ => fCD_MTEST_STAT_PASSES | .sram _ _ => fWD_MTEST_STAT_PASSES
  if pass then t.putFld f b.die 0 (t.fld f b.die 0 + 1) else t

/-- The idle time a scratchpad bank must show before a line of it is borrowed has passed (R259). -/
def State.mtestIdle (s : State) (b : Bank) : Bool :=
  match b with
  | .pad _ _ =>
    let n := s.lat .bankIdle b.die (b.blk * 4 + b.num)
    n == 0 || decide (s.fld fCD_MTEST_CTL_IDLE b.die 0 < n)
  | .sram _ _ => true

/-- MTEST_CTL.PERIOD of a bank's controller (R260). -/
def State.mtestPeriod (s : State) (b : Bank) : Nat := s.fld ⟨b.pick .CD_MTEST_CTL .WD_MTEST_CTL, 7, 0⟩ b.die 0

/-- A controller borrows line `line` of a bank (counted over the whole memory), or ends the test of the line it
holds (`done`): with the failing words and cells, and whether the pass is complete (R259 to R264). -/
def execMtestBorrow (b : Bank) (line : Nat) (done : Bool) (fails : List (Nat × Nat)) (pass : Bool) (s : State) : Out :=
  let per := b.size / 256
  let code := b.blk * 8192 + line + 1
  ifUnit (b.ok && line / per == b.num && fails.all fun x => x.1 < 32 && x.2 < 72)
    (let v := s.lat .mtestLine b.die 0
    if v = code ∧ done then s.mtestEnd b line fails pass
    else if v = 0 ∧ s.mtestPeriod b ≠ 0 ∧ s.bankAct b = 2 ∧ s.bankReq b = 2 ∧ s.mtestIdle b ∧ s.bankQueue b = [] ∧
        s.pinned b line = false then
      let f := match b with | .pad _ _ => fCD_MTEST_STAT_BORROWED | .sram _ _ => fWD_MTEST_STAT_BORROWED
      let t := (s.setLat .mtestLine b.die 0 code).putFld f b.die 0 1
      if done then t.mtestEnd b line fails pass else t
    else s)

/-! ## Column repair (R265 to R267) -/

/-- The index of a column group's spares. -/
def colGroup (tgt : W64) : Nat :=
  ((getBits tgt 45 40 * 4 + getBits tgt 33 32) * 16 + getBits tgt 27 24) * 36 + getBits tgt 11 0 / 64

/-- Field repair records of a die (R267). -/
def colRecords (d : Nat) : Nat := if d < 48 then 256 else 32

/-- The bank a repair targets is in OFF: a physical spindle that answers no slot has its banks OFF. -/
def State.colBankOff (s : State) (d ph k : Nat) : Bool :=
  if d < 48 then
    match s.slotOf d ph with
    | some sp => s.bankAct (.pad sp k) == 0
    | none => true
  else s.bankAct (.sram (d - 62) k) == 0

/-- The failing codes of PROGRAM (Table BNK-6). -/
def State.colCodes (s : State) (tgt : W64) (op : Nat) : List Nat :=
  let d := getBits tgt 57 52
  let ph := getBits tgt 45 40
  let wd := decide (62 ≤ d)
  let fields : W64 := maskOf 57 52 ||| maskOf 45 40 ||| maskOf 33 32 ||| maskOf 27 24 ||| maskOf 11 0
  let bad := op != 1 || (decide (48 ≤ d) && !wd) || decide ((if wd then 0 else 33) < ph) ||
    (wd && decide (7 < getBits tgt 27 24)) || decide (2303 < getBits tgt 11 0) || tgt &&& ~~~fields != 0
  (if bad then [1] else []) ++
  (if !bad && !s.colBankOff d ph (getBits tgt 33 32) then [2] else []) ++
  (if 2 ≤ s.lat .colrepSpares d (colGroup tgt) then [3] else []) ++
  (if colRecords d ≤ s.lat .colrepRecords d 0 then [4] else [])

/-- A column-repair command ends with a result (R266). -/
def State.colEnd (s : State) (w d c : Nat) : State :=
  let t := ((s.putFld fFS_COLREP_STAT_RESULT w 0 c).putFld fFS_COLREP_STAT_BUSY w 0 0).putFld fFS_COLREP_STAT_FREE w 0
    (colRecords d - s.lat .colrepRecords d 0)
  if c = 0 then t.event 0x7146 .note (unitId w 0) 0 else t.event 0x7147 .warn (unitId w 0) c

/-- FS_COLREP_CMD written in warden die `w`'s window (R266): with jumper presence, by a host port or the active
warden. -/
def execColrepProgram (m : Master) (w : Nat) (v : W64) (s : State) : Out :=
  ifUnit (62 ≤ w && w < 64)
    (if !s.hostOrActive m || w != s.aw then s.wardenRefused (regAddr .FS_COLREP_CMD w 0)
    else if s.flag fFS_COLREP_STAT_BUSY w 0 then
      (s.putFld fFS_COLREP_STAT_RESULT w 0 6).event 0x7147 .warn (unitId w 0) 6
    else if s.shown w .jumper then
      let t := s.plainWrite .FS_COLREP_CMD w 0 v
      let tgt := t.reg .FS_COLREP_TGT w 0
      match lowest (t.colCodes tgt (getBits v 3 0)) with
      | some c => t.colEnd w (getBits tgt 57 52) c
      | none => (t.putFld fFS_COLREP_STAT_BUSY w 0 1).setLat .colrepTgt w 0 tgt.toNat
    else s.plainWrite .FS_COLREP_CMD w 0 v)

/-- A column repair ends with its readback (R266): a record is used either way, a spare where it read back. -/
def execColrepDone (w : Nat) (blown : Bool) (s : State) : Out :=
  ifUnit (62 ≤ w && w < 64)
    (if s.flag fFS_COLREP_STAT_BUSY w 0 then
      let tgt := BitVec.ofNat 64 (s.lat .colrepTgt w 0)
      let d := getBits tgt 57 52
      let t := s.setLat .colrepRecords d 0 (s.lat .colrepRecords d 0 + 1)
      if blown then (t.setLat .colrepSpares d (colGroup tgt) (t.lat .colrepSpares d (colGroup tgt) + 1)).colEnd w d 0
      else t.colEnd w d 5
    else s)

end Sys2Proof.Machine
end

