-- ==== Sys2Proof/Machine/Coolant.lean ====
section
/-! DEFINITION. The coolant readings and what the policy takes from them (R335, R432, R433, Table TH-3). -/

namespace Sys2Proof.Machine

/-- An integer held to `n` bits of two's complement. -/
def satSigned (n : Nat) (x : Int) : Nat := ofSigned n (max (-(2 ^ (n - 1) : Int)) (min x (2 ^ (n - 1) - 1 : Int)))

/-- The inlet inputs in use (Table TH-13). -/
def State.inlets (s : State) : List Nat := if (s.wfld fTH_HARD_EMERG_INPUTS 0).testBit 0 then [0, 2] else [0]

/-- The outlet inputs in use. -/
def State.outlets (s : State) : List Nat := if (s.wfld fTH_HARD_EMERG_INPUTS 0).testBit 1 then [1, 3] else [1]

/-- The flow inputs in use. -/
def State.flowInputs (s : State) : List Nat := if (s.wfld fTH_HARD_EMERG_INPUTS 0).testBit 2 then [0, 1] else [0]

/-- The valid ones of some Pt1000 inputs (R432). -/
def State.validCool (s : State) (l : List Nat) : List Nat := l.filter fun i => !(s.lat .coolBad 0 0).testBit i

/-- A Pt1000 input in mK. -/
def State.coolMk (s : State) (i : Nat) : Int := signedOf 32 (s.wfld fTH_COOL_T_TEMP i)

/-- The mean of some Pt1000 inputs in mK, rounded down. -/
def State.meanMk (s : State) (l : List Nat) : Int := (l.map s.coolMk).sum / (l.length : Int)

/-- The coolant rise before the zero offset, in 0.1 mK, while each side has a valid input (R335). -/
def State.rawRise (s : State) : Option Int :=
  let i := s.validCool s.inlets
  let o := s.validCool s.outlets
  if i.isEmpty || o.isEmpty then none
  else some (10 * (o.map s.coolMk).sum / (o.length : Int) - 10 * (i.map s.coolMk).sum / (i.length : Int))

/-- TH_DT follows the readings (R335). -/
def State.updateRise (s : State) : State :=
  match s.rawRise with
  | some x => s.setWfld fTH_DT_DT 0 (ofSigned 32 (x - signedOf 32 (s.lat .dtZero 0 0)))
  | none => s

/-! ## The curve cap (R433) -/

/-- A field of a curve point. -/
def State.curveAt (s : State) (f : RField) (r c : Nat) : Nat := s.wfld f (8 * r + c)

/-- The cap of a row at a flow in mL/min, as a fraction: linear between the bracketing points, the nearest point outside. -/
def State.rowCap (s : State) (r q : Nat) : Rat :=
  let x := fun c => s.curveAt fTH_CURVE_FLOW r c * 10
  let y := fun c => (s.curveAt fTH_CURVE_CAP_W r c : Rat)
  if q ≤ x 0 then y 0
  else match (List.range 7).find? fun c => q < x (c + 1) with
    | some c => y c + (y (c + 1) - y c) * ((q - x c : Nat) : Rat) / ((x (c + 1) - x c : Nat) : Rat)
    | none => y 7

/-- The curve cap at an inlet in mK and a flow in mL/min. -/
def State.curveCap (s : State) (inlet : Int) (q : Nat) : Nat :=
  let t := fun r => (s.curveAt fTH_CURVE_INLET r 0 * 100 : Int)
  let y := if inlet ≤ t 0 then s.rowCap 0 q
    else match (List.range 3).find? fun r => inlet < t (r + 1) with
      | some r => s.rowCap r q + (s.rowCap (r + 1) q - s.rowCap r q) * ((inlet - t r : Int) : Rat) / ((t (r + 1) - t r : Int) : Rat)
      | none => s.rowCap 3 q
  y.floor.toNat

/-! ## Flow, pressure and general inputs (R434, R453, R454) -/

/-- What a flow input reads in mL/min (R453): pulses by the longer of the last period `x` and the time `y` since the last one, in µs,
zero after 60 s; a current `x` in µA by its span; zero where it is off. -/
def State.flowReading (s : State) (n x y : Nat) : Nat :=
  match s.wfld fCE_FLOW_CFG_MODE n with
  | 1 => if x = 0 ∨ 60000000 ≤ y then 0 else 6000000000000 / (s.wfld fCE_FLOW_CFG_K n * max x y)
  | 2 => (x - 4000) * (s.wfld fCE_FLOW_CFG_SPAN n * 10) / 16000
  | _ => 0

/-- A flow input is off, or its current lies outside 3.6–21.0 mA (R432). -/
def State.flowOut (s : State) (n x : Nat) : Bool :=
  match s.wfld fCE_FLOW_CFG_MODE n with
  | 1 => false
  | 2 => decide (x < 3600) || decide (21000 < x)
  | _ => true

/-- What a pressure or general input reads in Q4.28 (R454): the fraction of its range; the pressure input SPAN kPa of 400 at the
top of it. -/
def State.ainReading (s : State) (j : Nat) (x : Int) : Int :=
  let one : Int := 0x10000000
  let f := match s.wfld fCE_AIN_CFG_MODE j with
    | 1 => (x, 10000)
    | 2 => (x - 4000, 16000)
    | _ => (0, 1)
  if j = 0 then f.1 * one * (s.wfld fCE_AIN_CFG_SPAN 0 : Int) / (f.2 * 400) else f.1 * one / f.2

/-- Such an input is off, or outside its electrical range (R454). -/
def State.ainOut (s : State) (j : Nat) (x : Int) : Bool :=
  match s.wfld fCE_AIN_CFG_MODE j with
  | 1 => decide (x < -200) || decide (10500 < x)
  | 2 => decide (x < 3600) || decide (21000 < x)
  | _ => true

/-- The highest drive among the pump channels. -/
def State.pumpDrive (s : State) : Nat :=
  ((List.range 6).filter fun c => s.wfld fFP_CFG_KIND c == 1).foldl (fun m c => max m (s.wfld fFP_STAT_DRIVE c)) 0

/-- A flow input's reading joins its flat stretch, or begins one (R432). -/
def State.noteFlat (s : State) (n q : Nat) : State :=
  let r := s.lat .flatRef n 0
  let p := s.pumpDrive
  if r ≠ 0 ∧ 200 * (max q (r - 1) - min q (r - 1)) ≤ r - 1 then
    ((s.setLat .flatFor n 0 (min (s.lat .flatFor n 0 + 1) 300000)).setLat .flatLow n 0 (min p (s.lat .flatLow n 0))).setLat .flatHigh n 0
      (max p (s.lat .flatHigh n 0))
  else (((s.setLat .flatRef n 0 (q + 1)).setLat .flatFor n 0 1).setLat .flatLow n 0 p).setLat .flatHigh n 0 p

/-- A flow input stayed within 0.5 % for 30 s while the pump drive changed by 20 % or more (R432). -/
def State.flowFlat (s : State) (n : Nat) : Bool :=
  s.lat .flatFor n 0 == 300000 && decide (s.lat .flatLow n 0 + 200 ≤ s.lat .flatHigh n 0)

/-- A flow input's reading joins those of its millisecond (R434), and the time it has read above RESUME_Q without a break (R435, R542). -/
def State.noteFlow (s : State) (n q : Nat) : State :=
  let ms := s.now / 1000000
  let old := s.lat .flowMs n (ms % 1024)
  let s := s.setLat .flowOk n 0
    (if q ≤ s.wfld fTH_HARD_FLOW_RESUME_Q 0 * 10 then 0 else if s.lat .flowOk n 0 = 0 then s.now + 1 else s.lat .flowOk n 0)
  s.setLat .flowMs n (ms % 1024) (ms * 2 ^ 32 + (if old / 2 ^ 32 = ms then max (old % 2 ^ 32) q else q))

/-- A flow input's highest reading in the preceding FALL_MS (R434). -/
def State.flowHigh (s : State) (n : Nat) : Nat :=
  let ms := s.now / 1000000
  (List.range (min (10 * s.wfld fTH_HARD_FLOW_FALL_MS 0) (ms + 1))).foldl (fun m k =>
    let x := s.lat .flowMs n ((ms - k) % 1024)
    if x / 2 ^ 32 = ms - k then max m (x % 2 ^ 32) else m) 0

/-- Every flow input in use has read above RESUME_Q for `ns` nanoseconds without a break (R435, R542). -/
def State.flowStood (s : State) (ns : Nat) : Bool :=
  s.flowInputs.all fun n => s.lat .flowOk n 0 != 0 && decide (s.lat .flowOk n 0 + ns ≤ s.now + 1)

/-! ## Readings in use (Table TH-3) -/

/-- A valid heat balance fell in the last 10 s. -/
def State.balanceFresh (s : State) : Bool := decide (1 ≤ s.lat .lastGood 0 0) && decide (s.lat .lastGood 0 0 ≤ 11)

/-- The flow in use and its source: metered, `meter 1` being of a second meter. -/
def State.flowInUse (s : State) (meter : Nat → Nat) : Nat × Nat :=
  let good := s.flowInputs.filter fun i => !(s.lat .flowBad 0 0).testBit i
  let hb := s.wfld fTH_FLOW_Q_HB 0
  match good.map meter with
  | [] => if s.balanceFresh then (hb, 1) else (8000, 3)
  | [q] => if s.wflag fTH_HB_STAT_WARN 0 then (min q hb, 2) else (q, 0)
  | q :: r :: _ => if s.wflag fTH_HB_STAT_WARN 0 then (min (min q r) hb, 2) else (min q r, 2)

end Sys2Proof.Machine
end

