-- ==== Sys2Proof/Machine/View.lean ====
section
/-! DEFINITION. The state view of a spindle (R83, Table SP-17), the writes of replicated state through a slot
(R186), format-table entries (R131, R132), and epoch images (R357, R368, Table REC-4). -/

namespace Sys2Proof.Machine

/-! ## The state view (Table SP-17) -/

/-- Flags and residue of a lane as bytes 80 to 87 hold them (Table FMT-10). -/
def Lane.tail (l : Lane) : Nat := l.flags.toNat + l.res * 256

/-- The 64-bit word of a lane at byte `b` of its 128 bytes. -/
def Lane.quad (l : Lane) (b : Nat) : W64 :=
  if b < 80 then BitVec.ofNat 64 (l.n.toNat >>> (8 * b)) else if b = 80 then BitVec.ofNat 64 l.tail else 0

/-- A lane with the 64-bit word at byte `b` written. -/
def Lane.setQuad (l : Lane) (b : Nat) (v : W64) : Lane :=
  if b < 80 then
    { l with n := (l.n &&& ~~~((BitVec.ofNat 640 (2 ^ 64 - 1)) <<< (8 * b))) ||| (BitVec.ofNat 640 v.toNat <<< (8 * b)) }
  else if b = 80 then { l with flags := BitVec.ofNat 5 v.toNat, res := getBits v 15 8 }
  else l

/-- A 128-bit value with its low or high half written. -/
def setHalf (v : W128) (high : Bool) (x : W64) : W128 :=
  if high then BitVec.ofNat 128 (v.toNat % 2 ^ 64 + x.toNat * 2 ^ 64)
  else BitVec.ofNat 128 (v.toNat / 2 ^ 64 * 2 ^ 64 + x.toNat)

/-- A half of a 128-bit value. -/
def getHalf (v : W128) (high : Bool) : W64 := BitVec.ofNat 64 (if high then v.toNat / 2 ^ 64 else v.toNat)

/-- The predicates as one number (Table SP-17). -/
def Spin.preds (x : Spin) : Nat := (List.range 16).foldl (fun n k => n + (x.getP k).toNat * 2 ^ k) 0

/-- Set every predicate from a number. -/
def Spin.setPreds (x : Spin) (v : Nat) : Spin := (List.range 16).foldl (fun y k => y.setP k (v.testBit k)) x

/-- What stands at an offset of the state view. -/
inductive ViewLoc where
  | tile (t o : Nat)
  | lane (m l b : Nat)
  | g (k : Nat)
  | p
  | a (k : Nat) (high : Bool)
  | f (k : Nat)
  | fmt (k : Nat) (high : Bool)
  | none
  deriving DecidableEq, Repr

/-- The location of an aligned access of 8 or 4 bytes; the predicates and the selectors are 32 bits wide, the
rest 64. -/
def viewLoc (off size : Nat) : ViewLoc :=
  if size = 8 then
    if off < 0x20000 then .tile (off / 0x4000) (off % 0x4000)
    else if off < 0xA0000 then
      .lane ((off - 0x20000) / 0x20000) ((off - 0x20000) % 0x20000 / 128) ((off - 0x20000) % 128)
    else if off < 0xA0100 then .g ((off - 0xA0000) / 8)
    else if 0xA0200 ≤ off ∧ off < 0xA0300 then .a ((off - 0xA0200) / 16) (decide (off % 16 = 8))
    else if 0xA1000 ≤ off ∧ off < 0xA1100 then .fmt ((off - 0xA1000) / 16) (decide (off % 16 = 8))
    else .none
  else if size = 4 then
    if off = 0xA0100 then .p
    else if 0xA0300 ≤ off ∧ off < 0xA0310 then .f ((off - 0xA0300) / 4)
    else .none
  else .none

/-- State of Table SP-17 that is replicated in a ply (R159): all but tiles and mortar. -/
def ViewLoc.replicated : ViewLoc → Bool
  | .tile _ _ | .lane _ _ _ | .none => false
  | _ => true

/-- The value at a location. -/
def Spin.view (x : Spin) (l : ViewLoc) : W64 :=
  match l with
  | .tile t o => BitVec.ofNat 64 (leValue (x.tileBytes t o 8))
  | .lane m l b => (x.getLane m l).quad b
  | .g k => x.getG k
  | .p => BitVec.ofNat 64 x.preds
  | .a k h => getHalf (x.getA k) h
  | .f k => BitVec.ofNat 64 (x.getF k).toNat
  | .fmt k h => getHalf (x.fmtEntry k) h
  | .none => 0

/-- A value written at a location; presets of the format table take no write (R131). -/
def Spin.setView (x : Spin) (l : ViewLoc) (v : W64) : Spin :=
  match l with
  | .tile t o => x.setTileBytes t o (leBytes 8 v.toNat)
  | .lane m l b => x.setLane m l ((x.getLane m l).setQuad b v)
  | .g k => x.setG k v
  | .p => x.setPreds v.toNat
  | .a k h => x.setA k (setHalf (x.getA k) h v)
  | .f k => x.setF k (BitVec.ofNat 32 v.toNat)
  | .fmt k h => if k < 6 then x else { x with fmt := sset (BitVec.ofNat 128 (2 ^ 68)) x.fmt k (fmtEvaluate (setHalf (x.fmtEntry k) h v)) }
  | .none => x

/-- The slot of a member other than member 0 takes no write of replicated state (R186). -/
def State.slotBarred (s : State) (sp : Nat) : Bool := s.inRealPly sp && !s.isLead sp

/-- Replicated state is written through member 0's slot only, and reaches every member; through another member's
slot the write is ignored and recorded (R186). -/
def State.replicatedWrite (s : State) (sp : Nat) (f : Nat → State → State) : State :=
  if s.slotBarred sp then s.event 0x1132 .warn (s.spUnit sp) 0
  else if s.inRealPly sp then s.each (s.mates sp) fun m t => f m.2 t
  else f sp s

/-- A write to a format-table entry is checked (R131, R132). The payloads' places are the model's (DESIGN CHOICE): EV 0x1120
has the entry number low and CHECK from bit 8 on (log 158), EV 0x1121 the entry number (log 159). -/
def State.fmtNotice (s : State) (sp k : Nat) : State :=
  if k < 6 then s.event 0x1121 .warn (s.spUnit sp) k
  else
    let e := (s.spin sp).fmtEntry k
    if bitOf e 64 && bitsOf e 71 68 != 0 then s.event 0x1120 .warn (s.spUnit sp) (k + bitsOf e 71 68 * 2 ^ 8) else s

/-- A write through the state view of a HALTED spindle (R83, R186). -/
def State.viewWrite (s : State) (sp : Nat) (l : ViewLoc) (v : W64) : State :=
  let put := fun (q : Nat) (t : State) => t.updSpin q fun x => x.setView l v
  let t := if l.replicated then s.replicatedWrite sp put else put sp s
  match l with
  | .fmt k _ => if s.slotBarred sp then t else t.fmtNotice sp k
  | _ => t

/-! ## Writing scratchpads at the device's own hand -/

/-- A scratchpad bank is ON before the device's own access: a bank that is not is woken first (R252, R253). -/
def State.bankReady (s : State) (b : Bank) : State :=
  match (s.bankTouch b).1 with
  | .wait => (s.bankTouch b).2.setBankOwn b 2
  | _ => (s.bankTouch b).2

/-! ## Epoch images (R357, Table REC-4) -/

/-- Bytes of one image. -/
def imageSize : Nat := 0x300000

/-- The byte offset of the image of member `m` in slot `k` (R357). -/
def imageAt (m k : Nat) : Nat := (2 * m + k) * imageSize

/-- Bytes of a range of the state view, by 64-bit accesses. -/
def Spin.viewBytes (x : Spin) (off n : Nat) : List Byte :=
  (List.range (n / 8)).flatMap fun i => leBytes 8 (x.view (viewLoc (off + 8 * i) 8)).toNat

/-- SPN_ registers an image holds, 4 bytes each, then SPN_TIMER_CMP (Table REC-4): `pc` is the PC it holds. -/
def State.imageRegs (s : State) (sp pc : Nat) : List Byte :=
  let r := fun (x : Reg) => leBytes 4 (s.reg x (spDie sp) (spIdx sp)).toNat
  leBytes 4 pc ++ r .SPN_VEC ++ leBytes 4 ((s.reg .SPN_CTL (spDie sp) (spIdx sp)).toNat &&& 0x30) ++ r .SPN_IRQ_EN ++
    r .SPN_DB_MASK ++ r .SPN_DB_PEND ++ leBytes 8 (s.reg .SPN_TIMER_CMP (spDie sp) (spIdx sp)).toNat

/-- The header but for its CRC: epoch, unit identity, member index, bank mask. -/
def imageHead (e ident m mask : Nat) : List Byte :=
  leBytes 8 e ++ leBytes 8 ident ++ leBytes 4 m ++ leBytes 1 mask ++ List.replicate 39 0

/-- The parts of an image beside its header, as (offset, bytes), in rising order. -/
def State.imageParts (s : State) (sp pc mask : Nat) (x : Spin) : List (Nat × List Byte) :=
  [(0x40, x.viewBytes 0xA0000 0x100), (0x140, leBytes 4 x.preds), (0x200, x.viewBytes 0xA0200 0x100),
   (0x300, (List.range 4).flatMap fun k => leBytes 4 (x.getF k).toNat), (0x340, s.imageRegs sp pc),
   (0x400, x.viewBytes 0xA1000 0x100), (0x1000, x.viewBytes 0 0x20000), (0x21000, x.viewBytes 0x20000 0x80000)] ++
  ((List.range 4).filter fun k => mask.testBit k).map fun k =>
    (0x100000 + k * 0x80000, s.bytes (padAddr sp (k * 0x80000)) 0x80000)

/-- The snapshot region of an enrolment entry: quarry die and slot. -/
def State.snapOf (s : State) (i : Nat) : Nat × Nat :=
  let h := (s.wreg .WD_EP_ENT1 i).toNat
  (handleDie h, handleSlot h)

/-- A member writes its image into slot `e` mod 2: the image begins epoch `e`, with the given PC and registers. -/
def State.writeImage (s : State) (i ident m sp e pc : Nat) (x : Spin) : State :=
  let mask := s.wfld fWD_EP_ENT0_MASK i
  let q := s.snapOf i
  let t := s.each ((List.range 4).filter fun k => mask.testBit k) fun k u => u.bankReady (.pad sp k)
  let parts := t.imageParts sp pc mask x
  let head := imageHead e ident m mask
  let crc := crc32 (head ++ parts.flatMap (·.2))
  let o := imageAt m (e % 2)
  let t := t.rgnWrite q.1 q.2 o (head ++ leBytes 4 crc.toNat)
  t.each parts fun p u => u.rgnWrite q.1 q.2 (o + p.1) p.2

/-- Offsets and lengths of the parts of an image of a bank mask. -/
def imageShape (mask : Nat) : List (Nat × Nat) :=
  [(0x40, 0x100), (0x140, 4), (0x200, 0x100), (0x300, 0x10), (0x340, 0x20), (0x400, 0x100), (0x1000, 0x20000),
   (0x21000, 0x80000)] ++
  ((List.range 4).filter fun k => mask.testBit k).map fun k => (0x100000 + k * 0x80000, 0x80000)

/-- The image of member `m` of entry `i` in slot `k` is read with a good CRC (R368, R374). -/
def State.imageGood (s : State) (i m k : Nat) : Bool :=
  let q := s.snapOf i
  let o := imageAt m k
  let mask := s.wfld fWD_EP_ENT0_MASK i
  let get := fun (x : Nat × Nat) => s.rgnRead q.1 q.2 (o + x.1) x.2
  ((0, 64) :: imageShape mask).all (fun (x : Nat × Nat) => s.rgnReadable q.1 q.2 (o + x.1) x.2) &&
    BitVec.ofNat 32 (leValue (get (60, 4))) == crc32 (get (0, 60) ++ (imageShape mask).flatMap get)

/-- Bytes written through the state view, 64 bits at a time. -/
def Spin.setViewBytes (x : Spin) (off : Nat) (bs : List Byte) : Spin :=
  (List.range (bs.length / 8)).foldl
    (fun y i => y.setView (viewLoc (off + 8 * i) 8) (BitVec.ofNat 64 (leValue ((bs.drop (8 * i)).take 8)))) x

/-- The replicated state of an image restored into a spindle: `get` reads the image. Entries are checked and no event is recorded
(DEDUCED, log 161). -/
def State.restoreReplicated (s : State) (sp : Nat) (get : Nat → Nat → List Byte) : State :=
  let num := fun (o n : Nat) => leValue (get o n)
  let t := s.updSpin sp fun x =>
    let y := ((x.setViewBytes 0xA0000 (get 0x40 0x100)).setPreds (num 0x140 4)).setViewBytes 0xA0200 (get 0x200 0x100)
    let y := (List.range 4).foldl (fun (z : Spin) k => z.setF k (BitVec.ofNat 32 (num (0x300 + 4 * k) 4))) y
    { y.setViewBytes 0xA1000 (get 0x400 0x100) with spool := [], replays := 0, overrun := false }
  let d := spDie sp
  let k := spIdx sp
  let t := ((t.setSpFld fSPN_PC_WORD sp (num 0x340 4)).setReg .SPN_VEC d k (BitVec.ofNat 64 (num 0x344 4))).setReg
    .SPN_IRQ_EN d k (BitVec.ofNat 64 (num 0x34C 4))
  let t := t.setReg .SPN_CTL d k ((t.reg .SPN_CTL d k &&& 0xF) ||| BitVec.ofNat 64 (num 0x348 4 &&& 0x30))
  (t.setReg .SPN_DB_MASK d k (BitVec.ofNat 64 (num 0x350 4))).setReg .SPN_TIMER_CMP d k (BitVec.ofNat 64 (num 0x358 8))

/-- A member is restored from slot `k` (R368): replicated state from the image of member 0, its tiles, mortar
and masked banks from its own; doorbell bits that arrived since the stop stay. -/
def State.restoreMember (s : State) (i m sp k : Nat) : State :=
  let q := s.snapOf i
  let get := fun (j o n : Nat) => s.rgnRead q.1 q.2 (imageAt j k + o) n
  let mask := s.wfld fWD_EP_ENT0_MASK i
  let t := s.restoreReplicated sp (get 0)
  let t := t.updSpin sp fun x => (x.setViewBytes 0 (get m 0x1000 0x20000)).setViewBytes 0x20000 (get m 0x21000 0x80000)
  let t := t.each ((List.range 4).filter fun b => mask.testBit b) fun b u =>
    (u.bankReady (.pad sp b)).setBytes (padAddr sp (b * 0x80000)) (get m (0x100000 + b * 0x80000) 0x80000)
  let pend := leValue (get m 0x354 4) ||| s.lat .dbArrived sp 0
  let t := t.setSpFld fSPN_DB_PEND_PEND sp pend
  if (t.reg .SPN_TIMER_CMP (spDie sp) (spIdx sp)).toNat ≤ s.now then t.setSpFld fSPN_IRQ_TIMER sp 1 else t

end Sys2Proof.Machine
end

