-- ==== Sys2Proof/Machine/Mover.lean ====
section
/-! DEFINITION. Reads and writes of memory by every mover of data (DMA words, host DMA channels, collectives, host
requests): fragment by fragment, over HBM, CXL, scratchpads, die pools and warden SRAM (R22, R36 to R38, R252). -/

namespace Sys2Proof.Machine

/-- What stands at the bank of a scratchpad or SRAM byte range answers a mover. -/
def State.moveBank (s : State) (b : Bank) (off n : Nat) : Status × State :=
  match s.bankReach b off n with
  | (.serve, t) => (.ok, t)
  | (.wait, t) => (.held, t)
  | (.absent, t) => (.unsupported, t)

/-- How a die answers accesses to its window: isolated (R22), held while it is in RETAIN (R536), or served. -/
def State.dieAnswer (s : State) (d : Nat) : Status :=
  if 62 ≤ d then .ok else if !s.dieUp d then .dieLost else if s.dieRetained d then .held else .ok

/-- The slot's scratchpad is there (R22, R350, R536). -/
def State.padUp (s : State) (sp : Nat) : Status :=
  if s.dieAnswer (spDie sp) ≠ .ok then s.dieAnswer (spDie sp)
  else if s.lat .slotRetired sp 0 ≠ 0 then .unsupported else .ok

/-- A piece of at most 64 bytes within a fragment is read: status, bytes, and the state with what the read woke. A
part of a die window that is no memory reads zero (R9). -/
def State.movePiece (s : State) (a n : Nat) : Status × List Byte × State :=
  match s.locate a with
  | .hbm _ | .cxl _ =>
    let r := s.readSlow a n
    (r.1, r.2, s.noteRead a n)
  | .pad sp off _ =>
    if s.padUp sp = .ok then
      let r := s.moveBank (padBank sp off) (off % 0x80000) n
      if r.1 = .ok then (.ok, s.bytes (padAddr sp off) n, r.2) else (r.1, [], r.2)
    else (s.padUp sp, [], s)
  | .pool d _ => if s.dieAnswer d = .ok then (.ok, s.bytes a n, s) else (s.dieAnswer d, [], s)
  | .sram w off _ =>
    let r := s.moveBank (sramBank w off) (off % 0x40000) n
    if r.1 = .ok then (.ok, s.bytes (sramAddr w off) n, r.2) else (r.1, [], r.2)
  | .view sp _ =>
    if s.dieAnswer (spDie sp) = .ok then (.ok, List.replicate n 0, s) else (s.dieAnswer (spDie sp), [], s)
  | .win d _ => if s.dieAnswer d = .ok then (.ok, List.replicate n 0, s) else (s.dieAnswer d, [], s)
  | .none => (.unsupported, [], s)

/-- Reads of pieces in order: the status of the first that is not served, else all the bytes. -/
def State.readEach (s : State) (l : List (Nat × Nat)) (f : State → Nat → Nat → Status × List Byte × State) :
    Status × List Byte × State :=
  l.foldl (fun (acc : Status × List Byte × State) (p : Nat × Nat) =>
    if acc.1 ≠ .ok then acc
    else
      let r := f acc.2.2 p.1 p.2
      (r.1, if r.1 = .ok then acc.2.1 ++ r.2.1 else [], r.2.2)) (.ok, [], s)

/-- Writes of pieces in order, of bytes that start at `a`; it stops at the first that is not served. -/
def State.writeEach (s : State) (a : Nat) (bs : List Byte) (l : List (Nat × Nat)) (f : State → Nat → List Byte → Status × State) :
    Status × State :=
  l.foldl (fun (acc : Status × State) (p : Nat × Nat) =>
    if acc.1 ≠ .ok then acc else f acc.2 p.1 ((bs.drop (p.1 - a)).take p.2)) (.ok, s)

/-- A request of die `d` to some piece of a range waits for a route of the mesh (R20). -/
def State.meshWaits (s : State) (d a n : Nat) : Bool :=
  s.lat .routeHold d 0 != 0 && (pieces (a % 2 ^ 52) n).any fun p => s.crossHeld d (a / 2 ^ 52 * 2 ^ 52 + p.1)

/-- Die `d` reads bytes of this package's memory. -/
def State.ownRead (s : State) (d a n : Nat) : Status × List Byte × State :=
  if s.meshWaits d (s.pkg * 2 ^ 52 + a) n then (.held, [], s) else s.readEach (pieces a n) State.movePiece

/-- A piece is written. A write to a part of a window that is no memory is ignored (R9). -/
def State.putPiece (s : State) (a : Nat) (bs : List Byte) : Status × State :=
  match s.locate a with
  | .hbm _ | .cxl _ => s.writePiece a bs
  | .pad sp off al =>
    if s.padUp sp = .ok then
      let r := s.moveBank (padBank sp off) (off % 0x80000) bs.length
      if r.1 = .ok then (.ok, r.2.aliasWrite al (padAddr sp off) bs) else r
    else (s.padUp sp, s)
  | .pool d _ => if s.dieAnswer d = .ok then (.ok, s.setBytes a bs) else (s.dieAnswer d, s)
  | .sram w off al =>
    let r := s.moveBank (sramBank w off) (off % 0x40000) bs.length
    if r.1 = .ok then (.ok, r.2.aliasWrite al (sramAddr w off) bs) else r
  | .view sp _ => (s.dieAnswer (spDie sp), s)
  | .win d _ => (s.dieAnswer d, s)
  | .none => (.unsupported, s)

/-- EV 0x3F01 of a master's unit where an address was unpopulated (R38). -/
def State.noteUnpopulated (s : State) (st : Status) (u a : Nat) : State :=
  if st = .unsupported then s.event 0x3F01 .warn u a else s

end Sys2Proof.Machine
end

