-- ==== Sys2Proof/Machine/Ports.lean ====
section
/-! DEFINITION. Host ports, CXL ports and warp ports as their commands and every reset see them: the abort of DMA
channels, PORT resets (R269, R276, R282, Table RST-1, Table RST-2), the entry of a warp port into a state. -/

namespace Sys2Proof.Machine

/-! ## Host ports -/

/-- The unit of a host port (Table FL-11). -/
def hostUnit (port : Nat) : Nat := unitId 60 port

/-- The descriptors a channel is moving, oldest first (R273). -/
def State.dmaMoving (s : State) (port c : Nat) : List W256 := sget [] s.dma (port * 4 + c)

/-- Set the descriptors a channel is moving. -/
def State.setDmaMoving (s : State) (port c : Nat) (l : List W256) : State :=
  { s with dma := sset [] s.dma (port * 4 + c) l }

/-- A field of a channel's registers. -/
def State.dmaFld (s : State) (f : RField) (port c : Nat) : Nat := s.fld f 60 (port * 4 + c)
/-- Set a field of a channel's registers. -/
def State.setDmaFld (s : State) (f : RField) (port c x : Nat) : State := s.setFld f 60 (port * 4 + c) x

/-- A slot index after `n` slots of a channel's ring. -/
def State.ringAdd (s : State) (port c i n : Nat) : Nat := (i + n) % 2 ^ s.dmaFld fHI_DMA_CTL_LOG2 port c

/-- A descriptor ends with a status other than DONE (R275). -/
def State.dmaFail (s : State) (port c : Nat) : State :=
  ((s.setDmaFld fHI_DMA_CTL_ERR port c 1).setDmaFld fHI_DMA_CTL_ENABLE port c 0).event 0x3304 .fault (hostUnit port) c

/-- The moving descriptors of a port stop at once with STATUS ABORTED (R276); TAIL passes them where the link still
allows the write of STATUS. -/
def State.dmaAbort (s : State) (port : Nat) (link : Bool) : State :=
  s.each (List.range 4) fun c t =>
    let n := (t.dmaMoving port c).length
    let u := (List.range n).foldl (fun (v : State) _ => v.dmaFail port c) t
    let u := if link ∧ n ≠ 0 then u.setDmaFld fHI_DMA_TAIL_INDEX port c (u.ringAdd port c (u.dmaFld fHI_DMA_TAIL_INDEX port c) n) else u
    ((u.setDmaMoving port c []).setDmaFld fHI_DMA_CTL_ENABLE port c 0).setDmaFld fHI_DMA_CTL_IDLE port c 1

/-- A change of HI_LINK_STAT raises vector 6 (Table LNK-4). -/
def State.linkChange (s before : State) (port : Nat) : State :=
  if s.reg .HI_LINK_STAT 60 port = before.reg .HI_LINK_STAT 60 port then s else s.raiseMsix port 6

/-- The registers of a host port's own block; HI_PKG_NUM belongs to the die. -/
def inHostPort (port : Nat) (r : Reg) (i : Nat) : Bool :=
  match r with
  | .HI_BAR2_BASE | .HI_LINK_STAT | .HI_MSIX_PBA => i == port
  | .HI_DMA_BASE | .HI_DMA_CTL | .HI_DMA_HEAD | .HI_DMA_TAIL => i / 4 == port
  | .HI_MSIX_LO | .HI_MSIX_HI => i / 16 == port
  | _ => false

/-- The fields a PORT reset keeps (Table RST-2). -/
def portKeeps (c : Cls) : Bool := c == .F || c == .S || c == .E || c == .T

/-- A PORT reset of a host port (R269, R276, R405): its link drops, its channels abort, its locks are free. -/
def State.hostPortReset (s : State) (port cause : Nat) : State :=
  let t := s.dmaAbort port false
  let t := t.resetRegs (fun r d i => d == 60 && inHostPort port r i) portKeeps
  (t.freeLocks fun o => o == 0x8000 + port).resetRan .port (hostUnit port) cause

/-! ## CXL ports -/

/-- The unit of CXL port `p` (Table FL-11). -/
def cxlUnit (p : Nat) : Nat := unitId (60 + p / 2) (0x10 + p)
/-- A field of a CXL port. -/
def State.cxFld (s : State) (f : RField) (p : Nat) : Nat := s.fld f (60 + p / 2) (p % 2)
/-- Set a field of a CXL port. -/
def State.setCxFld (s : State) (f : RField) (p x : Nat) : State := s.setFld f (60 + p / 2) (p % 2) x

/-- The block of CXL port `p`. -/
def inCxlPort (p : Nat) (r : Reg) (d i : Nat) : Bool :=
  d == 60 + p / 2 && i == p % 2 && match r with | .CX_PORT_CTL | .CX_PORT_STAT | .CX_PORT_SN => true | _ => false

/-- A PORT reset of a CXL port: it trains again, unless ENABLE holds the expander in reset (R278, R282). ENABLE's
reset value is 1. -/
def State.cxlPortReset (s : State) (p cause : Nat) : State :=
  let t := s.resetRegs (fun r d i => inCxlPort p r d i) portKeeps
  (t.setCxFld fCX_PORT_STAT_STATE p 1).resetRan .port (cxlUnit p) cause

/-! ## Warp ports -/

/-- The block of warp port `p`. -/
def inWarpPort (p : Nat) (r : Reg) (d i : Nat) : Bool :=
  d == warpDie p &&
    match r with
    | .WP_PORT_CTL | .WP_PORT_STAT | .WP_PORT_ERR | .WP_PORT_FEC => i == p % 4
    | .WP_LANE => i / 8 == p % 4
    | _ => false

/-- What a warp port keeps beside its registers is gone. -/
def State.warpForget (s : State) (p : Nat) : State :=
  (((((s.dropFlits p).setLat .warpPeer p 0 0).setLat .warpFails p 0 0).setLat .warpExpect p 0 0).setLat .warpAcked p 0 0).setLat .warpSince p 0 0

/-- A PORT reset of a warp port: DOWN, or RETIRED as the active warden restores it (R295, Table LNK-15). -/
def State.warpPortReset (s : State) (p cause : Nat) : State :=
  let t := (s.resetRegs (fun r d i => inWarpPort p r d i) portKeeps).warpForget p
  let t := if t.isRetired (warpUnit p) then t.setWpFld fWP_PORT_STAT_STATE p 5 else t
  (t.holdFlows s).resetRan .port (warpUnit p) cause

end Sys2Proof.Machine
end

