-- ==== Sys2Proof/Machine/Cxl.lean ====
section
/-! DEFINITION. The meanings of the CXL port commands (R278 to R283). -/

namespace Sys2Proof.Machine

/-- A CXL port that exists. -/
def isCxlPort (p : Nat) : Bool := decide (p < 4)

/-- The mapped capacity in units of 256 MiB (R278). -/
def cxlCap (x : Expander) : Nat := min (x.bytes / 0x10000000) 8192

/-- Why an expander is refused (R279, R282): CX_PORT_STAT.REASON, 0 where it is not. -/
def State.cxlReason (s : State) (p : Nat) (x : Expander) : Nat :=
  if !x.type3 then 1 else if x.cache then 2 else if x.multi then 3 else if cxlCap x = 0 then 4
  else if s.lat .cxlWasSn p 0 ≠ 0 ∧ (s.lat .cxlWasSn p 0 ≠ x.serial.toNat + 1 ∨ s.lat .cxlWasCap p 0 ≠ cxlCap x) then 5
  else 0

/-- The active warden brings a port up (R278, R279, R282): RETRAIN reads 0 as it leaves TRAINING; what it must find again after a
retrain is kept until the port is MAPPED. -/
def execCxlPortBringup (p : Nat) (x : Expander) (s : State) : Out :=
  ifUnit (isCxlPort p)
    (if s.dieUp (60 + p / 2) ∧ s.cxFld fCX_PORT_CTL_ENABLE p = 1 ∧ s.cxFld fCX_PORT_STAT_STATE p ≤ 1 then
      let r := s.cxlReason p x
      let t := s.setCxFld fCX_PORT_CTL_RETRAIN p 0
      if r ≠ 0 then
        ((t.setCxFld fCX_PORT_STAT_STATE p 3).setCxFld fCX_PORT_STAT_REASON p r).wevent 0x3402 .warn 0 (p + r * 2 ^ 8)
      else
        let t := ((t.setCxFld fCX_PORT_STAT_STATE p 2).setCxFld fCX_PORT_STAT_REASON p 0).setCxFld fCX_PORT_STAT_CAP p (cxlCap x)
        let t := ((t.setCxFld fCX_PORT_STAT_VERSION p x.version).setCxFld fCX_PORT_STAT_SPEED p x.speed).setCxFld
          fCX_PORT_STAT_WIDTH p x.width
        let t := (t.setCxFld fCX_PORT_STAT_FLIT256 p x.flit256.toNat).setReg .CX_PORT_SN (60 + p / 2) (p % 2) x.serial
        (((t.setLat .cxlWrote p 0 0).setLat .cxlWasSn p 0 0).setLat .cxlWasCap p 0 0).wevent 0x3401 .note 0 (p + cxlCap x * 2 ^ 8)
    else s)

/-- The link of a MAPPED port goes down (R281). -/
def execCxlLinkDown (p : Nat) (s : State) : Out :=
  ifUnit (isCxlPort p)
    (if s.cxFld fCX_PORT_STAT_STATE p = 2 then
      let t := ((s.setCxFld fCX_PORT_STAT_STATE p 4).setCxFld fCX_PORT_STAT_SPEED p 0).setCxFld fCX_PORT_STAT_WIDTH p 0
      (t.setLat .cxlWrote p 0 0).event 0x3403 .fault (cxlUnit p) 0
    else s)

/-- A write of 1 to CX_PORT_CTL.RETRAIN (R268, R282). -/
def State.cxlRetrain (s : State) (p : Nat) : State :=
  let was := s.cxFld fCX_PORT_STAT_STATE p = 2 ∨ s.cxFld fCX_PORT_STAT_STATE p = 4
  let sn := (s.reg .CX_PORT_SN (60 + p / 2) (p % 2)).toNat
  let cap := s.cxFld fCX_PORT_STAT_CAP p
  let t := (s.cxlPortReset p 0).setCxFld fCX_PORT_CTL_RETRAIN p 1
  if was then (t.setLat .cxlWasSn p 0 (sn + 1)).setLat .cxlWasCap p 0 cap else t

/-- EV 0x3F02: a port register write was refused (R268, R297). -/
def State.portRefused (s : State) (d : Nat) : State := s.event 0x3F02 .warn (dieUnit d) 0

/-- A write of a WP_ or CX_ register (R268). -/
def State.portWrite (s : State) (m : Master) (d : Nat) (f : State → State) : State :=
  s.toDie d fun t => if t.hostOrActive m then f t else t.portRefused d

/-- CXL_RETRAIN. -/
def execCxlRetrain (m : Master) (p : Nat) (s : State) : Out :=
  ifUnit (isCxlPort p) (s.portWrite m (60 + p / 2) fun t => t.cxlRetrain p)

/-- CX_PORT_CTL written (Table LNK-8): ENABLE 0 holds the expander in reset with the slice unpopulated. -/
def State.cxlCtlWrite (s : State) (p : Nat) (v : W64) : State :=
  let t := s.setCxFld fCX_PORT_CTL_ENABLE p (getBits v 0 0)
  let t := if bitOf v 0 then t
    else ((((t.setCxFld fCX_PORT_STAT_STATE p 0).setCxFld fCX_PORT_STAT_CAP p 0).setCxFld fCX_PORT_STAT_REASON p
      0).setCxFld fCX_PORT_STAT_SPEED p 0).setCxFld fCX_PORT_STAT_WIDTH p 0
  if bitOf v 1 then (t.cxlRetrain p).setCxFld fCX_PORT_CTL_ENABLE p (getBits v 0 0) else t

/-- The expander's event log is read (R283): each new record, its first 16 bytes, becomes EV 0x3405. -/
def execCxlEventLogPoll (p : Nat) (recs : List Nat) (s : State) : Out :=
  ifUnit (isCxlPort p)
    (if s.cxFld fCX_PORT_STAT_STATE p = 2 then s.each recs fun r t => t.wevent 0x3405 .note 0 (r % 2 ^ 128) else s)

end Sys2Proof.Machine
end

