-- ==== Sys2Proof/Machine/Collective.lean ====
section
/-! DEFINITION. The collective engine of XD0 (R302 to R309, Tables LNK-19 to LNK-23): posting a descriptor, loading a
group, matching, the exact reductions, completion and the loss of a member. -/

namespace Sys2Proof.Machine

/-! ## Descriptors (Table LNK-19) -/

/-- A field of a descriptor: bytes `b` on, bits `hi` to `lo` of them. -/
def CollJob.bits (j : CollJob) (b hi lo : Nat) : Nat := leValue ((j.desc.drop b).take 8) >>> lo % 2 ^ (hi + 1 - lo)
/-- SRC. -/
def CollJob.src (j : CollJob) : Nat := leValue ((j.desc.drop 0).take 8)
/-- DST. -/
def CollJob.dst (j : CollJob) : Nat := leValue ((j.desc.drop 8).take 8)
/-- DBTARGET. -/
def CollJob.target (j : CollJob) : W64 := BitVec.ofNat 64 (leValue ((j.desc.drop 16).take 8))
/-- SEED. -/
def CollJob.seed (j : CollJob) : W64 := BitVec.ofNat 64 (leValue ((j.desc.drop 24).take 8))
/-- COUNT. -/
def CollJob.count (j : CollJob) : Nat := j.bits 32 31 0
/-- OP: 1 BROADCAST, 2 ALLGATHER, 3 ALLTOALL, 4 REDUCE_SCATTER, 5 ALLREDUCE, 6 GROUP_LOAD. -/
def CollJob.op (j : CollJob) : Nat := j.bits 36 3 0
/-- GROUP. -/
def CollJob.group (j : CollJob) : Nat := j.bits 36 7 4
/-- FIN. -/
def CollJob.fin (j : CollJob) : Nat := j.bits 36 11 8
/-- FOUT. -/
def CollJob.fout (j : CollJob) : Nat := j.bits 36 15 12
/-- ROUND. -/
def CollJob.round (j : CollJob) : Nat := j.bits 36 19 16
/-- RED: 1 MAX. -/
def CollJob.isMax (j : CollJob) : Bool := j.bits 36 20 20 == 1
/-- DBE. -/
def CollJob.dbe (j : CollJob) : Bool := j.bits 36 21 21 == 1
/-- DBBIT. -/
def CollJob.dbbit (j : CollJob) : Nat := j.bits 36 26 22
/-- ROOT. -/
def CollJob.root (j : CollJob) : Nat := j.bits 40 11 0
/-- SEQ. -/
def CollJob.seq (j : CollJob) : Nat := j.bits 44 31 0

/-- A reduction. -/
def CollJob.reduces (j : CollJob) : Bool := j.op == 4 || j.op == 5

/-- The format of an element class (FIN, FOUT). -/
def collFmt (c : Nat) : Fmt := match c with | 0 => fmtFP32 | 1 => fmtFP16 | 2 => fmtBF16 | _ => fmtINT8

/-- Bytes of an element. -/
def collSize (c : Nat) : Nat := (collFmt c).width / 8

/-- The rounding mode of a code of Table SP-3. -/
def roundOfCode (c : Nat) : RMode :=
  match c with | 0 => .nearest | 1 => .zero | 2 => .up | 3 => .down | _ => .stochastic

/-- Members of a group: none while the slot is empty. -/
def State.collGroup (s : State) (g : Nat) : List Nat := sget [] s.collGroups g

/-- Bytes a descriptor reads at SRC in a group of `n`. -/
def CollJob.srcLen (j : CollJob) (n : Nat) : Nat :=
  (if j.op = 3 ∨ j.op = 4 then n * j.count else j.count) * collSize j.fin

/-- Bytes a descriptor writes at DST in a group of `n`. -/
def CollJob.dstLen (j : CollJob) (n : Nat) : Nat :=
  (if j.op = 2 ∨ j.op = 3 then n * j.count else j.count) * collSize j.fout

/-- A descriptor breaks Table LNK-19 (BAD_DESC) by itself. -/
def CollJob.badForm (j : CollJob) : Bool :=
  j.bits 36 31 27 != 0 || j.bits 40 31 12 != 0 || leValue (j.desc.drop 48) != 0 || j.op == 0 || decide (6 < j.op) ||
    decide (3 < j.fin) || decide (3 < j.fout) || decide (4 < j.round) || (!j.reduces && j.fin != j.fout) ||
    (j.op != 1 && j.root != 0) || (if j.dbe then !dbForm j.target else j.target != 0)

/-- SRC or DST of a descriptor is outside the package, in a group of `n` members. -/
def State.badPlaces (s : State) (j : CollJob) (n : Nat) : Bool :=
    (if j.op == 6 then decide (2 ^ 52 ≤ j.src + 4 * j.count) || (j.count != 0 && !s.populated (s.pkg * 2 ^ 52 + j.src) (4 * j.count))
     else decide (2 ^ 52 < j.src + j.srcLen n) || decide (2 ^ 52 < j.dst + j.dstLen n) ||
      (j.count != 0 && (!s.populated (s.pkg * 2 ^ 52 + j.src) (j.srcLen n) || !s.populated (s.pkg * 2 ^ 52 + j.dst) (j.dstLen n))))

/-- A descriptor fails with BAD_DESC in a group of `n` members. -/
def State.collBad (s : State) (j : CollJob) (n : Nat) : Bool := j.badForm || (j.op == 1 && decide (n ≤ j.root)) || s.badPlaces j n

/-! ## Ending (R308, Table LNK-21, Table LNK-23) -/

/-- The number of descriptors queued is shown. -/
def State.collShow (s : State) : State := s.setFld fWP_COLL_STAT_QUEUED 56 0 s.coll.length

/-- The first descriptor of a group. -/
def State.collHead (s : State) (g : Nat) : Option CollJob := s.coll.find? fun j => j.group == g

/-- The first descriptor of a group ends with a result: it leaves the queue, and its doorbell is set where it is DONE
(R308). -/
def State.collEnd (s : State) (j : CollJob) (result : Nat) : State :=
  let t : State := { s with coll := s.coll.erase j }
  let t := if result = 0 ∧ j.dbe then
      (t.ring 56 (dieUnit 56) j.target (2 ^ j.dbbit)).getD (t.event 0x3F01 .warn (dieUnit 56) j.target.toNat)
    else t
  let t := match result with
    | 5 => t.event 0x3502 .warn (dieUnit 56) j.seq
    | 6 => t.event 0x3503 .fault (dieUnit 56) j.seq
    | _ => t
  (((t.setFld fWP_COLL_STAT_RESULT 56 0 result).setFld fWP_COLL_STAT_SEQ 56 0 j.seq).setFld fWP_COLL_STAT_GROUP 56 0
    j.group).collShow

/-! ## GROUP_LOAD (R302) -/

/-- The result of loading a list. -/
def State.groupCode (s : State) (count : Nat) (l : List Nat) : Nat :=
  if count = 0 then 2 else if 4096 < count then 3
  else if l.eraseDups.length ≠ l.length ∨ !l.contains s.pkg then 4 else 0

/-- A GROUP_LOAD runs: the slot takes the list and its check value; it waits while the list is held. A list that stands where there
is no memory reads zero. -/
def State.groupLoad (s : State) (j : CollJob) : State :=
  let code0 := s.groupCode j.count [s.pkg]
  if code0 ≠ 0 then s.collEnd j code0
  else if s.collBad j 1 then s.collEnd j 1
  else
    let r := s.ownRead 56 j.src (4 * j.count)
    if r.1 = .held then r.2.2
    else if r.1 ≠ .ok then r.2.2.collEnd j 8
    else
      let es := (List.range j.count).map fun k => leValue ((r.2.1.drop (4 * k)).take 4)
      let code := if es.any fun e => 4096 ≤ e then 1 else s.groupCode j.count es
      if code ≠ 0 then r.2.2.collEnd j code
      else
        let g := j.group
        let t : State := { r.2.2 with collGroups := sset [] r.2.2.collGroups g es }
        let t := t.setReg .WP_COLL_GRP 56 g (BitVec.ofNat 64 ((crc32 r.2.1).toNat * 2 ^ 32 + j.count))
        (t.setLat .collLost g 0 0).collEnd j 0

/-! ## Posting (R306) -/

/-- What a descriptor ends with at its own member without waiting for others: none where it waits (R307, R309). -/
def State.collOwn (s : State) (j : CollJob) : Option Nat :=
  let n := (s.collGroup j.group).length
  if s.lat .collLost j.group 0 ≠ 0 then some 6
  else if n = 0 then (if j.badForm || s.badPlaces j 1 then some 1 else some 7)
  else if s.collBad j n then some 1
  else none

/-- The first descriptors of a group that need no other member run, one after the other. -/
def State.collAdvance (g : Nat) : Nat → State → State
  | 0, s => s
  | fuel + 1, s =>
    match s.collHead g with
    | none => s
    | some j =>
      if j.begun then s
      else if j.op = 6 then State.collAdvance g fuel (s.groupLoad j)
      else match s.collOwn j with
        | some code => State.collAdvance g fuel (s.collEnd j code)
        | none => s

/-- The descriptor at a local address. -/
def State.collRead (s : State) (v : W64) : CollJob := ⟨s.bytes (getBits v 51 6 * 64) 64, false⟩

/-- Who may post (R306): host ports, the active warden and spindles. -/
def State.mayPost (s : State) : Master → Bool
  | .spindle _ => true
  | m => s.hostOrActive m

/-- A write to WP_COLL_POST (R306). -/
def State.collPost (s : State) (m : Master) (v : W64) : State :=
  s.toDie 56 fun t =>
    if !t.mayPost m then t.portRefused 56
    else if 16 ≤ t.coll.length then (t.setFld fWP_COLL_STAT_REFUSED 56 0 1).event 0x3504 .warn (dieUnit 56) 0
    else
      let j := t.collRead v
      let u : State := { t with coll := t.coll ++ [j] }
      State.collAdvance j.group 17 u.collShow

/-- The command of a post whose descriptor has operation `op`. -/
def collCommand (op : Nat) (m : Master) (v : W64) (s : State) : Out :=
  .next (if (s.collRead v).op = op then s.collPost m v else s)

/-- COLL_GROUP_LOAD. -/
def execCollGroupLoad (m : Master) (v : W64) (s : State) : Out := collCommand 6 m v s
/-- COLL_BROADCAST. -/
def execCollBroadcast (m : Master) (v : W64) (s : State) : Out := collCommand 1 m v s
/-- COLL_ALLGATHER. -/
def execCollAllgather (m : Master) (v : W64) (s : State) : Out := collCommand 2 m v s
/-- COLL_ALLTOALL. -/
def execCollAlltoall (m : Master) (v : W64) (s : State) : Out := collCommand 3 m v s
/-- COLL_REDUCE_SCATTER. -/
def execCollReduceScatter (m : Master) (v : W64) (s : State) : Out := collCommand 4 m v s
/-- COLL_ALLREDUCE. -/
def execCollAllreduce (m : Master) (v : W64) (s : State) : Out := collCommand 5 m v s

/-! ## Running (R303 to R309) -/

/-- A group's first descriptor can go on: a GROUP_LOAD whose list was held (R302); else, with every member's post of the same SEQ
(R303, R307), it begins, or fails with MISMATCH
where `same` tells that the members' values differ; a group of this package alone cannot differ. -/
def execCollBegin (g : Nat) (same : Bool) (s : State) : Out :=
  ifUnit (g < 16)
    (match s.collHead g with
    | some j =>
      if j.begun ∨ !s.dieUp 56 then s
      else if j.op = 6 then State.collAdvance g 17 s
      else if same ∨ (s.collGroup g).length = 1 then
        { s with coll := s.coll.modify (s.coll.idxOf j) fun x => { x with begun := true } }
      else State.collAdvance g 17 (s.collEnd j 5)
    | none => s)

/-- Element `e` of bytes of a class. -/
def elemOf (c : Nat) (bs : List Byte) (e : Nat) : FV :=
  decodeVal (collFmt c) (leValue ((bs.drop (e * collSize c)).take (collSize c)))

/-- One reduced element of the members' contributions (R304), at index `i` of the whole result vector. -/
def CollJob.reduced (j : CollJob) (vs : List FV) (i : Nat) : List Byte :=
  let rd : Rnd := ⟨roundOfCode j.round, stochDraw j.seed 0 i⟩
  let f := collFmt j.fout
  let code := if j.isMax then
      (match vs with | [] => 0 | v :: ws => encodeVal f rd (ws.foldl FV.max v))
    else readOut f rd (combine [Lane.zero.accumulateAll vs])
  leBytes (collSize j.fout) code

/-- The bytes of DST from the bytes each member sends here, this member's own among them (Table LNK-20); `m` is this
member's index. -/
def CollJob.result (j : CollJob) (m : Nat) (parts : List (List Byte)) : List Byte :=
  match j.op with
  | 1 => (parts[j.root]?).getD []
  | 2 | 3 => parts.flatten
  | _ =>
    let base := if j.op = 4 then m * j.count else 0
    (List.range j.count).flatMap fun e => j.reduced (parts.map fun p => elemOf j.fin p e) (base + e)

/-- The part of this member's own source that goes to itself. -/
def CollJob.ownPart (j : CollJob) (m : Nat) (src : List Byte) : List Byte :=
  if j.op = 3 ∨ j.op = 4 then (src.drop (m * j.count * collSize j.fin)).take (j.count * collSize j.fin) else src

/-- A part as long as it must be. -/
def padTo (n : Nat) (bs : List Byte) : List Byte := bs.take n ++ List.replicate (n - bs.length) 0

/-- A member is unreachable or the timeout passes (R309): the group's collective fails, and every later one until the
group is loaded again. -/
def State.collLose (s : State) (g : Nat) : State :=
  match s.collHead g with
  | some j => State.collAdvance g 17 ((s.setLat .collLost g 0 1).collEnd j 6)
  | none => s

/-- COLL_MEMBER_LOST. -/
def execCollMemberLost (g : Nat) (s : State) : Out := ifUnit (g < 16) (if s.dieUp 56 then s.collLose g else s)

end Sys2Proof.Machine
end

