-- ==== Sys2Proof/Machine/PlyCommands.lean ====
section
/-! DEFINITION. The meanings of the ply commands (chapter 05): PLY_CMD writes by operation, their
completion, and what the sequencers and the active warden do by themselves. -/

namespace Sys2Proof.Machine

/-- Compute dies of the package. -/
def nCompute : Nat := 48

/-- A write of PLY_CMD whose OP is the row's; a write of another OP is another row's command. -/
def plyRow (m : Master) (d op : Nat) (v : W64) (s : State) (job : State → Option PlyDesc → PlyJob) : Out :=
  ifUnit (d < nCompute) (if getBits v 3 0 = op then s.plyCmdWrite m d v job else s)

/-- FORM (R182, R183). -/
def execPlyForm (m : Master) (d : Nat) (v : W64) (s : State) : Out := plyRow m d 1 v s fun t x => t.jobForm d v x
/-- JOIN (R184). -/
def execPlyJoin (m : Master) (d : Nat) (v : W64) (s : State) : Out := plyRow m d 2 v s fun t x => t.jobJoin d v x
/-- SPLIT (R185). -/
def execPlySplit (m : Master) (d : Nat) (v : W64) (s : State) : Out := plyRow m d 3 v s fun t _ => t.jobSplit d v
/-- DISSOLVE (R185). -/
def execPlyDissolve (m : Master) (d : Nat) (v : W64) (s : State) : Out := plyRow m d 4 v s fun t _ => t.jobDissolve d v
/-- RUN (R179). -/
def execPlyRun (m : Master) (d : Nat) (v : W64) (s : State) : Out := plyRow m d 5 v s fun t _ => t.jobRun d v .run
/-- HALT (R179). -/
def execPlyHalt (m : Master) (d : Nat) (v : W64) (s : State) : Out := plyRow m d 6 v s fun t _ => t.jobRun d v .halt
/-- STEP (R179). -/
def execPlyStep (m : Master) (d : Nat) (v : W64) (s : State) : Out := plyRow m d 7 v s fun t _ => t.jobRun d v .step
/-- REFORM (R190). -/
def execPlyReform (m : Master) (d : Nat) (v : W64) (s : State) : Out := plyRow m d 8 v s fun t x => t.jobReform d v x

/-- A reserved OP (R187, Table PLY-6). -/
def execPlyBadCommand (m : Master) (d : Nat) (v : W64) (s : State) : Out :=
  ifUnit (d < nCompute)
    (if getBits v 3 0 = 0 ∨ 9 ≤ getBits v 3 0 then s.plyCmdWrite m d v fun _ _ => PlyJob.fail 1 none 0 else s)

/-- A ply command completes (R187, R569). -/
def execPlyCmdComplete (d : Nat) (s : State) : Out := ifUnit (d < nCompute) (s.plyComplete d)

/-- The doorbell bits of a member other than member 0 move to member 0 (R177); they leave this package where member 0 is
in another. -/
def execPlyDoorbellMove (sp : Nat) (s : State) : Out :=
  ifUnit (sp < nSpindles)
    (if s.inRealPly sp && !s.isLead sp then
      let t := s.setSpFld fSPN_DB_PEND_PEND sp 0
      if s.leadOf sp = sp then t else t.doorbell (s.leadOf sp) (s.spFld fSPN_DB_PEND_PEND sp)
    else s)

/-- A word is cleared in every member of the ply of lead `psn`, last in member `mem` (R172 to R174): it
passes its commit point and the window moves on. -/
def execPlyWordCleared (psn mem : Nat) (s : State) : Out :=
  ifUnit (psn < nSpindles)
    (match s.plyOf psn with
     | some p =>
       if s.isLead psn ∧ 1 < p.members.length ∧ mem < p.members.length ∧ s.spState psn = 3 ∧
           s.lat .cleared psn 0 < (s.spin psn).spool.length then
         (s.setFld fPLY_ENTRY_STAT_SLOWEST (spDie psn) (spIdx psn) mem).setLat .cleared psn 0 (s.lat .cleared psn 0 + 1)
       else s
     | none => s)

/-! ## Automatic re-forming (R191) -/

/-- The reserve spindles in the order R191 takes them for a member lost from die `d`: its own die, then by
mesh hops, dies at equal distance in ascending order, logical indices in ascending order. -/
def State.reserveFor (s : State) (d : Nat) : List Nat :=
  (List.range 9).flatMap fun h =>
    ((List.range nCompute).filter fun e => meshHops d e == h).flatMap fun e =>
      ((List.range 32).filter fun k => bitOf (s.reg .PLY_RESERVE e 0) k).map fun k => e * 32 + k

/-- Choose a replacement for each lost member in turn; `none` where the reserve cannot replace every one. -/
def State.chooseReserve (s : State) (p : Ply) : List Nat → List (Nat × Nat × Nat) → Option (List (Nat × Nat × Nat))
  | [], acc => some acc
  | i :: is, acc =>
    let m := p.members[i]?.getD (0, 0)
    match (if m.1 = s.pkg then
        (s.reserveFor (spDie m.2)).find? fun c =>
          (s.localCodes c).isEmpty && !acc.any fun x => x.2.2 == c
      else none) with
    | some c => s.chooseReserve p is (acc ++ [(i, s.pkg, c)])
    | none => none

/-- The active warden re-forms the AUTO ply of `psn` from the reserve (R191). -/
def State.autoReform (s : State) (p : Ply) : State :=
  if p.auto ∧ p.lost ≠ [] then
    match s.chooseReserve p p.lost [] with
    | some pairs => s.reformPly p pairs
    | none => s
  else s

end Sys2Proof.Machine
end

