-- ==== Sys2Proof/Machine/Epochs.lean ====
section
/-! DEFINITION. Faults and epochs (R342 to R378): thresholds, injected faults and the retirement log; enrolment,
commit, groups, rollback and the HELD state. -/

namespace Sys2Proof.Machine

/-! ## Thresholds, injection, the log (R343 to R354, R378) -/

/-- A write of the fault and epoch registers is honoured from a host port and from the active warden (R347). -/
def State.faultWrite (s : State) (m : Master) (f : State → State) : State :=
  if s.hostOrActive m then f s else s.wevent 0x8116 .warn 0 0

/-- An occurrence of an error class at a unit (R342 to R346). -/
def execErrorOccurrence (cls unit : Nat) (s : State) : Out :=
  ifUnit (cls < 32 && unit < 65536) (s.occur cls unit)

/-- WD_FLT_THR written (R347). -/
def execWdFltThrWrite (m : Master) (c : Nat) (v : W64) (s : State) : Out :=
  ifUnit (c < 32) (s.faultWrite m fun t =>
    if thrBad c v then t.wevent 0x8116 .warn 0 c else t.plainWrite .WD_FLT_THR t.aw c v)

/-- An injected occurrence (R378): a spindle acts out classes 0x00 and 0x01. -/
def State.inject (s : State) (cls u : Nat) : State :=
  let t := match cls with
    | 0 => s.setLat .injReplay u 0 1
    | 1 => s.setLat .injReadout u 0 1
    | c => s.occur c u
  t.wevent 0x8117 .note 0 (u + cls * 2 ^ 16)

/-- WD_FLT_INJECT written (R378): GO with jumper presence. -/
def execFaultInject (m : Master) (v : W64) (s : State) : Out :=
  .next (s.faultWrite m fun t =>
    let ok := t.wpOk .WD_FLT_INJECT t.aw 0 v
    let u := t.plainWrite .WD_FLT_INJECT t.aw 0 v
    if ok && bitOf v 8 then (u.setWfld fWD_FLT_INJECT_GO 0 0).inject (getBits v 4 0) (getBits v 31 16) else u)

/-- WD_RET_CLEAR written (R354): CLEAR with seal presence erases the log. -/
def execRetirementLogClear (m : Master) (v : W64) (s : State) : Out :=
  .next (s.faultWrite m fun t =>
    let ok := t.wpOk .WD_RET_CLEAR t.aw 0 v
    let u := t.plainWrite .WD_RET_CLEAR t.aw 0 v
    if ok && bitOf v 0 then
      let w : State := { (u.setWfld fWD_RET_CLEAR_CLEAR 0 0) with retLog := [] }
      (w.setWfld fWD_RET_STAT_FREE 0 1024).wevent 0x8118 .note 0 0
    else u)

/-! ## Epoch commands (R356, R359, R362, R377, Table REC-9) -/

/-- The current epoch. -/
def State.epochC (s : State) : Nat := (s.wreg .WD_EP_EPOCH 0).toNat

/-- The members of a unit identity: a ply's, or a spindle that is in no ply of more than one. -/
def State.unitMembers (s : State) (k sp : Nat) : Option (List (Nat × Nat)) :=
  if k ≠ s.pkg ∨ nSpindles ≤ sp then none
  else match s.plyById k sp with
    | some p => some p.members
    | none => if s.inRealPly sp then none else some [(k, sp)]

/-- Local members of a unit that are not lost are all HALTED. -/
def State.unitHalted (s : State) (k sp : Nat) : Bool :=
  let lost := match s.plyById k sp with | some p => p.lost | none => []
  match s.unitMembers k sp with
  | some ms => (s.localOf ms).all fun m => lost.contains m.1 || s.spState m.2 == 2
  | none => true

/-- Every local member of a unit is HALTED, a lost one too (R356). -/
def State.membersHalted (s : State) (k sp : Nat) : Bool :=
  match s.unitMembers k sp with
  | some ms => (s.localOf ms).all fun m => s.spState m.2 == 2
  | none => true

/-- The snapshot region suits a unit of `n` members (R356). -/
def State.snapOk (s : State) (h n : Nat) : Bool :=
  let d := handleDie h
  let k := handleSlot h
  decide (h / 2 ^ 52 = s.pkg) && decide (h / 2 ^ 11 % 2 ^ 41 = 0) && s.quarryUp d && s.rgnState d k == 2 &&
    (s.rgn d k).nonEpoch && (s.rgn d k).rowlen == 64 && decide (1536 * n ≤ (s.rgn d k).rows) &&
    !(s.entries.any fun i => (s.wreg .WD_EP_ENT1 i).toNat == h)

/-- An epoch command ends with a result; one that fails is recorded (Table REC-9, EV 0x8106). -/
def State.epEnd (s : State) (c : Nat) : State :=
  let t := s.setWfld fWD_EP_STAT_RESULT 0 c
  if c = 0 then t else t.wevent 0x8106 .warn 0 c

/-- Bits of WD_EP_CMD that are no field. -/
def epReserved : W64 := maskOf 51 43 ||| maskOf 31 12 ||| maskOf 7 4

/-- A write of WD_EP_CMD (R372): `held` for the commands accepted while PHASE is HELD. A command that passes its
checks runs; `codes` are its failing codes. -/
def State.epCmd (s : State) (m : Master) (op : Nat) (v : W64) (held : Bool) (codes : State → List Nat)
    (act : State → State) : State :=
  if getBits v 3 0 ≠ op then s
  else s.faultWrite m fun t =>
    let u := t.plainWrite .WD_EP_CMD t.aw 0 v
    let ph := u.wfld fWD_EP_STAT_PHASE 0
    if ph ≠ 0 ∧ ¬(ph = 5 ∧ held) then u.epEnd 7
    else match lowest ((if v &&& epReserved != 0 then [1] else []) ++ codes u) with
      | some c => u.epEnd c
      | none => (act u).epEnd 0

/-- The lowest free entry of the enrolment table. -/
def State.freeEnt (s : State) : Option Nat := (List.range 256).find? fun i => s.wfld fWD_EP_ENT0_STATE i == 0

/-- The images of an enrolled unit's local members are written: epoch `e`, PC `pc`, and `f` applied to the
registers they hold. -/
def State.writeImages (s : State) (i e : Nat) (pc : State → Nat → Nat) (f : Spin → Spin) : State :=
  let ident := s.wfld fWD_EP_ENT0_PKG i * 2 ^ 52 + s.wfld fWD_EP_ENT0_SPINDLE i
  s.each (s.entryMembers i) fun m t => t.writeImage i ident m.1 m.2 e (pc s m.2) (f (t.spin m.2))

/-- ENROL (R356). -/
def execEpEnrol (m : Master) (v : W64) (s : State) : Out :=
  let k := getBits v 63 52
  let sp := getBits v 42 32
  .next (s.epCmd m 1 v false
    (fun t =>
      let ms := t.unitMembers k sp
      let n := match ms with | some l => l.length | none => 0
      (if ms.isNone then [2] else []) ++ (if t.membersHalted k sp then [] else [3]) ++
        (if (t.enrolment k sp).isSome then [4] else []) ++ (if t.freeEnt.isNone then [5] else []) ++
        (if t.snapOk (t.wreg .WD_EP_ARG 0).toNat n then [] else [6]))
    fun t =>
      let n := match t.unitMembers k sp with | some l => l.length | none => 0
      let i := t.freeEnt.getD 0
      let u := (t.setWreg .WD_EP_ENT1 i (t.wreg .WD_EP_ARG 0)).setWreg .WD_EP_ENT0 i
        (BitVec.ofNat 64 (k * 2 ^ 52 + sp * 2 ^ 32 + Nat.log2 n * 2 ^ 24 + getBits v 11 8 * 2 ^ 16 + 1))
      (u.writeImages i u.epochC (fun x q => x.spFld fSPN_PC_WORD q) id).wevent 0x8102 .note 0 (k * 2 ^ 52 + sp))

/-- RELEASE (R359). -/
def execEpRelease (m : Master) (v : W64) (s : State) : Out :=
  let k := getBits v 63 52
  let sp := getBits v 42 32
  .next (s.epCmd m 2 v false
    (fun t => (if (t.unitMembers k sp).isNone then [2] else []) ++ (if t.unitHalted k sp then [] else [3]) ++
      (if (t.enrolment k sp).isNone then [4] else []))
    fun t =>
      let i := (t.enrolment k sp).getD 0
      ((t.setWreg .WD_EP_ENT0 i 0).setWreg .WD_EP_ENT1 i 0).wevent 0x8102 .note 0 (k * 2 ^ 52 + sp))

/-- Every quarry in service commits epoch C (R358, R362). -/
def State.commitQuarries (s : State) : State := s.each s.quarries fun d t => t.skeinCommit d s.epochC

/-- The head of a unit's stream is to be done again (R362). -/
def State.reopenHead (s : State) (sp : Nat) : State :=
  s.updSpin sp fun x =>
    { x with spool := match x.spool with | e :: es => { e with started := false } :: es | [] => [] }

/-- FORCE_COMMIT (R362): no images; a unit that was READY is ENROLLED and does its EPOCH word again. -/
def execEpForceCommit (m : Master) (v : W64) (s : State) : Out :=
  .next (s.epCmd m 3 v false (fun _ => []) fun t =>
    let c := t.epochC
    let u := (t.commitQuarries.setWreg .WD_EP_EPOCH 0 (BitVec.ofNat 64 (c + 1))).setWfld fWD_EP_STAT_ANCHORED 0 0
    let u := u.each u.entries fun i w =>
      if w.wfld fWD_EP_ENT0_STATE i = 2 then
        (w.setWfld fWD_EP_ENT0_STATE i 1).reopenHead (w.wfld fWD_EP_ENT0_SPINDLE i)
      else w
    u.wevent 0x8107 .warn 0 c)

/-- ROLLBACK (R365, R377): in HELD it performs the rollback without the guarantee. -/
def execEpRollback (m : Master) (v : W64) (s : State) : Out :=
  .next (s.epCmd m 4 v true (fun _ => []) fun t =>
    if t.wfld fWD_EP_STAT_PHASE 0 = 5 then (t.setWfld fWD_EP_STAT_PHASE 0 2).setLat .unguarded 0 0 1
    else t.trigger 0xFFFF 0)

/-- RESUME (R377): in HELD it releases the quarries and leaves the units halted. -/
def execEpResume (m : Master) (v : W64) (s : State) : Out :=
  .next (s.epCmd m 5 v true (fun t => if t.wfld fWD_EP_STAT_PHASE 0 = 5 then [] else [9]) fun t =>
    let u := (t.each t.quarries fun d x => x.skeinResume d).setWfld fWD_EP_STAT_PHASE 0 0
    (u.each (List.range 256) fun i x => x.setLat .runAfter i 0 0).setLat .rollbackFail 0 0 0)

/-- A reserved OP (R372, Table REC-9). -/
def execEpBadCommand (m : Master) (v : W64) (s : State) : Out :=
  let op := getBits v 3 0
  .next (if op = 0 ∨ 6 ≤ op then s.epCmd m op v false (fun _ => [1]) id else s)

/-! ## Groups (R363, R364) -/

/-- The packages a group list names: `n` entries of 4 bytes (R363). -/
def groupNames (n : Nat) (bs : List Byte) : List Nat :=
  (List.range n).map fun i => leValue ((bs.drop (4 * i)).take 4) % 4096

/-- The packages of this package's group; none where it is its own group. -/
def State.group (s : State) : List Nat :=
  let v := s.wreg .WD_EP_GRP_CFG 0
  let n := getBits v 12 0
  if n = 0 then [] else groupNames n (s.sysBytes (getBits v 63 13 * 2 ^ 13) (4 * n))

/-- The leader: the lowest package number in the list. -/
def State.groupLeader (s : State) : Nat := (lowest s.group).getD s.pkg

/-- A group message is sent to every other member. -/
def State.groupSend (s : State) (code : Nat) : State :=
  s.each (s.group.filter fun k => k != s.pkg) fun k t => t.setLat .groupMsg k 0 code

/-- The leader forgets the READYs it holds. -/
def State.groupForget (s : State) : State := s.resetLats fun n _ _ => n == latId .groupReady

/-- WD_EP_GRP_CFG written (R363). -/
def execEpGrpCfgWrite (m : Master) (v : W64) (s : State) : Out :=
  .next (s.faultWrite m fun t =>
    let n := getBits v 12 0
    let a := getBits v 63 13 * 2 ^ 13
    let ok := decide (n = 0) || (t.populated a (4 * n) &&
      (groupNames n (t.sysBytes a (4 * n))).filter (fun k => k == t.pkg) == [t.pkg])
    if !t.entries.isEmpty || !ok then t.epEnd 8 else t.plainWrite .WD_EP_GRP_CFG t.aw 0 v)

/-! ## Commit (R358, R364) -/

/-- COMMIT of C goes to every quarry in service. -/
def State.commitStart (s : State) : State := s.commitQuarries.setWfld fWD_EP_STAT_PHASE 0 1

/-- The leader commits the group once it holds every member's READY (R364). -/
def State.groupDecide (s : State) : State :=
  if s.group.all fun k => s.lat .groupReady k 0 != 0 then (s.groupSend 2).commitStart.groupForget else s

/-- Every enrolled unit is READY: the package commits, or tells its leader (R358, R364). -/
def execEpochCommit (s : State) : Out :=
  let es := s.entries
  .next (if s.wfld fWD_EP_STAT_PHASE 0 = 0 ∧ s.lat .rollbackDue 0 0 = 0 ∧ !es.isEmpty ∧
      es.all fun i => s.wfld fWD_EP_ENT0_STATE i == 2 then
    if s.group.isEmpty then s.commitStart
    else if s.groupLeader = s.pkg then (s.setLat .groupReady s.pkg 0 1).groupDecide
    else if s.lat .groupSent 0 0 = 0 then (s.setLat .groupSent 0 0 1).setLat .groupMsg s.groupLeader 0 1
    else s
  else s)

/-- An EPOCH word that waited retires (R358): it writes the epoch committed. -/
def State.retireEpoch (s : State) (sp c : Nat) : State :=
  match (s.spin sp).spool.head? with
  | some e =>
    if e.started ∧ wOp e.word = 0x322 then
      (s.updMates sp fun x => x.setG (wGA e.word) (BitVec.ofNat 64 c)).retire sp (e.pc + 1)
    else s
  | none => s

/-- The commit point of the epoch: every quarry has completed the commit (R358, R345). -/
def State.commitPoint (s : State) : State :=
  if s.wfld fWD_EP_STAT_PHASE 0 = 1 then
    let c := s.epochC
    let ready := s.entries.filter fun i => s.wfld fWD_EP_ENT0_STATE i == 2
    let t := (s.setWreg .WD_EP_EPOCH 0 (BitVec.ofNat 64 (c + 1))).setWfld fWD_EP_STAT_ANCHORED 0 1
    let t := t.each ready fun i u => u.setWfld fWD_EP_ENT0_STATE i 1
    let t := t.each ready fun i u => u.retireEpoch (u.wfld fWD_EP_ENT0_SPINDLE i) c
    let t := t.updSticky fun k => { k with tallies := sset (0, 0) k.tallies (0xFFFF * 32 + 0x12) (0, 0) }
    ((t.setWfld fWD_EP_STAT_PHASE 0 0).setLat .groupSent 0 0 0).wevent 0x8101 .note 0 c
  else s

/-- EPOCH_COMMIT_POINT. -/
def execEpochCommitPoint (s : State) : Out := .next s.commitPoint

/-- The leader receives READY of a member (R364). -/
def execGroupReadyMessage (pkg : Nat) (s : State) : Out :=
  ifUnit (pkg < 4096)
    (if s.groupLeader = s.pkg ∧ s.group.contains pkg ∧ s.wfld fWD_EP_STAT_PHASE 0 = 0 then
      (s.setLat .groupReady pkg 0 1).groupDecide
    else s)

/-- A member receives COMMIT from its leader and commits its own epoch (R364). -/
def execGroupCommitMessage (s : State) : Out :=
  .next (if s.lat .groupSent 0 0 ≠ 0 ∧ s.wfld fWD_EP_STAT_PHASE 0 = 0 then s.commitStart else s)

/-- The leader orders the group's rollback. -/
def State.groupRollback (s : State) (fails : Nat) : State := ((s.groupSend 4).groupForget).trigger 0xFFFF fails

/-- The leader receives ABORT before it holds every READY (R364). -/
def execGroupAbortMessage (pkg : Nat) (s : State) : Out :=
  ifUnit (pkg < 4096)
    (if s.groupLeader = s.pkg ∧ s.group.contains pkg ∧ s.wfld fWD_EP_STAT_PHASE 0 ≠ 1 then s.groupRollback 0 else s)

/-- A member receives ROLLBACK from its leader (R365). -/
def execGroupRollbackMessage (s : State) : Out :=
  .next (if s.group.isEmpty then s else (s.setLat .groupSent 0 0 0).trigger 0xFFFF 0)

/-- A member cannot be reached within the timeout (R364): the rollback falls outside the guarantee. -/
def execGroupMemberTimeout (pkg : Nat) (s : State) : Out :=
  ifUnit (pkg < 4096)
    (if s.groupLeader = s.pkg ∧ s.group.contains pkg then
      (s.wevent 0x810A .fault 0 pkg).groupRollback (2 ^ 6)
    else s)

/-! ## Rollback (R365 to R371, R374, R377) -/

/-- Dies that hold a member of an enrolled unit. -/
def State.memberDies (s : State) : List Nat :=
  (List.range 48).filter fun d => s.entries.any fun i => (s.entryMembers i).any fun m => spDie m.2 == d

/-- The dies of enrolled members enter or leave phase RECOVERY with the rollback (R400). -/
def State.recoverDies (s : State) (on : Bool) : State :=
  s.each s.memberDies fun d t =>
    if on then t.setWfld fWD_DIE_PHASE_PHASE d 3
    else if t.wfld fWD_DIE_PHASE_PHASE d = 3 ∧ t.lat .inReset d 0 = 0 then t.setWfld fWD_DIE_PHASE_PHASE d 0
    else t

/-- A condition of R374 that has failed: the lowest number. -/
def State.failedCondition (s : State) : Option Nat :=
  if s.lat .unguarded 0 0 ≠ 0 then none else lowestBit (s.lat .rollbackFail 0 0)

/-- A rollback goes on, or ends in HELD where a condition has failed (R377). -/
def State.unlessFailed (s : State) (f : State → State) : State :=
  match s.failedCondition with
  | some c => (s.hold 0x8108 c).recoverDies false
  | none => f s

/-- A rollback starts (R365, R366): it is recorded and counted, and every member of every enrolled unit stops. In
a group the other members are told. -/
def State.rollbackStart (s : State) : State :=
  let t := (s.wevent 0x8103 .fault 0 (s.lat .rollbackDue 0 0 - 1)).stopUnits
  let t := ((t.setWfld fWD_EP_STAT_PHASE 0 2).setLat .rollbackDue 0 0 0).recoverDies true
  let t := if t.group.isEmpty then t
    else if t.groupLeader = t.pkg then (t.groupSend 4).groupForget
    else t.setLat .groupMsg t.groupLeader 0 3
  let t := t.occur 0x12 0xFFFF
  if t.wfld fWD_EP_STAT_PHASE 0 = 5 then t.recoverDies false else t.unlessFailed id

/-- A trigger starts a rollback: a commit that has begun ends first, and a package that has sent READY waits for
its leader (R364). -/
def execRollbackStart (s : State) : Out :=
  .next (if s.lat .rollbackDue 0 0 ≠ 0 ∧ s.wfld fWD_EP_STAT_PHASE 0 = 0 ∧ s.lat .groupSent 0 0 = 0 then
    s.rollbackStart
  else s)

/-- Every member has stopped: the quarries are quiesced, once the changes they accepted have completed, and roll back (R233,
R367). -/
def execRollbackStopDone (s : State) : Out :=
  .next (if s.wfld fWD_EP_STAT_PHASE 0 = 2 ∧ s.quarries.all (fun d => !s.changeOn d) then
    s.unlessFailed fun t =>
      (t.each t.quarries fun d u => (u.quiesce d).setLat .rollingBack d 0 1).setWfld fWD_EP_STAT_PHASE 0 3
  else s)

/-- A member's own slot can take it again (R369): a spindle stands there, powered. -/
def State.slotBack (s : State) (sp : Nat) : Bool :=
  s.dieUp (spDie sp) && (s.spState sp == 2 || s.spState sp == 5)

/-- A CHECKED member is reset before it is restored. -/
def State.uncheck (s : State) (sp : Nat) : State := if s.spState sp = 5 then s.freshSpindle sp else s

/-- A ply's lost members return to their own slots, or to replacements where AUTO allows; the others stay lost
(R369). -/
def State.recoverPly (s : State) (p : Ply) : State :=
  let gone := p.lost.filter fun j => match p.members[j]? with
    | some m => if m.1 = s.pkg then !s.slotBack m.2 else !s.reachable m.1
    | none => false
  let q : Ply := { p with lost := gone }
  let t := s.replacePly p [q]
  if gone.isEmpty then t
  else if p.auto then
    match t.chooseReserve q gone [] with
    | some pairs => t.reformPly q pairs
    | none => t
  else t

/-- A unit that lost a member is re-formed (R367, step 3). -/
def State.recoverUnit (s : State) (i : Nat) : State :=
  match s.plyById (s.wfld fWD_EP_ENT0_PKG i) (s.wfld fWD_EP_ENT0_SPINDLE i) with
  | some p => if p.stopped then s.recoverPly p else s
  | none => s

/-- A unit has no lost member: each stands in a slot that can take it. -/
def State.unitWhole (s : State) (i : Nat) : Bool :=
  match s.plyById (s.wfld fWD_EP_ENT0_PKG i) (s.wfld fWD_EP_ENT0_SPINDLE i) with
  | some p => p.lost.isEmpty && (s.localOf p.members).all fun m => s.slotBack m.2
  | none => (s.entryMembers i).all fun m => s.slotBack m.2

/-- The members of a whole unit are restored, and the unit is back (R368, R369). -/
def State.restoreUnit (s : State) (i k : Nat) : State :=
  let t := s.each (s.entryMembers i) fun m u => (u.uncheck m.2).restoreMember i m.1 m.2 k
  let t := match t.plyById (t.wfld fWD_EP_ENT0_PKG i) (t.wfld fWD_EP_ENT0_SPINDLE i) with
    | some p =>
      if p.stopped then
        let q : Ply := { p with stopped := false }
        ((t.replacePly p [q]).writeEntries q 1).noticeAt (p.members.head?.getD (0, 0)) 4
      else t
    | none => t
  t.setWfld fWD_EP_ENT0_STATE i 1

/-- Units are re-formed and restored, the quarries released, the units that ran run again (R367). -/
def State.restoreAll (s : State) : State :=
  let t := (s.setWfld fWD_EP_STAT_PHASE 0 4)
  let t := t.each t.entries fun i u => u.recoverUnit i
  let k := t.epochC % 2
  let whole := t.entries.filter t.unitWhole
  let bad := whole.any fun i => (t.entryMembers i).any fun m => !t.imageGood i m.1 k
  let t := if bad then t.setLat .rollbackFail 0 0 (t.lat .rollbackFail 0 0 ||| 2 ^ 4) else t
  t.unlessFailed fun u =>
    let u := u.each whole fun i w => w.restoreUnit i k
    let u := u.each (u.entries.filter fun i => !whole.contains i) fun i w =>
      (w.setWfld fWD_EP_ENT0_STATE i 3).setLat .epochBack i 0 (1 + min 1 (w.lat .runAfter i 0))
    let u := u.each u.quarries fun d w => w.skeinResume d
    let u := u.each whole fun i w =>
      if w.lat .runAfter i 0 ≠ 0 then w.runOp (w.wfld fWD_EP_ENT0_SPINDLE i) .run else w
    let u := (u.each (List.range 256) fun i w => w.setLat .runAfter i 0 0).recoverDies false
    let u := (u.setLat .rollbackFail 0 0 0).setLat .unguarded 0 0 0
    ((u.setWfld fWD_EP_STAT_PHASE 0 0).wevent 0x8104 .note 0 0).hostDoorbell (u.aw - 62) 4

/-- Every quarry has rolled back (R367, R377). -/
def execRollbackQuarriesDone (s : State) : Out :=
  .next (if s.wfld fWD_EP_STAT_PHASE 0 = 3 ∧ s.quarries.all fun d => s.lat .rollingBack d 0 == 0 then
    s.unlessFailed State.restoreAll
  else s)

/-! ## Automatic re-forming (R191, R369) -/

/-- A rollback has restored the last committed epoch, and left the unit of entry `i` LOST. -/
def State.mayReform (s : State) (i : Nat) : Bool :=
  s.lat .epochBack i 0 != 0 && s.wfld fWD_EP_STAT_PHASE 0 == 0 && s.lat .rollbackDue 0 0 == 0 && s.wfld fWD_EP_ENT0_STATE i == 3

/-- The re-formed unit of entry `i`, whole again, is restored from slot C mod 2 and runs on where it ran (R367, R369). -/
def State.rejoin (s : State) (i : Nat) : State :=
  let k := s.epochC % 2
  if s.unitWhole i && (s.entryMembers i).all fun m => s.imageGood i m.1 k then
    let t := (s.restoreUnit i k).setLat .epochBack i 0 0
    if s.lat .epochBack i 0 = 2 then t.runOp (t.wfld fWD_EP_ENT0_SPINDLE i) .run else t
  else s

/-- PLY_AUTO_REFORM (R191): the active warden re-forms the AUTO ply of `psn` once a rollback has restored the epoch. -/
def execPlyAutoReform (psn : Nat) (s : State) : Out :=
  ifUnit (psn < nSpindles)
    (match s.plyOf psn, s.unitEntry psn with
    | some p, some i => if s.mayReform i then (s.autoReform p).rejoin i else s
    | _, _ => s)

end Sys2Proof.Machine
end

