-- ==== Sys2Proof/Machine/Package.lean ====
section
/-! DEFINITION. The package as a whole: the idle clamp, the drive of EMERG_N, orders, trips, shutdowns, the return to RUN
(R385, R423 to R426, R431, R435, R440, R444, R446, R447, R534, R535, R544 to R546). -/

namespace Sys2Proof.Machine

/-! ## Package state (R534) -/

/-- A bring-up step begins (R541). -/
def State.beginStep (s : State) (n : Nat) : State := (s.setWfld fWD_PKG_STAT_STEP 0 n).setLat .stepSince 0 0 s.now

/-- A package state is entered (EV 0x4320 for RUN, STANDBY and OFF); a rollback that was due is dropped with the epochs'
state (R545). -/
def State.enterState (s : State) (st : Nat) : State :=
  let t := (s.setWfld fWD_PKG_STAT_STATE 0 st).beginStep 0
  let t := t.wevent 0x4320 .note 0 st
  if st = 0 then t else (t.setLat .rollbackDue 0 0 0).setWfld fWD_EP_STAT_PHASE 0 0

/-! ## The idle clamp and the suspension of power guarantees (R431, R444) -/

/-- Every power guarantee is suspended (R444). -/
def State.suspended (s : State) : Bool :=
  s.lat .clampCause 0 0 != 0 || s.pkgState == 1 || s.wflag fTH_STAT_TRIP 0

/-- A change that may begin a suspension: EV 0x4A00 and a BREACH message on each entry (R444, R520). -/
def State.noteSuspension (s before : State) : State :=
  if s.suspended && !before.suspended then (s.wevent 0x4A00 .warn 0 0).breachSend 0xFF 0 0xFFFF 0 0 else s

/-- A cause takes hold of the idle clamp (R431). -/
def State.clampOn (s : State) (c : Nat) : State :=
  let m := s.lat .clampCause 0 0
  let t := s.setLat .clampCause 0 0 (m ||| c)
  if m ≠ 0 then t
  else (((t.setWfld fTH_STAT_CLAMP 0 1).wevent 0x4112 .warn 0 c).floorTwins).noteSuspension s

/-- A cause of the idle clamp ends; the last one releases it (R431). -/
def State.clampOff (s : State) (c : Nat) : State :=
  let m := s.lat .clampCause 0 0
  let t := s.setLat .clampCause 0 0 (m - (m &&& c))
  if m ≠ 0 ∧ m - (m &&& c) = 0 then (t.setWfld fTH_STAT_CLAMP 0 0).wevent 0x4113 .note 0 c else t

/-! ## EMERG_N (R447, R521) -/

/-- Entry into a cause of TH_HARD_EMERG.OUT: 0 leak, 1 trip, 2 flow shutdown, 3 sensor shutdown. -/
def State.emergDrive (s : State) (bit : Nat) : State :=
  if (s.wfld fTH_HARD_EMERG_OUT 0).testBit bit then
    let c := s.lat .emergCause 0 0 ||| 2 ^ bit
    (((s.setLat .emergCause 0 0 c).setWfld fTH_STAT_EMERG_OUT 0 1).wevent 0x5121 .note 0 (2 ^ bit)).emergencySend c
  else s

/-! ## Rails in groups (R546) -/

/-- The rails of every compute die, then of every quarry, open. -/
def State.darkCompute (s : State) (cause : Nat) : State := s.each (List.range 56) fun d t => t.isolate d cause

/-- The rails of the I/O dies open. -/
def State.darkIo (s : State) (cause : Nat) : State := s.each (List.range' 56 6) fun d t => t.isolate d cause

/-- The mesh-stop rails open. -/
def State.darkStops (s : State) (cause : Nat) : State := s.each (List.range 62) fun d t => t.stopOpen d cause

/-! ## Immediate shutdowns and trips (R440, R535, R546) -/

/-- The package enters STANDBY or OFF, and what a shutdown left in hand ends: a flow-loss window with its clamp and its hold
of the pumps, a ramp (R436). -/
def State.rest (s : State) (st : Nat) : State :=
  let due := if st = 1 ∧ s.wfld fTH_ORDER_EFF_STATE 0 = 3 then 1 else 0
  let t := ((s.setLat .shutdownDue 0 0 due).setLat .downStep 0 0 0).enterState st
  let t := (t.noteSuspension s).clampOff 1
  ((t.setLat .pumpHold 0 0 0).setWfld fTH_STAT_FLOW_LOSS 0 0).setWfld fTH_STAT_RECOVERY 0 0

/-- Compute and quarry rails open at once, and the package enters STANDBY (leak, EMERG_N). -/
def State.downToStandby (s : State) : State :=
  if s.pkgState = 2 then s else if s.pkgState = 1 then s.darkCompute 2 else (s.darkCompute 2).rest 1

/-- The bus converters stop, and with them VBUS (Table FL-3). -/
def State.convertersOff (s : State) : State := s.setReg .PW_CONV_OK 62 0 0

/-- Every rail but VSTBY opens, and the package stands in OFF (input, PWRFAIL_N). -/
def State.downToOff (s : State) (why : Nat) : State :=
  if s.pkgState = 2 then (if s.lat .offCause 0 0 = 1 then s else s.setLat .offCause 0 0 why).convertersOff
  else ((((s.darkCompute 5).darkIo 5).darkStops 5).convertersOff.setLat .offCause 0 0 why).rest 2

/-- A power-fail save starts, unless one is being written (R547). -/
def State.startSave (s : State) : State :=
  if s.wflag fWD_PKG_STAT_SAVING 0 then s else (s.wevent 0x4314 .fatal 0 0).setWfld fWD_PKG_STAT_SAVING 0 1

/-- A hard trip (R440): THERMTRIP_N, and the rails of the compute, quarry and I/O dies; the package stands in STANDBY
without them. -/
def State.trip (s : State) (cause unit : Nat) : State :=
  if s.wflag fTH_STAT_TRIP 0 then s
  else
    let t := (s.setWfld fTH_STAT_TRIP 0 1).setWfld fTH_STAT_TRIP_CAUSE 0 cause
    let t := (t.event (if cause = 1 then 0x4130 else 0x4131) .fatal unit 0).noteSuspension s
    let t := (((t.darkCompute 4).darkIo 4).releaseValves t.aw).forcedFans t.aw
    let t := if t.pkgState = 2 then t else t.rest 1
    t.emergDrive 1

/-! ## The return to RUN (R535, R541) -/

/-- The events of each bring-up: jumper presence (R416) and a bad node ID (R491). -/
def State.bringupEvents (s : State) : State :=
  let t := if s.flag fFS_PRES_JUMPER s.aw 0 then s.event 0x7167 .warn (unitId s.aw 0x003) 0 else s
  if t.flag fTB_STAT_NODE_BAD t.aw 0 then t.wevent 0x6104 .fault 0x180 (t.fld fTB_STAT_NODE t.aw 0) else t

/-- What the active warden restores in a die whose rails closed or whose reset ended (R528): warp ports that are retired
read so, stacks that lost every channel too. -/
def State.dieReady (s : State) (d : Nat) : State :=
  if 56 ≤ d ∧ d < 60 then
    s.each ((List.range' (4 * (d - 56)) 4).filter fun p => s.isRetired (warpUnit p)) fun p t => t.setWpFld fWP_PORT_STAT_STATE p 5
  else if 48 ≤ d ∧ d < 56 then
    s.each (List.range 4) fun k t =>
      let n := ((List.range' (32 * k) 32).filter fun p => t.flag fQD_PC_RETIRED d p).length
      let u := t.setFld fQD_HBM_PC_LOST d k n
      if n = 32 then u.setFld fQD_HBM_RATE d k 3 else u
  else s

/-- The rails of dies close. -/
def State.closeDies (s : State) (ds : List Nat) : State := s.each ds fun d t => (t.railsClose d).dieReady d

/-- Converters in service but for those that were lost (R27). -/
def State.convertersOn (s : State) : State :=
  s.setReg .PW_CONV_OK 62 0 (BitVec.ofNat 64 (65535 - s.fld fPW_RAIL_CAP_CONV_LOST 62 0))

/-- A step of bring-up starts (Table RST-8): with the step I/O the bus converters run, the mesh-stop and XD
rails close and the route tables are written (R19), with the step Rails those of
the compute and quarry dies. -/
def State.enterStep (s : State) (n : Nat) : State :=
  let t := s.beginStep n
  match n with
  | 3 => (t.convertersOn.each (List.range 62) fun d u => u.stopClose d).writeRoutes.closeDies (List.range' 56 6)
  | 5 => t.closeDies (List.range 56)
  | _ => t

/-- Bring-up starts at a step, and makes no soak (R541). -/
def State.bringup (s : State) (step : Nat) : State :=
  (((s.setWfld fWD_PKG_STAT_STATE 0 3).setLat .offCause 0 0 0).setLat .soakSkip 0 0 1).enterStep step

/-- An OFF that may be left: by an order of the rack manager where an order led to it, by the input where the input
did (R535), and never before V_IN is back after an input trip (R28). -/
def State.offMayEnd (s : State) : Bool :=
  s.lat .inputBad 0 0 == 0 && match s.lat .offCause 0 0 with
  | 1 => s.wflag fTH_ORDER_RACK_VALID 0 && s.wfld fTH_ORDER_RACK_STATE 0 == 0
  | 4 => true
  | _ => false

/-- The package returns to RUN through bring-up where it may (R535). -/
def State.tryReturn (s : State) : State :=
  if s.wfld fTH_ORDER_EFF_STATE 0 ≠ 0 ∨ s.railsBarred then s
  else if s.pkgState = 1 then s.bringupEvents.bringup 4
  else if s.pkgState = 2 ∧ s.offMayEnd then s.bringupEvents.bringup 3
  else s

/-! ## Orders (R423 to R425) -/

/-- An order's state as it counts: a DRAIN whose time has ended counts as STANDBY. -/
def orderState (st : Nat) (drained : Bool) : Nat := if st = 1 ∧ drained then 2 else st

/-- The effective state (R423): the later of the orders', with the emergency hold. -/
def State.effState (s : State) : Nat :=
  let dr := s.lat .drained 0 0
  let host := orderState (s.wfld fTH_ORDER_HOST_STATE 0) (dr.testBit 0)
  let rack := if s.wflag fTH_ORDER_RACK_VALID 0 then orderState (s.wfld fTH_ORDER_RACK_STATE 0) (dr.testBit 1) else 0
  max (max host rack) (if s.wflag fTH_ORDER_EFF_EMERG_HOLD 0 then 2 else 0)

/-- The caps the orders have in force, as cap source and W. -/
def State.orderCaps (s : State) : List (Nat × Nat) :=
  (if s.wflag fTH_ORDER_HOST_CAP_EN 0 then [(5, s.wfld fTH_ORDER_HOST_CAP_W 0)] else []) ++
    (if s.wflag fTH_ORDER_RACK_VALID 0 && s.wflag fTH_ORDER_RACK_CAP_EN 0 then [(6, s.wfld fTH_ORDER_RACK_CAP_W 0)] else [])

/-- The lower of the order caps. -/
def State.orderCap (s : State) : Option Nat := lowest (s.orderCaps.map (·.2))

/-- The effective state acts on the package (R425). -/
def State.actOnOrder (s : State) : State :=
  let st := s.wfld fTH_ORDER_EFF_STATE 0
  let s := if st = 1 then s else (s.setLat .drainEnd 0 0 0).setWfld fTH_STAT_DRAIN 0 0
  if st = 0 then s.tryReturn
  else if st = 1 then s
  else if s.pkgState = 0 ∨ s.pkgState = 3 ∨ (s.pkgState = 1 ∧ st = 3) then s.setLat .shutdownDue 0 0 1
  else s

/-- The effective order is formed again; a change is recorded, told to the host and reported (R424, Table TB-5). `report`
is the result a power order is answered with. -/
def State.formOrder (s before : State) (report : Option Nat) : State :=
  let t := (s.setWfld fTH_ORDER_EFF_STATE 0 s.effState).setWfld fTH_ORDER_EFF_CAP_EN 0 s.orderCap.isSome.toNat
  let t := t.setWfld fTH_ORDER_EFF_CAP_W 0 (s.orderCap.getD 0)
  let changed := t.wreg .TH_ORDER_EFF 0 != before.wreg .TH_ORDER_EFF 0
  let t := if changed then
      (t.wevent 0x4501 .note 0 ((t.wreg .TH_ORDER_HOST 0).toNat % 2 ^ 32 + (t.wreg .TH_ORDER_RACK 0).toNat % 2 ^ 32 * 2 ^ 32 +
        (t.wreg .TH_ORDER_EFF 0).toNat % 2 ^ 32 * 2 ^ 64)).hostDoorbell (t.aw - 62) 16
    else t
  let t := t.actOnOrder
  match report with
  | some r => t.powerReport r (t.wfld fTB_ORW_STAT_ORDER_SEQ 0)
  | none => if changed then t.powerReport 3 (t.wfld fTB_ORW_STAT_ORDER_SEQ 0) else t

/-- An order that gives DRAIN arrives (R425): its timer runs, or the earlier end of one that runs stands; no time means at
once. `bit` is 0 for the host's order, 1 for the rack's. -/
def State.orderArrives (s : State) (bit st ms : Nat) : State :=
  let dr := s.lat .drained 0 0
  let clear := dr - (dr &&& 2 ^ bit)
  let s := s.setLat .orderSince 0 0 1
  if st ≠ 1 then s.setLat .drained 0 0 clear
  else if ms = 0 then s.setLat .drained 0 0 (clear ||| 2 ^ bit)
  else
    let e := s.now + ms * 1000000 + 1
    let old := s.lat .drainEnd 0 0
    ((s.setLat .drained 0 0 clear).setLat .drainEnd 0 0 (if old = 0 then e else min old e)).setWfld fTH_STAT_DRAIN 0 1

/-! ## The ordered shutdown (R545, Table RST-10) -/

/-- An ordered shutdown starts: issue is gated from here on (`State.issueHeld`). -/
def State.shutdownStart (s : State) : State :=
  if s.lat .shutdownDue 0 0 ≠ 0 ∧ (s.pkgState < 2 ∨ s.pkgState = 3) then
    (((s.setLat .shutdownDue 0 0 0).setWfld fWD_PKG_STAT_STATE 0 4).beginStep 0).setLat .downStep 0 0 1
  else s

/-- Every ACTIVE warp port returns to HELD (R288). -/
def State.warpHold (s : State) : State :=
  (s.each ((List.range 16).filter fun p => s.wpFld fWP_PORT_STAT_STATE p == 4) fun p t =>
    t.setWpFld fWP_PORT_STAT_STATE p 3).holdFlows s

/-- Every twin is OFF. -/
def State.twinsOff (s : State) : State :=
  s.each (List.range 48) fun d t => t.each (List.range 17) fun k u => if u.twinState d k = 0 then u else u.twinOff d k

/-- Every collective fails with MEMBER_LOST (Table RST-10). -/
def State.collsLost (s : State) : State := s.each (List.range 16) fun g t => t.collLose g

/-- One step of the ordered shutdown. A commit that has sent COMMIT to a quarry completes. -/
def State.shutdownStep (s : State) : State :=
  match s.lat .downStep 0 0 with
  | 1 => s.setLat .downStep 0 0 2
  | 2 => s.warpHold.setLat .downStep 0 0 3
  | 3 =>
    let t := if s.wfld fWD_EP_STAT_PHASE 0 = 1 then s.commitPoint else s
    ((t.each t.quarries fun d u => u.quiesce d).collsLost).setLat .downStep 0 0 4
  | 4 =>
    let t := s.twinsOff.darkCompute 2
    if t.wfld fTH_ORDER_EFF_STATE 0 = 3 then t.setLat .downStep 0 0 5 else (t.rest 1).tryReturn
  | 5 => ((((s.darkIo 2).darkStops 2).convertersOff.setLat .offCause 0 0 1).rest 2).tryReturn
  | _ => s

end Sys2Proof.Machine
end

