-- ==== Sys2Proof/Machine/Rails.lean ====
section
/-! DEFINITION. The mesh, rails and trips (chapter 01): the meanings of their commands. -/

namespace Sys2Proof.Machine

/-- Dies with rails of their own: all but the wardens (R23, R31). -/
def hasRails (d : Nat) : Bool := decide (d < 62)

/-- A stop receives a flit over a link (R18, R21): it forwards a good one, or delivers it to its die; one whose CRC does not
match is sent again from the sender's replay buffer, recorded and counted. -/
def execMeshFlitReceive (d link : Nat) (x : MeshFlit) (s : State) : Out :=
  ifUnit (d < 64 && link < 4 && meshFits x)
    (if s.linkUp d link then
      if meshGood x then (s.meshArrives d link x).meshForward d link x
      else ((s.setLat .meshReplays d link (s.lat .meshReplays d link + 1)).event 0x3120 .note (unitId d (0x300 + link)) 0).occur
        0x07 (unitId d (0x300 + link))
    else s)

/-- The flits of the old routes have been delivered (R20). -/
def execRouteHoldEnd (d : Nat) (s : State) : Out := ifUnit (d < 64) (s.setLat .routeHold d 0 0)

/-- A mesh-stop rail trips (R22, R23). -/
def execMeshStopRailTrip (d : Nat) (s : State) : Out :=
  ifUnit (hasRails d)
    (if s.flag fPW_DIE_ISO_MS_ON 62 d then
      let t := ((s.setLat .msReset d 0 1).stopOpen d 3).setFld fPW_DIE_ISO_LAST_CAUSE 62 d 3
      let t := t.occur 0x08 (unitId d 0x310)
      if t.lat .stopRetired d 0 ≠ 0 then t else (t.event 0x3122 .fault (unitId d 0x310) 0).reroute
    else s)

/-- A die's overcurrent trip (R31): the trip wins over a close in the same handshake (R32). -/
def execDieOvercurrentTrip (d : Nat) (s : State) : Out :=
  ifUnit (hasRails d)
    (if s.flag fPW_DIE_ISO_ON 62 d then
      let t := (((s.setLat .tripReset d 0 1).setFld fPW_DIE_ISO_TRIP 62 d 1).isolate d 1).event 0x4301 .fault (dieUnit d) 1
      t.occur 0x05 (dieUnit d)
    else s)

/-- A write of a die's isolation register by the active warden (R23, R24, R32, R33): CLOSE = 1 has no effect while TRIP is 1,
nor before the DIE reset a trip calls for. MS_CLOSE and CLOSE each command their own switch, so a write of MS_CLOSE = 0 leaves the
die's rails to CLOSE (DEDUCED, log 166). -/
def State.isoWrite (s : State) (d : Nat) (v : W64) : State :=
  let trip := s.flag fPW_DIE_ISO_TRIP 62 d || s.lat .tripReset d 0 != 0
  let t := if bitOf v 2 then s.setFld fPW_DIE_ISO_TRIP 62 d 0 else s
  let t := if bitOf v 4 then t.stopClose d else t.stopOff d
  if bitOf v 1 then (if trip then t else t.railsClose d) else t.isolate d 2

/-- PW_DIE_ISO written (R24, R32, R33): honoured from the active warden; the wardens' own entries take no
write. -/
def execPwDieIsoWrite (m : Master) (d : Nat) (v : W64) (s : State) : Out :=
  ifUnit (d < 64)
    (if s.isActive m then (if hasRails d then s.isoWrite d v else s)
    else s.wardenRefused (regAddr .PW_DIE_ISO s.aw d))

/-- A twin regulator starts or ends its current limit (R29). -/
def execTwinIlimEntry (d k : Nat) (on : Bool) (s : State) : Out :=
  ifUnit (d < 48 && k < 17)
    (if on && s.twinState d k == 2 && !s.flag fPW_TWIN_CTL_ILIM d k then
      (s.setFld fPW_TWIN_CTL_ILIM d k 1).event 0x4302 .warn (unitId d (0x40 + k)) 0
    else if on || !s.flag fPW_TWIN_CTL_ILIM d k then s
    else (s.setFld fPW_TWIN_CTL_ILIM d k 0).setLat .ilimEnd d k 1)

/-- Converters in service. -/
def State.converters (s : State) : Nat := ((List.range 16).filter fun n => bitOf (s.reg .PW_CONV_OK 62 0) n).length

/-- The rail cap from V_IN and the converters in service (R26, R27); its fall below 7,200 W is recorded once. -/
def State.railCap (s : State) : State :=
  let cap := min (s.fld fPW_IN_MEAS_V_IN 62 0 * 150 / 1000) (s.converters * 480)
  let t := (s.setFld fPW_RAIL_CAP_CAP_W 62 0 cap).setLat .railLow 0 0 (if cap < 7200 then 1 else 0)
  if cap < 7200 ∧ s.lat .railLow 0 0 = 0 then t.wevent 0x4311 .warn 0 cap else t

/-- The input is measured and the rail cap recomputed (R26). -/
def execRailCapRecompute (vin iin pin : Nat) (s : State) : Out :=
  .next ((((s.setFld fPW_IN_MEAS_V_IN 62 0 vin).setFld fPW_IN_MEAS_I_IN 62 0 iin).setFld fPW_IN_MEAS_P_IN 62 0 pin).railCap)

/-- A bus converter fails (R27). -/
def execBusConverterFail (n : Nat) (s : State) : Out :=
  ifUnit (n < 16)
    (if bitOf (s.reg .PW_CONV_OK 62 0) n then
      let t := s.setFld ⟨.PW_CONV_OK, n, n⟩ 62 0 0
      ((t.setFld ⟨.PW_RAIL_CAP, 16 + n, 16 + n⟩ 62 0 1).wevent 0x4310 .fault 0 n).railCap
    else s)

end Sys2Proof.Machine
end

