-- ==== Sys2Proof/Machine/Rates.lean ====
section
/-! DEFINITION. What a twin's voltage and temperature give (R85, R86, Tables SP-18, SP-20, SP-21): its typical rate, and the
power of a spindle. -/

namespace Sys2Proof.Machine

/-- Rows of Tables SP-18 and SP-21: rates in 10⁷ cycles per second at 25, 45, 65, 85 and 95 °C, and leakage in mW, at
every 50 mV from 600 mV. -/
def rateRow : List (List Nat × Nat) :=
  [([118, 119, 120, 121, 121], 125), ([143, 144, 145, 146, 146], 145), ([168, 168, 168, 168, 168], 170),
   ([192, 191, 190, 189, 188], 200), ([214, 212, 210, 208, 207], 235), ([236, 233, 230, 227, 226], 275)]

/-- Linear interpolation between two values, `n` of `m` of the way. -/
def lerp (a b : Rat) (n m : Int) : Rat := a + (b - a) * (n : Rat) / (m : Rat)

/-- A row's rate at a temperature in 1/128 °C; the outer columns hold beyond them. -/
def rowRate (l : List Nat) (t : Int) : Rat :=
  let x := fun i => (l.getD i 0 : Rat)
  let c : List Int := [25, 45, 65, 85, 95]
  if t ≤ 25 * 128 then x 0
  else match (List.range 4).find? fun i => t < c.getD (i + 1) 0 * 128 with
    | some i => lerp (x i) (x (i + 1)) (t - c.getD i 0 * 128) ((c.getD (i + 1) 0 - c.getD i 0) * 128)
    | none => x 4

/-- A value between the rows of a voltage in 1/2 mV; the outer rows hold beyond them. -/
def atVolt (v : Nat) (f : List Nat × Nat → Rat) : Rat :=
  let w := min (v - 1200) 500
  let i := min (w / 100) 4
  lerp (f (rateRow.getD i ([], 0))) (f (rateRow.getD (i + 1) ([], 0))) ((w - 100 * i : Nat) : Int) 100

/-- The voltage of a VID, in 1/2 mV (R30). -/
def vidVolt (vid : Nat) : Nat := 25 * vid

/-- The typical rate at a voltage in 1/2 mV and a temperature in 1/128 °C, in 10⁷ cycles per second (R85, Table SP-18). -/
def typicalRate (v : Nat) (t : Int) : Rat := atVolt v fun r => rowRate r.1 t

/-- The kinds of work of Table SP-20. -/
inductive Work where
  | mac4 | mac8 | mac16 | mac32 | scalar | waiting
  deriving DecidableEq, Repr

/-- The activity factor A, in hundredths (Table SP-20). -/
def Work.activity : Work → Nat
  | .mac4 => 100 | .mac8 => 92 | .mac16 => 85 | .mac32 => 70 | .scalar => 20 | .waiting => 5

/-- The power of a spindle in mW beside its leakage, at A = 1 (R86). -/
def dynAt (v : Nat) (t : Int) : Rat := 2600 * ((v * v : Nat) : Rat) / (1500 * 1500) * typicalRate v t / 190

/-- The greatest of the numbers from `lo` to below `lo` + 2ⁿ with power 3,200 at most `x`. -/
def root3200 (x : Nat) : Nat → Nat → Nat
  | 0, lo => lo
  | n + 1, lo => if (lo + 2 ^ n) ^ 3200 ≤ x then root3200 x n (lo + 2 ^ n) else root3200 x n lo

/-- 2 to the power k/3,200, in 1/65,536, rounded down (DESIGN CHOICE: what a rise below 25 K multiplies leakage by, to that
precision); k is below 3,200. -/
def leakScale (k : Nat) : Nat := root3200 (2 ^ (51200 + k)) 16 65536

/-- A spindle's leakage in mW (Table SP-21), doubling for each 25 K. -/
def leakAt (v : Nat) (t : Int) : Rat :=
  let x := t - 65 * 128
  let n := x / 3200
  let part : Rat := (leakScale (x - n * 3200).toNat : Rat) / 65536
  let whole : Rat := if n < 0 then 1 / (2 ^ n.natAbs : Nat) else (2 ^ n.natAbs : Nat)
  (atVolt v fun r => (r.2 : Rat)) * part * whole

/-- The power one in-service spindle draws from its twin rail, in mW, at an activity factor (R86). -/
def spindlePower (a : Rat) (v : Nat) (t : Int) : Rat := a * dynAt v t + leakAt v t

end Sys2Proof.Machine
end

