-- ==== Sys2Proof/Machine/Timing.lean ====
section
/-! DEFINITION. Input trips, twin regulators, completion slack, adaptive voltage, the timebase and the PHYs (R28 to R30,
R311 to R328, R537): the meanings of their commands. -/

namespace Sys2Proof.Machine

/-! ## The 48 V input (R28) -/

/-- VIN_UNDERVOLTAGE: OFF, and a power-fail save (R28, R547). -/
def execVinUndervoltage (s : State) : Out :=
  .next ((((s.wevent 0x4312 .fatal 0 0).setLat .inputBad 0 0 1).downToOff 2).startSave)

/-- VIN_OVERVOLTAGE: the converters stop, and the package is in OFF. -/
def execVinOvervoltage (s : State) : Out :=
  .next ((((s.wevent 0x4313 .fatal 0 0).setLat .inputBad 0 0 1).convertersOff).downToOff 2)

/-- VIN_BACK_IN_BAND: after an input trip, bring-up may start from the step I/O, which starts the converters again. -/
def execVinBackInBand (s : State) : Out :=
  .next (if s.lat .inputBad 0 0 = 0 then s
    else
      let t := s.setLat .inputBad 0 0 0
      (if t.lat .offCause 0 0 = 2 then t.setLat .offCause 0 0 4 else t).tryReturn)

/-! ## Twin regulators (R30, R320, R537) -/

/-- A twin exists. -/
def isTwin (d k : Nat) : Bool := decide (d < 48) && decide (k < 17)

/-- The unit of a twin (Table FL-11). -/
def twinUnit (d k : Nat) : Nat := unitId d (0x40 + k)

/-- Both spindles of a twin are HALTED, RETIRED or OFF (R537). -/
def State.retainReady (s : State) (d k : Nat) : Bool := (s.slotsOfTwin d k).all fun sp => [0, 2, 6].contains (s.spState sp)

/-- A twin's requested state (Table FL-5): OFF, RETAIN once it may, ON. -/
def State.twinRequest (s : State) (d k x : Nat) : State :=
  if s.flag fPW_TWIN_CTL_RETIRED d k ∨ x = 3 then s
  else
    let t := s.setLat .retainDue d k 0
    match x with
    | 0 => if t.fld fPW_TWIN_CTL_STATE d k = 0 then t else t.twinOff d k
    | 1 => if t.retainReady d k then t.setFld fPW_TWIN_CTL_STATE d k 1 else t.setLat .retainDue d k 1
    | _ => if t.fld fPW_TWIN_CTL_STATE d k = 2 then t else t.twinOn d k

/-- A write falls in the handshake of the hardware raise the twin's last window made (R314): the larger value of each field
stands. -/
def State.withRaise (s : State) (d k : Nat) (same : Bool) (old new : Nat) : Nat :=
  if same && s.lat .raised d k != 0 then max old new else new

/-- PW_TWIN_CTL written by the active warden (R24, R30, R314). -/
def State.twinCtlWrite (s : State) (d k : Nat) (v : W64) (same : Bool) : State :=
  let x := getBits v 15 8
  let t := if 48 ≤ x ∧ x ≤ 68 then s.setVid d k (s.withRaise d k same (s.fld fPW_TWIN_CTL_VID d k) x)
    else s.event 0x4303 .warn (twinUnit d k) x
  t.twinRequest d k (getBits v 5 4)

/-- PW_TWIN_CTL_WRITE. -/
def execPwTwinCtlWrite (m : Master) (d k : Nat) (v : W64) (same : Bool) (s : State) : Out :=
  ifUnit (isTwin d k)
    (if s.isActive m then s.twinCtlWrite d k v same else s.wardenRefused (regAddr .PW_TWIN_CTL d k))

/-- PW_TWIN_AVS written by the active warden: all of it or nothing (R314, R320). -/
def State.twinAvsWrite (s : State) (d k : Nat) (v : W64) (same : Bool) : State :=
  let f := getBits v 23 16
  let g := getBits v 15 8
  let a := getBits v 7 0
  if f < 48 ∨ 68 < f ∨ g < 8 ∨ 64 < g ∨ (a ≠ 0 ∧ g ≤ a) then s.event 0x4204 .warn (twinUnit d k) 0
  else (s.plainWrite .PW_TWIN_AVS d k v).setFld fPW_TWIN_AVS_FLOOR d k (s.withRaise d k same (s.fld fPW_TWIN_AVS_FLOOR d k) f)

/-- PW_TWIN_AVS_WRITE. -/
def execPwTwinAvsWrite (m : Master) (d k : Nat) (v : W64) (same : Bool) (s : State) : Out :=
  ifUnit (isTwin d k)
    (if s.isActive m then s.twinAvsWrite d k v same else s.wardenRefused (regAddr .PW_TWIN_AVS d k))

/-! ## Completion slack (R311 to R315, R318, R319) -/

/-- A twin's trusted temperature. -/
def State.twinTemp (s : State) (d k : Nat) : Int := signedOf 16 (s.fld fTH_TWIN_TRUSTED d k)

/-- VID rises by one step, unless it is 68, and FLOOR with it where it was lower (R313, R316). -/
def State.raiseVid (s : State) (d k : Nat) : State :=
  let x := min 68 (s.fld fPW_TWIN_CTL_VID d k + 1)
  (s.setVid d k x).setFld fPW_TWIN_AVS_FLOOR d k (max x (s.fld fPW_TWIN_AVS_FLOOR d k))

/-- A twin's slack fault (R318). -/
def State.slackFault (s : State) (d k : Nat) : State := (s.event 0x4203 .fault (twinUnit d k) 0).occur 0x04 (twinUnit d k)

/-- A meter's reading after the trim to P_IN (R336). -/
def State.trimmed (s : State) (x : Nat) : Nat := if s.lat .meterTrim 0 0 = 0 then x else x * (s.lat .meterTrim 0 0 - 1) / 1000000

/-- What a twin measured over a window: voltage, current, ten samples of 1 µs, the energy delivered (Tables FL-6, FL-7). -/
def State.twinMeter (s : State) (d k mv ma : Nat) : State :=
  let i := s.trimmed ma
  let e := s.lat .ujFrac d k + mv * i
  let t := (s.setFld fPW_TWIN_MEAS_V_MEAS d k mv).setFld fPW_TWIN_MEAS_I_MEAS d k i
  let t := t.incFld fPW_TWIN_MEAS_SEQ d k 10
  (t.setReg .PW_TWIN_ENERGY d k (t.reg .PW_TWIN_ENERGY d k + BitVec.ofNat 64 (e / 1000000))).setLat .ujFrac d k (e % 1000000)

/-- A 10 ms window of a twin's rate fails R85: its in-service spindles completed `n` cycles in it, less than 94 % of the typical
rate at V_MEAS and its trusted temperature, from 25 °C to 95 °C. -/
def State.rateFails (s : State) (d k n : Nat) : Bool :=
  let t := s.twinTemp d k
  let m := (s.slotsOfTwin d k).length
  decide (25 * 128 ≤ t) && decide (t ≤ 95 * 128) &&
    decide ((100 * n : Nat) < 94 * (m : Rat) * 100000 * typicalRate (2 * s.fld fPW_TWIN_MEAS_V_MEAS d k) t)

/-- A twin's rate over its windows of 10 µs (R318): `n` cycles in this one; each thousandth ends a window of 10 ms, and the third of
these in a row that fails is a slack fault. -/
def State.rateWindow (s : State) (d k n : Nat) : State :=
  let c := s.lat .rateCyc d k + n
  if s.lat .rateWin d k < 999 then (s.setLat .rateWin d k (s.lat .rateWin d k + 1)).setLat .rateCyc d k c
  else
    let t := (s.setLat .rateWin d k 0).setLat .rateCyc d k 0
    if !s.rateFails d k c then t.setLat .rateBad d k 0
    else if s.lat .rateBad d k < 2 then t.setLat .rateBad d k (s.lat .rateBad d k + 1)
    else (t.setLat .rateBad d k 0).slackFault d k

/-- A hardware raise (R313). -/
def State.hardRaise (s : State) (d k : Nat) : State :=
  (((s.raiseVid d k).satFld fPW_TWIN_SLACK_RAISES d k 1).setLat .raised d k 1).event 0x4201 .note (twinUnit d k) 0

/-- A probe fails (R317): VID returns to FLOOR at once. -/
def State.probeFails (s : State) (d k : Nat) : State :=
  ((s.setVid d k (s.fld fPW_TWIN_AVS_FLOOR d k)).setLat .probe d k 0).setLat .probeFailed d k (s.now + 1)

/-- A twin's window ends (R311 to R318): a stretched handshake records slack 0; a window below ALARM raises the twin, and at VID 68
is a slack fault; a window below GUARD fails a probe. -/
def State.twinWindow (s : State) (d k least mean stretches : Nat) : State :=
  let least := if stretches = 0 then min least 255 else 0
  let t := (s.setFld fPW_TWIN_SLACK_MIN d k least).setFld fPW_TWIN_SLACK_AVG d k (min mean 255)
  let t := t.satFld fPW_TWIN_SLACK_STRETCH d k stretches
  let top := t.fld fPW_TWIN_CTL_VID d k == 68
  let sag := t.flag fPW_TWIN_CTL_ILIM d k || t.lat .ilimEnd d k != 0
  let alarm := decide (least < t.fld fPW_TWIN_AVS_ALARM d k)
  let t := t.setLat .ilimEnd d k (t.fld fPW_TWIN_CTL_ILIM d k)
  let t := if alarm && !sag then t.hardRaise d k else t.setLat .raised d k 0
  let t := if t.lat .probe d k ≠ 0 ∧ least < t.fld fPW_TWIN_AVS_GUARD d k then t.probeFails d k else t
  if alarm && top then t.slackFault d k else t

/-- A fixed rail's window ends (R40, R319): 0 the die's logic, 1 its mesh stop. -/
def State.railWindow (s : State) (d stop least mean stretches : Nat) : State :=
  let least := if stretches = 0 then min least 255 else 0
  let t := if stop = 0 then (s.setFld fDIE_SLACK_LOGIC_MIN d 0 least).setFld fDIE_SLACK_LOGIC_AVG d 0 (min mean 255)
    else (s.setFld fDIE_SLACK_STOP_MIN d 0 least).setFld fDIE_SLACK_STOP_AVG d 0 (min mean 255)
  let t := t.satFld fDIE_SLACK_STRETCH d 0 stretches
  if least < 10 then (t.event 0x4205 .warn (wholeUnit d) stop).occur 0x06 (wholeUnit d) else t

/-- SLACK_WINDOW_END: of twin `k` with what its meters read and its spindles counted, or with `k` 17 and 18 of a die's fixed
rails. -/
def execSlackWindowEnd (d k least mean stretches mv ma : Nat) (cyc : List (Nat × Nat)) (s : State) : Out :=
  ifUnit ((decide (d < 64) && (k == 17 || k == 18)) || isTwin d k)
    (if 17 ≤ k then
      if (k = 17 ∧ s.flag fPW_DIE_ISO_ON 62 d) ∨ (k = 18 ∧ s.flag fPW_DIE_ISO_MS_ON 62 d) then
        s.railWindow d (k - 17) least mean stretches
      else s
    else if s.twinState d k = 2 then
      let t := ((s.slotsOfTwin d k).zip cyc).foldl (fun (u : State) x =>
        ((u.incFld fSPN_CYCLES_COUNT (spDie x.1) (spIdx x.1) x.2.1).incFld fSPN_IDLE_COUNT (spDie x.1) (spIdx x.1) x.2.2)) s
      ((t.twinMeter d k mv ma).twinWindow d k least mean stretches).rateWindow d k (((s.slotsOfTwin d k).zip cyc).map fun x => x.2.1).sum
    else s)

/-! ## Adaptive voltage (R316, R317) -/

/-- A probe of a twin may start (R317). -/
def State.mayProbe (s : State) (d k : Nat) : Bool :=
  let f := s.lat .probeFailed d k
  s.lat .vidAsk d k != 0 && s.lat .probe d k == 0 && decide (48 < s.fld fPW_TWIN_AVS_FLOOR d k) && (f == 0 || decide (1000000000 ≤ s.now + 1 - f))

/-- A twin in an adaptive-voltage cycle. -/
def State.avsTwin (s : State) (d k : Nat) : State :=
  let vid := s.fld fPW_TWIN_CTL_VID d k
  let floor := s.fld fPW_TWIN_AVS_FLOOR d k
  if s.fld fPW_TWIN_SLACK_MIN d k < s.fld fPW_TWIN_AVS_GUARD d k ∧ vid < 68 then s.raiseVid d k
  else if vid < floor ∧ s.lat .probe d k = 0 then s.setVid d k floor
  else if s.mayProbe d k then (s.setVid d k (floor - 1)).setLat .probe d k 1
  else s

/-- AVS_CYCLE, over every twin that is ON; a twin that waited may enter RETAIN (R537). -/
def execAvsCycle (s : State) : Out :=
  .next (s.each (List.range 48) fun d t => t.each (List.range 17) fun k u =>
    if u.twinState d k = 2 then
      if u.lat .retainDue d k ≠ 0 ∧ u.retainReady d k then u.twinRequest d k 1 else u.avsTwin d k
    else u)

/-- AVS_PROBE_END: the 10 ms of a probe have passed with every window good; one that failed has ended before. -/
def execAvsProbeEnd (d k : Nat) (s : State) : Out :=
  ifUnit (isTwin d k)
    (if s.lat .probe d k = 0 then s
    else (s.setFld fPW_TWIN_AVS_FLOOR d k (s.fld fPW_TWIN_AVS_FLOOR d k - 1)).setLat .probe d k 0)

/-! ## The timebase (R322 to R326, R498) -/

/-- TIMEBASE_SERIAL_WORD at a die's counter slice: a step written before is added; a slice that differs is reloaded. -/
def execTimebaseSerialWord (d : Nat) (differs : Bool) (s : State) : Out :=
  ifUnit (d < 64)
    (let x := s.lat .timeStep 0 0
    let t := (s.setReg .WD_TIME_NS 62 0 (s.reg .WD_TIME_NS 62 0 + BitVec.ofNat 64 x)).setLat .timeStep 0 0 0
    let t := t.setLat .timeStepped 0 0 (t.lat .timeStepped 0 0 + x)
    if differs then t.event 0x7153 .warn (wholeUnit d) 0 else t)

/-- A field of both wardens' registers. -/
def State.setBoth (s : State) (f : RField) (x : Nat) : State := (s.setFld f 62 0 x).setFld f 63 0 x

/-- CLOCK_TO_BACKUP (R324, R498). -/
def execClockToBackup (s : State) : Out :=
  .next (if s.wflag fWD_TIME_STAT_ON_BACKUP 0 then s
    else ((((s.setBoth fWD_TIME_STAT_ON_BACKUP 1).setBoth fWD_TIME_STAT_XTAL_OK 0).setBoth fTB_STAT_SLOWDATA 1).wevent
      0x7150 .warn 0 0).wevent 0x6160 .note 0x180 0)

/-- CLOCK_TO_CRYSTAL (R324, R498). -/
def execClockToCrystal (s : State) : Out :=
  .next (if s.wflag fWD_TIME_STAT_ON_BACKUP 0 then
      ((((s.setBoth fWD_TIME_STAT_ON_BACKUP 0).setBoth fWD_TIME_STAT_XTAL_OK 1).setBoth fTB_STAT_SLOWDATA 0).wevent
        0x7151 .note 0 0).wevent 0x6161 .note 0x180 0
    else s)

/-- BACKUP_TRIM, while the crystal runs (R324). -/
def execBackupTrim (trim : Int) (s : State) : Out :=
  .next (if s.wflag fWD_TIME_STAT_ON_BACKUP 0 then s else s.setBoth fWD_TIME_STAT_TRIM (ofSigned 16 trim))

/-- ADJ is outside its legal range (R326). -/
def adjBad (v : W64) : Bool :=
  let x := signedOf 16 (getBits v 15 0)
  decide (x < -25000) || decide (25000 < x)

/-- ADJ of one warden's window written. -/
def State.adjWrite (s : State) (d : Nat) (v : W64) : State :=
  if adjBad v then s.event 0x7152 .warn (unitId d 0) (getBits v 15 0) else s.setFld fWD_TIME_ADJ_PPM d 0 (getBits v 15 0)

/-- WD_TIME_ADJ_WRITE (R326). -/
def execWdTimeAdjWrite (m : Master) (v : W64) (s : State) : Out :=
  .next (s.guardedWrite m .WD_TIME_ADJ s.aw 0 fun t =>
    if adjBad v then t.wevent 0x7152 .warn 0 (getBits v 15 0) else t.setBoth fWD_TIME_ADJ_PPM (getBits v 15 0))

/-- WD_TIME_STEP_WRITE (R326): added at the next serial word. -/
def execWdTimeStepWrite (m : Master) (v : W64) (s : State) : Out :=
  .next (s.guardedWrite m .WD_TIME_STEP s.aw 0 fun t =>
    if 2 ^ 40 ≤ v.toNat then t.wevent 0x7152 .warn 0 v.toNat else t.setLat .timeStep 0 0 (t.lat .timeStep 0 0 + v.toNat))

/-- The active warden writes a compute die's diode offsets again after a DIE reset. -/
def State.offsetsBack (s : State) (d : Nat) : State :=
  s.each (List.range 34) fun k t => (t.setFld fTH_HS_CAL_OFS_A d k (t.lat .ofsA d k)).setFld fTH_HS_CAL_OFS_B d k (t.lat .ofsB d k)

/-! ## PHYs (R327, R328) -/

/-- HBM_EYE_ADJUST: of a stack, with its pseudo-channel of narrowest eye. -/
def execHbmEyeAdjust (d stack pc eyeT eyeV moves : Nat) (s : State) : Out :=
  ifUnit (decide (48 ≤ d) && decide (d < 56) && decide (stack < 4) && decide (pc < 32))
    (if s.quarryUp d then
      let u := pcUnit d (stack * 32 + pc)
      let fresh := s.fld fQD_PHY_EYE_T d stack = 0 ∨ 64 ≤ s.fld fQD_PHY_EYE_T d stack ∨ s.fld fQD_PHY_WORST_PC d stack ≠ pc
      let t := ((s.setFld fQD_PHY_EYE_T d stack eyeT).setFld fQD_PHY_EYE_V d stack eyeV).setFld fQD_PHY_WORST_PC d stack pc
      let t := t.setFld fQD_PHY_ADJUST d stack (min moves 65535)
      let t := if eyeT < 64 ∧ fresh then t.event 0x2108 .warn u eyeT else t
      if eyeT < 32 then ((t.satFld fQD_PHY_RECENTRE d stack 1).event 0x2109 .note u eyeT).occur 0x0B u else t
    else s)

/-- WARP_LANE_MARGIN_CHECK: a lane's second, with the symbols it corrected and received. -/
def execWarpLaneMarginCheck (p l syms received eyeH : Nat) (s : State) : Out :=
  ifUnit (decide (p < 16) && decide (l < 8))
    (if s.dieUp (warpDie p) then
      let i := p % 4 * 8 + l
      let t := (s.setFld fWP_LANE_SYMS (warpDie p) i (min syms (2 ^ 32 - 1))).setFld fWP_LANE_EYE_H (warpDie p) i eyeH
      if received < syms * 10000 then
        ((t.setFld fWP_LANE_LOW (warpDie p) i 1).event 0x3207 .warn (warpUnit p) l).occur 0x0C
          (unitId (warpDie p) (0x10 + 8 * (p % 4) + l))
      else t.setFld fWP_LANE_LOW (warpDie p) i 0
    else s)

end Sys2Proof.Machine
end

