-- ==== Sys2Proof/Machine/Calibration.lean ====
section
/-! DEFINITION. Junction sensors, soaks and bursts, the power references, the heat balance and the calibration
configuration (R330 to R340): the meanings of their commands. -/

namespace Sys2Proof.Machine

/-! ## Conversions (R330, R418) -/

/-- A diode pair exists: one for each physical spindle of a compute die, four on a quarry or I/O die, one on a warden. -/
def isDiodePair (d k : Nat) : Bool :=
  (decide (d < 48) && decide (k < 34)) || (decide (48 ≤ d) && decide (d < 62) && decide (k < 4)) ||
    (decide (62 ≤ d) && decide (d < 64) && decide (k < 1))

/-- A conversion with its offset, both in 1/1024 °C, as a reading in 1/128 °C. -/
def diodeReading (raw ofs : Int) : Int := (raw + ofs) / 8

/-- A diode reading outside −40 °C to 150 °C (R330). -/
def diodeOut (x : Int) : Bool := decide (x < -5120) || decide (19200 < x)

/-- Consecutive conversions of one value (R418). -/
def sameCount (old : Nat) (same : Bool) : Nat := if same then min (old + 1) 2000 else 1

/-- A diode's places (R330, R334): its reading, offset and FAULT in a compute die's registers, its bit of the fault masks, and the
numbers held elsewhere: the reading of a pair of another die, its reading before the offset, and its offset as the active warden
holds it. -/
structure Diode where
  temp : RField
  ofs : RField
  fault : RField
  bit : Nat
  shown : Lat
  raw : Lat
  kept : Lat

/-- Diode A of a pair. -/
def diodeA : Diode := ⟨fTH_HS_TEMP_TA, fTH_HS_CAL_OFS_A, fTH_HS_TEMP_A_FAULT, 0, .diodeA, .rawA, .ofsA⟩

/-- Diode B of a pair. -/
def diodeB : Diode := ⟨fTH_HS_TEMP_TB, fTH_HS_CAL_OFS_B, fTH_HS_TEMP_B_FAULT, 1, .diodeB, .rawB, .ofsB⟩

/-- A diode's offset in 1/1024 K: the register's on a compute die, else what the active warden holds. -/
def State.diodeOfs (s : State) (d k : Nat) (q : Diode) : Int :=
  signedOf 16 (if d < 48 then s.fld q.ofs d k else s.lat q.kept d k)

/-- A diode's reading in 1/128 °C. -/
def State.diodeAt (s : State) (d k : Nat) (q : Diode) : Int := signedOf 16 (if d < 48 then s.fld q.temp d k else s.lat q.shown d k)

/-- A diode shows its last conversion with its offset (R330). -/
def State.showDiode (s : State) (d k : Nat) (q : Diode) : State :=
  let x := ofSigned 16 (diodeReading (signedOf 32 (s.lat q.raw d k)) (s.diodeOfs d k q))
  if d < 48 then s.setFld q.temp d k x else s.setLat q.shown d k x

/-- A diode's FAULT. -/
def State.setDiodeFault (s : State) (d k : Nat) (q : Diode) (b : Bool) : State :=
  if d < 48 then s.setFlag q.fault d k b
  else
    let m := s.lat .diodeFault d k
    s.setLat .diodeFault d k (m - (m &&& 2 ^ q.bit) + 2 ^ q.bit * b.toNat)

/-- A diode is converted to `x` before its offset, in 1/1024 °C; `bad` where it is open or shorted (R330, R334, R418). -/
def State.convertDiode (s : State) (d k : Nat) (q : Diode) (same : Lat) (x : Int) (bad : Bool) : State :=
  let t := (s.setLat q.raw d k (ofSigned 32 x)).showDiode d k q
  let t := t.setLat same d k (sameCount (s.lat same d k) (t.diodeAt d k q == s.diodeAt d k q))
  t.setDiodeFault d k q ((s.lat .ofsFault d k).testBit q.bit || bad || diodeOut (t.diodeAt d k q))

/-- The delay thermometer's temperature (R331): what the factory curve makes of its count, or, once points 10 K apart are held, the
line through the lowest and the highest of them (DESIGN CHOICE: the spec names a fitted curve and gives no form). -/
def State.delayTemp (s : State) (d k : Nat) (raw : Int) : Int :=
  let l := signedOf 16 (s.lat .dLow d k - 1)
  let h := signedOf 16 (s.lat .dHigh d k - 1)
  let a := signedOf 16 (s.lat .dLowRaw d k)
  let b := signedOf 16 (s.lat .dHighRaw d k)
  if s.flag fTH_HS_TEMP_D_UNCAL d k || a == b then raw else l + (raw - a) * (h - l) / (b - a)

/-- The delay thermometer of a hot spot is converted; with a fitted curve, one more than 5 K from diodes without a fault has left
it (R331). -/
def State.convertDelay (s : State) (d k : Nat) (raw : Int) : State :=
  let x := s.delayTemp d k raw
  let t := (s.setLat .rawD d k (ofSigned 16 raw)).setFld fTH_HS_TEMP_TD d k (ofSigned 16 x)
  let mean := (t.diodeAt d k diodeA + t.diodeAt d k diodeB) / 2
  if t.flag fTH_HS_TEMP_A_FAULT d k || t.flag fTH_HS_TEMP_B_FAULT d k then t
  else
    let off := !t.flag fTH_HS_TEMP_D_UNCAL d k && decide (640 < (x - mean).natAbs)
    let u := t.setFlag fTH_HS_TEMP_D_FAULT d k off
    if off && !s.flag fTH_HS_TEMP_D_FAULT d k then u.event 0x4403 .warn (unitId d k) 0 else u

/-- DIODE_CONVERSION: what diodes A and B of a pair read before their offsets, in 1/1024 °C, and on a compute die the delay thermometer
under its factory curve, in 1/128 °C; `bad` marks a diode open or shorted. -/
def execDiodeConversion (d k : Nat) (ta tb td : Int) (bad : Nat) (s : State) : Out :=
  ifUnit (isDiodePair d k)
    (if d < 62 ∧ s.dieUp d = false then s
    else
      let t := (s.convertDiode d k diodeA .sameA ta (bad.testBit 0)).convertDiode d k diodeB .sameB tb (bad.testBit 1)
      if d < 48 then (t.convertDelay d k td).incFld fTH_HS_TEMP_SEQ d k 1 else t)

/-! ## Offsets and delay-thermometer points (R331 to R334) -/

/-- A die's reference temperature in 1/1024 °C (R332): the mean inlet, its share of the rise, and the drop across its
resistance. -/
def State.refTemp (s : State) (d : Nat) : Int :=
  let inlet := s.meanMk (s.validCool s.inlets)
  let rise := signedOf 32 (s.wfld fTH_DT_DT 0)
  let x := (s.wfld fTH_CAL_DIE_X d : Int)
  (inlet * 1000 + rise * 100 * x / 255 + (s.lat .dieMw d 0 * s.wfld fTH_CAL_DIE_RTH d : Nat)) * 1024 / 1000000

/-- A delay-thermometer point of a hot spot at what its diodes read; with points 10 K apart the curve is fitted (R331). -/
def State.addPoint (s : State) (d k : Nat) : State :=
  let x := (s.diodeAt d k diodeA + s.diodeAt d k diodeB) / 2
  let l := s.lat .dLow d k
  let h := s.lat .dHigh d k
  let t := if l = 0 ∨ x < signedOf 16 (l - 1) then (s.setLat .dLow d k (ofSigned 16 x + 1)).setLat .dLowRaw d k (s.lat .rawD d k) else s
  let t := if h = 0 ∨ signedOf 16 (h - 1) < x then (t.setLat .dHigh d k (ofSigned 16 x + 1)).setLat .dHighRaw d k (s.lat .rawD d k) else t
  t.setFlag fTH_HS_TEMP_D_UNCAL d k (decide (signedOf 16 (t.lat .dHigh d k - 1) - signedOf 16 (t.lat .dLow d k - 1) < 1280))

/-- The unit of a diode pair: the hot spot's, or its die's. -/
def pairUnit (d k : Nat) : Nat := if d < 48 then unitId d k else wholeUnit d

/-- A diode's offset moves by `x`/1024 K, unless its total change would pass 1.5 K (R334). `soak` is a soak's finding,
which clears the fault of a diode within its limit. -/
def State.moveOffset (s : State) (d k : Nat) (q : Diode) (x : Int) (soak : Bool) : State :=
  let new := s.diodeOfs d k q + x
  let old := s.lat .ofsFault d k
  let fused := if d < 48 then signedOf 16 (getBits (regReset .TH_HS_CAL d k) q.ofs.hi q.ofs.lo) else 0
  if new - fused < -1536 ∨ 1536 < new - fused then
    ((s.setLat .ofsFault d k (old ||| 2 ^ q.bit)).setDiodeFault d k q true).event 0x4402 .warn (pairUnit d k) q.bit
  else
    let t := s.setLat q.kept d k (ofSigned 16 new)
    let t := (if d < 48 then t.setFld q.ofs d k (ofSigned 16 new) else t).showDiode d k q
    if soak && old.testBit q.bit then (t.setLat .ofsFault d k (old - 2 ^ q.bit)).setDiodeFault d k q false else t

/-- What moves a diode to the reference temperature, in 1/1024 K. -/
def State.offsetError (s : State) (d k : Nat) (q : Diode) : Int := s.refTemp d - (signedOf 32 (s.lat q.raw d k) + s.diodeOfs d k q)

/-- TA − TB of a pair, in 1/128 K. -/
def State.pairDiff (s : State) (d k : Nat) : Int := s.diodeAt d k diodeA - s.diodeAt d k diodeB

/-- Both diodes of a pair move toward the reference temperature, each by what `f` makes of its error. -/
def State.moveBoth (s : State) (d k : Nat) (f : Int → Int) (soak : Bool) : State :=
  let t := s.moveOffset d k diodeA (f (s.offsetError d k diodeA)) soak
  t.moveOffset d k diodeB (f (t.offsetError d k diodeB)) soak

/-- The soak of a diode pair; on a compute die with a delay-thermometer point (R332). -/
def State.soakSpot (s : State) (d k : Nat) : State :=
  let t := s.moveBoth d k id true
  let t := t.setLat .soakDiff d k (ofSigned 16 (t.pairDiff d k))
  if d < 48 then (t.setFld fTH_HS_CAL_DRIFT d k 0).addPoint d k else t

/-- Diode pairs of a die. -/
def diodePairs (d : Nat) : List Nat := List.range (if d < 48 then 34 else if d < 62 then 4 else 1)

/-- Volumetric heat capacity times 2 × 10⁶, at an inlet in mK and a rise in 0.1 mK (R337). -/
def State.heatCap (s : State) (inlet rise : Int) : Int :=
  (s.wfld fTH_CAL_FLUID_C_VOL 0 : Int) * 2000000 +
    signedOf 16 (s.wfld fTH_CAL_FLUID_DC_VOL 0) * (20 * inlet + rise - 600000)

/-- Heat delivered to the coolant in mW, times 10⁴ (R337). -/
def State.heatDelivered (s : State) (pin : Nat) : Int := (pin : Int) * (10000 - (s.wfld fTH_CAL_HB_LOSS 0 : Int))

/-- The zero offset of the coolant rise is set at a soak to what was measured less what the heat explains, unless it would
pass 0.2 K (R335). -/
def State.soakRise (s : State) : State :=
  match s.rawRise with
  | none => s
  | some raw =>
    let c := s.heatCap (s.meanMk (s.validCool s.inlets)) raw
    let q := (s.wfld fTH_FLOW_Q_METER 0 : Int)
    if c * q ≤ 0 then s
    else
      let x := raw - s.heatDelivered (s.fld fPW_IN_MEAS_P_IN 62 0) * 120000000 / (c * q)
      if x < -2000 ∨ 2000 < x then s.wevent 0x4404 .warn 0 (ofSigned 32 x)
      else (s.setLat .dtZero 0 0 (ofSigned 32 x)).updateRise

/-- SOAK_END: every diode of every die in service is soaked (R332). -/
def execSoakEnd (s : State) : Out :=
  .next (if s.pkgState = 3 ∧ s.wfld fWD_PKG_STAT_STEP 0 = 6 ∧ !s.wflag fTH_HB_STAT_SOAKED 0 then
      let t := s.soakRise
      let t := t.each ((List.range 64).filter fun d => 62 ≤ d || t.dieUp d) fun d u => u.each (diodePairs d) fun k v => v.soakSpot d k
      (t.setWfld fTH_HB_STAT_SOAKED 0 1).wevent 0x4401 .note 0 0
    else s)

/-- An offset's move in a burst: toward the reference by at most 0.05 K (R333). -/
def burstMove (x : Int) : Int := max (-51) (min x 51)

/-- A die idle burst at a diode pair; a compute die counts it and shows the drift since the soak. -/
def State.burstSpot (s : State) (d k : Nat) : State :=
  let t := s.moveBoth d k burstMove false
  if d < 48 then
    ((t.satFld fTH_HS_CAL_BURSTS d k 1).addPoint d k).setFld fTH_HS_CAL_DRIFT d k
      (satSigned 16 ((t.pairDiff d k - signedOf 16 (s.lat .soakDiff d k)) * 8))
  else t

/-- DIE_IDLE_BURST. -/
def execDieIdleBurst (d : Nat) (s : State) : Out :=
  ifUnit (d < 64) (if 62 ≤ d ∨ s.dieUp d = true then s.each (diodePairs d) fun k t => t.burstSpot d k else s)

/-- The active warden writes a compute die's offsets, and holds them (R334). -/
def State.calWrite (s : State) (d k : Nat) (v : W64) : State :=
  let t := s.plainWrite .TH_HS_CAL d k v
  ((t.setLat .ofsA d k (getBits v 63 48)).setLat .ofsB d k (getBits v 47 32)).showDiode d k diodeA |>.showDiode d k diodeB

/-- TWIN_IDLE_BURST: points only. -/
def execTwinIdleBurst (d k : Nat) (s : State) : Out :=
  ifUnit (isTwin d k) (if s.dieUp d then (s.addPoint d (2 * k)).addPoint d (2 * k + 1) else s)

/-! ## The power references and meters (R336) -/

/-- POWER_REFERENCE_CHECK: the two references' readings of one value. -/
def execPowerReferenceCheck (a b : Nat) (s : State) : Out :=
  .next (if a < (max a b - min a b) * 2000 then s.wevent 0x4405 .warn 0 0 else s)

/-- METER_TRIM: the meters' sum and the bus-converter losses, in mW, match P_IN. -/
def execMeterTrim (losses : Nat) (s : State) : Out :=
  let sum := ((List.range 64).map fun d => s.lat .dieMw d 0).sum
  let pin := s.fld fPW_IN_MEAS_P_IN 62 0
  let old := if s.lat .meterTrim 0 0 = 0 then 1000000 else s.lat .meterTrim 0 0 - 1
  .next (if sum = 0 ∨ pin ≤ losses then s else s.setLat .meterTrim 0 0 (old * (pin - losses) / sum + 1))

/-! ## The heat balance (R337 to R339) -/

/-- A fraction rounded to the nearest whole number. -/
def roundDiv (a b : Int) : Int := (2 * a + b) / (2 * b)

/-- The flow-sensor warning after a valid balance whose deviation is `num`/`den` (R338). -/
def State.balanceWarn (s : State) (num den : Int) : State :=
  let m := num.natAbs
  let n := den.natAbs
  let warn := s.wflag fTH_HB_STAT_WARN 0
  let good := if m * 1000 ≤ 15 * n then min (s.lat .hbGood 0 0 + 1) 10 else 0
  let t := s.setLat .hbGood 0 0 good
  if 2 * n < m * 100 then
    (if warn then t else ((t.setWfld fTH_HB_STAT_WARN 0 1).setWfld fTH_HB_STAT_HELD 0 1).event 0x5201 .warn (unitId t.aw 0x144) 0)
  else if warn ∧ good = 10 then
    ((t.setWfld fTH_HB_STAT_WARN 0 0).setWfld fTH_HB_STAT_HELD 0 0).event 0x5202 .note (unitId t.aw 0x144) 0
  else t

/-- The meter trim moves toward −DEV, in 0.01 %, with a time constant of 3,600 balances, within TRIM_LIM (R339). The register
holds whole steps; the rest of 1/3,600 step stands beside it. -/
def State.balanceTrim (s : State) (dev : Int) : State :=
  if s.wflag fTH_HB_STAT_WARN 0 then s
  else
    let lim := (s.wfld fTH_CAL_TRIM_TRIM_LIM 0 : Int) * 3600
    let a := signedOf 16 (s.wfld fTH_HB_TRIM_TRIM 0) * 3600 + signedOf 32 (s.lat .trimAcc 0 0)
    let b := max (-lim) (min (a - dev - a.tdiv 3600) lim)
    (s.setLat .trimAcc 0 0 (ofSigned 32 (b - b.tdiv 3600 * 3600))).setWfld fTH_HB_TRIM_TRIM 0 (ofSigned 16 (b.tdiv 3600))

/-- A valid heat balance: Q_HB is `num`/`den` in mL/min. -/
def State.balanceValid (s : State) (num den : Int) (q : Nat) : State :=
  let dnum := (q : Int) * den - num
  let dev := roundDiv (dnum * 10000) num
  let t := (s.setWfld fTH_FLOW_Q_HB 0 (roundDiv num den).toNat).setWfld fTH_HB_STAT_DEV 0 (satSigned 16 dev)
  let t := (t.setWfld fTH_HB_STAT_VALID 0 1).setLat .lastGood 0 0 1
  (t.balanceWarn dnum num).balanceTrim dev

/-- The readings of one policy cycle join those of the current 100 ms; 10 s of them are kept (R337). -/
def State.heatNote (s : State) : State :=
  let i := s.validCool s.inlets
  let o := s.validCool s.outlets
  let p := s.fld fPW_IN_MEAS_P_IN 62 0
  let one : HeatSum := ⟨1, s.meanMk o, s.meanMk i, p, s.wfld fTH_FLOW_Q_METER 0, p, p, !i.isEmpty && !o.isEmpty⟩
  match s.heat with
  | h :: l => if h.n < 1000 then { s with heat := h.add one :: l } else { s with heat := (one :: s.heat).take 101 }
  | [] => { s with heat := [one] }

/-- HEAT_BALANCE (R337): the outlets of the last second against the inlets and the power of a second that ended LAG before, and the
metered flow of the last second; it is valid where 10 s are held without an invalid reading, P_IN varied in them by less than 5 % of
its greatest value, and ΔT is at least MIN_DT. -/
def execHeatBalance (s : State) : Out :=
  let l := s.heat.filter fun h => h.n == 1000
  let late := l.take 10
  let early := (l.drop (s.wfld fTH_CAL_HB_LAG 0)).take 10
  let inlet := (early.map fun h => h.inlet).sum / 10000
  let rise := ((late.map fun h => h.outlet).sum - (early.map fun h => h.inlet).sum) / 1000 - signedOf 32 (s.lat .dtZero 0 0)
  let pin := (early.map fun h => h.pin).sum / 10000
  let hi := l.foldl (fun a h => max a h.hi) 0
  let lo := l.foldl (fun a h => min a h.lo) hi
  let num := s.heatDelivered pin * 120000000
  let den := s.heatCap inlet rise * rise
  .next (if decide (100 ≤ l.length) && l.all (fun h => h.ok) && decide ((hi - lo) * 20 < hi) &&
      decide ((s.wfld fTH_CAL_HB_MIN_DT 0 : Int) * 1000 ≤ rise) && decide (0 < num) && decide (0 < den) then
      s.balanceValid num den ((late.map fun h => h.q).sum / 10000)
    else
      (s.setWfld fTH_HB_STAT_VALID 0 0).setLat .lastGood 0 0 (if s.lat .lastGood 0 0 = 0 then 0 else min (s.lat .lastGood 0 0 + 1) 12))

/-! ## Calibration configuration (R340, Table ST-11) -/

/-- CALIBRATION_WRITE. -/
def execCalibrationWrite (m : Master) (k : Nat) (v : W64) (s : State) : Out :=
  ifUnit (k < 67)
    (s.guardedWrite m (calReg k).1 s.aw (calReg k).2 fun t =>
      if calLegal k v then t.plainWrite (calReg k).1 t.aw (calReg k).2 v
      else t.wevent 0x4407 .warn 0 (regAddr (calReg k).1 t.aw (calReg k).2))

end Sys2Proof.Machine
end

