-- ==== Sys2Proof/Machine/Fans.lean ====
section
/-! DEFINITION. Sources, and the fan and pump channels (R452, R480 to R485, R487): their drive and the meanings of their
commands. -/

namespace Sys2Proof.Machine

/-! ## Sources (R452, Table ACT-2) -/

/-- 1.0 in Q4.28. -/
def q28 : Int := 0x10000000

/-- A reading over its full scale in Q4.28, rounded down. -/
def normal (x scale : Int) : Int := x * q28 / scale

/-- A Pt1000 input is read and valid. -/
def State.coolGood (s : State) (i : Nat) : Bool := ((s.inlets ++ s.outlets).contains i) && !(s.lat .coolBad 0 0).testBit i

/-- The highest QD_HBM.TEMP of the package. -/
def State.hottestStack (s : State) : Nat :=
  ((List.range' 48 8).flatMap fun d => (List.range 4).map fun k => s.fld fQD_HBM_TEMP d k).foldl max 0

/-- A source's value in Q4.28, and whether it is valid, for a loop or zone of warden die `w`. -/
def State.source (s : State) (w code : Nat) : Int × Bool :=
  let ain := fun (j : Nat) => (signedOf 32 (s.wfld fCE_AIN_VAL_VALUE j), !(s.lat .ainBad 0 0).testBit j && s.wfld fCE_AIN_CFG_MODE j != 0)
  let row := s.lat .coolRow 0 0
  if code = 0 then (0, true)
  else if code = 0x08 then (normal (s.wfld fTH_FLOW_USED_Q 0) 32000, s.wfld fTH_FLOW_USED_SRC 0 != 3)
  else if code = 0x09 ∨ code = 0x0A then
    (normal (s.wfld fCE_FLOW_VAL_MLMIN (code - 9)) 32000, !(s.lat .flowBad 0 0).testBit (code - 9) && s.wfld fCE_FLOW_CFG_MODE (code - 9) != 0)
  else if code = 0x10 then (normal (signedOf 32 (s.wfld fTH_IN_USED_INLET 0)) 128000, !row.testBit 0)
  else if code = 0x11 then (normal (signedOf 32 (s.wfld fTH_IN_USED_OUTLET 0)) 128000, !row.testBit 1)
  else if code = 0x12 then (normal (signedOf 32 (s.wfld fTH_DT_DT 0)) 320000, s.rawRise.isSome)
  else if 0x13 ≤ code ∧ code ≤ 0x16 then (normal (s.coolMk (code - 0x13)) 128000, s.coolGood (code - 0x13))
  else if code = 0x18 then ain 0
  else if 0x20 ≤ code ∧ code ≤ 0x27 then ain (code - 0x20 + 1)
  else if code = 0x30 then (normal (s.fld fPW_IN_MEAS_P_IN 62 0) 8192000, true)
  else if code = 0x31 then (normal (s.wfld fTH_CAP_CAP_W 0) 8192, true)
  else if code = 0x38 then (normal s.hottest 16384, true)
  else if code = 0x39 then
    (normal (s.hottestStack : Nat) 128, true)
  else if 0x40 ≤ code ∧ code ≤ 0x4F then (signedOf 32 (s.fld fCE_LOOP_OUT_U w (code - 0x40)), true)
  else (0, false)

/-! ## Demand (R480, R481) -/

/-- The drive a loop's output gives: floor(u × 1,000), held to 0–1,000 (R457). -/
def driveOf (u : Int) : Nat := min (u * 1000 / q28).toNat 1000

/-- The drive of a loop. -/
def State.loopDrive (s : State) (w k : Nat) : Nat := driveOf (signedOf 32 (s.fld fCE_LOOP_OUT_U w k))

/-- The loop whose DEST names a channel. -/
def State.loopFor (s : State) (w c : Nat) : Option Nat := (List.range 16).find? fun k => s.fld fCE_LOOP_CFG_DEST w k == c

/-- A zone's demand: 1,000 where its source is invalid. -/
def State.zoneDemand (s : State) (z : Nat) : Nat :=
  let v := s.source s.aw (s.wfld fFP_ZONE_SRC_SOURCE z)
  let x := fun i => (s.wfld fFP_ZONE_PT_X (8 * z + i) * 4096 : Int)
  let y := fun i => (s.wfld fFP_ZONE_PT_Y (8 * z + i) : Int)
  if !v.2 then 1000
  else if v.1 ≤ x 0 then (y 0).toNat
  else match (List.range 7).find? fun i => v.1 < x (i + 1) with
    | some i => (y i + (y (i + 1) - y i) * (v.1 - x i) / (x (i + 1) - x i)).toNat
    | none => (y 7).toNat

/-- A channel's demand. -/
def State.demand (s : State) (c : Nat) : Nat :=
  let least := s.wfld fFP_CFG_MIN_PCT c
  match s.wfld fFP_CFG_SOURCE c with
  | 0 => 0
  | 1 => s.wfld fFP_FIXED_PCT c
  | 2 =>
    max least (match s.loopFor s.aw c with
      | some k => if s.wfld fCE_LOOP_STAT_STATE k = 0 then 0 else s.loopDrive s.aw k
      | none => 0)
  | _ => max least (((List.range 8).filter fun z => (s.wfld fFP_CFG_ZONES c).testBit z).foldl (fun m z => max m (s.zoneDemand z)) 0)

/-! ## Drive (R482, Table ACT-10) -/

/-- The drive of a spin-up attempt (R485): the first at max(demand, START_PCT), retry k at a third more each. -/
def State.attemptDrive (s : State) (c n : Nat) : Nat :=
  let p := s.wfld fFP_SUP_START_PCT c
  if n ≤ 1 then max (s.demand c) p else p + (n - 1) * (1000 - p) / 3

/-- A BLOCKED channel stays at 0 between its sequences. -/
def State.blockedHold (s : State) (c : Nat) : Bool := s.wflag fFP_STAT_BLOCKED c && s.lat .fpPause c 0 == 2

/-- The row of Table ACT-10 in force, and the drive of rows 1 to 6 or the demand of row 7. -/
def State.driveRow (s : State) (c : Nat) : Nat × Nat :=
  let n := s.wfld fFP_STAT_ATTEMPT c
  if s.wflag fWD_FORCE_LEAK_LATCH 0 && s.lat .leakDue 0 0 == 0 && (s.wfld fWD_FORCE_LEAK_STOP_MASK 0).testBit c then (1, 0)
  else if s.forced || s.wflag fTH_STAT_TRIP 0 then (2, 1000)
  else if s.wfld fFP_CFG_KIND c = 1 ∧ ((s.lat .clampCause 0 0).testBit 0 ∨ s.lat .pumpHold 0 0 ≠ 0) then (3, 1000)
  else if s.wflag fFP_STAT_TACH_WIRE c then (4, 1000)
  else if s.lat .fpPause c 0 = 1 ∨ s.blockedHold c then (5, 0)
  else if n ≠ 0 then (5, s.attemptDrive c n)
  else
    let faulted := if s.wfld fFP_CFG_SOURCE c = 2 then (s.loopFor s.aw c).filter fun k => s.wfld fCE_LOOP_STAT_STATE k == 3 else none
    match faulted with
    | some k => (6, s.loopDrive s.aw k)
    | none => (7, s.demand c)

/-- The drive in force now: under row 7 a fall is limited to RAMP_DN per 100 ms from the drive it began at. -/
def State.driveNow (s : State) (c : Nat) : Nat × Nat :=
  let r := s.driveRow c
  let held := s.wfld fFP_STAT_DRIVE c
  if r.1 ≠ 7 then r
  else if held ≤ r.2 ∨ s.wfld fFP_STAT_CAUSE c ≠ 7 then (7, max r.2 held)
  else
    let start := s.lat .fpDrive c 0
    let fall := if start = 0 then 0 else (s.now - s.lat .fpAt c 0) * s.wfld fFP_ISUP_RAMP_DN c / 100000000
    (7, max r.2 ((if start = 0 then held else start - 1) - fall))

/-- A channel's drive is brought up to now, with its start (R485): a change from 0 to above 0 outside rows 1 to 4, of a
channel with a tachometer. -/
def State.settle (s : State) (c : Nat) : State :=
  let r := s.driveNow c
  let held := s.wfld fFP_STAT_DRIVE c
  let go := held == 0 && r.2 != 0 && decide (5 < r.1) && s.wfld fFP_CFG_TACH_PPR c != 0
  let t := if go then s.setWfld fFP_STAT_ATTEMPT c 1 else s
  let r := if go then (5, t.attemptDrive c 1) else r
  let falling := r.1 == 7 && s.wfld fFP_STAT_CAUSE c == 7 && decide ((t.driveRow c).2 < r.2)
  let t := if falling && s.lat .fpDrive c 0 != 0 then t
    else (t.setLat .fpDrive c 0 (r.2 + 1)).setLat .fpAt c 0 s.now
  (t.setWfld fFP_STAT_DRIVE c r.2).setWfld fFP_STAT_CAUSE c r.1

/-- Every channel's drive is brought up to now. -/
def State.settleAll (s : State) : State := s.each (List.range 6) fun c t => t.settle c

/-! ## Supervision (R483 to R485) -/

/-- The unit of a channel (Table ACT-1). -/
def State.fanUnit (s : State) (c : Nat) : Nat := unitId s.aw (0x130 + c)

/-- A channel's speed by the period of its last two pulses in µs, and zero where none came for 1 s (R483). -/
def State.fanRpm (s : State) (c us : Nat) : Nat :=
  if us = 0 ∨ 1000000 < us then 0 else min (60000000 / (us * s.wfld fFP_CFG_TACH_PPR c)) 65535

/-- A channel's fault bit is set, and recorded where it was clear. -/
def State.fanFault (s : State) (f : RField) (c code : Nat) : State :=
  if s.wflag f c then s else (s.setWfld f c 1).event code .fault (s.fanUnit c) 0

/-- A silent tachometer's current (R484): a broken wire; a blocked rotor, on which `blocked` acts; or no motor. -/
def State.classify (s : State) (c ma : Nat) (blocked : State → State) : State :=
  if s.wfld fFP_ISUP_I_LOCK_MA c ≤ ma then blocked s
  else if s.wfld fFP_ISUP_I_RUN_MA c ≤ ma then
    ((s.setWfld fFP_STAT_ATTEMPT c 0).setLat .fpPause c 0 0).fanFault fFP_STAT_TACH_WIRE c 0x5503
  else ((s.setWfld fFP_STAT_ATTEMPT c 0).setLat .fpPause c 0 0).fanFault fFP_STAT_OPEN c 0x5501

/-- A channel with a tachometer that is driven, outside a spin-up. -/
def State.tachRuns (s : State) (c : Nat) : Bool :=
  s.wfld fFP_CFG_TACH_PPR c != 0 && s.wfld fFP_STAT_DRIVE c != 0 && s.wfld fFP_STAT_ATTEMPT c == 0

/-- TACH_SILENCE at a motor current. -/
def execTachSilence (c ma : Nat) (s : State) : Out :=
  ifUnit (c < 6)
    (let t := s.settle c
    if t.tachRuns c then
      (((t.setWfld fFP_STAT_RPM c 0).setWfld fFP_STAT_I_MA c ma).classify c ma fun u =>
        (u.setWfld fFP_STAT_ATTEMPT c 1).setLat .fpPause c 0 0).settle c
    else t)

/-- FAN_SLOW at a pulse period. -/
def execFanSlow (c us : Nat) (s : State) : Out :=
  ifUnit (c < 6)
    (let t := s.settle c
    let rpm := s.fanRpm c us
    if t.tachRuns c && decide (0 < rpm) && decide (rpm < t.wfld fFP_SUP_TACH_MIN_RPM c) then
      (t.setWfld fFP_STAT_RPM c rpm).fanFault fFP_STAT_SLOW c 0x5501
    else t)

/-- A blocked rotor at the end of an attempt: a pause, or BLOCKED after the last retry. -/
def State.attemptBlocked (s : State) (c : Nat) : State :=
  if s.wfld fFP_STAT_ATTEMPT c = 4 then
    (((s.setWfld fFP_STAT_ATTEMPT c 0).setLat .fpPause c 0 2).setWfld fFP_STAT_BLOCKED c 1).event 0x5502 .fault (s.fanUnit c) 0
  else s.setLat .fpPause c 0 1

/-- SPINUP_ATTEMPT_END with the pulse period and current at its end. -/
def execSpinupAttemptEnd (c us ma : Nat) (s : State) : Out :=
  ifUnit (c < 6)
    (if s.wfld fFP_STAT_ATTEMPT c = 0 ∨ s.lat .fpPause c 0 = 1 then s
    else
      let rpm := s.fanRpm c us
      let t := (s.setWfld fFP_STAT_RPM c rpm).setWfld fFP_STAT_I_MA c ma
      let t := if s.wfld fFP_SUP_TACH_MIN_RPM c ≤ rpm then (t.setWfld fFP_STAT_ATTEMPT c 0).setLat .fpPause c 0 0
        else t.classify c ma fun u => u.attemptBlocked c
      t.settle c)

/-- SPINUP_PAUSE_END: the next retry. -/
def execSpinupPauseEnd (c : Nat) (s : State) : Out :=
  ifUnit (c < 6)
    (if s.wfld fFP_STAT_ATTEMPT c ≠ 0 ∧ s.lat .fpPause c 0 = 1 then
      let n := s.wfld fFP_STAT_ATTEMPT c
      (((s.setLat .fpPause c 0 0).setWfld fFP_STAT_ATTEMPT c (n + 1)).event 0x5504 .note (s.fanUnit c) n).settle c
    else s)

/-- BLOCKED_RETRY: the sequence again, while the demand is above zero. -/
def execBlockedRetry (c : Nat) (s : State) : Out :=
  ifUnit (c < 6)
    (if s.blockedHold c && s.wfld fFP_ISUP_RETRY_S c != 0 && s.demand c != 0 then
      ((s.setLat .fpPause c 0 0).setWfld fFP_STAT_ATTEMPT c 1).settle c
    else s)

end Sys2Proof.Machine
end

