-- ==== Sys2Proof/Machine/Policy.lean ====
section
/-! DEFINITION. The policy cycle (R418 to R422, R426 to R433, R443 to R445, Tables TH-1 to TH-3, TH-7). -/

namespace Sys2Proof.Machine

/-! ## What the front end reads (R432, R453, R454) -/

/-- The cycles a Pt1000 input has held one value, with this one: 600,000 are its 12,000 samples of 60 s. -/
def State.heldFor (s : State) (r : Readings) (i : Nat) : Nat :=
  if ofSigned 32 (r.temps.getD i 0) = s.wfld fTH_COOL_T_TEMP i then min (s.lat .coolSame i 0 + 1) 600000 else 1

/-- A Pt1000 input is invalid by itself: outside 0–100 °C, or flat for 60 s. -/
def State.coolOut (s : State) (r : Readings) (i : Nat) : Bool :=
  let t := r.temps.getD i 0
  decide (t < 0) || decide (100000 < t) || s.heldFor r i == 600000

/-- An inlet in use reads more than 0.5 K above an outlet in use while P_IN exceeds 500 W: both are invalid. -/
def State.coolPair (s : State) (r : Readings) (i : Nat) : Bool :=
  let hot := fun (a b : Nat) => decide (500000 < r.pin) && decide (r.temps.getD b 0 + 500 < r.temps.getD a 0)
  if s.inlets.contains i then s.outlets.any fun o => hot i o
  else s.outlets.contains i && s.inlets.any fun a => hot a i

/-- Bits of a mask over the first `n` numbers. -/
def maskBits (n : Nat) (p : Nat → Bool) : Nat := (List.range n).foldl (fun m i => if p i then m + 2 ^ i else m) 0

/-- The readings of a cycle reach their registers. -/
def State.takeReadings (s : State) (r : Readings) : State :=
  let t := s.setFld fPW_IN_MEAS_P_IN 62 0 r.pin
  let t := t.each (List.range 4) fun i u => u.setWfld fTH_COOL_T_TEMP i (ofSigned 32 (r.temps.getD i 0))
  let t := t.each (List.range 4) fun i u => u.setLat .coolSame i 0 (s.heldFor r i)
  let t := t.setLat .coolBad 0 0 (maskBits 4 fun i => s.coolOut r i || s.coolPair r i)
  let raw := fun (i : Nat) => r.flows.getD i (0, 0)
  let q := fun (i : Nat) => s.flowReading i (raw i).1 (raw i).2
  let t := t.each [0, 1] fun i u => ((u.setWfld fCE_FLOW_VAL_MLMIN i (q i)).noteFlow i (q i)).noteFlat i (q i)
  let trim := 10000 + signedOf 16 (s.wfld fTH_HB_TRIM_TRIM 0)
  let t := t.setWfld fTH_FLOW_Q_METER 0 ((q 0 : Int) * trim / 10000).toNat
  let t := t.setLat .flowBad 0 0 (maskBits 2 fun i => s.flowOut i (raw i).1 || t.flowFlat i)
  let t := t.each (List.range 9) fun j u => u.setWfld fCE_AIN_VAL_VALUE j (ofSigned 32 (s.ainReading j (r.ain.getD j 0)))
  let t := t.setLat .ainBad 0 0 (maskBits 9 fun j => s.ainOut j (r.ain.getD j 0))
  let t := t.each (List.range 6) fun c u =>
    (u.setWfld fFP_STAT_RPM c (u.fanRpm c (r.fans.getD c (0, 0)).1)).setWfld fFP_STAT_I_MA c (r.fans.getD c (0, 0)).2
  let t := t.each (List.range 4) fun c u => u.setWfld fSV_MEAS_I_MA c (r.coils.getD c 0)
  let t := t.setWfld fSV_BOOST_V_MV 0 r.boost
  let t := if 65000 ≤ r.boost then (t.setWfld fSV_BOOST_LOW 0 0).setWfld fSV_BOOST_CHARGING 0 0 else t
  (t.each (List.range 64) fun d u => u.setLat .dieMw d 0 (u.trimmed (r.dies.getD d 0))).updateRise.heatNote

/-! ## Readings in use (Table TH-3) -/

/-- A row of Table TH-3 is entered or left; `f` acts on entry. -/
def State.coolEnter (s : State) (bit : Nat) (on : Bool) (f : State → State) : State :=
  let m := s.lat .coolRow 0 0
  if on then (if m.testBit bit then s else f (s.setLat .coolRow 0 0 (m + 2 ^ bit)))
  else s.setLat .coolRow 0 0 (m - (m &&& 2 ^ bit))

/-- A sensor shutdown: an ordered entry to STANDBY (Table TH-3). -/
def State.sensorShutdown (s : State) : State :=
  let t := s.event 0x5113 .fatal (unitId s.aw 0x141) 0
  let t := if t.pkgState = 0 ∨ t.pkgState = 3 then t.setLat .shutdownDue 0 0 1 else t
  t.emergDrive 3

/-- The readings in use are formed. -/
def State.readingsInUse (s : State) : State :=
  let i := s.validCool s.inlets
  let o := s.validCool s.outlets
  let q := s.flowInUse fun k => if k = 0 then s.wfld fTH_FLOW_Q_METER 0 else s.wfld fCE_FLOW_VAL_MLMIN k
  let t := s.setWfld fTH_IN_USED_INLET 0 (ofSigned 32 (if i.isEmpty then 45000 else s.meanMk i))
  let t := if o.isEmpty then t else t.setWfld fTH_IN_USED_OUTLET 0 (ofSigned 32 (s.meanMk o))
  let t := (t.setWfld fTH_FLOW_USED_Q 0 q.1).setWfld fTH_FLOW_USED_SRC 0 q.2
  let t := t.coolEnter 0 i.isEmpty fun u => u.event 0x5112 .warn (unitId u.aw 0x140) 0
  let t := t.coolEnter 1 o.isEmpty State.sensorShutdown
  t.coolEnter 2 (s.flowInputs.any fun k => (s.lat .flowBad 0 0).testBit k) fun u => u.event 0x5104 .warn (unitId u.aw 0x144) 0

/-! ## Trusted temperatures (R418 to R420, Table TH-1) -/

/-- 150 °C, as which an invalid reading counts. -/
def hot150 : Int := 19200

/-- The middle of three. -/
def median (a b c : Int) : Int := max (min a b) (min (max a b) c)

/-- The trusted temperature of readings and their validity, and its row of Table TH-1. -/
def trustOf (a b d : Int) (va vb vd : Bool) : Int × Nat :=
  if va && vb then (if (a - b).natAbs ≤ 256 then ((a + b) / 2, 0) else (max a b, 1))
  else
    (median (if va then a else hot150) (if vb then b else hot150) (if vd then d else hot150), if va || vb then 2 else 3)

/-- A diode reading below the inlet in use by more than 2 K while its die draws over 20 W (R418). -/
def State.tooCold (s : State) (d : Nat) (x : Int) : Bool :=
  decide (20000 < s.lat .dieMw d 0) && decide (x * 1000 < (signedOf 32 (s.wfld fTH_IN_USED_INLET 0) - 2000) * 128)

/-- The trusted temperature of a hot spot of a compute die. -/
def State.trustSpot (s : State) (d k : Nat) : Int × Nat :=
  let a := signedOf 16 (s.fld fTH_HS_TEMP_TA d k)
  let b := signedOf 16 (s.fld fTH_HS_TEMP_TB d k)
  trustOf a b (signedOf 16 (s.fld fTH_HS_TEMP_TD d k))
    (!s.flag fTH_HS_TEMP_A_FAULT d k && !s.tooCold d a && decide (s.lat .sameA d k < 2000))
    (!s.flag fTH_HS_TEMP_B_FAULT d k && !s.tooCold d b && decide (s.lat .sameB d k < 2000))
    (!s.flag fTH_HS_TEMP_D_FAULT d k)

/-- The trusted temperature of a diode pair of another die: 150 °C when either diode is invalid (R420). -/
def State.trustPair (s : State) (d k : Nat) : Int × Nat :=
  let a := signedOf 16 (s.lat .diodeA d k)
  let b := signedOf 16 (s.lat .diodeB d k)
  let f := s.lat .diodeFault d k
  if !f.testBit 0 && !f.testBit 1 && !s.tooCold d a && !s.tooCold d b && decide (s.lat .sameA d k < 2000) &&
      decide (s.lat .sameB d k < 2000) then
    trustOf a b 0 true true true
  else (hot150, 4)

/-- The event of a row of Table TH-1. -/
def rowEvent (row : Nat) : Option (Nat × Sev) :=
  match row with
  | 1 => some (0x4101, .warn) | 2 => some (0x4102, .warn) | 3 => some (0x4103, .fault) | _ => none

/-- A hot spot's trusted temperature is formed; entry into a row is recorded, and marks its twin. -/
def State.formSpot (s : State) (d k : Nat) (x : Int × Nat) (unit : Nat) : State :=
  let t := (s.setLat .hsTemp d k (ofSigned 16 x.1)).setLat .hsRow d k x.2
  if s.lat .hsRow d k = x.2 then t
  else match rowEvent x.2 with
    | some e => (if d < 48 then t.setFld fTH_TWIN_SENS_WARN d (k / 2) 1 else t).event e.1 e.2 unit 0
    | none => t

/-- The hot spots of the in-service spindles of a compute die. -/
def State.spots (s : State) (d : Nat) : List Nat :=
  ((List.range 32).filter fun i => s.lat .slotRetired (32 * d + i) 0 == 0).map fun i => s.phys (32 * d + i)

/-- A twin's trusted temperature: that of its hottest in-service hot spot (R420). -/
def State.formTwin (s : State) (d k : Nat) : State :=
  let l := [2 * k, 2 * k + 1].filter fun h => (s.spots d).contains h
  let temp := fun (h : Nat) => signedOf 16 (s.lat .hsTemp d h)
  match l with
  | [] => s
  | h :: r =>
    let top := r.foldl (fun a b => if temp a < temp b then b else a) h
    (s.setFld fTH_TWIN_TRUSTED d k (s.lat .hsTemp d top)).setFld fTH_TWIN_TSRC d k (s.lat .hsRow d top)

/-- THROTTLE as a bound on a temperature in 1/128 °C: the temperature is above it. -/
def State.above (s : State) (x : Int) : Bool := decide ((s.wfld fTH_SOFT_THROTTLE 0 : Int) * 128 < x * 10)

/-- The temperature is below THROTTLE − HYST. -/
def State.below (s : State) (x : Int) : Bool :=
  decide (x * 10 < ((s.wfld fTH_SOFT_THROTTLE 0 : Int) - (s.wfld fTH_SOFT_HYST 0 : Int)) * 128)

/-- A quarry or I/O die above THROTTLE (R445). -/
def State.formOther (s : State) (d : Nat) : State :=
  let n := if d < 62 then 4 else 1
  let t := s.each (List.range n) fun k u => u.formSpot d k (u.trustPair d k) (if d < 62 then dieUnit d else unitId d 0)
  let hot := decide (d < 62) && (List.range n).any fun k => t.above (signedOf 16 (t.lat .hsTemp d k))
  let u := t.setLat .dieHot d 0 hot.toNat
  if hot && s.lat .dieHot d 0 == 0 then u.event 0x4140 .warn (dieUnit d) 0 else u

/-- Trusted temperatures of the whole package. -/
def State.formTemps (s : State) : State :=
  let t := s.each ((List.range 48).filter s.dieUp) fun d u =>
    let v := u.each (u.spots d) fun k w => w.formSpot d k (w.trustSpot d k) (unitId d k)
    v.each (List.range 17) fun k w => w.formTwin d k
  t.each ((List.range' 48 16).filter fun d => 62 ≤ d || t.dieUp d) fun d u => u.formOther d

/-! ## Caps (R421, R422, Table TH-2) -/

/-- The caps in force, as source and W. -/
def State.caps (s : State) : List (Nat × Nat) :=
  let curve := s.curveCap (signedOf 32 (s.wfld fTH_IN_USED_INLET 0)) (s.wfld fTH_FLOW_USED_Q 0)
  [(1, 7200), (2, s.fld fPW_RAIL_CAP_CAP_W 62 0), (3, curve)] ++
    (if s.wflag fTH_STAT_RECOVERY 0 then [(4, s.lat .rampCap 0 0)] else []) ++ s.orderCaps

/-- The lowest cap; the lowest code among equal ones. -/
def lowestCap : List (Nat × Nat) → Nat × Nat
  | [] => (1, 7200)
  | x :: l => l.foldl (fun m y => if y.2 < m.2 then y else m) x

/-- The compute dies' draw in mW. -/
def State.computeMw (s : State) : Nat := ((List.range 48).map fun d => s.lat .dieMw d 0).sum

/-- TH_CAP is formed. -/
def State.formCap (s : State) : State :=
  let c := lowestCap s.caps
  let other := s.fld fPW_IN_MEAS_P_IN 62 0 - s.computeMw
  let t := (s.setWfld fTH_CAP_CAP_W 0 c.2).setWfld fTH_CAP_SRC 0 c.1
  (t.setWfld fTH_CAP_P_COMP 0 (s.computeMw / 1000)).setWfld fTH_CAP_BUDGET_W 0 ((c.2 * 1000 - other) / 1000)

/-- The cap below what the idle clamp can reach: 600 W for the compute dies beside the draw of the rest (R422, R431). -/
def State.capTooLow (s : State) : State :=
  let other := s.fld fPW_IN_MEAS_P_IN 62 0 - s.computeMw
  let on := (s.lat .clampCause 0 0).testBit 2
  if s.wfld fTH_CAP_CAP_W 0 * 1000 < 600000 + other then (if on then s else (s.wevent 0x4503 .warn 0 (s.wfld fTH_CAP_CAP_W 0)).clampOn 4)
  else if on then s.clampOff 4 else s

/-- Excursions (R426): a cycle above 7,500 W, or 100 cycles above the cap; released after 100 cycles below it. -/
def State.excursion (s : State) : State :=
  let p := s.fld fPW_IN_MEAS_P_IN 62 0
  let cap := s.wfld fTH_CAP_CAP_W 0 * 1000
  let above := if cap < p then min (s.lat .capOver 0 0 + 1) 100 else 0
  let under := if p < cap then min (s.lat .capUnder 0 0 + 1) 100 else 0
  let t := (s.setLat .capOver 0 0 above).setLat .capUnder 0 0 under
  if s.wflag fTH_STAT_EXCURSION 0 then
    (if under = 100 then (t.setWfld fTH_STAT_EXCURSION 0 0).clampOff 2 else t)
  else if 7500000 < p ∨ above = 100 then
    (((t.setLat .capUnder 0 0 0).setWfld fTH_STAT_EXCURSION 0 1).wevent 0x4120 .warn 0 (p / 1000)).clampOn 2
  else t

/-! ## Throttling (R427, R429, R430) -/

/-- Twins of a die that are ON, hottest first; the lower unit identifier counts as hotter among equals. -/
def State.hotOrder (s : State) (d : Nat) : List Nat :=
  let on := (List.range 17).filter fun k => s.twinState d k == 2
  on.mergeSort fun a b => decide (signedOf 16 (s.fld fTH_TWIN_TRUSTED d b) < signedOf 16 (s.fld fTH_TWIN_TRUSTED d a)) ||
    (decide (signedOf 16 (s.fld fTH_TWIN_TRUSTED d b) = signedOf 16 (s.fld fTH_TWIN_TRUSTED d a)) && decide (a ≤ b))

/-- The first time since no twin of the die was throttled, the event is recorded. -/
def State.firstOnDie (s : State) (l : Lat) (d k code : Nat) (sev : Sev) : State :=
  if s.lat l d 0 = 0 then (s.setLat l d 0 1).event code sev (twinUnit d k) 0 else s

/-- Twins above THROTTLE, hottest first: those at their FLOOR gain a duty step and ask for less than FLOOR, and the first
that is above its FLOOR loses a VID step and ends the walk. -/
def State.throttleWalk (d : Nat) : List Nat → State → State
  | [], s => s
  | k :: ks, s =>
    let vid := s.fld fPW_TWIN_CTL_VID d k
    let t := (s.setFld fTH_TWIN_THERMAL d k 1).setLat .coolFor d k 0
    if s.fld fPW_TWIN_AVS_FLOOR d k < vid then (t.setVid d k (vid - 1)).firstOnDie .dieHot d k 0x4110 .note
    else
      let u := (t.setLat .vidAsk d k 1).firstOnDie .dieHot d k 0x4110 .note
      let u := if u.lat .duty d k < 16 then
          ((u.setLat .duty d k (u.lat .duty d k + 1)).setLat .thermDuty d k (u.lat .thermDuty d k + 1)).firstOnDie
            .dieGated d k 0x4111 .warn
        else u
      State.throttleWalk d ks u

/-- A throttled twin regains a step: duty first, then VID up to RUN_VID; then it is throttled no longer (R430). -/
def State.regain (s : State) (d k : Nat) : State :=
  let t := s.setLat .coolFor d k 0
  let q := s.lat .duty d k
  let vid := s.fld fPW_TWIN_CTL_VID d k
  let t := if q ≠ 0 then (t.setLat .duty d k (q - 1)).setLat .thermDuty d k (min (t.lat .thermDuty d k) (q - 1))
    else if vid < s.wfld fTH_SOFT_RUN_VID 0 then t.setVid d k (vid + 1) else t
  if t.lat .duty d k = 0 ∧ s.wfld fTH_SOFT_RUN_VID 0 ≤ t.fld fPW_TWIN_CTL_VID d k then t.setFld fTH_TWIN_THERMAL d k 0 else t

/-- The throttled twins of a die count their cool cycles, and the coolest that has 10 ms of them regains a step, unless a
twin of the die is above THROTTLE or the clamp holds. -/
def State.release (s : State) (d : Nat) (anyHot : Bool) : State :=
  let on := s.hotOrder d
  let t := s.each (on.filter fun k => s.flag fTH_TWIN_THERMAL d k) fun k u =>
    u.setLat .coolFor d k (if u.below (u.twinTemp d k) then min (u.lat .coolFor d k + 1) 100 else 0)
  if anyHot || s.clamped then t
  else match (on.reverse.filter fun k => t.flag fTH_TWIN_THERMAL d k && t.lat .coolFor d k == 100).head? with
    | some k => t.regain d k
    | none => t

/-- Throttling on a die; a twin that is not ON holds nothing of it. -/
def State.throttleDie (s : State) (d : Nat) : State :=
  let hot := (s.hotOrder d).filter fun k => s.above (s.twinTemp d k)
  let s := s.each ((List.range 17).filter fun k => s.twinState d k != 2) fun k u =>
    ((u.setFld fTH_TWIN_THERMAL d k 0).setFld fTH_TWIN_CAPPED d k 0).setLat .duty d k 0 |>.setLat .thermDuty d k 0
  let t := s.each (List.range 17) fun k u => (u.setFlag fTH_TWIN_HOTTEST d k (hot.head? == some k)).setLat .vidAsk d k
    (decide (u.wfld fTH_SOFT_RUN_VID 0 < u.fld fPW_TWIN_AVS_FLOOR d k)).toNat
  let t := State.throttleWalk d hot t
  let t := t.release d (!hot.isEmpty)
  if (List.range 17).any fun k => t.flag fTH_TWIN_THERMAL d k then t else (t.setLat .dieHot d 0 0).setLat .dieGated d 0 0

/-! ## The cap controller (R86, R428, R443) -/

/-- The metered draw of a twin in mW. -/
def State.twinMw (s : State) (d k : Nat) : Nat := s.fld fPW_TWIN_MEAS_V_MEAS d k * s.fld fPW_TWIN_MEAS_I_MEAS d k / 1000

/-- The activity factor at which a twin's spindles would draw what its meter reads (R86). -/
def State.activityOf (s : State) (d k : Nat) : Rat :=
  let v := vidVolt (s.fld fPW_TWIN_CTL_VID d k)
  let n := ((s.slotsOfTwin d k).length : Rat)
  max 0 ((s.twinMw d k : Rat) - n * leakAt v (s.twinTemp d k)) / (n * dynAt v (s.twinTemp d k))

/-- What one step takes off a twin's metered draw, in mW, as R86 predicts: of VID while it is above FLOOR, else of duty. -/
def State.saving (s : State) (d k : Nat) : Rat :=
  let vid := s.fld fPW_TWIN_CTL_VID d k
  let t := s.twinTemp d k
  let n := ((s.slotsOfTwin d k).length : Rat)
  let a := s.activityOf d k
  if s.fld fPW_TWIN_AVS_FLOOR d k < vid then n * (spindlePower a (vidVolt vid) t - spindlePower a (vidVolt (vid - 1)) t)
  else n * a * dynAt (vidVolt vid) t / ((16 - s.lat .duty d k : Nat) : Rat)

/-- The tenancy of a slot (R442): member 0's in a ply of more than one, where member 0 is of this package. -/
def State.tenancyOf (s : State) (sp : Nat) : Nat :=
  let sp := match s.plyOf sp with
    | some p => (match p.members with | m :: _ :: _ => if m.1 = s.pkg then m.2 else sp | _ => sp)
    | none => sp
  let i := spIdx sp % 16
  let v := if spIdx sp < 16 then s.wreg .TH_TENMAP0 (spDie sp) else s.wreg .TH_TENMAP1 (spDie sp)
  getBits v (4 * i + 2) (4 * i)

/-- A tenancy's guarantee in W times 1,000 (R443). -/
def State.guarantee (s : State) (t : Nat) : Nat := s.wfld fTH_TEN_SHARE t * s.wfld fTH_CAP_BUDGET_W 0

/-- A tenancy's draw exceeds its guarantee. -/
def State.overShare (s : State) (t : Nat) : Bool := decide (s.guarantee t < s.wfld fTH_TEN_DRAW_W t * 1000)

/-- Every twin that is ON, with its temperature. -/
def State.onTwins (s : State) : List (Nat × Nat) :=
  (List.range 48).flatMap fun d => ((List.range 17).filter fun k => s.twinState d k == 2).map fun k => (d, k)

/-- One twin is hotter than another, the lower unit identifier among equals. -/
def State.hotter (s : State) (a b : Nat × Nat) : Bool :=
  let x := s.twinTemp a.1 a.2
  let y := s.twinTemp b.1 b.2
  decide (y < x) || (decide (y = x) && decide (twinUnit a.1 a.2 ≤ twinUnit b.1 b.2))

/-- The throttle order (R443). -/
def State.throttleOrder (s : State) : List (Nat × Nat) :=
  let above := fun (x : Nat × Nat) => (s.slotsOfTwin x.1 x.2).any fun sp => s.overShare (s.tenancyOf sp)
  (s.onTwins.filter above).mergeSort s.hotter ++ (s.onTwins.filter fun x => !above x).mergeSort s.hotter

/-- Twins lose a step each in the throttle order until the excess is met. -/
def State.capWalk : List (Nat × Nat) → Rat → State → State
  | [], _, s => s
  | (d, k) :: l, above, s =>
    if above ≤ 0 then s
    else
      let vid := s.fld fPW_TWIN_CTL_VID d k
      let q := s.lat .duty d k
      if s.fld fPW_TWIN_AVS_FLOOR d k < vid then
        State.capWalk l (above - s.saving d k) ((s.setVid d k (vid - 1)).setFld fTH_TWIN_CAPPED d k 1)
      else if q < 16 then
        State.capWalk l (above - s.saving d k)
          (((s.setLat .duty d k (q + 1)).setLat .vidAsk d k 1).setFld fTH_TWIN_CAPPED d k 1)
      else State.capWalk l above (s.setLat .vidAsk d k 1)

/-- A twin may be raised: lowered and not thermal, not above THROTTLE − HYST, on a die with no twin above THROTTLE. -/
def State.mayRise (s : State) (x : Nat × Nat) : Bool :=
  (s.lat .duty x.1 x.2 != 0 || decide (s.fld fPW_TWIN_CTL_VID x.1 x.2 < s.wfld fTH_SOFT_RUN_VID 0)) &&
    !s.flag fTH_TWIN_THERMAL x.1 x.2 &&
    decide (s.twinTemp x.1 x.2 * 10 ≤ ((s.wfld fTH_SOFT_THROTTLE 0 : Int) - (s.wfld fTH_SOFT_HYST 0 : Int)) * 128) &&
    !(s.hotOrder x.1).any fun k => s.above (s.twinTemp x.1 k)

/-- The coolest twin that may rises by a step. -/
def State.capRise (s : State) : State :=
  match ((s.onTwins.filter s.mayRise).mergeSort s.hotter).getLast? with
  | none => s
  | some (d, k) =>
    let q := s.lat .duty d k
    let t := if q ≠ 0 then (s.setLat .duty d k (q - 1)).setLat .thermDuty d k (min (s.lat .thermDuty d k) (q - 1))
      else s.setVid d k (s.fld fPW_TWIN_CTL_VID d k + 1)
    if t.lat .duty d k = 0 ∧ s.wfld fTH_SOFT_RUN_VID 0 ≤ t.fld fPW_TWIN_CTL_VID d k then t.setFld fTH_TWIN_CAPPED d k 0 else t

/-- The cap controller. -/
def State.capControl (s : State) : State :=
  let p := (s.fld fPW_IN_MEAS_P_IN 62 0 : Int)
  let cap := (s.wfld fTH_CAP_CAP_W 0 : Int) * 1000
  if cap < p then State.capWalk s.throttleOrder ((p - cap : Int) : Rat) s
  else if p - cap < -((s.wfld fTH_SOFT_HEADROOM_W 0 : Int) * 1000) ∧ !s.clamped then s.capRise
  else s

/-! ## Tenancies (R443, R444, Table TH-7) -/

/-- A tenancy's draw in mW: half of each of its in-service spindles' twin. -/
def State.tenDraw (s : State) (t : Nat) : Nat :=
  (s.onTwins.map fun x => ((s.slotsOfTwin x.1 x.2).filter fun sp => s.tenancyOf sp == t).length * s.twinMw x.1 x.2 / 2).sum

/-- The draws are averaged over 1,000 cycles. -/
def State.formDraws (s : State) : State :=
  let t := s.each (List.range 8) fun i u => u.setLat .drawSum i 0 (u.lat .drawSum i 0 + s.tenDraw i)
  if s.lat .drawN 0 0 < 999 then t.setLat .drawN 0 0 (s.lat .drawN 0 0 + 1)
  else
    (t.each (List.range 8) fun i u =>
      (u.setWfld fTH_TEN_DRAW_W i (u.lat .drawSum i 0 / 1000000)).setLat .drawSum i 0 0).setLat .drawN 0 0 0

/-- A twin that brings a tenancy below its power guarantee. -/
def State.powerBreach (s : State) (t : Nat) : Option Nat :=
  if s.suspended || s.forced || !decide (s.wfld fTH_TEN_DRAW_W t * 1000 < s.guarantee t) then none
  else (s.onTwins.find? fun x => (s.flag fTH_TWIN_THERMAL x.1 x.2 || s.lat .thermDuty x.1 x.2 != 0) &&
    (s.slotsOfTwin x.1 x.2).any fun sp => s.tenancyOf sp == t).map fun x => twinUnit x.1 x.2

/-- A tenancy owns a region of a quarry with a block on one of some pseudo-channels. -/
def State.ownsOn (s : State) (d t : Nat) (pcs : List Nat) : Bool :=
  (s.rgnSlots d).any fun k => (s.rgn d k).owner == t && pcs.any fun p => blocksOn p ((s.rgn d k).base - sliceBase d) (s.rgn d k).size != 0

/-- The stack or pseudo-channel that slows a quarry's engine for a tenancy: a hot stack, or a retired channel that is
rebuilt or whose blocks are. -/
def State.gatherBreach (s : State) (t : Nat) : Option Nat :=
  lowest ((List.range' 48 8).flatMap fun d =>
    if s.quarryUp d then
      (((List.range 4).filter fun k => s.lat .hotStack d k != 0 && s.ownsOn d t ((List.range 32).map fun p => 32 * k + p)).map
        fun k => unitId d k) ++
      (((List.range 128).filter fun p => s.flag fQD_PC_RETIRED d p && !s.flag fQD_PC_REBUILT d p && s.ownsOn d t [p]).map
        fun p => pcUnit d p)
    else [])

/-- STATE of a region that lost blocks. -/
def rgnDamaged : Nat := 4

/-- The quarry with a damaged region of a tenancy. -/
def State.capacityBreach (s : State) (t : Nat) : Option Nat :=
  ((List.range' 48 8).find? fun d => s.quarryUp d && (s.rgnSlots d).any fun k => s.rgnState d k == rgnDamaged && (s.rgn d k).owner == t).map
    engineUnit

/-- A guarantee of a tenancy is in breach by a unit, or is not; the event and the message go once per entry (R444). `kind` is
0 power, 1 gather rate, 2 capacity. -/
def State.noteBreach (s : State) (t kind : Nat) (unit : Option Nat) (guar deliv : Nat) : State :=
  let m := s.lat .breached t 0
  match unit with
  | none => s.setLat .breached t 0 (m - (m &&& 2 ^ kind))
  | some u =>
    if m.testBit kind then s
    else
      let x := (s.setLat .breached t 0 (m + 2 ^ kind)).setWfld fTH_TEN_BREACH t (s.wfld fTH_TEN_BREACH t ||| 2 ^ kind)
      (x.wevent (0x4A10 + 16 * kind + t) .warn 0 (guar + deliv * 2 ^ 32 + u * 2 ^ 64)).breachSend t (kind + 1) u guar deliv

/-- The breaches of a tenancy. What the quarry delivered to it is a free value. -/
def State.breaches (s : State) (t : Nat) : State :=
  let x := s.noteBreach t 0 (s.powerBreach t) (s.guarantee t / 1000) (s.wfld fTH_TEN_DRAW_W t)
  let g := x.gatherBreach t
  let d := match g with | some u => u / 1024 | none => 48
  let x := ({ x with free := x.free + 1 } : State).noteBreach t 1 g (x.fld fQD_TEN_RATE d t) (Config.measured 1 t x.free)
  let c := x.capacityBreach t
  let d := match c with | some u => u / 1024 | none => 48
  x.noteBreach t 2 c (x.fld fQD_TEN_CAP_GIB d t) (x.tenUsed d 256 t / 2 ^ 30)

/-! ## The cycle -/

/-- A staged curve is checked, and installed where it is legal, at the cycle's boundary (R449). -/
def State.curveInstall (s : State) : State :=
  if s.lat .curveDue 0 0 = 0 then s
  else
    let s := s.setLat .curveDue 0 0 0
    match (List.range 32).find? (s.badPoint fTH_CURVE_STG_INLET fTH_CURVE_STG_FLOW fTH_CURVE_STG_CAP_W s.aw) with
    | some i => (s.setWfld fTH_CURVE_CMD_RESULT 0 1).setWfld fTH_CURVE_CMD_POINT 0 i
    | none =>
      let t := s.each (List.range 32) fun i t => t.setWreg .TH_CURVE i (t.wreg .TH_CURVE_STG i)
      (t.setWfld fTH_CURVE_CMD_RESULT 0 0).setWfld fTH_CURVE_CMD_POINT 0 0

/-- The cycle after its readings are in. -/
def State.policyCycle (s : State) : State :=
  let t := ((s.curveInstall.readingsInUse.formTemps).formCap.capTooLow).excursion
  let t := t.each ((List.range 48).filter t.dieUp) fun d u => u.throttleDie d
  let t := t.capControl.formDraws
  (t.each (List.range 8) fun i u => u.breaches i).settleAll

/-- POLICY_CYCLE: one cycle of 100 µs with what the front end reads in it. -/
def execPolicyCycle (r : Readings) (s : State) : Out := .next ((s.takeReadings r).policyCycle)

end Sys2Proof.Machine
end

