-- ==== Sys2Proof/Machine/Orders.lean ====
section
/-! DEFINITION. Orders, flow loss, leaks, trips, tenancies, EMERG_N and policy writes (R423 to R425, R434 to R450, R455):
the meanings of their commands. -/

namespace Sys2Proof.Machine

/-! ## Orders (R423 to R425) -/

/-- TH_ORDER_HOST_WRITE: from a host port only; a cap beyond 7,200 W has no effect (R424). -/
def execThOrderHostWrite (m : Master) (v : W64) (s : State) : Out :=
  .next (match m with
    | .host _ =>
      if 7200 < getBits v 15 0 then s.wevent 0x4502 .warn 0 v.toNat
      else
        let t := s.plainWrite .TH_ORDER_HOST s.aw 0 v
        (t.orderArrives 0 (getBits v 25 24) (getBits v 63 32)).formOrder s none
    | _ => s.wardenRefused (regAddr .TH_ORDER_HOST s.aw 0))

/-- The orders that give DRAIN: bit 0 the host's, bit 1 the rack's. -/
def State.draining (s : State) : Nat :=
  (s.wfld fTH_ORDER_HOST_STATE 0 == 1).toNat + 2 * (s.wflag fTH_ORDER_RACK_VALID 0 && s.wfld fTH_ORDER_RACK_STATE 0 == 1).toNat

/-- DRAIN_TIMER_END: the orders that gave DRAIN count as STANDBY from here on (R425). -/
def execDrainTimerEnd (s : State) : Out :=
  .next (if s.lat .drainEnd 0 0 = 0 then s
    else
      let t := (s.setLat .drainEnd 0 0 0).setWfld fTH_STAT_DRAIN 0 0
      (t.setLat .drained 0 0 (t.lat .drained 0 0 ||| t.draining)).formOrder s none)

/-! ## Loss of flow (R434 to R436) -/

/-- The flow check acts in RUN, and in bring-up from the step of the rails on. -/
def State.flowWatched (s : State) : Bool := s.pkgState == 0 || (s.pkgState == 3 && decide (5 ≤ s.wfld fWD_PKG_STAT_STEP 0))

/-- A flow-loss shutdown (R436). Its clamp and its hold of the pumps last until STANDBY (`State.rest`). -/
def State.flowShutdown (s : State) : State := ((s.wevent 0x5103 .fatal 0 0).setLat .shutdownDue 0 0 1).emergDrive 2

/-- Flow loss (R434): the clamp; the pumps follow Table ACT-10; the isolation valves, which a leak latch would close, are
de-energised. -/
def State.flowLoss (s : State) (i : Nat) : State :=
  let again := s.lat .pumpHold 0 0 != 0
  let t := (s.setWfld fTH_STAT_FLOW_LOSS 0 1).event 0x5101 .fault (unitId s.aw (0x144 + i)) 0
  let t := (t.clampOn 1).setLat .lossAt 0 0 s.now
  let t := t.each (List.range 4) fun c u =>
    if (u.wfld fWD_FORCE_LEAK_CLOSE_MASK 0).testBit c && !u.closing u.aw c then u.svOff u.aw c else u
  (if again then t.flowShutdown else t).settleAll

/-- A reading of a flow input is a loss of flow: below LOSS_Q, or fallen by more than FALL_PCT from its highest in FALL_MS. -/
def State.flowLost (s : State) (n q : Nat) : Bool :=
  decide (q < s.wfld fTH_HARD_FLOW_LOSS_Q 0 * 10) || decide (q * 100 < (100 - s.wfld fTH_HARD_FLOW_FALL_PCT 0) * s.flowHigh n)

/-- FLOW_LOSS_DETECT: the evaluation of a flow input that is on, with what it reads as `Readings` has it. -/
def execFlowLossDetect (n x y : Nat) (s : State) : Out :=
  ifUnit (n < 2)
    (if s.flowInputs.contains n && s.wfld fCE_FLOW_CFG_MODE n != 0 then
      let q := s.flowReading n x y
      let t := s.noteFlow n q
      if s.flowWatched && s.flowLost n q && !s.wflag fTH_STAT_FLOW_LOSS 0 then t.flowLoss n else t
    else s)

/-- RESUME_MS has passed since the flow was lost. -/
def State.resumeOver (s : State) : Bool := decide (s.lat .lossAt 0 0 + s.wfld fTH_HARD_FLOW_RESUME_MS 0 * 1000000 < s.now)

/-- FLOW_RESTORED (R435), after 200 ms above RESUME_Q within RESUME_MS: the clamp ends for this cause, and the ramp takes force at the
input power. -/
def execFlowRestored (s : State) : Out :=
  .next (if s.wflag fTH_STAT_FLOW_LOSS 0 && s.lat .shutdownDue 0 0 == 0 && s.flowStood 200000000 && !s.resumeOver then
      let t := ((s.setWfld fTH_STAT_FLOW_LOSS 0 0).setLat .rampCap 0 0 (s.fld fPW_IN_MEAS_P_IN 62 0 / 1000)).setWfld
        fTH_STAT_RECOVERY 0 1
      ((t.setLat .pumpHold 0 0 1).wevent 0x5102 .note 0 0).clampOff 1
    else s)

/-- RAMP_STEP: the ramp leaves force when it reaches the curve cap. -/
def execRampStep (s : State) : Out :=
  .next (if s.wflag fTH_STAT_RECOVERY 0 then
      let r := s.lat .rampCap 0 0 + s.wfld fTH_SOFT_SLEW_W 0
      let t := s.setLat .rampCap 0 0 r
      if s.curveCap (signedOf 32 (s.wfld fTH_IN_USED_INLET 0)) (s.wfld fTH_FLOW_USED_Q 0) ≤ r then t.setWfld fTH_STAT_RECOVERY 0 0
      else t
    else s)

/-- PUMP_HOLD_END. -/
def execPumpHoldEnd (s : State) : Out := .next (s.setLat .pumpHold 0 0 0)

/-- FLOW_LOSS_SHUTDOWN: flow was not restored within RESUME_MS. -/
def execFlowLossShutdown (s : State) : Out :=
  .next (if s.wflag fTH_STAT_FLOW_LOSS 0 && s.lat .shutdownDue 0 0 == 0 && s.resumeOver then s.flowShutdown else s)

/-! ## Leaks (R437, R438, R455, Table ACT-3) -/

/-- A loop's class from its off-phase reading in mV and the resistances of its two driven phases in ohms. -/
def leakClass (eol off r1 r2 : Nat) : Nat :=
  let r := r1 + r2
  if 125 < off ∨ max r1 r2 < (max r1 r2 - min r1 r2) * 10 then 4
  else if r * 50 < 2 * eol then 3
  else if r * 10 < 14 * eol then 1
  else if r ≤ 4 * eol then 0
  else 2

/-- The field of a loop in TH_LEAK. -/
def leakField (k : Nat) : RField := ⟨.TH_LEAK, 4 * k + 3, 4 * k⟩

/-- A loop's class is read: a fault is recorded when it begins, and the time it reads other than DRY runs. -/
def State.leakRead (s : State) (k x : Nat) : State :=
  let fault := fun (c : Nat) => decide (2 ≤ c) && decide (c ≤ 4)
  let t := s.setWfld (leakField k) 0 x
  let n := s.lat .leakMs k 0
  let t := t.setLat .leakMs k 0 (if x = 0 then 0 else if n = 0 then 1 else n + 50)
  if fault x && !fault (s.wfld (leakField k) 0) then t.event 0x5110 .warn (unitId t.aw (0x147 + k)) x else t

/-- LEAK_LOOP_SAMPLE: the end of an excitation cycle of a loop. -/
def execLeakLoopSample (k off r1 r2 : Nat) (s : State) : Out :=
  ifUnit (k < 4)
    (if (s.wfld fTH_HARD_LEAK_USE 0).testBit k then s.leakRead k (leakClass (s.wfld fCE_LEAK_CFG_EOL_OHM k) off r1 r2)
    else (s.setWfld (leakField k) 0 7).setLat .leakMs k 0 0)

/-- A confirmed leak (R438): the latch in both wardens, and the rails. -/
def State.leakConfirm (s : State) (k : Nat) : State :=
  let t := s.setBoth fWD_FORCE_LEAK_LATCH 1
  let t := (t.event 0x5111 .fatal (unitId s.aw (0x147 + k)) (k + s.wfld (leakField k) 0 * 2 ^ 8)).downToStandby
  ((t.setLat .leakDue 0 0 1).setLat .leakRecord 0 0 1).emergDrive 0

/-- LEAK_CONFIRM: a loop in USE has read other than DRY for LEAK_MS; its latest sample is less than 50 ms old. -/
def execLeakConfirm (k : Nat) (s : State) : Out :=
  ifUnit (k < 4)
    (if (s.wfld fTH_HARD_LEAK_USE 0).testBit k && s.lat .leakMs k 0 != 0 && !s.wflag fWD_FORCE_LEAK_LATCH 0 &&
        decide (s.wfld fTH_HARD_LEAK_LEAK_MS 0 ≤ s.lat .leakMs k 0 + 49) then s.leakConfirm k
    else s)

/-! ## Hard limits (R439, R440) -/

/-- A reading exceeds TJ_TRIP. -/
def State.tjOver (s : State) (x : Int) : Bool := decide ((s.wfld fTH_HARD_T_TJ_TRIP 0 : Int) * 128 < x * 10)

/-- The comparators of a hot spot with a delay thermometer: two of three. -/
def State.spotTrips (s : State) (d k : Nat) : Bool :=
  let m := s.lat .ofsFault d k
  let a := s.tjOver (signedOf 16 (s.fld fTH_HS_TEMP_TA d k)) || (s.flag fTH_HS_TEMP_A_FAULT d k && !m.testBit 0)
  let b := s.tjOver (signedOf 16 (s.fld fTH_HS_TEMP_TB d k)) || (s.flag fTH_HS_TEMP_B_FAULT d k && !m.testBit 1)
  let c := s.tjOver (signedOf 16 (s.fld fTH_HS_TEMP_TD d k)) || s.flag fTH_HS_TEMP_D_FAULT d k
  (a && b) || (a && c) || (b && c)

/-- The comparators of a pair without one. -/
def State.pairTrips (s : State) (d k : Nat) : Bool :=
  s.tjOver (signedOf 16 (s.lat .diodeA d k)) || s.tjOver (signedOf 16 (s.lat .diodeB d k)) || s.lat .diodeFault d k == 3

/-- JUNCTION_TRIP at a hot spot. -/
def execJunctionTrip (d k : Nat) (s : State) : Out :=
  ifUnit (isDiodePair d k)
    (if d < 48 then (if s.spotTrips d k then s.trip 1 (unitId d k) else s)
    else if s.pairTrips d k then s.trip 1 (if d < 62 then dieUnit d else unitId d 0) else s)

/-- OUTLET_TRIP at an outlet input. -/
def execOutletTrip (n : Nat) (s : State) : Out :=
  ifUnit (n == 1 || n == 3)
    (if s.outlets.contains n && decide ((s.wfld fTH_HARD_T_OUT_TRIP 0 : Int) * 100 < s.coolMk n) then s.trip 2 (unitId s.aw (0x140 + n))
    else s)

/-! ## Tenancies (R442, R443) -/

/-- The register of half of a die's map. -/
def tenmapReg (half : Nat) : Reg := if half = 0 then .TH_TENMAP0 else .TH_TENMAP1

/-- TH_TENMAP_WRITE: an entry of a spindle that is not HALTED or OFF stays. -/
def execThTenmapWrite (m : Master) (d half : Nat) (v : W64) (s : State) : Out :=
  ifUnit (d < 48 && half < 2) (s.guardedWrite m (tenmapReg half) s.aw d fun t =>
    let old := t.wreg (tenmapReg half) d
    let differs := fun (i : Nat) => getBits v (4 * i + 2) (4 * i) != getBits old (4 * i + 2) (4 * i)
    let free := fun (i : Nat) => [0, 2].contains (t.spState (32 * d + 16 * half + i))
    let new := (List.range 16).foldl (fun (w : W64) i =>
      if differs i && free i then setBits w (4 * i + 2) (4 * i) (getBits v (4 * i + 2) (4 * i)) else w) old
    let u := t.setWreg (tenmapReg half) d new
    if (List.range 16).any fun i => differs i && !free i then u.wevent 0x4602 .warn 0 d else u)

/-- The shares of the other tenancies of warden die `w`. -/
def State.shareSum (s : State) (w t : Nat) : Nat := (((List.range 8).filter (· != t)).map fun i => s.fld fTH_TEN_SHARE w i).sum

/-- TH_TEN_SHARE_WRITE: the shares sum to 1,000 or less. -/
def execThTenShareWrite (m : Master) (t : Nat) (v : W64) (s : State) : Out :=
  ifUnit (t < 8) (s.guardedWrite m .TH_TEN s.aw t fun u =>
    if 1000 < u.shareSum u.aw t + getBits v 9 0 then u.wevent 0x4602 .warn 0 t else u.plainWrite .TH_TEN u.aw t v)

/-! ## EMERG_N (R446, R447) -/

/-- EMERG_IN: ignored while the package itself drives the wire. -/
def execEmergIn (s : State) : Out :=
  .next (if s.wflag fTH_HARD_EMERG_IN_EN 0 && !s.wflag fTH_STAT_EMERG_OUT 0 then
      let t := (s.setWfld fTH_STAT_EMERG_IN 0 1).setWfld fTH_ORDER_EFF_EMERG_HOLD 0 1
      (((t.wevent 0x5120 .fatal 0 0).setLat .orderSince 0 0 0).downToStandby).formOrder s none
    else s)

/-- EMERG_HOLD_CLEAR: EMERG_N has read high for 1 s and an order was written after that. -/
def execEmergHoldClear (s : State) : Out :=
  .next (if s.wflag fTH_ORDER_EFF_EMERG_HOLD 0 && s.lat .orderSince 0 0 != 0 then
      ((s.setWfld fTH_STAT_EMERG_IN 0 0).setWfld fTH_ORDER_EFF_EMERG_HOLD 0 0).formOrder s none
    else s)

/-- EMERG_DRIVE_END. -/
def execEmergDriveEnd (s : State) : Out := .next ((s.setWfld fTH_STAT_EMERG_OUT 0 0).setLat .emergCause 0 0 0)

/-! ## Policy writes (R448 to R450) -/

/-- CURVE_APPLY under seal presence: the staged curve is checked at the next cycle boundary; refused while one waits. -/
def execCurveApply (m : Master) (v : W64) (s : State) : Out :=
  .next (s.guardedWrite m .TH_CURVE_CMD s.aw 0 fun t =>
    if !bitOf v 0 then t
    else if !t.wpOk .TH_CURVE_CMD t.aw 0 v then t.presenceRefused t.aw (regAddr .TH_CURVE_CMD t.aw 0) .seal
    else if t.lat .curveDue 0 0 ≠ 0 then t.setWfld fTH_CURVE_CMD_RESULT 0 2
    else t.setLat .curveDue 0 0 1)

/-- The policy register at an offset of the block, and its index. -/
def policyReg (off : Nat) : Option (Reg × Nat) :=
  match off with
  | 0x100 => some (.TH_SOFT, 0)
  | 0x200 => some (.TH_HARD_T, 0)
  | 0x208 => some (.TH_HARD_FLOW, 0)
  | 0x210 => some (.TH_HARD_LEAK, 0)
  | 0x218 => some (.TH_HARD_EMERG, 0)
  | o => if 0x400 ≤ o ∧ o < 0x500 ∧ o % 8 = 0 then some (.TH_CURVE_STG, (o - 0x400) / 8) else none

/-- A policy register is written: without presence by the rule of R412, out of range with no effect. A loop that leaves USE is
read no more (R437). -/
def State.policyWrite (s : State) (r : Reg) (i : Nat) (v : W64) : State :=
  if s.wpOk r s.aw i v && !policyLegal r v then s.wevent 0x4602 .warn 0 (regAddr r s.aw i)
  else
    let t := s.plainWrite r s.aw i v
    t.each ((List.range 4).filter fun k => !(t.wfld fTH_HARD_LEAK_USE 0).testBit k) fun k u =>
      (u.setWfld (leakField k) 0 7).setLat .leakMs k 0 0

/-- POLICY_REGISTER_WRITE. -/
def execPolicyRegisterWrite (m : Master) (off : Nat) (v : W64) (s : State) : Out :=
  match policyReg off with
  | some x => .next (s.guardedWrite m x.1 s.aw x.2 fun t => t.policyWrite x.1 x.2 v)
  | none => .fault .noSuchUnit

/-! ## Stack temperatures (R445) -/

/-- STACK_TEMPERATURE_READOUT in °C: above 95 the quarry halves the stack's slots, below 90 it restores them. -/
def execStackTemperatureReadout (d stack temp : Nat) (s : State) : Out :=
  ifUnit (decide (48 ≤ d) && decide (d < 56) && decide (stack < 4))
    (if s.dieUp d then
      let t := s.setFld fQD_HBM_TEMP d stack (min temp 255)
      if 95 < temp then t.setLat .hotStack d stack 1 else if temp < 90 then t.setLat .hotStack d stack 0 else t
    else s)

end Sys2Proof.Machine
end

