-- ==== Sys2Proof/Machine/HostPort.lean ====
section
/-! DEFINITION. The meanings of the host-port commands (R269, R270, R273 to R277): resets and links, the four DMA
channels of a port. -/

namespace Sys2Proof.Machine

/-- A host port that exists. -/
def isHostPort (port : Nat) : Bool := decide (port < 2)

/-- PCIE1_PERST_N asserted (R269). -/
def execPcie1Perst (s : State) : Out := .next ((s.setLat .perst 1 0 1).hostPortReset 1 1)

/-- A hot reset or a link disable (R269). -/
def execPcieHotReset (port : Nat) (s : State) : Out := ifUnit (isHostPort port) (s.hostPortReset port 5)

/-- The STATUS words of a port's moving descriptors that stop: ABORTED (R276, Table LNK-3), channel by channel. -/
def State.dmaAborted (s : State) (port : Nat) : List Byte :=
  (List.range 4).flatMap fun c => (s.dmaMoving port c).flatMap fun _ => leBytes 2 5

/-- A Function Level Reset (R269, R276, R405); `link` where the link still allows the writes of STATUS, which the command answers. -/
def execFunctionLevelReset (port : Nat) (link : Bool) (s : State) : Out :=
  ifUnit (isHostPort port)
    (let t := s.dmaAbort port link
    let t := t.setReg .HI_BAR2_BASE 60 port (regReset .HI_BAR2_BASE 60 port)
    let t := ((t.setFld fHI_LINK_STAT_DEGRADED 60 port 0).linkChange s port)
    (t.freeLocks fun o => o == 0x8000 + port).answer .ok (if link then s.dmaAborted port else []))

/-- A host link has trained (R270): not while its PERST_N is asserted. -/
def execHostLinkTrained (port width speed : Nat) (flit : Bool) (s : State) : Out :=
  ifUnit (isHostPort port)
    (if s.lat .perst port 0 ≠ 0 ∨ !s.dieUp 60 then s
    else
      let t := (((s.setFld fHI_LINK_STAT_UP 60 port 1).setFld fHI_LINK_STAT_WIDTH 60 port width).setFld
        fHI_LINK_STAT_SPEED 60 port speed).setFld fHI_LINK_STAT_FLIT 60 port flit.toNat
      let t := if width < 16 ∨ speed < 6 then (t.setFld fHI_LINK_STAT_DEGRADED 60 port 1).event 0x3302 .warn (hostUnit port) 0 else t
      t.linkChange s port)

/-! ## DMA channels (R273 to R276, Tables LNK-2, LNK-3, LNK-6) -/

/-- HI_DMA_CTL written (Table LNK-6, R276). -/
def State.dmaCtlWrite (s : State) (port c : Nat) (v : W64) : State :=
  let log2 := getBits v 20 16
  let t := s.setDmaFld fHI_DMA_CTL_LOG2 port c log2
  let t := if bitOf v 3 then t.setDmaFld fHI_DMA_CTL_ERR port c 0 else t
  if bitOf v 0 then
    if 1 ≤ log2 ∧ log2 ≤ 16 then t.setDmaFld fHI_DMA_CTL_ENABLE port c 1
    else (t.setDmaFld fHI_DMA_CTL_ENABLE port c 0).event 0x3304 .fault (hostUnit port) c
  else t.setDmaFld fHI_DMA_CTL_ENABLE port c 0

/-- HI_DMA_CTL written with ENABLE 1. -/
def execHostDmaEnable (port c : Nat) (v : W64) (s : State) : Out :=
  ifUnit (isHostPort port && c < 4) (if bitOf v 0 then s.toDie 60 fun t => t.dmaCtlWrite port c v else s)

/-- HI_DMA_CTL written with ENABLE 0. -/
def execHostDmaDisable (port c : Nat) (v : W64) (s : State) : Out :=
  ifUnit (isHostPort port && c < 4) (if bitOf v 0 then s else s.toDie 60 fun t => t.dmaCtlWrite port c v)

/-- HI_DMA_HEAD written. -/
def execHostDmaHeadWrite (port c : Nat) (v : W64) (s : State) : Out :=
  ifUnit (isHostPort port && c < 4) (s.toDie 60 fun t => t.setDmaFld fHI_DMA_HEAD_INDEX port c (getBits v 15 0))

/-- Descriptors posted in a channel's ring. -/
def State.dmaPosted (s : State) (port c : Nat) : Nat :=
  let n := 2 ^ s.dmaFld fHI_DMA_CTL_LOG2 port c
  (s.dmaFld fHI_DMA_HEAD_INDEX port c % n + n - s.dmaFld fHI_DMA_TAIL_INDEX port c % n) % n

/-- A channel takes the next posted descriptor and starts moving it (R273). -/
def execHostDmaDescStart (port c : Nat) (desc : W256) (s : State) : Out :=
  ifUnit (isHostPort port && c < 4)
    (if s.dieUp 60 ∧ s.dmaFld fHI_DMA_CTL_ENABLE port c = 1 ∧ (s.dmaMoving port c).length < s.dmaPosted port c then
      (s.setDmaMoving port c (s.dmaMoving port c ++ [desc])).setDmaFld fHI_DMA_CTL_IDLE port c 0
    else s)

/-- HOST_ADDR. -/
def dmaHostAddr (w : W256) : Nat := bitsOf w 63 0
/-- SYS_ADDR. -/
def dmaSysAddr (w : W256) : Nat := bitsOf w 127 64
/-- DBTARGET. -/
def dmaTarget (w : W256) : W64 := BitVec.ofNat 64 (bitsOf w 191 128)
/-- LEN. -/
def dmaLen (w : W256) : Nat := bitsOf w 223 192
/-- FLAGS.DIR: the package to the host. -/
def dmaToHost (w : W256) : Bool := bitOf w 224
/-- FLAGS.IRQ. -/
def dmaIrq (w : W256) : Bool := bitOf w 225
/-- FLAGS.DBE. -/
def dmaDbe (w : W256) : Bool := bitOf w 226
/-- FLAGS.DBBIT. -/
def dmaDbbit (w : W256) : Nat := bitsOf w 231 227

/-- A descriptor breaks Table LNK-2 (BAD_DESC). -/
def dmaBad (w : W256) : Bool :=
  bitsOf w 239 232 != 0 ||
    (if dmaDbe w then !dbForm (dmaTarget w) else dmaTarget w != 0 || dmaDbbit w != 0)

/-- The code a package access's status gives (Table LNK-3). -/
def dmaCode : Status → Nat
  | .ok => 1
  | .unsupported | .addressFault => 2
  | _ => 3

/-- The oldest moving descriptor of a channel ends with a STATUS code (R273 to R275); `bs` are bytes for the host's memory. The
answer is what the host sees: those bytes, then STATUS. -/
def State.dmaEnd (s : State) (port c code : Nat) (w : W256) (rest : List W256) (bs : List Byte) : State :=
  let t := s.setDmaMoving port c rest
  let t := t.setDmaFld fHI_DMA_TAIL_INDEX port c (t.ringAdd port c (t.dmaFld fHI_DMA_TAIL_INDEX port c) 1)
  let t := if code = 1 then (if dmaIrq w then t.raiseMsix port (2 + c) else t) else t.dmaFail port c
  let t := if rest.isEmpty ∧ t.dmaFld fHI_DMA_CTL_ENABLE port c = 1 then t.setDmaFld fHI_DMA_CTL_IDLE port c 1 else t
  t.answer .ok (bs ++ leBytes 2 code)

/-- After ENABLE was cleared the last moving descriptor has finished: IDLE (R276). -/
def execHostDmaIdle (port c : Nat) (s : State) : Out :=
  ifUnit (isHostPort port && c < 4)
    (if s.dmaFld fHI_DMA_CTL_ENABLE port c = 0 ∧ (s.dmaMoving port c).isEmpty then s.setDmaFld fHI_DMA_CTL_IDLE port c 1 else s)

/-! ## HI_PKG_NUM and HI_BAR2_BASE (R42, R277) -/

/-- HI_PKG_NUM written (R277): refused while a warp port is ACTIVE. -/
def execHiPkgNumWrite (port : Nat) (v : W64) (s : State) : Out :=
  ifUnit (isHostPort port) (s.toDie 60 fun t =>
    if (List.range 16).any fun p => t.wpFld fWP_PORT_STAT_STATE p == 4 then t.event 0x3303 .warn (hostUnit port) 0
    else t.setFld fHI_PKG_NUM_NUM 60 0 (getBits v 11 0))

/-- HI_BAR2_BASE written (R42): requests received after it are translated with the new base. -/
def execHiBar2BaseWrite (port : Nat) (v : W64) (s : State) : Out :=
  ifUnit (isHostPort port) (s.toDie 60 fun t => t.setReg .HI_BAR2_BASE 60 port (v &&& (maskOf 63 36 ||| 1)))

end Sys2Proof.Machine
end

