-- ==== Sys2Proof/Machine/Mailbox.lean ====
section
/-! DEFINITION. Mailbox pairs (R392 to R401, Tables WD-6 to WD-11): sides and who may use them, doorbells, posts, waits
and their crossing, acknowledgements, receiver resets. Pair 0 is HOST↔WD-A, 1 HOST↔WD-B, 2 WD-A↔WD-B, 3 + d CDd↔active
warden; `low` names the side of lower rank. -/

namespace Sys2Proof.Machine

/-- A pair that exists. -/
def isPair (pair : Nat) : Bool := decide (pair < 51)

/-- The unit of a pair in events (Table WD-2). -/
def mbUnit (pair : Nat) : Nat := if pair < 2 then 0x010 else if pair = 2 then 0x011 else 0x020 + (pair - 3)

/-- A side of a pair. -/
def State.mbSide (s : State) (pair : Nat) (low : Bool) : Side :=
  if pair < 3 then s.side (2 * pair + low.toNat) else sget Side.zero s.sticky.sides (2 * (pair - 3) + low.toNat)

/-- Set a side of a pair. -/
def State.setMbSide (s : State) (pair : Nat) (low : Bool) (x : Side) : State :=
  if pair < 3 then s.setSide (2 * pair + low.toNat) x
  else s.updSticky fun k => { k with sides := sset Side.zero k.sides (2 * (pair - 3) + low.toNat) x }

/-- A master may use a side (R392). -/
def State.mbMay (s : State) (m : Master) (pair : Nat) (low : Bool) : Bool :=
  if pair < 2 then
    match m with
    | .host _ => low
    | .warden w => !low && w == pair
    | _ => false
  else if pair = 2 then (match m with | .warden w => w == low.toNat | _ => false)
  else low || s.isActive m

/-! ## Doorbells (R396, R401) -/

/-- Flow is proven (R542): the package is in RUN, or past the step "Cooling established". -/
def State.flowProven (s : State) : Bool :=
  s.wfld fWD_PKG_STAT_STATE 0 == 0 || (s.wfld fWD_PKG_STAT_STATE 0 == 3 && decide (5 ≤ s.wfld fWD_PKG_STAT_STEP 0))

/-- A doorbell wakes a compute die whose rails are open (R401): after flow is proven, and never one that tripped or is
retired. -/
def State.wakeDie (s : State) (d : Nat) : State :=
  if s.flag fPW_DIE_ISO_ON 62 d || !s.wakePhase d || s.flag fPW_DIE_ISO_TRIP 62 d || s.lat .dieRetired d 0 != 0 then s
  else if s.flowProven then
    let t := (s.setLat .wakeDue d 0 0).railsClose d
    t.twinOn d (t.twinOf (32 * d + bitsOf (t.mbSide (3 + d) true).cfg 4 0))
  else s.setLat .wakeDue d 0 1

/-- Doorbell bits are set toward a side. -/
def State.mbBell (s : State) (pair : Nat) (low : Bool) (bits : W32) : State :=
  if pair < 2 ∧ low then s.hostDoorbell pair bits
  else
    let x := s.mbSide pair low
    let t := s.setMbSide pair low { x with db := x.db ||| bits }
    if 3 ≤ pair ∧ low then
      let t := if x.db &&& x.mask = 0 then t.cdDeliver (pair - 3) else t
      if bits = 0 then t else t.wakeDie (pair - 3)
    else t

/-- Software's doorbell bits (Table WD-8). -/
def softBits (x : W32) : W32 := x &&& 0xFFFFFFE0

/-! ## Posts and waits (R393 to R395, R397, R399) -/

/-- The LEN of a slot (Table WD-7). -/
def Side.len (x : Side) : Nat := leValue (sgetList 0 x.slot 2 2)

/-- A receiving side is gone (R399): its warden is held in reset, or its compute die cannot be reached. -/
def State.sideGone (s : State) (pair : Nat) (low : Bool) : Bool :=
  if pair < 2 then !low && s.lat .wardenHeld (62 + pair) 0 != 0
  else if pair = 2 then s.lat .wardenHeld (62 + low.toNat) 0 != 0
  else low && !s.dieUp (pair - 3)

/-- A refusal at a side (R393, R394). -/
def State.mbRefuse (s : State) (pair : Nat) (low : Bool) : State :=
  (s.setMbSide pair low { s.mbSide pair low with refused := true }).wevent 0x7112 .warn (mbUnit pair) low.toNat

/-- A side's wait ends (R395): DONE toward itself. -/
def State.mbEndWait (s : State) (pair : Nat) (low : Bool) (w : Nat) : State :=
  (s.setMbSide pair low { s.mbSide pair low with wstat := w }).mbBell pair low 2

/-- Two sides cross (R397): the wait of the lower rank ends. -/
def State.mbCross (s : State) (pair : Nat) : State :=
  let h := s.mbSide pair false
  let l := s.mbSide pair true
  if h.outStatus = 1 ∧ l.outStatus = 1 ∧ h.wstat = 1 ∧ l.wstat = 1 then
    (s.mbEndWait pair true 3).wevent 0x7110 .note (mbUnit pair) 0
  else s

/-- A post is accepted. -/
def State.mbCanPost (s : State) (pair : Nat) (low : Bool) : Bool :=
  (s.mbSide pair low).outStatus != 1 && decide ((s.mbSide pair low).len ≤ 240)

/-- An accepted post (R393, R399), with its wait where `wait` holds. -/
def State.mbPost (s : State) (pair : Nat) (low wait : Bool) : State :=
  let x := s.mbSide pair low
  if s.sideGone pair (!low) then
    (s.setMbSide pair low { x with outStatus := 3, wstat := if wait then 4 else x.wstat }).mbBell pair low 2
  else
    ((s.setMbSide pair low { x with outStatus := 1, wstat := if wait then 1 else x.wstat }).mbBell pair (!low) 1).mbCross pair

/-- The receiver acknowledges (R394, R395). -/
def State.mbAck (s : State) (pair : Nat) (low : Bool) (r : W32) : State :=
  let o := s.mbSide pair (!low)
  if o.outStatus = 1 then
    (s.setMbSide pair (!low) { o with slot := ssetList 0 o.slot 8 (leBytes 4 r.toNat), outStatus := 2, wstat := if o.wstat = 1 then 2 else o.wstat }).mbBell
      pair (!low) 2
  else s.mbRefuse pair low

/-- Bytes written to an outbound slot, apart from bytes 8 to 15 (R393). -/
def Side.putSlot (x : Side) (off : Nat) (bs : List Byte) : Side :=
  { x with slot := bs.zipIdx.foldl (fun (m : SMap Byte) (b : Byte × Nat) =>
      if 8 ≤ off + b.2 ∧ off + b.2 < 16 then m else sset 0 m (off + b.2) b.1) x.slot }

/-- The receiver reset RESET_IN makes (Table WD-9): of a host side or a compute-die side. -/
def State.mbReset (s : State) (pair : Nat) (low : Bool) : State :=
  if low && pair < 2 then s.resetSide (2 * pair + 1) else if low && 3 ≤ pair then s.resetCdSide (pair - 3) else s

/-! ## The commands -/

/-- A mailbox command at a side (R392): a compute-die side is reached through its die's window. -/
def mbCommand (m : Master) (pair : Nat) (low : Bool) (s : State) (f : State → State) : Out :=
  ifUnit (isPair pair)
    (if !s.mbMay m pair low then s.wevent 0x7113 .warn (mbUnit pair) low.toNat
    else if low && 3 ≤ pair then s.toDie (pair - 3) f
    else f s)

/-- MB_OUT written. -/
def execMbOutWrite (m : Master) (pair : Nat) (low : Bool) (off : Nat) (data : List Byte) (s : State) : Out :=
  mbCommand m pair low s fun t =>
    if 256 < off + data.length then t
    else if (t.mbSide pair low).outStatus = 1 then t.mbRefuse pair low
    else t.setMbSide pair low ((t.mbSide pair low).putSlot off data)

/-- MB_CMD POST. -/
def execMbPost (m : Master) (pair : Nat) (low : Bool) (s : State) : Out :=
  mbCommand m pair low s fun t => if t.mbCanPost pair low then t.mbPost pair low false else t.mbRefuse pair low

/-- MB_CMD WAIT: ignored unless the message is POSTED. -/
def execMbWait (m : Master) (pair : Nat) (low : Bool) (s : State) : Out :=
  mbCommand m pair low s fun t =>
    if (t.mbSide pair low).outStatus = 1 then (t.setMbSide pair low { t.mbSide pair low with wstat := 1 }).mbCross pair else t

/-- MB_CMD POST_WAIT. -/
def execMbPostWait (m : Master) (pair : Nat) (low : Bool) (s : State) : Out :=
  mbCommand m pair low s fun t => if t.mbCanPost pair low then t.mbPost pair low true else t.mbRefuse pair low

/-- MB_CMD RESET_IN. -/
def execMbResetIn (m : Master) (pair : Nat) (low : Bool) (s : State) : Out :=
  mbCommand m pair low s fun t => t.mbReset pair low

/-- MB_ACK written. -/
def execMbAck (m : Master) (pair : Nat) (low : Bool) (x : W32) (s : State) : Out :=
  mbCommand m pair low s fun t => t.mbAck pair low x

/-- MB_DB_OUT written (R396). -/
def execMbDbOutWrite (m : Master) (pair : Nat) (low : Bool) (x : W32) (s : State) : Out :=
  mbCommand m pair low s fun t => t.mbBell pair (!low) (softBits x)

end Sys2Proof.Machine
end

