-- ==== Sys2Proof/Machine/Warden.lean ====
section
/-! DEFINITION. The meanings of the wardens' commands: roles, mirror, watchdog, leak latch, die phases, locks
(R381 to R391, R400, R402 to R405). -/

namespace Sys2Proof.Machine

/-! ## Roles (R381 to R386) -/

/-- A warden that becomes the standby after a restart discards its sticky block and records (R386); the leak latch stays, in the
watchdog domain (R391). -/
def State.discardCopy (s : State) (o : Nat) : State :=
  let t := s.each s.regs fun kv u =>
    let a := Nat.unpair kv.1
    let b := Nat.unpair a.2
    match regOfId a.1 with
    | some r =>
      if b.1 = o ∧ (regDesc r).place.dLo = 62 ∧ (regDesc r).place.shared = false ∧ r ≠ .WD_FORCE_LEAK then
        u.setReg r o b.2 ((kv.2 &&& ~~~(mirrorMask r)) ||| (regReset r o b.2 &&& mirrorMask r))
      else u
    | none => u
  (t.setStickyOf o ⟨[], [], [], []⟩).setLat .restarted o 0 0

/-- WD_ROLE written: HEALTHY is honoured from that warden's own core only (R382); it may give the role (R383). -/
def State.healthyWrite (s : State) (w : Nat) (on : Bool) : State :=
  let d := 62 + w
  if s.lat .wardenHeld d 0 ≠ 0 ∨ (on ∧ s.lat .noFirmware d 0 ≠ 0) then s
  else
    let t := s.setFld fWD_ROLE_HEALTHY d 0 on.toNat
    if on then
      let t := t.setLat .fwSince d 0 0
      if t.flag fWD_ROLE_ACTIVE d 0 then t
      else if !t.flag fWD_ROLE_ACTIVE (otherWarden d) 0 then (t.setFld fWD_ROLE_ACTIVE d 0 1).tbRole d (otherWarden d) false
      else if t.flag fWD_ROLE_HEALTHY (otherWarden d) 0 && t.lat .restarted d 0 != 0 then t.discardCopy d
      else t.checkRole
    else if t.flag fWD_ROLE_ACTIVE d 0 then (t.forcedBegin d).checkRole else t

/-- HEALTHY_WRITE. -/
def execHealthyWrite (m : Master) (w : Nat) (v : W64) (s : State) : Out :=
  ifUnit (w < 2) (if m = .warden w then s.healthyWrite w (bitOf v 8) else s)

/-- WARDEN_TAKEOVER. -/
def execWardenTakeover (s : State) : Out := .next s.checkRole

/-- WD_ROLE_CMD.HANDOVER (R384): both HEALTHY bits stay; the old active warden holds the same copy. It waits while a
solenoid channel is in WAIT, PEAK or RECOVER, and a channel in HOLD passes over (R479). -/
def State.handover (s : State) : State :=
  let a := s.aw
  let o := otherWarden a
  let busy := (List.range 4).any fun c => [1, 2, 4].contains (s.fld fSV_STAT_PHASE a c)
  let held := (List.range 4).filter fun c => s.fld fSV_STAT_PHASE a c == 3
  if !(s.flag fWD_ROLE_HEALTHY o 0 && s.flag fWD_ROLE_MIRROR_OK a 0) then
    (s.setLat .handoverDue 0 0 0).wevent 0x7106 .warn 0x004 0
  else if busy then s.setLat .handoverDue 0 0 1
  else
    let t := (((s.setFld fWD_ROLE_ACTIVE a 0 0).setFld fWD_ROLE_ACTIVE o 0 1).setFld fWD_ROLE_MIRROR_OK a 0 0).setFld
      fWD_ROLE_MIRROR_OK o 0 1
    let t := t.each held fun c u =>
      ((u.setFld fSV_STAT_PHASE o c 3).setFld fSV_CMD_ON o c (s.fld fSV_CMD_ON a c)).setFld fSV_STAT_PHASE a c 0
    let t := t.setLat .handoverDue 0 0 0
    (t.hostDoorbell (o - 62) 8).tbRole o a t.forced

/-- HANDOVER. -/
def execHandover (m : Master) (v : W64) (s : State) : Out :=
  .next (if bitOf v 0 then s.guardedWrite m .WD_ROLE_CMD s.aw 0 State.handover else s)

/-- The mirrored bits of the registers of warden die `o` take the active warden's values (R386). -/
def State.copyMirror (s : State) (o : Nat) : State :=
  let t := s.each s.regs fun kv u =>
    let a := Nat.unpair kv.1
    let b := Nat.unpair a.2
    match regOfId a.1 with
    | some r => if b.1 = o ∧ (regDesc r).place.dLo = 62 then u.setReg r o b.2 ((u.reg r o b.2 &&& ~~~(mirrorMask r)) ||| (s.reg r s.aw b.2 &&& mirrorMask r)) else u
    | none => u
  let t := t.each s.regs fun kv u =>
    let a := Nat.unpair kv.1
    let b := Nat.unpair a.2
    match regOfId a.1 with
    | some r => if b.1 = s.aw ∧ (regDesc r).place.dLo = 62 ∧ (regDesc r).place.shared = false then u.setReg r o b.2 ((u.reg r o b.2 &&& ~~~(mirrorMask r)) ||| (kv.2 &&& mirrorMask r)) else u
    | none => u
  t.setStickyOf o s.sticky

/-- A restarted standby holds a full copy (R386). -/
def execMirrorCopyDone (s : State) : Out :=
  .next (if s.flag fWD_ROLE_ACTIVE s.aw 0 ∧ s.lat .wardenHeld (otherWarden s.aw) 0 = 0 then
      ((s.copyMirror (otherWarden s.aw)).setFld fWD_ROLE_MIRROR_OK s.aw 0 1).setLat .restarted (otherWarden s.aw) 0 0
    else s)

/-! ## The watchdog (R387, R388) -/

/-- A warden's watchdog expires (R388). -/
def State.watchdogExpire (s : State) (w : Nat) : State :=
  let d := 62 + w
  if s.lat .wardenHeld d 0 ≠ 0 then s
  else
    let t := s.satFld fWD_WDOG_STAT_EXPIRIES d 0 1
    let t := (t.setLat .kicked d 0 0).wdr d 2
    t.occur 0x10 (unitId d 0)

/-- WD_WDOG_KICK written: by the warden's own core, else ignored (R387). -/
def execWatchdogKick (m : Master) (w : Nat) (v : W64) (s : State) : Out :=
  ifUnit (w < 2)
    (if m ≠ .warden w ∨ s.lat .wardenHeld (62 + w) 0 ≠ 0 then s
    else if getBits v 31 0 = 0xC3 then s.setLat .kicked (62 + w) 0 1
    else if getBits v 31 0 = 0x3C ∧ s.lat .kicked (62 + w) 0 = 1 then
      ((s.setLat .kicked (62 + w) 0 0).setFld fWD_WDOG_STAT_REMAIN_MS (62 + w) 0 500).setLat .kickAt (62 + w) 0 s.now
    else s.watchdogExpire w)

/-- WATCHDOG_EXPIRE. -/
def execWatchdogExpire (w : Nat) (s : State) : Out := ifUnit (w < 2) (s.watchdogExpire w)

/-! ## The leak latch (R391, R533) -/

/-- The flash key of the leak record. -/
def leakKey : Nat := 100

/-- The key of the bytes a flash program is writing (R540). -/
def stageKey : Nat := 101

/-- A leak latch set while the forced state holds changes its outputs at once (R391): channels and valves, and the rails of
every compute die. -/
def State.leakForced (w : Nat) (s : State) : State := (s.forcedBegin w).each (List.range 48) fun d t => t.railsOpen d 2

/-- WD_FORCE_LEAK written (Table WD-4): LATCH is set by the active warden only; UNLATCH under seal presence clears it and
erases the leak record. -/
def State.leakWrite (s : State) (m : Master) (d : Nat) (v : W64) : State :=
  let w := if s.isActive m then v else v &&& ~~~(maskOf 31 31)
  let un := bitOf w 30 && s.shown d .seal
  let was := s.flag fWD_FORCE_LEAK_LATCH d 0
  let t := s.plainWrite .WD_FORCE_LEAK d 0 w
  let t := if !was && t.flag fWD_FORCE_LEAK_LATCH d 0 then (t.setLat .leakRecord 0 0 1).iff t.forced (State.leakForced d) else t
  let t := if bitOf w 30 then t.putFld fWD_FORCE_LEAK_UNLATCH d 0 0 else t
  if un then { t.putFld fWD_FORCE_LEAK_LATCH d 0 0 with flash := sset [] t.flash leakKey [] } else t

/-- LEAK_UNLATCH: a write with UNLATCH 1 in the active warden's window. -/
def execLeakUnlatch (m : Master) (v : W64) (s : State) : Out :=
  .next (if bitOf v 30 then s.guardedWrite m .WD_FORCE_LEAK s.aw 0 fun t => t.leakWrite m t.aw v else s)

/-! ## Die phases (R400) -/

/-- A die holds a member of an enrolled unit. -/
def State.holdsMember (s : State) (d : Nat) : Bool :=
  (List.range 256).any fun i =>
    s.wfld fWD_EP_ENT0_STATE i != 0 && (s.entryMembers i).any fun m => spDie m.2 == d

/-- A host's write of a phase is honoured (R400): TEST and back, in SERVICE or TEST, with no enrolled member. -/
def State.phaseOk (s : State) (d x : Nat) : Bool :=
  let p := s.wfld fWD_DIE_PHASE_PHASE d
  (x == 0 || x == 2) && (p == 0 || p == 2) && (x == 0 || !s.holdsMember d)

/-- WD_DIE_PHASE written: the active warden keeps the phases; a host sets and clears TEST. -/
def execWdDiePhaseWrite (m : Master) (d : Nat) (v : W64) (s : State) : Out :=
  ifUnit (d < 64) (s.guardedWrite m .WD_DIE_PHASE s.aw d fun t =>
    match m with
    | .host _ =>
      if t.phaseOk d (getBits v 1 0) then t.setWfld fWD_DIE_PHASE_PHASE d (getBits v 1 0)
      else t.wevent 0x7114 .warn 0 d
    | _ => t.setWfld fWD_DIE_PHASE_PHASE d (getBits v 1 0))

/-! ## Locks (R402 to R405, Tables WD-13, WD-14) -/

/-- The owner code of a master (Table WD-13). -/
def ownerCode : Master → Option Nat
  | .spindle sp => if sp < nSpindles then some (ownerSpindle sp) else none
  | .host p => if p < 2 then some (0x8000 + p) else none
  | .warden w => if w < 2 then some (0x8010 + w) else none
  | .hw => none

/-- A read of a lock (R402): a free one is taken. -/
def State.lockRead (s : State) (me i : Nat) : State :=
  let o := s.wfld fLK_LOCK_OWNER i
  if o = 0 then (s.setWfld fLK_LOCK_OWNER i me).answer .ok (leBytes 8 (me * 2 ^ 16 + 1))
  else s.answer .ok (leBytes 8 (o * 2 ^ 16))

/-- LOCK_READ. -/
def execLockRead (m : Master) (n : Nat) (s : State) : Out :=
  ifUnit (n < 64) (match ownerCode m with | some me => s.lockRead me n | none => s.answer .ok (leBytes 8 0))

/-- A write to a lock (R402): the holder frees it. -/
def State.lockWrite (s : State) (me i : Nat) : State :=
  if s.wfld fLK_LOCK_OWNER i = me then s.setWfld fLK_LOCK_OWNER i 0 else s.wevent 0x7120 .warn 0x060 (i + me * 2 ^ 32)

/-- LOCK_WRITE. -/
def execLockWrite (m : Master) (n : Nat) (s : State) : Out :=
  ifUnit (n < 64) (match ownerCode m with | some me => s.lockWrite me n | none => s)

/-- LK_FORCE written by the active warden (R405); by another master it has no effect and is recorded (R379). -/
def execLkForce (m : Master) (v : W64) (s : State) : Out :=
  .next (if s.isActive m then
      s.each ((List.range 64).filter fun i => bitOf v i && s.wfld fLK_LOCK_OWNER i != 0) fun i t =>
        (t.setWfld fLK_LOCK_OWNER i 0).wevent 0x7122 .warn 0x060 (i + s.wfld fLK_LOCK_OWNER i * 2 ^ 32)
    else s.wardenRefused (regAddr .LK_FORCE s.aw 0))

end Sys2Proof.Machine
end

