-- ==== Sys2Proof/Machine/Recorder.lean ====
section
/-! DEFINITION. The meanings of the recorder's, presence and field-fuse commands (R406 to R417). -/

namespace Sys2Proof.Machine

/-! ## The recorder (R407 to R411) -/

/-- A severity of its code. -/
def Sev.ofCode : Nat → Sev
  | 0 => .note | 1 => .warn | 2 => .fault | _ => .fatal

/-- EVENT_RECORD: an occurrence reaches the recorder. -/
def execEventRecord (code sev unit payload : Nat) (s : State) : Out :=
  ifUnit (code < 65536 && sev < 4 && unit < 65536) (s.event code (.ofCode sev) unit (payload % 2 ^ 128))

/-- The recorder is emptied in both wardens (R409): every bucket is full again, and forwarding starts over
(R519). -/
def State.clearRecorder (s : State) : State :=
  let t := s.resetRegs (fun r _ _ => r == .EV_LIMIT1 || r == .EV_STAT) fun _ => false
  let t := t.resetLats fun n _ _ => n == latId .evDeficit || n == latId .evSkipped
  let t := (t.setFld fTB_FWD_PTR 62 0 0).setFld fTB_FWD_PTR 63 0 0
  { t with stickyA := { t.stickyA with records := [] }, stickyB := { t.stickyB with records := [] } }

/-- EV_CTL written with CLEAR (R409, R412). -/
def execRecorderClear (m : Master) (v : W64) (s : State) : Out :=
  .next (if bitOf v 0 then
      s.guardedWrite m .EV_CTL s.aw 0 fun t =>
        let ok := t.shown t.aw .button
        let u := (t.plainWrite .EV_CTL t.aw 0 v).setWfld fEV_CTL_CLEAR 0 0
        if ok then u.clearRecorder.wevent 0x7131 .note 0x002 0 else u
    else s)

/-- EV_LIMIT written (R411): its bucket is full (R407). -/
def execEvLimitWrite (m : Master) (n : Nat) (v : W64) (s : State) : Out :=
  ifUnit (n < 1024) (s.guardedWrite m .EV_LIMIT0 s.aw n fun t =>
    if t.limitBad t.aw n v then t.wevent 0x7134 .warn 0x002 n
    else ((t.setWreg .EV_LIMIT0 n v).setLat .evDeficit 0 n 0).setLat .evLast 0 n t.now)

/-! ## Presence (R413, R414) -/

/-- Set a field of FS_PRES in both wardens. -/
def State.setPres (s : State) (f : RField) (x : Nat) : State := (s.setFld f 62 0 x).setFld f 63 0 x

/-- PRESENCE_N is asserted (R413); `rested` where it had been deasserted for 1 s. -/
def execPresenceButton (rested : Bool) (s : State) : Out :=
  .next (if s.flag fFS_PRES_BTN_STUCK s.aw 0 && !rested then s
    else ((((s.setPres fFS_PRES_BTN_STUCK 0).setPres fFS_PRES_BUTTON 1).setPres fFS_PRES_BTN_REMAIN 120).setLat .btnAt 0 0
      s.now).wevent 0x7161 .note 0x003 0)

/-- The button window ends (R413). -/
def execButtonWindowEnd (s : State) : Out := .next ((s.setPres fFS_PRES_BUTTON 0).setPres fFS_PRES_BTN_REMAIN 0)

/-- PRESENCE_N stays asserted beyond 10 s (R413). -/
def execButtonStuck (s : State) : Out :=
  .next ((((s.setPres fFS_PRES_BTN_STUCK 1).setPres fFS_PRES_BUTTON 0).setPres fFS_PRES_BTN_REMAIN 0).wevent 0x7165 .warn 0x003 0)

/-- The seal counter of warden die `w` counts an opening (R415): not while that warden is held in reset. -/
def State.sealCount (s : State) (w : Nat) : State :=
  if s.lat .wardenHeld w 0 ≠ 0 then s
  else
    let f := if w = 62 then fFS_SEAL_CNT_CNT_A else fFS_SEAL_CNT_CNT_B
    (s.satFld f 62 0 1).satFld f 63 0 1

/-- The larger of the two counts. -/
def State.sealCnt (s : State) : Nat := max (s.fld fFS_SEAL_CNT_CNT_A 62 0) (s.fld fFS_SEAL_CNT_CNT_B 62 0)

/-- The debounced seal loop reads 0 CLOSED, 1 OPEN or 2 FAULT (R414, R415). -/
def execSealLoopChange (reading : Nat) (s : State) : Out :=
  ifUnit (reading < 3)
    (let old := s.fld fFS_PRES_SEAL s.aw 0
    if reading = old then s
    else
      let t := s.setPres fFS_PRES_SEAL reading
      match reading with
      | 0 => if old = 3 then t else t.wevent 0x7163 .note 0x003 0
      | 1 =>
        let u := ((t.sealCount 62).sealCount 63).wevent 0x7162 .note 0x003 0
        if s.sealCnt = 4095 then u.wevent 0x7166 .warn 0x003 0 else u
      | _ => t.wevent 0x7164 .warn 0x003 0)

/-! ## Field fuses (R417) -/

/-- FS_FUSE_CMD written in warden die `d` (R417). -/
def State.fuseCommand (s : State) (d : Nat) (v : W64) : State :=
  if !s.wpOk .FS_FUSE_CMD d 0 v then s.presenceRefused d (regAddr .FS_FUSE_CMD d 0) .jumper
  else if getBits v 3 0 ≠ 1 then s
  else if s.flag fFS_FUSE_STAT_BUSY d 0 then s.setFld fFS_FUSE_STAT_RESULT d 0 6
  else
    ((s.setFld fFS_FUSE_STAT_BUSY d 0 1).setLat .fuseWord d 0 (s.fld fFS_FUSE_PGM_WORD d 0)).setLat .fuseData d 0
      (s.fld fFS_FUSE_PGM_DATA d 0)

/-- FUSE_PROGRAM: in the window of warden `w`. -/
def execFuseProgram (m : Master) (w : Nat) (v : W64) (s : State) : Out :=
  ifUnit (w < 2) (s.guardedWrite m .FS_FUSE_CMD (62 + w) 0 fun t => t.fuseCommand (62 + w) v)

/-- The word is read back (R417): of the requested bits those of `reads` are blown. -/
def execFuseProgramDone (w : Nat) (reads : W32) (s : State) : Out :=
  ifUnit (w < 2)
    (let d := 62 + w
    if s.flag fFS_FUSE_STAT_BUSY d 0 then
      let k := s.lat .fuseWord d 0
      let want := s.lat .fuseData d 0
      let now := s.fld fFS_FUSE_BANK_BITS d k ||| (want &&& reads.toNat)
      let t := (s.setFld fFS_FUSE_BANK_BITS d k now).setFld fFS_FUSE_STAT_BUSY d 0 0
      if want &&& now = want then (t.setFld fFS_FUSE_STAT_RESULT d 0 0).event 0x7168 .note (unitId d 0x003) k
      else (t.setFld fFS_FUSE_STAT_RESULT d 0 5).event 0x7169 .warn (unitId d 0x003) k
    else s)

end Sys2Proof.Machine
end

