-- ==== Sys2Proof/Machine/Reset.lean ====
section
/-! DEFINITION. The meanings of the resets (R525 to R533, R549, Tables RST-1, RST-2): POR, PKG, WDR, DIE, SPN and PORT
resets, what the wardens apply after them, and the reset command. -/

namespace Sys2Proof.Machine

/-! ## What the wardens apply at every POR and PKG (R532) -/

/-- A slot's physical spindle is out of service again (R349, R350): a spare takes the slot, or it stays RETIRED. -/
def State.reapplySpindle (s : State) (d ph : Nat) : State :=
  match s.slotOf d ph with
  | some sp => match s.spareOf d with
    | some x => (s.setSpFld fSPN_MAP_PHYS sp x).setSpFld fSPN_MAP_SPARE sp 1
    | none => s.setLat .slotRetired sp 0 1
  | none => s

/-- A logged retirement is applied again, and recorded no second time (R354). -/
def State.reapply (s : State) (u : Nat) : State :=
  let d := u / 1024
  let x := u % 1024
  let t := s.addRetired u
  if 62 ≤ d then (if x = 0 then t.setLat .wardenHeld d 0 1 else t)
  else if x = 0x3FF then t.setLat .dieRetired d 0 1
  else if 0x300 ≤ x ∧ x < 0x304 then t.setLinkRetired d (x - 0x300)
  else if x = 0x310 then t.setLat .stopRetired d 0 1
  else if d < 48 then
    if x < 34 then t.reapplySpindle d x
    else if 0x40 ≤ x ∧ x < 0x51 then
      let k := x - 0x40
      let a := t.slotOf d (2 * k)
      let b := t.slotOf d (2 * k + 1)
      let t := ((t.setFld fPW_TWIN_CTL_RETIRED d k 1).addRetired (unitId d (2 * k))).addRetired (unitId d (2 * k + 1))
      let t := if a.isSome then t.reapplySpindle d (2 * k) else t
      if b.isSome then t.reapplySpindle d (2 * k + 1) else t
    else t
  else if d < 56 then (if 0x100 ≤ x ∧ x < 0x180 then t.setFld fQD_PC_RETIRED d (x - 0x100) 1 else t)
  else if d < 60 ∧ 0x10 ≤ x ∧ x < 0x30 then
    let p := (d - 56) * 4 + (x - 0x10) / 8
    let m := t.wpFld fWP_PORT_STAT_RETIRED_LANES p ||| 2 ^ ((x - 0x10) % 8)
    let t := t.setWpFld fWP_PORT_STAT_RETIRED_LANES p m
    if 8 - popc8 m < 4 then t.addRetired (warpUnit p) else t
  else t

/-- The retirement log is applied (R354). -/
def State.reapplyLog (s : State) : State := s.each (s.retLog.map (·.1)) fun u t => t.reapply u

/-- The leak record sets the latch again (R533). -/
def State.reapplyLeak (s : State) : State :=
  if (sget [] s.flash leakKey).isEmpty then s else s.setBoth fWD_FORCE_LEAK_LATCH 1

/-- The recorder copy of a save (R410): loaded with FLAGS bit 1 where the save is good. -/
def State.restoreRecorder (s : State) : State :=
  match s.saved with
  | none => s
  | some k =>
    if k.good then
      let rs := k.records.map fun r => { r with flags := r.flags ||| 2 }
      let t : State := { s with stickyA := { s.stickyA with records := rs }, stickyB := { s.stickyB with records := rs } }
      let t := ((t.setReg .EV_STAT 62 0 k.evStat).setReg .EV_STAT 63 0 k.evStat).each k.suppressed fun x u =>
        (u.setFld fEV_LIMIT1_SUPPRESSED 62 x.1 x.2).setFld fEV_LIMIT1_SUPPRESSED 63 x.1 x.2
      (t.setBoth fEV_STAT_RESTORED 1).wevent 0x7132 .note 0x002 0
    else s.wevent 0x7135 .warn 0x002 0

/-- The sticky fields of a save (R549): tallies, expiries of the warden that wrote it, LOCATE and TB_FWD.PTR; the save
area is then erased. -/
def State.restoreSave (s : State) : State :=
  match s.saved with
  | none => s
  | some k =>
    let t :=
      if k.good then
        let t : State := { s with stickyA := { s.stickyA with tallies := k.tallies }, stickyB := { s.stickyB with tallies := k.tallies } }
        let t := ((t.setFld fWD_WDOG_STAT_EXPIRIES k.warden 0 k.expiries).setBoth fWD_LED_LOCATE k.locate).setBoth fTB_FWD_PTR k.ptr
        ((t.setWfld fWD_PKG_STAT_RESTORED 0 1).setWfld fWD_PKG_STAT_SAVE_OK 0 1).wevent 0x4316 .note 0 0
      else s.wevent 0x4317 .warn 0 0
    t.setLat .eraseDue 0 0 1

/-- Straps, the log, the flash tables, the leak record and the save, in both wardens (R532, R538). -/
def State.reapplyAll (s : State) : State :=
  let t := ((s.putStraps 62).putStraps 63).reapplyLog
  let t := (t.loadTables 62).loadTables 63
  (t.each (List.range' 48 8) fun d u => u.loadDieT d).reapplyLeak.restoreSave

/-! ## PKG and POR (Table RST-2) -/

/-- Latches that stand for fuses: no reset clears them (R13, R266). -/
def fuseLats : List Lat := [.colrepSpares, .colrepRecords]

/-- Latches a PKG reset keeps: of the recorder, the timebase, the pins and the host's messages. -/
def pkgLats : List Lat :=
  [.perst, .evDeficit, .evLast, .evSkipped, .straps, .timeHalf, .adjAcc, .timeStep, .timeStepped, .foldback, .noPower, .msixSent,
    .btnAt]

/-- Registers a PKG reset leaves alone: the timebase's, the presence and fuse state of the wardens (R525, R416). -/
def pkgKeeps (r : Reg) : Bool :=
  match r with
  | .WD_TIME_NS | .WD_TIME_ADJ | .WD_TIME_STAT | .FS_PRES => true
  | _ => false

/-- The package's state without what a PKG reset loses. The role stays with its warden; the contents of CXL memory are
the expanders'. -/
def State.pkgLose (s : State) : State :=
  let a := s.aw
  let act := s.flag fWD_ROLE_ACTIVE a 0
  let t := (s.resetRegs (fun r _ _ => r != .SPN_MAP && !pkgKeeps r) fun c => c == .F || c == .E).resetRegs
    (fun r _ _ => r == .SPN_MAP) fun _ => false
  let t := t.resetLats fun n _ _ => !((pkgLats ++ fuseLats).any fun l => latId l == n)
  let t := t.clearBytes 0 0x12000000000
  let t := t.clearBytes 0xF000000000000 0x1000000000000
  let clear : Sticky → Sticky := fun k => ⟨k.records, [], [], []⟩
  let u : State :=
    { t with spins := [], plies := [], stickyA := clear s.stickyA, stickyB := clear s.stickyB, sides := [], skeins := [], losses := [], mended := [], flaws := t.flaws.filter fun x => decide (0x12000000000 ≤ 64 * x.1), dma := [], coll := [], collGroups := [], mesh := [], plyRuns := [], banks := [], heat := [] }
  let u := (u.setLat .kickAt 62 0 s.now).setLat .kickAt 63 0 s.now
  if act then u.setFld fWD_ROLE_ACTIVE a 0 1 else u

/-- A PKG reset (R525, R530): one that arrives during a power-fail save waits for its end. -/
def State.pkgReset (s : State) (cause : Nat) : State :=
  if s.wflag fWD_PKG_STAT_SAVING 0 then s.setLat .pkgDue 0 0 (cause + 1)
  else
    let pf := s.wfld fWD_PKG_STAT_PWRFAIL 0
    let t := (s.pkgLose.reapplyAll.setWfld fWD_PKG_STAT_PWRFAIL 0 pf).setLat .soakSkip 0 0 1
    (t.setLat .lastReset 0 0 (2 * 16 + cause)).beginStep 1

/-- PCIE0_PERST (R269, R527). -/
def execPcie0Perst (s : State) : Out := .next ((s.setLat .perst 0 0 1).pkgReset 1)

/-- PKG_RESET by command. -/
def execPkgReset (s : State) : Out := .next (s.pkgReset 0)

/-- PERST_N_DEASSERT: bring-up may pass "Cooling established" (R527); the link of port 1 may train. -/
def execPerstNDeassert (port : Nat) (s : State) : Out := ifUnit (isHostPort port) (s.setLat .perst port 0 0)

/-- What remains when VSTBY has gone: fuses, flash, and the commands that wait; a save that was being written is cut
short. -/
def State.powerLost (s : State) : State :=
  let cut := s.wflag fWD_PKG_STAT_SAVING 0
  let t := s.resetRegs (fun r _ _ => r != .SPN_MAP) fun c => c == .F
  let bad : Save := ⟨false, 62, [], 0, 0, 0, [], 0, []⟩
  { State.reset with
    regs := (t.resetRegs (fun r _ _ => r == .SPN_MAP) fun _ => false).regs,
    lats := s.lats.filter fun kv => (latId .perst :: fuseLats.map latId).contains (Nat.unpair kv.1).1,
    retLog := s.retLog, flash := s.flash, saved := if cut then some bad else s.saved, reply := s.reply, free := s.free,
    pending := s.pending }

/-- VSTBY_DOWN (R525, R547). -/
def execVstbyDown (s : State) : Out := .next (s.powerLost.setLat .noPower 0 0 1)

/-- POWER_ON_RESET (R525, R410, R416, R491, R552): `slots` the node ID straps, `jumper` FACTORY_N, `pwrfail` PWRFAIL_N. -/
def execPowerOnReset (slots : Nat) (jumper pwrfail : Bool) (s : State) : Out :=
  ifUnit (slots < 64)
    (let t := s.powerLost.restoreRecorder
    let t := ((t.setLat .straps 0 0 (slots ^^^ 1)).setBoth fFS_PRES_JUMPER jumper.toNat).reapplyAll
    (t.setWfld fWD_PKG_STAT_PWRFAIL 0 pwrfail.toNat))

/-! ## WDR (R388, R525) -/

/-- WDR of warden `w` (0 WD-A, 1 WD-B): by command, its watchdog or a core error; not of a warden held in reset. -/
def execWdr (w cause : Nat) (s : State) : Out :=
  ifUnit (w < 2 && [0, 2, 3].contains cause) (if s.lat .wardenHeld (62 + w) 0 ≠ 0 then s else s.wdr (62 + w) cause)

/-! ## DIE resets (R528, R530) -/

/-- The commanded reset of a unit is done. -/
def State.rstDone (s : State) (unit : Nat) : State :=
  if s.lat .rstUnit 0 0 = unit + 1 then
    ((s.setLat .rstUnit 0 0 0).setWfld fWD_RST_STAT_BUSY 0 0).setWfld fWD_RST_CMD_GO 0 0
  else s

/-- A commanded SPN reset on a die is done with the wider reset that absorbs it (R530). -/
def State.absorbReset (s : State) (d : Nat) : State :=
  let u := s.lat .rstUnit 0 0 - 1
  if u / 1024 = d ∧ u % 1024 < 34 then s.rstDone u else s

/-- A DIE reset starts: the die's state goes, its rails stay. XD0's takes the route table of every I/O die with it. -/
def State.dieReset (s : State) (d cause : Nat) : State :=
  if s.lat .inReset d 0 ≠ 0 then s
  else
    let t := ((((s.dieGone d false).setLat .inReset d 0 1).setLat .msReset d 0 0).setLat .tripReset d 0 0).setWfld fWD_DIE_PHASE_PHASE d 3
    (t.absorbReset d).resetRan .die (dieUnit d) cause

/-- DIE_RESET of a compute, quarry or I/O die: by command, or before a re-power after a trip (R33). -/
def execDieReset (d cause : Nat) (s : State) : Out :=
  ifUnit (hasRails d && [0, 4].contains cause) (s.dieReset d cause)

/-- A quarry returns (R225, R355): it logs the current epoch, and the slots its partner still serves read DEGRADED. -/
def State.quarryBack (s : State) (d : Nat) : State :=
  let t := (s.setLat .quarryLost d 0 0).setReg .QD_SKEIN_EPOCH d 0 (s.wreg .WD_EP_EPOCH 0)
  t.each ((List.range 256).filter fun k => t.lat .servedBy d k != 0) fun k u => u.setFld fQD_RGN_INFO_STATE d k 3

/-- A DIE reset ends (R528): the active warden restores retirements, sets the phase RECOVERY; a quarry returns; CXL
expanders train again. -/
def State.dieResetEnd (s : State) (d : Nat) : State :=
  let t := ((s.setLat .inReset d 0 0).setWfld fWD_DIE_PHASE_PHASE d 3).dieReady d
  let t := if 48 ≤ d ∧ d < 56 then
      let u := t.quarryBack d
      if u.dieUp d then u.each (List.range 4) fun k v => if v.fld fQD_HBM_RATE d k = 0 then v.setFld fQD_HBM_RATE d k 1 else v else u
    else if d < 48 then
      let u := t.offsetsBack d
      if u.dieUp d then u.cdDeliver d else u
    else t
  t.rstDone (dieUnit d)

/-- DIE_RESET_END. -/
def execDieResetEnd (d : Nat) (s : State) : Out :=
  ifUnit (hasRails d) (if s.lat .inReset d 0 = 0 then s else s.dieResetEnd d)

/-! ## SPN and PORT resets (R529, Table RST-1) -/

/-- An SPN reset of a physical spindle begins: one without a slot has nothing to lose; the DIE reset of its die absorbs it
(R530). -/
def State.spnResetPhys (s : State) (d ph : Nat) : State :=
  if s.dieUp d then
    (match s.slotOf d ph with | some sp => s.spnReset sp | none => s).resetRan .spn (unitId d ph) 0
  else s

/-- It ends. -/
def State.spnResetDone (s : State) (d ph : Nat) : State :=
  (match s.slotOf d ph with | some sp => s.spnResetEnd sp | none => s).rstDone (unitId d ph)

/-- SPN_RESET (R529): it begins, or, with `done`, the one that runs ends. -/
def execSpnReset (d ph : Nat) (done : Bool) (s : State) : Out :=
  ifUnit (d < 48 && ph < 34) (if done then s.spnResetDone d ph else s.spnResetPhys d ph)

/-- A port's unit names a port of a kind: 0 warp, 1 host, 2 CXL, with its number (Table FL-11). -/
def portOf (unit : Nat) : Option (Nat × Nat) :=
  let d := unit / 1024
  let x := unit % 1024
  if 56 ≤ d ∧ d < 60 ∧ x < 4 then some (0, (d - 56) * 4 + x)
  else if d = 60 ∧ x < 2 then some (1, x)
  else if (d = 60 ∨ d = 61) ∧ 0x10 ≤ x ∧ x < 0x14 ∧ d = 60 + (x - 0x10) / 2 then some (2, x - 0x10)
  else none

/-- A PORT reset by unit; the DIE reset of its die absorbs it (R530). -/
def State.portReset (s : State) (unit cause : Nat) : State :=
  if s.dieUp (unit / 1024) then
    match portOf unit with
    | some (0, p) => s.warpPortReset p cause
    | some (1, p) => s.hostPortReset p cause
    | some (_, p) => s.cxlPortReset p cause
    | none => s
  else s

/-- PORT_RESET: by command, PERST_N or the link (Table RST-12). -/
def execPortReset (unit cause : Nat) (s : State) : Out :=
  ifUnit ((portOf unit).isSome && [0, 1, 5].contains cause) (s.portReset unit cause)

/-! ## The reset command (R526) -/

/-- What a unit's reset is: none where it has none (Table RST-1). -/
def rstKind (unit : Nat) : Option RstKind :=
  let d := unit / 1024
  let x := unit % 1024
  if unit = 0xFFFF then some .pkg
  else if 62 ≤ d then (if x = 0 then some .wdr else none)
  else if x = 0x3FF then some .die
  else if d < 48 then (if x < 34 then some .spn else none)
  else if (portOf unit).isSome then some .port else none

/-- A commanded reset that takes time has begun. -/
def State.rstBegun (s : State) (unit : Nat) : State :=
  ((s.setLat .rstUnit 0 0 (unit + 1)).setWfld fWD_RST_STAT_BUSY 0 1).setWfld fWD_RST_CMD_GO 0 1

/-- A commanded reset runs: all but a DIE and an SPN reset end at once, and an SPN reset that the DIE reset of its die absorbs is
done (R530). -/
def State.rstRun (s : State) (unit : Nat) : State :=
  let t := s.setWfld fWD_RST_STAT_RESULT 0 0
  match rstKind unit with
  | some .pkg => t.pkgReset 0
  | some .wdr => t.wdr (unit / 1024) 0
  | some .die => (t.dieReset (unit / 1024) 0).rstBegun unit
  | some .spn =>
    let u := t.spnResetPhys (unit / 1024) (unit % 1024)
    if t.dieUp (unit / 1024) then u.rstBegun unit else u
  | some .port => t.portReset unit 0
  | _ => t

/-- WD_RST_CMD written (R526): RESULT 1 BAD_UNIT, 2 BUSY, 3 RETIRED. -/
def State.rstWrite (s : State) (v : W64) : State :=
  let unit := getBits v 15 0
  let t := s.setWfld fWD_RST_CMD_UNIT 0 unit
  if !bitOf v 16 then t
  else if s.wflag fWD_RST_STAT_BUSY 0 then t.setWfld fWD_RST_STAT_RESULT 0 2
  else if (rstKind unit).isNone then t.setWfld fWD_RST_STAT_RESULT 0 1
  else if unit ≠ 0xFFFF ∧ t.isRetired unit then t.setWfld fWD_RST_STAT_RESULT 0 3
  else t.rstRun unit

/-- WD_RST_CMD. -/
def execWdRstCmd (m : Master) (v : W64) (s : State) : Out :=
  .next (s.guardedWrite m .WD_RST_CMD s.aw 0 fun t => t.rstWrite v)

end Sys2Proof.Machine
end

