-- ==== Sys2Proof/Machine/TrayBus.lean ====
section
/-! DEFINITION. The tray bus controllers and the Orwilos messages the active warden takes and forwards (R488 to R524): the
meanings of their commands. -/

namespace Sys2Proof.Machine

/-! ## States and writes (Table TB-12, R489, R493, R502) -/

/-- TB_STAT.STATE: 0 STOPPED, 1 LISTEN, 2 AUTORATE, 3 INTEGRATING, 4 ERROR_ACTIVE, 5 ERROR_PASSIVE, 6 BUS_OFF,
7 RECOVERING. -/
def State.tbState (s : State) (w : Nat) : Nat := s.fld fTB_STAT_STATE w 0

/-- Set the state. -/
def State.setTbState (s : State) (w x : Nat) : State := s.setFld fTB_STAT_STATE w 0 x

/-- An event of a controller. -/
def State.tbEvent (s : State) (w code : Nat) (sev : Sev) (payload : Nat) : State := s.event code sev (unitId w 0x180) payload

/-- A refused write (EV 0x6102). -/
def State.tbRefused (s : State) (w addr : Nat) : State := s.tbEvent w 0x6102 .warn addr

/-- A write of the block's registers: honoured from the warden's own core and a host port. -/
def State.tbWrite (s : State) (m : Master) (w : Nat) (addr : Nat) (f : State → State) : State :=
  match m with
  | .host _ => f s
  | .warden v => if 62 + v = w then f s else s.tbRefused w addr
  | _ => s.tbRefused w addr

/-- A write of buffers and filters: the warden's own core only. -/
def State.tbOwn (s : State) (m : Master) (w : Nat) (addr : Nat) (f : State → State) : State :=
  if m = .warden (w - 62) then f s else s.tbRefused w addr

/-- A transmit buffer's STATUS: 0 IDLE, 1 PENDING, 2 SENT, 3 ABANDONED, 4 EXPIRED, 5 ABORTED, 6 BAD. -/
def State.txStatus (s : State) (w b : Nat) : Nat := s.fld fTB_TXB_CMD_STATUS w b

/-- A buffer's end. -/
def State.txEnd (s : State) (w b x : Nat) : State :=
  (((s.setFld fTB_TXB_CMD_STATUS w b x).setLat .txLife w b 0).setLat .txEnds w b 0).setLat .txData w b 0

/-- EV 0x6121 of a buffer that expires. -/
def State.txExpire (s : State) (w b : Nat) : State := (s.txEnd w b 4).tbEvent w 0x6121 .warn (s.fld fTB_TXB_ID_ID w b)

/-- A buffer is aborted: at once, or when its attempt on the bus has finished (R506). -/
def State.txAbort (s : State) (w b : Nat) : State :=
  if s.txStatus w b ≠ 1 then s
  else if s.lat .txNow w 0 = b + 1 then s.setLat .txEnds w b 2
  else s.txEnd w b 5

/-! ## Joining the bus (R495 to R497, Table TB-2) -/

/-- The nominal candidates as TB_NOM holds them. -/
def nomCand (i : Nat) : W64 := pack [([1, 2, 4, 8].getD i 8, 24), (63, 16), (16, 8), (16, 0)]

/-- The data candidates as TB_DATA holds them but for TDC_EN. -/
def dataCand (i : Nat) : W64 :=
  match i with
  | 0 => pack [(8, 24), (1, 16), (7, 8), (2, 4), (2, 0)]
  | 1 => pack [(12, 24), (1, 16), (11, 8), (4, 4), (4, 0)]
  | 2 => pack [(16, 24), (1, 16), (15, 8), (4, 4), (4, 0)]
  | _ => pack [(32, 24), (1, 16), (31, 8), (8, 4), (8, 0)]

/-- The search for a data rate: after a nominal lock, while the crystal runs (R498). -/
def State.dataSearch (s : State) (w : Nat) : Bool :=
  s.flag fTB_AUTO_LOCKED_NOM w 0 && !s.flag fTB_AUTO_LOCKED_DATA w 0 && !s.flag fTB_STAT_SLOWDATA w 0

/-- A search starts (R495). -/
def State.autorate (s : State) (w : Nat) : State :=
  let t := (s.setTbState w 2).setFld fTB_AUTO_NCAND w 0 0
  let t := (t.setFld fTB_AUTO_DCAND w 0 0).setFld fTB_AUTO_COUNT w 0 0
  (t.setFld fTB_AUTO_LOCKED_NOM w 0 0).setFld fTB_AUTO_LOCKED_DATA w 0 0

/-- The nominal search moves on. -/
def State.nextNom (s : State) (w : Nat) : State :=
  let n := s.fld fTB_AUTO_NCAND w 0
  let t := (s.setFld fTB_AUTO_NCAND w 0 ((n + 1) % 4)).setFld fTB_AUTO_COUNT w 0 0
  if n = 3 then t.satFld fTB_AUTO_CYCLES w 0 1 else t

/-- MODE takes the controller on (R489, R491, R497): NORMAL leads to integration where the warden is active and its node ID
is good, and to listening else. -/
def State.goNormal (s : State) (w : Nat) : State := ((s.setFld fTB_CTL_MODE w 0 2).setTbState w 1).tbJoin w

/-- The bus may be joined (R497, R489): the active warden writes NORMAL; the standby goes on listening. -/
def State.mayJoin (s : State) (w : Nat) : State := if s.flag fWD_ROLE_ACTIVE w 0 then s.goNormal w else s.setTbState w 1

/-- A frame counts in a search; eight in a row lock the candidate, and after a nominal lock the bus is joined. -/
def State.countFrame (s : State) (w : Nat) (brs : Bool) : State :=
  let n := s.fld fTB_AUTO_COUNT w 0 + 1
  if s.tbState w = 2 then
    if n < 8 then s.setFld fTB_AUTO_COUNT w 0 n
    else
      let i := s.fld fTB_AUTO_NCAND w 0
      let t := ((s.setReg .TB_NOM w 0 (nomCand i)).setFld fTB_AUTO_LOCKED_NOM w 0 1).setFld fTB_AUTO_COUNT w 0 0
      (t.tbEvent w 0x6101 .note i).mayJoin w
  else if s.dataSearch w && brs then
    if n < 8 then s.setFld fTB_AUTO_COUNT w 0 n
    else
      let v := dataCand (s.fld fTB_AUTO_DCAND w 0)
      let t := s.setReg .TB_DATA w 0 (setBits v 31 31 (s.fld fTB_DATA_TDC_EN w 0))
      (t.setFld fTB_AUTO_LOCKED_DATA w 0 1).setFld fTB_AUTO_COUNT w 0 0
  else s

/-! ## Error confinement (R508 to R511) -/

/-- Passive while either counter is at or above 128. -/
def State.tbPassive (s : State) (w : Nat) : State :=
  let p := decide (128 ≤ s.fld fTB_STAT_TEC w 0) || decide (128 ≤ s.fld fTB_STAT_REC w 0)
  match s.tbState w with
  | 4 => if p then (s.setTbState w 5).tbEvent w 0x6110 .warn 0 else s
  | 5 => if p then s else s.setTbState w 4
  | _ => s

/-- The counter of an error kind (Table TB-15). -/
def errField : BusError → RField
  | .bit => fTB_ERRCNT_BIT | .stuff => fTB_ERRCNT_STUFF | .form => fTB_ERRCNT_FORM | .crc => fTB_ERRCNT_CRC | .ack => fTB_ERRCNT_ACK

/-- BUS_OFF is entered (R508, R510). -/
def State.busOff (s : State) (w : Nat) : State :=
  let n := s.fld fTB_ERRCNT_BUSOFFS w 0
  let t := ((s.setTbState w 6).setFld fTB_STAT_TEC w 0 0xFF).satFld fTB_ERRCNT_BUSOFFS w 0 1
  (t.setLat .busOffAt w (n % 3) (s.now + 1)).tbEvent w 0x6111 .fault 0

/-- CAN_BUS_ERROR on a received frame, with BRS set or not: the receive counter gains 1 on a controller that takes part in
the bus, and a search moves on; a missing acknowledge is no error of a receiver, nor for a search. -/
def execCanBusError (w : Nat) (e : BusError) (brs : Bool) (s : State) : Out :=
  ifUnit (w < 2)
    (let d := 62 + w
    let st := s.tbState d
    if st = 0 ∨ 6 ≤ st then s
    else
      let t := s.satFld (errField e) d 0 1
      let t := if (st = 4 ∨ st = 5) ∧ e ≠ .ack then (t.satFld fTB_STAT_REC d 0 1).tbPassive d else t
      if e = .ack then t
      else if st = 2 then t.nextNom d
      else if t.dataSearch d && brs then
        (t.setFld fTB_AUTO_DCAND d 0 ((t.fld fTB_AUTO_DCAND d 0 + 1) % 4)).setFld fTB_AUTO_COUNT d 0 0
      else t)

/-- The wait before the active warden writes RECOVER: 100 ms, or 10 s on the third entry in 10 s (R511). -/
def State.recoverAt (s : State) (w : Nat) : Nat :=
  let n := s.fld fTB_ERRCNT_BUSOFFS w 0
  let last := s.lat .busOffAt w ((n + 2) % 3)
  let first := s.lat .busOffAt w (n % 3)
  last - 1 + (if 3 ≤ n ∧ last ≤ first + 10000000000 then 10000000000 else 100000000)

/-- BUS_OFF_AUTO_RECOVER by the active warden. -/
def execBusOffAutoRecover (s : State) : Out :=
  .next (if s.tbState s.aw = 6 ∧ s.recoverAt s.aw ≤ s.now then s.setTbState s.aw 7 else s)

/-- BUS_OFF_RECOVERY_DONE (R509, R510). -/
def execBusOffRecoveryDone (w : Nat) (s : State) : Out :=
  ifUnit (w < 2)
    (let d := 62 + w
    if s.tbState d = 7 then
      let t := ((s.setTbState d 4).setFld fTB_STAT_TEC d 0 0).setFld fTB_STAT_REC d 0 0
      (t.each ((List.range 32).filter fun b => t.txStatus d b == 1) fun b u => u.setFld fTB_TXB_CMD_ATTEMPTS d b 0).tbEvent d
        0x6112 .note 0
    else s)

/-! ## Mode, rates and integration (R489, R493 to R497) -/

/-- MODE OFF: every pending buffer is aborted and every receive buffer emptied; in RECOVERING it returns to BUS_OFF. -/
def State.tbOff (s : State) (w : Nat) : State :=
  let t := s.each (List.range 32) fun b u => (u.txAbort w b).setFld fTB_RXB_CTRL_STATE w b 0
  if 6 ≤ s.tbState w then t.setTbState w 6 else t.setTbState w 0

/-- RECOVER: only in BUS_OFF (R509). -/
def State.tbRecover (s : State) (w : Nat) : State := if s.tbState w = 6 then s.setTbState w 7 else s

/-- AUTORATE (R495); a controller that is stopped, off the bus or recovering starts none. -/
def State.tbAutorate (s : State) (w : Nat) : State := if s.tbState w = 0 ∨ 6 ≤ s.tbState w then s else s.autorate w

/-- TB_MODE_WRITE: TB_CTL with its RECOVER and AUTORATE, then its MODE; 0b11 has no effect on MODE. A search goes on until it
locks. -/
def execTbModeWrite (m : Master) (w : Nat) (v : W64) (s : State) : Out :=
  ifUnit (w < 2) (s.tbWrite m (62 + w) (regAddr .TB_CTL (62 + w) 0) fun t =>
    let d := 62 + w
    let t := if bitOf v 4 then t.tbRecover d else t
    let t := if bitOf v 5 then t.tbAutorate d else t
    let u := (t.setFld fTB_CTL_BRS_EN d 0 (getBits v 9 9)).setFld fTB_CTL_FD_EN d 0 (getBits v 8 8)
    let st := t.tbState d
    match getBits v 1 0 with
    | 0 => (u.setFld fTB_CTL_MODE d 0 0).tbOff d
    | 1 => (u.setFld fTB_CTL_MODE d 0 1).iff (st == 0 || (decide (3 ≤ st) && decide (st ≤ 5))) fun x => x.setTbState d 1
    | 2 => if st = 0 ∨ st = 1 then u.goNormal d else u.setFld fTB_CTL_MODE d 0 2
    | _ => u)

/-- CAN_INTEGRATION_DONE: ERROR_ACTIVE, and NODE_ANNOUNCE (R497, R522). -/
def execCanIntegrationDone (w : Nat) (s : State) : Out :=
  ifUnit (w < 2)
    (let d := 62 + w
    if s.tbState d = 3 then
      let t := ((s.setTbState d 4).setFld fTB_STAT_TEC d 0 0).setFld fTB_STAT_REC d 0 0
      if d = t.aw then t.announce else t
    else s)

/-- CAN_RECOVER: RECOVER of TB_CTL written. -/
def execCanRecover (m : Master) (w : Nat) (s : State) : Out :=
  ifUnit (w < 2) (s.tbWrite m (62 + w) (regAddr .TB_CTL (62 + w) 0) fun t => t.tbRecover (62 + w))

/-- AUTORATE of TB_CTL written. -/
def execAutorate (m : Master) (w : Nat) (s : State) : Out :=
  ifUnit (w < 2) (s.tbWrite m (62 + w) (regAddr .TB_CTL (62 + w) 0) fun t => t.tbAutorate (62 + w))

/-- AUTORATE_CANDIDATE_TIMEOUT. -/
def execAutorateCandidateTimeout (w : Nat) (s : State) : Out :=
  ifUnit (w < 2) (if s.tbState (62 + w) = 2 then s.nextNom (62 + w) else s)

/-- TB_TIMING_WRITE: all of it or nothing, in STOPPED or LISTEN without a search. -/
def execTbTimingWrite (m : Master) (w : Nat) (phase : Bool) (v : W64) (s : State) : Out :=
  ifUnit (w < 2)
    (let r : Reg := if phase then .TB_DATA else .TB_NOM
    let d := 62 + w
    s.tbWrite m d (regAddr r d 0) fun t =>
      if timingLegal phase v && decide (t.tbState d ≤ 1) && !t.dataSearch d then t.plainWrite r d 0 v else t.tbRefused d (regAddr r d 0))

/-! ## Receiving (R499 to R502, R507) -/

/-- A frame's identifier as filters see it: a base one at bits 28:18. -/
def frameIdent (f : Frame) : Nat := if f.ide then f.id % 2 ^ 29 else f.id % 2 ^ 29 / 2 ^ 18 * 2 ^ 18

/-- A frame's bytes: at most 8 of a classical frame, whatever its length code (Table TB-1). -/
def frameBytes (f : Frame) : List Byte := f.data.take (if f.fdf then dlcLen f.dlc else min 8 f.dlc)

/-- A frame matches a filter. -/
def State.filterTakes (s : State) (w i : Nat) (f : Frame) : Bool :=
  s.flag fTB_FILT_ID_EN w i && s.flag fTB_FILT_ID_IDE w i == f.ide &&
    (frameIdent f ^^^ s.fld fTB_FILT_ID_ID w i) &&& s.fld fTB_FILT_MASK_MASK w i == 0

/-- The buffer a filter gives a frame (R500). -/
def State.rxBuffer (s : State) (w i : Nat) : Option Nat :=
  let first := s.fld fTB_FILT_BUF_FIRST w i
  let n := s.fld fTB_FILT_BUF_COUNT w i
  let st := fun (b : Nat) => s.fld fTB_RXB_CTRL_STATE w b
  if s.fld fTB_FILT_BUF_MODE w i = 1 then
    if st first ≠ 2 then some first else (List.range' (first + 1) (n - 1)).find? fun b => st b == 0
  else (List.range' first n).find? fun b => st b == 0

/-- A frame is placed in a buffer. -/
def State.placeFrame (s : State) (w b i : Nat) (f : Frame) : State :=
  let bs := (frameBytes f)
  let ctrl := pack [(1, 30), (i, 20), (f.fdf.toNat, 7), (f.brs.toNat, 6), (f.esi.toNat, 5), (f.dlc % 16, 0)]
  let t := (s.setReg .TB_RXB_ID w b (BitVec.ofNat 64 (f.ide.toNat * 2 ^ 30 + frameIdent f))).setReg .TB_RXB_CTRL w b ctrl
  let t := (t.setReg .TB_RXB_TS w (2 * b) (BitVec.ofNat 64 (s.now % 2 ^ 32))).setReg .TB_RXB_TS w (2 * b + 1)
    (BitVec.ofNat 64 (s.now / 2 ^ 32 % 2 ^ 32))
  t.each (List.range 16) fun k u => u.setReg .TB_RXB_DATA w (16 * b + k) (BitVec.ofNat 64 (leValue ((bs.drop (4 * k)).take 4)))

/-- A frame is offered to the filters. -/
def State.filterFrame (s : State) (w : Nat) (f : Frame) : State :=
  match (List.range 16).find? fun i => s.filterTakes w i f with
  | none => s
  | some i =>
    let t := s.incFld fTB_FILT_HITS_HITS w i 1
    if t.fld fTB_FILT_BUF_COUNT w i = 0 then t
    else match t.rxBuffer w i with
      | some b => t.placeFrame w b i f
      | none => ((t.satFld fTB_FILT_BUF_OVR w i 1).setFld fTB_STAT_OVERRUN w 0 1).tbEvent w 0x6122 .warn (frameIdent f)

/-- The receive counter after a frame received without error (ISO 11898-1): one less, and from above 127 a value from 119 to
127. -/
def State.recLess (s : State) (w : Nat) : State :=
  let r := s.fld fTB_STAT_REC w 0
  if r = 0 then s
  else if r ≤ 127 then (s.setFld fTB_STAT_REC w 0 (r - 1)).tbPassive w
  else (({ s with free := s.free + 1 } : State).setFld fTB_STAT_REC w 0 (119 + Config.freeChoice s.free % 9)).tbPassive w

/-- A frame whose Orwilos SRC is this package's own node (R507). -/
def State.ownNode (s : State) (w : Nat) (f : Frame) : Bool :=
  s.flag fTB_CFG_ORW_EN w 0 && f.ide && f.fdf && frameIdent f / 64 % 64 == s.fld fTB_STAT_NODE w 0

/-- A number in a payload. -/
def payloadNat (bs : List Byte) (at_ n : Nat) : Nat := leValue ((bs.drop at_).take n)

/-- The length of an Orwilos message the package accepts (Table TB-5). -/
def orwLen (ty : Nat) : Option Nat :=
  match ty with | 1 => some 12 | 2 => some 16 | 7 => some 0 | 8 => some 8 | _ => none

/-- A reserved bit of a message is set (R515, Tables TB-5, R521, R522); that of a power order makes it illegal (R516). -/
def orwReserved (ty : Nat) (bs : List Byte) : Bool :=
  match ty with
  | 1 => decide (16 ≤ payloadNat bs 0 1) || payloadNat bs 1 3 != 0
  | 8 => decide (4 ≤ payloadNat bs 1 1) || payloadNat bs 2 2 != 0
  | _ => false

/-- The active warden ignores an Orwilos frame (R515): its type, its length, a reserved bit or its destination. Types from
0xC0 on are the tray maker's. -/
def State.orwBad (s : State) (w : Nat) (f : Frame) : Bool :=
  let ty := frameIdent f / 2 ^ 18 % 256
  let dst := frameIdent f / 2 ^ 12 % 64
  s.flag fWD_ROLE_ACTIVE w 0 && s.flag fTB_CFG_ORW_EN w 0 && f.ide && f.fdf && decide (ty < 0xC0) &&
    (orwLen ty != some (frameBytes f).length || orwReserved ty (frameBytes f) || !(dst == 63 || dst == s.fld fTB_STAT_NODE w 0))

/-- CAN_FRAME_RECEIVE: by a controller that is not stopped, integrating, off the bus or recovering; FD frames only with
FD_EN. A remote frame is discarded (Table TB-1). -/
def execCanFrameReceive (w : Nat) (f : Frame) (s : State) : Out :=
  ifUnit (w < 2)
    (let d := 62 + w
    let st := s.tbState d
    if st = 0 ∨ st = 3 ∨ 6 ≤ st ∨ (f.fdf ∧ !s.flag fTB_CTL_FD_EN d 0) then s
    else
      let t := if st = 4 ∨ st = 5 then s.recLess d else s
      if f.rtr then t.countFrame d false
      else
      let t := if t.orwBad d f then t.satFld fTB_ORW_STAT_BAD d 0 1 else t
      let t := if t.ownNode d f then (t.setFld fTB_STAT_COLL d 0 1).tbEvent d 0x6130 .fault (frameIdent f) else t
      (t.countFrame d f.brs).filterFrame d f)

/-- The word of a receive buffer at an offset. -/
def State.rxWord (s : State) (w b off : Nat) : W64 :=
  if off = 0 then s.reg .TB_RXB_ID w b
  else if off = 4 then s.reg .TB_RXB_CTRL w b
  else if off < 0x10 then s.reg .TB_RXB_TS w (2 * b + (off - 8) / 4)
  else s.reg .TB_RXB_DATA w (16 * b + (off - 0x10) / 4)

/-- RX_BUFFER_READ (R501, R502). -/
def execRxBufferRead (m : Master) (w b off : Nat) (s : State) : Out :=
  ifUnit (decide (w < 2) && decide (b < 32) && decide (off < 0x50) && off % 4 == 0)
    (let d := 62 + w
    let st := s.fld fTB_RXB_CTRL_STATE d b
    if m ≠ .warden w then s.answer .ok (leBytes 4 0)
    else if off = 0 ∧ st = 0 then s.answer .ok (leBytes 4 0)
    else
      let t := s.answer .ok (leBytes 4 (s.rxWord d b off).toNat)
      if off = 0 ∧ st = 1 then t.setFld fTB_RXB_CTRL_STATE d b 2
      else if off = 0x4C then t.setFld fTB_RXB_CTRL_STATE d b 0
      else t)

/-! ## Transmitting (R503 to R507) -/

/-- A request is refused (R503). A length code names at most 64 bytes. -/
def State.txBad (s : State) (w b : Nat) : Bool :=
  (s.flag fTB_TXB_CTRL_LT_EN w b && s.fld fTB_TXB_CTRL_LIFETIME_MS w b == 0) ||
    (s.flag fTB_TXB_CTRL_FDF w b && !s.flag fTB_CTL_FD_EN w 0) || (s.flag fTB_TXB_CTRL_BRS w b && !s.flag fTB_TXB_CTRL_FDF w b)

/-- TX_REQUEST. -/
def execTxRequest (m : Master) (w b : Nat) (s : State) : Out :=
  ifUnit (decide (w < 2) && decide (b < 32))
    (let d := 62 + w
    let a := regAddr .TB_TXB_CMD d b
    s.tbOwn m d a fun t =>
      if t.txStatus d b = 1 then t.tbRefused d a
      else if t.txBad d b then t.setFld fTB_TXB_CMD_STATUS d b 6
      else t.txPending d b)

/-- TX_ABORT. -/
def execTxAbort (m : Master) (w b : Nat) (s : State) : Out :=
  ifUnit (decide (w < 2) && decide (b < 32)) (s.tbOwn m (62 + w) (regAddr .TB_TXB_CMD (62 + w) b) fun t => t.txAbort (62 + w) b)

/-- What a buffer's frame sends in arbitration, as a number: lower wins (ISO 11898-1). -/
def State.arbKey (s : State) (w b : Nat) : Nat :=
  let id := s.fld fTB_TXB_ID_ID w b
  if s.flag fTB_TXB_ID_IDE w b then id / 2 ^ 18 * 2 ^ 19 + 2 ^ 18 + id % 2 ^ 18 else id / 2 ^ 18 * 2 ^ 19

/-- The pending buffer that would win arbitration; the lower index among identical frames (R504). -/
def State.txChoice (s : State) (w : Nat) : Option Nat :=
  let l := (List.range 32).filter fun b => s.txStatus w b == 1
  match l with
  | [] => none
  | b :: bs => some (bs.foldl (fun m x => if s.arbKey w x < s.arbKey w m then x else m) b)

/-- TX_ATTEMPT_START: the frame goes with BRS where its buffer asks for it and the rate and clock let it (R496, R498). -/
def execTxAttemptStart (w : Nat) (s : State) : Out :=
  ifUnit (w < 2)
    (let d := 62 + w
    let st := s.tbState d
    if (st = 4 ∨ st = 5) ∧ s.flag fTB_STAT_TXEN d 0 ∧ s.lat .txNow d 0 = 0 then
      match s.txChoice d with
      | some b => (s.setLat .txNow d 0 (b + 1)).setLat .txBrs d 0 (s.brsNow d && s.flag fTB_TXB_CTRL_BRS d b).toNat
      | none => s
    else s)

/-- A failed attempt counts; at 1 + RETRY the buffer is abandoned, as a collision where a bit error fell in a data field
(R505, R507). -/
def State.txFailed (s : State) (w b : Nat) : State :=
  let n := s.fld fTB_TXB_CMD_ATTEMPTS w b + 1
  let t := s.setFld fTB_TXB_CMD_ATTEMPTS w b n
  if s.lat .txEnds w b = 1 then t.txExpire w b
  else if s.lat .txEnds w b = 2 then t.txEnd w b 5
  else if n < 1 + s.fld fTB_TXB_CTRL_RETRY w b then t
  else if s.lat .txData w b ≠ 0 then
    ((t.txEnd w b 3).setFld fTB_STAT_COLL w 0 1).tbEvent w 0x6130 .fault (s.fld fTB_TXB_ID_ID w b)
  else (t.txEnd w b 3).tbEvent w 0x6120 .warn (s.fld fTB_TXB_ID_ID w b)

/-- A failed attempt that carries the counter past 255 is not counted; its end by lifetime or abort stands (R506, R510). -/
def State.txBusOff (s : State) (w b : Nat) : State :=
  let t := s.busOff w
  if s.lat .txEnds w b = 1 then t.txExpire w b else if s.lat .txEnds w b = 2 then t.txEnd w b 5 else t

/-- An attempt of a buffer ends. The transmit counter gains 8 for an error, but for a missing acknowledge in ERROR_PASSIVE,
and loses 1 for a frame sent (ISO 11898-1). -/
def State.txAttemptEnd (s : State) (w b : Nat) (e : TxEnd) : State :=
  let tec := s.fld fTB_STAT_TEC w 0
  let s := s.setLat .txNow w 0 0
  match e with
  | .sent => ((s.txEnd w b 2).setFld fTB_STAT_TEC w 0 (tec - 1)).tbPassive w
  | .lost => s.txFailed w b
  | .error e inData =>
    let t := s.satFld (errField e) w 0 1
    let t := if e = .bit ∧ inData then t.setLat .txData w b 1 else t
    let tec := if e = .ack ∧ s.tbState w = 5 then tec else tec + 8
    if 255 < tec then t.txBusOff w b else ((t.setFld fTB_STAT_TEC w 0 tec).tbPassive w).txFailed w b

/-- TX_ATTEMPT_END. -/
def execTxAttemptEnd (w : Nat) (e : TxEnd) (s : State) : Out :=
  ifUnit (w < 2) (if s.lat .txNow (62 + w) 0 = 0 then s else s.txAttemptEnd (62 + w) (s.lat .txNow (62 + w) 0 - 1) e)

/-- TX_LIFETIME_END (R506). -/
def execTxLifetimeEnd (w b : Nat) (s : State) : Out :=
  ifUnit (decide (w < 2) && decide (b < 32))
    (let d := 62 + w
    if s.txStatus d b = 1 ∧ s.lat .txLife d b ≠ 0 then
      if s.lat .txNow d 0 = b + 1 then (s.setLat .txLife d b 0).setLat .txEnds d b (if s.lat .txEnds d b = 0 then 1 else s.lat .txEnds d b)
      else s.txExpire d b
    else s)

/-! ## Orwilos messages received (R515 to R521) -/

/-- The payload bytes of a receive buffer of the active warden. -/
def State.rxBytes (s : State) (b : Nat) : List Byte :=
  ((List.range 16).flatMap fun k => leBytes 4 (s.reg .TB_RXB_DATA s.aw (16 * b + k)).toNat).take (dlcLen (s.fld fTB_RXB_CTRL_DLC s.aw b))

/-- A part of a receive buffer's Orwilos identifier (Table TB-4). -/
def State.rxIdPart (s : State) (b hi lo : Nat) : Nat := getBits (s.reg .TB_RXB_ID s.aw b) hi lo

/-- The active warden answers Orwilos (R513), and a buffer holds an extended FD frame of a type. -/
def State.orwHolds (s : State) (b ty : Nat) : Bool :=
  s.flag fWD_ROLE_ACTIVE s.aw 0 && s.flag fTB_CFG_ORW_EN s.aw 0 && s.flag fTB_CTL_FD_EN s.aw 0 &&
    s.fld fTB_RXB_CTRL_STATE s.aw b != 0 && s.flag fTB_RXB_ID_IDE s.aw b && s.flag fTB_RXB_CTRL_FDF s.aw b && s.rxIdPart b 25 18 == ty

/-- The message is for this node, of its length, and without a reserved bit (R515). -/
def State.orwGood (s : State) (b ty : Nat) : Bool :=
  (s.rxIdPart b 17 12 == 63 || s.rxIdPart b 17 12 == s.fld fTB_STAT_NODE s.aw 0) && orwLen ty == some (s.rxBytes b).length &&
    !orwReserved ty (s.rxBytes b)

/-- A message that is taken from its buffer: ignored where it is bad. -/
def State.orwTake (s : State) (b ty : Nat) (f : State → State) : State :=
  if s.orwHolds b ty then
    let t := s.setFld fTB_RXB_CTRL_STATE s.aw b 0
    if s.orwGood b ty then f t else t
  else s

/-- A power order breaks R516: its cap, its lifetime or a reserved bit. -/
def orderIllegal (bs : List Byte) : Bool :=
  decide (7200 < payloadNat bs 0 2) || payloadNat bs 8 2 == 0 || decide (8 ≤ payloadNat bs 2 1) || payloadNat bs 3 1 != 0 ||
    payloadNat bs 12 4 != 0

/-- The nanosecond counter at the end of the frame a receive buffer of the active warden holds (Table TB-18). -/
def State.rxTime (s : State) (b : Nat) : Nat :=
  (s.reg .TB_RXB_TS s.aw (2 * b)).toNat + (s.reg .TB_RXB_TS s.aw (2 * b + 1)).toNat * 2 ^ 32

/-- A legal power order becomes the rack's (R516): its lifetime runs from its receipt at `at_`. -/
def State.rackOrder (s : State) (at_ : Nat) (bs : List Byte) : State :=
  let fl := payloadNat bs 2 1
  let v := pack [(payloadNat bs 4 4, 32), (1, 31), (fl / 2 % 4, 24), (fl % 2, 16), (payloadNat bs 0 2, 0)]
  let t := (s.setWreg .TH_ORDER_RACK 0 v).setWfld fTB_ORW_STAT_ORDER_SEQ 0 (payloadNat bs 10 2)
  let t := t.setLat .rackEnd 0 0 (at_ + payloadNat bs 8 2 * 1000000000 + 1)
  (t.orderArrives 1 (fl / 2 % 4) (payloadNat bs 4 4)).formOrder s (some 0)

/-- POWER_ORDER in a receive buffer of the active warden. -/
def execPowerOrder (b : Nat) (s : State) : Out :=
  ifUnit (b < 32)
    (let bs := s.rxBytes b
    s.orwTake b 2 fun t =>
      if s.rxIdPart b 11 6 ≠ 0 then t.tbEvent t.aw 0x6151 .warn (s.rxIdPart b 11 6)
      else if orderIllegal bs then (t.tbEvent t.aw 0x6150 .warn 0).powerReport 1 (payloadNat bs 10 2)
      else t.rackOrder (s.rxTime b) bs)

/-- POWER_ORDER_EXPIRE (R517). -/
def execPowerOrderExpire (s : State) : Out :=
  .next (if s.wflag fTH_ORDER_RACK_VALID 0 then
      let dr := s.lat .drained 0 0
      let t := ((s.setWfld fTH_ORDER_RACK_VALID 0 0).setLat .rackEnd 0 0 0).setLat .drained 0 0 (dr - (dr &&& 2))
      (t.tbEvent t.aw 0x6152 .note 0).formOrder s (some 2)
    else s)

/-- STATUS_REQUEST: answered to node 0 (R518). -/
def execStatusRequest (b : Nat) (s : State) : Out :=
  ifUnit (b < 32) (s.orwTake b 7 fun t => if s.rxIdPart b 11 6 = 0 then t.statusSend t.forced else t)

/-- STATUS_PERIODIC. -/
def execStatusPeriodic (s : State) : Out := .next (if s.fld fTB_CFG_STAT_MS s.aw 0 = 0 then s else s.statusSend s.forced)

/-- EMERGENCY_RECEIVE (R521). -/
def execEmergencyReceive (b : Nat) (s : State) : Out :=
  ifUnit (b < 32)
    (s.orwTake b 1 fun t => t.tbEvent t.aw 0x6141 .note (s.rxIdPart b 11 6))

/-- The 32 bytes of a record (Table WD-15). -/
def Record.bytes (r : Record) : List Byte :=
  leBytes 8 r.time.toNat ++ leBytes 2 r.code ++ leBytes 2 r.unit ++ leBytes 1 r.sev ++ leBytes 1 r.flags ++ leBytes 2 r.skipped ++
    leBytes 16 r.payload

/-- EVENT_FORWARD: the next record at or above FWD_SEV, while no EVENT is pending, FWD_MAX allows one more in this second,
and a transmit buffer is free (R519). -/
def execEventForward (s : State) : Out :=
  let w := s.aw
  let sec := s.now / 1000000000
  let n := if s.lat .fwdSec 0 0 = sec then s.lat .fwdCount 0 0 else 0
  let busy := (List.range 32).any fun b => s.txStatus w b == 1 && s.fld fTB_TXB_ID_ID w b / 2 ^ 18 % 256 == 5 && s.flag fTB_TXB_ID_IDE w b
  let may := s.flag fWD_ROLE_ACTIVE w 0 && s.flag fTB_CFG_ORW_EN w 0 && s.flag fTB_CTL_FD_EN w 0 && !busy &&
    decide (n < s.fld fTB_CFG_FWD_MAX w 0) && (s.freeTx w).isSome
  let p := s.wfld fTB_FWD_PTR 0
  let rs := s.sticky.records
  .next (if may then
      match (List.range' p (rs.length - p)).find? fun i => decide (s.fld fTB_CFG_FWD_SEV w 0 ≤ (rs[i]?.map Record.sev).getD 0) with
      | some i =>
        let t := (s.setWfld fTB_FWD_PTR 0 (i + 1)).sendOrw 5 0 ((rs[i]?.map Record.bytes).getD []) 15 0
        (t.setLat .fwdSec 0 0 sec).setLat .fwdCount 0 0 (n + 1)
      | none => s.setWfld fTB_FWD_PTR 0 rs.length
    else s)

/-- The Orwilos filters of a node ID (Table TB-10): ID, MASK, FIRST, COUNT and MODE. -/
def orwFilters (n : Nat) : List (Nat × Nat × Nat × Nat × Nat) :=
  [(1, 2, n, 0 + 2 * 32, 1), (1, 2, 63, 2 + 2 * 32, 1), (4, 7, n, 4 + 4 * 32, 0), (4, 7, 63, 4 + 4 * 32, 0), (0, 1, 63, 8 + 4 * 32, 0),
   (5, 8, 63, 12 + 4 * 32, 0)]

/-- A warden's firmware sets the filters, and joins the bus (R495, R497, Table TB-10). -/
def State.tbStart (s : State) (w : Nat) : State :=
  let t := s.each ((orwFilters (s.fld fTB_STAT_NODE w 0)).zipIdx) fun x u =>
    let (pr, ty, dst, place, mode) := x.1
    let u := u.setReg .TB_FILT_ID w x.2 (pack [(3, 30), (orwId pr ty dst 0 0, 0)])
    let u := u.setReg .TB_FILT_MASK w x.2 0x1FFFF000
    u.setReg .TB_FILT_BUF w x.2 (pack [(mode, 14), (place / 32, 8), (place % 32, 0)])
  if t.flag fTB_CFG_AUTO w 0 then t.autorate w else t.mayJoin w

end Sys2Proof.Machine
end

