-- ==== Sys2Proof/Machine/Bringup.lean ====
section
/-! DEFINITION. The meanings of bring-up, die power and shutdown commands (R193, R527, R534 to R537, R541 to R546, R553,
R561). -/

namespace Sys2Proof.Machine

/-! ## The steps of bring-up (R541, R542, Table RST-8) -/

/-- The timebase runs from the crystal once the wardens have passed their self-test (Table ST-6). -/
def State.timebaseUp (s : State) : State :=
  (s.setBoth fWD_TIME_STAT_PLL_LOCK 1).setBoth fWD_TIME_STAT_XTAL_OK (1 - s.fld fWD_TIME_STAT_ON_BACKUP s.aw 0)

/-- Bring-up writes WD_RST_STAT after POR and PKG, with EV 0x7180 (R526, Table RST-12). -/
def State.resetWritten (s : State) : State :=
  let x := s.lat .lastReset 0 0
  if x = 256 then s
  else (s.resetRan (if x = 0 then .por else .pkg) 0xFFFF (if x = 0 then 6 else x % 16)).setLat .lastReset 0 0 256

/-- The self-test step ends (R532, R541): the wardens' firmware joins the tray bus. -/
def State.selfTestDone (s : State) : State :=
  let t := s.timebaseUp.resetWritten.bringupEvents
  ((t.tbStart 62).tbStart 63).enterStep 3

/-- Flow is proven (R542): it has stood for 1 s, leak loops are dry, an inlet and an outlet valid, no leak latch holds. -/
def State.mayProve (s : State) : Bool :=
  s.flowStood 1000000000 &&
  (List.range 4).all (fun k => !(s.wfld fTH_HARD_LEAK_USE 0).testBit k || s.wfld (leakField k) 0 == 0) &&
    !s.inlets.isEmpty && !s.outlets.isEmpty && !s.wflag fWD_FORCE_LEAK_LATCH 0

/-- Flow is proven: the wakes that waited for it take place (R401). -/
def State.flowIsProven (s : State) : State :=
  let t := s.enterStep 5
  t.each ((List.range 48).filter fun d => t.lat .wakeDue d 0 != 0) fun d u => u.wakeDie d

/-- A stack trains (R193): at 9.6 Gb/s, at 8.0 Gb/s, or not at all, which loses its 32 channels. -/
def State.trainStack (s : State) (d k : Nat) (slow failed : Bool) : State :=
  if s.fld fQD_HBM_RATE d k = 3 then s
  else if failed then
    s.each ((List.range' (32 * k) 32).filter fun p => !s.flag fQD_PC_RETIRED d p) fun p t => (t.addRetired (pcUnit d p)).retirePc d p
  else if slow then (s.setFld fQD_HBM_RATE d k 2).event 0x2107 .warn (unitId d k) 0
  else s.setFld fQD_HBM_RATE d k 1

/-- A quarry's memory is up: its stacks trained, its skein in the current epoch (R193, R355). Bit k of `slow` and `failed`
stands for stack k. -/
def State.memoryUp (s : State) (d slow failed : Nat) : State :=
  if s.dieUp d then (s.each (List.range 4) fun k t => t.trainStack d k (slow.testBit k) (failed.testBit k)).quarryBack d else s

/-- A compute die's twins that hold slots go ON at FLOOR; its spindles are HALTED. -/
def State.twinsUp (s : State) (d : Nat) : State :=
  s.each ((List.range 17).filter fun k => !(s.slotsOfTwin d k).isEmpty) fun k t =>
    (t.setVid d k (t.fld fPW_TWIN_AVS_FLOOR d k)).twinOn d k

/-- A die reports ready (R400). -/
def State.dieServes (s : State) (d : Nat) : State :=
  let t := if d < 48 then s.twinsUp d else s
  if t.dieUp d ∧ t.wfld fWD_DIE_PHASE_PHASE d = 1 then t.setWfld fWD_DIE_PHASE_PHASE d 0 else t

/-- The package enters RUN (Table RST-8). -/
def State.enterRun (s : State) : State := (s.each (List.range 62) fun d t => t.dieServes d).enterState 0

/-- No CXL port trains (Table RST-8). -/
def State.cxlSettled (s : State) : Bool := (List.range 4).all fun p => s.cxFld fCX_PORT_STAT_STATE p != 1

/-- The step that runs is complete: the next starts, where the step's own condition of the state holds. Bit
4 * (d − 48) + k of `slow` and `failed` stands for stack k of quarry d. -/
def State.stepComplete (s : State) (slow failed : Nat) : State :=
  match s.wfld fWD_PKG_STAT_STEP 0 with
  | 1 => if s.wflag fWD_PKG_STAT_PWRFAIL 0 then s else s.convertersOn.enterStep 2
  | 2 => if s.forced then s else s.selfTestDone
  | 3 => if s.dieUp 60 then s.enterStep 4 else s
  | 4 => if s.mayProve && s.lat .perst 0 0 == 0 then s.flowIsProven else s
  | 5 => s.enterStep (if s.lat .soakSkip 0 0 = 0 then 6 else 7)
  | 6 => if s.wflag fTH_HB_STAT_SOAKED 0 then s.enterStep 7 else s
  | 7 => (s.each (List.range 8) fun q t => t.memoryUp (48 + q) (slow / 16 ^ q) (failed / 16 ^ q)).enterStep 8
  | 8 => if s.cxlSettled then s.enterStep 9 else s
  | 9 => s.enterRun
  | _ => s

/-- BRINGUP_STEP_COMPLETE. -/
def execBringupStepComplete (slow failed : Nat) (s : State) : Out :=
  .next (if s.pkgState = 3 ∧ s.lat .noPower 0 0 = 0 then s.stepComplete slow failed else s)

/-- FLOW_PROOF_LONG_WAIT (R542). -/
def execFlowProofLongWait (s : State) : Out :=
  .next (if s.pkgState = 3 ∧ s.wfld fWD_PKG_STAT_STEP 0 = 4 then s.wevent 0x5130 .warn 0 0 else s)

/-- A request of the host reaches a port (R543): the answer to a configuration request. A port without power or whose link
is down answers nothing. -/
def execHostConfigRequest (port : Nat) (s : State) : Out :=
  ifUnit (isHostPort port)
    (if !s.dieUp 60 ∨ s.lat .perst port 0 ≠ 0 then s
    else if s.pkgState = 3 ∧ s.wfld fWD_PKG_STAT_STEP 0 ≤ 3 then s.answer .retry []
    else s.answer .ok [])

/-! ## Die power (R536, R537, Table RST-4) -/

/-- A die power request is refused (R536). -/
def State.diePwrBad (s : State) (d x : Nat) : Bool :=
  (decide (56 ≤ d) && x == 1) || (decide (x < 2) && s.holdsMember d) || (x == 0 && decide (60 ≤ d))

/-- Twins of a compute die that are ON go to RETAIN, each when it may (R537). -/
def State.retainTwins (s : State) (d : Nat) : State :=
  s.each ((List.range 17).filter fun k => s.twinState d k == 2) fun k t => t.twinRequest d k 1

/-- WD_DIE_PWR written (R536): REQ 0b11 leaves the field. -/
def State.diePwrWrite (s : State) (d x : Nat) : State :=
  if x = 3 then s
  else if s.diePwrBad d x then s.wevent 0x7181 .warn 0 d
  else
    let t := s.setWfld fWD_DIE_PWR_REQ d x
    if t.pkgState ≠ 0 ∨ t.wfld fWD_DIE_PWR_ACT d = x then t
    else
      let t := if d < 48 ∧ x = 1 then t.retainTwins d else t
      t.setWfld fWD_DIE_PWR_ACT d 3

/-- WD_DIE_PWR_WRITE. -/
def execWdDiePwrWrite (m : Master) (d : Nat) (v : W64) (s : State) : Out :=
  ifUnit (hasRails d) (s.guardedWrite m .WD_DIE_PWR s.aw d fun t => t.diePwrWrite d (getBits v 1 0))

/-- Twins of a compute die in RETAIN go ON again. -/
def State.wakeTwins (s : State) (d : Nat) : State :=
  s.each ((List.range 17).filter fun k => s.twinState d k == 1) fun k t => t.twinOn d k

/-- A die leaves OFF through the die steps of bring-up, "Rails" to "Ready" (R536). -/
def State.dieUpAgain (s : State) (d slow failed : Nat) : State :=
  let t := (s.railsClose d).dieReady d
  let t := if 48 ≤ d ∧ d < 56 then t.memoryUp d slow failed else t
  if t.dieUp d then t.dieServes d else t.setWfld fWD_DIE_PWR_ACT d 0

/-- A die reaches its requested state: RETAIN once every twin may enter it. -/
def State.diePwrDone (s : State) (d slow failed : Nat) : State :=
  match s.wfld fWD_DIE_PWR_REQ d with
  | 0 => (s.isolate d 2).setWfld fWD_DIE_PWR_ACT d 0
  | 1 =>
    if !s.dieUp d then s
    else
      let t := if d < 48 then s.retainTwins d else s
      if (List.range 17).any fun k => t.twinState d k == 2 && decide (d < 48) then t else t.setWfld fWD_DIE_PWR_ACT d 1
  | _ =>
    if s.dieUp d then (if d < 48 then s.wakeTwins d else s).setWfld fWD_DIE_PWR_ACT d 2 else s.dieUpAgain d slow failed

/-- DIE_POWER_CHANGE_DONE; bit k of `slow` and `failed` stands for stack k of a quarry that trains again. -/
def execDiePowerChangeDone (d slow failed : Nat) (s : State) : Out :=
  ifUnit (hasRails d)
    (if s.pkgState = 0 ∧ s.wfld fWD_DIE_PWR_ACT d ≠ s.wfld fWD_DIE_PWR_REQ d then s.diePwrDone d slow failed else s)

/-! ## The ordered shutdown (R545) -/

/-- ORDERED_SHUTDOWN_START. -/
def execOrderedShutdownStart (s : State) : Out := .next s.shutdownStart

/-- ORDERED_SHUTDOWN_STEP: the step that runs completes or reaches its bound. -/
def execOrderedShutdownStep (s : State) : Out := .next s.shutdownStep

/-! ## Standby supply and test port (R553, R561) -/

/-- VSTBY_OUT_FOLDBACK. -/
def execVstbyOutFoldback (s : State) : Out :=
  .next (if s.lat .foldback 0 0 = 0 then (s.setLat .foldback 0 0 1).wevent 0x7190 .warn 0 0 else s)

/-- VSTBY_OUT_RECOVERED. -/
def execVstbyOutRecovered (s : State) : Out :=
  .next (if s.lat .foldback 0 0 = 0 then s else (s.setLat .foldback 0 0 0).wevent 0x7191 .note 0 0)

/-- BSCAN_INSTRUCTION: one that drives balls acts as BYPASS outside OFF. -/
def execBscanInstruction (drives : Bool) (s : State) : Out :=
  .next (if drives ∧ s.pkgState ≠ 2 then s.wevent 0x7182 .warn 0 0 else s)

end Sys2Proof.Machine
end

