-- ==== Sys2Proof/Machine/Flash.lean ====
section
/-! DEFINITION. The meanings of the flash commands and of power failure (R533, R538, R540, R547 to R549, Tables RST-5 to
RST-7). -/

namespace Sys2Proof.Machine

/-! ## Flash programs (R540) -/

/-- The size limit of a table in bytes (Table RST-5). -/
def tableLimit (t : Nat) : Nat :=
  match t with | 1 => 262144 | 2 => 4096 | 3 | 4 => 32768 | 8 => 2048 | _ => 1024

/-- The staged bytes form a copy of table `t` with a right header (Table RST-6). -/
def headerOk (t : Nat) (bs : List Byte) : Bool :=
  decide (32 ≤ bs.length) && leValue (bs.take 4) == t + 2 ^ 16 && leValue ((bs.drop 4).take 4) + 32 == bs.length &&
    BitVec.ofNat 32 (leValue ((bs.drop 12).take 4)) == crc32 (bs.drop 32) && leValue ((bs.drop 16).take 16) == 0

/-- Staged bytes that no table can be made of: the code of the first check that fails (Table RST-7), 0 for none. -/
def State.flashCheck (s : State) (t len : Nat) (bs : List Byte) : Nat :=
  if t = 0 ∨ 8 < t then 1
  else if tableLimit t < len then 2
  else if !headerOk t bs then 3
  else if !((s.resetRegs (fun _ d _ => d == s.aw) fun _ => false).badSections s.aw t (bs.drop 32)).isEmpty then 4
  else 0

/-- A flash command ends with a result: EV 0x7170 on DONE, EV 0x7171 otherwise. -/
def State.flashEnd (s : State) (t r : Nat) : State :=
  let u := ((s.setWfld fWD_FLASH_STAT_BUSY 0 0).setWfld fWD_FLASH_STAT_TABLE 0 t).setWfld fWD_FLASH_STAT_RESULT 0 r
  if r = 0 then u.wevent 0x7170 .note 0 t else u.wevent 0x7171 .warn 0 (t + r * 2 ^ 8)

/-- The flash key of the copy a program of table `t` writes: the one not loaded. -/
def State.flashTarget (s : State) (t : Nat) : Nat := if s.wfld fWD_FLASH_TBL_COPY (t - 1) = 1 then 2 * t + 1 else 2 * t

/-- PROGRAM of table `t`, `len` staged bytes (R540): the copy is erased, and its bytes wait for the end. -/
def State.flashProgram (s : State) (t len : Nat) : State :=
  if s.wflag fWD_FLASH_STAT_BUSY 0 then s.setWfld fWD_FLASH_STAT_RESULT 0 7
  else if len = 0 then s.flashEnd t 0
  else
    let bs := s.bytes (sramAddr (s.aw - 62) 0xC0000) (min len 262144)
    match s.flashCheck t len bs with
    | 0 =>
      let other := sget [] s.flash (s.flashTarget t ^^^ 1)
      let seq := (if other.isEmpty then 0 else copySeq other) + 1
      let u : State := { s with flash := sset [] (sset [] s.flash (s.flashTarget t) [0xFF]) stageKey
                                  (bs.take 8 ++ leBytes 4 seq ++ bs.drop 12) }
      (u.setWfld fWD_FLASH_STAT_BUSY 0 1).setWfld fWD_FLASH_STAT_TABLE 0 t
    | r => s.flashEnd t r

/-- WD_FLASH_CMD written (R12, R412, Table RST-15): the presence of OP is that of the table. -/
def State.flashWrite (s : State) (v : W64) : State :=
  let t := s.plainWrite .WD_FLASH_CMD s.aw 0 (setBits v 3 0 0)
  if getBits v 3 0 = 0 then t
  else if !t.shown t.aw (tablePresence (getBits v 23 16)) then
    t.presenceRefused t.aw (regAddr .WD_FLASH_CMD t.aw 0) (tablePresence (getBits v 23 16))
  else if getBits v 3 0 = 1 then t.flashProgram (getBits v 23 16) (getBits v 63 32)
  else t

/-- FLASH_PROGRAM. -/
def execFlashProgram (m : Master) (v : W64) (s : State) : Out :=
  .next (s.guardedWrite m .WD_FLASH_CMD s.aw 0 fun t => t.flashWrite v)

/-- FLASH_PROGRAM_DONE: `good` where the bytes read back; FLASH_FAIL otherwise, and while VSTBY_OUT is folded back (R553). -/
def execFlashProgramDone (good : Bool) (s : State) : Out :=
  .next (if s.wflag fWD_FLASH_STAT_BUSY 0 then
      let t := s.wfld fWD_FLASH_STAT_TABLE 0
      if good && s.lat .foldback 0 0 == 0 then
        let u : State := { s with flash := sset [] (sset [] s.flash (s.flashTarget t) (sget [] s.flash stageKey)) stageKey [] }
        u.flashEnd t 0
      else
        let u : State := { s with flash := sset [] s.flash stageKey [] }
        u.flashEnd t 5
    else s)

/-- LEAK_RECORD_WRITE_DONE (R533): UNLATCH since then has erased it. -/
def execLeakRecordWriteDone (s : State) : Out :=
  .next (if s.lat .leakRecord 0 0 = 0 then s
    else
      let t := s.setLat .leakRecord 0 0 0
      if t.wflag fWD_FORCE_LEAK_LATCH 0 then { t with flash := sset [] t.flash leakKey [1] } else t)

/-! ## Power failure (R547 to R549, R552) -/

/-- PWRFAIL_ASSERT: OFF at once, and a save; a flash program ends ABANDONED (R540). -/
def execPwrfailAssert (s : State) : Out :=
  .next (if s.wflag fWD_PKG_STAT_PWRFAIL 0 then s
    else
      let t := s.setWfld fWD_PKG_STAT_PWRFAIL 0 1
      let t := if t.wflag fWD_FLASH_STAT_BUSY 0 then
          let u : State := { t with flash := sset [] t.flash stageKey [] }
          u.flashEnd (t.wfld fWD_FLASH_STAT_TABLE 0) 6
        else t
      (t.downToOff 3).startSave)

/-- What a save holds (R410, R547, R549). -/
def State.saveOf (s : State) (good : Bool) : Save :=
  { good := good, warden := s.aw, tallies := s.sticky.tallies, expiries := s.wfld fWD_WDOG_STAT_EXPIRIES 0,
    locate := s.wfld fWD_LED_LOCATE 0, ptr := s.wfld fTB_FWD_PTR 0, records := s.sticky.records, evStat := s.wreg .EV_STAT 0,
    suppressed := (List.range 1024).filterMap fun i =>
      let x := s.wfld fEV_LIMIT1_SUPPRESSED i
      if x = 0 then none else some (i, x) }

/-- POWER_FAIL_SAVE_DONE: a save cannot succeed into an area that is not erased (R549); a PKG reset that waited runs
(R530). -/
def execPowerFailSaveDone (good : Bool) (s : State) : Out :=
  .next (if s.wflag fWD_PKG_STAT_SAVING 0 then
      let ok := good && s.lat .eraseDue 0 0 == 0 && s.lat .foldback 0 0 == 0
      let t : State := { s with saved := some (s.saveOf ok) }
      let t := (t.setWfld fWD_PKG_STAT_SAVING 0 0).setWfld fWD_PKG_STAT_SAVE_OK 0 ok.toNat
      if t.lat .pkgDue 0 0 = 0 then t else t.pkgReset (t.lat .pkgDue 0 0 - 1)
    else s)

/-- The save area is erased. -/
def State.eraseSave (s : State) : State :=
  let t : State := { s with saved := none }
  (t.setWfld fWD_PKG_STAT_SAVE_OK 0 0).setLat .eraseDue 0 0 0

/-- PWRFAIL_DEASSERT (R548): the save is discarded, and the package returns from the OFF that PWRFAIL_N led to. -/
def execPwrfailDeassert (s : State) : Out :=
  .next (if s.wflag fWD_PKG_STAT_PWRFAIL 0 && !s.wflag fWD_PKG_STAT_SAVING 0 then
      let t := s.setWfld fWD_PKG_STAT_PWRFAIL 0 0
      let t := if t.saved.isSome ∧ t.lat .eraseDue 0 0 = 0 then t.eraseSave.wevent 0x4315 .note 0 0 else t
      if t.pkgState = 2 ∧ t.lat .offCause 0 0 = 3 then (t.setLat .offCause 0 0 4).tryReturn else t
    else s)

/-- SAVE_AREA_ERASE_DONE (R549). -/
def execSaveAreaEraseDone (s : State) : Out := .next (if s.lat .eraseDue 0 0 = 0 then s else s.eraseSave)

end Sys2Proof.Machine
end

