-- ==== Sys2Proof/Machine/Loops.lean ====
section
/-! DEFINITION. The control engine (R456 to R470, R487): loops, the test-signal generator, the capture, and the meanings of
their commands. -/

namespace Sys2Proof.Machine

/-! ## Q8.40 arithmetic (R457) -/

/-- The limits of Q8.40. -/
def sat48 (x : Int) : Int := max (-(2 ^ 47 : Int)) (min x (2 ^ 47 - 1 : Int))

/-- A sum. -/
def qadd (a b : Int) : Int := sat48 (a + b)

/-- A product, truncated toward −∞. -/
def qmul (a b : Int) : Int := sat48 (a * b / 2 ^ 40)

/-- Q8.40 truncated toward −∞ to Q4.28, held to 32 bits. -/
def narrow (x : Int) : Nat := satSigned 32 (x / 4096)

/-- `x` held between two limits. -/
def clampTo (x lo hi : Int) : Int := max lo (min x hi)

/-! ## A loop's coefficients and clamps (R459) -/

/-- The integrator. -/
def State.loopI (s : State) (w k : Nat) : Int := signedOf 48 (s.fld fCE_LOOP_I_I w k)

/-- A 48-bit latch of a loop. -/
def State.loopLat (s : State) (l : Lat) (w k : Nat) : Int := signedOf 48 (s.lat l w k)

/-- Set a 48-bit latch of a loop. -/
def State.setLoopLat (s : State) (l : Lat) (w k : Nat) (x : Int) : State := s.setLat l w k (ofSigned 48 x)

/-- A loop's unit (Table ACT-1). -/
def loopUnit (w k : Nat) : Nat := unitId w (0x100 + k)

/-- EV 0x5304 of a loop, with the refusal's code in RESULT. -/
def State.loopRefused (s : State) (w k result : Nat) : State :=
  (s.putFld fCE_LOOP_STAT_RESULT w k result).event 0x5304 .warn (loopUnit w k) result

/-! ## The test signal (R468, R469) -/

/-- The generator's unit. -/
def State.tsgUnit (s : State) : Nat := unitId s.aw 0x110

/-- The signal ends. -/
def State.tsgEnd (s : State) : State :=
  if s.wflag fCE_TSG_STAT_RUNNING 0 then (s.setWfld fCE_TSG_STAT_RUNNING 0 0).event 0x5303 .note s.tsgUnit 1 else s

/-- The signal is injected in a loop of the active warden. -/
def State.tsgOn (s : State) (w k : Nat) : Bool := w == s.aw && s.wflag fCE_TSG_STAT_RUNNING 0 && s.wfld fCE_TSG_CFG_LOOP 0 == k

/-- The PRBS register after one bit: feedback x¹¹ + x⁹ + 1, the bit leaving at stage 11. -/
def prbsNext (r : Nat) : Nat := r * 2 % 2048 + (((r / 1024) + (r / 256)) % 2)

/-- The signal's value at its sample, widened. -/
def State.tsgValue (s : State) (k : Nat) : Int :=
  let amp := s.loopQ fCE_TSG_CFG_AMP s.aw 0
  let n := s.lat .tsgN 0 0
  match s.wfld fCE_TSG_CFG_KIND 0 with
  | 1 => if s.wfld fCE_TSG_TIME_DELAY 0 ≤ n ∧ n < s.wfld fCE_TSG_TIME_DELAY 0 + s.wfld fCE_TSG_TIME_LEN 0 then amp else 0
  | 2 => if s.lat .tsgReg 0 0 / 1024 = 1 then amp else sat48 (-amp)
  | _ =>
    if n = 0 then 0
    else qmul amp (Config.sweepSine (s.wfld fCE_TSG_FREQ_F0 0) (s.wfld fCE_TSG_FREQ_F1 0) (s.wfld fCE_TSG_TIME_LEN 0)
      (s.wfld fCE_LOOP_CFG_PERIOD k) n)

/-- Samples of the whole signal. -/
def State.tsgLen (s : State) : Nat :=
  s.wfld fCE_TSG_TIME_LEN 0 + (if s.wfld fCE_TSG_CFG_KIND 0 = 1 then s.wfld fCE_TSG_TIME_DELAY 0 else 0)

/-- The signal's next sample. -/
def State.tsgStep (s : State) : State :=
  let n := s.lat .tsgN 0 0 + 1
  let b := s.wfld fCE_TSG_TIME_BIT 0
  let t := s.setLat .tsgN 0 0 n
  let t := if s.wfld fCE_TSG_CFG_KIND 0 = 2 ∧ n % b = 0 then t.setLat .tsgReg 0 0 (prbsNext (t.lat .tsgReg 0 0)) else t
  if t.tsgLen ≤ n then t.tsgEnd else t

/-! ## The capture (R470) -/

/-- A capture completes. -/
def State.capEnd (s : State) : State :=
  if s.wflag fCE_CAP_STAT_RUNNING 0 then (s.setWfld fCE_CAP_STAT_RUNNING 0 0).event 0x5305 .note s.tsgUnit 0 else s

/-- One sample goes to the capture writer, which holds up to 16 for the bank and drops one that finds it full (R242); a ring wraps, and a capture without it stops when the bank is full. -/
def State.capPut (s : State) (x : Nat) : State :=
  if !s.wflag fCE_CAP_STAT_RUNNING 0 then s
  else
    let p := s.lat .capPos 0 0
    let b : Bank := .sram (s.aw - 62) 2
    if 16 ≤ ((s.bankQueue b).filter fun y => y.req.source == .capture).length then
      (s.satWfld fWD_BNK_STAT_CAP_DROP 0 1).event 0x7142 .warn (s.bankUnit b) 0
    else
    let t := s.bankAccess b [⟨.capture, 4 * p, 4, some (leBytes 4 x), 0, []⟩]
    let t := ({ t with reply := s.reply } : State).setWfld fCE_CAP_STAT_COUNT 0 (min (t.wfld fCE_CAP_STAT_COUNT 0 + 1) 65536)
    if p < 65535 then t.setLat .capPos 0 0 (p + 1)
    else if s.wflag fCE_CAP_CFG_RING 0 then (t.setLat .capPos 0 0 0).setWfld fCE_CAP_STAT_WRAPPED 0 1
    else t.capEnd

/-- A sample of a loop: at each DECIM-th, a frame of the selected signals in ascending bit order. -/
def State.capSample (s : State) (k : Nat) (sigs : List Nat) : State :=
  if s.wflag fCE_CAP_STAT_RUNNING 0 && s.wfld fCE_CAP_CFG_LOOP 0 == k then
    if s.lat .capDec 0 0 + 1 < s.wfld fCE_CAP_CFG_DECIM 0 then s.setLat .capDec 0 0 (s.lat .capDec 0 0 + 1)
    else
      (s.setLat .capDec 0 0 0).each
        (((List.range 8).filter fun b => (s.wfld fCE_CAP_CFG_SIG 0).testBit b).map fun b => sigs.getD b 0) fun x t => t.capPut x
  else s

/-- A capture begins. -/
def State.capStart (s : State) : State :=
  let t := ((s.setLat .capArm 0 0 0).setLat .capPos 0 0 0).setLat .capDec 0 0 (s.wfld fCE_CAP_CFG_DECIM 0 - 1)
  ((t.setWfld fCE_CAP_STAT_RUNNING 0 1).setWfld fCE_CAP_STAT_COUNT 0 0).setWfld fCE_CAP_STAT_WRAPPED 0 0

/-! ## A sample (R457, R458, R461 to R467) -/

/-- What a sample reads and computes before the integrator: setpoint, process variable, error, whether every source is valid,
p + d + ff + bias, the new filter state, the feed-forward term and the test signal. -/
structure Terms where
  sp : Int
  pv : Int
  e : Int
  valid : Bool
  p : Int
  d : Int
  ff : Int
  bias : Int
  test : Int
  deriving DecidableEq, Repr

/-- v without the test output: p + i + d + ff + bias, each sum saturating. -/
def Terms.total (x : Terms) (i : Int) : Int := qadd (qadd (qadd (qadd x.p i) x.d) x.ff) x.bias

/-- The sources of a sample and its terms with coefficient set `set`. -/
def State.terms (s : State) (w k set : Nat) : Terms :=
  let j := setIx k set
  let on := s.tsgOn w k
  let test := if on then s.tsgValue k else 0
  let pv := s.source w (s.fld fCE_LOOP_CFG_PV_SRC w k)
  let src := s.fld fCE_LOOP_CFG_SP_SRC w k
  let sp := if src = 1 then (signedOf 32 (s.fld fCE_LOOP_SP_SP w k), true) else s.source w src
  let ff := s.source w (s.fld fCE_LOOP_CFG_FF_SRC w k)
  let pvw := wide pv.1
  let spw := if on && !s.wflag fCE_TSG_CFG_POINT 0 then qadd (wide sp.1) test else wide sp.1
  let e := qadd spw (-pvw)
  let dd := qmul (s.loopQ fCE_LOOP_SET1_KD w j) (qadd (s.loopLat .loopPv w k) (-pvw))
  let d := s.loopLat .loopD w k
  let d := qadd d (qmul (s.loopQ fCE_LOOP_SET1_KDF w j) (qadd dd (-d)))
  ⟨spw, pvw, e, pv.2 && sp.2 && ff.2, qmul (s.loopQ fCE_LOOP_SET0_KP w j) e, d, qmul (s.loopQ fCE_LOOP_SET2_KFF w j) (wide ff.1),
    s.loopQ fCE_LOOP_SET2_BIAS w j, test⟩

/-- R462: the integrator re-seeded from u_prev, `old` the clamps of the set leaving force and `new` those entering. -/
def reseed (x : Terms) (i uPrev : Int) (old new : Int × Int) : Int :=
  if i = old.2 then new.2
  else if i = old.1 then new.1
  else clampTo (qadd uPrev (-(x.total 0))) new.1 new.2

/-- R457: conditional integration. -/
def integrate (x : Terms) (ki i : Int) (c : Int × Int) : Int :=
  let di := qmul ki x.e
  let v0 := x.total i
  if !(decide (c.2 ≤ v0) && decide (0 < di)) && !(decide (v0 ≤ c.1) && decide (di < 0)) then clampTo (qadd i di) c.1 c.2 else i

/-- The drive a loop's destination holds, as an output in Q8.40; a loop without one, its last output. -/
def State.heldOutput (s : State) (w k : Nat) : Int :=
  let c := s.fld fCE_LOOP_CFG_DEST w k
  if c < 6 then ((s.wfld fFP_STAT_DRIVE c : Int) * 2 ^ 40) / 1000 else s.loopLat .loopU (if w = s.aw then w else s.aw) k

/-- The destination is driven by rows 1 to 5 of Table ACT-10 (R458). -/
def State.overridden (s : State) (w k : Nat) : Bool :=
  let c := s.fld fCE_LOOP_CFG_DEST w k
  decide (c < 6) && decide ((s.driveRow c).1 ≤ 5)

/-- A sample's results: state shown, integrator, output, and what the next sample reads. -/
def State.loopPut (s : State) (w k st : Nat) (x : Terms) (i u : Int) : State :=
  let t := (s.putFld fCE_LOOP_STAT_STATE w k st).putFld fCE_LOOP_I_I w k (ofSigned 48 i)
  let t := (t.putFld fCE_LOOP_OUT_U w k (narrow u)).putFld fCE_LOOP_OUT_E w k (narrow x.e)
  let t := ((t.setLoopLat .loopD w k x.d).setLoopLat .loopPv w k x.pv).setLoopLat .loopU w k u
  t.setLat .loopRan w k 1

/-- The following error has stood for longer than FE_TIME_MS (R466); the state counts its samples. -/
def State.following (s : State) (w k : Nat) (x : Terms) : Bool × State :=
  let lim := s.loopQ fCE_LOOP_SUP_FE_LIMIT w k
  let n := s.lat .feTime w k
  if lim = 0 ∨ (x.e.natAbs : Int) ≤ lim then (false, s.setLat .feTime w k 0)
  else
    let ms := s.fld fCE_LOOP_SUP_FE_TIME_MS w k
    (ms == 0 || decide (ms * 20 < n * s.fld fCE_LOOP_CFG_PERIOD w k), s.setLat .feTime w k (n + 1))

/-- The output a loop takes in FAULT (Table ACT-4). -/
def State.faultOutput (s : State) (w k : Nat) : Int :=
  let lo := s.loopQ fCE_LOOP_SAFE_SAFE_MIN w k
  let hi := s.loopQ fCE_LOOP_SAFE_SAFE_MAX w k
  match s.fld fCE_LOOP_SUP_ACTION w k with
  | 1 => clampTo (s.loopQ fCE_LOOP_FS_FS_OUT w k) lo hi
  | 2 => clampTo 0 lo hi
  | _ => s.loopLat .loopU w k

/-- A waiting swap at a boundary in FAULT is refused (R461, R463). -/
def State.swapInFault (s : State) (w k : Nat) : State :=
  if s.flag fCE_LOOP_CTL_SWAP_PEND w k then (s.putFld fCE_LOOP_CTL_SWAP_PEND w k 0).loopRefused w k 2 else s

/-- The swap of a boundary: refused where the other set's clamps cross (R461). The Bool says that it took place. -/
def State.swap (s : State) (w k : Nat) : Bool × State :=
  if !s.flag fCE_LOOP_CTL_SWAP_PEND w k then (false, s)
  else
    let o := 1 - s.loopSet w k
    let c := s.clamps w k o
    let t := s.putFld fCE_LOOP_CTL_SWAP_PEND w k 0
    if c.2 < c.1 then (false, t.loopRefused w k 1)
    else (true, (t.putFld fCE_LOOP_STAT_SET w k o).event 0x5302 .note (loopUnit w k) o)

/-- The test signal at a sample ends where its loop leaves AUTO (R469), else takes its next sample. -/
def State.tsgAfter (s : State) (w k st : Nat) (on : Bool) : State := if !on then s else if st = 1 then s.tsgStep else if s.tsgOn w k then s.tsgEnd else s

/-- A sample of a loop in AUTO or MANUAL that does not stand in FAULT. `uPrev` is what the integrator re-seeds from where
`seed` says so: after a swap, an override, a fault, or a start from OFF. -/
def State.loopLaw (s : State) (w k mode : Nat) (old : Int × Int) (swapped seed : Bool) (uPrev : Int) : State :=
  let set := s.loopSet w k
  let c := s.clamps w k set
  let x := s.terms w k set
  let i := s.loopI w k
  let above := s.overridden w k
  let u := s.loopLat .loopU w k
  if mode = 2 then
    let u := clampTo (s.loopQ fCE_LOOP_MAN_MAN w k) c.1 c.2
    (s.loopPut w k (if above then 4 else 2) x (reseed x i u (if swapped then old else c) c) u).setLat .loopOver w k above.toNat
  else
    let i := if swapped || seed then reseed x i (if seed then uPrev else u) (if swapped then old else c) c
      else if above then i else integrate x (s.loopQ fCE_LOOP_SET0_KI w (setIx k set)) i c
    let test := if s.wflag fCE_TSG_CFG_POINT 0 then x.test else 0
    (s.loopPut w k (if above then 4 else 1) x i (clampTo (qadd (x.total i) test) c.1 c.2)).setLat .loopOver w k above.toNat

/-- A sample outside FAULT and without a fault condition. -/
def State.loopNormal (s : State) (w k mode : Nat) (leaving : Bool) : State :=
  let c := s.clamps w k (s.loopSet w k)
  let b := s.swap w k
  let t := b.2
  let ended := t.lat .loopOver w k != 0 && !t.overridden w k
  let fresh := t.lat .loopRan w k == 0
  t.loopLaw w k mode c b.1 (leaving || ended || fresh)
    (if leaving then t.loopLat .loopU w k else t.heldOutput w k)

/-- The signals of Table ACT-14's SIG after a sample. -/
def State.loopSignals (s : State) (w k : Nat) (x : Terms) : List Nat :=
  [narrow x.sp, narrow x.pv, narrow x.e, s.fld fCE_LOOP_OUT_U w k, narrow (s.loopI w k), narrow x.d, narrow x.ff, narrow x.test]

/-- A loop in MODE OFF takes no sample; a fault holds until it is cleared (R464, R467). -/
def State.loopOff (s : State) (w k : Nat) : State :=
  let t := if s.tsgOn w k then s.tsgEnd else s
  (((t.putFld fCE_LOOP_STAT_STATE w k 0).setLat .loopRan w k 0).setLat .loopOver w k 0).settleAll

/-- A sample of the active warden's loop in MODE AUTO or MANUAL. -/
def State.loopActive (s : State) (w k : Nat) : State :=
  let mode := s.fld fCE_LOOP_CFG_MODE w k
  let on := s.tsgOn w k
  let x := s.terms w k (s.loopSet w k)
  let f := s.following w k x
  let bad := !x.valid || f.1
  let inFault := s.fld fCE_LOOP_STAT_STATE w k == 3
  let clr := s.lat .loopClr w k != 0
  let t := f.2.setLat .loopClr w k 0
  let t :=
    if inFault && (bad || !clr) then
      (((if clr then t.loopRefused w k 4 else t).swapInFault w k).setLoopLat .loopPv w k x.pv).putFld fCE_LOOP_OUT_E w k (narrow x.e)
    else if !inFault && mode == 1 && bad then
      let u := t.faultOutput w k
      let v := (t.event 0x5301 .fault (loopUnit w k) ((if f.1 then 1 else 2) + narrow x.sp * 2 ^ 8 + narrow x.pv * 2 ^ 40)).swapInFault w k
      v.loopPut w k 3 { x with d := v.loopLat .loopD w k } (v.loopI w k) u
    else if mode = 0 then t.loopOff w k
    else t.loopNormal w k mode inFault
  let t := t.tsgAfter w k (t.fld fCE_LOOP_STAT_STATE w k) on
  (t.capSample k (t.loopSignals w k x)).settleAll

/-- A sample of the standby warden's loop: it tracks (R465). -/
def State.loopTrack (s : State) (w k : Nat) : State :=
  let set := s.loopSet w k
  let c := s.clamps w k set
  let x := s.terms w k set
  let i := reseed x (s.loopI w k) (s.heldOutput w k) c c
  s.loopPut w k 5 x i (clampTo (x.total i) c.1 c.2)

/-- LOOP_SAMPLE of warden `w` at a boundary of loop `k`. -/
def execLoopSample (w k : Nat) (s : State) : Out :=
  ifUnit (decide (w < 2) && decide (k < 16))
    (let d := 62 + w
    if s.lat .wardenHeld d 0 ≠ 0 then s
    else if s.fld fCE_LOOP_CFG_MODE d k = 0 ∧ (s.fld fCE_LOOP_STAT_STATE d k ≠ 3 ∨ d ≠ s.aw) then s.loopOff d k
    else if d = s.aw then s.loopActive d k
    else s.loopTrack d k)

/-! ## Loop commands (R460, R461, R464, R467, R487) -/

/-- LOOP_SWAP: CE_LOOP_CTL.SWAP of the active warden. -/
def execLoopSwap (m : Master) (k : Nat) (v : W64) (s : State) : Out :=
  ifUnit (k < 16) (s.guardedWrite m .CE_LOOP_CTL s.aw k fun t =>
    if bitOf v 0 then t.setWfld fCE_LOOP_CTL_SWAP_PEND k 1 else t)

/-- LOOP_CLR_FAULT: CE_LOOP_CTL.CLR_FAULT. -/
def execLoopClrFault (m : Master) (k : Nat) (v : W64) (s : State) : Out :=
  ifUnit (k < 16) (s.guardedWrite m .CE_LOOP_CTL s.aw k fun t =>
    if bitOf v 1 && t.wfld fCE_LOOP_STAT_STATE k == 3 then t.setLat .loopClr t.aw k 1 else t)

/-- LOOP_MODE_WRITE: CE_LOOP_CFG; its mode takes effect at the next boundary. -/
def execLoopModeWrite (m : Master) (k : Nat) (v : W64) (s : State) : Out :=
  ifUnit (k < 16) (s.guardedWrite m .CE_LOOP_CFG s.aw k fun t =>
    if getBits v 1 0 = 3 ∨ (t.wpOk .CE_LOOP_CFG t.aw k v = true ∧ t.loopCfgLegal t.aw k v = false) then
      (match refusedField .CE_LOOP_CFG (fun f => t.shown t.aw (f.needs v)) (t.reg .CE_LOOP_CFG t.aw k) v with
        | some f => t.presenceRefused t.aw (regAddr .CE_LOOP_CFG t.aw k) (f.needs v)
        | none => t).event 0x5304 .warn (loopUnit t.aw k) 0
    else t.plainWrite .CE_LOOP_CFG t.aw k v)

/-- The register of a part of a coefficient set: its four 64-bit words in order. -/
def setReg (part : Nat) : Reg :=
  match part with
  | 0 => .CE_LOOP_SET0 | 1 => .CE_LOOP_SET1 | 2 => .CE_LOOP_SET2 | _ => .CE_LOOP_SET3

/-- LOOP_SET_WRITE: of the set not in force; KDF from 0 to 1.0. -/
def execLoopSetWrite (m : Master) (k set part : Nat) (v : W64) (s : State) : Out :=
  ifUnit (decide (k < 16) && decide (set < 2) && decide (part < 4)) (s.guardedWrite m (setReg part) s.aw (setIx k set) fun t =>
    if t.loopSet t.aw k = set then t.loopRefused t.aw k 3
    else if part = 1 ∧ 0x10000000 < getBits v 63 32 then t.event 0x5304 .warn (loopUnit t.aw k) 0
    else t.plainWrite (setReg part) t.aw (setIx k set) v)

/-! ## Generator and capture commands (R469, R470) -/

/-- Why a start of the generator is refused: RESULT, 0 where it is not. -/
def State.tsgResult (s : State) : Nat :=
  let kind := s.wfld fCE_TSG_CFG_KIND 0
  let k := s.wfld fCE_TSG_CFG_LOOP 0
  let badFreq := fun (f : Nat) => f == 0 || decide (10000000 ≤ f * s.wfld fCE_LOOP_CFG_PERIOD k)
  if s.wflag fCE_TSG_STAT_RUNNING 0 then 1
  else if kind = 0 ∨ 3 < kind then 2
  else if s.wfld fCE_LOOP_STAT_STATE k ≠ 1 then 3
  else if kind = 2 ∧ s.wfld fCE_TSG_TIME_BIT 0 = 0 then 4
  else if kind = 3 ∧ (badFreq (s.wfld fCE_TSG_FREQ_F0 0) || badFreq (s.wfld fCE_TSG_FREQ_F1 0)) = true then 5
  else 0

/-- TSG_START. -/
def execTsgStart (m : Master) (v : W64) (s : State) : Out :=
  .next (s.guardedWrite m .CE_TSG_CMD s.aw 0 fun t =>
    if !bitOf v 0 then t
    else
      let r := t.tsgResult
      if r ≠ 0 then (t.setWfld fCE_TSG_STAT_RESULT 0 r).event 0x5304 .warn t.tsgUnit r
      else
        let u := ((t.setWfld fCE_TSG_STAT_RESULT 0 0).setWfld fCE_TSG_STAT_RUNNING 0 1).setLat .tsgN 0 0 0
        let u := (u.setLat .tsgReg 0 0 1).event 0x5303 .note t.tsgUnit 0
        let u := if u.lat .capArm 0 0 = 0 then u else u.capStart
        if u.wfld fCE_TSG_TIME_LEN 0 = 0 then u.tsgEnd else u)

/-- TSG_STOP. -/
def execTsgStop (m : Master) (v : W64) (s : State) : Out :=
  .next (s.guardedWrite m .CE_TSG_CMD s.aw 0 fun t => if bitOf v 1 then t.tsgEnd else t)

/-- Signals selected. -/
def State.capSigs (s : State) : Nat := ((List.range 8).filter fun b => (s.wfld fCE_CAP_CFG_SIG 0).testBit b).length

/-- CAPTURE_START. -/
def execCaptureStart (m : Master) (v : W64) (s : State) : Out :=
  .next (s.guardedWrite m .CE_CAP_CMD s.aw 0 fun t =>
    if !bitOf v 0 then t
    else
      let bank := t.wfld fWD_BNK_PWR_ACT 0 / 16 % 4
      let r := if t.capSigs = 0 ∨ 4 < t.capSigs then 1 else if t.wfld fCE_CAP_CFG_DECIM 0 = 0 then 2 else if bank ≠ 2 then 3 else 0
      let u := t.setWfld fCE_CAP_STAT_RESULT 0 r
      if r ≠ 0 then u.event 0x5304 .warn t.tsgUnit r
      else if t.wflag fCE_CAP_CFG_TRIG 0 then u.setLat .capArm 0 0 1
      else u.capStart)

/-- CAPTURE_STOP. -/
def execCaptureStop (m : Master) (v : W64) (s : State) : Out :=
  .next (s.guardedWrite m .CE_CAP_CMD s.aw 0 fun t => if bitOf v 1 then (t.setLat .capArm 0 0 0).capEnd else t)

end Sys2Proof.Machine
end

