-- ==== Sys2Proof/Machine/Words.lean ====
section
/-! DEFINITION. How a spindle performs the oldest word of its stream (R55 to R67, R92): decode, predicate,
effect, retirement, exception, replay and machine check. Every word's meaning goes through `wordStep`. -/

namespace Sys2Proof.Machine

/-- What performing a word comes to: its effects and the index of the next word; an exception and the
member that raised it; an access by a member to an unpopulated address (R38); effects that the word completes later, so that it does not retire yet; a machine
check of a spindle; a transient compute fault of a spindle's step. -/
inductive Perf where
  | ok (s : State) (pc : Nat)
  | exc (c : Cause) (mem : Nat)
  | addr (a mem : Nat)
  | hold (s : State)
  | check (s : State) (sp cause : Nat)
  | replay (sp : Nat)

/-- The word index of the oldest word. -/
def State.headPc (s : State) (sp : Nat) : Nat :=
  match (s.spin sp).spool.head? with | some e => e.pc | none => s.spFld fSPN_PC_WORD sp

/-- The oldest word can be `w`, and has begun no effect. -/
def State.headIs (s : State) (sp : Nat) (w : W256) : Bool :=
  match (s.spin sp).spool.head? with | some e => e.word == w && !e.started | none => true

/-- An interrupt ends a STEP whose word has not issued (R82). -/
def State.stepIrq (s : State) (sp : Nat) : Bool := s.spFlag fSPN_CTL_STEP sp && s.irqDue sp && (s.spin sp).spool.isEmpty

/-- The spindle or ply of `sp` may issue: it runs the stream, is RUNNING with no halt request, its ply has not stopped, no STEP
is already done or ends by an interrupt, and no member's issue is held (R82, R180, R429, R431). -/
def State.mayIssue (s : State) (sp : Nat) : Bool :=
  s.isLead sp && s.spState sp == 3 && !s.spFlag fSPN_CTL_HALT sp && !s.plyStopped sp && s.lat .stepDone sp 0 == 0 &&
    !s.stepIrq sp && (s.mates sp).all fun m => !s.issueHeld m.2

/-- The spindle or ply of `sp` can perform a word: its oldest one, already issued, or one it may issue now. A halt request
(R82) and a stop of the ply (R180) let only a word past its commit point end. -/
def State.canPerform (s : State) (sp : Nat) (w : W256) : Bool :=
  s.isLead sp && s.spState sp == 3 && (!(s.spFlag fSPN_CTL_HALT sp || s.plyStopped sp) || s.lat .cleared sp 0 != 0) &&
    s.lat .stepDone sp 0 == 0 && !s.stepIrq sp && s.headIs sp w &&
    (!(s.spin sp).spool.isEmpty || (s.mates sp).all fun m => !s.issueHeld m.2)

/-- A transient compute fault in the step of spindle `q` (R61, R62): the word replays; at the fourth failure
the spindle takes a machine check. -/
def State.replayWord (s : State) (q : Nat) : State :=
  let t := s.setLat .injReplay (s.spUnit q) 0 0
  let t := ((t.updSpin q fun x => { x with replays := x.replays + 1 }).event 0x1110 .note (s.spUnit q) 0).occur 0x00
    (s.spUnit q)
  if 3 ≤ (s.spin q).replays then s.check q mcReplays else t

/-- A word ends: it retires, but for one whose own store took its spindle out of RUNNING. -/
def State.endWord (s : State) (sp pc : Nat) : State := if s.spState sp = 3 then s.retire sp pc else s

/-- The outcome of a word takes effect. -/
def State.finishWord (s : State) (sp pc : Nat) (p : Perf) : State :=
  match p with
  | .ok t pc' => t.endWord sp pc'
  | .exc c mem => s.takeException sp pc c.1 c.2 mem
  | .addr a mem => (s.event 0x3F01 .warn (s.spUnit sp) a).takeException sp pc 0xA (BitVec.ofNat 64 a) mem
  | .hold t => t
  | .check t q cause => t.check q cause
  | .replay q => s.replayWord q

/-- The cause the stream itself meets before its oldest word is looked at: the one found when the word issued, or FETCH
past the last word (R52). -/
def State.streamCause (s : State) (sp : Nat) : Option Cause :=
  match (s.spin sp).spool.head? with
  | some e => e.cause
  | none => if (s.spin sp).overrun then some (1, 16384) else none

/-- The outcome of the oldest word `w` at `pc`, whose effect is `eff` (R52, R64, R89, R92). -/
def State.wordOutcome (s : State) (sp pc : Nat) (w : W256) (eff : State → Nat → Nat → W256 → Perf) : Perf :=
  match s.streamCause sp with
  | some c => .exc c 0
  | none => match decodeCause s sp w with
    | some c => .exc c 0
    | none => if (s.spin sp).getP (wPred w) then eff s sp pc w else .ok s (pc + 1)

/-- A spindle performs its oldest word. -/
def State.performWord (s : State) (sp : Nat) (w : W256) (eff : State → Nat → Nat → W256 → Perf) : State :=
  let pc := if (s.spin sp).spool.isEmpty && (s.spin sp).overrun then 16384 else s.headPc sp
  s.finishWord sp pc (s.wordOutcome sp pc w eff)

/-- The command of a word of operation `op`: the spindle performs it where it can be its oldest word. -/
def wordStep (op : Nat) (sp : Nat) (w : W256) (s : State) (eff : State → Nat → Nat → W256 → Perf) : Out :=
  ifUnit (sp < nSpindles) (if wOp w = op ∧ s.canPerform sp w then s.performWord sp w eff else s)

end Sys2Proof.Machine
end

