-- ==== Sys2Proof/Machine/SpinControl.lean ====
section
/-! DEFINITION. The control of a spindle from outside its words (chapter 02): run, halt and step requests, doorbells
written to SPN_DB_SET, the timer, write refusals, timeouts of WAIT, interrupts. -/

namespace Sys2Proof.Machine

/-- An SPN_ register of a slot is hidden (R22, R80, R350): reads return zero, writes are ignored. -/
def State.spnHidden (s : State) (sp : Nat) (r : Reg) : Bool :=
  if s.spState sp = 6 then !(r == .SPN_STAT || r == .SPN_MAP) else !spnInCu r && !s.spPowered sp

/-- SPN_IRQ.TIMER sets while the counter is at or past SPN_TIMER_CMP (R72). -/
def State.timerTest (s : State) (sp : Nat) : State :=
  if s.spPowered sp ∧ (s.reg .SPN_TIMER_CMP (spDie sp) (spIdx sp)).toNat ≤ s.now then s.setSpFld fSPN_IRQ_TIMER sp 1 else s

/-- A write of SPN_CTL's RUN, HALT and STEP bits (R82): RUN or STEP with HALT has no effect, nor both together. -/
def State.ctlRequest (s : State) (sp : Nat) (run halt step : Bool) : State :=
  if halt then s.runOp sp .halt
  else if run && step then s
  else if run then s.runOp sp .run
  else if step then s.runOp sp .step
  else s

/-- A write to SPN_CTL reaches the slot: not a member of a ply of more than one, whose control is the sequencer's (R81). -/
def State.ctlWrite (s : State) (m : Master) (sp : Nat) (f : State → State) : State :=
  if !s.dieUp (spDie sp) || s.spnHidden sp .SPN_CTL then s
  else if s.inRealPly sp && m != .hw then s.event 0x1104 .warn (s.spUnit sp) 0
  else f s

/-- SPN_RUN (R82). -/
def execSpnRun (m : Master) (sp : Nat) (s : State) : Out :=
  ifUnit (sp < nSpindles) (s.ctlWrite m sp fun t => t.ctlRequest sp true false false)
/-- SPN_HALT_REQUEST (R82). -/
def execSpnHaltRequest (m : Master) (sp : Nat) (s : State) : Out :=
  ifUnit (sp < nSpindles) (s.ctlWrite m sp fun t => t.ctlRequest sp false true false)
/-- SPN_STEP (R82). -/
def execSpnStep (m : Master) (sp : Nat) (s : State) : Out :=
  ifUnit (sp < nSpindles) (s.ctlWrite m sp fun t => t.ctlRequest sp false false true)

/-- A write of SPN_DB_SET by any master (R69 to R71): through a live die's slot. -/
def State.dbSetWrite (s : State) (sp : Nat) (v : W64) : State :=
  if s.dieUp (spDie sp) && s.spState sp != 6 then s.doorbell sp (getBits v 31 0) else s

/-- DOORBELL_SET_ARRIVE (R69). -/
def execDoorbellSetArrive (_m : Master) (sp : Nat) (v : W64) (s : State) : Out :=
  ifUnit (sp < nSpindles) (s.dbSetWrite sp v)

/-- TIMER_COMPARE (R72). -/
def execTimerCompare (sp : Nat) (s : State) : Out := ifUnit (sp < nSpindles) (s.timerTest sp)

/-- A remote refusal of a committed write (R59, R178). -/
def State.refusal (s : State) (sp : Nat) (addr : W64) : State :=
  let t := if s.spFlag fSPN_IRQ_ASYNC sp then s else s.setReg .SPN_ASYNC_ADDR (spDie sp) (spIdx sp) addr
  let t := (t.setSpFld fSPN_IRQ_ASYNC sp 1).event 0x1106 .warn (s.spUnit sp) addr.toNat
  if s.inRealPly sp && !s.isLead sp && s.leadOf sp != sp then t.notice (s.leadOf sp) 1 else t

/-- WRITE_REFUSAL_NOTICE (R59): it finds a powered spindle. -/
def execWriteRefusalNotice (sp : Nat) (addr : W64) (s : State) : Out :=
  ifUnit (sp < nSpindles) (if s.spPowered sp && s.dieUp (spDie sp) then s.refusal sp addr else s)

/-- WAIT_TIMEOUT (R75, R76): a waiting spindle's timeout has elapsed; all ones is no limit; a halt request has ended the
WAIT (R79). -/
def execWaitTimeout (sp : Nat) (s : State) : Out :=
  ifUnit (sp < nSpindles)
    (if s.isLead sp && s.spState sp == 4 && !s.spFlag fSPN_CTL_HALT sp then
      match (s.spin sp).spool.head? with
      | some e =>
        if (s.spin sp).getG (wGB e.word) = BitVec.allOnes 64 then s
        else s.endWait sp e.word e.pc (s.waitMatch sp e.word)
      | none => s
    else s)

/-- The stream of `sp` stands between words: nothing past its commit point is still to end. -/
def State.between (s : State) (sp : Nat) : Bool :=
  s.lat .cleared sp 0 == 0 &&
    match (s.spin sp).spool.head? with | some e => !e.started | none => true

/-- SPINDLE_HALTED (R79, R82): after a halt request or a finished step, the PC at the oldest word not retired. -/
def execSpindleHalted (sp : Nat) (s : State) : Out :=
  ifUnit (sp < nSpindles)
    (if s.isLead sp && (s.spState sp == 3 || s.spState sp == 4) && (s.spFlag fSPN_CTL_HALT sp || s.lat .stepDone sp 0 != 0) &&
        s.between sp then
      (s.flush sp (if (s.spin sp).spool.isEmpty && (s.spin sp).overrun then 16384 else s.headPc sp)).halted sp
    else s)

end Sys2Proof.Machine
end

