-- ==== Sys2Proof/Machine/RegRead.lean ====
section
/-! DEFINITION. Reads of registers through the control windows and BAR0 (R8 to R11, R39 to R43): where an offset
leads, what a register shows, and what a read changes. -/

namespace Sys2Proof.Machine

/-! ## Where an offset leads -/

/-- What stands at an offset of a control window or of BAR0. -/
inductive RegSite where
  /-- Byte `b` of a register. -/
  | reg (r : Reg) (d i b : Nat)
  /-- Byte `off` of the recorder copy of warden die `d` (R406). -/
  | records (d off : Nat)
  /-- Offset `off` of a mailbox aperture (Table WD-6); `here` where the aperture is the one its user has. -/
  | mailbox (pair : Nat) (low here : Bool) (off : Nat)
  /-- Unimplemented (R9). -/
  | none
  deriving DecidableEq, Repr

/-- The register an offset of a window names. -/
def windowReg (d off : Nat) : RegSite :=
  match findReg d off with
  | some x => .reg x.1 d x.2.1 x.2.2
  | none => .none

/-- What stands at an offset of the window of die `d`. -/
def State.windowSite (s : State) (d off : Nat) : RegSite :=
  if d < 48 then
    if 0x90020000 ≤ off ∧ off < 0x90020400 then .mailbox (3 + d) true true (off - 0x90020000) else windowReg d off
  else if 62 ≤ d then
    if 0x5100000 ≤ off ∧ off < 0x5100400 then .mailbox (d - 62) false true (off - 0x5100000)
    else if 0x5101000 ≤ off ∧ off < 0x5101400 then .mailbox 2 (d == 63) true (off - 0x5101000)
    else if 0x5102000 ≤ off ∧ off < 0x5102000 + 48 * 0x400 then
      .mailbox (3 + (off - 0x5102000) / 0x400) false (d == s.aw) ((off - 0x5102000) % 0x400)
    else if 0x5300000 ≤ off ∧ off < 0x5340000 then .records d (off - 0x5300000)
    else windowReg d off
  else windowReg d off

/-- What stands at an offset of BAR0 of a host port (Table FL-18). -/
def State.barSite (s : State) (port off : Nat) : RegSite :=
  if off < 0x2000 then .mailbox (off / 0x1000) true true (off % 0x1000)
  else if 0x10000 ≤ off ∧ off < 0x10200 then .reg .LK_LOCK s.aw ((off - 0x10000) / 8) (off % 8)
  else if 0x100000 ≤ off ∧ off < 0x140000 then .records s.aw (off - 0x100000)
  else if 0x2000000 ≤ off ∧ off < 0x2010000 then
    match findHost port (off - 0x2000000) with
    | some x => .reg x.1 60 x.2.1 x.2.2
    | none => .none
  else .none

/-! ## What a register shows -/

/-- The cycle's stall causes that the state shows (Table SP-5): SPOOL_FULL, WAIT and PLY_STEP. -/
def State.stall (s : State) (sp : Nat) : Nat :=
  let n := (s.spin sp).spool.length
  let full : Nat := if n = 1024 then 1 else 0
  let wait : Nat := if s.spState sp = 4 then 32 else 0
  let step : Nat := match s.plyOf sp with
    | some p => if s.spState sp = 3 ∧ 1 < p.members.length ∧ p.window ≤ n - s.lat .cleared (s.leadOf sp) 0 then 64 else 0
    | none => 0
  full + wait + step

/-- SPN_ registers that follow other state (R72, R80, Tables SP-7, SP-13, SP-15). -/
def State.spnShown (s : State) (r : Reg) (sp : Nat) (v : W64) : W64 :=
  if s.spnHidden sp r then 0
  else match r with
    | .SPN_STAT => setBits v 2 0 (s.spState sp)
    | .SPN_IRQ => BitVec.ofNat 64 (s.irq sp)
    | .SPN_SPOOL => setBits (setBits v 26 16 (s.spin sp).spool.length) 7 0 (s.stall sp)
    | _ => v

/-- WD_FLT_TALLY as it reads (R343, R348): the pair that WD_FLT_QUERY names. -/
def State.tallyShown (s : State) (d : Nat) : W64 :=
  let u := s.fld fWD_FLT_QUERY_UNIT d 0
  let k := s.stickyOf d
  let x := sget (0, 0) k.tallies (u * 32 + s.fld fWD_FLT_QUERY_CLASS d 0)
  let age := if x.1 = 0 then 0 else min ((s.now - x.2) / 1000000) (2 ^ 32 - 1)
  setBits (setBits (setBits 0 63 32 age) 16 16 (k.retired.contains u).toNat) 15 0 (min x.1 0xFFFF)

/-- TH_TWIN as it reads (R429 to R431): duty, gating and sleep. -/
def State.twinShown (s : State) (d k : Nat) (v : W64) : W64 :=
  let duty := s.lat .duty d k
  let idle := (s.slotsOfTwin d k).all fun sp => (s.spin sp).spool.isEmpty
  let v := setBits v 19 16 (min duty 15)
  let v := setBits v 9 9 (s.clamped || duty == 16).toNat
  setBits v 8 8 (s.clamped && idle).toNat

/-- TH_ORDER_EFF's REMAIN_MS (R424). -/
def State.remainMs (s : State) : Nat :=
  if s.lat .drainEnd 0 0 = 0 then 0 else (s.lat .drainEnd 0 0 - 1 - s.now) / 1000000

/-- The locks held, of warden die `d` (Table WD-14). -/
def State.locksHeld (s : State) (d : Nat) : Nat :=
  (List.range 64).foldl (fun (n : Nat) i => if s.fld fLK_LOCK_OWNER d i ≠ 0 then n + 2 ^ i else n) 0

/-- Enrolled units of warden die `d` in a state. -/
def State.entriesIn (s : State) (d : Nat) (p : Nat → Bool) : Nat :=
  ((List.range 256).filter fun i => p (s.fld fWD_EP_ENT0_STATE d i)).length

/-- The value of a register with what it derives from other state. -/
def State.regShown (s : State) (r : Reg) (d i : Nat) : W64 :=
  let v := s.reg r d i
  if isSpn r then s.spnShown r (32 * d + i) v
  else match r with
    | .CD_BNK_PWR => s.bankPwrShown (32 * d + i)
    | .MESH_STAT => s.meshStat d
    | .PW_TWIN_CTL => setBits v 5 4 (if s.twinState d i = 0 then 0 else s.fld fPW_TWIN_CTL_STATE d i)
    | .QD_SKEIN_STAT =>
      setBits (setBits v 63 32 (skeinUsed (s.skein d) / 2 ^ 20)) 3 3 (s.unmirrored d).toNat
    | .WD_EP_WAIT => setBits (setBits 0 31 16 (s.entriesIn d (· == 2))) 15 0 (s.entriesIn d (· != 0))
    | .WD_FLT_TALLY => s.tallyShown d
    | .WD_ROLE =>
      setBits (setBits v 9 9 s.forced.toNat) 10 10 (s.fld fWD_ROLE_HEALTHY (otherWarden d) 0)
    | .WD_TIME_STAT => setBits v 8 8 (s.aw - 62)
    | .LK_HELD => BitVec.ofNat 64 (s.locksHeld d)
    | .TH_TWIN => s.twinShown d i v
    | .TH_STAT => setBits (setBits v 3 3 (s.fld fWD_FORCE_LEAK_LATCH d 0)) 0 0 s.clamped.toNat
    | .TH_ORDER_EFF => setBits v 63 32 s.remainMs
    | .WD_WDOG_STAT => setBits v 8 0 ((500000000 - (s.now - s.lat .kickAt d 0)) / 1000000)
    | .FS_PRES =>
      setBits v 23 16 (if getBits v 23 16 = 0 then 0 else (120000000000 - (s.now - s.lat .btnAt 0 0)) / 1000000000)
    | .WD_PKG_STAT =>
      if s.pkgState = 3 then setBits v 63 32 ((s.now - s.lat .stepSince 0 0) / 1000000) else setBits v 63 32 0
    | .FP_STAT => if d = s.aw then let x := s.driveNow i; setBits (setBits v fFP_STAT_DRIVE.hi fFP_STAT_DRIVE.lo x.2) fFP_STAT_CAUSE.hi fFP_STAT_CAUSE.lo x.1 else v
    | .SV_STAT =>
      setBits v 15 15 (s.forced || s.wflag fTH_STAT_TRIP 0 || s.wflag fWD_FORCE_LEAK_LATCH 0).toNat
    | _ => v

/-! ## What a read does -/

/-- The bits a read clears (R11). -/
def rcMask (r : Reg) : W64 :=
  (regDesc r).fields.foldl (fun v f => if f.acc = .rc then v ||| maskOf f.hi f.lo else v) 0

/-- Buffers and filters of the tray bus are read by their own warden's core only (R502). -/
def tbPrivate (r : Reg) : Bool :=
  match r with
  | .TB_FILT_ID | .TB_FILT_MASK | .TB_FILT_BUF | .TB_FILT_HITS | .TB_TXB_ID | .TB_TXB_CTRL | .TB_TXB_CMD | .TB_TXB_DATA
  | .TB_RXB_ID | .TB_RXB_CTRL | .TB_RXB_TS | .TB_RXB_DATA => true
  | _ => false

/-- The buffer and offset of a receive-buffer register. -/
def rxPlace (r : Reg) (i : Nat) : Option (Nat × Nat) :=
  match r with
  | .TB_RXB_ID => some (i, 0)
  | .TB_RXB_CTRL => some (i, 4)
  | .TB_RXB_TS => some (i / 2, 8 + 4 * (i % 2))
  | .TB_RXB_DATA => some (i / 16, 0x10 + 4 * (i % 16))
  | _ => none

/-- A read of a whole register: its value and what the read changes. -/
def State.readWhole (s : State) (m : Master) (r : Reg) (d i : Nat) : W64 × State :=
  if r = .LK_LOCK ∧ d = s.aw then
    match ownerCode m with
    | some me =>
      let t := s.lockRead me i
      (BitVec.ofNat 64 (leValue t.reply.data), { t with reply := s.reply })
    | none => (0, s)
  else if tbPrivate r && m != .warden (d - 62) then (0, s)
  else match rxPlace r i with
    | some x =>
      match execRxBufferRead m (d - 62) x.1 x.2 s with
      | .next t => (BitVec.ofNat 64 (leValue t.reply.data), { t with reply := s.reply })
      | _ => (0, s)
    | none =>
      (shownValue r (s.regShown r d i), if rcMask r = 0 then s else s.putReg r d i (s.reg r d i &&& ~~~(rcMask r)))

/-- The latch of the high half of a 64-bit register that was read low (R8): the value plus 1. -/
def halfKey (d : Nat) (r : Reg) : Nat := Nat.pair d (regId r)

/-- A read of `size` bytes at byte `b` of a register (R8). -/
def State.readReg (s : State) (m : Master) (r : Reg) (d i b size : Nat) : W64 × State :=
  let w := (regDesc r).width / 8
  if b = 0 ∧ size = w then s.readWhole m r d i
  else if w = 8 ∧ size = 4 ∧ b = 0 then
    let x := s.readWhole m r d i
    (BitVec.ofNat 64 (getBits x.1 31 0), x.2.setLat .halfHigh (halfKey d r) i (getBits x.1 63 32 + 1))
  else if w = 8 ∧ size = 4 ∧ b = 4 then
    let h := s.lat .halfHigh (halfKey d r) i
    if h = 0 then
      (BitVec.ofNat 64 (getBits (shownValue r (s.regShown r d i)) 63 32),
        if rcMask r &&& maskOf 63 32 = 0 then s else s.putReg r d i (s.reg r d i &&& ~~~(rcMask r &&& maskOf 63 32)))
    else (BitVec.ofNat 64 (h - 1), s.setLat .halfHigh (halfKey d r) i 0)
  else (0, s)

/-! ## The recorder's records and mailboxes -/

/-- A read of the recorder: aligned 32 or 64 bits; slots past the last record read zero (R406). -/
def State.readRecords (s : State) (d off size : Nat) : W64 :=
  if (size = 4 ∨ size = 8) ∧ off % size = 0 then
    match (s.stickyOf d).records[off / 32]? with
    | some r => BitVec.ofNat 64 (leValue ((r.bytes.drop (off % 32)).take size))
    | none => 0
  else 0

/-- A byte of a slot as it reads: byte 12 is the sender's OUT_STATUS (Table WD-7). -/
def Side.slotByte (x : Side) (k : Nat) : Byte := if k = 12 then BitVec.ofNat 8 x.outStatus else sget 0 x.slot k

/-- Bytes of a slot. -/
def Side.slotBytes (x : Side) (off n : Nat) : List Byte := (List.range n).map fun k => x.slotByte (off + k)

/-- MB_STAT as it reads. -/
def mbStat (x other : Side) : Nat := x.refused.toNat * 2 ^ 16 + x.wstat * 2 ^ 8 + other.outStatus * 2 ^ 4 + x.outStatus

/-- A read of a mailbox aperture (Table WD-11). -/
def State.readMailbox (s : State) (m : Master) (pair : Nat) (low here : Bool) (off size : Nat) : W64 × State :=
  if !here || !s.mbMay m pair low then (0, s.wevent 0x7113 .warn (mbUnit pair) low.toNat)
  else
    let x := s.mbSide pair low
    let o := s.mbSide pair (!low)
    let v : W64 :=
      if (size = 4 ∨ size = 8) ∧ off % size = 0 ∧ off + size ≤ 0x200 then
        BitVec.ofNat 64 (leValue (if off < 0x100 then x.slotBytes off size else o.slotBytes (off - 0x100) size))
      else if size = 4 then
        match off with
        | 0x210 => BitVec.ofNat 64 (mbStat x o)
        | 0x220 => BitVec.ofNat 64 x.db.toNat
        | 0x228 => BitVec.ofNat 64 x.mask.toNat
        | 0x230 => if 3 ≤ pair ∧ low then BitVec.ofNat 64 x.cfg.toNat else 0
        | _ => 0
      else 0
    (v, s)

/-- A read of what an offset leads to. -/
def State.readSite (s : State) (m : Master) (x : RegSite) (size : Nat) : W64 × State :=
  match x with
  | .reg r d i b => s.readReg m r d i b size
  | .records d off => (s.readRecords d off size, s)
  | .mailbox pair low here off => s.readMailbox m pair low here off size
  | .none => (0, s)

/-- The state view of a slot is served: the spindle is HALTED (R83). -/
def State.viewOpen (s : State) (sp : Nat) : Bool := s.spState sp == 2

/-- A read of half of a 64-bit place of the state view (R8): the low half latches the high one. -/
def State.viewHalf (s : State) (sp off : Nat) : W64 × State :=
  let v := (s.spin sp).view (viewLoc (off / 8 * 8) 8)
  if off % 8 = 0 then (BitVec.ofNat 64 (getBits v 31 0), s.setLat .viewHigh sp (off / 8) (getBits v 63 32 + 1))
  else
    let h := s.lat .viewHigh sp (off / 8)
    if h = 0 then (BitVec.ofNat 64 (getBits v 63 32), s) else (BitVec.ofNat 64 (h - 1), s.setLat .viewHigh sp (off / 8) 0)

/-- A read through the state view (R83): zero with EV 0x1103 unless the spindle is HALTED. -/
def State.viewRead (s : State) (sp off size : Nat) : W64 × State :=
  if s.viewOpen sp then
    if off % size ≠ 0 then (0, s)
    else if size = 4 ∧ viewLoc off 4 = .none then s.viewHalf sp off
    else ((s.spin sp).view (viewLoc off size), s)
  else (0, s.event 0x1103 .warn (s.spUnit sp) off)

/-- A write through the state view (R83); through the slot of another member than member 0 it is recorded as R186 says too. -/
def State.viewPut (s : State) (sp off size : Nat) (v : W64) : State :=
  if s.viewOpen sp then (if off % size = 0 then s.viewWrite sp (viewLoc off size) v else s)
  else
    let t := s.event 0x1103 .warn (s.spUnit sp) off
    if off % size = 0 ∧ (viewLoc off size).replicated ∧ s.slotBarred sp then t.event 0x1132 .warn (s.spUnit sp) 0 else t

/-- A read of `size` bytes at a place of a die's window that is no memory. -/
def State.readWindow (s : State) (m : Master) (l : Loc) (size : Nat) : Status × W64 × State :=
  match l with
  | .view sp off =>
    if s.dieAnswer (spDie sp) = .ok then let x := s.viewRead sp off size; (.ok, x.1, x.2)
    else (s.dieAnswer (spDie sp), 0, s)
  | .win d off =>
    if s.dieAnswer d = .ok then let x := s.readSite m (s.windowSite d off) size; (.ok, x.1, x.2)
    else (s.dieAnswer d, 0, s)
  | _ => (.unsupported, 0, s)

end Sys2Proof.Machine
end

