-- ==== Sys2Proof/Machine/Valves.lean ====
section
/-! DEFINITION. The solenoid channels (R471 to R479, R438): the meanings of their commands. -/

namespace Sys2Proof.Machine

/-- The unit of a channel (Table ACT-1). -/
def State.svUnit (s : State) (c : Nat) : Nat := unitId s.aw (0x120 + c)

/-- A channel's phase (Table ACT-7): 0 OFF, 1 WAIT, 2 PEAK, 3 HOLD, 4 RECOVER. -/
def State.svPhase (s : State) (c : Nat) : Nat := s.wfld fSV_STAT_PHASE c

/-- A field of a channel's profile. -/
def State.svProf (s : State) (f : RField) (c : Nat) : Nat := s.wfld f (s.wfld fSV_CFG_PROFILE c)

/-- A fault bit is set, and recorded. -/
def State.svFault (s : State) (f : RField) (c code : Nat) (sev : Sev) : State := (s.setWfld f c 1).event code sev (s.svUnit c) 0

/-- The other channel of the high-side switch. -/
def svPartner (c : Nat) : Nat := if c % 2 = 0 then c + 1 else c - 1

/-- A waiting handover is tried again where a channel has left WAIT, PEAK or RECOVER (R479). -/
def State.retryHandover (s : State) : State := if s.lat .handoverDue 0 0 ≠ 0 then s.handover else s

/-- A channel starts its profile in WAIT. -/
def State.svWait (s : State) (c : Nat) : State := (s.setWfld fSV_STAT_PHASE c 1).setLat .svSince c 0 s.now

/-- The active warden's channel turns off (R475). -/
def State.svStop (s : State) (c : Nat) : State := (s.svOff s.aw c).retryHandover

/-- Commands to a channel are ignored: in the forced state, under a hard trip, under a leak latch (R389, R438, R479), and an
isolation valve's while a flow loss holds it open (R434). A channel a leak latch closes ignores a command OFF alone. -/
def State.svIgnored (s : State) (c : Nat) : Bool :=
  s.forced || s.wflag fTH_STAT_TRIP 0 || s.wflag fWD_FORCE_LEAK_LATCH 0 ||
    (s.wflag fTH_STAT_FLOW_LOSS 0 && (s.wfld fWD_FORCE_LEAK_CLOSE_MASK 0).testBit c)

/-- A command ON (R471, R474, R475): it starts a profile, counts HOLD anew, or waits for RECOVER to end. -/
def State.svOn (s : State) (c : Nat) : State :=
  let t := s.setWfld fSV_CMD_ON c 1
  match s.svPhase c with
  | 0 => (t.setLat .svRetry c 0 0).svWait c
  | 4 => t.setLat .svExtend c 0 1
  | 3 => t.setLat .svHeld c 0 t.now
  | _ => t

/-- SOLENOID_ON: SV_CMD with ON 1; a channel with SHORT accepts none (R478). -/
def execSolenoidOn (m : Master) (c : Nat) (v : W64) (s : State) : Out :=
  ifUnit (c < 4) (s.guardedWrite m .SV_CMD s.aw c fun t =>
    if !bitOf v 0 || (t.svIgnored c && !t.closing t.aw c) || t.wflag fSV_FAULT_SHORT c then t else t.svOn c)

/-- SOLENOID_OFF: SV_CMD with ON 0. -/
def execSolenoidOff (m : Master) (c : Nat) (v : W64) (s : State) : Out :=
  ifUnit (c < 4) (s.guardedWrite m .SV_CMD s.aw c fun t =>
    if bitOf v 0 || t.svIgnored c then t else (t.setWfld fSV_CMD_ON c 0).svStop c)

/-- A deferral of `us` passes DEFER_MAX_US (R476). -/
def State.svDefer (s : State) (c us : Nat) : State :=
  if s.svProf fSV_PROF2_DEFER_MAX_US c < us ∧ !s.wflag fSV_STAT_DEFER_LONG c then s.svFault fSV_STAT_DEFER_LONG c 0x5403 .warn
  else s

/-- A waiting channel may peak (R476, R477). -/
def State.mayPeak (s : State) (c : Nat) : Bool :=
  let o := svPartner c
  s.svPhase c == 1 && s.svPhase o != 2 &&
    !(decide (o < c) && s.svPhase o == 1 && s.lat .svSince o 0 == s.lat .svSince c 0) &&
    (decide (58000 ≤ s.wfld fSV_BOOST_V_MV 0) || s.wflag fSV_BOOST_LOW 0)

/-- SOLENOID_PEAK_START. -/
def execSolenoidPeakStart (c : Nat) (s : State) : Out :=
  ifUnit (c < 4)
    (if s.mayPeak c then
      let us := (s.now - s.lat .svSince c 0) / 1000
      let t := ((s.setWfld fSV_STAT_PHASE c 2).setWfld fSV_MEAS_DEFER_US c (min us 65535)).setWfld fSV_MEAS_DIP_US c 0xFFFF
      (((t.setLat .svDip c 0 0).setLat .svReached c 0 0).setWfld fSV_BOOST_CHARGING 0 1).svDefer c us
    else s)

/-- A TIMED profile, unless the leak latch runs it in MODE LATCH. -/
def State.svTimed (s : State) (c : Nat) : Bool := s.svProf fSV_PROF2_MODE c == 0 && !s.closing s.aw c

/-- HOLD is entered; a TIMED hold of no time turns the channel off (R471). -/
def State.svHold (s : State) (c : Nat) : State :=
  let t := (s.setWfld fSV_STAT_PHASE c 3).setLat .svHeld c 0 s.now
  if s.svTimed c && s.svProf fSV_PROF0_HOLD_MS c == 0 then t.svStop c else t.retryHandover

/-- A dip fell in its window, or none is checked (R473). -/
def State.dipGood (s : State) (c : Nat) : Bool :=
  let x := s.wfld fSV_MEAS_DIP_US c
  s.svProf fSV_PROF1_DIP_MAX_US c == 0 ||
    (s.lat .svDip c 0 != 0 && decide (s.svProf fSV_PROF1_DIP_MIN_US c ≤ x) && decide (x ≤ s.svProf fSV_PROF1_DIP_MAX_US c))

/-- PEAK_US is over (R471, R473): a missing dip is a stuck valve, whose profile RETRY runs once more. -/
def State.peakOver (s : State) (c : Nat) : State :=
  if s.dipGood c then s.svHold c
  else
    let t := s.svFault fSV_STAT_STUCK c 0x5402 .fault
    if s.svProf fSV_PROF2_RETRY c = 1 ∧ s.lat .svRetry c 0 ≠ 2 then (t.svStop c).setLat .svRetry c 0 1
    else t.svHold c

/-- PEAK_MA was not reached by TTP_MAX_US (R472, R473): HOLD at once, whatever the valve has done. -/
def State.peakLate (s : State) (c : Nat) : State :=
  let t := s.svFault fSV_STAT_TTP_SLOW c 0x5401 .fault
  (if t.dipGood c then t else t.svFault fSV_STAT_STUCK c 0x5402 .fault).svHold c

/-- SOLENOID_PEAK_REACHED after `us`: too soon is a short, too late found the channel in HOLD (R472); a PEAK_US of zero ends PEAK. -/
def execSolenoidPeakReached (c us : Nat) (s : State) : Out :=
  ifUnit (c < 4)
    (if s.svPhase c = 2 ∧ s.lat .svReached c 0 = 0 then
      let t := (s.setWfld fSV_MEAS_TTP_US c (min us 65535)).setLat .svReached c 0 1
      if !s.wflag fSV_BOOST_LOW 0 && decide (us < s.svProf fSV_PROF1_TTP_MIN_US c) then
        ((t.setWfld fSV_FAULT_SHORT c 1).event 0x5401 .fault (t.svUnit c) us).svStop c
      else if !s.wflag fSV_BOOST_LOW 0 && decide (s.svProf fSV_PROF1_TTP_MAX_US c < us) then t.peakLate c
      else if s.svProf fSV_PROF0_PEAK_US c = 0 then t.peakOver c
      else t
    else s)

/-- SOLENOID_TTP_TIMEOUT. -/
def execSolenoidTtpTimeout (c : Nat) (s : State) : Out :=
  ifUnit (c < 4)
    (if s.svPhase c = 2 ∧ s.lat .svReached c 0 = 0 ∧ !s.wflag fSV_BOOST_LOW 0 then s.peakLate c else s)

/-- SOLENOID_DIP: the first of a peak, while its current rises. -/
def execSolenoidDip (c us : Nat) (s : State) : Out :=
  ifUnit (c < 4)
    (if s.svPhase c = 2 ∧ s.lat .svDip c 0 = 0 ∧ s.lat .svReached c 0 = 0 then
      (s.setLat .svDip c 0 1).setWfld fSV_MEAS_DIP_US c (min us 65535)
    else s)

/-- SOLENOID_PEAK_END: of a peak that has been reached. -/
def execSolenoidPeakEnd (c : Nat) (s : State) : Out :=
  ifUnit (c < 4) (if s.svPhase c = 2 ∧ s.lat .svReached c 0 = 1 then s.peakOver c else s)

/-- SOLENOID_RETRY_WAIT_END: the profile once more. -/
def execSolenoidRetryWaitEnd (c : Nat) (s : State) : Out :=
  ifUnit (c < 4)
    (if s.lat .svRetry c 0 = 1 ∧ s.svPhase c = 0 then ((s.setLat .svRetry c 0 2).setWfld fSV_STAT_RETRIED c 1).svWait c else s)

/-- SOLENOID_HOLD_END: HOLD_MS after HOLD began or the latest command ON in it (R471, R474). -/
def execSolenoidHoldEnd (c : Nat) (s : State) : Out :=
  ifUnit (c < 4)
    (if s.svPhase c = 3 ∧ s.svTimed c ∧ s.svProf fSV_PROF0_HOLD_MS c * 1000000 ≤ s.now - s.lat .svHeld c 0 then s.svStop c else s)

/-- SOLENOID_RECOVER_END; `late` where 5 ms passed first (R475). -/
def execSolenoidRecoverEnd (c : Nat) (late : Bool) (s : State) : Out :=
  ifUnit (c < 4)
    (if s.svPhase c = 4 then
      let t := s.setWfld fSV_STAT_PHASE c 0
      let t := if late then t.svFault fSV_STAT_OPEN_RECOVERY c 0x5404 .fault else t
      let again := (s.lat .svExtend c 0 != 0 && !s.wflag fSV_FAULT_SHORT c) || s.closing s.aw c
      let t := t.setLat .svExtend c 0 0
      if again then t.svWait c else t.retryHandover
    else s)

/-- COIL_OVERCURRENT at a coil current: above 7.5 A, or in HOLD above twice HOLD_MA (R478). -/
def execCoilOvercurrent (c ma : Nat) (s : State) : Out :=
  ifUnit (c < 4)
    (if 7500 < ma ∨ (s.svPhase c = 3 ∧ 2 * s.svProf fSV_PROF0_HOLD_MA c < ma) then
      let t := s.setWfld fSV_MEAS_I_MA c (min ma 65535)
      ((t.setWfld fSV_FAULT_SHORT c 1).event 0x5404 .fault (s.svUnit c) 0).svStop c
    else s)

/-- COIL_OPEN_LOAD at a hold current below half of HOLD_MA: the channel keeps driving. -/
def execCoilOpenLoad (c ma : Nat) (s : State) : Out :=
  ifUnit (c < 4)
    (if s.svPhase c = 3 ∧ 2 * ma < s.svProf fSV_PROF0_HOLD_MA c then
      let t := s.setWfld fSV_MEAS_I_MA c ma
      if t.wflag fSV_STAT_OPEN c then t else t.svFault fSV_STAT_OPEN c 0x5404 .fault
    else s)

/-- BOOST_WAIT_TIMEOUT: a channel waits for the capacitor to read 58 V (R477). -/
def execBoostWaitTimeout (s : State) : Out :=
  .next (if ((List.range 4).any fun c => s.svPhase c == 1) && decide (s.wfld fSV_BOOST_V_MV 0 < 58000) && !s.wflag fSV_BOOST_LOW 0 then
      (s.setWfld fSV_BOOST_LOW 0 1).event 0x5405 .warn (unitId s.aw 0x126) 0
    else s)

/-- BOOST_RECHARGED. -/
def execBoostRecharged (s : State) : Out :=
  .next (((s.setWfld fSV_BOOST_V_MV 0 65000).setWfld fSV_BOOST_LOW 0 0).setWfld fSV_BOOST_CHARGING 0 0)

/-- SOLENOID_DEFER_LIMIT. -/
def execSolenoidDeferLimit (c : Nat) (s : State) : Out :=
  ifUnit (c < 4)
    (if s.svPhase c = 1 ∧ !s.wflag fSV_STAT_DEFER_LONG c then s.svFault fSV_STAT_DEFER_LONG c 0x5403 .warn else s)

/-- A channel the leak latch closes starts its profile, unless it runs (R479). -/
def State.svClose (s : State) (c : Nat) : State :=
  match s.svPhase c with
  | 0 => s.svWait c
  | 4 => s.setLat .svExtend c 0 1
  | _ => s

/-- LEAK_ACTUATOR_STOP (R438 step 3): pumps follow Table ACT-10, the valves of CLOSE_MASK close, the others are
de-energised. -/
def execLeakActuatorStop (s : State) : Out :=
  .next (if s.wflag fWD_FORCE_LEAK_LATCH 0 && s.lat .leakDue 0 0 != 0 then
      let t := s.setLat .leakDue 0 0 0
      (t.each (List.range 4) fun c u =>
        if u.closing u.aw c then u.svClose c else (u.setWfld fSV_CMD_ON c 0).svOff u.aw c).settleAll
    else s)

end Sys2Proof.Machine
end

