-- ==== Sys2Proof/Machine/Warp.lean ====
section
/-! DEFINITION. The meanings of the warp-port commands (R284 to R301, R328): negotiation and training, flits and
replay, retrains, retirement, routes and flows, remote requests. -/

namespace Sys2Proof.Machine

/-- A warp port that exists. -/
def isWarpPort (p : Nat) : Bool := decide (p < 16)

/-- A port's die is there and the port is not retired. -/
def State.warpUp (s : State) (p : Nat) : Bool := s.dieUp (warpDie p) && s.wpFld fWP_PORT_STAT_STATE p != 5

/-- The port's link retrains (R292): RETRAIN reads 1 until it is done. -/
def State.retraining (s : State) (p : Nat) : Bool := s.wpFld fWP_PORT_CTL_RETRAIN p == 1

/-! ## Negotiation and training (R284 to R288) -/

/-- The pages a port sends (R284): the rates of its base page, then its next pages: a bit for each protocol version it speaks, the
package number in two bytes, the port number, the retired lanes, a pending retrain. -/
def State.warpPages (s : State) (p : Nat) : List Byte :=
  leBytes 1 (s.wpFld fWP_PORT_CTL_RATES p) ++ leBytes 1 2 ++ leBytes 2 s.pkg ++ leBytes 1 p ++
    leBytes 1 (s.wpFld fWP_PORT_STAT_RETIRED_LANES p) ++ leBytes 1 (s.wpFld fWP_PORT_CTL_RETRAIN p)

/-- A DOWN port with TRAIN_EN starts to negotiate (R284); it answers with its pages. -/
def execWarpNegotiateStart (p : Nat) (s : State) : Out :=
  ifUnit (isWarpPort p)
    (if s.warpUp p ∧ s.wpFld fWP_PORT_CTL_TRAIN_EN p = 1 ∧ s.wpFld fWP_PORT_STAT_STATE p = 0 then
      (s.setWpFld fWP_PORT_STAT_STATE p 1).answer .ok (s.warpPages p)
    else s)

/-- A request to another package completes with DIE_LOST at its requester (R62, R271, R275). -/
def State.remoteLost (s : State) (x : Waiter) : State :=
  match x.m, x.req with
  | .spindle sp, _ => if s.spState sp = 3 ∨ s.spState sp = 4 then s.check sp mcDieLost else s
  | .host port, .write a => (s.event 0x3305 .warn (hostUnit port) a).answer .ok []
  | .host port, .dma c =>
    match s.dmaMoving port c with
    | w :: rest => s.dmaEnd port c 3 w rest []
    | [] => s
  | _, _ => s.answer .dieLost []

/-- A waiting requester that exists. -/
def waiterOk (x : Waiter) : Bool :=
  (match x.m with | .spindle sp => decide (sp < nSpindles) | .host port => isHostPort port | _ => true) &&
    (match x.req with | .dma c => decide (c < 4) | _ => true)

/-- A port that failed to retrain three times in a row goes DOWN (R293): what it kept is discarded; the requests that it carried, or
whose responses it carried, complete with DIE_LOST. -/
def State.warpPortDown (s : State) (p : Nat) (waiting : List Waiter) : State :=
  let t := ((((s.setWpFld fWP_PORT_STAT_STATE p 0).setWpFld fWP_PORT_STAT_LANES_UP p 0).setWpFld fWP_PORT_CTL_RETRAIN p
    0).dropFlits p).setLat .warpFails p 0 0
  let t := ((t.event 0x3204 .fault (warpUnit p) 0).holdFlows s).occur 0x0E (warpUnit p)
  t.each (waiting.filter waiterOk) fun x u => u.remoteLost x

/-- The pages agree on nothing (R285): EV 0x3205; a retrain has failed once more (R293). -/
def State.pagesFail (s : State) (p : Nat) : State :=
  let t := s.event 0x3205 .warn (warpUnit p) 0
  if s.retraining p then t.setLat .warpFails p 0 (s.lat .warpFails p 0 + 1) else t

/-- The rates both ends advertise; a retrain keeps its rate (R285, R292). -/
def State.sharedRates (s : State) (p rates : Nat) : Nat :=
  let r := s.wpFld fWP_PORT_CTL_RATES p &&& rates % 8
  if s.retraining p then r &&& s.wpFld fWP_PORT_STAT_RATE p else r

/-- Pages are exchanged (R285): `versions` has bit n set where the peer speaks version n. -/
def execWarpPagesExchanged (p rates versions peerPkg peerPort peerRetired : Nat) (s : State) : Out :=
  ifUnit (isWarpPort p)
    (if s.warpUp p ∧ s.wpFld fWP_PORT_STAT_STATE p = 1 then
      let r := s.sharedRates p rates
      let lanes := 255 - ((s.wpFld fWP_PORT_STAT_RETIRED_LANES p ||| peerRetired) % 256)
      let s := s.setLat .warpPeer p 0 (peerRetired % 256)
      if r = 0 ∨ versions.testBit 1 = false ∨ popc8 lanes < 4 then s.pagesFail p
      else
        let t := ((s.setWpFld fWP_PORT_STAT_RATE p (2 ^ Nat.log2 r)).setWpFld fWP_PORT_STAT_PROTO p 1).setWpFld
          fWP_PORT_STAT_LANES_UP p lanes
        ((t.setWpFld fWP_PORT_STAT_PEER_PKG p peerPkg).setWpFld fWP_PORT_STAT_PEER_PORT p peerPort).setWpFld
          fWP_PORT_STAT_STATE p 2
    else s)

/-- A lane is retired by its port (R294), and is kept in the active warden's sticky block (R295). -/
def State.laneOut (s : State) (p l : Nat) : State :=
  (s.addRetired (unitId (warpDie p) (0x10 + 8 * (p % 4) + l))).retireLane State.occur p l

/-- Training has ended (R286, R287): lanes that failed are retired; else the port is HELD, and replays what was not
acknowledged. -/
def execWarpTrainingDone (p failed : Nat) (s : State) : Out :=
  ifUnit (isWarpPort p)
    (if s.warpUp p ∧ s.wpFld fWP_PORT_STAT_STATE p = 2 then
      match (List.range 8).filter fun l => (failed &&& s.wpFld fWP_PORT_STAT_LANES_UP p).testBit l with
      | [] => ((s.setWpFld fWP_PORT_STAT_STATE p 3).setWpFld fWP_PORT_CTL_RETRAIN p 0).setLat .warpFails p 0 0
      | ls => s.each ls fun l t => if t.wpFld fWP_PORT_STAT_STATE p = 5 then t else t.laneOut p l
    else s)

/-- A HELD port enters ACTIVE (R288), or stays for an equal package number. -/
def execWarpEnterActive (p : Nat) (s : State) : Out :=
  ifUnit (isWarpPort p)
    (if s.warpUp p ∧ s.wpFld fWP_PORT_STAT_STATE p = 3 ∧ s.wpFld fWP_PORT_CTL_ENABLE p = 1 then
      if s.wpFld fWP_PORT_STAT_PEER_PKG p = s.pkg then
        s.event 0x3205 .warn (warpUnit p) (p + s.wpFld fWP_PORT_STAT_PEER_PORT p * 2 ^ 8)
      else ((s.setWpFld fWP_PORT_STAT_STATE p 4).event 0x3206 .note (warpUnit p) 0).holdFlows s
    else s)

/-- An ACTIVE port with ENABLE 0 returns to HELD (R288). -/
def execWarpLeaveActive (p : Nat) (s : State) : Out :=
  ifUnit (isWarpPort p)
    (if s.wpFld fWP_PORT_STAT_STATE p = 4 ∧ s.wpFld fWP_PORT_CTL_ENABLE p = 0 then
      (s.setWpFld fWP_PORT_STAT_STATE p 3).holdFlows s
    else s)

/-! ## Flits (R289 to R291, R296, R301, Table LNK-12) -/

/-- Flits up to `a` are acknowledged (R290). -/
def State.warpAck (s : State) (p a : Nat) : State :=
  let n := (a + 4096 - s.lat .warpAcked p 0) % 4096
  if n = 0 ∨ s.lat .warpUnacked p 0 < n then s
  else ((s.setLat .warpAcked p 0 a).setLat .warpUnacked p 0 (s.lat .warpUnacked p 0 - n)).setLat .warpReplays p 0 0

/-- A NAK (R291): the flits up to ACKSEQ were received; the rest are replayed in order. -/
def State.warpNak (s : State) (p a : Nat) : State :=
  let t := s.warpAck p a
  if t.lat .warpUnacked p 0 = 0 then t
  else ((t.satWpFld fWP_PORT_ERR_REPLAYS p 1).setLat .warpReplays p 0 (t.lat .warpReplays p 0 + 1)).event 0x3201 .note
    (warpUnit p) 0

/-- WARP_NAK_RECEIVE. -/
def execWarpNakReceive (p ackseq : Nat) (s : State) : Out :=
  ifUnit (isWarpPort p) (if 3 ≤ s.wpFld fWP_PORT_STAT_STATE p ∧ s.warpUp p then s.warpNak p (ackseq % 4096) else s)

/-! ## Retrain, DOWN and retirement (R292 to R295) -/

/-- A port retrains after 8 replays of one flit or a write of RETRAIN (R292). -/
def execWarpRetrain (p : Nat) (s : State) : Out :=
  ifUnit (isWarpPort p)
    (let st := s.wpFld fWP_PORT_STAT_STATE p
    if s.warpUp p ∧ (st = 3 ∨ st = 4) ∧ (8 ≤ s.lat .warpReplays p 0 ∨ s.retraining p) then s.warpRetrain State.occur p
    else s)

/-- The third retrain in a row has failed (R293): those whose pages agreed on nothing, and `silent` ones more in which the peer sent
no pages. -/
def execWarpPortDown (p silent : Nat) (waiting : List Waiter) (s : State) : Out :=
  ifUnit (isWarpPort p)
    (let st := s.wpFld fWP_PORT_STAT_STATE p
    if s.warpUp p ∧ (st = 1 ∨ st = 2) ∧ s.retraining p ∧ 3 ≤ s.lat .warpFails p 0 + silent then s.warpPortDown p waiting else s)

/-- A lane is retired (R294). -/
def execWarpLaneRetire (p l : Nat) (s : State) : Out :=
  ifUnit (isWarpPort p && l < 8)
    (if s.warpUp p ∧ (s.wpFld fWP_PORT_STAT_RETIRED_LANES p).testBit l = false then s.laneOut p l else s)

/-- A port is retired (R295). -/
def execWarpPortRetire (p : Nat) (s : State) : Out :=
  ifUnit (isWarpPort p) (if s.warpUp p then (s.addRetired (warpUnit p)).retirePort p else s)

/-- WP_PORT_CTL written (Table LNK-14): lanes named in LANE_RETIRE and a port given RETIRE are retired at once;
RETRAIN reads 1 until the retrain is done; a HELD or ACTIVE port with ENABLE acts by its own events. -/
def State.warpCtlWrite (s : State) (p : Nat) (v : W64) : State :=
  let t := ((s.setWpFld fWP_PORT_CTL_RATES p (getBits v 10 8)).setWpFld fWP_PORT_CTL_ENABLE p (getBits v 1 1)).setWpFld
    fWP_PORT_CTL_TRAIN_EN p (getBits v 0 0)
  if t.wpFld fWP_PORT_STAT_STATE p = 5 then t
  else
    let t := if bitOf v 3 ∧ t.wpFld fWP_PORT_STAT_STATE p ≠ 0 then t.setWpFld fWP_PORT_CTL_RETRAIN p 1 else t
    let t := t.each ((List.range 8).filter fun l => bitOf v (16 + l)) fun l u =>
      if u.wpFld fWP_PORT_STAT_STATE p = 5 ∨ (u.wpFld fWP_PORT_STAT_RETIRED_LANES p).testBit l then u else u.laneOut p l
    if bitOf v 2 ∧ t.wpFld fWP_PORT_STAT_STATE p ≠ 5 then (t.addRetired (warpUnit p)).retirePort p else t

/-! ## Routes (R297, R298, R300) -/

/-- WP_ROUTE written (R268, R297, R298): through XD0 only, and into every copy as one step:
the copies of XD0 to XD3 are always equal, and are kept once; bits 5:4 of a choice read zero. -/
def execWpRouteWrite (m : Master) (xd k : Nat) (v : W64) (s : State) : Out :=
  ifUnit (xd < 4 && k < 4096) (s.portWrite m (56 + xd) fun t =>
    if xd = 0 then (t.setFld fWP_ROUTE_CHOICE 56 k (getBits v 31 0 &&& 0xCFCFCFCF)).holdFlows t else t.portRefused (56 + xd))

/-- The older requests of the held flows to a package have their responses (R298). -/
def execFlowRouteHoldEnd (pkg : Nat) (s : State) : Out := ifUnit (pkg < 4096) (s.setLat .flowHold pkg 0 0)

/-- A request waited WP_GCFG.TIMEOUT_US for its response (R300): never with TIMEOUT_US zero. -/
def execRemoteRequestTimeout (xd : Nat) (x : Waiter) (s : State) : Out :=
  ifUnit (xd < 4 && waiterOk x)
    (if s.fld fWP_GCFG_TIMEOUT_US 56 0 = 0 then s else (s.event 0x3210 .fault (dieUnit (56 + xd)) 0).remoteLost x)

end Sys2Proof.Machine
end

