-- ==== Sys2Proof/Machine/RegWrite.lean ====
section
/-! DEFINITION. Writes of registers through the control windows and BAR0 (R8 to R12, R24, R80, R81, R186, R268, R379,
R412): a register whose write has a row of its own is written by that row's meaning, any other by its access codes and the
rules of its block. -/

namespace Sys2Proof.Machine

/-! ## Rows of their own -/

/-- The state a command leaves. -/
def ranState (f : State → Out) (s : State) : State := match f s with | .next t => t | _ => s

/-- The commands one register's value may spell, of which one acts. -/
def ranAll (fs : List (State → Out)) (s : State) : State := fs.foldl (fun t f => ranState f t) s

/-- PLY_CMD. -/
def plyCmdRows (m : Master) (d : Nat) (v : W64) : List (State → Out) :=
  match getBits v 3 0 with
  | 1 => [execPlyForm m d v] | 2 => [execPlyJoin m d v] | 3 => [execPlySplit m d v] | 4 => [execPlyDissolve m d v]
  | 5 => [execPlyRun m d v] | 6 => [execPlyHalt m d v] | 7 => [execPlyStep m d v] | 8 => [execPlyReform m d v]
  | _ => [execPlyBadCommand m d v]

/-- QD_RGN_CMD. -/
def rgnCmdRows (m : Master) (d : Nat) (v : W64) : List (State → Out) :=
  [execRegionLoad m d v, execRegionUnload m d v, execRegionBadCommand m d v]

/-- QD_SKEIN_CMD. -/
def skeinCmdRows (m : Master) (d : Nat) (v : W64) : List (State → Out) :=
  [execSkeinQuiesce m d v, execSkeinResume m d v, execSkeinRollback m d v, execSkeinCommit m d v]

/-- WD_EP_CMD. -/
def epCmdRows (m : Master) (v : W64) : List (State → Out) :=
  [execEpEnrol m v, execEpRelease m v, execEpForceCommit m v, execEpRollback m v, execEpResume m v, execEpBadCommand m v]

/-- The rows of a register that has some: of the write of `v` to instance `i` in the window of die `d`. -/
def writeRows (m : Master) (r : Reg) (d i : Nat) (v : W64) : Option (List (State → Out)) :=
  match r with
  | .PW_DIE_ISO => some [execPwDieIsoWrite m i v]
  | .PW_TWIN_CTL => some [execPwTwinCtlWrite m d i v false]
  | .PW_TWIN_AVS => some [execPwTwinAvsWrite m d i v false]
  | .PLY_CMD => some (plyCmdRows m d v)
  | .QD_CFG => some [execQdCfgWrite m d v]
  | .QD_CARVE => some [execQdCarveWrite m d v]
  | .QD_TEN => some [execQdTenWrite m d i v]
  | .QD_RGN_CMD => some (rgnCmdRows m d v)
  | .QD_SKEIN_CMD => some (skeinCmdRows m d v)
  | .CD_BNK_PWR => some [execCdBnkPwrWrite m (32 * d + i) v]
  | .WD_BNK_PWR => some [execWdBnkPwrWrite m (d - 62) v]
  | .FS_COLREP_CMD => some [execColrepProgram m d v]
  | .HI_BAR2_BASE => some [execHiBar2BaseWrite i v]
  | .HI_PKG_NUM => some [execHiPkgNumWrite (match m with | .host p => p | _ => 0) v]
  | .HI_DMA_CTL => some [execHostDmaEnable (i / 4) (i % 4) v, execHostDmaDisable (i / 4) (i % 4) v]
  | .HI_DMA_HEAD => some [execHostDmaHeadWrite (i / 4) (i % 4) v]
  | .WP_ROUTE => some [execWpRouteWrite m (d - 56) i v]
  | .WP_COLL_POST => some [fun s => .next (s.collPost m v)]
  | .WD_WDOG_KICK => some [execWatchdogKick m (d - 62) v]
  | .WD_ROLE => some [execHealthyWrite m (d - 62) v]
  | .WD_ROLE_CMD => some [execHandover m v]
  | .WD_DIE_PHASE => some [execWdDiePhaseWrite m i v]
  | .WD_DIE_PWR => some [execWdDiePwrWrite m i v]
  | .FS_FUSE_CMD => some [execFuseProgram m (d - 62) v]
  | .TB_CTL => some [execTbModeWrite m (d - 62) v]
  | .TB_NOM => some [execTbTimingWrite m (d - 62) false v]
  | .TB_DATA => some [execTbTimingWrite m (d - 62) true v]
  | .TB_TXB_CMD => some ((if bitOf v 0 then [execTxRequest m (d - 62) i] else []) ++ (if bitOf v 1 then [execTxAbort m (d - 62) i] else []))
  | _ => none

/-- The rows of a register of the active warden's own window. -/
def activeRows (m : Master) (r : Reg) (i : Nat) (v : W64) : Option (List (State → Out)) :=
  match r with
  | .WD_TIME_ADJ => some [execWdTimeAdjWrite m v]
  | .WD_TIME_STEP => some [execWdTimeStepWrite m v]
  | .TH_CAL_FLUID => some [execCalibrationWrite m 0 v]
  | .TH_CAL_HB => some [execCalibrationWrite m 1 v]
  | .TH_CAL_TRIM => some [execCalibrationWrite m 2 v]
  | .TH_CAL_DIE => some [execCalibrationWrite m (3 + i) v]
  | .WD_FLT_THR => some [execWdFltThrWrite m i v]
  | .WD_FLT_INJECT => some [execFaultInject m v]
  | .WD_RET_CLEAR => some [execRetirementLogClear m v]
  | .WD_EP_CMD => some (epCmdRows m v)
  | .WD_EP_GRP_CFG => some [execEpGrpCfgWrite m v]
  | .LK_LOCK => some [execLockWrite m i]
  | .LK_FORCE => some [execLkForce m v]
  | .EV_CTL => if bitOf v 0 then some [execRecorderClear m v] else none
  | .EV_LIMIT0 => some [execEvLimitWrite m i v]
  | .TH_ORDER_HOST => some [execThOrderHostWrite m v]
  | .TH_SOFT => some [execPolicyRegisterWrite m 0x100 v]
  | .TH_HARD_T => some [execPolicyRegisterWrite m 0x200 v]
  | .TH_HARD_FLOW => some [execPolicyRegisterWrite m 0x208 v]
  | .TH_HARD_LEAK => some [execPolicyRegisterWrite m 0x210 v]
  | .TH_HARD_EMERG => some [execPolicyRegisterWrite m 0x218 v]
  | .TH_CURVE_STG => some [execPolicyRegisterWrite m (0x400 + 8 * i) v]
  | .TH_CURVE_CMD => some [execCurveApply m v]
  | .TH_TEN => some [execThTenShareWrite m i v]
  | .TH_TENMAP0 => some [execThTenmapWrite m i 0 v]
  | .TH_TENMAP1 => some [execThTenmapWrite m i 1 v]
  | .CE_TSG_CMD => some [execTsgStop m v, execTsgStart m v]
  | .CE_CAP_CMD => some [execCaptureStop m v, execCaptureStart m v]
  | .CE_LOOP_CFG => some [execLoopModeWrite m i v]
  | .CE_LOOP_CTL => some [execLoopSwap m i v, execLoopClrFault m i v]
  | .CE_LOOP_SET0 => some [execLoopSetWrite m (i / 2) (i % 2) 0 v]
  | .CE_LOOP_SET1 => some [execLoopSetWrite m (i / 2) (i % 2) 1 v]
  | .CE_LOOP_SET2 => some [execLoopSetWrite m (i / 2) (i % 2) 2 v]
  | .CE_LOOP_SET3 => some [execLoopSetWrite m (i / 2) (i % 2) 3 v]
  | .SV_CMD => some [execSolenoidOn m i v, execSolenoidOff m i v]
  | .WD_RST_CMD => some [execWdRstCmd m v]
  | .WD_FLASH_CMD => some [execFlashProgram m v]
  | _ => none

/-! ## Blocks without a row -/

/-- A value without the bits that start something. -/
def quietValue (r : Reg) (v : W64) : W64 :=
  (regDesc r).fields.foldl (fun a f => if f.acc = .w1s then setBits a f.hi f.lo 0 else a) v

/-- A spindle's SPN_ register written (R69, R80 to R82, R186, Tables SP-7 to SP-14). -/
def State.spnWrite (s : State) (m : Master) (r : Reg) (sp : Nat) (v : W64) : State :=
  let d := spDie sp
  let k := spIdx sp
  if s.spnHidden sp r then s
  else
    let rep := s.replicatedWrite sp fun q t => t.plainWrite r (spDie q) (spIdx q) v
    match r with
    | .SPN_CTL =>
      s.ctlWrite m sp fun t =>
        (t.setReg .SPN_CTL d k (setBits (t.reg .SPN_CTL d k) 5 4 (getBits v 5 4))).ctlRequest sp (bitOf v 1) (bitOf v 2) (bitOf v 3)
    | .SPN_DB_SET => s.dbSetWrite sp v
    | .SPN_PC =>
      if s.spState sp = 2 || s.slotBarred sp then
        s.replicatedWrite sp fun q t => (t.plainWrite .SPN_PC (spDie q) (spIdx q) v).updSpin q fun x => { x with overrun := false }
      else s
    | .SPN_VEC | .SPN_EXC_PC | .SPN_IRQ_EN | .SPN_DB_MASK => rep
    | .SPN_TIMER_CMP => rep.each (s.mates sp) fun q t => t.timerTest q.2
    | .SPN_IRQ => (s.plainWrite r d k v).timerTest sp
    | _ => s.plainWrite r d k v

/-- A register of warden die `d` written without a row: its block's rules, then its access codes. The standby's copy keeps the
ranges of the active warden's; what acts on the package acts from the active warden's window alone. -/
def State.wardenWrite (s : State) (m : Master) (r : Reg) (d i : Nat) (v : W64) : State :=
  let plain := fun (t : State) => t.plainWrite r d i v
  let a := regAddr r d i
  let keep := fun (code : Nat) (ok : Bool) (t : State) => if t.wpOk r d i v && !ok then t.event code .warn (unitId d 0) a else plain t
  let bad := keep 0x5304
  let tb := fun (t : State) => if tbLegal r v then plain t else t.tbRefused d a
  match r with
  | .WD_TIME_ADJ => s.guardedWrite m r d i fun t => t.adjWrite d v
  | .WD_TIME_STEP => s.guardedWrite m r d i fun t => if 2 ^ 40 ≤ v.toNat then t.event 0x7152 .warn (unitId d 0) v.toNat else t
  | .PW_IN_MEAS | .PW_RAIL_CAP | .PW_CONV_OK => s.powerWrite m r d i plain
  | .WD_FORCE_LEAK => s.guardedWrite m r d i fun t => t.leakWrite m d v
  | .WD_FLT_QUERY | .WD_EP_ARG => s.faultWrite m plain
  | .WD_FLT_THR => s.faultWrite m (keep 0x8116 (!thrBad i v))
  | .WD_FLT_INJECT | .WD_RET_CLEAR | .WD_EP_CMD | .WD_EP_GRP_CFG => s.faultWrite m id
  | .EV_LIMIT0 => s.guardedWrite m r d i fun t => keep 0x7134 (!t.limitBad d i v) t
  | .TH_CAL_FLUID | .TH_CAL_HB | .TH_CAL_TRIM | .TH_CAL_DIE => s.guardedWrite m r d i (keep 0x4407 (calLegal (calIndex r i) v))
  | .TH_SOFT | .TH_HARD_T | .TH_HARD_FLOW | .TH_HARD_LEAK | .TH_HARD_EMERG => s.guardedWrite m r d i (keep 0x4602 (policyLegal r v))
  | .TH_TEN => s.guardedWrite m r d i fun t => keep 0x4602 (decide (t.shareSum d i + getBits v 9 0 ≤ 1000)) t
  | .CE_LOOP_CFG => s.guardedWrite m r d i fun t => if getBits v 1 0 = 3 then t.event 0x5304 .warn (unitId d 0) a else bad (t.loopCfgLegal d i v) t
  | .CE_LOOP_SET0 | .CE_LOOP_SET1 | .CE_LOOP_SET2 | .CE_LOOP_SET3 =>
    s.guardedWrite m r d i fun t =>
      if t.loopSet d (i / 2) = i % 2 then t.loopRefused d (i / 2) 3 else bad (r != .CE_LOOP_SET1 || decide (getBits v 63 32 ≤ 0x10000000)) t
  | .EV_CTL => s.guardedWrite m r d i fun t => (plain t).putFld fEV_CTL_CLEAR d 0 0
  | .LK_LOCK | .LK_FORCE | .TH_ORDER_HOST | .TH_CURVE_CMD | .WD_RST_CMD | .WD_FLASH_CMD => s.guardedWrite m r d i id
  | .CE_LOOP_SAFE | .CE_LOOP_SUP => s.guardedWrite m r d i fun t => bad (t.loopLegal d r i v) t
  | .SV_PROF0 | .SV_PROF1 => s.guardedWrite m r d i fun t => bad (svLegal r v) t
  | .FP_CFG | .FP_SUP | .FP_ISUP | .FP_FIXED | .FP_ZONE_SRC | .FP_ZONE_PT | .CE_FLOW_CFG | .CE_AIN_CFG | .CE_LEAK_CFG =>
    s.guardedWrite m r d i fun t => (bad (t.fanLegal d r i v) t).iff (d == s.aw) State.settleAll
  | .TB_CFG | .TB_FWD => s.tbWrite m d a tb
  | .TB_FILT_ID | .TB_FILT_MASK | .TB_FILT_BUF | .TB_FILT_HITS => s.tbOwn m d a tb
  | .TB_TXB_ID | .TB_TXB_CTRL =>
    s.tbOwn m d a fun t => if t.txStatus d i = 1 then t.tbRefused d a else plain t
  | .TB_TXB_DATA => s.tbOwn m d a fun t => if t.txStatus d (i / 16) = 1 then t.tbRefused d a else plain t
  | .TB_RXB_ID | .TB_RXB_CTRL | .TB_RXB_TS | .TB_RXB_DATA => s.tbOwn m d a id
  | .TB_STAT | .TB_AUTO | .TB_ERRCNT | .TB_ORW_STAT => s.tbWrite m d a plain
  | _ => s.guardedWrite m r d i fun t => t.plainWrite r d i (quietValue r v)

/-- A register of a host port's own block written (R269, Tables LNK-4, LNK-13): a vector that is unmasked while its bit is
pending sends its message. -/
def State.hostWrite (s : State) (r : Reg) (i : Nat) (v : W64) : State :=
  let t := s.plainWrite r 60 i v
  match r with
  | .HI_LINK_STAT => t.linkChange s i
  | .HI_MSIX_HI =>
    let p := i / 16
    let k := i % 16
    if bitOf (t.reg .HI_MSIX_HI 60 i) 32 = false ∧ bitOf (t.reg .HI_MSIX_PBA 60 p) k then
      (t.setReg .HI_MSIX_PBA 60 p (t.reg .HI_MSIX_PBA 60 p &&& ~~~(maskOf k k))).raiseMsix p k
    else t
  | _ => t

/-- A host port's own register, reached through BAR0 (R268). -/
def isHostReg (r : Reg) : Bool :=
  match r with
  | .HI_BAR2_BASE | .HI_PKG_NUM | .HI_LINK_STAT | .HI_DMA_BASE | .HI_DMA_CTL | .HI_DMA_HEAD | .HI_DMA_TAIL | .HI_MSIX_LO | .HI_MSIX_HI
  | .HI_MSIX_PBA => true
  | _ => false

/-- A register with no row of its own. -/
def State.writeBlock (s : State) (m : Master) (r : Reg) (d i : Nat) (v : W64) : State :=
  if isSpn r then s.spnWrite m r (32 * d + i) v
  else if isHostReg r then s.hostWrite r i v
  else if 62 ≤ d then s.wardenWrite m r d i v
  else if 56 ≤ d then
    match r with
    | .CX_PORT_CTL => s.portWrite m d fun t => t.cxlCtlWrite (2 * (d - 60) + i) v
    | .WP_PORT_CTL => s.portWrite m d fun t => t.warpCtlWrite (4 * (d - 56) + i) v
    | _ => s.portWrite m d fun t => t.plainWrite r d i v
  else if 48 ≤ d then s.qdWrite m d fun t => t.plainWrite r d i v
  else match r with
    | .PW_TWIN_MEAS | .PW_TWIN_ENERGY | .PW_TWIN_SLACK => s.powerWrite m r d i id
    | .TH_HS_CAL => if s.isActive m then s.calWrite d i v else s
    | _ => s.plainWrite r d i v

/-- A whole register is written. -/
def State.writeReg (s : State) (m : Master) (r : Reg) (d i : Nat) (v : W64) : State :=
  match writeRows m r d i v with
  | some fs => ranAll fs s
  | none =>
    match (if d = s.aw then activeRows m r i v else none) with
    | some fs => ranAll fs s
    | none => s.writeBlock m r d i v

/-! ## Mailboxes -/

/-- A compute-die or host side's mask is written: a bit that is pending and now unmasked raises its interrupt (R396). -/
def State.mbMaskWrite (s : State) (pair : Nat) (low : Bool) (v : W32) : State :=
  let x := s.mbSide pair low
  let t := s.setMbSide pair low { x with mask := v }
  let news := x.db &&& v &&& ~~~x.mask
  if pair < 2 ∧ low then (if news = 0 then t else (t.raiseMsix 0 pair).raiseMsix 1 pair)
  else if 3 ≤ pair ∧ low then (if x.db &&& x.mask = 0 ∧ news ≠ 0 then t.cdDeliver (pair - 3) else t)
  else t

/-- A write of a mailbox register that has no row of its own (Table WD-11). -/
def State.mbRegWrite (s : State) (m : Master) (pair : Nat) (low : Bool) (off : Nat) (v : W64) : State :=
  if !s.mbMay m pair low then s.wevent 0x7113 .warn (mbUnit pair) low.toNat
  else
    let x := s.mbSide pair low
    match off with
    | 0x210 => if bitOf v 16 then s.setMbSide pair low { x with refused := false } else s
    | 0x220 => s.setMbSide pair low { x with db := x.db &&& ~~~(BitVec.ofNat 32 v.toNat) }
    | 0x228 => s.mbMaskWrite pair low (BitVec.ofNat 32 v.toNat)
    | 0x230 => if 3 ≤ pair ∧ low then s.setMbSide pair low { x with cfg := BitVec.ofNat 32 (v.toNat &&& 0x9F1F) } else s
    | _ => s

/-- A write of `size` bytes to a mailbox aperture. -/
def State.writeMailbox (s : State) (m : Master) (pair : Nat) (low here : Bool) (off size : Nat) (v : W64) : State :=
  let w : W32 := BitVec.ofNat 32 v.toNat
  if !here then s.wevent 0x7113 .warn (mbUnit pair) low.toNat
  else if (size = 4 ∨ size = 8) ∧ off % size = 0 ∧ off + size ≤ 0x100 then
    ranState (execMbOutWrite m pair low off (leBytes size v.toNat)) s
  else if size = 4 then
    match off with
    | 0x200 =>
      match getBits v 2 0 with
      | 1 => ranState (execMbPost m pair low) s
      | 2 => ranState (execMbWait m pair low) s
      | 3 => ranState (execMbPostWait m pair low) s
      | 4 => ranState (execMbResetIn m pair low) s
      | _ => s.mbRegWrite m pair low off v
    | 0x208 => ranState (execMbAck m pair low w) s
    | 0x218 => ranState (execMbDbOutWrite m pair low w) s
    | o => s.mbRegWrite m pair low o v
  else s

/-- A write of `size` bytes to what an offset leads to: a register takes a write of its own width only (R8). -/
def State.writeSite (s : State) (m : Master) (x : RegSite) (size : Nat) (v : W64) : State :=
  match x with
  | .reg r d i b => if b = 0 ∧ 8 * size = (regDesc r).width then s.writeReg m r d i v else s
  | .mailbox pair low here off => s.writeMailbox m pair low here off size v
  | .records _ _ | .none => s

/-- A write of `size` bytes to a place of a die's window that is no memory. -/
def State.writeWindow (s : State) (m : Master) (l : Loc) (size : Nat) (v : W64) : Status × State :=
  match l with
  | .view sp off =>
    if s.dieAnswer (spDie sp) = .ok then (.ok, s.viewPut sp off size v)
    else (s.dieAnswer (spDie sp), s)
  | .win d off =>
    if s.dieAnswer d = .ok then (.ok, s.writeSite m (s.windowSite d off) size v) else (s.dieAnswer d, s)
  | _ => (.unsupported, s)

end Sys2Proof.Machine
end

