-- ==== Sys2Proof/Machine/Wide.lean ====
section
/-! DEFINITION. Accesses of any length by a requester to any system address (R8, R9, R22, R36 to R38, R268, R289, R290, R296, R298):
memory fragment by fragment, registers and state views in their natural parts, other packages by the warp ports. -/

namespace Sys2Proof.Machine

/-- Who makes an access: the master it counts as, its die, and its unit (Table FL-11), which a warp flit carries as SRC_UNIT. -/
structure Requester where
  m : Master
  die : Nat
  unit : Nat

/-- A spindle. -/
def State.asSpindle (s : State) (sp : Nat) : Requester := ⟨.spindle sp, spDie sp, s.spUnit sp⟩
/-- A host port, or a DMA channel of it. -/
def asHost (port : Nat) : Requester := ⟨.host port, 60, hostUnit port⟩
/-- The collective engine of XD0. -/
def asEngine : Requester := ⟨.hw, 56, dieUnit 56⟩
/-- Another package, through warp port `p`: neither a host port nor the active warden of this one. -/
def asWarp (p : Nat) : Requester := ⟨.hw, warpDie p, warpUnit p⟩

/-! ## Parts -/

/-- An access is split into naturally aligned parts of `w` bytes, as (offset, length), where it can be. -/
def parts (w off n : Nat) : List (Nat × Nat) := (List.range (n / w)).map fun k => (off + w * k, w)

/-- The natural parts of an access to registers: the whole of a short one, else parts of 8 or of 4 bytes. -/
def natural (off n : Nat) : List (Nat × Nat) :=
  if n ≤ 8 then [(off, n)]
  else if n % 8 = 0 ∧ off % 8 = 0 then parts 8 off n
  else if n % 4 = 0 ∧ off % 4 = 0 then parts 4 off n
  else [(off, n)]

/-- The place an address leads to where it is no memory: a register or a state view of this package. -/
def State.windowAt (s : State) (a : Nat) : Option Loc :=
  if a / 2 ^ 52 = s.pkg then
    match s.locate (a % 2 ^ 52) with
    | .win d off => some (.win d off)
    | .view sp off => some (.view sp off)
    | _ => none
  else none

/-- A place `k` bytes after another of a window. -/
def Loc.plus (l : Loc) (k : Nat) : Loc :=
  match l with
  | .win d off => .win d (off + k)
  | .view sp off => .view sp (off + k)
  | l => l

/-- The pieces of an access of this package: a short one to a window is whole. -/
def State.cuts (s : State) (a n : Nat) : List (Nat × Nat) :=
  if n ≤ 8 ∧ (s.windowAt a).isSome then [(a % 2 ^ 52, n)] else pieces (a % 2 ^ 52) n

/-- A piece is read. -/
def State.readAt (m : Master) (s : State) (a n : Nat) : Status × List Byte × State :=
  match s.windowAt (s.pkg * 2 ^ 52 + a) with
  | some l => s.readEach (natural 0 n) fun t k z => let x := t.readWindow m (l.plus k) z; (x.1, leBytes z x.2.1.toNat, x.2.2)
  | none => s.movePiece a n

/-- A piece is written. -/
def State.writeAt (m : Master) (s : State) (a : Nat) (bs : List Byte) : Status × State :=
  match s.windowAt (s.pkg * 2 ^ 52 + a) with
  | some l =>
    s.writeEach 0 bs (natural 0 bs.length) fun t k b => t.writeWindow m (l.plus k) b.length (BitVec.ofNat 64 (leValue b))
  | none => s.putPiece a bs

/-! ## Other packages -/

/-- Some piece of a range in another package waits at the XD (R289, R290, R298). -/
def State.warpWaits (s : State) (q : Requester) (a n : Nat) : Bool :=
  (pieces (a % 2 ^ 52) n).any fun p => s.flitHeld (a / 2 ^ 52) q.unit p.1 false false

/-- The pieces of a range leave for another package, each in a flit of its own. -/
def State.warpSend (s : State) (q : Requester) (a n : Nat) : State :=
  s.each (pieces (a % 2 ^ 52) n) fun p t => t.flitLeaves (a / 2 ^ 52) q.unit p.1 false false

/-- An access waits for a route of the mesh or at the XD. -/
def State.moveWaits (s : State) (q : Requester) (a n : Nat) : Bool :=
  s.meshWaits q.die a n || (a / 2 ^ 52 != s.pkg && s.warpWaits q a n)

/-! ## Reads and writes -/

/-- A requester reads bytes from a system address on. Bytes of another package are free values (R299 where it has no route). -/
def State.moveRead (s : State) (q : Requester) (a n : Nat) : Status × List Byte × State :=
  if s.moveWaits q a n then (.held, [], s)
  else if a / 2 ^ 52 = s.pkg then s.readEach (s.cuts a n) (State.readAt q.m)
  else if n = 0 then (.ok, [], s)
  else if s.reachable (a / 2 ^ 52) then (.ok, s.sysBytes a n, { s.warpSend q a n with free := s.free + 1 })
  else (.unsupported, [], s)

/-- A requester writes bytes from a system address on. -/
def State.moveWrite (s : State) (q : Requester) (a : Nat) (bs : List Byte) : Status × State :=
  if s.moveWaits q a bs.length then (.held, s)
  else if a / 2 ^ 52 = s.pkg then s.writeEach (a % 2 ^ 52) bs (s.cuts a bs.length) (State.writeAt q.m)
  else if bs = [] then (.ok, s)
  else if s.reachable (a / 2 ^ 52) then (.ok, s.warpSend q a bs.length) else (.unsupported, s)

end Sys2Proof.Machine
end

