-- ==== Sys2Proof/Machine/Access.lean ====
section
/-! DEFINITION. Requests from outside to registers, state views, doorbell words and memory: register writes (R8), the
state view (R83), and a host port's BARs (R38, R42, R43, R271, R272, R543). -/

namespace Sys2Proof.Machine

/-! ## Registers and state views -/

/-- A write of `size` bytes to a register at a system address (R8, R36). -/
def State.registerWrite (s : State) (m : Master) (addr size : Nat) (v : W64) : State :=
  if s.masterHeld m addr then s.answer .held []
  else if addr / 2 ^ 52 ≠ s.pkg then s.answer (if s.reachable (addr / 2 ^ 52) then .ok else .unsupported) []
  else match s.locate (addr % 2 ^ 52) with
    | .win d off => let r := s.writeWindow m (.win d off) size v; r.2.answer r.1 []
    | .view sp off => let r := s.writeWindow m (.view sp off) size v; r.2.answer r.1 []
    | .none =>
      (s.event 0x3F01 .warn (s.masterUnit m) addr).answer (match m with | .host _ => .ok | _ => .addressFault) []
    | _ => s

/-- REGISTER_WRITE (R8): a write at a register's address, by its row or by its access codes. -/
def execRegisterWrite (m : Master) (addr size : Nat) (v : W64) (s : State) : Out :=
  ifUnit (decide (addr < 2 ^ 64)) (s.registerWrite m addr size v)

/-- STATE_VIEW_ACCESS (R83): a read, or a write of `data`. -/
def execStateViewAccess (m : Master) (sp off size : Nat) (data : Option W64) (s : State) : Out :=
  ifUnit (decide (sp < nSpindles) && decide (off < 0x100000))
    (match data with
    | some v => let r := s.writeWindow m (.view sp off) size v; r.2.answer r.1 []
    | none => let r := s.readWindow m (.view sp off) size; r.2.2.answer r.1 (leBytes size r.2.1.toNat))

/-! ## A host port's requests -/

/-- The port has power and is out of reset. -/
def State.portAlive (s : State) (port : Nat) : Bool := s.dieUp 60 && s.lat .perst port 0 == 0

/-- The step "I/O" has completed (R543). -/
def State.portServes (s : State) : Bool := !(s.pkgState == 3 && decide (s.wfld fWD_PKG_STAT_STEP 0 ≤ 3))

/-- The port does not serve requests to compute dies, quarries and memory yet (R543). -/
def State.notReady (s : State) : Bool := s.pkgState == 1 || s.pkgState == 2 || s.pkgState == 3

/-- A place that R543 keeps from a host until the step "Ready" completes. -/
def Loc.gated : Loc → Bool
  | .hbm _ | .cxl _ | .pad _ _ _ | .pool _ _ | .view _ _ => true
  | .win d _ => decide (d < 56)
  | .sram _ _ _ | .none => false

/-- Reads of parts, in order. -/
def State.readParts (s : State) (l : List (Nat × Nat)) (f : State → Nat → Nat → W64 × State) : List Byte × State :=
  l.foldl (fun (acc : List Byte × State) (p : Nat × Nat) =>
    let r := f acc.2 p.1 p.2
    (acc.1 ++ leBytes p.2 r.1.toNat, r.2)) ([], s)

/-- Writes of parts, in order. -/
def State.writeParts (s : State) (o : Nat) (l : List (Nat × Nat)) (bs : List Byte) (f : State → Nat → Nat → W64 → State) : State :=
  s.each l fun p t => f t p.1 p.2 (BitVec.ofNat 64 (leValue ((bs.drop (p.1 - o)).take p.2)))

/-- A read through BAR0 (Table FL-18). -/
def State.bar0Read (s : State) (port off n : Nat) : State :=
  let r := s.readParts (natural off n) fun t o k => t.readSite (.host port) (t.barSite port o) k
  r.2.answer .ok r.1

/-- A write through BAR0. -/
def State.bar0Write (s : State) (port off : Nat) (bs : List Byte) : State :=
  (s.writeParts off (natural off bs.length) bs fun t o k v => t.writeSite (.host port) (t.barSite port o) k v).answer .ok []

/-- The system address of an offset of BAR2 (R42). -/
def State.bar2Addr (s : State) (port off : Nat) : Nat :=
  let v := s.reg .HI_BAR2_BASE 60 port
  (if bitOf v 0 then s.pkg else getBits v 63 52) * 2 ^ 52 + getBits v 51 36 * 2 ^ 36 + off

/-- How a BAR2 read ends for the host (R38, R271). -/
def State.endRead (s : State) (port a : Nat) (st : Status) (bs : List Byte) : State :=
  match st with
  | .ok => s.answer .ok bs
  | .unsupported | .addressFault => (s.event 0x3F01 .warn (hostUnit port) a).answer .unsupported []
  | .dataLost => (s.event 0x3305 .warn (hostUnit port) a).answer .dataLost []
  | st => s.answer st []

/-- How a BAR2 write ends: one that fails is discarded. -/
def State.endWrite (s : State) (port a : Nat) (st : Status) : State :=
  match st with
  | .unsupported | .addressFault => (s.event 0x3F01 .warn (hostUnit port) a).answer .ok []
  | .dataLost | .dieLost => (s.event 0x3305 .warn (hostUnit port) a).answer .ok []
  | st => s.answer st []

/-- A BAR2 request goes where R543 does not let it go yet. -/
def State.barGated (s : State) (a : Nat) : Bool := a / 2 ^ 52 == s.pkg && s.notReady && (s.locate (a % 2 ^ 52)).gated

/-- A read through BAR2. -/
def State.bar2Read (s : State) (port off n : Nat) : State :=
  let a := s.bar2Addr port off
  if s.barGated a then s.endRead port a .unsupported []
  else let r := s.moveRead (asHost port) a n; r.2.2.endRead port a r.1 r.2.1

/-- A write through BAR2. -/
def State.bar2Write (s : State) (port off : Nat) (bs : List Byte) : State :=
  let a := s.bar2Addr port off
  if s.barGated a then s.endWrite port a .unsupported
  else let r := s.moveWrite (asHost port) a bs; r.2.endWrite port a r.1

/-- A doorbell word of BAR4 is written (R43, R543): for a spindle of an isolated die, or before the step "Ready" has
completed, it is discarded and recorded. -/
def State.bar4Write (s : State) (port off : Nat) (v : W64) : State :=
  if off % 4 ≠ 0 then s
  else if off < 4 * nSpindles then
    if s.notReady || !s.dieUp (spDie (off / 4)) then s.event 0x3F01 .warn (hostUnit port) off
    else s.dbSetWrite (off / 4) v
  else if off = 0x2000 ∨ off = 0x2004 then
    ranState (execMbDbOutWrite (.host port) (if off = 0x2000 then 0 else 1) true (BitVec.ofNat 32 v.toNat)) s
  else s

/-- A word of BAR4 as it reads (R43): pending bits of a spindle, zero of one whose die is isolated or that is retired
(DESIGN CHOICE, log 167: the spec gives the write only); MB_DB_OUT reads zero. -/
def State.bar4Word (s : State) (off : Nat) : W64 :=
  if off % 4 = 0 ∧ off < 4 * nSpindles ∧ s.dieUp (spDie (off / 4)) ∧ s.spState (off / 4) ≠ 6 then
    BitVec.ofNat 64 (s.spFld fSPN_DB_PEND_PEND (off / 4))
  else 0

/-- The port serves requests now. -/
def State.ifServed (s : State) (port : Nat) (f : State → State) : State :=
  if !s.portAlive port then s else if s.portServes then f s else s.answer .unsupported []

/-- BAR4_DOORBELL_WRITE (R43). -/
def execBar4DoorbellWrite (port off : Nat) (v : W64) (s : State) : Out :=
  ifUnit (isHostPort port && decide (off < 0x4000)) (s.ifServed port fun t => (t.bar4Write port off v).answer .ok [])

/-- A memory request that a port serves. -/
def State.hostRequest (s : State) (port bar off len : Nat) (data : Option (List Byte)) : State :=
  match bar, data with
  | 0, none => s.bar0Read port off len
  | 0, some bs => s.bar0Write port off bs
  | 2, none => s.bar2Read port off len
  | 2, some bs => s.bar2Write port off bs
  | _, none => let r := s.readParts (if len ≤ 4 then [(off, len)] else parts 4 off len) fun t o k => (if k = 4 then t.bar4Word o else 0, t); r.2.answer .ok r.1
  | _, some bs =>
    (s.writeParts off (if bs.length ≤ 4 then [(off, bs.length)] else parts 4 off bs.length) bs fun t o k v =>
      if k = 4 then t.bar4Write port o v else t).answer .ok []

/-- Bytes of a BAR (Table FL-17); 0 where the port has none of the number. -/
def barSize (bar : Nat) : Nat := match bar with | 0 => 0x4000000 | 2 => 0x1000000000 | 4 => 0x4000 | _ => 0

/-- HOST_MEMORY_REQUEST (R271): a read of `len` bytes, or a write of `data`; one that lies in no BAR of the port completes with
Unsupported Request. -/
def execHostMemoryRequest (port bar off len : Nat) (data : Option (List Byte)) (s : State) : Out :=
  let n := match data with | some bs => bs.length | none => len
  ifUnit (isHostPort port) (s.ifServed port fun t =>
    if 0 < barSize bar ∧ off + n ≤ barSize bar then t.hostRequest port bar off len data else t.answer .unsupported [])

end Sys2Proof.Machine
end

