-- ==== Sys2Proof/Machine/CWords.lean ====
section
/-! DEFINITION. C-words (chapter 03, Table ISA-20): flow, ordering, doorbells, waits, exception return and
epochs. -/

namespace Sys2Proof.Machine

/-! ## Fields (Table ISA-14) -/

/-- TARGET. -/
def wTARGET (w : W256) : Nat := bitsOf w 29 16
/-- IMM32. -/
def wIMM32 (w : W256) : Nat := bitsOf w 95 64

/-- A g register of the spindle. -/
def State.gReg (s : State) (sp k : Nat) : W64 := (s.spin sp).getG k

/-- A g register is written in every member (R159). -/
def State.setGs (s : State) (sp k : Nat) (v : W64) : State := s.updMates sp fun x => x.setG k v

/-! ## Flow (R117, R118, R122) -/

/-- BR. -/
def brEff (s : State) (_sp _pc : Nat) (w : W256) : Perf := .ok s (wTARGET w)
/-- BRR: bits 13:0 of the register. -/
def brrEff (s : State) (sp _pc : Nat) (w : W256) : Perf := .ok s ((s.gReg sp (wGA w)).toNat % 16384)
/-- CALL: the link, then the target. -/
def callEff (s : State) (sp pc : Nat) (w : W256) : Perf :=
  .ok (s.setGs sp (wGA w) (BitVec.ofNat 64 (pc + 1))) (wTARGET w)
/-- CALLR: the target is read before the link is written. -/
def callrEff (s : State) (sp pc : Nat) (w : W256) : Perf :=
  .ok (s.setGs sp (wGA w) (BitVec.ofNat 64 (pc + 1))) ((s.gReg sp (wGB w)).toNat % 16384)
/-- LOOP (R118). -/
def loopEff (s : State) (sp pc : Nat) (w : W256) : Perf :=
  let n := s.gReg sp (wGA w)
  if n = 0 then .ok s (pc + 1)
  else .ok (s.setGs sp (wGA w) (n - 1)) (if n = 1 then pc + 1 else wTARGET w)
/-- HALT: it retires and halts the spindle or ply at the word after it (R122). -/
def haltEff (s : State) (sp pc : Nat) (_w : W256) : Perf := .hold ((s.retire sp (pc + 1)).halted sp)

/-! ## Ordering and doorbells (R60, R119, R121) -/

/-- FENCE: every older write of this model's spindle is already visible. -/
def fenceEff (s : State) (_sp pc : Nat) (_w : W256) : Perf := .ok s (pc + 1)

/-- SYNC: the members of this model reach it together; STRAND needs a component (R91). -/
def syncEff (s : State) (sp pc : Nat) (w : W256) : Perf :=
  match lowestCause (scopeCause s sp w) with | some c => .exc c 0 | none => .ok s (pc + 1)

/-- A doorbell target is refused at issue (R119): ADDR_UNPOPULATED with the target. -/
def bellCause (s : State) (tgt : W64) : List Cause :=
  if dbForm tgt && s.reachable (dbPkg tgt) then [] else [(0xA, tgt)]

/-- Bits go to a checked target; `none` where its die is isolated (R119). Those for a retired slot are discarded. -/
def State.sendBell (s : State) (sp : Nat) (tgt : W64) (bits : Nat) : Option State :=
  if bits % 2 ^ 32 = 0 then some s
  else if dbPkg tgt = s.pkg ∧ dbKind tgt = 0 ∧ s.dieUp (spDie (dbSpindle tgt)) ∧ s.spState (dbSpindle tgt) = 6 then some s
  else s.ring (spDie sp) (s.spUnit sp) tgt bits

/-- DOORBELL (R119). -/
def doorbellEff (s : State) (sp pc : Nat) (w : W256) : Perf :=
  let tgt := s.gReg sp (wGA w)
  let bits := if wMODE w then wIMM32 w else (s.gReg sp (wGB w)).toNat % 2 ^ 32
  match lowestCause (bellCause s tgt) with
  | some c => .exc c 0
  | none => if s.bellHeld (s.spUnit sp) tgt then .hold s else match s.sendBell sp tgt bits with
    | some t => .ok t (pc + 1)
    | none => .check s sp mcDieLost

/-! ## Words that stay at the head -/

/-- The word is the head of the spool, and has begun effects if `begun`. -/
def State.holdHead (s : State) (sp pc : Nat) (w : W256) (begun : Bool) : State :=
  s.updMates sp fun x =>
    { x with spool := match x.spool with | [] => [⟨w, pc, none, begun⟩] | e :: es => { e with started := begun } :: es }

/-- WAIT (R75 to R77, R120): it ends at once on a match or a timeout of 0; else the spindle waits. -/
def waitEff (s : State) (sp pc : Nat) (w : W256) : Perf :=
  match s.waitMatch sp w with
  | some h => .hold (s.endWait sp w pc (some h))
  | none =>
    if s.gReg sp (wGB w) = 0 then .hold (s.endWait sp w pc none)
    else .hold ((s.holdHead sp pc w false).setMatesFld fSPN_STAT_STATE sp 4)

/-! ## Exception return, BREAK and epochs (R66, R122, R123, R358, R360) -/

/-- RETX. -/
def retxEff (s : State) (sp pc : Nat) (w : W256) : Perf :=
  let r := s.returnFromHandler sp pc (wMODE w)
  .ok r.1 r.2

/-- BREAK. -/
def brkEff (_s : State) (_sp _pc : Nat) (w : W256) : Perf := .exc (0xE, BitVec.ofNat 64 (wIMM32 w)) 0

/-- EPOCH: as FENCE in a unit that is not enrolled; else the unit writes its images and waits for the commit. -/
def epochEff (s : State) (sp pc : Nat) (w : W256) : Perf :=
  let c := s.epochC
  match s.unitEntry sp with
  | none => .ok ((s.setGs sp (wGA w) (BitVec.ofNat 64 c - 1)).wevent 0x8105 .warn 0 0) (pc + 1)
  | some i =>
    if s.wfld fWD_EP_ENT0_STATE i = 1 then
      let t := s.writeImages i (c + 1) (fun _ _ => pc + 1) fun x => x.setG (wGA w) (BitVec.ofNat 64 c)
      .hold ((t.setWfld fWD_EP_ENT0_STATE i 2).holdHead sp pc w true)
    else .hold s

/-- RDEPOCH. -/
def rdepochEff (s : State) (sp pc : Nat) (w : W256) : Perf :=
  .ok (s.setGs sp (wGA w) (BitVec.ofNat 64 s.epochC)) (pc + 1)

/-! ## The commands -/

/-- BR (R117). -/
def execBr (sp : Nat) (w : W256) (s : State) : Out := wordStep 0x300 sp w s brEff
/-- BRR (R117). -/
def execBrr (sp : Nat) (w : W256) (s : State) : Out := wordStep 0x301 sp w s brrEff
/-- CALL (R117). -/
def execCall (sp : Nat) (w : W256) (s : State) : Out := wordStep 0x302 sp w s callEff
/-- CALLR (R117). -/
def execCallr (sp : Nat) (w : W256) (s : State) : Out := wordStep 0x303 sp w s callrEff
/-- LOOP (R118). -/
def execLoop (sp : Nat) (w : W256) (s : State) : Out := wordStep 0x304 sp w s loopEff
/-- HALT (R122). -/
def execHalt (sp : Nat) (w : W256) (s : State) : Out := wordStep 0x305 sp w s haltEff
/-- FENCE (R60). -/
def execFence (sp : Nat) (w : W256) (s : State) : Out := wordStep 0x310 sp w s fenceEff
/-- DOORBELL (R119). -/
def execDoorbell (sp : Nat) (w : W256) (s : State) : Out := wordStep 0x311 sp w s doorbellEff
/-- WAIT (R120). -/
def execWait (sp : Nat) (w : W256) (s : State) : Out := wordStep 0x312 sp w s waitEff
/-- SYNC (R121). -/
def execSync (sp : Nat) (w : W256) (s : State) : Out := wordStep 0x313 sp w s syncEff
/-- RETX (R66, R73, R122). -/
def execRetx (sp : Nat) (w : W256) (s : State) : Out := wordStep 0x320 sp w s retxEff
/-- BREAK (R122). -/
def execBrk (sp : Nat) (w : W256) (s : State) : Out := wordStep 0x321 sp w s brkEff
/-- EPOCH (R123, R358, R360). -/
def execEpoch (sp : Nat) (w : W256) (s : State) : Out := wordStep 0x322 sp w s epochEff
/-- RDEPOCH (R123). -/
def execRdepoch (sp : Nat) (w : W256) (s : State) : Out := wordStep 0x323 sp w s rdepochEff

end Sys2Proof.Machine
end

