-- ==== Sys2Proof/Machine/SWords.lean ====
section
/-! DEFINITION. S-words (chapter 03, Tables ISA-5, ISA-6 and ISA-17, R93 to R99, R166): scalar operations, loads and
stores, and how an access of a spindle to memory ends. -/

namespace Sys2Proof.Machine

/-! ## Accesses of a spindle -/

/-- The system address of a byte range of a descriptor, for a member of the package (Table SP-2). -/
def State.descAddr (s : State) (q : Nat) (a : W128) (off : Nat) : Nat :=
  match aKIND a with
  | 1 => s.pkg * 2 ^ 52 + padAddr q (aBASE a + off)
  | 2 => s.pkg * 2 ^ 52 + poolAddr (spDie q) (aBASE a + off)
  | _ => aBASE a + off

/-- A load of spindle `q`. -/
def State.loadBytes (s : State) (q a n : Nat) : Status × List Byte × State := s.moveRead (s.asSpindle q) a n

/-- A store of spindle `q`. -/
def State.storeBytes (s : State) (q a : Nat) (bs : List Byte) : Status × State := s.moveWrite (s.asSpindle q) a bs

/-- How an access that was not served ends, for member `mem`, spindle `q` (R38, R60, R62): an exception, a machine
check, or the word waits with `held`. -/
def Status.perf (st : Status) (s held : State) (q a mem : Nat) : Perf :=
  match st with
  | .unsupported | .addressFault => .addr a mem
  | .dieLost => .check s q mcDieLost
  | .dataLost => .check held q mcEcc
  | .ok | .retry | .held => .hold held

/-! ## Slots -/

/-- What a slot comes to. -/
inductive SlotEnd where
  | ok (s : State)
  | exc (c : Cause)
  /-- An access that was not served: its status, the spindle, the address, the bytes it reads or writes. -/
  | missed (st : Status) (q a n : Nat) (bs : Option (List Byte))

/-- SOP. -/
def lSOP (x : Nat) : Nat := x / 2 ^ 24 % 256
/-- RD. -/
def lRD (x : Nat) : Nat := x / 2 ^ 19 % 32
/-- RS1. -/
def lRS1 (x : Nat) : Nat := x / 2 ^ 14 % 32
/-- RS2. -/
def lRS2 (x : Nat) : Nat := x / 2 ^ 9 % 32
/-- IMM14, sign-extended (R95). -/
def lIMM14 (x : Nat) : W64 := BitVec.ofInt 64 (signedOf 14 x)
/-- PD, or AD. -/
def lPD (x : Nat) : Nat := x / 2 ^ 20 % 16
/-- PS1. -/
def lPS1 (x : Nat) : Nat := x / 2 ^ 16 % 16
/-- PS2, FS in its low two bits. -/
def lPS2 (x : Nat) : Nat := x / 2 ^ 12 % 16
/-- PS of SEL. -/
def lPS (x : Nat) : Nat := x / 2 ^ 5 % 16
/-- AS. -/
def lAS (x : Nat) : Nat := x / 2 ^ 10 % 16
/-- SIZE. -/
def lSIZE (x : Nat) : Nat := x / 2 ^ 8 % 4
/-- IMM8. -/
def lIMM8 (x : Nat) : Nat := x % 256
/-- CHUNK. -/
def lCHUNK (x : Nat) : Nat := x / 2 ^ 16 % 4
/-- IMM16. -/
def lIMM16 (x : Nat) : Nat := x % 2 ^ 16
/-- FS. -/
def lFS (x : Nat) : Nat := x / 2 ^ 12 % 4

/-- The number of 1 bits. -/
def popCount (v : W64) : Nat := ((List.range 64).filter fun k => v.getLsbD k).length
/-- Leading zeros, 64 for zero. -/
def leadZeros (v : W64) : Nat := ((List.range 64).find? fun k => v.getLsbD (63 - k)).getD 64
/-- Trailing zeros, 64 for zero. -/
def trailZeros (v : W64) : Nat := ((List.range 64).find? fun k => v.getLsbD k).getD 64

/-- The result of a register or register-immediate operation on its two operands (Table ISA-17, R95, R96). -/
def alu (op : Nat) (a b : W64) : Except Cause W64 :=
  let div := fun (v : W64) => if b = 0 then Except.error ((0xD, 0) : Cause) else .ok v
  match op with
  | 0x10 | 0x12 => .ok (a + b)
  | 0x11 => .ok (a - b)
  | 0x13 => .ok (a * b)
  | 0x14 => .ok (BitVec.ofNat 64 (a.toNat * b.toNat / 2 ^ 64))
  | 0x15 => div (BitVec.udiv a b)
  | 0x16 => div (BitVec.sdiv a b)
  | 0x17 => div (BitVec.umod a b)
  | 0x18 => div (BitVec.srem a b)
  | 0x19 => .ok (if BitVec.slt a b then a else b)
  | 0x1A => .ok (if BitVec.slt a b then b else a)
  | 0x20 | 0x23 => .ok (a &&& b)
  | 0x21 | 0x24 => .ok (a ||| b)
  | 0x22 | 0x25 => .ok (a ^^^ b)
  | 0x26 | 0x29 => .ok (a <<< (b.toNat % 64))
  | 0x27 | 0x2A => .ok (a >>> (b.toNat % 64))
  | 0x28 | 0x2B => .ok (BitVec.sshiftRight a (b.toNat % 64))
  | 0x2C => .ok (BitVec.ofNat 64 (popCount a))
  | 0x2D => .ok (BitVec.ofNat 64 (leadZeros a))
  | _ => .ok (BitVec.ofNat 64 (trailZeros a))

/-- The result of a compare (Table ISA-17). -/
def compareOp (op : Nat) (a b : W64) : Bool :=
  match op with
  | 0x30 | 0x34 => a == b
  | 0x31 => a != b
  | 0x33 => BitVec.ult a b
  | _ => BitVec.slt a b

/-- The result of predicate logic (Table ISA-17). -/
def predOp (op : Nat) (a b : Bool) : Bool :=
  match op with
  | 0x36 => a && b
  | 0x37 => a || b
  | 0x38 => a != b
  | 0x39 => a && !b
  | _ => !a

/-- RDID (Table ISA-6). -/
def State.rdid (s : State) (sp : Nat) : W64 :=
  let n := match s.plyOf sp with | some p => Nat.log2 p.members.length | none => 0
  setBits (setBits (setBits 0 63 52 s.pkg) 36 32 n) 10 0 sp

/-- A slot that writes registers of every member. -/
def State.slotSet (s : State) (sp : Nat) (f : Spin → Spin) : SlotEnd := .ok (s.updMates sp f)

/-- The checks of an S-slot's footprint of `n` bytes at an offset (R46 to R48, R97, R98, R165). -/
def State.slotCause (s : State) (sp k off n : Nat) : Option Cause :=
  let a := s.spin sp |>.getA k
  lowestCause (descCause (s.spin sp) k false (s.inRealPly sp) ++ alignCause a off n ++ boundsCause a off n)

/-- A load of `n` bytes through a[k] (R97, R166): made once, by member 0. -/
def State.slotLoad (s : State) (sp k off n : Nat) (f : State → List Byte → State) : SlotEnd :=
  match s.slotCause sp k off n with
  | some c => .exc c
  | none =>
    let a := s.descAddr sp ((s.spin sp).getA k) off
    let r := s.loadBytes sp a n
    if r.1 = .unsupported then .missed r.1 sp a n none
    else match lowestCause (rightsCause (s.spin sp) k 1) with
      | some c => .exc c
      | none => if r.1 = .ok then .ok (f r.2.2 r.2.1) else .missed r.1 sp a n none

/-- A store of bytes through a[k] (R97, R166): LOCAL in every member's scratchpad, else once by member 0. -/
def State.slotStore (s : State) (sp k off : Nat) (bs : List Byte) : SlotEnd :=
  match s.slotCause sp k off bs.length with
  | some c => .exc c
  | none =>
    let d := (s.spin sp).getA k
    let qs := if aKIND d = 1 then (s.mates sp).map (·.2) else [sp]
    let r := qs.foldl (fun (e : SlotEnd) q =>
      match e with
      | .ok t =>
        let x := t.storeBytes q (t.descAddr q d off) bs
        if x.1 = .ok then .ok x.2 else .missed x.1 q (t.descAddr q d off) bs.length (some bs)
      | e => e) (.ok s)
    match r with
    | .missed .unsupported _ _ _ _ => r
    | r => match lowestCause (rightsCause (s.spin sp) k 2) with
      | some c => .exc c
      | none => r

/-- One slot. -/
def State.slot (s : State) (sp x : Nat) : SlotEnd :=
  let m := s.spin sp
  let op := lSOP x
  let lOff := ((m.getG (lRS1 x)).toNat + lIMM8 x * 2 ^ lSIZE x) % 2 ^ 64
  let n := 2 ^ lSIZE x
  let r1 := m.getG (lRS1 x)
  let r2 := m.getG (lRS2 x)
  let ad := m.getA (lPD x)
  match sopForm op with
  | some .R | some .R1 =>
    match alu op r1 r2 with
    | .ok v => s.slotSet sp fun y => y.setG (lRD x) v
    | .error c => .exc c
  | some .I | some .Sh =>
    match alu op r1 (lIMM14 x) with
    | .ok v => s.slotSet sp fun y => y.setG (lRD x) v
    | .error c => .exc c
  | some .W =>
    let o := if op = 0x1B then 0 else m.getG (lRD x)
    let v := setBits o (16 * lCHUNK x + 15) (16 * lCHUNK x) (lIMM16 x)
    s.slotSet sp fun y => y.setG (lRD x) v
  | some .P => s.slotSet sp fun y => y.setP (lPD x) (compareOp op r1 r2)
  | some .PI => s.slotSet sp fun y => y.setP (lPD x) (compareOp op r1 (lIMM14 x))
  | some .Q | some .Q1 => s.slotSet sp fun y => y.setP (lPD x) (predOp op (m.getP (lPS1 x)) (m.getP (lPS2 x)))
  | some .PS => s.slotSet sp fun y => y.setP (lPD x) (r1 != 0)
  | some .SEL => s.slotSet sp fun y => y.setG (lRD x) (if m.getP (lPS x) then r1 else r2)
  | some .L =>
    if op = 0x42 then s.slotStore sp (lAS x) lOff (leBytes n (m.getG (lRD x)).toNat)
    else s.slotLoad sp (lAS x) lOff n fun t bs =>
      let v := leValue bs
      t.setGs sp (lRD x) (if op = 0x40 then BitVec.ofNat 64 v else BitVec.ofInt 64 (signedOf (8 * n) v))
  | some .D =>
    if op = 0x43 then
      s.slotLoad sp (lAS x) r1.toNat 16 fun t bs => t.updMates sp fun y => y.setA (lPD x) (BitVec.ofNat 128 (leValue bs))
    else s.slotStore sp (lAS x) r1.toNat (leBytes 16 ad.toNat)
  | some .DS =>
    let v : W128 :=
      if op = 0x45 then BitVec.ofNat 128 (r1.toNat * 2 ^ 64 + ad.toNat % 2 ^ 64)
      else BitVec.ofNat 128 (aBASE ad * 2 ^ 64 + r1.toNat % 2 ^ 32 * 2 ^ 32 + ad.toNat % 2 ^ 32)
    s.slotSet sp fun y => y.setA (lPD x) v
  | some .K =>
    s.slotSet sp fun y => y.setA (lPD x) (BitVec.ofNat 128 (aBASE ad * 2 ^ 64 + aLENGTH ad * 2 ^ 32 + x % 64))
  | some .G =>
    let a := m.getA (lAS x)
    s.slotSet sp fun y => y.setG (lRD x) (BitVec.ofNat 64 (if op = 0x48 then aBASE a else aLENGTH a))
  | some .F => s.slotSet sp fun y => y.setF (lFS x) (BitVec.ofNat 32 r1.toNat)
  | some .FG => s.slotSet sp fun y => y.setG (lRD x) (BitVec.ofNat 64 (m.getF (lFS x)).toNat)
  | some .N =>
    let v : W64 :=
      if op = 0x3C then BitVec.ofNat 64 ((List.range 16).foldl (fun (a : Nat) k => a + (m.getP k).toNat * 2 ^ k) 0)
      else if op = 0x4C then BitVec.ofNat 64 s.now
      else s.rdid sp
    s.slotSet sp fun y => y.setG (lRD x) v
  | none => .exc (2, 0)

/-- The state after an access that waits: what it woke, before any slot of the word. -/
def State.heldAccess (s : State) (q a n : Nat) (bs : Option (List Byte)) : State :=
  match bs with
  | some b => let r := s.storeBytes q a b; if r.1 = .held then r.2 else s
  | none => let r := s.loadBytes q a n; if r.1 = .held then r.2.2 else s

/-- The code of the cause a slot met, for the choice of R63: above every cause where it met none. -/
def SlotEnd.code : SlotEnd → Nat
  | .exc c => c.1
  | .missed .unsupported _ _ _ _ | .missed .addressFault _ _ _ _ => 0xA
  | .missed _ _ _ _ _ => 0xF
  | .ok _ => 0x10

/-- Of two ends the one with the lower code, the first where they are equal (R63). -/
def SlotEnd.least (a b : SlotEnd) : SlotEnd := if b.code < a.code then b else a

/-- The slots of an S-word in order, each on the state the earlier ones left (R93); a slot that fails leaves the state to the
later ones as it found it (DESIGN CHOICE, log 165), and the word reports the lowest of its slots' causes (R63). -/
def State.slots' (s : State) (sp : Nat) : List Nat → SlotEnd
  | [] => .ok s
  | x :: xs => match s.slot sp x with
    | .ok t => t.slots' sp xs
    | e => e.least (s.slots' sp xs)

/-- An S-word (R93, R94): every slot takes effect, or none does. -/
def sEff (s : State) (sp pc : Nat) (w : W256) : Perf :=
  match s.slots' sp ((List.range (sCount w)).map fun k => slotOf w (k + 1)) with
  | .ok t => .ok t (pc + 1)
  | .exc c => .exc c 0
  | .missed st q a n bs => st.perf s (s.heldAccess q a n bs) q a 0

/-- S_WORD (R93). -/
def execSWord (sp : Nat) (w : W256) (s : State) : Out := wordStep 0x000 sp w s sEff

end Sys2Proof.Machine
end

