-- ==== Sys2Proof/Machine/Func.lean ====
section
/-! DEFINITION. The element functions of R125: each is evaluated in FP32 within 2 units in the last
place and then rounded once to FD. The real value is computed here to 512 fraction bits, rounded to
FP32, and moved by a free distance of at most 2 units (`Config.ulpOffset`), the same on every
spindle. -/

namespace Sys2Proof.Machine

/-- Fraction bits of the fixed-point values of this file. -/
def fxBits : Nat := 512

/-- The number 1 in fixed point. -/
def fxOne : Int := 2 ^ fxBits

/-- The product in fixed point. -/
def fxMul (a b : Int) : Int := a * b / fxOne

/-- The quotient in fixed point. -/
def fxDiv (a b : Int) : Int := a * fxOne / b

/-- A rational in fixed point. -/
def fxOfRat (neg : Bool) (n d : Nat) : Int := signedNum neg (n * 2 ^ fxBits / d)

/-- A fixed-point value as an exact value. -/
def fxVal (x : Int) : FV := .fin (decide (x < 0)) x.natAbs (2 ^ fxBits)

/-- The sum of `y ^ k / k!` over the next `fuel` terms. -/
def fxExpTerms (y : Int) : Nat → Nat → Int → Int → Int
  | 0, _, _, acc => acc
  | fuel + 1, k, term, acc =>
    let t := fxMul term y / (k : Int)
    fxExpTerms y fuel (k + 1) t (acc + t)

/-- Square a value `n` times. -/
def fxSquares : Nat → Int → Int
  | 0, x => x
  | n + 1, x => fxSquares n (fxMul x x)

/-- The exponential, for arguments of magnitude at most 256. -/
def fxExp (x : Int) : Int := fxSquares 9 (fxExpTerms (x / 512) 100 1 fxOne fxOne)

/-- The sum of `z ^ (2 k + 1) / (2 k + 1)`, alternating where `alt`. -/
def fxOddTerms (z2 : Int) (alt : Bool) : Nat → Nat → Int → Int → Int
  | 0, _, _, acc => acc
  | fuel + 1, k, p, acc =>
    let t := p / (2 * k + 1 : Int)
    fxOddTerms z2 alt fuel (k + 1) (fxMul p z2) (if alt && k % 2 == 1 then acc - t else acc + t)

/-- Twice the inverse hyperbolic tangent, for arguments of magnitude at most 1/3. -/
def fxTwoAtanh (z : Int) : Int := 2 * fxOddTerms (fxMul z z) false 170 0 z 0

/-- The natural logarithm of 2. -/
def fxLn2 : Int := fxTwoAtanh (fxOne / 3)

/-- The natural logarithm of `n / d`, both not zero. -/
def fxLog (n d : Nat) : Int :=
  let k := floorLog2 n d
  let (n', d') := if 0 ≤ k then (n, d * 2 ^ k.toNat) else (n * 2 ^ (-k).toNat, d)
  k * fxLn2 + fxTwoAtanh (((n' : Int) - d') * fxOne / ((n' : Int) + d'))

/-- The number π, by Machin's formula. -/
def fxPi : Int :=
  let a := fun (q : Nat) => fxOddTerms (fxOne / ((q * q : Nat) : Int)) true 120 0 (fxOne / (q : Int)) 0
  16 * a 5 - 4 * a 239

/-- The sum of `x ^ (2 k + 1) / (1 · 3 · … · (2 k + 1))`. -/
def fxPhiTerms (x2 : Int) : Nat → Nat → Int → Int → Int
  | 0, _, _, acc => acc
  | fuel + 1, k, t, acc => fxPhiTerms x2 fuel (k + 1) (fxMul t x2 / (2 * k + 3 : Int)) (acc + t)

/-- The standard normal distribution function at `x` of magnitude at most 16. -/
def fxPhi (x : Int) : Int :=
  let x2 := fxMul x x
  let dens := fxDiv (fxExp (-x2 / 2)) (Nat.sqrt (2 * fxPi * fxOne).toNat : Nat)
  fxOne / 2 + fxMul dens (fxPhiTerms x2 700 0 x 0)

/-- An argument held within ±`b`, outside which a function has its FP32 limit. -/
def fxClamp (b x : Int) : Int := if x < -b * fxOne then -b * fxOne else if b * fxOne < x then b * fxOne else x

/-- The element functions that R125 allows 2 units in the last place. -/
inductive Fn where
  | gelu | sigm | tanh | exp | log | rsqrt
  deriving DecidableEq, Repr

/-- The function's number, an argument of the free values. -/
def Fn.id : Fn → Nat
  | .gelu => 0 | .sigm => 1 | .tanh => 2 | .exp => 3 | .log => 4 | .rsqrt => 5

/-- The function's real value, to far more bits than FP32 holds; `none` where the spec states no
value. -/
def Fn.value : Fn → FV → Option FV
  | .gelu, .nan => some .nan
  | .gelu, .inf s => if s then none else some (.inf false)
  | .gelu, .fin s n d =>
    if n = 0 then some (.fin s 0 1)
    else if n < 16 * d then
      let x := fxOfRat s n d
      match FV.mul (.fin s n d) (fxVal (fxPhi x)) with
      | .fin _ a b => some (.fin s a b)
      | v => some v
    else some (if s then .fin true 0 1 else .fin false n d)
  | .sigm, .nan => some .nan
  | .sigm, .inf s => some (if s then .fin false 0 1 else .fin false 1 1)
  | .sigm, .fin s n d => some (fxVal (fxDiv fxOne (fxOne + fxExp (-(fxClamp 120 (fxOfRat s n d))))))
  | .tanh, .nan => some .nan
  | .tanh, .inf s => some (.fin s 1 1)
  | .tanh, .fin s n d =>
    if n = 0 then some (.fin s 0 1)
    else
      let e := fxExp (-2 * fxClamp 60 (fxOfRat false n d))
      some (.fin s (fxDiv (fxOne - e) (fxOne + e)).natAbs (2 ^ fxBits))
  | .exp, .nan => some .nan
  | .exp, .inf s => some (if s then .fin false 0 1 else .inf false)
  | .exp, .fin s n d => some (fxVal (fxExp (fxClamp 120 (fxOfRat s n d))))
  | .log, .nan => some .nan
  | .log, .inf s => some (if s then .nan else .inf false)
  | .log, .fin s n d =>
    if n = 0 then some (.inf true) else if s then some .nan else some (fxVal (fxLog n d))
  | .rsqrt, .nan => some .nan
  | .rsqrt, .inf s => some (if s then .nan else .fin false 0 1)
  | .rsqrt, .fin s n d =>
    if n = 0 then some (.inf s) else if s then some .nan else some (FV.div (.fin false 1 1) (FV.sqrt (.fin s n d)))

/-- An FP32 code moved by `o - 2` units in the last place, keeping its sign and staying between zero
and infinity. -/
def nudgeCode (c o : Nat) : Nat :=
  let m := c % 2 ^ 31
  let m' := if 2 ≤ m + o then m + o - 2 else 0
  (c - m) + (if 0x7F800000 < m' then 0x7F800000 else m')

/-- The function's result, an FP32 value: within 2 units in the last place for a finite argument, the
value IEEE 754 gives for an infinity, a NaN or a pole. -/
def Fn.eval (f : Fn) (v : FV) : FV :=
  let arg := encodeVal fmtFP32 ⟨.nearest, 0⟩ v
  match f.value v with
  | none => decodeVal fmtFP32 (Config.openResult f.id arg).toNat
  | some r =>
    if v.isFin && r.isFin then
      decodeVal fmtFP32 (nudgeCode (encodeVal fmtFP32 ⟨.nearest, 0⟩ r) (Config.ulpOffset f.id arg % 5))
    else r

end Sys2Proof.Machine
end

