-- ==== Sys2Proof/Machine/Tile.lean ====
section
/-! DEFINITION. The T-words (Table ISA-18, R104 to R108, R125, R130, R135 to R138, R147 to R153, R160 to
R163): elements of a shape, element operations, multiply-accumulate, read-out, movement. -/

namespace Sys2Proof.Machine

/-! ## Elements of a shape (R102) -/

/-- The code of element (r, e) of a shape in tile `t`. -/
def Spin.elem (x : Spin) (f : Fmt) (t : Nat) (h : Shape) (r e : Nat) : Nat :=
  let b := h.off + r * h.rstride
  if f.slot = 1 then leValue (x.tileBytes t (b + e / 2) 1) / 16 ^ (e % 2) % 16
  else leValue (x.tileBytes t (b + e * (f.slot / 2)) (f.slot / 2)) % 2 ^ f.width

/-- Write the code of element (r, e); a half-byte element keeps the other half of its byte. -/
def Spin.putElem (x : Spin) (f : Fmt) (t : Nat) (h : Shape) (r e c : Nat) : Spin :=
  let b := h.off + r * h.rstride
  if f.slot = 1 then
    let o := leValue (x.tileBytes t (b + e / 2) 1)
    let v := if e % 2 = 0 then o / 16 * 16 + c % 16 else o % 16 + c % 16 * 16
    x.setTileBytes t (b + e / 2) (leBytes 1 v)
  else x.setTileBytes t (b + e * (f.slot / 2)) (leBytes (f.slot / 2) c)

/-- Write every element of a shape; all codes are computed before the first is written (R105). Where
rows of the shape overlap one another, the later row's bytes stand (DESIGN CHOICE, log 157). -/
def Spin.fillShape (x : Spin) (f : Fmt) (t : Nat) (h : Shape) (g : Nat → Nat → Nat) : Spin :=
  (h.cells.map fun c => (c.1, c.2, g c.1 c.2)).foldl (fun y c => y.putElem f t h c.1 c.2.1 c.2.2) x

/-- The exact value of element (r, e). -/
def Spin.valAt (x : Spin) (f : Fmt) (t : Nat) (h : Shape) (r e : Nat) : FV := decodeVal f (x.elem f t h r e)

/-- The scale of element `e` of row `r` of a block-scaled format, held in tile `c` from byte `base` on;
1 where C is zero or the format has no blocks (R135, R136). -/
def Spin.scaleAt (x : Spin) (f : Fmt) (c base r e : Nat) : FV :=
  if f.block = 0 ∨ c = 0 then .fin false 1 1
  else
    let k := leValue (x.tileBytes c (base + r * 128 + e / f.block) 1)
    if k = 255 then .nan else FV.scaled false 1 ((k : Int) - 127)

/-- The rounding in force and the seed of a word (R101, R141). -/
structure Rounding where
  mode : RMode
  seed : W64

/-- The rounding at the logical coordinates of a result (R142). -/
def Rounding.at (k : Rounding) (r e : Nat) : Rnd := ⟨k.mode, stochDraw k.seed r e⟩

/-- The rounding of a T-word into its FD. -/
def Spin.tRounding (x : Spin) (w : W256) : Rounding := ⟨x.rmode (wRND w) (wFD w), x.getG (wGSEED w)⟩

/-- A scalar in a g register as a format reads it (R125). -/
def scalarVal (f : Fmt) (v : W64) : FV :=
  if f.isInt then .fin (decide (v.toInt < 0)) v.toInt.natAbs 1 else decodeVal fmtFP32 (v.toNat % 2 ^ 32)

/-! ## Groups and members -/

/-- The member index of a spindle in its whole ply. -/
def State.memberIdx (s : State) (sp q : Nat) : Nat :=
  match (s.mates sp).find? fun m => m.2 = q with | some m => m.1 | none => 0

/-- Change every member of every group of a word's scope: the function is given the group, the member's
index in it and the member's state before. -/
def State.eachMember (s : State) (sp scope : Nat) (f : Grp → Nat → Spin → Spin) : State :=
  s.each (s.groups sp scope) fun g t => t.each g.mems fun m u => u.updSpin m.2 (f g m.1)

/-- A shape a T-word uses names no element or lane (R108). -/
def tEmpty (t : TSpec) (w : W256) : Bool :=
  let z := fun (k : RK) (b : Nat) => match k with
    | .none => false
    | .tile => (shapeAt w b).rows == 0 || (shapeAt w b).elems == 0
    | .mortar => (mshapeAt w b).rows == 0 || (mshapeAt w b).cols == 0
  z t.a 64 || z t.b 128 || z t.d 192

/-- The checks at issue, then the body where no shape is empty. -/
def tWord (s : State) (sp pc : Nat) (w : W256) (body : Perf) : Perf :=
  match tSpec (wOp w) with
  | none => .ok s (pc + 1)
  | some t =>
    match lowestCause (tIssue s sp t w) with
    | some c => .exc c 0
    | none => if tEmpty t w then .ok s (pc + 1) else body

/-! ## Element operations -/

/-- An element operation: which of its operands A and B must not be zero, and its exact result from A, B
and C under a rounding mode (which fixes the sign of a zero sum). -/
structure ElemOp where
  zero : FV → FV → Bool
  f : RMode → FV → FV → FV → FV

/-- An operation without a divisor. -/
def ElemOp.of (f : RMode → FV → FV → FV → FV) : ElemOp := ⟨fun _ _ => false, f⟩

/-- The exact operands of element (r, e): A by SHA, B by SHB, C by SHD in FA (R106). -/
def Spin.operands (x : Spin) (t : TSpec) (w : W256) (r e : Nat) : FV × FV × FV :=
  let fa := x.fmtD (wFA w)
  (x.valAt fa (wA w) (shapeAt w 64) r e,
    if t.b = .none then .fin false 0 1 else x.valAt (x.fmtD (wFB w)) (wB w) (shapeAt w 128) r e,
    if t.c = .none then .fin false 0 1 else x.valAt fa (wC w) (shapeAt w 192) r e)

/-- The lowest logical element index of a member's stripe with a zero divisor (Table SP-6). -/
def Spin.zeroIndex (x : Spin) (o : ElemOp) (t : TSpec) (w : W256) (n m : Nat) : Option Nat :=
  let h := shapeAt w 192
  (h.cells.find? fun c => let v := x.operands t w c.1 c.2; o.zero v.1 v.2.1).map fun c =>
    c.1 * (n * h.elems) + m * h.elems + c.2

/-- DIV_ZERO of the lowest-numbered member that raises it (R175): member index and element index. -/
def State.divZero (s : State) (sp : Nat) (o : ElemOp) (t : TSpec) (w : W256) : Option (Nat × Nat) :=
  let l := (s.groups sp (wScope w)).flatMap fun g => g.mems.filterMap fun m =>
    ((s.spin m.2).zeroIndex o t w g.n m.1).map fun i => (s.memberIdx sp m.2, i)
  match lowest (l.map (·.1)) with
  | some m => l.find? fun x => x.1 = m
  | none => none

/-- An elementwise word (R106, R130): each result is the exact result rounded once into FD. -/
def effElem (o : ElemOp) (s : State) (sp pc : Nat) (w : W256) : Perf :=
  match tSpec (wOp w) with
  | none => .ok s (pc + 1)
  | some t => tWord s sp pc w <|
    match s.divZero sp o t w with
    | some m => .exc (0xD, BitVec.ofNat 64 m.2) m.1
    | none =>
      let h := shapeAt w 192
      .ok (s.eachMember sp (wScope w) fun _ m x =>
        let k := x.tRounding w
        let fd := x.fmtD (wFD w)
        x.fillShape fd (wD w) h fun r e =>
          let v := x.operands t w r e
          encodeVal fd (k.at r (m * h.elems + e)) (o.f k.mode v.1 v.2.1 v.2.2)) (pc + 1)

/-- The value 1 or 0. -/
def boolVal (b : Bool) : FV := .fin false b.toNat 1

/-- TADD. -/
def opAdd : ElemOp := .of fun m a b _ => FV.add m a b
/-- TSUB. -/
def opSub : ElemOp := .of fun m a b _ => FV.add m a (FV.neg b)
/-- TMUL. -/
def opMul : ElemOp := .of fun _ a b _ => FV.mul a b
/-- TDIV: no element of B may be zero. -/
def opDiv : ElemOp := ⟨fun _ b => b.isZero, fun _ a b _ => FV.div a b⟩
/-- TFMA. -/
def opFma : ElemOp := .of fun m a b c => FV.add m (FV.mul a b) c
/-- TMIN. -/
def opMin : ElemOp := .of fun _ a b _ => FV.min a b
/-- TMAX. -/
def opMax : ElemOp := .of fun _ a b _ => FV.max a b
/-- TABS. -/
def opAbs : ElemOp := .of fun _ a _ _ => FV.abs a
/-- TADDS: `v` is the scalar in GS. -/
def opAdds (v : FV) : ElemOp := .of fun m a _ _ => FV.add m a v
/-- TMULS. -/
def opMuls (v : FV) : ElemOp := .of fun _ a _ _ => FV.mul a v
/-- TSCL2. -/
def opScl2 (i : Int) : ElemOp := .of fun _ a _ _ => FV.scale2 i a
/-- TRELU. -/
def opRelu : ElemOp := .of fun _ a _ _ => FV.max a (.fin false 0 1)
/-- TGELU to TRSQRT but TSQRT: the functions of R125. -/
def opFn (f : Fn) : ElemOp := .of fun _ a _ _ => f.eval a
/-- TSQRT: correctly rounded. -/
def opSqrt : ElemOp := .of fun _ a _ _ => FV.sqrt a
/-- TRECIP: no element of A may be zero; correctly rounded. -/
def opRecip : ElemOp := ⟨fun a _ => a.isZero, fun _ a _ _ => FV.div (.fin false 1 1) a⟩
/-- TCGT. -/
def opCgt : ElemOp := .of fun _ a b _ => boolVal (FV.lt false b a)
/-- TCEQ. -/
def opCeq : ElemOp := .of fun _ a b _ => boolVal (FV.eqv a b)
/-- TSEL: a NaN in C counts as not zero (R130). -/
def opSel : ElemOp := .of fun _ a b c => if c.isZero then b else a

/-- An elementwise word with the scalar of GS, read as FA reads it. -/
def effScalar (o : FV → ElemOp) (s : State) (sp pc : Nat) (w : W256) : Perf :=
  effElem (o (scalarVal ((s.spin sp).fmtD (wFA w)) ((s.spin sp).getG (wGS w)))) s sp pc w

/-- TSCL2. -/
def effScl2 (s : State) (sp pc : Nat) (w : W256) : Perf := effElem (opScl2 (wIMM11 w)) s sp pc w

/-! ## Multiply-accumulate -/

/-- The lanes of a member after one accumulating word: cleared first where INIT is 1, then lane (i, j) gains
its addends in order. -/
def Spin.accumulate (x : Spin) (acc : Nat) (h : MShape) (init : Bool) (add : Nat → Nat → List FV) : Spin :=
  h.lanes.foldl (fun y l =>
    let old := if init then Lane.zero else x.getLane acc l.2.2
    y.setLane acc l.2.2 (old.accumulateAll (add l.1 l.2.1))) x

/-- Every lane written agrees with its residue (R153): the lanes for which the word has an addend. -/
def Spin.lanesOk (x : Spin) (acc : Nat) (h : MShape) (wrote : Nat → Nat → Bool) : Bool :=
  h.lanes.all fun l => !wrote l.1 l.2.1 || (x.getLane acc l.2.2).consistent

/-- The products of lane (i, j): A(i, k) × B(j, k), each under its block's scale (R107, R135). -/
def Spin.products (x : Spin) (w : W256) (neg : Bool) (i j : Nat) : List FV :=
  let fa := x.fmtD (wFA w)
  let fb := x.fmtD (wFB w)
  let ha := shapeAt w 64
  let hb := shapeAt w 128
  (List.range ha.elems).map fun k =>
    let a := FV.mul (x.valAt fa (wA w) ha i k) (x.scaleAt fa (wC w) 0 i k)
    let b := FV.mul (x.valAt fb (wB w) hb j k) (x.scaleAt fb (wC w) 0x2000 j k)
    if neg then FV.neg (FV.mul a b) else FV.mul a b

/-- An accumulating word: `add` gives each lane's addends in a member. A member whose residues disagree
replays the word. -/
def effAccumulate (add : Grp → Nat → Spin → Nat → Nat → List FV) (s : State) (sp pc : Nat) (w : W256) : Perf :=
  tWord s sp pc w <|
    let acc := wD w - 8
    let h := mshapeAt w 192
    let t := s.eachMember sp (wScope w) fun g m x => x.accumulate acc h (wINIT w) (add g m x)
    let bad := (s.groups sp (wScope w)).findSome? fun g => g.mems.find? fun m =>
      s.lat .injReplay (s.spUnit m.2) 0 != 0 ||
        !((t.spin m.2).lanesOk acc h fun i j => !(add g m.1 (s.spin m.2) i j).isEmpty)
    match bad with
    | some m => .replay m.2
    | none => .ok t (pc + 1)

/-- MMA and MMS (R107). -/
def effMma (neg : Bool) (s : State) (sp pc : Nat) (w : W256) : Perf :=
  effAccumulate (fun _ _ x i j => x.products w neg i j) s sp pc w

/-- MACC (R161): a member adds the elements of its stripe, logical element (i, j) into lane (i, j). -/
def effMacc (s : State) (sp pc : Nat) (w : W256) : Perf :=
  effAccumulate (fun _ m x i j =>
    let h := shapeAt w 64
    if m * h.elems ≤ j ∧ j < (m + 1) * h.elems then
      [x.valAt (x.fmtD (wFA w)) (wA w) h i (j - m * h.elems)]
    else []) s sp pc w

/-- Clear the lanes of a shape (R148). -/
def Spin.clearLanes (x : Spin) (acc : Nat) (h : MShape) : Spin :=
  h.lanes.foldl (fun y l => y.setLane acc l.2.2 Lane.zero) x

/-- MCLR. -/
def effMclr (s : State) (sp pc : Nat) (w : W256) : Perf :=
  tWord s sp pc w <|
    .ok (s.eachMember sp (wScope w) fun _ _ x => x.clearLanes (wD w - 8) (mshapeAt w 192)) (pc + 1)

/-! ## Read-out (R149, R161, R162) -/

/-- The partial lanes of a group: those of this package, and free values for members elsewhere. -/
def State.partials (s : State) (g : Grp) (acc l : Nat) : List Lane :=
  (g.mems.map fun m => (s.spin m.2).getLane acc l) ++
    ((List.range g.n).filter fun i => !(g.mems.any fun m => m.1 == i)).map fun i =>
      let v := Config.remoteLane (Nat.pair s.free i) (acc * 1024 + l)
      ⟨v.1, v.2, residue v.1⟩

/-- A group has members in other packages. -/
def Grp.remote (g : Grp) : Bool := decide (g.mems.length < g.n)

/-- MRD and MRDC: the lanes read are checked, then combined and rounded once into each member's stripe;
MRDC clears them. -/
def effMrd (clear : Bool) (s : State) (sp pc : Nat) (w : W256) : Perf :=
  tWord s sp pc w <|
    let acc := wA w - 8
    let hm := mshapeAt w 64
    let h := shapeAt w 192
    let gs := s.groups sp (wScope w)
    let bad := gs.findSome? fun g => g.mems.find? fun m =>
      s.lat .injReadout (s.spUnit m.2) 0 != 0 || !((s.spin m.2).lanesOk acc hm fun _ _ => true)
    match bad with
    | some m => .check (s.setLat .injReadout (s.spUnit m.2) 0 0) m.2 mcResidue
    | none =>
      let t := s.eachMember sp (wScope w) fun g m x =>
        let k := x.tRounding w
        let fd := x.fmtD (wFD w)
        let y := x.fillShape fd (wD w) h fun r e =>
          let j := m * h.elems + e
          readOut fd (k.at r j) (combine (s.partials g acc ((hm.r0 + r) * 32 + hm.c0 + j)))
        if clear then y.clearLanes acc hm else y
      .ok (if gs.any Grp.remote then { t with free := t.free + 1 } else t) (pc + 1)

/-- MFLAG: the OR over every shaped partial lane of the ply (R163). -/
def effMflag (s : State) (sp pc : Nat) (w : W256) : Perf :=
  tWord s sp pc w <|
    let hm := mshapeAt w 64
    let gs := s.groups sp 0
    let v := gs.foldl (fun a g => hm.lanes.foldl (fun b l =>
      (s.partials g (wA w - 8) l.2.2).foldl (fun c x => c ||| x.mflag) b) a) 0
    let t := s.updMates sp fun x => x.setG (wGS w) (BitVec.ofNat 64 v)
    .ok (if gs.any Grp.remote then { t with free := t.free + 1 } else t) (pc + 1)

/-! ## Movement and conversion -/

/-- TCOPY: bit for bit at the element size of FA. -/
def effTcopy (s : State) (sp pc : Nat) (w : W256) : Perf :=
  tWord s sp pc w <|
    .ok (s.eachMember sp (wScope w) fun _ _ x =>
      let f := x.fmtD (wFA w)
      x.fillShape f (wD w) (shapeAt w 192) fun r e => x.elem f (wA w) (shapeAt w 64) r e) (pc + 1)

/-- TTRANS of the logical shape (R163): element (r, e) of member `m`'s stripe of D is logical element
(m × ELEMS + e, r) of A; an element of a member elsewhere is a free value. -/
def effTtrans (s : State) (sp pc : Nat) (w : W256) : Perf :=
  tWord s sp pc w <|
    let ha := shapeAt w 64
    let hd := shapeAt w 192
    let t := s.eachMember sp (wScope w) fun g m x =>
      let f := x.fmtD (wFA w)
      x.fillShape f (wD w) hd fun r e =>
        match g.mems.find? fun q => q.1 = r / ha.elems with
        | some q => (s.spin q.2).elem f (wA w) ha (m * hd.elems + e) (r % ha.elems)
        | none => (Config.freeWord (Nat.pair s.free (Nat.pair r (m * hd.elems + e)))).toNat % 2 ^ f.width
    .ok (if (s.groups sp (wScope w)).any Grp.remote then { t with free := t.free + 1 } else t) (pc + 1)

/-- TBCAST. -/
def effTbcast (s : State) (sp pc : Nat) (w : W256) : Perf :=
  tWord s sp pc w <|
    .ok (s.eachMember sp (wScope w) fun _ _ x =>
      let f := x.fmtD (wFA w)
      x.fillShape f (wD w) (shapeAt w 192) fun _ e => x.elem f (wA w) (shapeAt w 64) 0 e) (pc + 1)

/-- TFILL: the scalar in GS converted to FD. -/
def effTfill (s : State) (sp pc : Nat) (w : W256) : Perf :=
  tWord s sp pc w <|
    let h := shapeAt w 192
    .ok (s.eachMember sp (wScope w) fun _ m x =>
      let fd := x.fmtD (wFD w)
      let v := scalarVal fd (x.getG (wGS w))
      x.fillShape fd (wD w) h fun r e => encodeVal fd ((x.tRounding w).at r (m * h.elems + e)) v) (pc + 1)

/-- TPUT: the single element of member 0 of each group (R163). -/
def effTput (s : State) (sp pc : Nat) (w : W256) : Perf :=
  tWord s sp pc w <|
    .ok (s.eachMember sp (wScope w) fun _ m x =>
      if m = 0 then
        let fd := x.fmtD (wFD w)
        x.fillShape fd (wD w) (shapeAt w 192) fun r e =>
          encodeVal fd ((x.tRounding w).at r e) (scalarVal fd (x.getG (wGS w)))
      else x) (pc + 1)

/-- TZERO. -/
def effTzero (s : State) (sp pc : Nat) (w : W256) : Perf :=
  tWord s sp pc w <|
    .ok (s.eachMember sp (wScope w) fun _ _ x =>
      x.fillShape (x.fmtD (wFD w)) (wD w) (shapeAt w 192) fun _ _ => 0) (pc + 1)

/-- TGET: member 0's element in every member (R125, R163). -/
def effTget (s : State) (sp pc : Nat) (w : W256) : Perf :=
  tWord s sp pc w <|
    let x := s.spin sp
    let f := x.fmtD (wFA w)
    let c := x.elem f (wA w) (shapeAt w 64) 0 0
    let v := if f.isInt then BitVec.ofInt 64 (signedOf f.width c)
      else BitVec.ofNat 64 (encodeVal fmtFP32 ⟨.nearest, 0⟩ (decodeVal f c))
    .ok (s.updMates sp fun y => y.setG (wGS w) v) (pc + 1)

/-! ### TCVT (R138) -/

/-- The greatest of a list of magnitudes; `none` where a value is not finite. -/
def greatest : List FV → Option FV
  | [] => some (.fin false 0 1)
  | v :: vs => if v.isFin then (greatest vs).map fun m => FV.max (FV.abs v) m else none

/-- The scale code of a block of values into a format (R138). -/
def blockCode (f : Fmt) (vs : List FV) : Nat :=
  match greatest vs with
  | none => 255
  | some (.fin _ n d) =>
    if n = 0 then 127
    else
      let emax : Int := match decodeVal f (greatestCode f) with | .fin _ a b => floorLog2 a b | _ => 0
      let x := floorLog2 n d - emax
      ((if x < -127 then -127 else if 127 < x then 127 else x) + 127).toNat
  | some _ => 255

/-- The values of row `r` of A, each under its block's scale. -/
def Spin.cvtRow (x : Spin) (w : W256) (r : Nat) : List FV :=
  let fa := x.fmtD (wFA w)
  (List.range (shapeAt w 64).elems).map fun e =>
    FV.mul (x.valAt fa (wA w) (shapeAt w 64) r e) (x.scaleAt fa (wC w) 0 r e)

/-- The scale code of the block of element `e` of row `r`; `none` where no scale is written. -/
def Spin.cvtCode (x : Spin) (w : W256) (r b : Nat) : Option Nat :=
  let fd := x.fmtD (wFD w)
  if fd.block = 0 ∨ wC w = 0 then none
  else some (blockCode fd (((x.cvtRow w r).drop (b * fd.block)).take fd.block))

/-- The code of element (r, e) at logical element `le`. -/
def Spin.cvtElem (x : Spin) (w : W256) (r e le : Nat) : Nat :=
  let fd := x.fmtD (wFD w)
  let v := ((x.cvtRow w r)[e]?).getD .nan
  let k := (x.tRounding w).at r le
  match x.cvtCode w r (e / fd.block) with
  | none => encodeVal fd k v
  | some c =>
    let block := ((x.cvtRow w r).drop (e / fd.block * fd.block)).take fd.block
    if c = 255 ∨ block.all FV.isZero then 0 else encodeVal fd k (FV.scale2 (127 - (c : Int)) v)

/-- A member's tile D, and the scales of a block-scaled FD in tile C, after TCVT (R138). -/
def Spin.converted (x : Spin) (w : W256) (m : Nat) : Spin :=
  let h := shapeAt w 192
  let fd := x.fmtD (wFD w)
  let y := x.fillShape fd (wD w) h fun r e => x.cvtElem w r e (m * h.elems + e)
  if fd.block = 0 ∨ wC w = 0 then y
  else (List.range h.rows).foldl (fun z r =>
    (List.range ((h.elems + fd.block - 1) / fd.block)).foldl (fun u b =>
      u.setTileBytes (wC w) (r * 128 + b) (leBytes 1 ((x.cvtCode w r b).getD 0))) z) y

/-- TCVT. -/
def effTcvt (s : State) (sp pc : Nat) (w : W256) : Perf :=
  tWord s sp pc w <| .ok (s.eachMember sp (wScope w) fun _ m x => x.converted w m) (pc + 1)

end Sys2Proof.Machine
end

