-- ==== Sys2Proof/Machine/MWords.lean ====
section
/-! DEFINITION. How an M-word divides its work over members and makes its accesses (R109 to R111, R115, R126, R165 to
R169, Table PLY-1), and LDT, STT, DMA and DMAF. -/

namespace Sys2Proof.Machine

/-! ## Members at work -/

/-- A member's part of a word: its group and its index in it, the group's members, its index in the ply, the spindle, and
whether the member is of this package. A member elsewhere is worked for by the lead where its data are in the shared
space. -/
structure Worker where
  grp : Nat
  m : Nat
  n : Nat
  mem : Nat
  sp : Nat
  here : Bool
  deriving DecidableEq, Repr

/-- The members at work on a word of a scope, group by group. -/
def State.workers (s : State) (sp scope : Nat) : List Worker :=
  (s.groups sp scope).zipIdx.flatMap fun x =>
    (List.range x.1.n).map fun m =>
      match x.1.mems.find? fun q => q.1 = m with
      | some q => ⟨x.2, m, x.1.n, s.memberIdx sp q.2, q.2, true⟩
      | none => ⟨x.2, m, x.1.n, m, sp, false⟩

/-- A cause of a member: an exception, or an address that is unpopulated. -/
inductive Fail where
  | cause (c : Cause)
  | addr (a : Nat)

/-- The code of a failure (Table SP-6). -/
def Fail.code : Fail → Nat
  | .cause c => c.1
  | .addr _ => 0xA

/-- The failure a ply takes (R63, R175): the lowest code, and of it the lowest member; the first of equals. -/
def firstFail : List (Fail × Nat) → Option (Fail × Nat)
  | [] => none
  | x :: xs => match firstFail xs with
    | some y => some (if y.1.code < x.1.code ∨ (y.1.code = x.1.code ∧ y.2 < x.2) then y else x)
    | none => some x

/-- A failure as a word's outcome. -/
def failPerf : Fail × Nat → Perf
  | (.cause c, m) => .exc c m
  | (.addr a, m) => .addr a m

/-- Causes of a member. -/
def failsOf (mem : Nat) (l : List Cause) : List (Fail × Nat) := l.map fun c => (.cause c, mem)

/-- The scratchpad named is of a member elsewhere: no access of this package. -/
def Worker.away (k : Worker) (a : W128) : Bool := !k.here && aKIND a == 1

/-- The first unpopulated address of a range (R38, R299). -/
def State.emptyAt (s : State) (a n : Nat) : Option Nat :=
  if n = 0 then none
  else if a / 2 ^ 52 = s.pkg then
    ((pieces (a % 2 ^ 52) n).find? fun p => s.locate p.1 == .none).map fun p => s.pkg * 2 ^ 52 + p.1
  else if s.reachable (a / 2 ^ 52) then none else some a

/-- The failures of a member's footprint of `n` bytes at each of some offsets of a[k] (R46, R47, R38). -/
def State.footFails (s : State) (k : Worker) (r : Nat) (offs : List Nat) (n : Nat) : List (Fail × Nat) :=
  let a := (s.spin k.sp).getA r
  if n = 0 ∨ offs = [] ∨ k.away a then []
  else
    let bounds := failsOf k.mem (((offs.filterMap fun o => (boundsCause a o n).head?).take 1))
    if bounds.isEmpty then
      match offs.findSome? fun o => s.emptyAt (s.descAddr k.sp a o) n with
      | some x => [(Fail.addr x, k.mem)]
      | none => []
    else bounds

/-! ## Accesses of a word -/

/-- An access that was not served: its status, the spindle, the address, the member, and the bytes it reads or writes. -/
structure Missed where
  st : Status
  sp : Nat
  mem : Nat
  a : Nat
  n : Nat
  bs : Option (List Byte)

/-- The state after an access that was not served: what it woke, an error it met (R195), or a skein it found full (R230), before
any effect of the word; `t` is the state in which it was made. -/
def State.moveHeld (s t : State) (sp a n : Nat) (bs : Option (List Byte)) : State :=
  match bs with
  | none => let r := s.moveRead (s.asSpindle sp) a n; if r.1 = .held ∨ r.1 = .dataLost then r.2.2 else s
  | some b =>
    let r := s.moveWrite (s.asSpindle sp) a b
    if r.1 = .held then r.2
    else if t.moveWaits (s.asSpindle sp) a n then s
    else match t.site (a % 2 ^ 52) with
      | .region d k _ => if t.logFits d k 64 then s else s.logStall d k 64
      | _ => s

/-- An access that was not served, as a word's outcome. -/
def Missed.perf (x : Missed) (s t : State) : Perf := x.st.perf s (s.moveHeld t x.sp x.a x.n x.bs) x.sp x.a x.mem

/-- Bytes of a member elsewhere: free values. -/
def State.awayBytes (s : State) (m n : Nat) : List Byte :=
  (List.range n).map fun k => Config.freeByte (Nat.pair s.free (m + 1)) k

/-- A read through a[r] by a member at work. -/
def State.workRead (s : State) (k : Worker) (r off n : Nat) : Except Missed (List Byte × State) :=
  let d := (s.spin k.sp).getA r
  if k.away d then .ok (s.awayBytes k.m n, s)
  else
    let a := s.descAddr k.sp d off
    let x := s.loadBytes k.sp a n
    if n = 0 then .ok ([], s)
    else if x.1 = .ok then .ok (x.2.1, x.2.2) else .error ⟨x.1, k.sp, k.mem, a, n, none⟩

/-- Reads in order; the state keeps what they woke. -/
def State.workReads (s : State) : List (Worker × Nat × Nat × Nat) → Except Missed (List (List Byte) × State)
  | [] => .ok ([], s)
  | (k, r, off, n) :: l =>
    match s.workRead k r off n with
    | .error e => .error e
    | .ok x => match x.2.workReads l with
      | .error e => .error e
      | .ok y => .ok (x.1 :: y.1, y.2)

/-- Bytes a word writes: the group, the member, the spindle, the system address, and whether bits 7:4 of the last byte stay
as they are (R102). -/
structure Put where
  grp : Nat
  mem : Nat
  sp : Nat
  a : Nat
  bs : List Byte
  half : Bool
  deriving DecidableEq, Repr

/-- A write through a[r] by a member at work; none where the scratchpad is of a member elsewhere. -/
def State.workPut (s : State) (k : Worker) (r off : Nat) (bs : List Byte) (half : Bool) : List Put :=
  let d := (s.spin k.sp).getA r
  if bs = [] ∨ k.away d then [] else [⟨k.grp, k.mem, k.sp, s.descAddr k.sp d off, bs, half⟩]

/-- Two writes of different groups meet. -/
def Put.meets (x y : Put) : Bool := x.grp != y.grp && decide (x.a < y.a + y.bs.length) && decide (y.a < x.a + x.bs.length)

/-- A write cut at the boundaries of aligned 8-byte words. -/
def Put.cut (x : Put) : List Put :=
  (List.range ((x.a % 8 + x.bs.length + 7) / 8)).map fun i =>
    let lo := max x.a (x.a / 8 * 8 + 8 * i)
    let hi := min (x.a + x.bs.length) (x.a / 8 * 8 + 8 * i + 8)
    { x with a := lo, bs := (x.bs.drop (lo - x.a)).take (hi - lo), half := x.half && hi == x.a + x.bs.length }

/-- The writes of a word in the order they are made (R169): where groups write the same bytes of a shared space, the order
of the groups in each aligned 8-byte word is a free value. -/
def putOrder (free : Nat) (l : List Put) : List Put :=
  let n := l.foldl (fun (a : Nat) x => max a (x.grp + 1)) 0
  if l.any fun x => l.any x.meets then
    (List.range n).flatMap fun j => l.flatMap fun x =>
      x.cut.filter fun (y : Put) => (y.grp + Config.freeChoice (Nat.pair free (y.a / 8))) % n = j
  else l

/-- One write; a half-written last byte keeps its high half. -/
def State.putOne (s : State) (x : Put) : Except Missed State :=
  let go := fun (t : State) (bs : List Byte) =>
    let r := t.storeBytes x.sp x.a bs
    if r.1 = .ok then Except.ok r.2 else .error (⟨r.1, x.sp, x.mem, x.a, bs.length, some bs⟩ : Missed)
  if x.half then
    let e := x.a + x.bs.length - 1
    let o := s.loadBytes x.sp e 1
    if o.1 = .ok then
      go o.2.2 (x.bs.dropLast ++ [BitVec.ofNat 8 (leValue (x.bs.drop (x.bs.length - 1)) % 16 + leValue o.2.1 / 16 * 16)])
    else .error ⟨o.1, x.sp, x.mem, e, 1, none⟩
  else go s x.bs

/-- Writes in order: the state, or the first that was not served and the state it found. -/
def State.puts (s : State) : List Put → Except (Missed × State) State
  | [] => .ok s
  | x :: l => match s.putOne x with
    | .ok t => t.puts l
    | .error e => .error (e, s)

/-! ## Doorbells (R115) -/

/-- The causes of an M-word's doorbell target. -/
def State.bellFails (s : State) (sp : Nat) (w : W256) : List (Fail × Nat) :=
  if mDBE w then failsOf 0 (bellCause s (s.gReg sp (mGD w))) else []

/-- An M-word ends: its doorbell is set, once, and it retires. -/
def State.ringAndEnd (s : State) (sp pc : Nat) (w : W256) : Perf :=
  if mDBE w then
    match s.sendBell sp (s.gReg sp (mGD w)) (2 ^ mDBBIT w) with
    | some t => .ok t (pc + 1)
    | none => .check s sp mcDieLost
  else .ok s (pc + 1)

/-- The doorbell of an M-word would wait at the XD (R298). -/
def State.bellWaits (s : State) (sp : Nat) (w : W256) : Bool := mDBE w && s.bellHeld (s.spUnit sp) (s.gReg sp (mGD w))

/-- Such a word waits before any effect. -/
def State.unlessBell (s : State) (sp : Nat) (w : W256) (body : Perf) : Perf := if s.bellWaits sp w then .hold s else body

/-- The word takes its first failure, or goes on. -/
def withFails (l : List (Fail × Nat)) (body : Perf) : Perf :=
  match firstFail l with | some f => failPerf f | none => body

/-- The writes of a word, then its end. -/
def State.finishPuts (s t : State) (sp pc : Nat) (w : W256) (l : List Put) (away : Bool) : Perf :=
  match t.puts (putOrder s.free l) with
  | .ok u => ({ u with free := u.free + 1 + away.toNat }).ringAndEnd sp pc w
  | .error e => e.1.perf s e.2

/-- A POOL descriptor is refused: PLY or STRAND scope in a ply of more than one (R165). -/
def State.shared (s : State) (sp : Nat) (w : W256) : Bool := s.inRealPly sp && decide (wScope w ≠ 2)

/-! ## LDT and STT (R110, R126, R137, Table PLY-1) -/

/-- Bytes of a member's stripe of a memory row. -/
def mtRow (x : Spin) (w : W256) : Nat := rowBytes (x.fmtD (mFM w)) (shapeAt w 128).elems

/-- The offsets of a member's rows in a[AD]. -/
def State.mtOffs (s : State) (sp : Nat) (w : W256) (k : Worker) : List Nat :=
  let x := s.spin sp
  let step := if aKIND (x.getA (mAD w)) = 1 then 0 else k.m * mtRow x w
  (List.range (shapeAt w 128).rows).map fun r => mOff x w + r * mMSTRIDE w + (if k.n = 1 then 0 else step)

/-- The bytes a memory row's start is a multiple of. -/
def mtAlign (f : Fmt) : Nat := if f.slot ≤ 2 then 1 else f.slot / 2

/-- A memory row does not start at a multiple of the memory element size (R110). -/
def mtAlignFails (x : Spin) (w : W256) (k : Worker) (offs : List Nat) : List (Fail × Nat) :=
  let a := x.getA (mAD w)
  failsOf k.mem (((offs.filter fun o => (aBASE a + o) % mtAlign (x.fmtD (mFM w)) ≠ 0).take 1).map fun o =>
    (8, BitVec.ofNat 64 (aBASE a + o)))

/-- The failures of LDT and STT at issue: PLY_SCOPE, ZERO_FIELD, the selectors, the descriptor, the doorbell's target; then,
where the shape names an element, alignment and footprint in every member. -/
def State.mtFails (s : State) (sp : Nat) (w : W256) (store : Bool) : List (Fail × Nat) :=
  let x := s.spin sp
  let h := shapeAt w 128
  let zero := if store then
      (if mMSTRIDE w = 0 ∧ 1 < h.rows ∧ h.elems ≠ 0 then [((5, 192) : Cause)] else [])
    else zeroStride h 144
  let blocks := if sameFmt x w then [] else blockCause x (mFM w) ++ blockCause x (mFT w)
  let pre := scopeCause s sp w ++ zero ++ descCause x (mAD w) false (s.shared sp w) ++ selCause x (mFM w) ++
    selCause x (mFT w) ++ blocks
  failsOf 0 (pre ++ rightsCause x (mAD w) (if store then 2 else 1)) ++ s.bellFails sp w ++
    (if h.rows = 0 ∨ h.elems = 0 ∨ ¬ pre.isEmpty then []
     else (s.workers sp (wScope w)).flatMap fun k =>
      mtAlignFails x w k (s.mtOffs sp w k) ++
        s.footFails k (mAD w) (s.mtOffs sp w k) (mtRow x w))

/-- The code of element `e` of a row of bytes. -/
def rowElem (f : Fmt) (bs : List Byte) (e : Nat) : Nat :=
  if f.slot = 1 then leValue ((bs.drop (e / 2)).take 1) / 16 ^ (e % 2) % 16
  else leValue ((bs.drop (e * (f.slot / 2))).take (f.slot / 2)) % 2 ^ f.width

/-- The bytes of a row of codes; the high half of a last odd half-byte is zero. -/
def rowPack (f : Fmt) (cs : List Nat) : List Byte :=
  if f.slot = 1 then
    (List.range ((cs.length + 1) / 2)).map fun i =>
      BitVec.ofNat 8 ((cs[2 * i]?).getD 0 % 16 + (cs[2 * i + 1]?).getD 0 % 16 * 16)
  else cs.flatMap fun c => leBytes (f.slot / 2) c

/-- A row of `elems` half-bytes ends in the middle of a byte. -/
def halfRow (f : Fmt) (elems : Nat) : Bool := f.slot == 1 && elems % 2 == 1

/-- The rounding of an M-word into the selector `k`. -/
def Spin.mRounding (x : Spin) (w : W256) (k : Nat) : Rounding := ⟨x.rmode (mRND w) k, x.getG (mGSEED w)⟩

/-- Row `r` of LDT is written to the tile of member `m`. -/
def Spin.loadRow (x : Spin) (w : W256) (m r : Nat) (bs : List Byte) : Spin :=
  let h := shapeAt w 128
  let o := h.off + r * h.rstride
  let fm := x.fmtD (mFM w)
  let ft := x.fmtD (mFT w)
  if sameFmt x w then
    if halfRow ft h.elems then
      let old := leValue (x.tileBytes (mT w) (o + bs.length - 1) 1)
      x.setTileBytes (mT w) o (bs.dropLast ++
        [BitVec.ofNat 8 (leValue (bs.drop (bs.length - 1)) % 16 + old / 16 * 16)])
    else x.setTileBytes (mT w) o bs
  else (List.range h.elems).foldl (fun y e =>
    y.putElem ft (mT w) h r e
      (encodeVal ft ((x.mRounding w (mFT w)).at r (m * h.elems + e)) (decodeVal fm (rowElem fm bs e)))) x

/-- The bytes of row `r` STT writes from the tile of member `m`. -/
def Spin.storeRow (x : Spin) (w : W256) (m r : Nat) : List Byte :=
  let h := shapeAt w 128
  let fm := x.fmtD (mFM w)
  let ft := x.fmtD (mFT w)
  if sameFmt x w then x.tileBytes (mT w) (h.off + r * h.rstride) (rowBytes fm h.elems)
  else rowPack fm ((List.range h.elems).map fun e =>
    encodeVal fm ((x.mRounding w (mFM w)).at r (m * h.elems + e)) (x.valAt ft (mT w) h r e))

/-- The rows LDT reads, member by member, or the access that was not served and the state it found. -/
def State.ldtReads (s : State) (sp : Nat) (w : W256) : Except (Missed × State) (List (Worker × List (List Byte)) × State) :=
  ((s.workers sp (wScope w)).filter fun (k : Worker) => k.here).foldl
    (fun (acc : Except (Missed × State) (List (Worker × List (List Byte)) × State)) k =>
      match acc with
      | .error e => .error e
      | .ok a => match a.2.workReads ((s.mtOffs sp w k).map fun o => (k, mAD w, o, mtRow (s.spin sp) w)) with
        | .ok r => .ok (a.1 ++ [(k, r.1)], r.2)
        | .error e => .error (e, a.2)) (.ok ([], s))

/-- The rows LDT has read are written to the tiles of their members. -/
def State.ldtWrites (s : State) (w : W256) (l : List (Worker × List (List Byte))) : State :=
  s.each l fun x t => t.updSpin x.1.sp fun y => x.2.zipIdx.foldl (fun z b => z.loadRow w x.1.m b.2 b.1) y

/-- The word's shape names no element. -/
def mtEmpty (w : W256) : Bool := (shapeAt w 128).rows == 0 || (shapeAt w 128).elems == 0

/-- LDT: every row is read, then every tile is written. -/
def ldtEff (s : State) (sp pc : Nat) (w : W256) : Perf :=
  withFails (s.mtFails sp w false) <| s.unlessBell sp w <|
    if mtEmpty w then s.ringAndEnd sp pc w
    else match s.ldtReads sp w with
      | .error e => e.1.perf s e.2
      | .ok r => (r.2.ldtWrites w r.1).ringAndEnd sp pc w

/-- The writes of STT: rows in order, member by member. -/
def State.sttPuts (s : State) (sp : Nat) (w : W256) : List Put :=
  (s.workers sp (wScope w)).flatMap fun k => (s.mtOffs sp w k).zipIdx.flatMap fun o =>
    s.workPut k (mAD w) o.1
      (if k.here then (s.spin k.sp).storeRow w k.m o.2 else s.awayBytes (Nat.pair k.m o.2) (mtRow (s.spin sp) w))
      (halfRow ((s.spin sp).fmtD (mFM w)) (shapeAt w 128).elems)

/-- A member at work is of another package. -/
def State.someAway (s : State) (sp : Nat) (w : W256) : Bool := (s.workers sp (wScope w)).any fun k => !k.here

/-- STT. -/
def sttEff (s : State) (sp pc : Nat) (w : W256) : Perf :=
  withFails (s.mtFails sp w true) <| s.unlessBell sp w <|
    if mtEmpty w then s.ringAndEnd sp pc w else s.finishPuts s sp pc w (s.sttPuts sp w) (s.someAway sp w)

/-! ## DMA and DMAF (R111, R167) -/

/-- The two ranges of a DMA are SYSTEM ranges that overlap. -/
def State.dmaOverlap (s : State) (sp : Nat) (w : W256) : Bool :=
  let x := s.spin sp
  let a := x.getA (mAS w)
  let b := x.getA (mAD w)
  let n := mLEN x w
  let p := aBASE a + bitsOf w 191 128
  let q := aBASE b + mOff x w
  aKIND a == 3 && aKIND b == 3 && decide (p < q + n) && decide (q < p + n)

/-- A member's part of a DMA: where it starts in the whole and its length. -/
def dmaPart (n m len : Nat) (divided : Bool) : Nat × Nat :=
  if !divided then (0, if m = 0 then len else 0)
  else
    let p := 64 * ((len + 64 * n - 1) / (64 * n))
    (m * p, min ((m + 1) * p) len - m * p)

/-- The part of a worker of a DMA (`fill` 0) or DMAF. -/
def State.dmaPartOf (s : State) (sp : Nat) (w : W256) (fill : Bool) (k : Worker) : Nat × Nat :=
  dmaPart k.n k.m (mLEN (s.spin sp) w) (fill || !s.dmaOverlap sp w)

/-- The offset of a worker's part in a range that starts at `off` of a[r]. -/
def dmaOff (a : W128) (off start : Nat) : Nat := if aKIND a = 1 then off else off + start

/-- The failures of DMA and DMAF at issue. -/
def State.mdFails (s : State) (sp : Nat) (w : W256) (fill : Bool) : List (Fail × Nat) :=
  let x := s.spin sp
  let sh := s.shared sp w
  let pre := scopeCause s sp w ++ descCause x (mAD w) false sh ++ (if fill then [] else descCause x (mAS w) false sh)
  failsOf 0 (pre ++ rightsCause x (mAD w) 2 ++ (if fill then [] else rightsCause x (mAS w) 1)) ++ s.bellFails sp w ++
    (if pre.isEmpty then
      (s.workers sp (wScope w)).flatMap fun k =>
        let p := s.dmaPartOf sp w fill k
        s.footFails k (mAD w) [dmaOff (x.getA (mAD w)) (mOff x w) p.1] p.2 ++
          (if fill then [] else s.footFails k (mAS w) [dmaOff (x.getA (mAS w)) (bitsOf w 191 128) p.1] p.2)
     else [])

/-- `n` bytes of the fill pattern. -/
def fillBytes (w : W256) (n : Nat) : List Byte :=
  (List.range n).map fun k => BitVec.ofNat 8 (bitsOf w 191 128 / 256 ^ (k % 8))

/-- What each member moves: its part of the source, or of the fill pattern. -/
def State.mdReads (s : State) (sp : Nat) (w : W256) (fill : Bool) : Except Missed (List (List Byte) × State) :=
  let ks := s.workers sp (wScope w)
  if fill then .ok (ks.map fun k => fillBytes w (s.dmaPartOf sp w fill k).2, s)
  else s.workReads (ks.map fun k =>
    let p := s.dmaPartOf sp w fill k
    (k, mAS w, dmaOff ((s.spin sp).getA (mAS w)) (bitsOf w 191 128) p.1, p.2))

/-- The writes of DMA and DMAF of the bytes the members move. -/
def State.mdPuts (s : State) (sp : Nat) (w : W256) (fill : Bool) (bs : List (List Byte)) : List Put :=
  let x := s.spin sp
  ((s.workers sp (wScope w)).zip bs).flatMap fun y =>
    s.workPut y.1 (mAD w) (dmaOff (x.getA (mAD w)) (mOff x w) (s.dmaPartOf sp w fill y.1).1) y.2 false

/-- DMA and DMAF: every source byte is read before the first is written. -/
def mdEff (fill : Bool) (s : State) (sp pc : Nat) (w : W256) : Perf :=
  withFails (s.mdFails sp w fill) <| s.unlessBell sp w <|
    match s.mdReads sp w fill with
    | .error e => e.perf s s
    | .ok r => s.finishPuts r.2 sp pc w (s.mdPuts sp w fill r.1) (s.someAway sp w)

/-! ## The commands -/

/-- LDT (R110). -/
def execLdt (sp : Nat) (w : W256) (s : State) : Out := wordStep 0x200 sp w s ldtEff
/-- STT (R110). -/
def execStt (sp : Nat) (w : W256) (s : State) : Out := wordStep 0x201 sp w s sttEff
/-- DMA (R111). -/
def execDma (sp : Nat) (w : W256) (s : State) : Out := wordStep 0x210 sp w s (mdEff false)
/-- DMAF (R111). -/
def execDmaf (sp : Nat) (w : W256) (s : State) : Out := wordStep 0x211 sp w s (mdEff true)

end Sys2Proof.Machine
end

