-- ==== Sys2Proof/Machine/TableWords.lean ====
section
/-! DEFINITION. The table words (chapters 03 and 06, R112 to R116, R126, R168, R199 to R217, Tables QD-5, QD-6, QD-8): the
check pass, repeated rows, gathering, pooling, scattering and optimiser steps, and the end of a word. -/

namespace Sys2Proof.Machine

/-! ## The word and its region -/

/-- The operations of a table word. -/
inductive TblOp where
  | gather | sum | mean | max | wsum | scatter | scatterAdd | sgd | adagrad | adam
  deriving DecidableEq, Repr

/-- A POOL operation. -/
def TblOp.pool : TblOp → Bool
  | .sum | .mean | .max | .wsum => true
  | _ => false

/-- A UPD operation. -/
def TblOp.upd : TblOp → Bool
  | .sgd | .adagrad | .adam => true
  | _ => false

/-- The word writes rows of a[AB] and none of the region. -/
def TblOp.outputs (o : TblOp) : Bool := o.pool || o == .gather

/-- The rights the word needs of its region (R200). -/
def TblOp.need (o : TblOp) : Nat := if o.outputs then 1 else if o = .scatter then 2 else 3

/-- The word uses FM and RND (R116). -/
def TblOp.usesFM (o : TblOp) : Bool := o != .gather && o != .scatter

/-- The word uses a[AW]. -/
def TblOp.usesAW (o : TblOp) : Bool := o == .wsum || o.upd

/-- A region as a word finds it: its quarry die and slot, its descriptor, and whether it is in another package. -/
structure Found where
  d : Nat
  k : Nat
  away : Bool
  r : Rgn

/-- The region of a handle (R199); none where its slot is EMPTY or LOADING, UNLOADING with no word on it (R205), or its package
unreachable. A slot of a quarry that is not there answers as `engine` says. What stands at a handle of another package is free. -/
def State.findRegion (s : State) (h : Nat) : Option Found :=
  let d := handleDie h
  let k := handleSlot h
  if h / 2 ^ 52 = s.pkg then
    let st := s.rgnState d k
    let there := if st = 5 then s.wordOn d k
      else s.lat .servedBy d k != 0 || !s.quarryUp d || decide (2 ≤ st)
    if there then some ⟨d, k, false, s.rgnServed d k⟩ else none
  else if s.reachable (h / 2 ^ 52) ∧ Config.freeChoice (Nat.pair s.free h) % 2 = 1 then
    let w := fun (i : Nat) => Config.freeWord (Nat.pair s.free (Nat.pair h i))
    some ⟨d, k, true, rgnOfWords (w 0) (w 1) (w 2) (w 3)⟩
  else none

/-- How the quarry of a region answers a table word: it serves, it holds the word (R233, Table RST-4), or it is lost (R22,
R225). -/
def State.engine (s : State) (f : Found) : Status :=
  if f.away then .ok
  else if s.lat .servedBy f.d f.k ≠ 0 then (if s.quarryUp (s.lat .servedBy f.d f.k - 1) then .ok else .dieLost)
  else if s.lat .quarryLost f.d 0 = 2 then .dataLost
  else if !s.quarryUp f.d then .dieLost
  else if s.dieRetained f.d then .held
  else .ok

/-- A new word on the region waits: the slot is UNLOADING (R205). -/
def State.unloading (s : State) (f : Found) : Bool := !f.away && s.rgnState f.d f.k == 5

/-- Bytes of the region's rows: free where it is in another package. -/
def State.rowBytesAt (s : State) (f : Found) (row n : Nat) : List Byte :=
  if f.away then (List.range n).map fun i => Config.freeByte (Nat.pair s.free row) i
  else s.rgnRead f.d f.k (row * f.r.pitch) n

/-- A row can be read (R212). -/
def State.rowReadable (s : State) (f : Found) (row n : Nat) : Bool :=
  f.away || s.rgnReadable f.d f.k (row * f.r.pitch) n

/-- The slots a read of a row takes (Table QD-8). -/
def State.noteRow (s : State) (f : Found) (row n : Nat) : State :=
  if f.away then s
  else s.noteRgn f.d f.k (row * f.r.pitch) n

/-! ## The checks -/

/-- A table word as its check pass reads it. -/
structure TblWord where
  op : TblOp
  sp : Nat
  w : W256
  count : Nat
  ioff : Nat

/-- The parts of a word. -/
def State.tblWord (s : State) (o : TblOp) (sp : Nat) (w : W256) : TblWord :=
  ⟨o, sp, w, mCOUNT (s.spin sp) w, mOff (s.spin sp) w⟩

/-- An AS, AW or AB descriptor is refused (R48, R165, R168). -/
def State.listCause (s : State) (sp k : Nat) (w : W256) : List Cause :=
  let x := s.spin sp
  if s.shared sp w ∧ aKIND (x.getA k) ≠ 1 then [(6, BitVec.ofNat 64 k)] else descCause x k false (s.shared sp w)

/-- The causes that need no list: PLY_SCOPE, descriptors, the handle's form, the selector, alignment. -/
def State.tblPre (s : State) (t : TblWord) : List Cause :=
  let x := s.spin t.sp
  let w := t.w
  let h := aBASE (x.getA (mAD w))
  scopeCause s t.sp w ++ descCause x (mAD w) true false ++
    (if h / 2 ^ 11 % 2 ^ 41 ≠ 0 then [((6, BitVec.ofNat 64 (mAD w)) : Cause)] else []) ++
    s.listCause t.sp (mAS w) w ++ (if t.op.usesAW then s.listCause t.sp (mAW w) w else []) ++ s.listCause t.sp (mAB w) w ++
    (if t.op.usesFM then selCause x (mFM w) ++ blockCause x (mFM w) else []) ++
    (if t.count = 0 then [] else alignCause (x.getA (mAS w)) t.ioff 4 ++ alignCause (x.getA (mAB w)) (mBOFF w) 64)

/-- ACCESS_RIGHTS of a word's lists and buffer, whatever its count (R126). -/
def State.listRights (s : State) (t : TblWord) : List Cause :=
  let x := s.spin t.sp
  rightsCause x (mAS t.w) 1 ++ (if t.op.usesAW then rightsCause x (mAW t.w) 1 else []) ++
    rightsCause x (mAB t.w) (if t.op.outputs then 2 else 1)

/-- The causes the quarry finds of the region itself: ADDR_UNPOPULATED, the state beside its rows (R214), ACCESS_RIGHTS,
TENANCY. -/
def State.rgnCauses (s : State) (t : TblWord) (f : Option Found) : List Cause :=
  let x := s.spin t.sp
  let h := aBASE (x.getA (mAD t.w))
  match f with
  | none => [(0xA, BitVec.ofNat 64 h)]
  | some f =>
    let opt : Nat := match t.op with | .adagrad => 1 | .adam => 2 | _ => f.r.opt
    (if f.r.opt ≠ opt then [((6, BitVec.ofNat 64 (mAD t.w)) : Cause)] else []) ++
      rightsCause x (mAD t.w) t.op.need ++
      (if s.tenancyOf t.sp ≠ f.r.owner ∧ ¬ (f.r.shared ∧ t.op.need = 1) then [(0xC, BitVec.ofNat 64 h)] else [])

/-- What a member brings to a word: its entries, weights and hyperparameters, and the rows of a[AB] it reads. -/
structure Brought where
  k : Worker
  ents : List Nat
  vals : List FV
  src : List (List Byte)

/-- 32-bit values of a list of bytes. -/
def words32 (bs : List Byte) (n : Nat) : List Nat := (List.range n).map fun i => leValue ((bs.drop (4 * i)).take 4)

/-- Bytes of a row of `e` elements of FM, and its pitch (R116). -/
def fmRow (f : Fmt) (e : Nat) : Nat := rowBytes f e

/-- Bags of a list (R112). -/
def bagCount (ents : List Nat) : Nat :=
  ((ents.zipIdx).filter fun e => e.1.testBit 31 || e.2 + 1 == ents.length).length

/-- The bytes of a[AB] a member's part touches from BOFF on (R116). -/
def State.abBytes (s : State) (t : TblWord) (r : Rgn) (ents : List Nat) : Nat :=
  let row := fmRow ((s.spin t.sp).fmtD (mFM t.w)) r.elems
  if t.op.usesFM then
    let n := if t.op.pool then bagCount ents else t.count
    (n - 1) * ceil64 row + row
  else t.count * r.dataLen

/-- The bytes of a[AW] a member reads, and from where: weights at IOFF, hyperparameters at 0, of member 0 (R116, R168,
R214). -/
def TblWord.awRange (t : TblWord) (m : Nat) : Nat × Nat :=
  if t.op = .wsum then (t.ioff, 4 * t.count) else if t.op.upd ∧ m = 0 then (0, 32) else (0, 0)

/-- The failures of a member's lists. -/
def State.listFails (s : State) (t : TblWord) (k : Worker) : List (Fail × Nat) :=
  s.footFails k (mAS t.w) [t.ioff] (4 * t.count) ++
    (if t.op.usesAW then s.footFails k (mAW t.w) [(t.awRange k.m).1] (t.awRange k.m).2 else [])

/-- The failures that need the list: a row that is not granted (R113, R200), the footprint of a[AB]. -/
def State.rowFails (s : State) (t : TblWord) (r : Rgn) (k : Worker) (ents : List Nat) : List (Fail × Nat) :=
  let lim := min r.rows (aLENGTH ((s.spin t.sp).getA (mAD t.w)) / r.pitch)
  let bad := ents.find? fun e => decide (lim ≤ e % 2 ^ 31)
  (match bad with
    | some e => [(Fail.cause (9, BitVec.ofNat 64 (e % 2 ^ 31 * r.pitch)), k.mem)]
    | none => []) ++
    s.footFails k (mAB t.w) [mBOFF t.w] (s.abBytes t r ents)

/-- A member's lists are read. -/
def State.readLists (s : State) (t : TblWord) (k : Worker) : Except Missed (Brought × State) :=
  match s.workReads [(k, mAS t.w, t.ioff, 4 * t.count), (k, mAW t.w, (t.awRange k.m).1, if t.op.usesAW then (t.awRange k.m).2 else 0)] with
  | .error e => .error e
  | .ok r =>
    let es := words32 ((r.1[0]?).getD []) t.count
    let bs := (r.1[1]?).getD []
    .ok (⟨k, es, (words32 bs (bs.length / 4)).map fun c => decodeVal fmtFP32 c, []⟩, r.2)

/-- Every member's lists are read. -/
def State.readAllLists (s : State) (t : TblWord) : List Worker → Except Missed (List Brought × State)
  | [] => .ok ([], s)
  | k :: ks => match s.readLists t k with
    | .error e => .error e
    | .ok x => match x.2.readAllLists t ks with
      | .error e => .error e
      | .ok y => .ok (x.1 :: y.1, y.2)

/-- The rows of a[AB] that a word changing a region reads, as offsets and lengths (R116): the bytes between them are not
read. -/
def State.sourceRows (s : State) (t : TblWord) (r : Rgn) : List (Nat × Nat) :=
  let row := fmRow ((s.spin t.sp).fmtD (mFM t.w)) r.elems
  (List.range t.count).map fun i => if t.op.usesFM then (mBOFF t.w + i * ceil64 row, row) else (mBOFF t.w + i * r.dataLen, r.dataLen)

/-- The rows of a[AB] that the words changing a region read are read. -/
def State.readSources (s : State) (t : TblWord) (r : Rgn) : List Brought → Except Missed (List Brought × State)
  | [] => .ok ([], s)
  | b :: bs => match s.workReads ((if t.op.outputs then [] else s.sourceRows t r).map fun x => (b.k, mAB t.w, x.1, x.2)) with
    | .error e => .error e
    | .ok x => match x.2.readSources t r bs with
      | .error e => .error e
      | .ok y => .ok ({ b with src := x.1 } :: y.1, y.2)

/-- An entry of the combined list of a group (R168): the member, the entry's place in its list, its place in the whole,
the row, END, and whether it is its list's last. -/
structure Entry32 where
  b : Brought
  i : Nat
  n : Nat
  row : Nat
  close : Bool

/-- The combined list of a group's members. -/
def combined (bs : List Brought) : List Entry32 :=
  ((bs.flatMap fun b => (b.ents.zipIdx).map fun e => (b, e)).zipIdx).map fun x =>
    ⟨x.1.1, x.1.2.2, x.2, x.1.2.1 % 2 ^ 31, x.1.2.1.testBit 31 || x.1.2.2 + 1 == x.1.1.ents.length⟩

/-! ## Outputs: GATHER and POOL (R211, R213, R116) -/

/-- The exact values of a row. -/
def rowVals (f : Fmt) (bs : List Byte) (e : Nat) : List FV := (List.range e).map fun i => decodeVal f (rowElem f bs i)

/-- The code of a pooled element (R213): of the values of its bag, with their weights. -/
def poolCode (o : TblOp) (f : Fmt) (rnd : Rnd) (vs : List FV) (ws : List FV) : Nat :=
  match o with
  | .max =>
    match vs with
    | [] => 0
    | v :: l => encodeVal f rnd (l.foldl FV.max v)
  | _ =>
    let add := if o = .wsum then List.zipWith FV.mul ws vs else vs
    let c := combine [Lane.zero.accumulateAll add]
    if o = .mean ∧ !(c.nan || c.pinf || c.ninf || c.ovf) then
      encodeVal f rnd (.fin (decide (c.sum < 0)) c.sum.natAbs (2 ^ 298 * vs.length))
    else readOut f rnd c

/-- The bags of a combined list, in order. -/
def bags : List Entry32 → List Entry32 → List (List Entry32)
  | [], acc => if acc.isEmpty then [] else [acc]
  | e :: es, acc => if e.close then (acc ++ [e]) :: bags es [] else bags es (acc ++ [e])

/-- The rounding of a table word at a coordinate (R216). -/
def State.tblRnd (s : State) (t : TblWord) (r e : Nat) : Rnd := ((s.spin t.sp).mRounding t.w (mFM t.w)).at r e

/-- The output row of bag `b`, which is bag `l` of its member. -/
def State.poolRow (s : State) (t : TblWord) (f : Found) (b : Nat) (es : List Entry32) : List Byte :=
  let fm := (s.spin t.sp).fmtD (mFM t.w)
  let rows := es.map fun e => rowVals f.r.fmt (s.rowBytesAt f e.row f.r.dataLen) f.r.elems
  let ws := es.map fun e => (e.b.vals[e.i]?).getD .nan
  rowPack fm ((List.range f.r.elems).map fun j =>
    poolCode t.op fm (s.tblRnd t b j) (rows.map fun r => (r[j]?).getD .nan) ws)

/-- The outputs of a group: the rows each needs, and its write. -/
def State.groupOutputs (s : State) (t : TblWord) (f : Found) (bs : List Brought) : List (List Nat × List Put) :=
  if t.op = .gather then
    (combined bs).map fun e =>
      ([e.row], s.workPut e.b.k (mAB t.w) (mBOFF t.w + e.i * f.r.dataLen) (s.rowBytesAt f e.row f.r.dataLen) false)
  else
    let all := bags (combined bs) []
    let pitch := ceil64 (fmRow ((s.spin t.sp).fmtD (mFM t.w)) f.r.elems)
    (all.zipIdx).filterMap fun x =>
      x.1.head?.map fun e =>
        let before := ((all.take x.2).filter fun y => match y.head? with | some z => z.b.k.m == e.b.k.m | none => false).length
        (x.1.map fun y => y.row, s.workPut e.b.k (mAB t.w) (mBOFF t.w + before * pitch) (s.poolRow t f x.2 x.1) false)

/-! ## Changes of rows (R211, R214 to R217) -/

/-- A finite value. -/
def FV.rat : FV → Option Rat
  | .fin s n d => some (mkRat (signedNum s n) d)
  | _ => none

/-- A rational as an exact value; a zero is +0. -/
def ratVal (q : Rat) : FV := .fin (decide (q.num < 0)) q.num.natAbs q.den

/-- Bits of a rational's numerator and denominator. -/
def ratBits (q : Rat) : Nat := Nat.log2 q.num.natAbs + Nat.log2 q.den + 2

/-- The root of a rational that has a rational root. -/
def exactRoot (x : Rat) : Option Rat :=
  let n := Nat.sqrt x.num.natAbs
  let d := Nat.sqrt x.den
  if 0 ≤ x.num ∧ n * n = x.num.natAbs ∧ d * d = x.den then some (mkRat n d) else none

/-- The root of a rational without a rational root, to `p` bits and a half: near enough that no rounding boundary lies
between it and the root. -/
def nearRoot (x : Rat) (p : Nat) : Rat :=
  mkRat (2 * Nat.sqrt (x.num.natAbs * x.den * 4 ^ p) + 1 : Nat) (x.den * 2 ^ (p + 1))

/-- base − k / (√x + eps), as a rational that rounds as it does (R215); none where x is negative or the denominator zero
(R217). -/
def stepVal (base k x eps : Rat) : Option Rat :=
  if x < 0 then none
  else match exactRoot x with
    | some r => if r + eps = 0 then none else some (base - k / (r + eps))
    | none => some (base - k / (nearRoot x (8 * (ratBits base + ratBits k + ratBits x + ratBits eps) + 4096) + eps))

/-- Every one of a list of optional values, or none. -/
def allSome {α : Type} : List (Option α) → Option (List α)
  | [] => some []
  | none :: _ => none
  | some x :: l => (allSome l).map fun y => x :: y

/-- The new data elements and state values of a row after an optimiser step (R215), or none where the row stays (R217): `h`
the hyperparameters of Table QD-6, `w` the elements, `g` the gradient, `st` the state. -/
def optStep (o : TblOp) (h : List FV) (w g st : List FV) : Option (List Rat × List Rat) :=
  let used := match o with | .sgd => [0, 1] | .adagrad => [0, 1, 4] | _ => [0, 1, 2, 3, 4, 5, 6]
  match allSome (used.map fun i => ((h[i]?).getD .nan).rat), allSome (w.map FV.rat), allSome (g.map FV.rat),
    allSome (st.map FV.rat) with
  | some hp, some w, some g, some st =>
    let at_ := fun (l : List Rat) (i : Nat) => (l[i]?).getD 0
    let lr := at_ hp 0
    let wd := at_ hp 1
    let e := w.length
    match o with
    | .sgd => some (List.zipWith (fun a b => a - lr * (b + wd * a)) w g, [])
    | .adagrad =>
      let s2 := at_ st 0 + (g.map fun b => b * b).sum / (e : Rat)
      (allSome (List.zipWith (fun a b => stepVal (a - lr * wd * a) (lr * b) s2 (at_ hp 2)) w g)).map fun l => (l, [s2])
    | _ =>
      let b1 := at_ hp 2
      let b2 := at_ hp 3
      let m2 := List.zipWith (fun m b => b1 * m + (1 - b1) * b) (st.take e) g
      let v2 := List.zipWith (fun v b => b2 * v + (1 - b2) * (b * b)) (st.drop e) g
      (allSome ((List.range e).map fun i =>
        stepVal (at_ w i - lr * wd * at_ w i) (lr * at_ hp 5 * at_ m2 i) (at_ hp 6 * at_ v2 i) (at_ hp 4))).map fun l =>
          (l, m2 ++ v2)
  | _, _, _, _ => none

/-- Row `i` of a member's a[AB]: the bytes SCATTER moves, or the gradient's exact values. -/
def Brought.row (b : Brought) (i : Nat) : List Byte := (b.src[i]?).getD []

/-- The new bytes of a row: the logged length, and the bytes from the row's start on; none where the row stays (R217). -/
def State.newRow (s : State) (t : TblWord) (f : Found) (hyper : List FV) (row : Nat) (es : List Entry32) : Option (Nat × List Byte) :=
  let r := f.r
  let fm := (s.spin t.sp).fmtD (mFM t.w)
  let first := match es.head? with | some e => e.n | none => 0
  let grads := es.map fun e => rowVals fm (e.b.row e.i) r.elems
  let mode := (s.tblRnd t 0 0).mode
  let sum := fun (z : List FV) (j : Nat) => match z ++ grads.map fun g => (g[j]?).getD .nan with
    | [] => FV.nan
    | v :: l => l.foldl (FV.add mode) v
  let code := fun (fmt : Fmt) (e : Nat) (v : FV) => encodeVal fmt (s.tblRnd t first e) v
  match t.op with
  | .scatter => es.getLast?.map fun e => (r.dataLen, e.b.row e.i)
  | .scatterAdd =>
    let w := rowVals r.fmt (s.rowBytesAt f row r.dataLen) r.elems
    some (r.dataLen, rowPack r.fmt ((w.zipIdx).map fun x => code r.fmt x.2 (sum [x.1] x.2)))
  | o =>
    let old := s.rowBytesAt f row r.recLen
    let n := match o with | .adagrad => 1 | .adam => 2 * r.elems | _ => 0
    let st := (words32 (old.drop r.dataLen) n).map fun c => decodeVal fmtFP32 c
    (optStep o hyper (rowVals r.fmt old r.elems) ((List.range r.elems).map (sum [])) st).map fun x =>
      (if o = .sgd then r.dataLen else r.pitch,
        rowPack r.fmt ((x.1.zipIdx).map fun y => code r.fmt y.2 (ratVal y.1)) ++
          (x.2.zipIdx).flatMap fun y => leBytes 4 (code fmtFP32 (r.elems + y.2) (ratVal y.1)))

/-- How a step of the change pass ends. -/
inductive StepEnd where
  | ok (s : State)
  | stall (s : State)
  | lost (s : State)

/-- One row is changed, as one step (R210, R212, R217, R229, R230). -/
def State.changeRow (s : State) (t : TblWord) (f : Found) (hyper : List FV) (row : Nat) (es : List Entry32) : StepEnd :=
  let r := f.r
  let off := row * r.pitch
  let len := match t.op with | .adagrad | .adam => r.recLen | _ => r.dataLen
  let reads := t.op != .scatter || r.parity || !r.nonEpoch
  let u := if reads then s.noteRgn f.d f.k off len else s
  if f.away then .ok s
  else if t.op ≠ .scatter ∧ s.rowReadable f row len = false then .lost u
  else if !s.rgnWritable f.d f.k then .lost (s.cxlDiscard (r.base + off))
  else match s.newRow t f hyper row es with
    | none =>
      .ok ((u.satFld fQD_ENG_NONFINITE_COUNT (s.servingDie f.d f.k) 0 1).event 0x2130 .warn (engineUnit (s.servingDie f.d f.k)) (s.handleOf f.d f.k + row * 2 ^ 64))
    | some x =>
      let n := (x.2.length + 63) / 64
      if r.nonEpoch then .ok ((u.rgnWrite f.d f.k off x.2).spendChange f.d f.k r n none)
      else if s.logFits f.d f.k x.1 then
        .ok ((((({ u with free := u.free + 1 } : State).logOld f.d f.k row false (s.rgnOld f.d f.k off x.1)).rgnWrite f.d f.k off
          x.2).spendChange f.d f.k r n (some (x.1 / 64))))
      else .stall (s.logStall f.d f.k x.1)

/-- An order of a list that nothing fixes: a free permutation. -/
def freeOrder {α : Type} (seed : Nat) : Nat → List α → List α
  | 0, l => l
  | _ + 1, [] => []
  | _ + 1, [x] => [x]
  | n + 1, l =>
    let i := Config.freeChoice (Nat.pair seed n) % l.length
    match l[i]? with
    | some x => x :: freeOrder seed n (l.eraseIdx i)
    | none => l

/-- The steps of the change pass: each distinct row of each group's list (R211), in the order the rows are first named; the
order of the groups at a row is free (R210). -/
def changeSteps (seed : Nat) (gs : List (List Brought)) : List (List FV × Nat × List Entry32) :=
  let ls := gs.map fun g => (match g.head? with | some b => b.vals | none => [], combined g)
  let rows := (ls.flatMap fun l => l.2.map fun e => e.row).eraseDups
  rows.flatMap fun row =>
    let here := ls.filterMap fun l =>
      let es := l.2.filter fun e => e.row = row
      if es.isEmpty then none else some (l.1, row, es)
    freeOrder (Nat.pair seed row) here.length here

/-- Steps in order; the number done, and how the last ended: rows changed before a loss stay (R212). -/
def State.runSteps (s : State) (t : TblWord) (f : Found) : List (List FV × Nat × List Entry32) → Nat → Nat × StepEnd
  | [], n => (n, .ok s)
  | x :: xs, n => match s.changeRow t f x.1 x.2.1 x.2.2 with
    | .ok u => u.runSteps t f xs (n + 1)
    | .stall u => (n, .stall u)
    | .lost u => (n, .lost u)

/-! ## The word -/

/-- Members by group. -/
def byGroup (bs : List Brought) : List (List Brought) :=
  (bs.map fun b => b.k.grp).eraseDups.map fun g => bs.filter fun b => b.k.grp = g

/-- The word is under way in the quarry: the oldest of its spindle, begun. -/
def State.underWay (s : State) (t : TblWord) (f : Found) (pc : Nat) : State :=
  ((s.holdHead t.sp pc t.w true).setLat .tblFly t.sp 0 (if f.away then 2 ^ 16 else 1 + f.k + 256 * f.d)).setLat .tblDone t.sp 0 0

/-- The word ends with DATA_LOST (R212): its spindle takes a machine check. -/
def tblLost (s : State) (sp : Nat) : Perf := .check s sp mcEcc

/-- An access of a table word that was not served. -/
def Missed.tblPerf (x : Missed) (s t : State) : Perf :=
  match x.st with
  | .dieLost | .dataLost => tblLost (t.moveHeld t x.sp x.a x.n x.bs) x.sp
  | _ => x.perf s t

/-- Rows named by the outputs can be read: the outputs before the first that names one that cannot. -/
def State.servedOutputs (s : State) (f : Found) (l : List (List Nat × List Put)) : List (List Nat × List Put) :=
  l.takeWhile fun x => x.1.all fun row => s.rowReadable f row f.r.dataLen

/-- GATHER and POOL make their outputs; `s` is the state before the word, `u` after its lists were read. -/
def State.makeOutputs (s u : State) (t : TblWord) (f : Found) (pc : Nat) (bs : List Brought) : Perf :=
  let l := (byGroup bs).flatMap fun g => u.groupOutputs t f g
  let l' := u.servedOutputs f l
  let v := u.each (l'.flatMap fun x => x.1) fun row z => z.noteRow f row f.r.dataLen
  match v.puts (putOrder s.free (l'.flatMap fun x => x.2)) with
  | .error e => e.1.tblPerf s e.2
  | .ok z =>
    let z := { z with free := z.free + 1 }
    if l'.length < l.length then tblLost (((l.drop l'.length).head?.map fun x => z.each x.1 fun row y => y.noteRow f row f.r.dataLen).getD z) t.sp
    else .hold (z.underWay t f pc)

/-- The changes of a word from step `done` on; at the end, `last` says whether the word then completes at once. -/
def State.makeChanges (u : State) (t : TblWord) (f : Found) (pc seed done : Nat) (bs : List Brought) : Perf :=
  let l := (changeSteps seed (byGroup bs)).drop done
  let r := u.runSteps t f l done
  match r.2 with
  | .ok z => .hold (({ z with free := z.free + 1 }).underWay t f pc)
  | .stall z => .hold (((z.underWay t f pc).setLat .tblDone t.sp 0 (r.1 + 1)).setLat .tblSeed t.sp 0 seed)
  | .lost z => tblLost z t.sp

/-- The lists and sources of a word, read for its change pass. -/
def State.readWord (s : State) (t : TblWord) (r : Rgn) : Except Missed (List Brought × State) :=
  match s.readAllLists t (s.workers t.sp (wScope t.w)) with
  | .error e => .error e
  | .ok x => x.2.readSources t r x.1

/-- The check pass (R209), then the outputs or the changes. -/
def State.tblRun (s : State) (t : TblWord) (f : Found) (pc : Nat) : Perf :=
  let ks := s.workers t.sp (wScope t.w)
  let base := failsOf 0 (s.tblPre t ++ s.rgnCauses t (some f) ++ s.listRights t) ++ s.bellFails t.sp t.w
  if t.count = 0 then withFails base (s.unlessBell t.sp t.w (s.ringAndEnd t.sp pc t.w))
  else
    let f1 := base ++ (if (s.tblPre t).isEmpty then ks.flatMap (s.listFails t) else [])
    let low := match firstFail f1 with | some x => decide (x.1.code < 9) | none => false
    if low || ks.any fun k => !(s.footFails k (mAS t.w) [t.ioff] (4 * t.count)).isEmpty then
      withFails f1 (.hold s)
    else match s.readAllLists t ks with
      | .error e => withFails f1 (e.tblPerf s s)
      | .ok x =>
        withFails (f1 ++ x.1.flatMap fun b => s.rowFails t f.r b.k b.ents) <|
          if !f.away && (s.loggers f.d f.k).any s.quiescing then .hold s
          else if t.op.outputs then s.makeOutputs x.2 t f pc x.1
          else match x.2.readSources t f.r x.1 with
            | .error e => e.tblPerf s s
            | .ok y => y.2.makeChanges t f pc s.free 0 y.1

/-- A table word. -/
def tblEff (o : TblOp) (s : State) (sp pc : Nat) (w : W256) : Perf :=
  let t := s.tblWord o sp w
  let pre := failsOf 0 (s.tblPre t) ++ s.bellFails sp w
  match s.findRegion (aBASE ((s.spin sp).getA (mAD w))) with
  | none => withFails (pre ++ failsOf 0 (s.rgnCauses t none)) (.hold s)
  | some f =>
    if s.unloading f then withFails pre (.hold s)
    else match s.engine f with
    | .ok => s.tblRun t f pc
    | .held => withFails pre (.hold s)
    | .dieLost => withFails pre (.check s sp mcDieLost)
    | _ => withFails pre (tblLost s sp)

/-! ## Completion (R212, R115) -/

/-- The operation of an opcode. -/
def tblOp : Nat → TblOp
  | 0x220 => .gather | 0x221 => .sum | 0x222 => .mean | 0x223 => .max | 0x224 => .wsum | 0x225 => .scatter
  | 0x226 => .scatterAdd | 0x227 => .sgd | 0x228 => .adagrad | _ => .adam

/-- The rest of a stalled word, from the step it stopped before. -/
def State.resumeWord (s : State) (sp pc : Nat) (w : W256) : Perf :=
  let t := s.tblWord (tblOp (wOp w)) sp w
  match s.findRegion (aBASE ((s.spin sp).getA (mAD w))) with
  | none => tblLost s sp
  | some f =>
    if !f.away && (s.loggers f.d f.k).any s.quiescing then .hold s
    else match s.readWord t f.r with
    | .error e => e.tblPerf s s
    | .ok x => x.2.makeChanges t f pc (s.lat .tblSeed sp 0) (s.lat .tblDone sp 0 - 1) x.1

/-- The word has the lanes of a pooling accumulator, whose residue is checked at its read-out (R213). -/
def TblOp.accumulates (o : TblOp) : Bool := o == .sum || o == .mean || o == .wsum

/-- The quarry that runs the word under way; another package's records its own events. -/
def State.runningDie (s : State) (sp : Nat) : Option Nat :=
  let x := s.lat .tblFly sp 0
  if x < 2 ^ 16 then some (s.servingDie ((x - 1) / 256) ((x - 1) % 256)) else none

/-- A bag is computed again after a residue mismatch. -/
def State.poolAgain (s : State) (sp : Nat) : State :=
  match s.runningDie sp with
  | some d => s.event 0x2131 .note (engineUnit d) 0
  | none => s

/-- A table word under way completes, or goes on where it stalled and completes if nothing is left; with DATA_LOST, or a second
residue mismatch of a bag, its spindle takes a machine check. -/
def State.tblComplete (s : State) (sp : Nat) (e : Entry) (how : TblEnd) : State :=
  let close := fun (u : State) => u.setLat .tblFly sp 0 0
  let pool := (tblOp (wOp e.word)).accumulates
  if s.bellWaits sp e.word then s else
  let s := if pool && (how == .bagAgain || how == .bagTwice) then s.poolAgain sp else s
  if how = .lost then ((close s).setLat .tblDone sp 0 0).check sp mcEcc
  else if pool ∧ how = .bagTwice then (((s.runningDie sp).elim (close s) fun d => (close s).occur 0x0F (engineUnit d))).check sp mcResidue
  else if s.lat .tblDone sp 0 = 0 then (close s).finishWord sp e.pc ((close s).ringAndEnd sp e.pc e.word)
  else
    let p := s.resumeWord sp e.pc e.word
    match p with
    | .hold u =>
      if u.lat .tblDone sp 0 = 0 then (close u).finishWord sp e.pc ((close u).ringAndEnd sp e.pc e.word) else u
    | p => s.finishWord sp e.pc p

/-- TABLE_WORD_COMPLETE (R212, R213). -/
def execTableWordComplete (sp : Nat) (how : TblEnd) (s : State) : Out :=
  ifUnit (sp < nSpindles)
    (if s.isLead sp && s.spState sp == 3 && s.lat .tblFly sp 0 != 0 then
      match (s.spin sp).spool.head? with
      | some e => if e.started then s.tblComplete sp e how else s
      | none => s
    else s)

/-! ## The commands -/

/-- GATHER (R211). -/
def execGather (sp : Nat) (w : W256) (s : State) : Out := wordStep 0x220 sp w s (tblEff .gather)
/-- POOL.SUM (R213). -/
def execPoolSum (sp : Nat) (w : W256) (s : State) : Out := wordStep 0x221 sp w s (tblEff .sum)
/-- POOL.MEAN (R213). -/
def execPoolMean (sp : Nat) (w : W256) (s : State) : Out := wordStep 0x222 sp w s (tblEff .mean)
/-- POOL.MAX (R213). -/
def execPoolMax (sp : Nat) (w : W256) (s : State) : Out := wordStep 0x223 sp w s (tblEff .max)
/-- POOL.WSUM (R213). -/
def execPoolWsum (sp : Nat) (w : W256) (s : State) : Out := wordStep 0x224 sp w s (tblEff .wsum)
/-- SCATTER (R211). -/
def execScatter (sp : Nat) (w : W256) (s : State) : Out := wordStep 0x225 sp w s (tblEff .scatter)
/-- SCATTER_ADD (R211). -/
def execScatterAdd (sp : Nat) (w : W256) (s : State) : Out := wordStep 0x226 sp w s (tblEff .scatterAdd)
/-- UPD.SGD (R215). -/
def execUpdSgd (sp : Nat) (w : W256) (s : State) : Out := wordStep 0x227 sp w s (tblEff .sgd)
/-- UPD.ADAGRAD (R215). -/
def execUpdAdagrad (sp : Nat) (w : W256) (s : State) : Out := wordStep 0x228 sp w s (tblEff .adagrad)
/-- UPD.ADAM (R215). -/
def execUpdAdam (sp : Nat) (w : W256) (s : State) : Out := wordStep 0x229 sp w s (tblEff .adam)

end Sys2Proof.Machine
end

