-- ==== Sys2Proof/Machine/TileWords.lean ====
section
/-! DEFINITION. The meanings of the T-words (Table ISA-18). -/

namespace Sys2Proof.Machine

/-- MMA (Table ISA-18, 0x100). -/
def execMma (sp : Nat) (w : W256) (s : State) : Out := wordStep 0x100 sp w s (effMma false)

/-- MMS (Table ISA-18, 0x101). -/
def execMms (sp : Nat) (w : W256) (s : State) : Out := wordStep 0x101 sp w s (effMma true)

/-- MACC (Table ISA-18, 0x102). -/
def execMacc (sp : Nat) (w : W256) (s : State) : Out := wordStep 0x102 sp w s effMacc

/-- MCLR (Table ISA-18, 0x103). -/
def execMclr (sp : Nat) (w : W256) (s : State) : Out := wordStep 0x103 sp w s effMclr

/-- MRD (Table ISA-18, 0x104). -/
def execMrd (sp : Nat) (w : W256) (s : State) : Out := wordStep 0x104 sp w s (effMrd false)

/-- MRDC (Table ISA-18, 0x105). -/
def execMrdc (sp : Nat) (w : W256) (s : State) : Out := wordStep 0x105 sp w s (effMrd true)

/-- MFLAG (Table ISA-18, 0x106). -/
def execMflag (sp : Nat) (w : W256) (s : State) : Out := wordStep 0x106 sp w s effMflag

/-- TADD (Table ISA-18, 0x110). -/
def execTadd (sp : Nat) (w : W256) (s : State) : Out := wordStep 0x110 sp w s (effElem opAdd)

/-- TSUB (Table ISA-18, 0x111). -/
def execTsub (sp : Nat) (w : W256) (s : State) : Out := wordStep 0x111 sp w s (effElem opSub)

/-- TMUL (Table ISA-18, 0x112). -/
def execTmul (sp : Nat) (w : W256) (s : State) : Out := wordStep 0x112 sp w s (effElem opMul)

/-- TDIV (Table ISA-18, 0x113). -/
def execTdiv (sp : Nat) (w : W256) (s : State) : Out := wordStep 0x113 sp w s (effElem opDiv)

/-- TFMA (Table ISA-18, 0x114). -/
def execTfma (sp : Nat) (w : W256) (s : State) : Out := wordStep 0x114 sp w s (effElem opFma)

/-- TMIN (Table ISA-18, 0x115). -/
def execTmin (sp : Nat) (w : W256) (s : State) : Out := wordStep 0x115 sp w s (effElem opMin)

/-- TMAX (Table ISA-18, 0x116). -/
def execTmax (sp : Nat) (w : W256) (s : State) : Out := wordStep 0x116 sp w s (effElem opMax)

/-- TABS (Table ISA-18, 0x117). -/
def execTabs (sp : Nat) (w : W256) (s : State) : Out := wordStep 0x117 sp w s (effElem opAbs)

/-- TADDS (Table ISA-18, 0x118). -/
def execTadds (sp : Nat) (w : W256) (s : State) : Out := wordStep 0x118 sp w s (effScalar opAdds)

/-- TMULS (Table ISA-18, 0x119). -/
def execTmuls (sp : Nat) (w : W256) (s : State) : Out := wordStep 0x119 sp w s (effScalar opMuls)

/-- TSCL2 (Table ISA-18, 0x11A). -/
def execTscl2 (sp : Nat) (w : W256) (s : State) : Out := wordStep 0x11A sp w s effScl2

/-- TRELU (Table ISA-18, 0x120). -/
def execTrelu (sp : Nat) (w : W256) (s : State) : Out := wordStep 0x120 sp w s (effElem opRelu)

/-- TGELU (Table ISA-18, 0x121). -/
def execTgelu (sp : Nat) (w : W256) (s : State) : Out := wordStep 0x121 sp w s (effElem (opFn .gelu))

/-- TSIGM (Table ISA-18, 0x122). -/
def execTsigm (sp : Nat) (w : W256) (s : State) : Out := wordStep 0x122 sp w s (effElem (opFn .sigm))

/-- TTANH (Table ISA-18, 0x123). -/
def execTtanh (sp : Nat) (w : W256) (s : State) : Out := wordStep 0x123 sp w s (effElem (opFn .tanh))

/-- TEXP (Table ISA-18, 0x124). -/
def execTexp (sp : Nat) (w : W256) (s : State) : Out := wordStep 0x124 sp w s (effElem (opFn .exp))

/-- TLOG (Table ISA-18, 0x125). -/
def execTlog (sp : Nat) (w : W256) (s : State) : Out := wordStep 0x125 sp w s (effElem (opFn .log))

/-- TSQRT (Table ISA-18, 0x126). -/
def execTsqrt (sp : Nat) (w : W256) (s : State) : Out := wordStep 0x126 sp w s (effElem opSqrt)

/-- TRSQRT (Table ISA-18, 0x127). -/
def execTrsqrt (sp : Nat) (w : W256) (s : State) : Out := wordStep 0x127 sp w s (effElem (opFn .rsqrt))

/-- TRECIP (Table ISA-18, 0x128). -/
def execTrecip (sp : Nat) (w : W256) (s : State) : Out := wordStep 0x128 sp w s (effElem opRecip)

/-- TCGT (Table ISA-18, 0x129). -/
def execTcgt (sp : Nat) (w : W256) (s : State) : Out := wordStep 0x129 sp w s (effElem opCgt)

/-- TCEQ (Table ISA-18, 0x12A). -/
def execTceq (sp : Nat) (w : W256) (s : State) : Out := wordStep 0x12A sp w s (effElem opCeq)

/-- TSEL (Table ISA-18, 0x12B). -/
def execTsel (sp : Nat) (w : W256) (s : State) : Out := wordStep 0x12B sp w s (effElem opSel)

/-- TCOPY (Table ISA-18, 0x130). -/
def execTcopy (sp : Nat) (w : W256) (s : State) : Out := wordStep 0x130 sp w s effTcopy

/-- TTRANS (Table ISA-18, 0x131). -/
def execTtrans (sp : Nat) (w : W256) (s : State) : Out := wordStep 0x131 sp w s effTtrans

/-- TCVT (Table ISA-18, 0x132). -/
def execTcvt (sp : Nat) (w : W256) (s : State) : Out := wordStep 0x132 sp w s effTcvt

/-- TFILL (Table ISA-18, 0x133). -/
def execTfill (sp : Nat) (w : W256) (s : State) : Out := wordStep 0x133 sp w s effTfill

/-- TBCAST (Table ISA-18, 0x134). -/
def execTbcast (sp : Nat) (w : W256) (s : State) : Out := wordStep 0x134 sp w s effTbcast

/-- TGET (Table ISA-18, 0x135). -/
def execTget (sp : Nat) (w : W256) (s : State) : Out := wordStep 0x135 sp w s effTget

/-- TPUT (Table ISA-18, 0x136). -/
def execTput (sp : Nat) (w : W256) (s : State) : Out := wordStep 0x136 sp w s effTput

/-- TZERO (Table ISA-18, 0x137). -/
def execTzero (sp : Nat) (w : W256) (s : State) : Out := wordStep 0x137 sp w s effTzero

/-- The effect of a T-word by its opcode. -/
def tileEff : Nat → State → Nat → Nat → W256 → Perf
  | 0x100 => effMma false
  | 0x101 => effMma true
  | 0x102 => effMacc
  | 0x103 => effMclr
  | 0x104 => effMrd false
  | 0x105 => effMrd true
  | 0x106 => effMflag
  | 0x110 => effElem opAdd
  | 0x111 => effElem opSub
  | 0x112 => effElem opMul
  | 0x113 => effElem opDiv
  | 0x114 => effElem opFma
  | 0x115 => effElem opMin
  | 0x116 => effElem opMax
  | 0x117 => effElem opAbs
  | 0x118 => effScalar opAdds
  | 0x119 => effScalar opMuls
  | 0x11A => effScl2
  | 0x120 => effElem opRelu
  | 0x121 => effElem (opFn .gelu)
  | 0x122 => effElem (opFn .sigm)
  | 0x123 => effElem (opFn .tanh)
  | 0x124 => effElem (opFn .exp)
  | 0x125 => effElem (opFn .log)
  | 0x126 => effElem opSqrt
  | 0x127 => effElem (opFn .rsqrt)
  | 0x128 => effElem opRecip
  | 0x129 => effElem opCgt
  | 0x12A => effElem opCeq
  | 0x12B => effElem opSel
  | 0x130 => effTcopy
  | 0x131 => effTtrans
  | 0x132 => effTcvt
  | 0x133 => effTfill
  | 0x134 => effTbcast
  | 0x135 => effTget
  | 0x136 => effTput
  | 0x137 => effTzero
  | _ => fun s _ pc _ => .ok s (pc + 1)

end Sys2Proof.Machine
end

