-- ==== Sys2Proof/Machine/Issue.lean ====
section
/-! DEFINITION. The spool (R52 to R58, R63, R172, R173): a word issues, an issued word completes, the exception of the oldest
word is taken. -/

namespace Sys2Proof.Machine

/-! ## The effect of any word -/

/-- The effect of an M-word by its opcode. -/
def memEff (op : Nat) : State → Nat → Nat → W256 → Perf :=
  match op with
  | 0x200 => ldtEff
  | 0x201 => sttEff
  | 0x210 => mdEff false
  | 0x211 => mdEff true
  | _ => tblEff (tblOp op)

/-- The effect of a C-word by its opcode. -/
def ctlEff (op : Nat) : State → Nat → Nat → W256 → Perf :=
  match op with
  | 0x300 => brEff
  | 0x301 => brrEff
  | 0x302 => callEff
  | 0x303 => callrEff
  | 0x304 => loopEff
  | 0x305 => haltEff
  | 0x310 => fenceEff
  | 0x311 => doorbellEff
  | 0x312 => waitEff
  | 0x313 => syncEff
  | 0x320 => retxEff
  | 0x321 => brkEff
  | 0x322 => epochEff
  | _ => rdepochEff

/-- The effect of a word, by its opcode. -/
def wordEff (s : State) (sp pc : Nat) (w : W256) : Perf :=
  match wOp w / 256 with
  | 0 => sEff s sp pc w
  | 1 => tileEff (wOp w) s sp pc w
  | 2 => memEff (wOp w) s sp pc w
  | _ => ctlEff (wOp w) s sp pc w

/-! ## Issue (R52, R53, R55, R56, R173) -/

/-- A word after which the next to issue is not yet known, or which holds every younger word at issue: flow, WAIT, RETX,
BREAK, EPOCH. -/
def holdsIssue (w : W256) : Bool :=
  decide (0x300 ≤ wOp w ∧ wOp w ≤ 0x305) || wOp w == 0x312 || decide (0x320 ≤ wOp w ∧ wOp w ≤ 0x322)

/-- A memory word: an S-word or an M-word, which FENCE holds back (R60). -/
def memoryWord (w : W256) : Bool := wOp w == 0 || wOp w / 256 == 2

/-- What an issued word lets issue behind it. -/
def Entry.lets (e : Entry) (w : W256) : Bool :=
  e.cause.isNone && !holdsIssue e.word && !(wOp e.word == 0x310 && memoryWord w)

/-- The index of the next word to issue. -/
def State.nextPc (s : State) (sp : Nat) : Nat :=
  match (s.spin sp).spool.getLast? with
  | some e => e.pc + 1
  | none => if (s.spin sp).overrun then 16384 else s.spFld fSPN_PC_WORD sp

/-- The members of a ply, with their entries so far, may take one more word (R56, R173). -/
def State.window (s : State) (sp : Nat) : Bool :=
  let n := (s.spin sp).spool.length
  decide (n < 1024) &&
    match s.plyOf sp with
    | some p => decide (p.members.length ≤ 1) || decide (n - s.lat .cleared sp 0 < p.window)
    | none => true

/-- A word joins the spool of every member. -/
def State.pushEntry (s : State) (sp : Nat) (e : Entry) : State :=
  s.updMates sp fun x => { x with spool := x.spool ++ [e] }

/-- The spindle of `sp` issues its next word. -/
def State.issue (s : State) (sp : Nat) : State :=
  let pc := s.nextPc sp
  let l := (s.spin sp).spool
  if 16384 ≤ pc then
    if l.all fun e => e.cause.isNone && !holdsIssue e.word then s.pushEntry sp ⟨0, 16384, some (1, 16384), false⟩ else s
  else
    let r := s.bankReach (padBank sp (32 * pc)) (32 * pc) 32
    match r.1 with
    | .serve =>
      let w := s.wordAt sp pc
      if l.all fun e => e.lets w then
        r.2.pushEntry sp ⟨w, pc, if l.isEmpty then decodeCause s sp w else none, false⟩
      else s
    | _ => r.2

/-- WORD_ISSUE (R55): the next word in program order, from bank 0. -/
def execWordIssue (sp : Nat) (s : State) : Out :=
  ifUnit (sp < nSpindles) (if s.mayIssue sp && s.window sp then s.issue sp else s)

/-! ## Completion and exceptions (R58, R61 to R63) -/

/-- The spindle of `sp` performs its oldest word, which has issued. -/
def State.completeHead (s : State) (l : Nat) (w : W256) : State := s.performWord l w wordEff

/-- A word that accumulates into mortar. -/
def accumulates (w : W256) : Bool := decide (0x100 ≤ wOp w ∧ wOp w ≤ 0x102)

/-- A word that reads mortar out. -/
def readsOut (w : W256) : Bool := wOp w == 0x104 || wOp w == 0x105

/-- The group of the word's scope that a member belongs to. -/
def State.groupOf (s : State) (l scope sp : Nat) : Option Grp :=
  (s.groups l scope).find? fun g => g.mems.any fun m => m.2 == sp

/-- The combined residue of a read-out fails in the group of member `sp` (R162): the sequencers combine again, EV 0x1134, and the
word completes; or the second attempt fails too, and member 0 takes a machine check. -/
def State.combineFails (s : State) (l sp : Nat) (h : Entry) (twice : Bool) : State :=
  match s.groupOf l (wScope h.word) sp with
  | some g =>
    if readsOut h.word ∧ 1 < g.n then
      let t := s.event 0x1134 .note (plyUnit (spDie l)) 0
      if twice then t.check g.first mcResidue else t.completeHead l h.word
    else s
  | none => s

/-- WORD_COMPLETE (R58, R61, R62): the oldest word completes; or its step or read-out in member `sp` fails its residue check,
or a read of it meets a multi-bit error, or a request of it ends with DIE_LOST. -/
def execWordComplete (sp : Nat) (e : WordEnd) (s : State) : Out :=
  ifUnit (sp < nSpindles)
    (let l := s.leadOf sp
    match (s.spin l).spool.head? with
    | none => s
    | some h =>
      if s.canPerform l h.word then
        match e with
        | .ok => s.completeHead l h.word
        | .residue =>
          if accumulates h.word then s.replayWord sp else if readsOut h.word then s.check sp mcResidue else s
        | .eccMultibit => s.check sp mcEcc
        | .dieLost => if memoryWord h.word then s.check sp mcDieLost else s
        | .combine twice => s.combineFails l sp h twice
      else s)

/-- EXCEPTION_TAKEN (R63): the oldest word raised a cause. -/
def execExceptionTaken (sp : Nat) (s : State) : Out :=
  ifUnit (sp < nSpindles)
    (match (s.spin sp).spool.head? with
    | none => s
    | some h =>
      if s.canPerform sp h.word && !s.spFlag fSPN_CTL_HALT sp then
        match s.wordOutcome sp h.pc h.word wordEff with
        | .exc c m => s.finishWord sp h.pc (.exc c m)
        | .addr a m => s.finishWord sp h.pc (.addr a m)
        | _ => s
      else s)

/-- The oldest word is due to raise an exception: it comes before an interrupt (R74). -/
def State.faultDue (s : State) (sp : Nat) : Bool :=
  match (s.spin sp).spool.head? with
  | some h => match s.wordOutcome sp h.pc h.word wordEff with
    | .exc _ _ | .addr _ _ => true
    | _ => false
  | none => (s.spin sp).overrun

/-- INTERRUPT_TAKEN (R73, R74, R176). A halt request comes first (DESIGN CHOICE, log 156). -/
def execInterruptTaken (sp : Nat) (s : State) : Out :=
  ifUnit (sp < nSpindles)
    (if s.isLead sp && (s.spState sp == 3 || s.spState sp == 4) && !s.spFlag fSPN_CTL_HALT sp && s.lat .stepDone sp 0 == 0 &&
        s.irqDue sp && s.between sp && !s.faultDue sp then s.takeInterrupt sp
    else s)

end Sys2Proof.Machine
end

