-- ==== Sys2Proof/Machine/Requesters.lean ====
section
/-! DEFINITION. The meanings of the commands in which something other than a spindle's word reads or writes memory: descriptors of a
host DMA channel (R274, R275), flits from other packages (R289 to R291, R296, R299, R301), collectives that complete (R308). -/

namespace Sys2Proof.Machine

/-! ## Host DMA (R274, R275, Tables LNK-2, LNK-3) -/

/-- The move of a descriptor: its STATUS code, 0 where it is held; the bytes for the host; `data` is what the host
gave, none for an error of the host's. -/
def State.dmaMove (s : State) (port : Nat) (w : W256) (data : Option (List Byte)) : Nat × List Byte × State :=
  if dmaBad w then (6, [], s)
  else if dmaLen w = 0 then (1, [], s)
  else if dmaToHost w then
    let r := s.moveRead (asHost port) (dmaSysAddr w) (dmaLen w)
    if r.1 = .held then (0, [], r.2.2)
    else (dmaCode r.1, r.2.1, r.2.2.noteUnpopulated r.1 (hostUnit port) (dmaSysAddr w))
  else
    match data with
    | none => (4, [], s)
    | some bs =>
      if bs.length < dmaLen w then (4, [], s)
      else
        let r := s.moveWrite (asHost port) (dmaSysAddr w) (bs.take (dmaLen w))
        if r.1 = .held then (0, [], r.2)
        else (dmaCode r.1, [], r.2.noteUnpopulated r.1 (hostUnit port) (dmaSysAddr w))

/-- The completion doorbell of a descriptor; one that cannot be delivered is discarded (R38, R43, R299). -/
def State.dmaBell (s : State) (port : Nat) (w : W256) : State :=
  if dmaDbe w then
    (s.ring 60 (hostUnit port) (dmaTarget w) (2 ^ dmaDbbit w)).getD (s.event 0x3F01 .warn (hostUnit port) (dmaTarget w).toNat)
  else s

/-- The oldest moving descriptor of a channel is done (R274, R275), or waits. -/
def State.dmaComplete (s : State) (port c : Nat) (w : W256) (rest : List W256) (data : Option (List Byte)) : State :=
  if dmaDbe w && s.bellHeld (hostUnit port) (dmaTarget w) then s.answer .held []
  else
    let r := s.dmaMove port w data
    if r.1 = 0 then r.2.2.answer .held []
    else (if r.1 = 1 then r.2.2.dmaBell port w else r.2.2).dmaEnd port c r.1 w rest r.2.1

/-- HOST_DMA_DESC_COMPLETE. -/
def execHostDmaDescComplete (port c : Nat) (data : Option (List Byte)) (s : State) : Out :=
  ifUnit (isHostPort port && c < 4)
    (match s.dmaMoving port c with
    | w :: rest => s.dmaComplete port c w rest data
    | [] => s)

/-! ## Flits (R289 to R291, R296, R301, Table LNK-12) -/

/-- What a flit asks of this package takes place. -/
def State.remoteAct (s : State) (p : Nat) (x : RemoteAct) : State :=
  match x with
  | .write a bs =>
    let r := s.moveWrite (asWarp p) (s.pkg * 2 ^ 52 + a % 2 ^ 52) bs
    r.2.noteUnpopulated r.1 (warpUnit p) a
  | .bell tgt bits =>
    if dbPkg tgt = s.pkg then
      (s.ring (warpDie p) (warpUnit p) tgt bits).getD (s.event 0x3F01 .warn (warpUnit p) tgt.toNat)
    else s

/-- A flit is of class B (Table LNK-13). -/
def flitLate (x : Flit) : Bool := x.vc % 2 == 1

/-- The transaction a data flit gives rise to at this package, as the package it leaves for and whether it is a response: the flit
itself in transit, the response of a request that ends here or at the hop limit (R301). -/
def State.flitOn (s : State) (x : Flit) : Option (Nat × Bool) :=
  if x.dst ≠ s.pkg ∧ x.hops ≠ 15 then some (x.dst, !x.isReq) else if x.isReq then some (x.src, true) else none

/-- A data flit waits for the port it goes on by. -/
def State.flitWaits (s : State) (x : Flit) : Bool :=
  match s.flitOn x with
  | some y => y.1 != s.pkg && s.flitHeld y.1 x.unit x.addr y.2 (flitLate x)
  | none => false

/-- A data flit is taken in: for this package, or forwarded, or discarded at the hop limit; a request gets its response. -/
def State.takeFlit (s : State) (p : Nat) (x : Flit) : State :=
  let t := s.setLat .warpSince p 0 ((s.lat .warpSince p 0 + 1) % 64)
  let t := if x.dst = s.pkg then t.each x.acts fun a u => u.remoteAct p a
    else if x.hops = 15 then t.event 0x3212 .warn (warpUnit p) 0
    else if s.reachable x.dst then t
    else t.event 0x3F01 .warn (warpUnit p) (x.dst * 2 ^ 52 + x.addr % 2 ^ 52)
  match s.flitOn x with
  | some y => if y.1 = s.pkg then t else t.flitLeaves y.1 x.unit x.addr y.2 (flitLate x)
  | none => t

/-- A data flit arrives (R291): a bad one is dropped, and every later one until it comes again; one that must wait stays with its
sender, which has no credit for it. -/
def State.dataFlit (s : State) (p : Nat) (x : Flit) : State :=
  if !x.fec then ((s.satWpFld fWP_PORT_ERR_UNCORR p 1).setLat .warpDrop p 0 1)
  else if !x.good then ((s.satWpFld fWP_PORT_ERR_CRC p 1).setLat .warpDrop p 0 1)
  else if x.seq % 4096 = s.lat .warpExpect p 0 then
    if s.flitWaits x then s.answer .held []
    else ((s.setLat .warpExpect p 0 ((x.seq + 1) % 4096)).setLat .warpDrop p 0 0).takeFlit p x
  else s

/-- Credits come back in a control flit (R289). -/
def State.warpCredits (s : State) (p : Nat) (l : List Nat) : State :=
  s.each (l.take 4).zipIdx fun x t => t.setLat .warpCredit p x.2 (t.lat .warpCredit p x.2 - x.1)

/-- WARP_FLIT_RECEIVE. A port in HELD carries no request or response (R287); a bad flit gives no acknowledgement. -/
def execWarpFlitReceive (p : Nat) (x : Flit) (s : State) : Out :=
  ifUnit (isWarpPort p)
    (let st := s.wpFld fWP_PORT_STAT_STATE p
    if s.warpUp p ∧ (st = 3 ∨ st = 4) then
      let t := s.setWpFld fWP_PORT_FEC_SYMBOLS p (s.wpFld fWP_PORT_FEC_SYMBOLS p + x.corrected)
      let t := if x.good ∧ x.fec then (if x.nak then t.warpNak p (x.ackseq % 4096) else if x.ack then t.warpAck p (x.ackseq % 4096) else t)
        else t
      if x.kind = 1 ∧ st = 4 then t.dataFlit p x
      else if x.good ∧ x.fec then (if x.kind = 2 then t.warpCredits p x.credits else t)
      else if x.fec then t.satWpFld fWP_PORT_ERR_CRC p 1 else t.satWpFld fWP_PORT_ERR_UNCORR p 1
    else s)

/-! ## Collectives (R308) -/

/-- A collective that has begun completes here (R308): `sent` are the bytes each member sends this one, in member
order; this member's own come from its SRC. -/
def State.collFinish (s : State) (j : CollJob) (sent : List (List Byte)) : State :=
  let ms := s.collGroup j.group
  let m := ms.idxOf s.pkg
  let reads := j.count ≠ 0 ∧ (j.op ≠ 1 ∨ j.root = m)
  let r := if reads then s.moveRead asEngine (s.pkg * 2 ^ 52 + j.src) (j.srcLen ms.length) else (.ok, [], s)
  if r.1 = .held then r.2.2
  else if r.1 ≠ .ok then State.collAdvance j.group 17 (r.2.2.collEnd j 8)
  else
    let len := j.count * collSize j.fin
    let parts := (List.range ms.length).map fun i => padTo len (if i = m then j.ownPart m r.2.1 else (sent[i]?).getD [])
    let w := if j.count = 0 then (.ok, r.2.2) else r.2.2.moveWrite asEngine (s.pkg * 2 ^ 52 + j.dst) (j.result m parts)
    if w.1 = .held then w.2
    else State.collAdvance j.group 17 (w.2.collEnd j (if w.1 = .ok then 0 else 8))

/-- COLL_COMPLETE. -/
def execCollComplete (g : Nat) (sent : List (List Byte)) (s : State) : Out :=
  ifUnit (g < 16)
    (match s.collHead g with
    | some j => if j.begun ∧ s.dieUp 56 then s.collFinish j sent else s
    | none => s)

end Sys2Proof.Machine
end

