-- ==== Sys2Proof/Machine/Dispatch.lean ====
section
/-! DEFINITION. The meaning of every command: one arm per constructor of `Instr`. -/

namespace Sys2Proof.Machine

open Host

def exec (i : Instr) (s : State) : Host.Outcome State Fault Refusal :=
  match i with
  | .registerWrite m addr size v => Sys2Proof.Machine.execRegisterWrite m addr size v s
  | .meshFlitReceive d link x => Sys2Proof.Machine.execMeshFlitReceive d link x s
  | .routeHoldEnd d => Sys2Proof.Machine.execRouteHoldEnd d s
  | .meshStopRailTrip d => Sys2Proof.Machine.execMeshStopRailTrip d s
  | .dieOvercurrentTrip d => Sys2Proof.Machine.execDieOvercurrentTrip d s
  | .pwDieIsoWrite m d v => Sys2Proof.Machine.execPwDieIsoWrite m d v s
  | .pwTwinCtlWrite m d k v same => Sys2Proof.Machine.execPwTwinCtlWrite m d k v same s
  | .twinIlimEntry d k on => Sys2Proof.Machine.execTwinIlimEntry d k on s
  | .railCapRecompute vin iin pin => Sys2Proof.Machine.execRailCapRecompute vin iin pin s
  | .busConverterFail n => Sys2Proof.Machine.execBusConverterFail n s
  | .vinUndervoltage => Sys2Proof.Machine.execVinUndervoltage s
  | .vinOvervoltage => Sys2Proof.Machine.execVinOvervoltage s
  | .vinBackInBand => Sys2Proof.Machine.execVinBackInBand s
  | .hiBar2BaseWrite port v => Sys2Proof.Machine.execHiBar2BaseWrite port v s
  | .hiPkgNumWrite port v => Sys2Proof.Machine.execHiPkgNumWrite port v s
  | .bar4DoorbellWrite port off v => Sys2Proof.Machine.execBar4DoorbellWrite port off v s
  | .hostMemoryRequest port bar off len data => Sys2Proof.Machine.execHostMemoryRequest port bar off len data s
  | .doorbellSetArrive m sp v => Sys2Proof.Machine.execDoorbellSetArrive m sp v s
  | .waitTimeout sp => Sys2Proof.Machine.execWaitTimeout sp s
  | .timerCompare sp => Sys2Proof.Machine.execTimerCompare sp s
  | .writeRefusalNotice sp addr => Sys2Proof.Machine.execWriteRefusalNotice sp addr s
  | .wordIssue sp => Sys2Proof.Machine.execWordIssue sp s
  | .wordComplete sp e => Sys2Proof.Machine.execWordComplete sp e s
  | .exceptionTaken sp => Sys2Proof.Machine.execExceptionTaken sp s
  | .interruptTaken sp => Sys2Proof.Machine.execInterruptTaken sp s
  | .spnRun m sp => Sys2Proof.Machine.execSpnRun m sp s
  | .spnHaltRequest m sp => Sys2Proof.Machine.execSpnHaltRequest m sp s
  | .spnStep m sp => Sys2Proof.Machine.execSpnStep m sp s
  | .spindleHalted sp => Sys2Proof.Machine.execSpindleHalted sp s
  | .stateViewAccess m sp off size data => Sys2Proof.Machine.execStateViewAccess m sp off size data s
  | .sWord sp w => Sys2Proof.Machine.execSWord sp w s
  | .mma sp w => Sys2Proof.Machine.execMma sp w s
  | .mms sp w => Sys2Proof.Machine.execMms sp w s
  | .macc sp w => Sys2Proof.Machine.execMacc sp w s
  | .mclr sp w => Sys2Proof.Machine.execMclr sp w s
  | .mrd sp w => Sys2Proof.Machine.execMrd sp w s
  | .mrdc sp w => Sys2Proof.Machine.execMrdc sp w s
  | .mflag sp w => Sys2Proof.Machine.execMflag sp w s
  | .tadd sp w => Sys2Proof.Machine.execTadd sp w s
  | .tsub sp w => Sys2Proof.Machine.execTsub sp w s
  | .tmul sp w => Sys2Proof.Machine.execTmul sp w s
  | .tdiv sp w => Sys2Proof.Machine.execTdiv sp w s
  | .tfma sp w => Sys2Proof.Machine.execTfma sp w s
  | .tmin sp w => Sys2Proof.Machine.execTmin sp w s
  | .tmax sp w => Sys2Proof.Machine.execTmax sp w s
  | .tabs sp w => Sys2Proof.Machine.execTabs sp w s
  | .tadds sp w => Sys2Proof.Machine.execTadds sp w s
  | .tmuls sp w => Sys2Proof.Machine.execTmuls sp w s
  | .tscl2 sp w => Sys2Proof.Machine.execTscl2 sp w s
  | .trelu sp w => Sys2Proof.Machine.execTrelu sp w s
  | .tgelu sp w => Sys2Proof.Machine.execTgelu sp w s
  | .tsigm sp w => Sys2Proof.Machine.execTsigm sp w s
  | .ttanh sp w => Sys2Proof.Machine.execTtanh sp w s
  | .texp sp w => Sys2Proof.Machine.execTexp sp w s
  | .tlog sp w => Sys2Proof.Machine.execTlog sp w s
  | .tsqrt sp w => Sys2Proof.Machine.execTsqrt sp w s
  | .trsqrt sp w => Sys2Proof.Machine.execTrsqrt sp w s
  | .trecip sp w => Sys2Proof.Machine.execTrecip sp w s
  | .tcgt sp w => Sys2Proof.Machine.execTcgt sp w s
  | .tceq sp w => Sys2Proof.Machine.execTceq sp w s
  | .tsel sp w => Sys2Proof.Machine.execTsel sp w s
  | .tcopy sp w => Sys2Proof.Machine.execTcopy sp w s
  | .ttrans sp w => Sys2Proof.Machine.execTtrans sp w s
  | .tcvt sp w => Sys2Proof.Machine.execTcvt sp w s
  | .tfill sp w => Sys2Proof.Machine.execTfill sp w s
  | .tbcast sp w => Sys2Proof.Machine.execTbcast sp w s
  | .tget sp w => Sys2Proof.Machine.execTget sp w s
  | .tput sp w => Sys2Proof.Machine.execTput sp w s
  | .tzero sp w => Sys2Proof.Machine.execTzero sp w s
  | .ldt sp w => Sys2Proof.Machine.execLdt sp w s
  | .stt sp w => Sys2Proof.Machine.execStt sp w s
  | .dma sp w => Sys2Proof.Machine.execDma sp w s
  | .dmaf sp w => Sys2Proof.Machine.execDmaf sp w s
  | .gather sp w => Sys2Proof.Machine.execGather sp w s
  | .poolSum sp w => Sys2Proof.Machine.execPoolSum sp w s
  | .poolMean sp w => Sys2Proof.Machine.execPoolMean sp w s
  | .poolMax sp w => Sys2Proof.Machine.execPoolMax sp w s
  | .poolWsum sp w => Sys2Proof.Machine.execPoolWsum sp w s
  | .scatter sp w => Sys2Proof.Machine.execScatter sp w s
  | .scatterAdd sp w => Sys2Proof.Machine.execScatterAdd sp w s
  | .updSgd sp w => Sys2Proof.Machine.execUpdSgd sp w s
  | .updAdagrad sp w => Sys2Proof.Machine.execUpdAdagrad sp w s
  | .updAdam sp w => Sys2Proof.Machine.execUpdAdam sp w s
  | .tableWordComplete sp how => Sys2Proof.Machine.execTableWordComplete sp how s
  | .br sp w => Sys2Proof.Machine.execBr sp w s
  | .brr sp w => Sys2Proof.Machine.execBrr sp w s
  | .call sp w => Sys2Proof.Machine.execCall sp w s
  | .callr sp w => Sys2Proof.Machine.execCallr sp w s
  | .loop sp w => Sys2Proof.Machine.execLoop sp w s
  | .halt sp w => Sys2Proof.Machine.execHalt sp w s
  | .fence sp w => Sys2Proof.Machine.execFence sp w s
  | .doorbell sp w => Sys2Proof.Machine.execDoorbell sp w s
  | .wait sp w => Sys2Proof.Machine.execWait sp w s
  | .sync sp w => Sys2Proof.Machine.execSync sp w s
  | .retx sp w => Sys2Proof.Machine.execRetx sp w s
  | .brk sp w => Sys2Proof.Machine.execBrk sp w s
  | .epoch sp w => Sys2Proof.Machine.execEpoch sp w s
  | .rdepoch sp w => Sys2Proof.Machine.execRdepoch sp w s
  | .plyForm m d v => Sys2Proof.Machine.execPlyForm m d v s
  | .plyJoin m d v => Sys2Proof.Machine.execPlyJoin m d v s
  | .plySplit m d v => Sys2Proof.Machine.execPlySplit m d v s
  | .plyDissolve m d v => Sys2Proof.Machine.execPlyDissolve m d v s
  | .plyRun m d v => Sys2Proof.Machine.execPlyRun m d v s
  | .plyHalt m d v => Sys2Proof.Machine.execPlyHalt m d v s
  | .plyStep m d v => Sys2Proof.Machine.execPlyStep m d v s
  | .plyReform m d v => Sys2Proof.Machine.execPlyReform m d v s
  | .plyBadCommand m d v => Sys2Proof.Machine.execPlyBadCommand m d v s
  | .plyCmdComplete d => Sys2Proof.Machine.execPlyCmdComplete d s
  | .plyDoorbellMove sp => Sys2Proof.Machine.execPlyDoorbellMove sp s
  | .plyWordCleared psn mem => Sys2Proof.Machine.execPlyWordCleared psn mem s
  | .plyMemberLost pkg sp => Sys2Proof.Machine.execPlyMemberLost pkg sp s
  | .plyAutoReform psn => Sys2Proof.Machine.execPlyAutoReform psn s
  | .qdPlainAccess m addr len data err poison => Sys2Proof.Machine.execQdPlainAccess m addr len data err poison s
  | .patrolScrubRead addr err => Sys2Proof.Machine.execPatrolScrubRead addr err s
  | .qdCarveWrite m d v => Sys2Proof.Machine.execQdCarveWrite m d v s
  | .qdCfgWrite m d v => Sys2Proof.Machine.execQdCfgWrite m d v s
  | .qdTenWrite m d k v => Sys2Proof.Machine.execQdTenWrite m d k v s
  | .regionLoad m d v => Sys2Proof.Machine.execRegionLoad m d v s
  | .regionLoadDone d => Sys2Proof.Machine.execRegionLoadDone d s
  | .regionUnload m d v => Sys2Proof.Machine.execRegionUnload m d v s
  | .regionUnloadDone d => Sys2Proof.Machine.execRegionUnloadDone d s
  | .regionBadCommand m d v => Sys2Proof.Machine.execRegionBadCommand m d v s
  | .skeinQuiesce m d v => Sys2Proof.Machine.execSkeinQuiesce m d v s
  | .skeinQuiesceDone d => Sys2Proof.Machine.execSkeinQuiesceDone d s
  | .skeinResume m d v => Sys2Proof.Machine.execSkeinResume m d v s
  | .skeinRollback m d v => Sys2Proof.Machine.execSkeinRollback m d v s
  | .skeinRollbackDone d bad => Sys2Proof.Machine.execSkeinRollbackDone d bad s
  | .skeinCommit m d v => Sys2Proof.Machine.execSkeinCommit m d v s
  | .quarryLost d => Sys2Proof.Machine.execQuarryLost d s
  | .partnerLost d => Sys2Proof.Machine.execPartnerLost d s
  | .pcRebuildDone d p => Sys2Proof.Machine.execPcRebuildDone d p s
  | .hbmEyeAdjust d stack pc eyeT eyeV moves => Sys2Proof.Machine.execHbmEyeAdjust d stack pc eyeT eyeV moves s
  | .bankAccess b rs => Sys2Proof.Machine.execBankAccess b rs s
  | .bitAliasWrite b off clear m data ecc => Sys2Proof.Machine.execBitAliasWrite b off clear m data ecc s
  | .cdBnkPwrWrite m sp v => Sys2Proof.Machine.execCdBnkPwrWrite m sp v s
  | .wdBnkPwrWrite m w v => Sys2Proof.Machine.execWdBnkPwrWrite m w v s
  | .bankPowerTransition b => Sys2Proof.Machine.execBankPowerTransition b s
  | .bankWakeDone b => Sys2Proof.Machine.execBankWakeDone b s
  | .mtestBorrow b line done fails pass => Sys2Proof.Machine.execMtestBorrow b line done fails pass s
  | .colrepProgram m w v => Sys2Proof.Machine.execColrepProgram m w v s
  | .colrepDone w blown => Sys2Proof.Machine.execColrepDone w blown s
  | .pcie0Perst => Sys2Proof.Machine.execPcie0Perst s
  | .pcie1Perst => Sys2Proof.Machine.execPcie1Perst s
  | .pcieHotReset port => Sys2Proof.Machine.execPcieHotReset port s
  | .functionLevelReset port link => Sys2Proof.Machine.execFunctionLevelReset port link s
  | .hostLinkTrained port width speed flit => Sys2Proof.Machine.execHostLinkTrained port width speed flit s
  | .hostDmaEnable port c v => Sys2Proof.Machine.execHostDmaEnable port c v s
  | .hostDmaDisable port c v => Sys2Proof.Machine.execHostDmaDisable port c v s
  | .hostDmaHeadWrite port c v => Sys2Proof.Machine.execHostDmaHeadWrite port c v s
  | .hostDmaDescStart port c desc => Sys2Proof.Machine.execHostDmaDescStart port c desc s
  | .hostDmaDescComplete port c data => Sys2Proof.Machine.execHostDmaDescComplete port c data s
  | .hostDmaIdle port c => Sys2Proof.Machine.execHostDmaIdle port c s
  | .cxlPortBringup p x => Sys2Proof.Machine.execCxlPortBringup p x s
  | .cxlLinkDown p => Sys2Proof.Machine.execCxlLinkDown p s
  | .cxlRetrain m p => Sys2Proof.Machine.execCxlRetrain m p s
  | .cxlEventLogPoll p recs => Sys2Proof.Machine.execCxlEventLogPoll p recs s
  | .warpNegotiateStart p => Sys2Proof.Machine.execWarpNegotiateStart p s
  | .warpPagesExchanged p rates versions peerPkg peerPort peerRetired => Sys2Proof.Machine.execWarpPagesExchanged p rates versions peerPkg peerPort peerRetired s
  | .warpTrainingDone p failed => Sys2Proof.Machine.execWarpTrainingDone p failed s
  | .warpEnterActive p => Sys2Proof.Machine.execWarpEnterActive p s
  | .warpLeaveActive p => Sys2Proof.Machine.execWarpLeaveActive p s
  | .warpFlitReceive p x => Sys2Proof.Machine.execWarpFlitReceive p x s
  | .warpNakReceive p ackseq => Sys2Proof.Machine.execWarpNakReceive p ackseq s
  | .warpRetrain p => Sys2Proof.Machine.execWarpRetrain p s
  | .warpPortDown p silent waiting => Sys2Proof.Machine.execWarpPortDown p silent waiting s
  | .warpLaneRetire p l => Sys2Proof.Machine.execWarpLaneRetire p l s
  | .warpPortRetire p => Sys2Proof.Machine.execWarpPortRetire p s
  | .wpRouteWrite m xd k v => Sys2Proof.Machine.execWpRouteWrite m xd k v s
  | .flowRouteHoldEnd pkg => Sys2Proof.Machine.execFlowRouteHoldEnd pkg s
  | .remoteRequestTimeout xd x => Sys2Proof.Machine.execRemoteRequestTimeout xd x s
  | .warpLaneMarginCheck p l syms received eyeH => Sys2Proof.Machine.execWarpLaneMarginCheck p l syms received eyeH s
  | .collGroupLoad m v => Sys2Proof.Machine.execCollGroupLoad m v s
  | .collBroadcast m v => Sys2Proof.Machine.execCollBroadcast m v s
  | .collAllgather m v => Sys2Proof.Machine.execCollAllgather m v s
  | .collAlltoall m v => Sys2Proof.Machine.execCollAlltoall m v s
  | .collReduceScatter m v => Sys2Proof.Machine.execCollReduceScatter m v s
  | .collAllreduce m v => Sys2Proof.Machine.execCollAllreduce m v s
  | .collBegin g same => Sys2Proof.Machine.execCollBegin g same s
  | .collComplete g sent => Sys2Proof.Machine.execCollComplete g sent s
  | .collMemberLost g => Sys2Proof.Machine.execCollMemberLost g s
  | .slackWindowEnd d k least mean stretches mv ma cyc => Sys2Proof.Machine.execSlackWindowEnd d k least mean stretches mv ma cyc s
  | .avsCycle => Sys2Proof.Machine.execAvsCycle s
  | .avsProbeEnd d k => Sys2Proof.Machine.execAvsProbeEnd d k s
  | .pwTwinAvsWrite m d k v same => Sys2Proof.Machine.execPwTwinAvsWrite m d k v same s
  | .timebaseSerialWord d differs => Sys2Proof.Machine.execTimebaseSerialWord d differs s
  | .clockToBackup => Sys2Proof.Machine.execClockToBackup s
  | .clockToCrystal => Sys2Proof.Machine.execClockToCrystal s
  | .backupTrim trim => Sys2Proof.Machine.execBackupTrim trim s
  | .wdTimeAdjWrite m v => Sys2Proof.Machine.execWdTimeAdjWrite m v s
  | .wdTimeStepWrite m v => Sys2Proof.Machine.execWdTimeStepWrite m v s
  | .diodeConversion d k ta tb td bad => Sys2Proof.Machine.execDiodeConversion d k ta tb td bad s
  | .soakEnd => Sys2Proof.Machine.execSoakEnd s
  | .dieIdleBurst d => Sys2Proof.Machine.execDieIdleBurst d s
  | .twinIdleBurst d k => Sys2Proof.Machine.execTwinIdleBurst d k s
  | .powerReferenceCheck a b => Sys2Proof.Machine.execPowerReferenceCheck a b s
  | .meterTrim losses => Sys2Proof.Machine.execMeterTrim losses s
  | .heatBalance => Sys2Proof.Machine.execHeatBalance s
  | .calibrationWrite m k v => Sys2Proof.Machine.execCalibrationWrite m k v s
  | .errorOccurrence cls unit => Sys2Proof.Machine.execErrorOccurrence cls unit s
  | .wdFltThrWrite m c v => Sys2Proof.Machine.execWdFltThrWrite m c v s
  | .faultInject m v => Sys2Proof.Machine.execFaultInject m v s
  | .retirementLogClear m v => Sys2Proof.Machine.execRetirementLogClear m v s
  | .epEnrol m v => Sys2Proof.Machine.execEpEnrol m v s
  | .epRelease m v => Sys2Proof.Machine.execEpRelease m v s
  | .epForceCommit m v => Sys2Proof.Machine.execEpForceCommit m v s
  | .epRollback m v => Sys2Proof.Machine.execEpRollback m v s
  | .epResume m v => Sys2Proof.Machine.execEpResume m v s
  | .epBadCommand m v => Sys2Proof.Machine.execEpBadCommand m v s
  | .epGrpCfgWrite m v => Sys2Proof.Machine.execEpGrpCfgWrite m v s
  | .epochCommit => Sys2Proof.Machine.execEpochCommit s
  | .epochCommitPoint => Sys2Proof.Machine.execEpochCommitPoint s
  | .groupReadyMessage pkg => Sys2Proof.Machine.execGroupReadyMessage pkg s
  | .groupCommitMessage => Sys2Proof.Machine.execGroupCommitMessage s
  | .groupAbortMessage pkg => Sys2Proof.Machine.execGroupAbortMessage pkg s
  | .groupRollbackMessage => Sys2Proof.Machine.execGroupRollbackMessage s
  | .groupMemberTimeout pkg => Sys2Proof.Machine.execGroupMemberTimeout pkg s
  | .rollbackStart => Sys2Proof.Machine.execRollbackStart s
  | .rollbackStopDone => Sys2Proof.Machine.execRollbackStopDone s
  | .rollbackQuarriesDone => Sys2Proof.Machine.execRollbackQuarriesDone s
  | .healthyWrite m w v => Sys2Proof.Machine.execHealthyWrite m w v s
  | .wardenTakeover => Sys2Proof.Machine.execWardenTakeover s
  | .handover m v => Sys2Proof.Machine.execHandover m v s
  | .mirrorCopyDone => Sys2Proof.Machine.execMirrorCopyDone s
  | .watchdogKick m w v => Sys2Proof.Machine.execWatchdogKick m w v s
  | .watchdogExpire w => Sys2Proof.Machine.execWatchdogExpire w s
  | .leakUnlatch m v => Sys2Proof.Machine.execLeakUnlatch m v s
  | .mbOutWrite m pair low off data => Sys2Proof.Machine.execMbOutWrite m pair low off data s
  | .mbPost m pair low => Sys2Proof.Machine.execMbPost m pair low s
  | .mbWait m pair low => Sys2Proof.Machine.execMbWait m pair low s
  | .mbPostWait m pair low => Sys2Proof.Machine.execMbPostWait m pair low s
  | .mbResetIn m pair low => Sys2Proof.Machine.execMbResetIn m pair low s
  | .mbAck m pair low x => Sys2Proof.Machine.execMbAck m pair low x s
  | .mbDbOutWrite m pair low x => Sys2Proof.Machine.execMbDbOutWrite m pair low x s
  | .wdDiePhaseWrite m d v => Sys2Proof.Machine.execWdDiePhaseWrite m d v s
  | .lockRead m n => Sys2Proof.Machine.execLockRead m n s
  | .lockWrite m n => Sys2Proof.Machine.execLockWrite m n s
  | .lkForce m v => Sys2Proof.Machine.execLkForce m v s
  | .eventRecord code sev unit payload => Sys2Proof.Machine.execEventRecord code sev unit payload s
  | .recorderClear m v => Sys2Proof.Machine.execRecorderClear m v s
  | .evLimitWrite m n v => Sys2Proof.Machine.execEvLimitWrite m n v s
  | .presenceButton rested => Sys2Proof.Machine.execPresenceButton rested s
  | .buttonWindowEnd => Sys2Proof.Machine.execButtonWindowEnd s
  | .buttonStuck => Sys2Proof.Machine.execButtonStuck s
  | .sealLoopChange reading => Sys2Proof.Machine.execSealLoopChange reading s
  | .fuseProgram m w v => Sys2Proof.Machine.execFuseProgram m w v s
  | .fuseProgramDone w reads => Sys2Proof.Machine.execFuseProgramDone w reads s
  | .policyCycle r => Sys2Proof.Machine.execPolicyCycle r s
  | .thOrderHostWrite m v => Sys2Proof.Machine.execThOrderHostWrite m v s
  | .drainTimerEnd => Sys2Proof.Machine.execDrainTimerEnd s
  | .flowLossDetect n x y => Sys2Proof.Machine.execFlowLossDetect n x y s
  | .flowRestored => Sys2Proof.Machine.execFlowRestored s
  | .rampStep => Sys2Proof.Machine.execRampStep s
  | .pumpHoldEnd => Sys2Proof.Machine.execPumpHoldEnd s
  | .flowLossShutdown => Sys2Proof.Machine.execFlowLossShutdown s
  | .leakLoopSample k off r1 r2 => Sys2Proof.Machine.execLeakLoopSample k off r1 r2 s
  | .leakConfirm k => Sys2Proof.Machine.execLeakConfirm k s
  | .leakActuatorStop => Sys2Proof.Machine.execLeakActuatorStop s
  | .junctionTrip d k => Sys2Proof.Machine.execJunctionTrip d k s
  | .outletTrip n => Sys2Proof.Machine.execOutletTrip n s
  | .thTenmapWrite m d half v => Sys2Proof.Machine.execThTenmapWrite m d half v s
  | .thTenShareWrite m t v => Sys2Proof.Machine.execThTenShareWrite m t v s
  | .emergIn => Sys2Proof.Machine.execEmergIn s
  | .emergHoldClear => Sys2Proof.Machine.execEmergHoldClear s
  | .emergDriveEnd => Sys2Proof.Machine.execEmergDriveEnd s
  | .curveApply m v => Sys2Proof.Machine.execCurveApply m v s
  | .policyRegisterWrite m off v => Sys2Proof.Machine.execPolicyRegisterWrite m off v s
  | .loopSample w k => Sys2Proof.Machine.execLoopSample w k s
  | .loopSwap m k v => Sys2Proof.Machine.execLoopSwap m k v s
  | .loopModeWrite m k v => Sys2Proof.Machine.execLoopModeWrite m k v s
  | .loopClrFault m k v => Sys2Proof.Machine.execLoopClrFault m k v s
  | .loopSetWrite m k set part v => Sys2Proof.Machine.execLoopSetWrite m k set part v s
  | .tsgStart m v => Sys2Proof.Machine.execTsgStart m v s
  | .tsgStop m v => Sys2Proof.Machine.execTsgStop m v s
  | .captureStart m v => Sys2Proof.Machine.execCaptureStart m v s
  | .captureStop m v => Sys2Proof.Machine.execCaptureStop m v s
  | .solenoidOn m c v => Sys2Proof.Machine.execSolenoidOn m c v s
  | .solenoidOff m c v => Sys2Proof.Machine.execSolenoidOff m c v s
  | .solenoidPeakStart c => Sys2Proof.Machine.execSolenoidPeakStart c s
  | .solenoidPeakReached c us => Sys2Proof.Machine.execSolenoidPeakReached c us s
  | .solenoidTtpTimeout c => Sys2Proof.Machine.execSolenoidTtpTimeout c s
  | .solenoidDip c us => Sys2Proof.Machine.execSolenoidDip c us s
  | .solenoidPeakEnd c => Sys2Proof.Machine.execSolenoidPeakEnd c s
  | .solenoidRetryWaitEnd c => Sys2Proof.Machine.execSolenoidRetryWaitEnd c s
  | .solenoidHoldEnd c => Sys2Proof.Machine.execSolenoidHoldEnd c s
  | .solenoidRecoverEnd c late => Sys2Proof.Machine.execSolenoidRecoverEnd c late s
  | .coilOvercurrent c ma => Sys2Proof.Machine.execCoilOvercurrent c ma s
  | .coilOpenLoad c ma => Sys2Proof.Machine.execCoilOpenLoad c ma s
  | .boostWaitTimeout => Sys2Proof.Machine.execBoostWaitTimeout s
  | .boostRecharged => Sys2Proof.Machine.execBoostRecharged s
  | .tachSilence c ma => Sys2Proof.Machine.execTachSilence c ma s
  | .fanSlow c us => Sys2Proof.Machine.execFanSlow c us s
  | .spinupAttemptEnd c us ma => Sys2Proof.Machine.execSpinupAttemptEnd c us ma s
  | .spinupPauseEnd c => Sys2Proof.Machine.execSpinupPauseEnd c s
  | .blockedRetry c => Sys2Proof.Machine.execBlockedRetry c s
  | .canFrameReceive w f => Sys2Proof.Machine.execCanFrameReceive w f s
  | .rxBufferRead m w b off => Sys2Proof.Machine.execRxBufferRead m w b off s
  | .txRequest m w b => Sys2Proof.Machine.execTxRequest m w b s
  | .txAbort m w b => Sys2Proof.Machine.execTxAbort m w b s
  | .txAttemptStart w => Sys2Proof.Machine.execTxAttemptStart w s
  | .txAttemptEnd w e => Sys2Proof.Machine.execTxAttemptEnd w e s
  | .txLifetimeEnd w b => Sys2Proof.Machine.execTxLifetimeEnd w b s
  | .canRecover m w => Sys2Proof.Machine.execCanRecover m w s
  | .busOffAutoRecover => Sys2Proof.Machine.execBusOffAutoRecover s
  | .busOffRecoveryDone w => Sys2Proof.Machine.execBusOffRecoveryDone w s
  | .tbModeWrite m w v => Sys2Proof.Machine.execTbModeWrite m w v s
  | .canIntegrationDone w => Sys2Proof.Machine.execCanIntegrationDone w s
  | .autorate m w => Sys2Proof.Machine.execAutorate m w s
  | .autorateCandidateTimeout w => Sys2Proof.Machine.execAutorateCandidateTimeout w s
  | .tbTimingWrite m w phase v => Sys2Proof.Machine.execTbTimingWrite m w phase v s
  | .powerOrder b => Sys2Proof.Machine.execPowerOrder b s
  | .powerOrderExpire => Sys2Proof.Machine.execPowerOrderExpire s
  | .statusRequest b => Sys2Proof.Machine.execStatusRequest b s
  | .statusPeriodic => Sys2Proof.Machine.execStatusPeriodic s
  | .emergencyReceive b => Sys2Proof.Machine.execEmergencyReceive b s
  | .eventForward => Sys2Proof.Machine.execEventForward s
  | .pkgReset => Sys2Proof.Machine.execPkgReset s
  | .wdr w cause => Sys2Proof.Machine.execWdr w cause s
  | .dieReset d cause => Sys2Proof.Machine.execDieReset d cause s
  | .dieResetEnd d => Sys2Proof.Machine.execDieResetEnd d s
  | .spnReset d ph done => Sys2Proof.Machine.execSpnReset d ph done s
  | .portReset unit cause => Sys2Proof.Machine.execPortReset unit cause s
  | .wdRstCmd m v => Sys2Proof.Machine.execWdRstCmd m v s
  | .bringupStepComplete slow failed => Sys2Proof.Machine.execBringupStepComplete slow failed s
  | .flowProofLongWait => Sys2Proof.Machine.execFlowProofLongWait s
  | .wdDiePwrWrite m d v => Sys2Proof.Machine.execWdDiePwrWrite m d v s
  | .diePowerChangeDone d slow failed => Sys2Proof.Machine.execDiePowerChangeDone d slow failed s
  | .orderedShutdownStart => Sys2Proof.Machine.execOrderedShutdownStart s
  | .orderedShutdownStep => Sys2Proof.Machine.execOrderedShutdownStep s
  | .pwrfailAssert => Sys2Proof.Machine.execPwrfailAssert s
  | .powerFailSaveDone good => Sys2Proof.Machine.execPowerFailSaveDone good s
  | .pwrfailDeassert => Sys2Proof.Machine.execPwrfailDeassert s
  | .saveAreaEraseDone => Sys2Proof.Machine.execSaveAreaEraseDone s
  | .flashProgram m v => Sys2Proof.Machine.execFlashProgram m v s
  | .flashProgramDone good => Sys2Proof.Machine.execFlashProgramDone good s
  | .leakRecordWriteDone => Sys2Proof.Machine.execLeakRecordWriteDone s
  | .vstbyOutFoldback => Sys2Proof.Machine.execVstbyOutFoldback s
  | .vstbyOutRecovered => Sys2Proof.Machine.execVstbyOutRecovered s
  | .bscanInstruction drives => Sys2Proof.Machine.execBscanInstruction drives s
  | .powerOnReset slots jumper pwrfail => Sys2Proof.Machine.execPowerOnReset slots jumper pwrfail s
  | .vstbyDown => Sys2Proof.Machine.execVstbyDown s
  | .perstNDeassert port => Sys2Proof.Machine.execPerstNDeassert port s
  | .hostConfigRequest port => Sys2Proof.Machine.execHostConfigRequest port s
  | .canBusError w e brs => Sys2Proof.Machine.execCanBusError w e brs s
  | .stackTemperatureReadout d stack temp => Sys2Proof.Machine.execStackTemperatureReadout d stack temp s
  | .solenoidDeferLimit c => Sys2Proof.Machine.execSolenoidDeferLimit c s

end Sys2Proof.Machine
end

