-- ==== Sys2Proof/WellFormed.lean ====
section
/-! DEFINITION. Well-formed commands: the unit a command names is one the block has, and its operands fit the
unit. A command that is not well-formed does not exist; `exec` stops on it with the fault noSuchUnit. -/

namespace Sys2Proof

open Sys2Proof.Machine in
/-- The command names a unit the block has, with operands that fit it. -/
def Instr.wf : Instr → Bool
  | .registerWrite _ addr _ _ => decide (addr < 2 ^ 64)
  | .meshFlitReceive d link x => d < 64 && link < 4 && meshFits x
  | .routeHoldEnd d => decide (d < 64)
  | .meshStopRailTrip d => hasRails d
  | .dieOvercurrentTrip d => hasRails d
  | .pwDieIsoWrite _ d _ => decide (d < 64)
  | .pwTwinCtlWrite _ d k _ _ => isTwin d k
  | .twinIlimEntry d k _ => d < 48 && k < 17
  | .railCapRecompute _ _ _ => true
  | .busConverterFail n => decide (n < 16)
  | .vinUndervoltage => true
  | .vinOvervoltage => true
  | .vinBackInBand => true
  | .hiBar2BaseWrite port _ => isHostPort port
  | .hiPkgNumWrite port _ => isHostPort port
  | .bar4DoorbellWrite port off _ => isHostPort port && decide (off < 0x4000)
  | .hostMemoryRequest port _ _ _ _ => isHostPort port
  | .doorbellSetArrive _ sp _ => decide (sp < nSpindles)
  | .waitTimeout sp => decide (sp < nSpindles)
  | .timerCompare sp => decide (sp < nSpindles)
  | .writeRefusalNotice sp _ => decide (sp < nSpindles)
  | .wordIssue sp => decide (sp < nSpindles)
  | .wordComplete sp _ => decide (sp < nSpindles)
  | .exceptionTaken sp => decide (sp < nSpindles)
  | .interruptTaken sp => decide (sp < nSpindles)
  | .spnRun _ sp => decide (sp < nSpindles)
  | .spnHaltRequest _ sp => decide (sp < nSpindles)
  | .spnStep _ sp => decide (sp < nSpindles)
  | .spindleHalted sp => decide (sp < nSpindles)
  | .stateViewAccess _ sp off _ _ => decide (sp < nSpindles) && decide (off < 0x100000)
  | .sWord sp _ => decide (sp < nSpindles)
  | .mma sp _ => decide (sp < nSpindles)
  | .mms sp _ => decide (sp < nSpindles)
  | .macc sp _ => decide (sp < nSpindles)
  | .mclr sp _ => decide (sp < nSpindles)
  | .mrd sp _ => decide (sp < nSpindles)
  | .mrdc sp _ => decide (sp < nSpindles)
  | .mflag sp _ => decide (sp < nSpindles)
  | .tadd sp _ => decide (sp < nSpindles)
  | .tsub sp _ => decide (sp < nSpindles)
  | .tmul sp _ => decide (sp < nSpindles)
  | .tdiv sp _ => decide (sp < nSpindles)
  | .tfma sp _ => decide (sp < nSpindles)
  | .tmin sp _ => decide (sp < nSpindles)
  | .tmax sp _ => decide (sp < nSpindles)
  | .tabs sp _ => decide (sp < nSpindles)
  | .tadds sp _ => decide (sp < nSpindles)
  | .tmuls sp _ => decide (sp < nSpindles)
  | .tscl2 sp _ => decide (sp < nSpindles)
  | .trelu sp _ => decide (sp < nSpindles)
  | .tgelu sp _ => decide (sp < nSpindles)
  | .tsigm sp _ => decide (sp < nSpindles)
  | .ttanh sp _ => decide (sp < nSpindles)
  | .texp sp _ => decide (sp < nSpindles)
  | .tlog sp _ => decide (sp < nSpindles)
  | .tsqrt sp _ => decide (sp < nSpindles)
  | .trsqrt sp _ => decide (sp < nSpindles)
  | .trecip sp _ => decide (sp < nSpindles)
  | .tcgt sp _ => decide (sp < nSpindles)
  | .tceq sp _ => decide (sp < nSpindles)
  | .tsel sp _ => decide (sp < nSpindles)
  | .tcopy sp _ => decide (sp < nSpindles)
  | .ttrans sp _ => decide (sp < nSpindles)
  | .tcvt sp _ => decide (sp < nSpindles)
  | .tfill sp _ => decide (sp < nSpindles)
  | .tbcast sp _ => decide (sp < nSpindles)
  | .tget sp _ => decide (sp < nSpindles)
  | .tput sp _ => decide (sp < nSpindles)
  | .tzero sp _ => decide (sp < nSpindles)
  | .ldt sp _ => decide (sp < nSpindles)
  | .stt sp _ => decide (sp < nSpindles)
  | .dma sp _ => decide (sp < nSpindles)
  | .dmaf sp _ => decide (sp < nSpindles)
  | .gather sp _ => decide (sp < nSpindles)
  | .poolSum sp _ => decide (sp < nSpindles)
  | .poolMean sp _ => decide (sp < nSpindles)
  | .poolMax sp _ => decide (sp < nSpindles)
  | .poolWsum sp _ => decide (sp < nSpindles)
  | .scatter sp _ => decide (sp < nSpindles)
  | .scatterAdd sp _ => decide (sp < nSpindles)
  | .updSgd sp _ => decide (sp < nSpindles)
  | .updAdagrad sp _ => decide (sp < nSpindles)
  | .updAdam sp _ => decide (sp < nSpindles)
  | .tableWordComplete sp _ => decide (sp < nSpindles)
  | .br sp _ => decide (sp < nSpindles)
  | .brr sp _ => decide (sp < nSpindles)
  | .call sp _ => decide (sp < nSpindles)
  | .callr sp _ => decide (sp < nSpindles)
  | .loop sp _ => decide (sp < nSpindles)
  | .halt sp _ => decide (sp < nSpindles)
  | .fence sp _ => decide (sp < nSpindles)
  | .doorbell sp _ => decide (sp < nSpindles)
  | .wait sp _ => decide (sp < nSpindles)
  | .sync sp _ => decide (sp < nSpindles)
  | .retx sp _ => decide (sp < nSpindles)
  | .brk sp _ => decide (sp < nSpindles)
  | .epoch sp _ => decide (sp < nSpindles)
  | .rdepoch sp _ => decide (sp < nSpindles)
  | .plyForm _ d _ => decide (d < nCompute)
  | .plyJoin _ d _ => decide (d < nCompute)
  | .plySplit _ d _ => decide (d < nCompute)
  | .plyDissolve _ d _ => decide (d < nCompute)
  | .plyRun _ d _ => decide (d < nCompute)
  | .plyHalt _ d _ => decide (d < nCompute)
  | .plyStep _ d _ => decide (d < nCompute)
  | .plyReform _ d _ => decide (d < nCompute)
  | .plyBadCommand _ d _ => decide (d < nCompute)
  | .plyCmdComplete d => decide (d < nCompute)
  | .plyDoorbellMove sp => decide (sp < nSpindles)
  | .plyWordCleared psn _ => decide (psn < nSpindles)
  | .plyMemberLost pkg sp => decide (pkg < 4096) && decide (sp < nSpindles)
  | .plyAutoReform psn => decide (psn < nSpindles)
  | .qdPlainAccess _ _ _ _ _ _ => true
  | .patrolScrubRead addr _ => decide (addr < 0x12000000000)
  | .qdCarveWrite _ d _ => isQuarry d
  | .qdCfgWrite _ d _ => isQuarry d
  | .qdTenWrite _ d k _ => isQuarry d && k < 8
  | .regionLoad _ d _ => isQuarry d
  | .regionLoadDone d => isQuarry d
  | .regionUnload _ d _ => isQuarry d
  | .regionUnloadDone d => isQuarry d
  | .regionBadCommand _ d _ => isQuarry d
  | .skeinQuiesce _ d _ => isQuarry d
  | .skeinQuiesceDone d => isQuarry d
  | .skeinResume _ d _ => isQuarry d
  | .skeinRollback _ d _ => isQuarry d
  | .skeinRollbackDone d _ => isQuarry d
  | .skeinCommit _ d _ => isQuarry d
  | .quarryLost d => isQuarry d
  | .partnerLost d => isQuarry d
  | .pcRebuildDone d p => isQuarry d && p < 128
  | .hbmEyeAdjust d stack pc _ _ _ => decide (48 ≤ d) && decide (d < 56) && decide (stack < 4) && decide (pc < 32)
  | .bankAccess b rs => b.ok && rs.all (reqOk b)
  | .bitAliasWrite b off clear m data ecc => b.ok && reqOk b (aliasReq b off clear m data ecc)
  | .cdBnkPwrWrite _ sp _ => decide (sp < nSpindles)
  | .wdBnkPwrWrite _ w _ => decide (w < 2)
  | .bankPowerTransition b => b.ok
  | .bankWakeDone b => b.ok
  | .mtestBorrow b line _ fails _ => b.ok && line / (b.size / 256) == b.num && fails.all fun x => decide (x.1 < 32) && decide (x.2 < 72)
  | .colrepProgram _ w _ => 62 ≤ w && w < 64
  | .colrepDone w _ => 62 ≤ w && w < 64
  | .pcie0Perst => true
  | .pcie1Perst => true
  | .pcieHotReset port => isHostPort port
  | .functionLevelReset port _ => isHostPort port
  | .hostLinkTrained port _ _ _ => isHostPort port
  | .hostDmaEnable port c _ => isHostPort port && c < 4
  | .hostDmaDisable port c _ => isHostPort port && c < 4
  | .hostDmaHeadWrite port c _ => isHostPort port && c < 4
  | .hostDmaDescStart port c _ => isHostPort port && c < 4
  | .hostDmaDescComplete port c _ => isHostPort port && c < 4
  | .hostDmaIdle port c => isHostPort port && c < 4
  | .cxlPortBringup p _ => isCxlPort p
  | .cxlLinkDown p => isCxlPort p
  | .cxlRetrain _ p => isCxlPort p
  | .cxlEventLogPoll p _ => isCxlPort p
  | .warpNegotiateStart p => isWarpPort p
  | .warpPagesExchanged p _ _ _ _ _ => isWarpPort p
  | .warpTrainingDone p _ => isWarpPort p
  | .warpEnterActive p => isWarpPort p
  | .warpLeaveActive p => isWarpPort p
  | .warpFlitReceive p _ => isWarpPort p
  | .warpNakReceive p _ => isWarpPort p
  | .warpRetrain p => isWarpPort p
  | .warpPortDown p _ _ => isWarpPort p
  | .warpLaneRetire p l => isWarpPort p && l < 8
  | .warpPortRetire p => isWarpPort p
  | .wpRouteWrite _ xd k _ => xd < 4 && k < 4096
  | .flowRouteHoldEnd pkg => decide (pkg < 4096)
  | .remoteRequestTimeout xd x => xd < 4 && waiterOk x
  | .warpLaneMarginCheck p l _ _ _ => decide (p < 16) && decide (l < 8)
  | .collGroupLoad _ _ => true
  | .collBroadcast _ _ => true
  | .collAllgather _ _ => true
  | .collAlltoall _ _ => true
  | .collReduceScatter _ _ => true
  | .collAllreduce _ _ => true
  | .collBegin g _ => decide (g < 16)
  | .collComplete g _ => decide (g < 16)
  | .collMemberLost g => decide (g < 16)
  | .slackWindowEnd d k _ _ _ _ _ _ => (decide (d < 64) && (k == 17 || k == 18)) || isTwin d k
  | .avsCycle => true
  | .avsProbeEnd d k => isTwin d k
  | .pwTwinAvsWrite _ d k _ _ => isTwin d k
  | .timebaseSerialWord d _ => decide (d < 64)
  | .clockToBackup => true
  | .clockToCrystal => true
  | .backupTrim _ => true
  | .wdTimeAdjWrite _ _ => true
  | .wdTimeStepWrite _ _ => true
  | .diodeConversion d k _ _ _ _ => isDiodePair d k
  | .soakEnd => true
  | .dieIdleBurst d => decide (d < 64)
  | .twinIdleBurst d k => isTwin d k
  | .powerReferenceCheck _ _ => true
  | .meterTrim _ => true
  | .heatBalance => true
  | .calibrationWrite _ k _ => decide (k < 67)
  | .errorOccurrence cls unit => cls < 32 && unit < 65536
  | .wdFltThrWrite _ c _ => decide (c < 32)
  | .faultInject _ _ => true
  | .retirementLogClear _ _ => true
  | .epEnrol _ _ => true
  | .epRelease _ _ => true
  | .epForceCommit _ _ => true
  | .epRollback _ _ => true
  | .epResume _ _ => true
  | .epBadCommand _ _ => true
  | .epGrpCfgWrite _ _ => true
  | .epochCommit => true
  | .epochCommitPoint => true
  | .groupReadyMessage pkg => decide (pkg < 4096)
  | .groupCommitMessage => true
  | .groupAbortMessage pkg => decide (pkg < 4096)
  | .groupRollbackMessage => true
  | .groupMemberTimeout pkg => decide (pkg < 4096)
  | .rollbackStart => true
  | .rollbackStopDone => true
  | .rollbackQuarriesDone => true
  | .healthyWrite _ w _ => decide (w < 2)
  | .wardenTakeover => true
  | .handover _ _ => true
  | .mirrorCopyDone => true
  | .watchdogKick _ w _ => decide (w < 2)
  | .watchdogExpire w => decide (w < 2)
  | .leakUnlatch _ _ => true
  | .mbOutWrite _ pair _ _ _ => isPair pair
  | .mbPost _ pair _ => isPair pair
  | .mbWait _ pair _ => isPair pair
  | .mbPostWait _ pair _ => isPair pair
  | .mbResetIn _ pair _ => isPair pair
  | .mbAck _ pair _ _ => isPair pair
  | .mbDbOutWrite _ pair _ _ => isPair pair
  | .wdDiePhaseWrite _ d _ => decide (d < 64)
  | .lockRead _ n => decide (n < 64)
  | .lockWrite _ n => decide (n < 64)
  | .lkForce _ _ => true
  | .eventRecord code sev unit _ => code < 65536 && sev < 4 && unit < 65536
  | .recorderClear _ _ => true
  | .evLimitWrite _ n _ => decide (n < 1024)
  | .presenceButton _ => true
  | .buttonWindowEnd => true
  | .buttonStuck => true
  | .sealLoopChange reading => decide (reading < 3)
  | .fuseProgram _ w _ => decide (w < 2)
  | .fuseProgramDone w _ => decide (w < 2)
  | .policyCycle _ => true
  | .thOrderHostWrite _ _ => true
  | .drainTimerEnd => true
  | .flowLossDetect n _ _ => decide (n < 2)
  | .flowRestored => true
  | .rampStep => true
  | .pumpHoldEnd => true
  | .flowLossShutdown => true
  | .leakLoopSample k _ _ _ => decide (k < 4)
  | .leakConfirm k => decide (k < 4)
  | .leakActuatorStop => true
  | .junctionTrip d k => isDiodePair d k
  | .outletTrip n => n == 1 || n == 3
  | .thTenmapWrite _ d half _ => d < 48 && half < 2
  | .thTenShareWrite _ t _ => decide (t < 8)
  | .emergIn => true
  | .emergHoldClear => true
  | .emergDriveEnd => true
  | .curveApply _ _ => true
  | .policyRegisterWrite _ off _ => (policyReg off).isSome
  | .loopSample w k => decide (w < 2) && decide (k < 16)
  | .loopSwap _ k _ => decide (k < 16)
  | .loopModeWrite _ k _ => decide (k < 16)
  | .loopClrFault _ k _ => decide (k < 16)
  | .loopSetWrite _ k set part _ => decide (k < 16) && decide (set < 2) && decide (part < 4)
  | .tsgStart _ _ => true
  | .tsgStop _ _ => true
  | .captureStart _ _ => true
  | .captureStop _ _ => true
  | .solenoidOn _ c _ => decide (c < 4)
  | .solenoidOff _ c _ => decide (c < 4)
  | .solenoidPeakStart c => decide (c < 4)
  | .solenoidPeakReached c _ => decide (c < 4)
  | .solenoidTtpTimeout c => decide (c < 4)
  | .solenoidDip c _ => decide (c < 4)
  | .solenoidPeakEnd c => decide (c < 4)
  | .solenoidRetryWaitEnd c => decide (c < 4)
  | .solenoidHoldEnd c => decide (c < 4)
  | .solenoidRecoverEnd c _ => decide (c < 4)
  | .coilOvercurrent c _ => decide (c < 4)
  | .coilOpenLoad c _ => decide (c < 4)
  | .boostWaitTimeout => true
  | .boostRecharged => true
  | .tachSilence c _ => decide (c < 6)
  | .fanSlow c _ => decide (c < 6)
  | .spinupAttemptEnd c _ _ => decide (c < 6)
  | .spinupPauseEnd c => decide (c < 6)
  | .blockedRetry c => decide (c < 6)
  | .canFrameReceive w _ => decide (w < 2)
  | .rxBufferRead _ w b off => decide (w < 2) && decide (b < 32) && decide (off < 0x50) && off % 4 == 0
  | .txRequest _ w b => decide (w < 2) && decide (b < 32)
  | .txAbort _ w b => decide (w < 2) && decide (b < 32)
  | .txAttemptStart w => decide (w < 2)
  | .txAttemptEnd w _ => decide (w < 2)
  | .txLifetimeEnd w b => decide (w < 2) && decide (b < 32)
  | .canRecover _ w => decide (w < 2)
  | .busOffAutoRecover => true
  | .busOffRecoveryDone w => decide (w < 2)
  | .tbModeWrite _ w _ => decide (w < 2)
  | .canIntegrationDone w => decide (w < 2)
  | .autorate _ w => decide (w < 2)
  | .autorateCandidateTimeout w => decide (w < 2)
  | .tbTimingWrite _ w _ _ => decide (w < 2)
  | .powerOrder b => decide (b < 32)
  | .powerOrderExpire => true
  | .statusRequest b => decide (b < 32)
  | .statusPeriodic => true
  | .emergencyReceive b => decide (b < 32)
  | .eventForward => true
  | .pkgReset => true
  | .wdr w cause => w < 2 && [0, 2, 3].contains cause
  | .dieReset d cause => hasRails d && [0, 4].contains cause
  | .dieResetEnd d => hasRails d
  | .spnReset d ph _ => d < 48 && ph < 34
  | .portReset unit cause => (portOf unit).isSome && [0, 1, 5].contains cause
  | .wdRstCmd _ _ => true
  | .bringupStepComplete _ _ => true
  | .flowProofLongWait => true
  | .wdDiePwrWrite _ d _ => hasRails d
  | .diePowerChangeDone d _ _ => hasRails d
  | .orderedShutdownStart => true
  | .orderedShutdownStep => true
  | .pwrfailAssert => true
  | .powerFailSaveDone _ => true
  | .pwrfailDeassert => true
  | .saveAreaEraseDone => true
  | .flashProgram _ _ => true
  | .flashProgramDone _ => true
  | .leakRecordWriteDone => true
  | .vstbyOutFoldback => true
  | .vstbyOutRecovered => true
  | .bscanInstruction _ => true
  | .powerOnReset slots _ _ => decide (slots < 64)
  | .vstbyDown => true
  | .perstNDeassert port => isHostPort port
  | .hostConfigRequest port => isHostPort port
  | .canBusError w _ _ => decide (w < 2)
  | .stackTemperatureReadout d stack _ => decide (48 ≤ d) && decide (d < 56) && decide (stack < 4)
  | .solenoidDeferLimit c => decide (c < 4)

end Sys2Proof
end

