-- ==== Sys2Proof/Safety.lean ====
section
/-! DEFINITION. What claims about the block are stated in: a command that completes, what it may change (its
frame), and the invariants a step keeps. -/

namespace Sys2Proof.Machine

/-- The command is answered by a next state, of which `P` holds. -/
def Completes (i : Instr) (s : State) (P : State → Prop) : Prop := ∃ t, exec i s = .next t ∧ P t

/-- One more occurrence of a class at a unit is only counted or reported: it retires nothing and stops nothing (R343,
R344), for its tally stays within the class's threshold, or the class's ACTION is to report, or the unit is retired. -/
def State.countsOnly (s : State) (cls u : Nat) : Bool :=
  let old := sget (0, 0) s.sticky.tallies (u * 32 + cls)
  s.isRetired u || decide (old.1 + 1 ≤ s.wfld fWD_FLT_THR_COUNT cls) || s.wfld fWD_FLT_THR_ACTION cls == 0

/-- The entry that limits a code lets its next record through (R407). -/
def State.admits (s : State) (code : Nat) : Bool :=
  let e := s.limitEntry code
  let rate := s.wfld fEV_LIMIT0_RATE e
  !(rate == 0 || decide (s.wfld fEV_LIMIT0_BURST e * tokenUnit <
    s.lat .evDeficit 0 e - (s.now - s.lat .evLast 0 e) * rate + tokenUnit))

/-- A tally's new count: it begins again with its window (R343, R344). -/
def State.nextTally (s : State) (cls u : Nat) : Nat :=
  let old := sget (0, 0) s.sticky.tallies (u * 32 + cls)
  if old.1 = 0 ∨ s.wfld fWD_FLT_THR_WINDOW_MS cls = 0 ∨ s.wfld fWD_FLT_THR_WINDOW_MS cls * 1000000 < s.now - old.2 then 1
  else old.1 + 1

/-- The members a GROUP_LOAD reads at its SRC (R302). -/
def State.listRead (s : State) (j : CollJob) : List Nat :=
  (List.range j.count).map fun k => leValue (((s.ownRead 56 j.src (4 * j.count)).2.1.drop (4 * k)).take 4)

/-- What a collective reads at this member's SRC. -/
def State.srcRead (s : State) (j : CollJob) : Status × List Byte × State :=
  s.moveRead asEngine (s.pkg * 2 ^ 52 + j.src) (j.srcLen (s.collGroup j.group).length)

/-- The bytes each member of a collective sends here, in member order (Table LNK-20). -/
def State.partsOf (s : State) (j : CollJob) (sent : List (List Byte)) : List (List Byte) :=
  let ms := s.collGroup j.group
  (List.range ms.length).map fun i => padTo (j.count * collSize j.fin)
    (if i = ms.idxOf s.pkg then j.ownPart (ms.idxOf s.pkg) (s.srcRead j).2.1 else (sent[i]?).getD [])

/-- What a collective writes at this member's DST. -/
def State.dstWrite (s : State) (j : CollJob) (sent : List (List Byte)) : Status × State :=
  (s.srcRead j).2.2.moveWrite asEngine (s.pkg * 2 ^ 52 + j.dst) (j.result ((s.collGroup j.group).idxOf s.pkg) (s.partsOf j sent))

/-- The places of the state a command may change; everything not named is kept. Registers and latches are named
by name, die and index, memory by package address, architectural state by package spindle number, skeins by die. -/
structure Change where
  regs : Reg → Nat → Nat → Bool := fun _ _ _ => false
  lats : Lat → Nat → Nat → Bool := fun _ _ _ => false
  mem : Nat → Bool := fun _ => false
  spins : Nat → Bool := fun _ => false
  skeins : Nat → Bool := fun _ => false
  plies : Bool := false
  records : Bool := false
  tallies : Bool := false
  retired : Bool := false
  pairs : Bool := false
  flash : Bool := false
  losses : Bool := false
  dma : Bool := false
  coll : Bool := false
  reply : Bool := false
  free : Bool := false
  mesh : Bool := false
  plyRuns : Bool := false
  flaws : Bool := false
  waits : Bool := false
  heat : Bool := false

/-- One register. -/
def theReg (r : Reg) (d i : Nat) : Reg → Nat → Nat → Bool := fun r' d' i' =>
  decide (r' = r) && decide (regHome r d' = regHome r d) && decide (i' = i)

/-- Any register of some names. -/
def regsOf (l : List Reg) : Reg → Nat → Nat → Bool := fun r _ _ => l.contains r

/-- The registers of some names of one die. -/
def regsAt (l : List Reg) (d : Nat) : Reg → Nat → Nat → Bool := fun r d' _ =>
  l.contains r && decide (regHome r d' = regHome r d)

/-- The registers of some names of one instance. -/
def regsIn (l : List Reg) (d i : Nat) : Reg → Nat → Nat → Bool := fun r d' i' =>
  l.contains r && decide (regHome r d' = regHome r d) && decide (i' = i)

/-- The registers of either of two choices. -/
def orReg (f g : Reg → Nat → Nat → Bool) : Reg → Nat → Nat → Bool := fun r d i => f r d i || g r d i

/-- The registers of some names of one instance, in every die. -/
def regsAll (l : List Reg) (i : Nat) : Reg → Nat → Nat → Bool := fun r _ i' => l.contains r && decide (i' = i)

/-- One latch. -/
def theLat (l : Lat) (d i : Nat) : Lat → Nat → Nat → Bool := fun l' d' i' =>
  decide (l' = l) && decide (d' = d) && decide (i' = i)

/-- Any latch of some names. -/
def latsOf (ls : List Lat) : Lat → Nat → Nat → Bool := fun l _ _ => ls.contains l

/-- The latches of either of two choices. -/
def orLat (f g : Lat → Nat → Nat → Bool) : Lat → Nat → Nat → Bool := fun l d i => f l d i || g l d i

/-- A stretch of memory. -/
def span (a n : Nat) : Nat → Bool := fun x => decide (a ≤ x) && decide (x < a + n)

/-- The registers the recorder and its interrupt to the host change (R396, R407, R408). -/
def recorderRegs : List Reg := [.EV_STAT, .EV_LIMIT1, .HI_MSIX_PBA]

/-- The latches of the recorder and of the interrupt to the host. -/
def recorderLats : List Lat := [.evDeficit, .evLast, .evSkipped, .msixSent]

/-- The recorder may change as well: an event is recorded, and the host may be told (R396, R407, R408). -/
def Change.recording (c : Change) : Change :=
  { c with
    regs := orReg c.regs (regsOf recorderRegs)
    lats := orLat c.lats (latsOf recorderLats)
    records := true
    pairs := true }

/-- The frame: between two states nothing changed but what is named, and the queue of commands is as it was. -/
def Only (c : Change) (s t : State) : Prop :=
  (∀ r d i, c.regs r d i = false → t.reg r d i = s.reg r d i) ∧
  (∀ l d i, c.lats l d i = false → t.lat l d i = s.lat l d i) ∧
  (∀ a, c.mem a = false → t.byte a = s.byte a) ∧
  (∀ k, c.spins k = false → t.spin k = s.spin k) ∧
  (∀ d, c.skeins d = false → t.skein d = s.skein d) ∧
  (c.plies = false → t.plies = s.plies) ∧
  (c.records = false → t.stickyA.records = s.stickyA.records ∧ t.stickyB.records = s.stickyB.records) ∧
  (c.tallies = false → t.stickyA.tallies = s.stickyA.tallies ∧ t.stickyB.tallies = s.stickyB.tallies) ∧
  (c.retired = false → t.stickyA.retired = s.stickyA.retired ∧ t.stickyB.retired = s.stickyB.retired) ∧
  (c.pairs = false → t.sides = s.sides ∧ t.stickyA.sides = s.stickyA.sides ∧ t.stickyB.sides = s.stickyB.sides) ∧
  (c.flash = false → t.flash = s.flash ∧ t.retLog = s.retLog ∧ t.saved = s.saved) ∧
  (c.losses = false → t.losses = s.losses ∧ t.mended = s.mended) ∧
  (c.dma = false → t.dma = s.dma) ∧
  (c.coll = false → t.coll = s.coll ∧ t.collGroups = s.collGroups) ∧
  (c.reply = false → t.reply = s.reply) ∧
  (c.free = false → t.free = s.free) ∧
  (c.mesh = false → t.mesh = s.mesh) ∧
  (c.plyRuns = false → t.plyRuns = s.plyRuns) ∧
  (c.flaws = false → t.flaws = s.flaws) ∧
  (c.waits = false → ∀ k, sget [] t.banks k = sget [] s.banks k) ∧
  (c.heat = false → t.heat = s.heat) ∧
  t.pending = s.pending

/-! ## Words -/

/-- The spindle performs word `w` of operation `op` now: it can be its oldest word, nothing was found wrong with it at fetch
or decode, and its predicate holds. -/
def State.performs (s : State) (sp op : Nat) (w : W256) : Bool :=
  decide (sp < nSpindles) && wOp w == op && s.canPerform sp w && (s.streamCause sp).isNone && (decodeCause s sp w).isNone &&
    (s.spin sp).getP (wPred w)

/-- What a word of a spindle or ply may change by retiring, and in its members' own registers; of a ply that has stopped, the
last such word halts it (R180). -/
def State.wordFrame (s : State) (sp : Nat) : Change where
  regs := regsOf (if s.plyStopped sp then [.SPN_PC, .SPN_RETIRED, .SPN_STAT, .SPN_CTL] else [.SPN_PC, .SPN_RETIRED])
  lats := latsOf [.stepDone, .cleared]
  spins := fun k => (s.mates sp).any fun x => x.2 == k

/-- The assigned opcodes (Tables ISA-17 to ISA-20). -/
def opcodes : List Nat :=
  [0x000, 0x100, 0x101, 0x102, 0x103, 0x104, 0x105, 0x106, 0x110, 0x111, 0x112, 0x113, 0x114, 0x115, 0x116, 0x117, 0x118,
    0x119, 0x11A] ++
  [0x120, 0x121, 0x122, 0x123, 0x124, 0x125, 0x126, 0x127, 0x128, 0x129, 0x12A, 0x12B, 0x130, 0x131, 0x132, 0x133, 0x134,
    0x135, 0x136, 0x137] ++
  [0x200, 0x201, 0x210, 0x211, 0x220, 0x221, 0x222, 0x223, 0x224, 0x225, 0x226, 0x227, 0x228, 0x229] ++
  [0x300, 0x301, 0x302, 0x303, 0x304, 0x305, 0x310, 0x311, 0x312, 0x313, 0x320, 0x321, 0x322, 0x323]

/-- The magnitude of an addend in units of 2^−298 (R144). -/
def FV.units : FV → Nat
  | .fin _ n d => n * 2 ^ 298 / d
  | _ => 0

/-- An S-word done: its slots in order, then it retires. -/
def State.slotsDone (s : State) (sp : Nat) (w : W256) : Option State :=
  match s.slots' sp ((List.range (sCount w)).map fun k => Machine.slotOf w (k + 1)) with
  | .ok t => some (t.endWord sp (s.headPc sp + 1))
  | _ => none

/-- A T-word passes its checks at issue. -/
def State.tileClear (s : State) (sp : Nat) (w : W256) : Bool :=
  match tSpec (wOp w) with
  | some k => (lowestCause (tIssue s sp k w)).isNone
  | none => false

/-- A shape the T-word uses names no element or lane (R108). -/
def tileEmpty (w : W256) : Bool := match tSpec (wOp w) with | some k => tEmpty k w | none => true

/-- The exact value of element (r, e) of A. -/
def Spin.aVal (x : Spin) (w : W256) (r e : Nat) : FV := x.valAt (x.fmtD (wFA w)) (wA w) (shapeAt w 64) r e

/-- The exact value of element (r, e) of B. -/
def Spin.bVal (x : Spin) (w : W256) (r e : Nat) : FV := x.valAt (x.fmtD (wFB w)) (wB w) (shapeAt w 128) r e

/-- The exact value of element (r, e) of C, of the shape of D. -/
def Spin.cVal (x : Spin) (w : W256) (r e : Nat) : FV := x.valAt (x.fmtD (wFA w)) (wC w) (shapeAt w 192) r e

/-- The scalar in GS as the selector `k` of spindle `sp` reads it. -/
def State.scalar (s : State) (sp : Nat) (w : W256) (k : Nat) : FV := scalarVal ((s.spin sp).fmtD k) ((s.spin sp).getG (wGS w))

/-- The word's result in tile D of every member of every group of its scope: element (r, e) is the code of `c` for the
group, the member's index in it, and its state before the word. Where a shape names no element the word has none. -/
def State.tileResult (s : State) (sp : Nat) (w : W256) (k : Nat) (c : Grp → Nat → Spin → Nat → Nat → Nat) : State :=
  if tileEmpty w then s
  else s.eachMember sp (wScope w) fun g m x =>
    x.fillShape (x.fmtD k) (wD w) (shapeAt w 192) fun r e => c g m x r e

/-- An elementwise result: `v` gives the exact result under the rounding in force, rounded once into FD at the logical
coordinates of the element (R106, R142). -/
def State.elementwise (s : State) (sp : Nat) (w : W256) (v : RMode → Spin → Nat → Nat → FV) : State :=
  s.tileResult sp w (wFD w) fun _ m x r e =>
    encodeVal (x.fmtD (wFD w)) ((x.tRounding w).at r (m * (shapeAt w 192).elems + e)) (v (x.tRounding w).mode x r e)

/-- The lanes of accumulator D after an accumulating word: cleared first where INIT is 1, then each gains its addends. -/
def State.accumulated (s : State) (sp : Nat) (w : W256) (add : Grp → Nat → Spin → Nat → Nat → List FV) : State :=
  if tileEmpty w then s
  else s.eachMember sp (wScope w) fun g m x => x.accumulate (wD w - 8) (mshapeAt w 192) (wINIT w) (add g m x)

/-- No member's step fails its residue check (R61, R153). -/
def State.stepsHold (s : State) (sp : Nat) (w : W256) (add : Grp → Nat → Spin → Nat → Nat → List FV) : Bool :=
  tileEmpty w || (s.groups sp (wScope w)).all fun g => g.mems.all fun m =>
    s.lat .injReplay (s.spUnit m.2) 0 == 0 &&
      ((s.accumulated sp w add).spin m.2).lanesOk (wD w - 8) (mshapeAt w 192) fun i j => !(add g m.1 (s.spin m.2) i j).isEmpty

/-- The lanes a read-out reads agree with their residues in every member (R62, R153). -/
def State.lanesHold (s : State) (sp : Nat) (w : W256) : Bool :=
  tileEmpty w || (s.groups sp (wScope w)).all fun g => g.mems.all fun m =>
    s.lat .injReadout (s.spUnit m.2) 0 == 0 && (s.spin m.2).lanesOk (wA w - 8) (mshapeAt w 64) fun _ _ => true

/-- Values of members elsewhere were drawn, where a group of the scope has any. -/
def State.drawn (t s : State) (sp scope : Nat) : State :=
  if (s.groups sp scope).any Grp.remote then { t with free := t.free + 1 } else t

/-- The elements a read-out writes: of each member's stripe, the combined lanes rounded once (R149, R161). -/
def State.readOuts (s : State) (sp : Nat) (w : W256) (clear : Bool) : State :=
  if tileEmpty w then s
  else (s.eachMember sp (wScope w) fun g m x =>
    let h := shapeAt w 192
    let hm := mshapeAt w 64
    let y := x.fillShape (x.fmtD (wFD w)) (wD w) h fun r e =>
      readOut (x.fmtD (wFD w)) ((x.tRounding w).at r (m * h.elems + e))
        (combine (s.partials g (wA w - 8) ((hm.r0 + r) * 32 + hm.c0 + (m * h.elems + e))))
    if clear then y.clearLanes (wA w - 8) hm else y).drawn s sp (wScope w)

/-- An M-word's doorbell is set, once; none where its target is not served. -/
def State.rung (s : State) (sp : Nat) (w : W256) : Option State :=
  if mDBE w then s.sendBell sp (s.gReg sp (mGD w)) (2 ^ mDBBIT w) else some s

/-- An M-word's end: its doorbell, then it retires. -/
def State.ended (s : State) (sp pc : Nat) (w : W256) : Option State := (s.rung sp w).map fun t => t.endWord sp (pc + 1)

/-- The writes of an M-word, in their order, then its end; none where one is not served. -/
def State.putsDone (s t : State) (sp : Nat) (w : W256) (l : List Put) : Option State :=
  match t.puts (putOrder s.free l) with
  | .ok u => ({ u with free := u.free + 1 + (s.someAway sp w).toNat }).ended sp (s.headPc sp) w
  | .error _ => none

/-- LDT done. -/
def State.ldtDone (s : State) (sp : Nat) (w : W256) : Option State :=
  if (firstFail (s.mtFails sp w false)).isSome || s.bellWaits sp w then none
  else if mtEmpty w then s.ended sp (s.headPc sp) w
  else match s.ldtReads sp w with
    | .ok r => (r.2.ldtWrites w r.1).ended sp (s.headPc sp) w
    | .error _ => none

/-- STT done. -/
def State.sttDone (s : State) (sp : Nat) (w : W256) : Option State :=
  if (firstFail (s.mtFails sp w true)).isSome || s.bellWaits sp w then none
  else if mtEmpty w then s.ended sp (s.headPc sp) w
  else s.putsDone s sp w (s.sttPuts sp w)

/-- DMA or DMAF done. -/
def State.mdDone (s : State) (sp : Nat) (w : W256) (fill : Bool) : Option State :=
  if (firstFail (s.mdFails sp w fill)).isSome || s.bellWaits sp w then none
  else match s.mdReads sp w fill with
    | .ok r => s.putsDone r.2 sp w (s.mdPuts sp w fill r.1)
    | .error _ => none

/-- A table word of some entries passes every check that needs no list, and no quarry it would change is quiescing. -/
def State.tblClear (s : State) (t : TblWord) (f : Found) : Bool :=
  t.count != 0 && (s.tblPre t).isEmpty && (s.rgnCauses t (some f)).isEmpty && (s.listRights t).isEmpty &&
    (s.bellFails t.sp t.w).isEmpty && !s.unloading f &&
    ((s.workers t.sp (wScope t.w)).all fun k => (s.listFails t k).isEmpty) &&
    (f.away || !(s.loggers f.d f.k).any s.quiescing)

/-- A table word's check pass ends well: its region, what its members bring, and the state its reads leave. -/
def State.tblBegun (s : State) (o : TblOp) (sp : Nat) (w : W256) : Option (Found × List Brought × State) :=
  let t := s.tblWord o sp w
  match s.findRegion (aBASE ((s.spin sp).getA (mAD w))) with
  | none => none
  | some f =>
    if s.engine f = .ok ∧ s.tblClear t f = true then
      match s.readAllLists t (s.workers sp (wScope w)) with
      | .ok x => if (x.1.flatMap fun b => s.rowFails t f.r b.k b.ents).isEmpty then some (f, x.1, x.2) else none
      | .error _ => none
    else none

/-- GATHER or POOL whose rows can all be read and whose outputs are all served: the outputs stand, and the word is under
way. -/
def State.tblOutputs (s : State) (o : TblOp) (sp : Nat) (w : W256) : Option State :=
  let t := s.tblWord o sp w
  match s.tblBegun o sp w with
  | none => none
  | some (f, bs, u) =>
    let l := (byGroup bs).flatMap fun g => u.groupOutputs t f g
    if (u.servedOutputs f l).length < l.length then none
    else match (u.each (l.flatMap fun x => x.1) fun row z => z.noteRow f row f.r.dataLen).puts
        (putOrder s.free (l.flatMap fun x => x.2)) with
      | .ok z => some (({ z with free := z.free + 1 }).underWay t f (s.headPc sp))
      | .error _ => none

/-- A word that changes rows, all of whose steps are done: the rows stand changed, and the word is under way. -/
def State.tblChanges (s : State) (o : TblOp) (sp : Nat) (w : W256) : Option State :=
  let t := s.tblWord o sp w
  match s.tblBegun o sp w with
  | none => none
  | some (f, bs, u) => match u.readSources t f.r bs with
    | .error _ => none
    | .ok y => match (y.2.runSteps t f (changeSteps s.free (byGroup y.1)) 0).2 with
      | .ok z => some (({ z with free := z.free + 1 }).underWay t f (s.headPc sp))
      | _ => none

/-- A stalled table word whose remaining steps are all done, and which then ends (R212, R230, R233). -/
def State.tblResumed (s : State) (sp pc : Nat) (w : W256) : Option State :=
  let t := s.tblWord (tblOp (wOp w)) sp w
  match s.findRegion (aBASE ((s.spin sp).getA (mAD w))) with
  | none => none
  | some f => if !f.away && (s.loggers f.d f.k).any s.quiescing then none else match s.readWord t f.r with
    | .error _ => none
    | .ok x =>
      let n := s.lat .tblDone sp 0 - 1
      match (x.2.runSteps t f ((changeSteps (s.lat .tblSeed sp 0) (byGroup x.1)).drop n) n).2 with
      | .ok z => ((({ z with free := z.free + 1 }).underWay t f pc).setLat .tblFly sp 0 0).ended sp pc w
      | _ => none

end Sys2Proof.Machine
end

