-- ==== Sys2Proof/Certificates/Slice0/Obligations.lean ====
section
/-! DEFINITION. The statements about the block, for the provers: what each command does where it completes, what it
keeps, and what every step keeps. -/

open Sys2Proof Sys2Proof.Machine

/-- With command c at the front of the queue, a step is exec of c on the state with the rest of the queue. (R57.) -/
def Obligations.FrontCommandRuns : Prop :=
  ∀ (c : Instr) (s : State) (l : List Instr), step { s with pending := c :: l } = exec c { s with pending := l }

/-- With an empty queue a step completes and leaves the queue empty. (That an idle step is one handshake is the model's
choice, log entry 9.) Without a slew, the counter and its fraction bit together advance by 25 halves of a
nanosecond. (R322, R326.) -/
def Obligations.IdleStepCountsAHandshake : Prop :=
  ∀ s : State, s.pending = [] →
    ∃ t, step s = .next t ∧ t.pending = [] ∧
      (s.lat .adjAcc 0 0 = 0 → s.fld fWD_TIME_ADJ_PPM s.aw 0 = 0 → s.lat .timeHalf 0 0 < 2 →
        2 * t.reg .WD_TIME_NS 62 0 + BitVec.ofNat 64 (t.lat .timeHalf 0 0) =
          2 * s.reg .WD_TIME_NS 62 0 + BitVec.ofNat 64 (s.lat .timeHalf 0 0) + 25)

/-- In every state, every command that names units the block has, with operands that fit them, answers a next state; any
other command stops with the fault noSuchUnit, and no command is refused. (R38, R39, R44.) -/
def Obligations.WellFormedCommandsComplete : Prop :=
  (∀ (i : Instr) (s : State), i.wf = true → ∃ t, exec i s = .next t) ∧
    (∀ (i : Instr) (s : State), i.wf = false → exec i s = .fault .noSuchUnit)

/-- A command that answers a next state leaves the commands that wait behind it as they are, in their order. (The queue
is the model's own.) (R57.) -/
def Obligations.CommandsLeaveTheQueue : Prop :=
  ∀ (i : Instr) (s t : State), exec i s = .next t → t.pending = s.pending

/-- From every state whose memory lists its bytes at strictly rising addresses and lists no byte equal to what an
unlisted address reads as, every step that answers a next state leaves such a memory: equal memories stay equal
data. (R3, R37, R39.) -/
def Obligations.StepKeepsMemoryCanonical : Prop :=
  ∀ s t : State, Memory.wf s.mem = true → step s = .next t → Memory.wf t.mem = true

/-- After reset no command waits, the memory is canonical, every register of the tables reads its reset value, every
spindle of a powered-down twin reads OFF, no ply stands, the recorders are empty and the nanosecond counter is 0.
(Reset values the tables do not give are the model's choice, named in the log.) (R13, R37, R80, R322.) -/
def Obligations.ResetState : Prop :=
  State.reset.pending = [] ∧ Memory.wf State.reset.mem = true ∧
    (∀ (r : Reg) (d i : Nat), State.reset.reg r d i = regReset r (regHome r d) i) ∧
    (∀ sp : Nat, sp < 1536 → State.reset.spState sp = 0) ∧ State.reset.plies = [] ∧
    State.reset.stickyA.records = [] ∧ State.reset.stickyB.records = [] ∧ State.reset.now = 0

/-- A write of p0 leaves the spindle's registers as they are, p0 reads 1, and a word whose PRED names p0 has its effect
whenever its stream and its decoding find nothing wrong. (R45.) -/
def Obligations.PredicateZeroReadsOne : Prop :=
  (∀ (x : Spin) (v : Bool), x.setP 0 v = x) ∧ (∀ x : Spin, x.getP 0 = true) ∧
    (∀ (s : State) (sp pc : Nat) (w : W256) (eff : State → Nat → Nat → W256 → Perf),
      s.streamCause sp = none → decodeCause s sp w = none → wPred w = 0 → s.wordOutcome sp pc w eff = eff s sp pc w)

/-- WAIT with a timeout of zero tests the bits once and ends at once, with the match there is or by timeout. A timeout
of all ones never ends a WAIT. At a timeout, with no halt request, a match wins. An empty mask never matches in mode
ANY; in mode ALL it matches at once, and the pending bits stay. (R76, R77.) -/
def Obligations.WaitTimeoutsAndEmptyMasks : Prop :=
  (∀ (s : State) (sp : Nat) (w : W256), s.performs sp 0x312 w = true → (s.spin sp).getG (wGB w) = 0 →
      exec (.wait sp w) s = .next (s.endWait sp w (s.headPc sp) (s.waitMatch sp w))) ∧
    (∀ (s : State) (sp : Nat) (e : Entry), sp < 1536 → s.spState sp = 4 → (s.spin sp).spool.head? = some e →
      (s.spin sp).getG (wGB e.word) = BitVec.allOnes 64 → exec (.waitTimeout sp) s = .next s) ∧
    (∀ (s : State) (sp h : Nat) (e : Entry), sp < 1536 → s.isLead sp = true → s.spState sp = 4 →
      s.spFlag fSPN_CTL_HALT sp = false →
      (s.spin sp).spool.head? = some e → (s.spin sp).getG (wGB e.word) ≠ BitVec.allOnes 64 → s.waitMatch sp e.word = some h →
      exec (.waitTimeout sp) s = .next (s.endWait sp e.word e.pc (some h))) ∧
    (∀ (s : State) (sp pc : Nat) (w : W256), bitsOf ((s.spin sp).getG (wGA w)) 31 0 = 0 →
      (wMODE w = false → s.waitMatch sp w = none) ∧
      (wMODE w = true → s.waitMatch sp w = some 0 ∧
        (s.endWait sp w pc (some 0)).spFld fSPN_DB_PEND_PEND sp = s.spFld fSPN_DB_PEND_PEND sp))

/-- Bits 9:8 of the opcode of every assigned T-, M- and C-word are 1, 2 and 3, and the one assigned opcode of kind 0 is
0x000. A word with any other opcode comes, where fetch finds nothing wrong, to the exception ILLEGAL_OPCODE with its
opcode, whatever its effect would be. (R88.) -/
def Obligations.UnassignedOpcodesAreIllegal : Prop :=
  (∀ op : Nat, (tSpec op).isSome = true → op / 256 = 1) ∧ (∀ op : Nat, (mSpec op).isSome = true → op / 256 = 2) ∧
    (∀ (w : W256) (op : Nat), (cSpec w op).isSome = true → op / 256 = 3) ∧
    (∀ op : Nat, op ∈ opcodes → op / 256 = 0 → op = 0) ∧
    (∀ (s : State) (sp pc : Nat) (w : W256) (eff : State → Nat → Nat → W256 → Perf), s.streamCause sp = none → wOp w ∉ opcodes →
      s.wordOutcome sp pc w eff = .exc (2, BitVec.ofNat 64 (wOp w)) 0)

/-- A DIVS or REMS slot with a divisor that is not zero writes the quotient truncated toward zero, or the remainder with
the sign of the dividend; −2^63 by −1 gives −2^63 and 0. DIVU, DIVS, REMU and REMS raise DIV_ZERO with zero
information for a divisor of zero. ADD, ADDI, SUB and MUL wrap modulo 2^64. (R96.) -/
def Obligations.IntegerDivisionAndWrapping : Prop :=
  (∀ (s : State) (sp x : Nat), (s.spin sp).getG (lRS2 x) = 0 → lSOP x = 0x15 ∨ lSOP x = 0x16 ∨ lSOP x = 0x17 ∨ lSOP x = 0x18 →
      s.slot sp x = .exc (0xD, 0)) ∧
    (∀ (s : State) (sp x : Nat) (a b : W64), (s.spin sp).getG (lRS1 x) = a → (s.spin sp).getG (lRS2 x) = b → b ≠ 0 →
      lSOP x = 0x16 → ∃ q : W64, s.slot sp x = .ok (s.updMates sp fun y => y.setG (lRD x) q) ∧
        (a = BitVec.intMin 64 ∧ b = -1 → q = BitVec.intMin 64) ∧
        (¬(a = BitVec.intMin 64 ∧ b = -1) → q.toInt = Int.tdiv a.toInt b.toInt)) ∧
    (∀ (s : State) (sp x : Nat) (a b : W64), (s.spin sp).getG (lRS1 x) = a → (s.spin sp).getG (lRS2 x) = b → b ≠ 0 →
      lSOP x = 0x18 → ∃ r : W64, s.slot sp x = .ok (s.updMates sp fun y => y.setG (lRD x) r) ∧
        (a = BitVec.intMin 64 ∧ b = -1 → r = 0) ∧ r.toInt = Int.tmod a.toInt b.toInt) ∧
    (∀ (s : State) (sp x : Nat) (a b : W64), (s.spin sp).getG (lRS1 x) = a → (s.spin sp).getG (lRS2 x) = b →
      (lSOP x = 0x10 → s.slot sp x = .ok (s.updMates sp fun y => y.setG (lRD x) (BitVec.ofNat 64 (a.toNat + b.toNat)))) ∧
      (lSOP x = 0x11 → s.slot sp x = .ok (s.updMates sp fun y => y.setG (lRD x) (BitVec.ofInt 64 (a.toNat - b.toNat)))) ∧
      (lSOP x = 0x12 → s.slot sp x = .ok (s.updMates sp fun y => y.setG (lRD x) (BitVec.ofInt 64 (a.toInt + signedOf 14 x)))) ∧
      (lSOP x = 0x13 → s.slot sp x = .ok (s.updMates sp fun y => y.setG (lRD x) (BitVec.ofNat 64 (a.toNat * b.toNat)))))

/-- BR and CALL continue at their TARGET as a word index of bank 0, BRR and CALLR at bits 13:0 of their register, read
before the link is written; CALL and CALLR leave PC + 1 in g[GA]. Each holds in every local member of the spindle's
ply, and of a spindle in none. (R117.) -/
def Obligations.BranchesAndLinks : Prop :=
  (∀ (s : State) (sp : Nat) (w : W256), s.performs sp 0x300 w = true → Completes (.br sp w) s fun t =>
      ∀ x ∈ s.mates sp, t.spFld fSPN_PC_WORD x.2 = wTARGET w) ∧
    (∀ (s : State) (sp : Nat) (w : W256), s.performs sp 0x301 w = true → Completes (.brr sp w) s fun t =>
      ∀ x ∈ s.mates sp, t.spFld fSPN_PC_WORD x.2 = getBits ((s.spin sp).getG (wGA w)) 13 0) ∧
    (∀ (s : State) (sp : Nat) (w : W256), s.performs sp 0x302 w = true → Completes (.call sp w) s fun t =>
      ∀ x ∈ s.mates sp, t.spFld fSPN_PC_WORD x.2 = wTARGET w ∧ (t.spin x.2).getG (wGA w) = BitVec.ofNat 64 (s.headPc sp + 1)) ∧
    (∀ (s : State) (sp : Nat) (w : W256), s.performs sp 0x303 w = true → Completes (.callr sp w) s fun t =>
      ∀ x ∈ s.mates sp, t.spFld fSPN_PC_WORD x.2 = getBits ((s.spin sp).getG (wGB w)) 13 0 ∧ (t.spin x.2).getG (wGA w) = BitVec.ofNat 64 (s.headPc sp + 1))

/-- A lane whose residue agrees with its value still does after any accumulations. Addends whose magnitudes sum to less
than 2^639 units of 2^−298 leave a cleared lane the same, flags and residue too, in whatever order they come. (R143,
R144, R147, R151, R152, R153.) -/
def Obligations.LanesAddExactly : Prop :=
  (∀ (l : Lane) (vs : List FV), l.consistent = true → (l.accumulateAll vs).consistent = true) ∧
    (∀ vs ws : List FV, vs.Perm ws → (vs.map FV.units).sum < 2 ^ 639 → Lane.zero.accumulateAll vs = Lane.zero.accumulateAll ws)

/-- When a word retires with next word index pc, in every local member of the ply the PC shows that index, the word is
counted, its entry leaves the spool, with any younger word that a write to bank 0 has changed, and its replays end;
of a ply that has stopped the last committed word halts it; nothing else changes. (R52, R55, R58, R174.) -/
def Obligations.RetiredWordsMoveOn : Prop :=
  ∀ (s : State) (sp pc : Nat), ((s.mates sp).map fun x => x.2).Nodup → pc ≤ 16384 →
    (∀ x ∈ s.mates sp, (s.retire sp pc).spFld fSPN_PC_WORD x.2 = pc % 16384 ∧
      (s.retire sp pc).reg .SPN_RETIRED (spDie x.2) (spIdx x.2) = s.reg .SPN_RETIRED (spDie x.2) (spIdx x.2) + 1 ∧
      (s.retire sp pc).spin x.2 =
        { s.spin x.2 with spool := s.freshWords sp (s.lat .cleared sp 0 - 1) ((s.spin x.2).spool.drop 1), replays := 0, overrun := decide (pc = 16384) }) ∧
    Only (s.wordFrame sp) s (s.retire sp pc)

/-- A word that changes the members of the groups of its scope gives each member named once the state its function makes
of the group, the member's index in it and the member's state before; a spindle in no group keeps its state. (R160,
R161, R170.) -/
def Obligations.GroupsReachEveryMember : Prop :=
  ∀ (s : State) (sp scope : Nat) (f : Grp → Nat → Spin → Spin),
    (((s.groups sp scope).flatMap fun g => g.mems).map fun m => m.2).Nodup →
    (∀ g ∈ s.groups sp scope, ∀ m ∈ g.mems, (s.eachMember sp scope f).spin m.2 = f g m.1 (s.spin m.2)) ∧
    (∀ q : Nat, (∀ g ∈ s.groups sp scope, ∀ m ∈ g.mems, m.2 ≠ q) → (s.eachMember sp scope f).spin q = s.spin q)

/-- After every element of a shape whose rows do not overlap is written with a code, each element reads as its code, cut
to the width of its format; tile bytes outside the rows are as before. (R102, R105.) -/
def Obligations.FilledShapesReadBack : Prop :=
  ∀ (x : Spin) (f : Fmt) (k : Nat) (h : Shape) (g : Nat → Nat → Nat),
    f.slot = 1 ∨ (f.slot % 2 = 0 ∧ 0 < f.slot ∧ f.width ≤ 4 * f.slot) → h.rows ≤ 1 ∨ rowBytes f h.elems ≤ h.rstride →
    (∀ r e : Nat, r < h.rows → e < h.elems →
      (x.fillShape f k h g).elem f k h r e = g r e % (if f.slot = 1 then 16 else 2 ^ f.width)) ∧
    (∀ a : Nat, (∀ r : Nat, r < h.rows → a < k * 16384 + h.off + r * h.rstride ∨
        k * 16384 + h.off + r * h.rstride + rowBytes f h.elems ≤ a) →
      sget 0 (x.fillShape f k h g).tile a = sget 0 x.tile a)

/-- Each mesh and rail command completes. A good flit over a link that is up and not for this stop goes out over the
link the routes name, where it is kept for replay, and counts one in MESH_FLITS; one for this stop is delivered
uncounted; one whose CRC-32 does not match is replayed. The end of a route hold clears it. A trip of the mesh stop's
rail opens it, and an overcurrent trip opens the die's rails and latches TRIP. A write of PW_DIE_ISO by the active
warden with CLOSE closes the rails where no trip, reset due, retirement or hard trip bars it. A current limit is
shown in ILIM and recorded, and its end clears it. (R18, R20, R23, R24, R29, R31, R32.) -/
def Obligations.MeshAndRailCommandsComplete : Prop :=
  (∀ (d link k : Nat) (x : MeshFlit) (s : State),
      d < 64 →
      link < 4 →
      meshFits x = true →
      s.linkUp d link = true →
      meshGood x = true →
      x.dst ≠ d →
      nextLink s.routeMasks d x.dst = some k →
      Completes (.meshFlitReceive d link x) s fun t =>
        t.reg .MESH_FLITS d 0 = s.reg .MESH_FLITS d 0 + 1 ∧ (t.meshKept d k).getLast? = some (flitVia x d link k) ∧ Only ({ regs := theReg .MESH_FLITS d 0, mesh := true }) s t) ∧
  (∀ (d link : Nat) (x : MeshFlit) (s : State),
      d < 64 →
      link < 4 →
      meshFits x = true →
      s.linkUp d link = true →
      meshGood x = true →
      x.dst = d →
      Completes (.meshFlitReceive d link x) s fun t =>
        (t.meshKept (meshNeighbour d link) (linkBack link)).contains x = true ∧ Only ({ mesh := true }) s t) ∧
  (∀ (d link : Nat) (x : MeshFlit) (s : State),
      d < 64 →
      link < 4 →
      meshFits x = true →
      s.linkUp d link = true →
      meshGood x = false →
      s.countsOnly 0x07 (unitId d (0x300 + link)) = true →
      Completes (.meshFlitReceive d link x) s fun t =>
        t.lat .meshReplays d link = s.lat .meshReplays d link + 1 ∧ Only (Change.recording { lats := theLat .meshReplays d link, tallies := true }) s t) ∧
  (∀ (d : Nat) (s : State),
      d < 64 →
      Completes (.routeHoldEnd d) s fun t =>
        t.lat .routeHold d 0 = 0 ∧ Only ({ lats := theLat .routeHold d 0 }) s t) ∧
  (∀ (d : Nat) (s : State),
      d < 62 →
      s.flag fPW_DIE_ISO_MS_ON 62 d = true →
      Completes (.meshStopRailTrip d) s fun t =>
        t.flag fPW_DIE_ISO_MS_ON 62 d = false ∧ t.lat .msReset d 0 = 1) ∧
  (∀ (d : Nat) (s : State),
      d < 62 →
      s.flag fPW_DIE_ISO_ON 62 d = true →
      Completes (.dieOvercurrentTrip d) s fun t =>
        t.flag fPW_DIE_ISO_ON 62 d = false ∧ t.flag fPW_DIE_ISO_TRIP 62 d = true) ∧
  (∀ (m : Master) (d : Nat) (v : W64) (s : State),
      d < 62 →
      s.isActive m = true →
      bitOf v 1 = true →
      s.flag fPW_DIE_ISO_TRIP 62 d = false →
      s.lat .tripReset d 0 = 0 →
      s.wflag fTH_STAT_TRIP 0 = false →
      s.lat .dieRetired d 0 = 0 →
      Completes (.pwDieIsoWrite m d v) s fun t =>
        t.flag fPW_DIE_ISO_ON 62 d = true ∧ t.flag fPW_DIE_ISO_CLOSE 62 d = true) ∧
  (∀ (d k : Nat) (s : State),
      d < 48 →
      k < 17 →
      s.twinState d k = 2 →
      s.flag fPW_TWIN_CTL_ILIM d k = false →
      Completes (.twinIlimEntry d k true) s fun t =>
        t.flag fPW_TWIN_CTL_ILIM d k = true ∧ Only (Change.recording { regs := theReg .PW_TWIN_CTL d k }) s t) ∧
  (∀ (d k : Nat) (s : State),
      d < 48 →
      k < 17 →
      s.flag fPW_TWIN_CTL_ILIM d k = true →
      Completes (.twinIlimEntry d k false) s fun t =>
        t.flag fPW_TWIN_CTL_ILIM d k = false ∧ Only ({ regs := theReg .PW_TWIN_CTL d k, lats := theLat .ilimEnd d k }) s t)

/-- A measurement of the input is shown, and the rail cap becomes the lower of 150 A at V_IN and 480 W for each
converter in service. A bus converter that fails leaves service, is shown lost, and the cap is formed again. An
undervoltage or overvoltage leaves the package in OFF with every converter stopped, the first with a power-fail save
under way. When the input is back in its band after such a trip, the package leaves OFF through the bring-up step
I/O unless an order or a trip holds it. (R26, R27, R28, R535.) -/
def Obligations.InputCommandsComplete : Prop :=
  (∀ (vin iin pin : Nat) (s : State),
      vin < 2 ^ 16 →
      iin < 2 ^ 16 →
      pin < 2 ^ 32 →
      Completes (.railCapRecompute vin iin pin) s fun t =>
        t.fld fPW_IN_MEAS_V_IN 62 0 = vin ∧ t.fld fPW_IN_MEAS_I_IN 62 0 = iin ∧ t.fld fPW_IN_MEAS_P_IN 62 0 = pin ∧ t.fld fPW_RAIL_CAP_CAP_W 62 0 = min (vin * 150 / 1000) (s.converters * 480) ∧ Only (Change.recording { regs := regsOf [.PW_IN_MEAS, .PW_RAIL_CAP], lats := theLat .railLow 0 0 }) s t) ∧
  (∀ (n : Nat) (s : State),
      n < 16 →
      bitOf (s.reg .PW_CONV_OK 62 0) n = true →
      Completes (.busConverterFail n) s fun t =>
        bitOf (t.reg .PW_CONV_OK 62 0) n = false ∧ bitOf (t.reg .PW_RAIL_CAP 62 0) (16 + n) = true ∧ t.fld fPW_RAIL_CAP_CAP_W 62 0 = min (s.fld fPW_IN_MEAS_V_IN 62 0 * 150 / 1000) (t.converters * 480) ∧ Only (Change.recording { regs := regsOf [.PW_CONV_OK, .PW_RAIL_CAP], lats := theLat .railLow 0 0 }) s t) ∧
  (∀ (s : State),
      s.pkgState ≠ 2 →
      Completes (.vinUndervoltage) s fun t =>
        t.pkgState = 2 ∧ t.reg .PW_CONV_OK 62 0 = 0 ∧ t.wflag fWD_PKG_STAT_SAVING 0 = true ∧ t.lat .offCause 0 0 = 2) ∧
  (∀ (s : State),
      s.pkgState ≠ 2 →
      Completes (.vinOvervoltage) s fun t =>
        t.pkgState = 2 ∧ t.reg .PW_CONV_OK 62 0 = 0 ∧ t.lat .offCause 0 0 = 2) ∧
  (∀ (s : State),
      s.pkgState = 2 →
      s.lat .inputBad 0 0 = 1 →
      s.lat .offCause 0 0 = 2 →
      s.wfld fTH_ORDER_EFF_STATE 0 = 0 →
      s.railsBarred = false →
      Completes (.vinBackInBand) s fun t =>
        t.pkgState = 3 ∧ t.wfld fWD_PKG_STAT_STEP 0 = 3)

/-- A write of PW_TWIN_CTL by the active warden with a legal VID sets the twin's VID, and with a request of ON brings a
twin that is not retired to ON; in the handshake of a hardware raise the larger VID stands. A legal PW_TWIN_AVS
write takes effect whole. At the end of a slack window the twin's least slack is shown, 0 where a handshake was
stretched; the window of a fixed rail shows its die's logic slack. A twin that is ON and whose least slack is below
GUARD rises by one VID step in an adaptive-voltage cycle. A probe that passed lowers FLOOR by one. (R30, R311, R313,
R314, R316, R317, R319, R320.) -/
def Obligations.TwinRegulatorCommandsComplete : Prop :=
  (∀ (m : Master) (d k : Nat) (v : W64) (s : State),
      d < 48 →
      k < 17 →
      s.isActive m = true →
      48 ≤ getBits v 15 8 →
      getBits v 15 8 ≤ 68 →
      Completes (.pwTwinCtlWrite m d k v false) s fun t =>
        t.fld fPW_TWIN_CTL_VID d k = getBits v 15 8) ∧
  (∀ (m : Master) (d k : Nat) (v : W64) (s : State),
      d < 48 →
      k < 17 →
      s.isActive m = true →
      s.lat .raised d k ≠ 0 →
      48 ≤ getBits v 15 8 →
      getBits v 15 8 ≤ 68 →
      Completes (.pwTwinCtlWrite m d k v true) s fun t =>
        t.fld fPW_TWIN_CTL_VID d k = max (s.fld fPW_TWIN_CTL_VID d k) (getBits v 15 8)) ∧
  (∀ (m : Master) (d k : Nat) (v : W64) (s : State),
      d < 48 →
      k < 17 →
      s.isActive m = true →
      48 ≤ getBits v 15 8 →
      getBits v 15 8 ≤ 68 →
      getBits v 5 4 = 2 →
      s.flag fPW_TWIN_CTL_RETIRED d k = false →
      s.dieUp d = true →
      Completes (.pwTwinCtlWrite m d k v false) s fun t =>
        t.fld fPW_TWIN_CTL_VID d k = getBits v 15 8 ∧ t.twinState d k = 2 ∧ Only ({ regs := theReg .PW_TWIN_CTL d k, lats := theLat .retainDue d k }) s t) ∧
  (∀ (m : Master) (d k : Nat) (v : W64) (s : State),
      d < 48 →
      k < 17 →
      s.isActive m = true →
      48 ≤ getBits v 23 16 →
      getBits v 23 16 ≤ 68 →
      8 ≤ getBits v 15 8 →
      getBits v 15 8 ≤ 64 →
      getBits v 7 0 < getBits v 15 8 →
      Completes (.pwTwinAvsWrite m d k v false) s fun t =>
        t.fld fPW_TWIN_AVS_FLOOR d k = getBits v 23 16 ∧ t.fld fPW_TWIN_AVS_GUARD d k = getBits v 15 8 ∧ t.fld fPW_TWIN_AVS_ALARM d k = getBits v 7 0 ∧ Only ({ regs := theReg .PW_TWIN_AVS d k }) s t) ∧
  (∀ (d k least mean stretches mv ma : Nat) (cyc : List (Nat × Nat)) (s : State),
      d < 48 →
      k < 17 →
      s.twinState d k = 2 →
      Completes (.slackWindowEnd d k least mean stretches mv ma cyc) s fun t =>
        (t.fld fPW_TWIN_SLACK_MIN d k = if stretches = 0 then min least 255 else 0)) ∧
  (∀ (d least mean mv ma : Nat) (cyc : List (Nat × Nat)) (s : State),
      d < 64 →
      s.flag fPW_DIE_ISO_ON 62 d = true →
      10 ≤ least →
      Completes (.slackWindowEnd d 17 least mean 0 mv ma cyc) s fun t =>
        t.fld fDIE_SLACK_LOGIC_MIN d 0 = min least 255 ∧ t.fld fDIE_SLACK_LOGIC_AVG d 0 = min mean 255 ∧ Only ({ regs := theReg .DIE_SLACK d 0 }) s t) ∧
  (∀ (d k : Nat) (s : State),
      d < 48 →
      k < 17 →
      s.twinState d k = 2 →
      s.lat .retainDue d k = 0 →
      s.fld fPW_TWIN_SLACK_MIN d k < s.fld fPW_TWIN_AVS_GUARD d k →
      s.fld fPW_TWIN_CTL_VID d k < 68 →
      Completes (.avsCycle) s fun t =>
        t.fld fPW_TWIN_CTL_VID d k = s.fld fPW_TWIN_CTL_VID d k + 1) ∧
  (∀ (d k : Nat) (s : State),
      d < 48 →
      k < 17 →
      s.lat .probe d k = 1 →
      0 < s.fld fPW_TWIN_AVS_FLOOR d k →
      Completes (.avsProbeEnd d k) s fun t =>
        t.fld fPW_TWIN_AVS_FLOOR d k = s.fld fPW_TWIN_AVS_FLOOR d k - 1 ∧ t.lat .probe d k = 0 ∧ Only ({ regs := theReg .PW_TWIN_AVS d k, lats := theLat .probe d k }) s t)

/-- A step of up to 2^40 ns written to WD_TIME_STEP waits for the next serial word, which adds it to the nanosecond
counter. A slew within ±25,000 ppm is taken by WD_TIME_ADJ. The clock passes to the backup and back to the crystal,
shown in WD_TIME_STAT; the backup trim is taken while the crystal runs. Eye adjustments of a stack and the margin
check of a warp lane are shown in their registers. (R322, R324, R326, R327, R328.) -/
def Obligations.TimebaseAndPhyCommandsComplete : Prop :=
  (∀ (m : Master) (v : W64) (s : State),
      s.hostOrActive m = true →
      v.toNat < 2 ^ 40 →
      Completes (.wdTimeStepWrite m v) s fun t =>
        t.lat .timeStep 0 0 = s.lat .timeStep 0 0 + v.toNat ∧ Only ({ lats := theLat .timeStep 0 0 }) s t) ∧
  (∀ (d : Nat) (differs : Bool) (s : State),
      d < 64 →
      Completes (.timebaseSerialWord d differs) s fun t =>
        t.reg .WD_TIME_NS 62 0 = s.reg .WD_TIME_NS 62 0 + BitVec.ofNat 64 (s.lat .timeStep 0 0) ∧ t.lat .timeStep 0 0 = 0 ∧ Only (Change.recording { regs := theReg .WD_TIME_NS 62 0, lats := latsOf [.timeStep, .timeStepped] }) s t) ∧
  (∀ (m : Master) (v : W64) (s : State),
      s.hostOrActive m = true →
      -25000 ≤ signedOf 16 (getBits v 15 0) →
      signedOf 16 (getBits v 15 0) ≤ 25000 →
      Completes (.wdTimeAdjWrite m v) s fun t =>
        t.fld fWD_TIME_ADJ_PPM 62 0 = getBits v 15 0 ∧ t.fld fWD_TIME_ADJ_PPM 63 0 = getBits v 15 0 ∧ Only ({ regs := regsOf [.WD_TIME_ADJ] }) s t) ∧
  (∀ (s : State),
      s.wflag fWD_TIME_STAT_ON_BACKUP 0 = false →
      Completes (.clockToBackup) s fun t =>
        t.wflag fWD_TIME_STAT_ON_BACKUP 0 = true ∧ t.wflag fWD_TIME_STAT_XTAL_OK 0 = false ∧ Only (Change.recording { regs := regsOf [.WD_TIME_STAT, .TB_STAT] }) s t) ∧
  (∀ (s : State),
      s.wflag fWD_TIME_STAT_ON_BACKUP 0 = true →
      Completes (.clockToCrystal) s fun t =>
        t.wflag fWD_TIME_STAT_ON_BACKUP 0 = false ∧ t.wflag fWD_TIME_STAT_XTAL_OK 0 = true ∧ Only (Change.recording { regs := regsOf [.WD_TIME_STAT, .TB_STAT] }) s t) ∧
  (∀ (trim : Int) (s : State),
      s.wflag fWD_TIME_STAT_ON_BACKUP 0 = false →
      Completes (.backupTrim trim) s fun t =>
        t.wfld fWD_TIME_STAT_TRIM 0 = ofSigned 16 trim ∧ Only ({ regs := regsOf [.WD_TIME_STAT] }) s t) ∧
  (∀ (d stack pc eyeT eyeV moves : Nat) (s : State),
      48 ≤ d →
      d < 56 →
      stack < 4 →
      pc < 32 →
      s.quarryUp d = true →
      32 ≤ eyeT →
      eyeT < 256 →
      eyeV < 256 →
      Completes (.hbmEyeAdjust d stack pc eyeT eyeV moves) s fun t =>
        t.fld fQD_PHY_EYE_T d stack = eyeT ∧ t.fld fQD_PHY_EYE_V d stack = eyeV ∧ t.fld fQD_PHY_WORST_PC d stack = pc ∧ t.fld fQD_PHY_ADJUST d stack = min moves 65535 ∧ Only (Change.recording { regs := theReg .QD_PHY d stack }) s t) ∧
  (∀ (p l syms received eyeH : Nat) (s : State),
      p < 16 →
      l < 8 →
      s.dieUp (warpDie p) = true →
      eyeH < 256 →
      syms * 10000 ≤ received →
      Completes (.warpLaneMarginCheck p l syms received eyeH) s fun t =>
        t.fld fWP_LANE_SYMS (warpDie p) (p % 4 * 8 + l) = min syms (2 ^ 32 - 1) ∧ t.fld fWP_LANE_EYE_H (warpDie p) (p % 4 * 8 + l) = eyeH ∧ t.flag fWP_LANE_LOW (warpDie p) (p % 4 * 8 + l) = false ∧ Only ({ regs := theReg .WP_LANE (warpDie p) (p % 4 * 8 + l) }) s t)

/-- PCIE1_PERST_N asserted and a hot reset are PORT resets (WD_RST_STAT shows kind and cause): the link, HI_BAR2_BASE
and the channels' registers return to their reset values and nothing moves. A Function Level Reset returns
HI_BAR2_BASE and DEGRADED, stops the channels, answers their ABORTED words where the link allows, and leaves the
package number. A trained link is shown, DEGRADED below x16 or 64 GT/s. ENABLE 1 is taken with a LOG2 of 1 to 16,
else refused; ENABLE 0 leaves the moving descriptors moving; HEAD takes its index. An enabled channel takes its next
posted descriptor. The oldest one ends with STATUS DONE where its move is served: with its data to the host, with
the host's bytes written, or with nothing where LEN is 0, when TAIL passes it. A stopped channel that moves nothing
shows IDLE. HI_PKG_NUM takes a write while no warp port is ACTIVE, and none else. HI_BAR2_BASE takes its writable
bits. (R42, R269, R270, R273, R274, R276, R277.) -/
def Obligations.HostPortCommandsComplete : Prop :=
  (∀ (s : State),
      Completes (.pcie1Perst) s fun t =>
        t.lat .perst 1 0 = 1 ∧ t.wfld fWD_RST_STAT_KIND 0 = 6 ∧ t.wfld fWD_RST_STAT_CAUSE 0 = 1 ∧ (∀ r ∈ [Reg.HI_BAR2_BASE, .HI_LINK_STAT], t.reg r 60 1 = regReset r 60 1) ∧ (∀ c : Nat, c < 4 → t.dmaMoving 1 c = [] ∧ ∀ r ∈ [Reg.HI_DMA_BASE, .HI_DMA_CTL, .HI_DMA_HEAD, .HI_DMA_TAIL], t.reg r 60 (1 * 4 + c) = regReset r 60 (1 * 4 + c))) ∧
  (∀ (port : Nat) (s : State),
      port < 2 →
      Completes (.pcieHotReset port) s fun t =>
        t.wfld fWD_RST_STAT_KIND 0 = 6 ∧ t.wfld fWD_RST_STAT_CAUSE 0 = 5 ∧ (∀ r ∈ [Reg.HI_BAR2_BASE, .HI_LINK_STAT], t.reg r 60 port = regReset r 60 port) ∧ (∀ c : Nat, c < 4 → t.dmaMoving port c = [] ∧ ∀ r ∈ [Reg.HI_DMA_BASE, .HI_DMA_CTL, .HI_DMA_HEAD, .HI_DMA_TAIL], t.reg r 60 (port * 4 + c) = regReset r 60 (port * 4 + c))) ∧
  (∀ (port : Nat) (link : Bool) (s : State),
      port < 2 →
      Completes (.functionLevelReset port link) s fun t =>
        t.reg .HI_BAR2_BASE 60 port = regReset .HI_BAR2_BASE 60 port ∧ t.flag fHI_LINK_STAT_DEGRADED 60 port = false ∧ t.pkg = s.pkg ∧ (∀ c : Nat, c < 4 → t.dmaMoving port c = [] ∧ t.dmaFld fHI_DMA_CTL_ENABLE port c = 0) ∧ (t.reply = ⟨.ok, if link then s.dmaAborted port else []⟩)) ∧
  (∀ (port width speed : Nat) (flit : Bool) (s : State),
      port < 2 →
      width < 32 →
      speed < 16 →
      s.lat .perst port 0 = 0 →
      s.dieUp 60 = true →
      Completes (.hostLinkTrained port width speed flit) s fun t =>
        t.flag fHI_LINK_STAT_UP 60 port = true ∧ t.fld fHI_LINK_STAT_WIDTH 60 port = width ∧ t.fld fHI_LINK_STAT_SPEED 60 port = speed ∧ t.flag fHI_LINK_STAT_FLIT 60 port = flit ∧ (t.flag fHI_LINK_STAT_DEGRADED 60 port = (s.flag fHI_LINK_STAT_DEGRADED 60 port || decide (width < 16 ∨ speed < 6))) ∧ Only (Change.recording { regs := theReg .HI_LINK_STAT 60 port }) s t) ∧
  (∀ (port c : Nat) (v : W64) (s : State),
      port < 2 →
      c < 4 →
      s.dieUp 60 = true →
      bitOf v 0 = true →
      1 ≤ getBits v 20 16 →
      getBits v 20 16 ≤ 16 →
      Completes (.hostDmaEnable port c v) s fun t =>
        t.dmaFld fHI_DMA_CTL_ENABLE port c = 1 ∧ t.dmaFld fHI_DMA_CTL_LOG2 port c = getBits v 20 16 ∧ Only ({ regs := theReg .HI_DMA_CTL 60 (port * 4 + c) }) s t) ∧
  (∀ (port c : Nat) (v : W64) (s : State),
      port < 2 →
      c < 4 →
      s.dieUp 60 = true →
      bitOf v 0 = true →
      getBits v 20 16 = 0 ∨ 16 < getBits v 20 16 →
      Completes (.hostDmaEnable port c v) s fun t =>
        t.dmaFld fHI_DMA_CTL_ENABLE port c = 0 ∧ t.dmaFld fHI_DMA_CTL_LOG2 port c = getBits v 20 16 ∧ Only (Change.recording { regs := theReg .HI_DMA_CTL 60 (port * 4 + c) }) s t) ∧
  (∀ (port c : Nat) (v : W64) (s : State),
      port < 2 →
      c < 4 →
      s.dieUp 60 = true →
      bitOf v 0 = false →
      Completes (.hostDmaDisable port c v) s fun t =>
        t.dmaFld fHI_DMA_CTL_ENABLE port c = 0 ∧ t.dmaMoving port c = s.dmaMoving port c ∧ Only ({ regs := theReg .HI_DMA_CTL 60 (port * 4 + c) }) s t) ∧
  (∀ (port c : Nat) (v : W64) (s : State),
      port < 2 →
      c < 4 →
      s.dieUp 60 = true →
      Completes (.hostDmaHeadWrite port c v) s fun t =>
        t.dmaFld fHI_DMA_HEAD_INDEX port c = getBits v 15 0 ∧ Only ({ regs := theReg .HI_DMA_HEAD 60 (port * 4 + c) }) s t) ∧
  (∀ (port c : Nat) (desc : W256) (s : State),
      port < 2 →
      c < 4 →
      s.dieUp 60 = true →
      s.dmaFld fHI_DMA_CTL_ENABLE port c = 1 →
      (s.dmaMoving port c).length < s.dmaPosted port c →
      Completes (.hostDmaDescStart port c desc) s fun t =>
        t.dmaMoving port c = s.dmaMoving port c ++ [desc] ∧ t.dmaFld fHI_DMA_CTL_IDLE port c = 0 ∧ Only ({ regs := theReg .HI_DMA_CTL 60 (port * 4 + c), dma := true }) s t) ∧
  (∀ (port c : Nat) (w : W256) (rest : List W256) (data : Option (List Byte)) (s : State),
      port < 2 →
      c < 4 →
      s.dmaMoving port c = w :: rest →
      dmaBad w = false →
      (dmaDbe w && s.bellHeld (hostUnit port) (dmaTarget w)) = false →
      dmaToHost w = true →
      dmaLen w ≠ 0 →
      (s.moveRead (asHost port) (dmaSysAddr w) (dmaLen w)).1 = .ok →
      Completes (.hostDmaDescComplete port c data) s fun t =>
        t.dmaMoving port c = rest ∧ t.reply = ⟨.ok, (s.moveRead (asHost port) (dmaSysAddr w) (dmaLen w)).2.1 ++ leBytes 2 1⟩) ∧
  (∀ (port c : Nat) (w : W256) (rest : List W256) (bs : List Byte) (s : State),
      port < 2 →
      c < 4 →
      s.dmaMoving port c = w :: rest →
      dmaBad w = false →
      dmaDbe w = false →
      dmaToHost w = false →
      dmaLen w ≠ 0 →
      dmaLen w ≤ bs.length →
      (s.moveWrite (asHost port) (dmaSysAddr w) (bs.take (dmaLen w))).1 = .ok →
      Completes (.hostDmaDescComplete port c (some bs)) s fun t =>
        t.dmaMoving port c = rest ∧ t.reply = ⟨.ok, leBytes 2 1⟩ ∧ (∀ a : Nat, t.byte a = (s.moveWrite (asHost port) (dmaSysAddr w) (bs.take (dmaLen w))).2.byte a)) ∧
  (∀ (port c : Nat) (w : W256) (rest : List W256) (data : Option (List Byte)) (s : State),
      port < 2 →
      c < 4 →
      s.dmaMoving port c = w :: rest →
      dmaBad w = false →
      dmaDbe w = false →
      dmaLen w = 0 →
      Completes (.hostDmaDescComplete port c data) s fun t =>
        t.dmaMoving port c = rest ∧ t.reply = ⟨.ok, leBytes 2 1⟩ ∧ t.dmaFld fHI_DMA_TAIL_INDEX port c = s.ringAdd port c (s.dmaFld fHI_DMA_TAIL_INDEX port c) 1 % 65536 ∧ Only ({ regs := orReg (regsIn [.HI_DMA_CTL, .HI_DMA_TAIL] 60 (port * 4 + c)) (theReg .HI_MSIX_PBA 60 port), lats := latsOf [.msixSent], dma := true, reply := true }) s t) ∧
  (∀ (port c : Nat) (s : State),
      port < 2 →
      c < 4 →
      s.dmaFld fHI_DMA_CTL_ENABLE port c = 0 →
      s.dmaMoving port c = [] →
      Completes (.hostDmaIdle port c) s fun t =>
        t.dmaFld fHI_DMA_CTL_IDLE port c = 1 ∧ Only ({ regs := theReg .HI_DMA_CTL 60 (port * 4 + c) }) s t) ∧
  (∀ (port : Nat) (v : W64) (s : State),
      port < 2 →
      s.dieUp 60 = true →
      (∀ p : Nat, p < 16 → s.wpFld fWP_PORT_STAT_STATE p ≠ 4) →
      Completes (.hiPkgNumWrite port v) s fun t =>
        t.pkg = getBits v 11 0 ∧ Only ({ regs := theReg .HI_PKG_NUM 60 0 }) s t) ∧
  (∀ (port p : Nat) (v : W64) (s : State),
      port < 2 →
      s.dieUp 60 = true →
      p < 16 →
      s.wpFld fWP_PORT_STAT_STATE p = 4 →
      Completes (.hiPkgNumWrite port v) s fun t =>
        t.pkg = s.pkg ∧ Only (Change.recording {}) s t) ∧
  (∀ (port : Nat) (v : W64) (s : State),
      port < 2 →
      s.dieUp 60 = true →
      Completes (.hiBar2BaseWrite port v) s fun t =>
        t.reg .HI_BAR2_BASE 60 port = v &&& (maskOf 63 36 ||| 1) ∧ Only ({ regs := theReg .HI_BAR2_BASE 60 port }) s t)

/-- An enabled port whose expander is not refused becomes MAPPED with its capacity and serial number. A MAPPED port
whose link goes down becomes LOST. A RETRAIN from a host port or the active warden puts the port into TRAINING with
RETRAIN 1. Each new record of a MAPPED expander's event log is offered to the recorder in order. (R278, R279, R281,
R282, R283.) -/
def Obligations.CxlPortCommandsComplete : Prop :=
  (∀ (p : Nat) (x : Expander) (s : State),
      p < 4 →
      s.dieUp (60 + p / 2) = true →
      s.cxFld fCX_PORT_CTL_ENABLE p = 1 →
      s.cxFld fCX_PORT_STAT_STATE p ≤ 1 →
      s.cxlReason p x = 0 →
      Completes (.cxlPortBringup p x) s fun t =>
        t.cxFld fCX_PORT_STAT_STATE p = 2 ∧ t.cxFld fCX_PORT_STAT_CAP p = cxlCap x ∧ t.reg .CX_PORT_SN (60 + p / 2) (p % 2) = x.serial ∧ Only (Change.recording { regs := regsIn [.CX_PORT_CTL, .CX_PORT_STAT, .CX_PORT_SN] (60 + p / 2) (p % 2), lats := latsOf [.cxlWasSn, .cxlWasCap, .cxlWrote] }) s t) ∧
  (∀ (p : Nat) (s : State),
      p < 4 →
      s.cxFld fCX_PORT_STAT_STATE p = 2 →
      Completes (.cxlLinkDown p) s fun t =>
        t.cxFld fCX_PORT_STAT_STATE p = 4 ∧ t.cxFld fCX_PORT_STAT_SPEED p = 0 ∧ t.cxFld fCX_PORT_STAT_WIDTH p = 0 ∧ Only (Change.recording { regs := regsIn [.CX_PORT_CTL, .CX_PORT_STAT, .CX_PORT_SN] (60 + p / 2) (p % 2), lats := theLat .cxlWrote p 0 }) s t) ∧
  (∀ (m : Master) (p : Nat) (s : State),
      p < 4 →
      s.dieUp (60 + p / 2) = true →
      s.hostOrActive m = true →
      Completes (.cxlRetrain m p) s fun t =>
        t.cxFld fCX_PORT_STAT_STATE p = 1 ∧ t.cxFld fCX_PORT_CTL_RETRAIN p = 1) ∧
  (∀ (p : Nat) (recs : List Nat) (s : State),
      p < 4 →
      s.cxFld fCX_PORT_STAT_STATE p = 2 →
      Completes (.cxlEventLogPoll p recs) s fun t =>
        (t = recs.foldl (fun (u : State) r => u.wevent 0x3405 .note 0 (r % 2 ^ 128)) s) ∧ Only (Change.recording {}) s t)

/-- A DOWN port with TRAIN_EN negotiates and sends its pages. Pages that agree fix the highest shared rate, the lanes
both ends keep and the peer, and the port trains; trained without a failed lane it is HELD. A HELD port enters
ACTIVE for another package's port and leaves it when ENABLE is 0. A good data flit with the expected SEQ advances
it. A NAK acknowledges up to ACKSEQ and counts a replay of the rest. A retrain negotiates again; a port that failed
three times goes DOWN; a retired lane is shown; a retired port is RETIRED with no lane up. (R284, R285, R286, R287,
R288, R290, R291, R292, R293, R294, R295.) -/
def Obligations.WarpPortCommandsComplete : Prop :=
  (∀ (p : Nat) (s : State),
      p < 16 →
      s.warpUp p = true →
      s.wpFld fWP_PORT_CTL_TRAIN_EN p = 1 →
      s.wpFld fWP_PORT_STAT_STATE p = 0 →
      Completes (.warpNegotiateStart p) s fun t =>
        t.wpFld fWP_PORT_STAT_STATE p = 1 ∧ t.reply = ⟨.ok, s.warpPages p⟩ ∧ Only ({ regs := theReg .WP_PORT_STAT (warpDie p) (p % 4), reply := true }) s t) ∧
  (∀ (p rates versions peerPkg peerPort peerRetired : Nat) (s : State),
      p < 16 →
      s.warpUp p = true →
      s.wpFld fWP_PORT_STAT_STATE p = 1 →
      s.sharedRates p rates ≠ 0 →
      versions.testBit 1 = true →
      4 ≤ popc8 (255 - ((s.wpFld fWP_PORT_STAT_RETIRED_LANES p ||| peerRetired) % 256)) →
      peerPkg < 4096 →
      peerPort < 16 →
      Completes (.warpPagesExchanged p rates versions peerPkg peerPort peerRetired) s fun t =>
        t.wpFld fWP_PORT_STAT_STATE p = 2 ∧ t.wpFld fWP_PORT_STAT_RATE p = 2 ^ Nat.log2 (s.sharedRates p rates) ∧ t.wpFld fWP_PORT_STAT_LANES_UP p = 255 - ((s.wpFld fWP_PORT_STAT_RETIRED_LANES p ||| peerRetired) % 256) ∧ t.wpFld fWP_PORT_STAT_PEER_PKG p = peerPkg ∧ t.wpFld fWP_PORT_STAT_PEER_PORT p = peerPort ∧ Only ({ regs := theReg .WP_PORT_STAT (warpDie p) (p % 4), lats := theLat .warpPeer p 0 }) s t) ∧
  (∀ (p failed : Nat) (s : State),
      p < 16 →
      s.warpUp p = true →
      s.wpFld fWP_PORT_STAT_STATE p = 2 →
      failed &&& s.wpFld fWP_PORT_STAT_LANES_UP p = 0 →
      Completes (.warpTrainingDone p failed) s fun t =>
        t.wpFld fWP_PORT_STAT_STATE p = 3 ∧ t.wpFld fWP_PORT_CTL_RETRAIN p = 0 ∧ t.lat .warpFails p 0 = 0 ∧ Only ({ regs := regsIn [.WP_PORT_STAT, .WP_PORT_CTL, .WP_PORT_ERR, .WP_PORT_FEC] (warpDie p) (p % 4), lats := theLat .warpFails p 0 }) s t) ∧
  (∀ (p : Nat) (s : State),
      p < 16 →
      s.warpUp p = true →
      s.wpFld fWP_PORT_STAT_STATE p = 3 →
      s.wpFld fWP_PORT_CTL_ENABLE p = 1 →
      s.wpFld fWP_PORT_STAT_PEER_PKG p ≠ s.pkg →
      Completes (.warpEnterActive p) s fun t =>
        t.wpFld fWP_PORT_STAT_STATE p = 4 ∧ Only (Change.recording { regs := theReg .WP_PORT_STAT (warpDie p) (p % 4), lats := latsOf [.flowHold, .flowSince] }) s t) ∧
  (∀ (p : Nat) (s : State),
      p < 16 →
      s.wpFld fWP_PORT_STAT_STATE p = 4 →
      s.wpFld fWP_PORT_CTL_ENABLE p = 0 →
      Completes (.warpLeaveActive p) s fun t =>
        t.wpFld fWP_PORT_STAT_STATE p = 3 ∧ Only ({ regs := theReg .WP_PORT_STAT (warpDie p) (p % 4), lats := latsOf [.flowHold, .flowSince] }) s t) ∧
  (∀ (p : Nat) (x : Flit) (s : State),
      p < 16 →
      s.warpUp p = true →
      s.wpFld fWP_PORT_STAT_STATE p = 4 →
      x.kind = 1 →
      x.good = true →
      x.fec = true →
      x.ack = false →
      x.nak = false →
      x.dst = s.pkg →
      x.seq < 4096 →
      x.seq = s.lat .warpExpect p 0 →
      s.flitWaits x = false →
      Completes (.warpFlitReceive p x) s fun t =>
        t.lat .warpExpect p 0 = (x.seq + 1) % 4096 ∧ t.lat .warpDrop p 0 = 0) ∧
  (∀ (p ackseq : Nat) (s : State),
      p < 16 →
      s.warpUp p = true →
      3 ≤ s.wpFld fWP_PORT_STAT_STATE p →
      (ackseq % 4096 + 4096 - s.lat .warpAcked p 0) % 4096 ≠ 0 →
      (ackseq % 4096 + 4096 - s.lat .warpAcked p 0) % 4096 < s.lat .warpUnacked p 0 →
      Completes (.warpNakReceive p ackseq) s fun t =>
        t.lat .warpAcked p 0 = ackseq % 4096 ∧ t.lat .warpUnacked p 0 = s.lat .warpUnacked p 0 - (ackseq % 4096 + 4096 - s.lat .warpAcked p 0) % 4096 ∧ t.lat .warpReplays p 0 = 1 ∧ t.wpFld fWP_PORT_ERR_REPLAYS p = min (s.wpFld fWP_PORT_ERR_REPLAYS p + 1) 65535 ∧ Only (Change.recording { regs := theReg .WP_PORT_ERR (warpDie p) (p % 4), lats := latsOf [.warpAcked, .warpUnacked, .warpReplays] }) s t) ∧
  (∀ (p : Nat) (s : State),
      p < 16 →
      s.warpUp p = true →
      s.wpFld fWP_PORT_STAT_STATE p = 4 →
      8 ≤ s.lat .warpReplays p 0 →
      s.countsOnly 0x0D (warpUnit p) = true →
      Completes (.warpRetrain p) s fun t =>
        t.wpFld fWP_PORT_STAT_STATE p = 1 ∧ t.wpFld fWP_PORT_CTL_RETRAIN p = 1 ∧ t.lat .warpReplays p 0 = 0 ∧ Only (Change.recording { regs := regsIn [.WP_PORT_STAT, .WP_PORT_CTL, .WP_PORT_ERR, .WP_PORT_FEC] (warpDie p) (p % 4), lats := latsOf [.warpReplays, .flowHold, .flowSince], tallies := true }) s t) ∧
  (∀ (p silent : Nat) (s : State),
      p < 16 →
      s.warpUp p = true →
      s.wpFld fWP_PORT_STAT_STATE p = 2 →
      s.retraining p = true →
      3 ≤ s.lat .warpFails p 0 + silent →
      s.countsOnly 0x0E (warpUnit p) = true →
      Completes (.warpPortDown p silent []) s fun t =>
        t.wpFld fWP_PORT_STAT_STATE p = 0 ∧ t.wpFld fWP_PORT_STAT_LANES_UP p = 0 ∧ t.lat .warpUnacked p 0 = 0 ∧ Only (Change.recording { regs := regsIn [.WP_PORT_STAT, .WP_PORT_CTL, .WP_PORT_ERR, .WP_PORT_FEC] (warpDie p) (p % 4), lats := latsOf [.warpReplays, .warpUnacked, .warpDrop, .warpCredit, .warpFails, .flowHold, .flowSince], tallies := true }) s t) ∧
  (∀ (p l : Nat) (s : State),
      p < 16 →
      s.warpUp p = true →
      l < 8 →
      (s.wpFld fWP_PORT_STAT_RETIRED_LANES p).testBit l = false →
      s.countsOnly 0x0D (warpUnit p) = true →
      Completes (.warpLaneRetire p l) s fun t =>
        (t.wpFld fWP_PORT_STAT_RETIRED_LANES p).testBit l = true) ∧
  (∀ (p : Nat) (s : State),
      p < 16 →
      s.warpUp p = true →
      Completes (.warpPortRetire p) s fun t =>
        t.wpFld fWP_PORT_STAT_STATE p = 5 ∧ t.wpFld fWP_PORT_STAT_LANES_UP p = 0 ∧ t.isRetired (warpUnit p) = true)

/-- A write of a WP_ROUTE choice through XD0 by a host port or the active warden keeps its writable bits. The end of a
route hold clears it. While WP_GCFG.TIMEOUT_US is not zero, a request that waited that long completes with DIE_LOST:
a host's read by its answer, its write as a write does, its DMA channel's oldest descriptor with STATUS DATA_LOST
and the channel stopped, a spindle's by a machine check. (R297, R298, R300.) -/
def Obligations.RouteCommandsComplete : Prop :=
  (∀ (m : Master) (k : Nat) (v : W64) (s : State),
      k < 4096 →
      s.dieUp 56 = true →
      s.hostOrActive m = true →
      Completes (.wpRouteWrite m 0 k v) s fun t =>
        t.fld fWP_ROUTE_CHOICE 56 k = getBits v 31 0 &&& 0xCFCFCFCF ∧ Only ({ regs := theReg .WP_ROUTE 56 k, lats := latsOf [.flowHold, .flowSince] }) s t) ∧
  (∀ (pkg : Nat) (s : State),
      pkg < 4096 →
      Completes (.flowRouteHoldEnd pkg) s fun t =>
        t.lat .flowHold pkg 0 = 0 ∧ Only ({ lats := theLat .flowHold pkg 0 }) s t) ∧
  (∀ (port xd : Nat) (s : State),
      port < 2 →
      xd < 4 →
      s.fld fWP_GCFG_TIMEOUT_US 56 0 ≠ 0 →
      Completes (.remoteRequestTimeout xd ⟨.host port, .read⟩) s fun t =>
        t.reply = ⟨.dieLost, []⟩ ∧ Only (Change.recording { reply := true }) s t) ∧
  (∀ (port xd a : Nat) (s : State),
      port < 2 →
      xd < 4 →
      s.fld fWP_GCFG_TIMEOUT_US 56 0 ≠ 0 →
      Completes (.remoteRequestTimeout xd ⟨.host port, .write a⟩) s fun t =>
        t.reply = ⟨.ok, []⟩ ∧ Only (Change.recording { reply := true }) s t) ∧
  (∀ (port xd c : Nat) (w : W256) (rest : List W256) (s : State),
      port < 2 →
      xd < 4 →
      c < 4 →
      s.fld fWP_GCFG_TIMEOUT_US 56 0 ≠ 0 →
      s.dmaMoving port c = w :: rest →
      Completes (.remoteRequestTimeout xd ⟨.host port, .dma c⟩) s fun t =>
        t.dmaMoving port c = rest ∧ t.reply = ⟨.ok, leBytes 2 3⟩ ∧ t.dmaFld fHI_DMA_CTL_ERR port c = 1 ∧ t.dmaFld fHI_DMA_CTL_ENABLE port c = 0) ∧
  (∀ (sp xd : Nat) (s : State),
      xd < 4 →
      sp < 1536 →
      s.fld fWP_GCFG_TIMEOUT_US 56 0 ≠ 0 →
      s.spState sp = 3 →
      s.plyOf sp = none →
      s.countsOnly 0x01 (s.spUnit sp) = true →
      Completes (.remoteRequestTimeout xd ⟨.spindle sp, .read⟩) s fun t =>
        t.spFld fSPN_STAT_STATE sp = 5)

/-- A post by a master that may post, with the queue not full, puts the descriptor at the end of the queue where it
waits for the other members, and shows the number queued; a GROUP_LOAD at the head of an empty queue runs and loads
the members it read. When every member has posted the same SEQ the group's first descriptor begins. A collective
that has begun ends with its result written at DST and RESULT DONE. A lost member ends the group's collective with
MEMBER_LOST, and the group stays lost. (R302, R303, R306, R307, R308, R309.) -/
def Obligations.CollectiveCommandsComplete : Prop :=
  (∀ (m : Master) (v : W64) (s : State),
      s.dieUp 56 = true →
      s.mayPost m = true →
      s.coll.length < 16 →
      (s.collRead v).op = 1 →
      (s.collHead (s.collRead v).group).isNone = true ∧ s.collOwn (s.collRead v) = none →
      Completes (.collBroadcast m v) s fun t =>
        t.coll = s.coll ++ [s.collRead v] ∧ t.fld fWP_COLL_STAT_QUEUED 56 0 = s.coll.length + 1 ∧ Only ({ regs := theReg .WP_COLL_STAT 56 0, coll := true }) s t) ∧
  (∀ (m : Master) (v : W64) (s : State),
      s.dieUp 56 = true →
      s.mayPost m = true →
      s.coll.length < 16 →
      (s.collRead v).op = 2 →
      (s.collHead (s.collRead v).group).isNone = true ∧ s.collOwn (s.collRead v) = none →
      Completes (.collAllgather m v) s fun t =>
        t.coll = s.coll ++ [s.collRead v] ∧ t.fld fWP_COLL_STAT_QUEUED 56 0 = s.coll.length + 1 ∧ Only ({ regs := theReg .WP_COLL_STAT 56 0, coll := true }) s t) ∧
  (∀ (m : Master) (v : W64) (s : State),
      s.dieUp 56 = true →
      s.mayPost m = true →
      s.coll.length < 16 →
      (s.collRead v).op = 3 →
      (s.collHead (s.collRead v).group).isNone = true ∧ s.collOwn (s.collRead v) = none →
      Completes (.collAlltoall m v) s fun t =>
        t.coll = s.coll ++ [s.collRead v] ∧ t.fld fWP_COLL_STAT_QUEUED 56 0 = s.coll.length + 1 ∧ Only ({ regs := theReg .WP_COLL_STAT 56 0, coll := true }) s t) ∧
  (∀ (m : Master) (v : W64) (s : State),
      s.dieUp 56 = true →
      s.mayPost m = true →
      s.coll.length < 16 →
      (s.collRead v).op = 4 →
      (s.collHead (s.collRead v).group).isNone = true ∧ s.collOwn (s.collRead v) = none →
      Completes (.collReduceScatter m v) s fun t =>
        t.coll = s.coll ++ [s.collRead v] ∧ t.fld fWP_COLL_STAT_QUEUED 56 0 = s.coll.length + 1 ∧ Only ({ regs := theReg .WP_COLL_STAT 56 0, coll := true }) s t) ∧
  (∀ (m : Master) (v : W64) (s : State),
      s.dieUp 56 = true →
      s.mayPost m = true →
      s.coll.length < 16 →
      (s.collRead v).op = 5 →
      (s.collHead (s.collRead v).group).isNone = true ∧ s.collOwn (s.collRead v) = none →
      Completes (.collAllreduce m v) s fun t =>
        t.coll = s.coll ++ [s.collRead v] ∧ t.fld fWP_COLL_STAT_QUEUED 56 0 = s.coll.length + 1 ∧ Only ({ regs := theReg .WP_COLL_STAT 56 0, coll := true }) s t) ∧
  (∀ (m : Master) (v : W64) (s : State),
      s.dieUp 56 = true →
      s.mayPost m = true →
      s.coll = [] →
      (s.collRead v).op = 6 →
      s.groupCode (s.collRead v).count [s.pkg] = 0 →
      s.collBad (s.collRead v) 1 = false →
      (s.ownRead 56 (s.collRead v).src (4 * (s.collRead v).count)).1 = .ok →
      s.groupCode (s.collRead v).count (s.listRead (s.collRead v)) = 0 →
      (s.listRead (s.collRead v)).all (fun e => decide (e < 4096)) = true →
      Completes (.collGroupLoad m v) s fun t =>
        t.collGroup (s.collRead v).group = (s.listRead (s.collRead v)) ∧ t.coll = [] ∧ t.fld fWP_COLL_STAT_RESULT 56 0 = 0) ∧
  (∀ (g : Nat) (j : CollJob) (s : State),
      g < 16 →
      s.dieUp 56 = true →
      s.collHead g = some j →
      j.begun = false →
      j.op ≠ 6 →
      Completes (.collBegin g true) s fun t =>
        t.collHead g = some { j with begun := true } ∧ Only ({ coll := true }) s t) ∧
  (∀ (g : Nat) (j : CollJob) (sent : List (List Byte)) (s : State),
      g < 16 →
      s.dieUp 56 = true →
      s.coll = [j] →
      j.group = g →
      j.begun = true →
      j.op ≠ 1 →
      j.count ≠ 0 →
      (s.srcRead j).1 = .ok →
      (s.dstWrite j sent).1 = .ok →
      Completes (.collComplete g sent) s fun t =>
        t.coll = [] ∧ t.fld fWP_COLL_STAT_RESULT 56 0 = 0 ∧ (∀ a, t.byte a = (s.dstWrite j sent).2.byte a)) ∧
  (∀ (g : Nat) (j : CollJob) (s : State),
      g < 16 →
      s.dieUp 56 = true →
      s.coll = [j] →
      j.group = g →
      Completes (.collMemberLost g) s fun t =>
        t.coll = [] ∧ t.fld fWP_COLL_STAT_RESULT 56 0 = 6 ∧ t.lat .collLost g 0 = 1 ∧ Only (Change.recording { regs := theReg .WP_COLL_STAT 56 0, lats := theLat .collLost g 0, coll := true }) s t)

/-- From a master that may use a side: bytes are put into an outbound slot that is not POSTED; a post is POSTED and
rings the other side; WAIT and POST_WAIT leave the side WAITING where the other side does not wait; an
acknowledgement makes the other side's message ACKED with its result; RESET_IN empties the receiving side and aborts
the other side's message; software doorbell bits are set toward the other side. (R392, R393, R394, R395, R396,
R398.) -/
def Obligations.MailboxCommandsComplete : Prop :=
  (∀ (m : Master) (pair : Nat) (low : Bool) (off : Nat) (data : List Byte) (s : State),
      pair < 51 →
      s.mbMay m pair low = true →
      ((low = true ∧ 3 ≤ pair) → s.dieUp (pair - 3) = true) →
      off + data.length ≤ 256 →
      (s.mbSide pair low).outStatus ≠ 1 →
      Completes (.mbOutWrite m pair low off data) s fun t =>
        t.mbSide pair low = (s.mbSide pair low).putSlot off data ∧ Only ({ pairs := true }) s t) ∧
  (∀ (m : Master) (pair : Nat) (low : Bool) (s : State),
      pair < 51 →
      s.mbMay m pair low = true →
      ((low = true ∧ 3 ≤ pair) → s.dieUp (pair - 3) = true) →
      s.mbCanPost pair low = true →
      s.sideGone pair (!low) = false →
      Completes (.mbPost m pair low) s fun t =>
        (t.mbSide pair low).outStatus = 1 ∧ bitOf (t.mbSide pair (!low)).db 0 = true) ∧
  (∀ (m : Master) (pair : Nat) (low : Bool) (s : State),
      pair < 51 →
      s.mbMay m pair low = true →
      ((low = true ∧ 3 ≤ pair) → s.dieUp (pair - 3) = true) →
      (s.mbSide pair low).outStatus = 1 →
      (s.mbSide pair (!low)).wstat ≠ 1 →
      Completes (.mbWait m pair low) s fun t =>
        (t.mbSide pair low).wstat = 1 ∧ Only ({ pairs := true }) s t) ∧
  (∀ (m : Master) (pair : Nat) (low : Bool) (s : State),
      pair < 51 →
      s.mbMay m pair low = true →
      ((low = true ∧ 3 ≤ pair) → s.dieUp (pair - 3) = true) →
      s.mbCanPost pair low = true →
      s.sideGone pair (!low) = false →
      (s.mbSide pair (!low)).wstat ≠ 1 →
      Completes (.mbPostWait m pair low) s fun t =>
        (t.mbSide pair low).outStatus = 1 ∧ (t.mbSide pair low).wstat = 1) ∧
  (∀ (m : Master) (pair : Nat) (s : State),
      pair < 51 →
      pair ≠ 2 →
      s.mbMay m pair true = true →
      (3 ≤ pair → s.dieUp (pair - 3) = true) →
      Completes (.mbResetIn m pair true) s fun t =>
        (t.mbSide pair true).outStatus = 0 ∧ (t.mbSide pair true).wstat = 0 ∧ (t.mbSide pair false).slot = [] ∧ (t.mbSide pair false).outStatus = 3 ∧ Only (Change.recording {}) s t) ∧
  (∀ (m : Master) (pair : Nat) (low : Bool) (x : W32) (s : State),
      pair < 51 →
      s.mbMay m pair low = true →
      ((low = true ∧ 3 ≤ pair) → s.dieUp (pair - 3) = true) →
      (s.mbSide pair (!low)).outStatus = 1 →
      Completes (.mbAck m pair low x) s fun t =>
        (t.mbSide pair (!low)).outStatus = 2 ∧ sgetList 0 (t.mbSide pair (!low)).slot 8 4 = leBytes 4 x.toNat) ∧
  (∀ (m : Master) (pair : Nat) (low : Bool) (x : W32) (s : State),
      pair < 51 →
      s.mbMay m pair low = true →
      ((low = true ∧ 3 ≤ pair) → s.dieUp (pair - 3) = true) →
      Completes (.mbDbOutWrite m pair low x) s fun t =>
        (t.mbSide pair (!low)).db = (s.mbSide pair (!low)).db ||| softBits x)

/-- A warden's own write of HEALTHY is shown, the other being active and HEALTHY; one that has restarted then discards
its sticky block. The role passes by takeover from an active warden that is not HEALTHY to one that is, and by
HANDOVER to a HEALTHY standby with a good mirror while no channel is between states. A finished mirror copy sets
MIRROR_OK and gives the standby the same sticky block. The two writes of a kick reload the watchdog; an expiry
restarts the warden, so that it is not HEALTHY. (R381, R382, R383, R384, R386, R387, R388.) -/
def Obligations.WardenRoleCommandsComplete : Prop :=
  (∀ (w : Nat) (v : W64) (s : State),
      w < 2 →
      bitOf v 8 = true →
      s.lat .wardenHeld (62 + w) 0 = 0 →
      s.lat .noFirmware (62 + w) 0 = 0 →
      s.flag fWD_ROLE_ACTIVE (otherWarden (62 + w)) 0 = true →
      s.flag fWD_ROLE_HEALTHY (otherWarden (62 + w)) 0 = true →
      s.lat .restarted (62 + w) 0 = 0 →
      Completes (.healthyWrite (.warden w) w v) s fun t =>
        t.flag fWD_ROLE_HEALTHY (62 + w) 0 = true ∧ Only ({ regs := theReg .WD_ROLE (62 + w) 0, lats := theLat .fwSince (62 + w) 0 }) s t) ∧
  (∀ (w : Nat) (v : W64) (s : State),
      w < 2 →
      bitOf v 8 = true →
      s.lat .wardenHeld (62 + w) 0 = 0 →
      s.lat .noFirmware (62 + w) 0 = 0 →
      s.flag fWD_ROLE_ACTIVE (62 + w) 0 = false →
      s.flag fWD_ROLE_ACTIVE (otherWarden (62 + w)) 0 = true →
      s.flag fWD_ROLE_HEALTHY (otherWarden (62 + w)) 0 = true →
      s.lat .restarted (62 + w) 0 ≠ 0 →
      Completes (.healthyWrite (.warden w) w v) s fun t =>
        t.flag fWD_ROLE_HEALTHY (62 + w) 0 = true ∧ t.stickyOf (62 + w) = ⟨[], [], [], []⟩ ∧ t.stickyOf (otherWarden (62 + w)) = s.stickyOf (otherWarden (62 + w))) ∧
  (∀ (s : State),
      s.flag fWD_ROLE_ACTIVE s.aw 0 = true →
      s.flag fWD_ROLE_HEALTHY s.aw 0 = false →
      s.flag fWD_ROLE_HEALTHY (otherWarden s.aw) 0 = true →
      Completes (.wardenTakeover) s fun t =>
        t.flag fWD_ROLE_ACTIVE (otherWarden s.aw) 0 = true ∧ t.flag fWD_ROLE_ACTIVE s.aw 0 = false ∧ t.aw = otherWarden s.aw) ∧
  (∀ (m : Master) (v : W64) (s : State),
      bitOf v 0 = true →
      s.hostOrActive m = true →
      ((List.range 4).any fun c => [1, 2, 4].contains (s.fld fSV_STAT_PHASE s.aw c)) = false →
      s.flag fWD_ROLE_HEALTHY (otherWarden s.aw) 0 = true →
      s.flag fWD_ROLE_MIRROR_OK s.aw 0 = true →
      Completes (.handover m v) s fun t =>
        t.flag fWD_ROLE_ACTIVE (otherWarden s.aw) 0 = true ∧ t.flag fWD_ROLE_ACTIVE s.aw 0 = false ∧ t.aw = otherWarden s.aw) ∧
  (∀ (s : State),
      s.flag fWD_ROLE_ACTIVE s.aw 0 = true →
      s.lat .wardenHeld (otherWarden s.aw) 0 = 0 →
      Completes (.mirrorCopyDone) s fun t =>
        t.flag fWD_ROLE_MIRROR_OK s.aw 0 = true ∧ t.stickyOf (otherWarden s.aw) = s.sticky ∧ t.lat .restarted (otherWarden s.aw) 0 = 0) ∧
  (∀ (w : Nat) (v : W64) (s : State),
      w < 2 →
      getBits v 31 0 = 0xC3 →
      s.lat .wardenHeld (62 + w) 0 = 0 →
      Completes (.watchdogKick (.warden w) w v) s fun t =>
        t.lat .kicked (62 + w) 0 = 1 ∧ Only ({ lats := theLat .kicked (62 + w) 0 }) s t) ∧
  (∀ (w : Nat) (v : W64) (s : State),
      w < 2 →
      getBits v 31 0 = 0x3C →
      s.lat .wardenHeld (62 + w) 0 = 0 →
      s.lat .kicked (62 + w) 0 = 1 →
      Completes (.watchdogKick (.warden w) w v) s fun t =>
        t.lat .kicked (62 + w) 0 = 0 ∧ t.fld fWD_WDOG_STAT_REMAIN_MS (62 + w) 0 = 500 ∧ Only ({ regs := theReg .WD_WDOG_STAT (62 + w) 0, lats := orLat (theLat .kicked (62 + w) 0) (theLat .kickAt (62 + w) 0) }) s t) ∧
  (∀ (w : Nat) (s : State),
      w < 2 →
      s.lat .wardenHeld (62 + w) 0 = 0 →
      Completes (.watchdogExpire w) s fun t =>
        t.flag fWD_ROLE_HEALTHY (62 + w) 0 = false)

/-- A host's write of TEST or SERVICE that is in order is the die's phase. A read of a free lock makes the reader its
owner and answers ACQ with the owner; a read of a taken lock answers its owner and changes nothing. A write by the
holder frees the lock. Locks forced by the active warden are free. (R400, R402, R403, R405.) -/
def Obligations.PhaseAndLockCommandsComplete : Prop :=
  (∀ (port d : Nat) (v : W64) (s : State),
      d < 64 →
      s.phaseOk d (getBits v 1 0) = true →
      Completes (.wdDiePhaseWrite (.host port) d v) s fun t =>
        t.wfld fWD_DIE_PHASE_PHASE d = getBits v 1 0 ∧ Only ({ regs := regsAll [.WD_DIE_PHASE] d }) s t) ∧
  (∀ (m : Master) (n me : Nat) (s : State),
      n < 64 →
      ownerCode m = some me →
      s.wfld fLK_LOCK_OWNER n = 0 →
      Completes (.lockRead m n) s fun t =>
        t.wfld fLK_LOCK_OWNER n = me ∧ t.reply = ⟨.ok, leBytes 8 (me * 2 ^ 16 + 1)⟩ ∧ Only ({ regs := regsAll [.LK_LOCK] n, reply := true }) s t) ∧
  (∀ (m : Master) (n me : Nat) (s : State),
      n < 64 →
      ownerCode m = some me →
      s.wfld fLK_LOCK_OWNER n ≠ 0 →
      Completes (.lockRead m n) s fun t =>
        t.reply = ⟨.ok, leBytes 8 (s.wfld fLK_LOCK_OWNER n * 2 ^ 16)⟩ ∧ Only ({ reply := true }) s t) ∧
  (∀ (m : Master) (n me : Nat) (s : State),
      n < 64 →
      ownerCode m = some me →
      s.wfld fLK_LOCK_OWNER n = me →
      Completes (.lockWrite m n) s fun t =>
        t.wfld fLK_LOCK_OWNER n = 0 ∧ Only ({ regs := regsAll [.LK_LOCK] n }) s t) ∧
  (∀ (m : Master) (v : W64) (n : Nat) (s : State),
      n < 64 →
      s.isActive m = true →
      bitOf v n = true →
      Completes (.lkForce m v) s fun t =>
        t.wfld fLK_LOCK_OWNER n = 0 ∧ Only (Change.recording { regs := regsOf [.LK_LOCK] }) s t)

/-- An occurrence whose limit entry admits it, with the recorder not full, appends one record with the time, code, unit,
severity, the occurrences skipped since and the payload. CLEAR under button presence leaves at most the record of
the clear itself in either recorder. A rate-limit entry that breaks no rule is written with a full bucket. (R407,
R408, R409, R411.) -/
def Obligations.RecorderCommandsComplete : Prop :=
  (∀ (code sev unit payload : Nat) (s : State),
      code < 65536 →
      sev < 4 →
      unit < 65536 →
      s.admits code = true →
      s.wflag fEV_STAT_FULL 0 = false →
      Completes (.eventRecord code sev unit payload) s fun t =>
        t.sticky.records = s.sticky.records ++ [⟨BitVec.ofNat 64 s.now, code, unit, sev, s.aw - 62, s.lat .evSkipped 0 (s.limitEntry code), payload % 2 ^ 128⟩] ∧ Only (Change.recording {}) s t) ∧
  (∀ (m : Master) (v : W64) (s : State),
      bitOf v 0 = true →
      s.hostOrActive m = true →
      s.flag fFS_PRES_BUTTON s.aw 0 = true →
      Completes (.recorderClear m v) s fun t =>
        t.stickyA.records.length ≤ 1 ∧ t.stickyB.records.length ≤ 1 ∧ Only (Change.recording { regs := regsOf [.EV_CTL, .TB_FWD] }) s t) ∧
  (∀ (m : Master) (n : Nat) (v : W64) (s : State),
      n < 1024 →
      s.hostOrActive m = true →
      s.limitBad s.aw n v = false →
      Completes (.evLimitWrite m n v) s fun t =>
        t.reg .EV_LIMIT0 s.aw n = v ∧ t.lat .evDeficit 0 n = 0 ∧ t.lat .evLast 0 n = s.now ∧ Only ({ regs := regsAll [.EV_LIMIT0] n, lats := fun l d i => theLat .evDeficit 0 n l d i || theLat .evLast 0 n l d i }) s t)

/-- An assertion of PRESENCE_N opens the 120 s window; its end closes it; a stuck button closes it and is shown. A new
reading of the seal loop is shown, and an opening counts in WD-A's seal counter. A program with jumper presence and
no program running makes the fuse command busy with its word and bits; when it is read back the word holds what was
blown and the result says whether all of it was. (R413, R414, R415, R417.) -/
def Obligations.PresenceAndFuseCommandsComplete : Prop :=
  (∀ (rested : Bool) (s : State),
      (s.flag fFS_PRES_BTN_STUCK s.aw 0 && !rested) = false →
      Completes (.presenceButton rested) s fun t =>
        t.flag fFS_PRES_BUTTON 62 0 = true ∧ t.flag fFS_PRES_BUTTON 63 0 = true ∧ t.fld fFS_PRES_BTN_REMAIN s.aw 0 = 120 ∧ Only (Change.recording { regs := regsOf [.FS_PRES], lats := latsOf [.btnAt] }) s t) ∧
  (∀ (s : State),
      Completes (.buttonWindowEnd) s fun t =>
        t.flag fFS_PRES_BUTTON 62 0 = false ∧ t.flag fFS_PRES_BUTTON 63 0 = false ∧ Only ({ regs := regsOf [.FS_PRES] }) s t) ∧
  (∀ (s : State),
      Completes (.buttonStuck) s fun t =>
        t.flag fFS_PRES_BTN_STUCK s.aw 0 = true ∧ t.flag fFS_PRES_BUTTON s.aw 0 = false ∧ Only (Change.recording { regs := regsOf [.FS_PRES] }) s t) ∧
  (∀ (reading : Nat) (s : State),
      reading < 3 →
      reading ≠ s.fld fFS_PRES_SEAL s.aw 0 →
      Completes (.sealLoopChange reading) s fun t =>
        t.fld fFS_PRES_SEAL s.aw 0 = reading ∧ Only (Change.recording { regs := regsOf [.FS_PRES, .FS_SEAL_CNT] }) s t) ∧
  (∀ (s : State),
      s.fld fFS_PRES_SEAL s.aw 0 ≠ 1 →
      s.lat .wardenHeld 62 0 = 0 →
      Completes (.sealLoopChange 1) s fun t =>
        t.fld fFS_SEAL_CNT_CNT_A 62 0 = min (s.fld fFS_SEAL_CNT_CNT_A 62 0 + 1) 4095 ∧ Only (Change.recording { regs := regsOf [.FS_PRES, .FS_SEAL_CNT] }) s t) ∧
  (∀ (m : Master) (w : Nat) (v : W64) (s : State),
      w < 2 →
      s.hostOrActive m = true →
      s.flag fFS_PRES_JUMPER (62 + w) 0 = true →
      getBits v 3 0 = 1 →
      s.flag fFS_FUSE_STAT_BUSY (62 + w) 0 = false →
      Completes (.fuseProgram m w v) s fun t =>
        t.flag fFS_FUSE_STAT_BUSY (62 + w) 0 = true ∧ t.lat .fuseWord (62 + w) 0 = s.fld fFS_FUSE_PGM_WORD (62 + w) 0 ∧ t.lat .fuseData (62 + w) 0 = s.fld fFS_FUSE_PGM_DATA (62 + w) 0 ∧ Only ({ regs := theReg .FS_FUSE_STAT (62 + w) 0, lats := fun l d i => theLat .fuseWord (62 + w) 0 l d i || theLat .fuseData (62 + w) 0 l d i }) s t) ∧
  (∀ (w : Nat) (reads : W32) (s : State),
      w < 2 →
      s.flag fFS_FUSE_STAT_BUSY (62 + w) 0 = true →
      Completes (.fuseProgramDone w reads) s fun t =>
        t.flag fFS_FUSE_STAT_BUSY (62 + w) 0 = false ∧ t.fld fFS_FUSE_BANK_BITS (62 + w) (s.lat .fuseWord (62 + w) 0) = s.fld fFS_FUSE_BANK_BITS (62 + w) (s.lat .fuseWord (62 + w) 0) ||| (s.lat .fuseData (62 + w) 0 &&& reads.toNat) ∧ Only (Change.recording { regs := regsOf [.FS_FUSE_STAT, .FS_FUSE_BANK] }) s t)

/-- An occurrence at a unit in service, within its class's threshold, raises the unit's tally and changes nothing else;
one of a class whose COUNT is 0 and whose ACTION is to retire the unit retires it. A legal threshold write takes
effect. An injected class 0x00 waits at its spindle. CLEAR of the retirement log with seal presence empties it.
(R343, R344, R345, R347, R354, R378.) -/
def Obligations.FaultCommandsComplete : Prop :=
  (∀ (cls unit : Nat) (s : State),
      cls < 32 →
      unit < 65536 →
      s.isRetired unit = false →
      s.nextTally cls unit ≤ s.wfld fWD_FLT_THR_COUNT cls →
      Completes (.errorOccurrence cls unit) s fun t =>
        (sget (0, 0) t.sticky.tallies (unit * 32 + cls)).1 = s.nextTally cls unit ∧ Only ({ tallies := true }) s t) ∧
  (∀ (cls unit : Nat) (s : State),
      cls < 32 →
      unit < 62 * 1024 →
      s.isRetired unit = false →
      s.wfld fWD_FLT_THR_COUNT cls = 0 →
      s.wfld fWD_FLT_THR_ACTION cls = 1 →
      Completes (.errorOccurrence cls unit) s fun t =>
        t.isRetired unit = true) ∧
  (∀ (m : Master) (c : Nat) (v : W64) (s : State),
      c < 32 →
      s.hostOrActive m = true →
      thrBad c v = false →
      Completes (.wdFltThrWrite m c v) s fun t =>
        t.wfld fWD_FLT_THR_COUNT c = getBits v 47 32 ∧ t.wfld fWD_FLT_THR_WINDOW_MS c = getBits v 31 0 ∧ t.wfld fWD_FLT_THR_ACTION c = getBits v 55 52 ∧ Only ({ regs := regsAll [.WD_FLT_THR] c }) s t) ∧
  (∀ (m : Master) (v : W64) (s : State),
      s.hostOrActive m = true →
      s.flag fFS_PRES_JUMPER s.aw 0 = true →
      bitOf v 8 = true →
      getBits v 4 0 = 0 →
      Completes (.faultInject m v) s fun t =>
        t.lat .injReplay (getBits v 31 16) 0 = 1 ∧ t.wfld fWD_FLT_INJECT_GO 0 = 0 ∧ Only (Change.recording { regs := regsOf [.WD_FLT_INJECT], lats := theLat .injReplay (getBits v 31 16) 0 }) s t) ∧
  (∀ (m : Master) (v : W64) (s : State),
      s.hostOrActive m = true →
      s.fld fFS_PRES_SEAL s.aw 0 = 1 →
      bitOf v 0 = true →
      Completes (.retirementLogClear m v) s fun t =>
        t.retLog = [] ∧ t.wfld fWD_RET_STAT_FREE 0 = 1024 ∧ Only (Change.recording { regs := regsOf [.WD_RET_CLEAR, .WD_RET_STAT], flash := true }) s t)

/-- With PHASE 0 and every check passed, ENROL takes the lowest free entry for the unit, RELEASE frees its entry,
FORCE_COMMIT raises the epoch and clears ANCHORED, and ROLLBACK makes a rollback due; in HELD, RESUME ends HELD.
Each of these answers RESULT 0. A reserved OP answers RESULT 1. WD_EP_GRP_CFG is written while no unit is enrolled.
(R356, R359, R362, R363, R365, R372, R377.) -/
def Obligations.EpochCommandsComplete : Prop :=
  (∀ (m : Master) (v : W64) (i : Nat) (ms : List (Nat × Nat)) (s : State),
      s.hostOrActive m = true →
      v &&& epReserved = 0 →
      getBits v 3 0 = 1 →
      s.wfld fWD_EP_STAT_PHASE 0 = 0 →
      s.unitMembers (getBits v 63 52) (getBits v 42 32) = some ms →
      s.membersHalted (getBits v 63 52) (getBits v 42 32) = true →
      s.enrolment (getBits v 63 52) (getBits v 42 32) = none →
      s.freeEnt = some i →
      s.snapOk (s.wreg .WD_EP_ARG 0).toNat ms.length = true →
      Completes (.epEnrol m v) s fun t =>
        t.wfld fWD_EP_ENT0_STATE i = 1 ∧ t.wfld fWD_EP_ENT0_SPINDLE i = getBits v 42 32 ∧ t.wfld fWD_EP_ENT0_PKG i = getBits v 63 52 ∧ t.wreg .WD_EP_ENT1 i = s.wreg .WD_EP_ARG 0 ∧ t.wfld fWD_EP_STAT_RESULT 0 = 0) ∧
  (∀ (m : Master) (v : W64) (i : Nat) (s : State),
      s.hostOrActive m = true →
      v &&& epReserved = 0 →
      getBits v 3 0 = 2 →
      s.wfld fWD_EP_STAT_PHASE 0 = 0 →
      (s.unitMembers (getBits v 63 52) (getBits v 42 32)).isSome = true →
      s.unitHalted (getBits v 63 52) (getBits v 42 32) = true →
      s.enrolment (getBits v 63 52) (getBits v 42 32) = some i →
      Completes (.epRelease m v) s fun t =>
        t.wreg .WD_EP_ENT0 i = 0 ∧ t.wreg .WD_EP_ENT1 i = 0 ∧ t.wfld fWD_EP_STAT_RESULT 0 = 0 ∧ Only (Change.recording { regs := fun r d j => regsOf [.WD_EP_CMD, .WD_EP_STAT] r d j || regsAll [.WD_EP_ENT0, .WD_EP_ENT1] i r d j }) s t) ∧
  (∀ (m : Master) (v : W64) (s : State),
      s.hostOrActive m = true →
      v &&& epReserved = 0 →
      getBits v 3 0 = 3 →
      s.wfld fWD_EP_STAT_PHASE 0 = 0 →
      Completes (.epForceCommit m v) s fun t =>
        t.wreg .WD_EP_EPOCH 0 = BitVec.ofNat 64 (s.epochC + 1) ∧ t.wflag fWD_EP_STAT_ANCHORED 0 = false ∧ t.wfld fWD_EP_STAT_RESULT 0 = 0) ∧
  (∀ (m : Master) (v : W64) (s : State),
      s.hostOrActive m = true →
      v &&& epReserved = 0 →
      getBits v 3 0 = 4 →
      s.wfld fWD_EP_STAT_PHASE 0 = 0 →
      Completes (.epRollback m v) s fun t =>
        t.lat .rollbackDue 0 0 ≠ 0 ∧ t.wfld fWD_EP_STAT_RESULT 0 = 0 ∧ Only ({ regs := regsOf [.WD_EP_CMD, .WD_EP_STAT], lats := latsOf [.rollbackDue, .rollbackFail] }) s t) ∧
  (∀ (m : Master) (v : W64) (s : State),
      s.hostOrActive m = true →
      v &&& epReserved = 0 →
      getBits v 3 0 = 4 →
      s.wfld fWD_EP_STAT_PHASE 0 = 5 →
      Completes (.epRollback m v) s fun t =>
        t.wfld fWD_EP_STAT_PHASE 0 = 2 ∧ t.lat .unguarded 0 0 = 1 ∧ Only ({ regs := regsOf [.WD_EP_CMD, .WD_EP_STAT], lats := theLat .unguarded 0 0 }) s t) ∧
  (∀ (m : Master) (v : W64) (s : State),
      s.hostOrActive m = true →
      v &&& epReserved = 0 →
      getBits v 3 0 = 5 →
      s.wfld fWD_EP_STAT_PHASE 0 = 5 →
      Completes (.epResume m v) s fun t =>
        t.wfld fWD_EP_STAT_PHASE 0 = 0 ∧ t.lat .rollbackFail 0 0 = 0 ∧ t.wfld fWD_EP_STAT_RESULT 0 = 0) ∧
  (∀ (m : Master) (v : W64) (s : State),
      s.hostOrActive m = true →
      getBits v 3 0 = 0 ∨ 6 ≤ getBits v 3 0 →
      s.wfld fWD_EP_STAT_PHASE 0 = 0 →
      Completes (.epBadCommand m v) s fun t =>
        t.wfld fWD_EP_STAT_RESULT 0 = 1 ∧ Only (Change.recording { regs := regsOf [.WD_EP_CMD, .WD_EP_STAT] }) s t) ∧
  (∀ (m : Master) (v : W64) (s : State),
      s.hostOrActive m = true →
      s.entries = [] →
      s.populated (getBits v 63 13 * 2 ^ 13) (4 * getBits v 12 0) = true →
      (groupNames (getBits v 12 0) (s.sysBytes (getBits v 63 13 * 2 ^ 13) (4 * getBits v 12 0))).filter (fun k => k == s.pkg) = [s.pkg] →
      Completes (.epGrpCfgWrite m v) s fun t =>
        t.wreg .WD_EP_GRP_CFG 0 = v ∧ Only ({ regs := regsOf [.WD_EP_GRP_CFG] }) s t)

/-- With every enrolled unit READY, no rollback due and no group, the package is COMMITTING; its commit point raises the
epoch, sets ANCHORED and ends in PHASE 0. A member's READY is held by the leader until all are; COMMIT starts a
member's commit; ABORT, ROLLBACK and a member out of reach make a rollback due. A rollback that is due stops the
units, then, once no quarry has a change under way, rolls the quarries back, then restores; without the guarantee it
ends in PHASE 0, and otherwise in PHASE 0 or HELD. (R358, R364, R365, R366, R367, R371, R377.) -/
def Obligations.CommitAndRollbackCommandsComplete : Prop :=
  (∀ (s : State),
      s.wfld fWD_EP_STAT_PHASE 0 = 0 →
      s.lat .rollbackDue 0 0 = 0 →
      s.entries ≠ [] →
      s.entries.all (fun i => s.wfld fWD_EP_ENT0_STATE i == 2) = true →
      s.group = [] →
      Completes (.epochCommit) s fun t =>
        t.wfld fWD_EP_STAT_PHASE 0 = 1) ∧
  (∀ (s : State),
      s.wfld fWD_EP_STAT_PHASE 0 = 1 →
      Completes (.epochCommitPoint) s fun t =>
        t.wreg .WD_EP_EPOCH 0 = BitVec.ofNat 64 (s.epochC + 1) ∧ t.wflag fWD_EP_STAT_ANCHORED 0 = true ∧ t.wfld fWD_EP_STAT_PHASE 0 = 0) ∧
  (∀ (pkg : Nat) (s : State),
      pkg < 4096 →
      s.groupLeader = s.pkg →
      s.group.contains pkg = true →
      s.wfld fWD_EP_STAT_PHASE 0 = 0 →
      (s.group.any fun k => k != pkg && s.lat .groupReady k 0 == 0) = true →
      Completes (.groupReadyMessage pkg) s fun t =>
        t.lat .groupReady pkg 0 = 1 ∧ Only ({ lats := theLat .groupReady pkg 0 }) s t) ∧
  (∀ (s : State),
      s.lat .groupSent 0 0 ≠ 0 →
      s.wfld fWD_EP_STAT_PHASE 0 = 0 →
      Completes (.groupCommitMessage) s fun t =>
        t.wfld fWD_EP_STAT_PHASE 0 = 1) ∧
  (∀ (pkg : Nat) (s : State),
      pkg < 4096 →
      s.groupLeader = s.pkg →
      s.group.contains pkg = true →
      s.wfld fWD_EP_STAT_PHASE 0 = 0 →
      Completes (.groupAbortMessage pkg) s fun t =>
        t.lat .rollbackDue 0 0 ≠ 0 ∧ Only ({ lats := latsOf [.groupMsg, .groupReady, .rollbackDue, .rollbackFail] }) s t) ∧
  (∀ (s : State),
      s.group ≠ [] →
      s.wfld fWD_EP_STAT_PHASE 0 = 0 →
      Completes (.groupRollbackMessage) s fun t =>
        t.lat .rollbackDue 0 0 ≠ 0 ∧ t.lat .groupSent 0 0 = 0 ∧ Only ({ lats := latsOf [.groupSent, .rollbackDue, .rollbackFail] }) s t) ∧
  (∀ (pkg : Nat) (s : State),
      pkg < 4096 →
      s.groupLeader = s.pkg →
      s.group.contains pkg = true →
      s.wfld fWD_EP_STAT_PHASE 0 = 0 →
      Completes (.groupMemberTimeout pkg) s fun t =>
        t.lat .rollbackDue 0 0 ≠ 0 ∧ (t.lat .rollbackFail 0 0).testBit 6 = true ∧ Only (Change.recording { lats := latsOf [.groupMsg, .groupReady, .rollbackDue, .rollbackFail] }) s t) ∧
  (∀ (s : State),
      s.lat .rollbackDue 0 0 ≠ 0 →
      s.wfld fWD_EP_STAT_PHASE 0 = 0 →
      s.lat .groupSent 0 0 = 0 →
      s.lat .rollbackFail 0 0 = 0 →
      s.countsOnly 0x12 0xFFFF = true →
      Completes (.rollbackStart) s fun t =>
        t.wfld fWD_EP_STAT_PHASE 0 = 2 ∧ t.lat .rollbackDue 0 0 = 0) ∧
  (∀ (s : State),
      s.wfld fWD_EP_STAT_PHASE 0 = 2 →
      s.lat .rollbackFail 0 0 = 0 →
      s.quarries.all (fun d => !s.changeOn d) = true →
      Completes (.rollbackStopDone) s fun t =>
        t.wfld fWD_EP_STAT_PHASE 0 = 3 ∧ (s.quarries.all (fun d => t.lat .rollingBack d 0 == 1 && t.flag fQD_SKEIN_STAT_QUIESCED d 0) = true) ∧ Only ({ regs := regsOf [.WD_EP_STAT, .QD_SKEIN_STAT], lats := latsOf [.rollingBack, .quiesceDue] }) s t) ∧
  (∀ (s : State),
      s.wfld fWD_EP_STAT_PHASE 0 = 3 →
      s.quarries.all (fun d => s.lat .rollingBack d 0 == 0) = true →
      s.lat .unguarded 0 0 ≠ 0 →
      Completes (.rollbackQuarriesDone) s fun t =>
        t.wfld fWD_EP_STAT_PHASE 0 = 0 ∧ t.lat .unguarded 0 0 = 0) ∧
  (∀ (s : State),
      s.wfld fWD_EP_STAT_PHASE 0 = 3 →
      s.quarries.all (fun d => s.lat .rollingBack d 0 == 0) = true →
      s.lat .rollbackFail 0 0 = 0 →
      Completes (.rollbackQuarriesDone) s fun t =>
        (t.wfld fWD_EP_STAT_PHASE 0 = 0 ∨ t.wfld fWD_EP_STAT_PHASE 0 = 5))

/-- A conversion of a hot spot of a die that is up shows both diodes after their offsets and the delay thermometer; one
of a pair without registers keeps its readings. The soak of a bring-up sets SOAKED. A die idle burst counts in
BURSTS of every hot spot of the die; the first point of a twin idle burst is the mean of its diodes, with one
temperature and so D_UNCAL. Power references that agree to 0.05 % change nothing, and the warning of two that do not
is a record. The meter trim scales the meters' sum to P_IN less losses. A steady heat balance over the held readings
is VALID and shows Q_HB; one with fewer than 10 s of them, an invalid one among them, a P_IN that varied by 5 % or a
rise below MIN_DT is not VALID. A calibration write within its legal range is taken. (R330, R331, R332, R333, R334,
R336, R337, R338, R339, R340.) -/
def Obligations.CalibrationCommandsComplete : Prop :=
  (∀ (d k : Nat) (ta tb td : Int) (bad : Nat) (s : State),
      d < 48 →
      k < 34 →
      s.dieUp d = true →
      Completes (.diodeConversion d k ta tb td bad) s fun t =>
        t.fld fTH_HS_TEMP_TA d k = ofSigned 16 (diodeReading (signedOf 32 (ofSigned 32 ta)) (s.diodeOfs d k diodeA)) ∧ t.fld fTH_HS_TEMP_TB d k = ofSigned 16 (diodeReading (signedOf 32 (ofSigned 32 tb)) (s.diodeOfs d k diodeB)) ∧ t.fld fTH_HS_TEMP_TD d k = ofSigned 16 (s.delayTemp d k td) ∧ Only (Change.recording { regs := theReg .TH_HS_TEMP d k, lats := fun l e i => [Lat.rawA, .rawB, .rawD, .sameA, .sameB].contains l && e == d && i == k }) s t) ∧
  (∀ (d k : Nat) (ta tb td : Int) (bad : Nat) (s : State),
      48 ≤ d →
      isDiodePair d k = true →
      62 ≤ d ∨ s.dieUp d = true →
      Completes (.diodeConversion d k ta tb td bad) s fun t =>
        t.lat .diodeA d k = ofSigned 16 (diodeReading (signedOf 32 (ofSigned 32 ta)) (s.diodeOfs d k diodeA)) ∧ t.lat .diodeB d k = ofSigned 16 (diodeReading (signedOf 32 (ofSigned 32 tb)) (s.diodeOfs d k diodeB)) ∧ Only ({ lats := fun l e i => [Lat.sameA, .sameB, .diodeA, .diodeB, .diodeFault, .rawA, .rawB].contains l && e == d && i == k }) s t) ∧
  (∀ (d k : Nat) (ta tb td : Int) (bad : Nat) (s : State),
      d < 62 →
      isDiodePair d k = true →
      s.dieUp d = false →
      Completes (.diodeConversion d k ta tb td bad) s fun t =>
        Only ({}) s t) ∧
  (∀ (s : State),
      s.pkgState = 3 →
      s.wfld fWD_PKG_STAT_STEP 0 = 6 →
      s.wflag fTH_HB_STAT_SOAKED 0 = false →
      Completes (.soakEnd) s fun t =>
        t.wflag fTH_HB_STAT_SOAKED 0 = true ∧ (∀ d : Nat, d < 48 → s.dieUp d = true → ∀ k : Nat, k < 34 → t.fld fTH_HS_CAL_DRIFT d k = 0) ∧ Only (Change.recording { regs := regsOf [.TH_HS_CAL, .TH_HS_TEMP, .TH_HB_STAT, .TH_DT], lats := latsOf [.soakDiff, .dLow, .dHigh, .dLowRaw, .dHighRaw, .ofsFault, .dtZero, .ofsA, .ofsB, .diodeA, .diodeB, .diodeFault] }) s t) ∧
  (∀ (d : Nat) (s : State),
      d < 48 →
      s.dieUp d = true →
      Completes (.dieIdleBurst d) s fun t =>
        (∀ k : Nat, k < 34 → t.fld fTH_HS_CAL_BURSTS d k = min (s.fld fTH_HS_CAL_BURSTS d k + 1) 65535) ∧ Only (Change.recording { regs := regsAt [.TH_HS_CAL, .TH_HS_TEMP] d, lats := fun l e _ => [Lat.dLow, .dHigh, .dLowRaw, .dHighRaw, .ofsFault, .ofsA, .ofsB].contains l && e == d }) s t) ∧
  (∀ (d : Nat) (s : State),
      48 ≤ d →
      d < 62 → s.dieUp d = true →
      d < 64 →
      Completes (.dieIdleBurst d) s fun t =>
        Only (Change.recording { lats := fun l e _ => [Lat.diodeA, .diodeB, .ofsFault, .diodeFault, .ofsA, .ofsB].contains l && e == d }) s t) ∧
  (∀ (d k : Nat) (x : Int) (s : State),
      d < 48 →
      k < 17 →
      s.dieUp d = true →
      s.lat .dLow d (2 * k) = 0 →
      s.lat .dHigh d (2 * k) = 0 →
      x = (s.diodeAt d (2 * k) diodeA + s.diodeAt d (2 * k) diodeB) / 2 →
      Completes (.twinIdleBurst d k) s fun t =>
        t.lat .dLow d (2 * k) = ofSigned 16 x + 1 ∧ t.lat .dHigh d (2 * k) = ofSigned 16 x + 1 ∧ t.flag fTH_HS_TEMP_D_UNCAL d (2 * k) = true ∧ Only ({ regs := regsAt [.TH_HS_TEMP] d, lats := fun l e i => [Lat.dLow, .dHigh, .dLowRaw, .dHighRaw].contains l && e == d && i / 2 == k }) s t) ∧
  (∀ (a b : Nat) (s : State),
      (max a b - min a b) * 2000 ≤ a →
      Completes (.powerReferenceCheck a b) s fun t =>
        Only ({}) s t) ∧
  (∀ (a b : Nat) (s : State),
      a < (max a b - min a b) * 2000 →
      s.admits 0x4405 = true →
      s.wflag fEV_STAT_FULL 0 = false →
      Completes (.powerReferenceCheck a b) s fun t =>
        t.sticky.records.length = s.sticky.records.length + 1 ∧ Only (Change.recording {}) s t) ∧
  (∀ (losses sum : Nat) (s : State),
      sum = ((List.range 64).map fun d => s.lat .dieMw d 0).sum →
      0 < sum →
      losses < s.fld fPW_IN_MEAS_P_IN 62 0 →
      Completes (.meterTrim losses) s fun t =>
        (t.lat .meterTrim 0 0 = (if s.lat .meterTrim 0 0 = 0 then 1000000 else s.lat .meterTrim 0 0 - 1) * (s.fld fPW_IN_MEAS_P_IN 62 0 - losses) / sum + 1) ∧ Only ({ lats := theLat .meterTrim 0 0 }) s t) ∧
  (∀ (l late early : List HeatSum) (inlet rise pin : Int) (s : State),
      l = s.heat.filter (fun h => h.n == 1000) →
      late = l.take 10 →
      early = (l.drop (s.wfld fTH_CAL_HB_LAG 0)).take 10 →
      inlet = (early.map fun h => h.inlet).sum / 10000 →
      rise = ((late.map fun h => h.outlet).sum - (early.map fun h => h.inlet).sum) / 1000 - signedOf 32 (s.lat .dtZero 0 0) →
      100 ≤ l.length →
      (∀ h ∈ l, h.ok = true) →
      (∀ a ∈ l, ∀ b ∈ l, 0 < a.hi ∧ 19 * a.hi < 20 * b.lo) →
      pin = ((early.map fun h => h.pin).sum / 10000 : Nat) →
      (s.wfld fTH_CAL_HB_MIN_DT 0 : Int) * 1000 ≤ rise →
      0 < pin * (10000 - (s.wfld fTH_CAL_HB_LOSS 0 : Int)) →
      0 < s.heatCap inlet rise * rise →
      Completes (.heatBalance) s fun t =>
        t.wflag fTH_HB_STAT_VALID 0 = true ∧ t.wfld fTH_FLOW_Q_HB 0 = (roundDiv (pin * (10000 - (s.wfld fTH_CAL_HB_LOSS 0 : Int)) * 120000000) (s.heatCap inlet rise * rise)).toNat % 2 ^ 32 ∧ Only (Change.recording { regs := regsOf [.TH_FLOW, .TH_HB_STAT, .TH_HB_TRIM], lats := latsOf [.lastGood, .hbGood, .trimAcc] }) s t) ∧
  (∀ (l : List HeatSum) (s : State),
      l = s.heat.filter (fun h => h.n == 1000) →
      l.length < 100 ∨ (∃ h ∈ l, h.ok = false) ∨ (∃ a ∈ l, ∃ b ∈ l, 20 * b.lo ≤ 19 * a.hi) →
      Completes (.heatBalance) s fun t =>
        t.wflag fTH_HB_STAT_VALID 0 = false ∧ Only ({ regs := regsOf [.TH_HB_STAT], lats := theLat .lastGood 0 0 }) s t) ∧
  (∀ (l late early : List HeatSum) (inlet rise : Int) (s : State),
      l = s.heat.filter (fun h => h.n == 1000) →
      late = l.take 10 →
      early = (l.drop (s.wfld fTH_CAL_HB_LAG 0)).take 10 →
      inlet = (early.map fun h => h.inlet).sum / 10000 →
      rise = ((late.map fun h => h.outlet).sum - (early.map fun h => h.inlet).sum) / 1000 - signedOf 32 (s.lat .dtZero 0 0) →
      rise < (s.wfld fTH_CAL_HB_MIN_DT 0 : Int) * 1000 →
      Completes (.heatBalance) s fun t =>
        t.wflag fTH_HB_STAT_VALID 0 = false ∧ Only ({ regs := regsOf [.TH_HB_STAT], lats := theLat .lastGood 0 0 }) s t) ∧
  (∀ (m : Master) (k : Nat) (v : W64) (s : State),
      k < 67 →
      s.hostOrActive m = true →
      calLegal k v = true →
      Completes (.calibrationWrite m k v) s fun t =>
        (t.wreg (calReg k).1 (calReg k).2 = writtenValue (calReg k).1 (fun _ => true) (s.wreg (calReg k).1 (calReg k).2) v) ∧ Only ({ regs := regsAll [(calReg k).1] (calReg k).2 }) s t) ∧
  (∀ (m : Master) (v : W64) (s : State),
      s.hostOrActive m = true →
      3000 ≤ getBits v 31 16 →
      getBits v 31 16 ≤ 4300 →
      Completes (.calibrationWrite m 0 v) s fun t =>
        t.wfld fTH_CAL_FLUID_C_VOL 0 = getBits v 31 16 ∧ t.wfld fTH_CAL_FLUID_DC_VOL 0 = getBits v 15 0 ∧ Only ({ regs := regsAll [.TH_CAL_FLUID] 0 }) s t)

/-- A policy cycle shows P_IN and puts the lowest cap in force, with its source, in TH_CAP. A host's order with a cap of
at most 7,200 W stands in TH_ORDER_HOST and makes the effective state; the end of a drain ends DRAIN and makes the
orders that gave it count as STANDBY. A tenancy map takes the entries of spindles that are HALTED or OFF; shares
that sum to at most 1,000 are taken. Policy registers in range are written under presence, a curve waits for the
next cycle, and one that waits answers RESULT 2. A stack temperature is shown, with the halving of its slots above
95 °C ended below 90 °C. (R419, R421, R422, R423, R424, R425, R442, R443, R445, R448, R449, R450.) -/
def Obligations.PolicyCommandsComplete : Prop :=
  (∀ (r : Readings) (s : State),
      r.pin < 2 ^ 32 →
      Completes (.policyCycle r) s fun t =>
        t.fld fPW_IN_MEAS_P_IN 62 0 = r.pin ∧ t.wfld fTH_CAP_CAP_W 0 = (lowestCap (((s.takeReadings r).curveInstall.readingsInUse).formTemps).caps).2 ∧ t.wfld fTH_CAP_SRC 0 = (lowestCap (((s.takeReadings r).curveInstall.readingsInUse).formTemps).caps).1) ∧
  (∀ (p : Nat) (v : W64) (s : State),
      getBits v 15 0 ≤ 7200 →
      Completes (.thOrderHostWrite (.host p) v) s fun t =>
        t.wfld fTH_ORDER_HOST_STATE 0 = getBits v 25 24 ∧ t.wfld fTH_ORDER_HOST_CAP_W 0 = getBits v 15 0 ∧ t.wfld fTH_ORDER_HOST_DRAIN_MS 0 = getBits v 63 32 ∧ t.wfld fTH_ORDER_EFF_STATE 0 = t.effState ∧ t.wfld fTH_ORDER_EFF_CAP_W 0 = t.orderCap.getD 0) ∧
  (∀ (s : State),
      s.lat .drainEnd 0 0 ≠ 0 →
      Completes (.drainTimerEnd) s fun t =>
        t.wflag fTH_STAT_DRAIN 0 = false ∧ t.lat .drainEnd 0 0 = 0 ∧ t.lat .drained 0 0 = s.lat .drained 0 0 ||| s.draining ∧ t.wfld fTH_ORDER_EFF_STATE 0 = t.effState) ∧
  (∀ (m : Master) (d half i : Nat) (v : W64) (s : State),
      d < 48 →
      half < 2 →
      i < 16 →
      s.hostOrActive m = true →
      Completes (.thTenmapWrite m d half v) s fun t =>
        (getBits (t.wreg (tenmapReg half) d) (4 * i + 2) (4 * i) = if [0, 2].contains (s.spState (32 * d + 16 * half + i)) then getBits v (4 * i + 2) (4 * i) else getBits (s.wreg (tenmapReg half) d) (4 * i + 2) (4 * i)) ∧ Only (Change.recording { regs := regsAll [tenmapReg half] d }) s t) ∧
  (∀ (m : Master) (n : Nat) (v : W64) (s : State),
      n < 8 →
      s.hostOrActive m = true →
      (((List.range 8).filter (· != n)).map fun i => s.wfld fTH_TEN_SHARE i).sum + getBits v 9 0 ≤ 1000 →
      Completes (.thTenShareWrite m n v) s fun t =>
        t.wfld fTH_TEN_SHARE n = getBits v 9 0 ∧ Only ({ regs := regsAll [.TH_TEN] n }) s t) ∧
  (∀ (m : Master) (off : Nat) (v : W64) (r : Reg) (i : Nat) (s : State),
      policyReg off = some (r, i) →
      s.hostOrActive m = true →
      s.flag fFS_PRES_BUTTON s.aw 0 = true →
      s.fld fFS_PRES_SEAL s.aw 0 = 1 →
      policyLegal r v = true →
      Completes (.policyRegisterWrite m off v) s fun t =>
        (t.wreg r i = writtenValue r (fun _ => true) (s.wreg r i) v) ∧ Only ({ regs := fun r' e j => regsAll [r] i r' e j || regsOf [.TH_LEAK] r' e j, lats := latsOf [.leakMs] }) s t) ∧
  (∀ (m : Master) (v : W64) (s : State),
      s.hostOrActive m = true →
      bitOf v 0 = true →
      s.fld fFS_PRES_SEAL s.aw 0 = 1 →
      s.lat .curveDue 0 0 = 0 →
      Completes (.curveApply m v) s fun t =>
        t.lat .curveDue 0 0 = 1 ∧ Only ({ lats := theLat .curveDue 0 0 }) s t) ∧
  (∀ (m : Master) (v : W64) (s : State),
      s.hostOrActive m = true →
      bitOf v 0 = true →
      s.fld fFS_PRES_SEAL s.aw 0 = 1 →
      s.lat .curveDue 0 0 ≠ 0 →
      Completes (.curveApply m v) s fun t =>
        t.wfld fTH_CURVE_CMD_RESULT 0 = 2 ∧ Only ({ regs := regsOf [.TH_CURVE_CMD] }) s t) ∧
  (∀ (d stack temp : Nat) (s : State),
      48 ≤ d →
      d < 56 →
      stack < 4 →
      s.dieUp d = true →
      temp < 256 →
      Completes (.stackTemperatureReadout d stack temp) s fun t =>
        t.fld fQD_HBM_TEMP d stack = temp ∧ (t.lat .hotStack d stack = if 95 < temp then 1 else if temp < 90 then 0 else s.lat .hotStack d stack) ∧ Only ({ regs := theReg fQD_HBM_TEMP.reg d stack, lats := theLat .hotStack d stack }) s t)

/-- A flow below LOSS_Q while it is watched makes FLOW_LOSS 1 with the clamp; its return ends it and starts the recovery
ramp, each step of which adds SLEW; the pump hold ends; a window that runs out makes a shutdown due. A leak loop in
USE shows its class, and reads 7 otherwise; a leak that lasted sets the latch in both wardens; the actuators stop;
UNLATCH under seal presence clears the latch. A junction trip and an outlet trip set TRIP with their cause and open
the rails of the compute, quarry and I/O dies. EMERG_N driven from outside holds STANDBY until it is cleared; the
package's own drive ends. (R434, R435, R436, R437, R438, R439, R440, R446, R447, R455.) -/
def Obligations.CoolingSafetyCommandsComplete : Prop :=
  (∀ (n x y : Nat) (s : State),
      n < 2 →
      s.flowWatched = true →
      s.flowInputs.contains n = true →
      s.wfld fCE_FLOW_CFG_MODE n ≠ 0 →
      s.flowReading n x y < s.wfld fTH_HARD_FLOW_LOSS_Q 0 * 10 →
      s.wflag fTH_STAT_FLOW_LOSS 0 = false →
      s.lat .pumpHold 0 0 = 0 →
      Completes (.flowLossDetect n x y) s fun t =>
        t.wflag fTH_STAT_FLOW_LOSS 0 = true ∧ (t.lat .clampCause 0 0).testBit 0 = true) ∧
  (∀ (s : State),
      s.wflag fTH_STAT_FLOW_LOSS 0 = true →
      s.lat .shutdownDue 0 0 = 0 →
      s.flowStood 200000000 = true →
      s.resumeOver = false →
      Completes (.flowRestored) s fun t =>
        t.wflag fTH_STAT_FLOW_LOSS 0 = false ∧ t.wflag fTH_STAT_RECOVERY 0 = true ∧ t.lat .rampCap 0 0 = s.fld fPW_IN_MEAS_P_IN 62 0 / 1000 ∧ t.lat .pumpHold 0 0 = 1 ∧ (t.lat .clampCause 0 0).testBit 0 = false ∧ Only (Change.recording { regs := regsOf [.TH_STAT], lats := latsOf [.rampCap, .pumpHold, .clampCause] }) s t) ∧
  (∀ (s : State),
      s.wflag fTH_STAT_RECOVERY 0 = true →
      Completes (.rampStep) s fun t =>
        t.lat .rampCap 0 0 = s.lat .rampCap 0 0 + s.wfld fTH_SOFT_SLEW_W 0 ∧ Only ({ regs := regsOf [.TH_STAT], lats := theLat .rampCap 0 0 }) s t) ∧
  (∀ (s : State),
      Completes (.pumpHoldEnd) s fun t =>
        t.lat .pumpHold 0 0 = 0 ∧ Only ({ lats := theLat .pumpHold 0 0 }) s t) ∧
  (∀ (s : State),
      s.wflag fTH_STAT_FLOW_LOSS 0 = true →
      s.lat .shutdownDue 0 0 = 0 →
      s.resumeOver = true →
      Completes (.flowLossShutdown) s fun t =>
        t.lat .shutdownDue 0 0 = 1) ∧
  (∀ (k off r1 r2 : Nat) (s : State),
      k < 4 →
      (s.wfld fTH_HARD_LEAK_USE 0).testBit k = true →
      Completes (.leakLoopSample k off r1 r2) s fun t =>
        t.wfld (leakField k) 0 = leakClass (s.wfld fCE_LEAK_CFG_EOL_OHM k) off r1 r2 ∧ Only (Change.recording { regs := regsOf [.TH_LEAK], lats := theLat .leakMs k 0 }) s t) ∧
  (∀ (k off r1 r2 : Nat) (s : State),
      k < 4 →
      (s.wfld fTH_HARD_LEAK_USE 0).testBit k = false →
      Completes (.leakLoopSample k off r1 r2) s fun t =>
        t.wfld (leakField k) 0 = 7 ∧ t.lat .leakMs k 0 = 0 ∧ Only ({ regs := regsOf [.TH_LEAK], lats := theLat .leakMs k 0 }) s t) ∧
  (∀ (k : Nat) (s : State),
      k < 4 →
      (s.wfld fTH_HARD_LEAK_USE 0).testBit k = true →
      s.lat .leakMs k 0 ≠ 0 →
      s.wflag fWD_FORCE_LEAK_LATCH 0 = false →
      s.pkgState ≠ 2 →
      s.wfld fTH_HARD_LEAK_LEAK_MS 0 ≤ s.lat .leakMs k 0 + 49 →
      Completes (.leakConfirm k) s fun t =>
        t.flag fWD_FORCE_LEAK_LATCH 62 0 = true ∧ t.flag fWD_FORCE_LEAK_LATCH 63 0 = true ∧ t.lat .leakDue 0 0 = 1 ∧ t.lat .leakRecord 0 0 = 1 ∧ (∀ d : Nat, d < 56 → t.dieUp d = false)) ∧
  (∀ (s : State),
      s.wflag fWD_FORCE_LEAK_LATCH 0 = true →
      s.lat .leakDue 0 0 ≠ 0 →
      Completes (.leakActuatorStop) s fun t =>
        t.lat .leakDue 0 0 = 0 ∧ (∀ c : Nat, c < 4 → (s.wfld fWD_FORCE_LEAK_CLOSE_MASK 0).testBit c = false → t.wflag fSV_CMD_ON c = false)) ∧
  (∀ (m : Master) (v : W64) (s : State),
      s.hostOrActive m = true →
      bitOf v 30 = true →
      s.fld fFS_PRES_SEAL s.aw 0 = 1 →
      Completes (.leakUnlatch m v) s fun t =>
        t.wflag fWD_FORCE_LEAK_LATCH 0 = false ∧ sget [] t.flash leakKey = [] ∧ Only ({ regs := regsOf [.WD_FORCE_LEAK], lats := theLat .leakRecord 0 0, flash := true }) s t) ∧
  (∀ (d k : Nat) (s : State),
      d < 48 →
      k < 34 →
      s.spotTrips d k = true →
      s.wflag fTH_STAT_TRIP 0 = false →
      Completes (.junctionTrip d k) s fun t =>
        t.wflag fTH_STAT_TRIP 0 = true ∧ t.wfld fTH_STAT_TRIP_CAUSE 0 = 1 ∧ (∀ e : Nat, e < 62 → t.dieUp e = false)) ∧
  (∀ (d k : Nat) (s : State),
      48 ≤ d →
      isDiodePair d k = true →
      s.pairTrips d k = true →
      s.wflag fTH_STAT_TRIP 0 = false →
      Completes (.junctionTrip d k) s fun t =>
        t.wflag fTH_STAT_TRIP 0 = true ∧ t.wfld fTH_STAT_TRIP_CAUSE 0 = 1 ∧ (∀ e : Nat, e < 62 → t.dieUp e = false)) ∧
  (∀ (n : Nat) (s : State),
      n = 1 ∨ n = 3 →
      s.outlets.contains n = true →
      (s.wfld fTH_HARD_T_OUT_TRIP 0 : Int) * 100 < s.coolMk n →
      s.wflag fTH_STAT_TRIP 0 = false →
      Completes (.outletTrip n) s fun t =>
        t.wflag fTH_STAT_TRIP 0 = true ∧ t.wfld fTH_STAT_TRIP_CAUSE 0 = 2 ∧ (∀ e : Nat, e < 62 → t.dieUp e = false)) ∧
  (∀ (s : State),
      s.wflag fTH_HARD_EMERG_IN_EN 0 = true →
      s.wflag fTH_STAT_EMERG_OUT 0 = false →
      Completes (.emergIn) s fun t =>
        t.wflag fTH_STAT_EMERG_IN 0 = true ∧ t.wflag fTH_ORDER_EFF_EMERG_HOLD 0 = true ∧ 2 ≤ t.wfld fTH_ORDER_EFF_STATE 0 ∧ t.pkgState ≠ 0) ∧
  (∀ (s : State),
      s.wflag fTH_ORDER_EFF_EMERG_HOLD 0 = true →
      s.lat .orderSince 0 0 ≠ 0 →
      Completes (.emergHoldClear) s fun t =>
        t.wflag fTH_ORDER_EFF_EMERG_HOLD 0 = false ∧ t.wflag fTH_STAT_EMERG_IN 0 = false ∧ t.wfld fTH_ORDER_EFF_STATE 0 = t.effState) ∧
  (∀ (s : State),
      Completes (.emergDriveEnd) s fun t =>
        t.wflag fTH_STAT_EMERG_OUT 0 = false ∧ t.lat .emergCause 0 0 = 0 ∧ Only ({ regs := regsOf [.TH_STAT], lats := theLat .emergCause 0 0 }) s t)

/-- On a driven channel with a tachometer outside a spin-up, silence at the locked-rotor current starts a spin-up, at
the running current is a broken wire, and below it is no motor; a speed below TACH_MIN is SLOW. An attempt that
reaches TACH_MIN ends the spin-up; one that is blocked pauses before a retry, and after the last retry the channel
is BLOCKED. A pause ends in the next retry. A BLOCKED channel with a demand begins its sequence again. Nothing but
FP_STAT and the recorder changes. (R482, R483, R484, R485.) -/
def Obligations.FanCommandsComplete : Prop :=
  (∀ (c ma : Nat) (s : State),
      c < 6 →
      (s.settle c).tachRuns c = true →
      s.wfld fFP_ISUP_I_LOCK_MA c ≤ ma →
      Completes (.tachSilence c ma) s fun t =>
        t.wfld fFP_STAT_RPM c = 0 ∧ t.wfld fFP_STAT_ATTEMPT c = 1 ∧ Only (Change.recording { regs := regsOf [.FP_STAT], lats := latsOf [.fpPause, .fpDrive, .fpAt] }) s t) ∧
  (∀ (c ma : Nat) (s : State),
      c < 6 →
      (s.settle c).tachRuns c = true →
      s.wfld fFP_ISUP_I_RUN_MA c ≤ ma →
      ma < s.wfld fFP_ISUP_I_LOCK_MA c →
      Completes (.tachSilence c ma) s fun t =>
        t.wfld fFP_STAT_RPM c = 0 ∧ t.wflag fFP_STAT_TACH_WIRE c = true ∧ Only (Change.recording { regs := regsOf [.FP_STAT], lats := latsOf [.fpPause, .fpDrive, .fpAt] }) s t) ∧
  (∀ (c ma : Nat) (s : State),
      c < 6 →
      (s.settle c).tachRuns c = true →
      ma < s.wfld fFP_ISUP_I_RUN_MA c →
      ma < s.wfld fFP_ISUP_I_LOCK_MA c →
      Completes (.tachSilence c ma) s fun t =>
        t.wfld fFP_STAT_RPM c = 0 ∧ t.wflag fFP_STAT_OPEN c = true ∧ Only (Change.recording { regs := regsOf [.FP_STAT], lats := latsOf [.fpPause, .fpDrive, .fpAt] }) s t) ∧
  (∀ (c us : Nat) (s : State),
      c < 6 →
      (s.settle c).tachRuns c = true →
      0 < s.fanRpm c us →
      s.fanRpm c us < s.wfld fFP_SUP_TACH_MIN_RPM c →
      Completes (.fanSlow c us) s fun t =>
        t.wfld fFP_STAT_RPM c = s.fanRpm c us ∧ t.wflag fFP_STAT_SLOW c = true ∧ Only (Change.recording { regs := regsOf [.FP_STAT], lats := latsOf [.fpPause, .fpDrive, .fpAt] }) s t) ∧
  (∀ (c us ma : Nat) (s : State),
      c < 6 →
      s.wfld fFP_STAT_ATTEMPT c ≠ 0 →
      s.lat .fpPause c 0 ≠ 1 →
      s.wfld fFP_STAT_DRIVE c ≠ 0 →
      s.wfld fFP_SUP_TACH_MIN_RPM c ≤ s.fanRpm c us →
      Completes (.spinupAttemptEnd c us ma) s fun t =>
        t.wfld fFP_STAT_ATTEMPT c = 0 ∧ t.lat .fpPause c 0 = 0 ∧ Only (Change.recording { regs := regsOf [.FP_STAT], lats := latsOf [.fpPause, .fpDrive, .fpAt] }) s t) ∧
  (∀ (c us ma : Nat) (s : State),
      c < 6 →
      s.wfld fFP_STAT_ATTEMPT c ≠ 0 →
      s.wfld fFP_STAT_ATTEMPT c ≠ 4 →
      s.lat .fpPause c 0 ≠ 1 →
      s.fanRpm c us < s.wfld fFP_SUP_TACH_MIN_RPM c →
      s.wfld fFP_ISUP_I_LOCK_MA c ≤ ma →
      Completes (.spinupAttemptEnd c us ma) s fun t =>
        t.lat .fpPause c 0 = 1 ∧ Only (Change.recording { regs := regsOf [.FP_STAT], lats := latsOf [.fpPause, .fpDrive, .fpAt] }) s t) ∧
  (∀ (c us ma : Nat) (s : State),
      c < 6 →
      s.wfld fFP_STAT_ATTEMPT c = 4 →
      s.lat .fpPause c 0 ≠ 1 →
      s.fanRpm c us < s.wfld fFP_SUP_TACH_MIN_RPM c →
      s.wfld fFP_ISUP_I_LOCK_MA c ≤ ma →
      Completes (.spinupAttemptEnd c us ma) s fun t =>
        t.wflag fFP_STAT_BLOCKED c = true ∧ t.lat .fpPause c 0 = 2 ∧ Only (Change.recording { regs := regsOf [.FP_STAT], lats := latsOf [.fpPause, .fpDrive, .fpAt] }) s t) ∧
  (∀ (c : Nat) (s : State),
      c < 6 →
      s.wfld fFP_STAT_ATTEMPT c ≠ 0 →
      s.wfld fFP_STAT_ATTEMPT c < 4 →
      s.lat .fpPause c 0 = 1 →
      Completes (.spinupPauseEnd c) s fun t =>
        t.wfld fFP_STAT_ATTEMPT c = s.wfld fFP_STAT_ATTEMPT c + 1 ∧ t.lat .fpPause c 0 = 0 ∧ Only (Change.recording { regs := regsOf [.FP_STAT], lats := latsOf [.fpPause, .fpDrive, .fpAt] }) s t) ∧
  (∀ (c : Nat) (s : State),
      c < 6 →
      s.blockedHold c = true →
      s.wfld fFP_ISUP_RETRY_S c ≠ 0 →
      s.demand c ≠ 0 →
      Completes (.blockedRetry c) s fun t =>
        t.wfld fFP_STAT_ATTEMPT c = 1 ∧ t.lat .fpPause c 0 = 0 ∧ Only (Change.recording { regs := regsOf [.FP_STAT], lats := latsOf [.fpPause, .fpDrive, .fpAt] }) s t)

/-- With no handover waiting and no hold-off, ON and OFF write SV_CMD and move an idle channel to WAIT, a waiting one to
OFF, a driven one to RECOVER. A waiting channel that may peak enters PEAK and shows its deferral. A peak current in
too short a time is a short; one reached late or not at all is TTP_SLOW. The first dip before the peak is shown; the
end of a peak that was reached leads to HOLD, or by a missed dip to STUCK and a retry. HOLD ends in RECOVER once
HOLD_MS has passed, RECOVER in OFF, or in WAIT after a new ON. Overcurrent, open load, long deferrals and a low
boost are shown. (R471, R472, R473, R475, R476, R477, R478, R479.) -/
def Obligations.SolenoidCommandsComplete : Prop :=
  (∀ (m : Master) (c : Nat) (v : W64) (s : State),
      c < 4 →
      s.hostOrActive m = true →
      bitOf v 0 = true →
      s.svIgnored c = false →
      s.wflag fSV_FAULT_SHORT c = false →
      Completes (.solenoidOn m c v) s fun t =>
        t.wflag fSV_CMD_ON c = true ∧ (s.svPhase c = 0 → t.svPhase c = 1) ∧ Only ({ regs := regsAll [.SV_CMD, .SV_STAT] c, lats := latsOf [.svRetry, .svSince, .svExtend, .svHeld] }) s t) ∧
  (∀ (m : Master) (c : Nat) (v : W64) (s : State),
      c < 4 →
      s.hostOrActive m = true →
      bitOf v 0 = false →
      s.svIgnored c = false →
      s.lat .handoverDue 0 0 = 0 →
      Completes (.solenoidOff m c v) s fun t =>
        t.wflag fSV_CMD_ON c = false ∧ (s.svPhase c = 1 → t.svPhase c = 0) ∧ (s.svPhase c = 2 ∨ s.svPhase c = 3 → t.svPhase c = 4) ∧ Only ({ regs := regsAll [.SV_CMD, .SV_STAT] c, lats := latsOf [.svRetry, .svExtend] }) s t) ∧
  (∀ (c : Nat) (s : State),
      c < 4 →
      s.mayPeak c = true →
      Completes (.solenoidPeakStart c) s fun t =>
        t.svPhase c = 2 ∧ t.wfld fSV_MEAS_DEFER_US c = min ((s.now - s.lat .svSince c 0) / 1000) 65535 ∧ Only (Change.recording { regs := regsOf [.SV_STAT, .SV_MEAS, .SV_BOOST], lats := latsOf [.svDip, .svReached] }) s t) ∧
  (∀ (c us : Nat) (s : State),
      c < 4 →
      s.svPhase c = 2 →
      s.lat .svReached c 0 = 0 →
      s.wflag fSV_BOOST_LOW 0 = true ∨ (s.svProf fSV_PROF1_TTP_MIN_US c ≤ us ∧ us ≤ s.svProf fSV_PROF1_TTP_MAX_US c) →
      s.svProf fSV_PROF0_PEAK_US c ≠ 0 →
      Completes (.solenoidPeakReached c us) s fun t =>
        t.wfld fSV_MEAS_TTP_US c = min us 65535 ∧ t.svPhase c = 2 ∧ t.lat .svReached c 0 = 1 ∧ Only ({ regs := regsAll [.SV_MEAS] c, lats := theLat .svReached c 0 }) s t) ∧
  (∀ (c us : Nat) (s : State),
      c < 4 →
      s.svPhase c = 2 →
      s.lat .svReached c 0 = 0 →
      s.lat .handoverDue 0 0 = 0 →
      s.wflag fSV_BOOST_LOW 0 = false →
      us < s.svProf fSV_PROF1_TTP_MIN_US c →
      Completes (.solenoidPeakReached c us) s fun t =>
        t.wflag fSV_FAULT_SHORT c = true ∧ t.svPhase c = 4 ∧ Only (Change.recording { regs := regsOf [.SV_STAT, .SV_MEAS, .SV_FAULT], lats := latsOf [.svRetry, .svExtend, .svReached] }) s t) ∧
  (∀ (c us : Nat) (s : State),
      c < 4 →
      s.svPhase c = 2 →
      s.lat .svReached c 0 = 0 →
      s.lat .handoverDue 0 0 = 0 →
      s.wflag fSV_BOOST_LOW 0 = false →
      s.svProf fSV_PROF1_TTP_MIN_US c ≤ us →
      s.svProf fSV_PROF1_TTP_MAX_US c < us →
      Completes (.solenoidPeakReached c us) s fun t =>
        t.wflag fSV_STAT_TTP_SLOW c = true ∧ 2 < t.svPhase c ∧ Only (Change.recording { regs := regsOf [.SV_STAT, .SV_MEAS], lats := latsOf [.svRetry, .svExtend, .svReached, .svHeld] }) s t) ∧
  (∀ (c us : Nat) (s : State),
      c < 4 →
      s.svPhase c = 2 →
      s.lat .svReached c 0 = 0 →
      s.lat .handoverDue 0 0 = 0 →
      s.wflag fSV_BOOST_LOW 0 = true ∨ (s.svProf fSV_PROF1_TTP_MIN_US c ≤ us ∧ us ≤ s.svProf fSV_PROF1_TTP_MAX_US c) →
      s.svProf fSV_PROF0_PEAK_US c = 0 →
      Completes (.solenoidPeakReached c us) s fun t =>
        2 < t.svPhase c ∧ Only (Change.recording { regs := regsOf [.SV_STAT, .SV_MEAS], lats := latsOf [.svRetry, .svExtend, .svReached, .svHeld] }) s t) ∧
  (∀ (c : Nat) (s : State),
      c < 4 →
      s.svPhase c = 2 →
      s.lat .svReached c 0 = 0 →
      s.lat .handoverDue 0 0 = 0 →
      s.wflag fSV_BOOST_LOW 0 = false →
      Completes (.solenoidTtpTimeout c) s fun t =>
        t.wflag fSV_STAT_TTP_SLOW c = true ∧ 2 < t.svPhase c ∧ Only (Change.recording { regs := regsOf [.SV_STAT], lats := latsOf [.svRetry, .svExtend, .svHeld] }) s t) ∧
  (∀ (c us : Nat) (s : State),
      c < 4 →
      s.svPhase c = 2 →
      s.lat .svReached c 0 = 0 →
      s.lat .svDip c 0 = 0 →
      Completes (.solenoidDip c us) s fun t =>
        t.wfld fSV_MEAS_DIP_US c = min us 65535 ∧ t.lat .svDip c 0 = 1 ∧ Only ({ regs := regsAll [.SV_MEAS] c, lats := theLat .svDip c 0 }) s t) ∧
  (∀ (c : Nat) (s : State),
      c < 4 →
      s.svPhase c = 2 →
      s.lat .svReached c 0 = 1 →
      s.lat .handoverDue 0 0 = 0 →
      s.dipGood c = true →
      s.svTimed c = true → s.svProf fSV_PROF0_HOLD_MS c ≠ 0 →
      Completes (.solenoidPeakEnd c) s fun t =>
        t.svPhase c = 3 ∧ t.lat .svHeld c 0 = s.now ∧ Only ({ regs := regsAll [.SV_STAT] c, lats := theLat .svHeld c 0 }) s t) ∧
  (∀ (c : Nat) (s : State),
      c < 4 →
      s.svPhase c = 2 →
      s.lat .svReached c 0 = 1 →
      s.lat .handoverDue 0 0 = 0 →
      s.dipGood c = false →
      s.svProf fSV_PROF2_RETRY c = 1 →
      s.lat .svRetry c 0 ≠ 2 →
      Completes (.solenoidPeakEnd c) s fun t =>
        t.wflag fSV_STAT_STUCK c = true ∧ t.svPhase c = 4 ∧ t.lat .svRetry c 0 = 1 ∧ Only (Change.recording { regs := regsOf [.SV_STAT], lats := latsOf [.svRetry, .svExtend] }) s t) ∧
  (∀ (c : Nat) (s : State),
      c < 4 →
      s.lat .svRetry c 0 = 1 →
      s.svPhase c = 0 →
      Completes (.solenoidRetryWaitEnd c) s fun t =>
        t.svPhase c = 1 ∧ t.wflag fSV_STAT_RETRIED c = true ∧ t.lat .svRetry c 0 = 2 ∧ Only ({ regs := regsAll [.SV_STAT] c, lats := latsOf [.svRetry, .svSince] }) s t) ∧
  (∀ (c : Nat) (s : State),
      c < 4 →
      s.svPhase c = 3 →
      s.svTimed c = true →
      s.svProf fSV_PROF0_HOLD_MS c * 1000000 ≤ s.now - s.lat .svHeld c 0 →
      s.lat .handoverDue 0 0 = 0 →
      Completes (.solenoidHoldEnd c) s fun t =>
        t.svPhase c = 4 ∧ Only ({ regs := regsAll [.SV_STAT] c, lats := latsOf [.svRetry, .svExtend] }) s t) ∧
  (∀ (c : Nat) (late : Bool) (s : State),
      c < 4 →
      s.svPhase c = 4 →
      s.lat .handoverDue 0 0 = 0 →
      s.lat .svExtend c 0 = 0 →
      s.closing s.aw c = false →
      Completes (.solenoidRecoverEnd c late) s fun t =>
        t.svPhase c = 0 ∧ (late = true → t.wflag fSV_STAT_OPEN_RECOVERY c = true) ∧ Only (Change.recording { regs := regsOf [.SV_STAT], lats := latsOf [.svExtend] }) s t) ∧
  (∀ (c : Nat) (late : Bool) (s : State),
      c < 4 →
      s.svPhase c = 4 →
      s.lat .svExtend c 0 ≠ 0 →
      s.wflag fSV_FAULT_SHORT c = false →
      Completes (.solenoidRecoverEnd c late) s fun t =>
        t.svPhase c = 1 ∧ t.lat .svExtend c 0 = 0 ∧ Only (Change.recording { regs := regsOf [.SV_STAT], lats := latsOf [.svExtend, .svSince] }) s t) ∧
  (∀ (c ma : Nat) (s : State),
      c < 4 →
      7500 < ma ∨ (s.svPhase c = 3 ∧ 2 * s.svProf fSV_PROF0_HOLD_MA c < ma) →
      s.lat .handoverDue 0 0 = 0 →
      Completes (.coilOvercurrent c ma) s fun t =>
        t.wflag fSV_FAULT_SHORT c = true ∧ (s.svPhase c = 1 → t.svPhase c = 0) ∧ (s.svPhase c = 2 ∨ s.svPhase c = 3 → t.svPhase c = 4) ∧ Only (Change.recording { regs := regsOf [.SV_STAT, .SV_FAULT, .SV_MEAS], lats := latsOf [.svRetry, .svExtend] }) s t) ∧
  (∀ (c ma : Nat) (s : State),
      c < 4 →
      s.svPhase c = 3 →
      2 * ma < s.svProf fSV_PROF0_HOLD_MA c →
      Completes (.coilOpenLoad c ma) s fun t =>
        t.wflag fSV_STAT_OPEN c = true ∧ t.svPhase c = 3 ∧ Only (Change.recording { regs := regsOf [.SV_STAT, .SV_MEAS], lats := latsOf [] }) s t) ∧
  (∀ (c : Nat) (s : State),
      c < 4 →
      s.svPhase c = 1 →
      s.wfld fSV_BOOST_V_MV 0 < 58000 →
      s.wflag fSV_BOOST_LOW 0 = false →
      Completes (.boostWaitTimeout) s fun t =>
        t.wflag fSV_BOOST_LOW 0 = true ∧ Only (Change.recording { regs := regsOf [.SV_BOOST], lats := latsOf [] }) s t) ∧
  (∀ (s : State),
      Completes (.boostRecharged) s fun t =>
        t.wfld fSV_BOOST_V_MV 0 = 65000 ∧ t.wflag fSV_BOOST_LOW 0 = false ∧ t.wflag fSV_BOOST_CHARGING 0 = false ∧ Only ({ regs := regsOf [.SV_BOOST] }) s t) ∧
  (∀ (c : Nat) (s : State),
      c < 4 →
      s.svPhase c = 1 →
      s.wflag fSV_STAT_DEFER_LONG c = false →
      Completes (.solenoidDeferLimit c) s fun t =>
        t.wflag fSV_STAT_DEFER_LONG c = true ∧ t.svPhase c = 1 ∧ Only (Change.recording { regs := regsOf [.SV_STAT], lats := latsOf [] }) s t)

/-- A sample of a loop in AUTO, with valid sources, no following error, no override, no swap and no test signal, has the
integrator and the output of the control law in Q8.40, held to the clamps; a loop in MODE OFF is OFF; the standby's
loop tracks. A swap waits for a boundary; a legal configuration and a set not in force are written; CLR_FAULT waits
for the next sample. The generator and the capture start where nothing refuses them and stop; a refused start
answers its RESULT. (R457, R458, R460, R461, R464, R465, R467, R468, R469, R470.) -/
def Obligations.ControlLoopCommandsComplete : Prop :=
  (∀ (k : Nat) (x : Terms) (i : Int) (s : State),
      k < 16 →
      s.lat .wardenHeld s.aw 0 = 0 →
      s.fld fCE_LOOP_CFG_MODE s.aw k = 1 →
      s.fld fCE_LOOP_STAT_STATE s.aw k ≠ 3 →
      s.tsgOn s.aw k = false →
      s.overridden s.aw k = false →
      s.flag fCE_LOOP_CTL_SWAP_PEND s.aw k = false →
      s.lat .loopOver s.aw k = 0 →
      s.lat .loopRan s.aw k ≠ 0 →
      x = s.terms s.aw k (s.loopSet s.aw k) →
      x.valid = true →
      (s.following s.aw k x).1 = false →
      i = integrate x (s.loopQ fCE_LOOP_SET0_KI s.aw (setIx k (s.loopSet s.aw k))) (s.loopI s.aw k) (s.clamps s.aw k (s.loopSet s.aw k)) →
      Completes (.loopSample (s.aw - 62) k) s fun t =>
        t.fld fCE_LOOP_STAT_STATE s.aw k = 1 ∧ t.fld fCE_LOOP_I_I s.aw k = ofSigned 48 i ∧ t.fld fCE_LOOP_OUT_U s.aw k = narrow (clampTo (x.total i) (s.clamps s.aw k (s.loopSet s.aw k)).1 (s.clamps s.aw k (s.loopSet s.aw k)).2) ∧ t.fld fCE_LOOP_OUT_E s.aw k = narrow x.e) ∧
  (∀ (w k : Nat) (s : State),
      w < 2 →
      k < 16 →
      s.lat .wardenHeld (62 + w) 0 = 0 →
      s.fld fCE_LOOP_CFG_MODE (62 + w) k = 0 →
      s.fld fCE_LOOP_STAT_STATE (62 + w) k ≠ 3 →
      Completes (.loopSample w k) s fun t =>
        t.fld fCE_LOOP_STAT_STATE (62 + w) k = 0) ∧
  (∀ (w k : Nat) (s : State),
      w < 2 →
      k < 16 →
      s.lat .wardenHeld (62 + w) 0 = 0 →
      62 + w ≠ s.aw →
      s.fld fCE_LOOP_CFG_MODE (62 + w) k ≠ 0 →
      Completes (.loopSample w k) s fun t =>
        t.fld fCE_LOOP_STAT_STATE (62 + w) k = 5 ∧ Only ({ regs := regsIn [.CE_LOOP_STAT, .CE_LOOP_I, .CE_LOOP_OUT] (62 + w) k, lats := latsOf [.loopD, .loopPv, .loopU, .loopRan] }) s t) ∧
  (∀ (m : Master) (k : Nat) (v : W64) (s : State),
      k < 16 →
      s.hostOrActive m = true →
      bitOf v 0 = true →
      Completes (.loopSwap m k v) s fun t =>
        t.wflag fCE_LOOP_CTL_SWAP_PEND k = true ∧ Only ({ regs := regsAll [.CE_LOOP_CTL] k }) s t) ∧
  (∀ (m : Master) (k : Nat) (v : W64) (s : State),
      k < 16 →
      s.hostOrActive m = true →
      bitOf v 1 = true →
      s.wfld fCE_LOOP_STAT_STATE k = 3 →
      Completes (.loopClrFault m k v) s fun t =>
        t.lat .loopClr s.aw k = 1 ∧ Only ({ lats := theLat .loopClr s.aw k }) s t) ∧
  (∀ (m : Master) (k : Nat) (v : W64) (s : State),
      k < 16 →
      s.hostOrActive m = true →
      s.fld fFS_PRES_SEAL s.aw 0 = 1 →
      s.loopCfgLegal s.aw k v = true →
      Completes (.loopModeWrite m k v) s fun t =>
        t.wfld fCE_LOOP_CFG_MODE k = getBits v 1 0 ∧ (t.wreg .CE_LOOP_CFG k = writtenValue .CE_LOOP_CFG (fun _ => true) (s.wreg .CE_LOOP_CFG k) v) ∧ Only ({ regs := regsAll [.CE_LOOP_CFG] k }) s t) ∧
  (∀ (m : Master) (k set part : Nat) (v : W64) (s : State),
      k < 16 →
      set < 2 →
      part < 4 →
      s.hostOrActive m = true →
      s.loopSet s.aw k ≠ set →
      part = 1 → getBits v 63 32 ≤ 0x10000000 →
      Completes (.loopSetWrite m k set part v) s fun t =>
        t.wreg (setReg part) (setIx k set) = v ∧ Only ({ regs := regsAll [setReg part] (setIx k set) }) s t) ∧
  (∀ (m : Master) (v : W64) (s : State),
      s.hostOrActive m = true →
      bitOf v 0 = true →
      s.tsgResult = 0 →
      s.wfld fCE_TSG_TIME_LEN 0 ≠ 0 →
      Completes (.tsgStart m v) s fun t =>
        t.wflag fCE_TSG_STAT_RUNNING 0 = true ∧ t.wfld fCE_TSG_STAT_RESULT 0 = 0) ∧
  (∀ (m : Master) (v : W64) (s : State),
      s.hostOrActive m = true →
      bitOf v 0 = true →
      s.tsgResult ≠ 0 →
      Completes (.tsgStart m v) s fun t =>
        t.wfld fCE_TSG_STAT_RESULT 0 = s.tsgResult ∧ Only (Change.recording { regs := regsOf [.CE_TSG_STAT] }) s t) ∧
  (∀ (m : Master) (v : W64) (s : State),
      s.hostOrActive m = true →
      bitOf v 1 = true →
      Completes (.tsgStop m v) s fun t =>
        t.wflag fCE_TSG_STAT_RUNNING 0 = false ∧ Only (Change.recording { regs := regsOf [.CE_TSG_STAT] }) s t) ∧
  (∀ (m : Master) (v : W64) (s : State),
      s.hostOrActive m = true →
      bitOf v 0 = true →
      0 < s.capSigs →
      s.capSigs ≤ 4 →
      s.wfld fCE_CAP_CFG_DECIM 0 ≠ 0 →
      s.wfld fWD_BNK_PWR_ACT 0 / 16 % 4 = 2 →
      s.wflag fCE_CAP_CFG_TRIG 0 = false →
      Completes (.captureStart m v) s fun t =>
        t.wflag fCE_CAP_STAT_RUNNING 0 = true ∧ t.wfld fCE_CAP_STAT_COUNT 0 = 0 ∧ t.wfld fCE_CAP_STAT_RESULT 0 = 0 ∧ Only ({ regs := regsOf [.CE_CAP_STAT], lats := latsOf [.capArm, .capPos, .capDec] }) s t) ∧
  (∀ (m : Master) (v : W64) (s : State),
      s.hostOrActive m = true →
      bitOf v 1 = true →
      Completes (.captureStop m v) s fun t =>
        t.wflag fCE_CAP_STAT_RUNNING 0 = false ∧ t.lat .capArm 0 0 = 0 ∧ Only (Change.recording { regs := regsOf [.CE_CAP_STAT], lats := latsOf [.capArm] }) s t)

/-- A frame a filter takes is placed in the buffer the filter gives, and counted; an Orwilos frame that R515 ignores
counts in BAD, and a remote frame is discarded. A read of a full buffer's first word locks it, of its last word
empties it. Each written MODE leads to its state. A search starts, and moves on at a timeout. A legal timing write
is taken in STOPPED or LISTEN. A bus error counts, and on a controller that takes part raises REC but for a missing
acknowledge. RECOVER leads from BUS_OFF to RECOVERING, and the recovery to ERROR_ACTIVE with both counters 0. (R489,
R493, R495, R496, R497, R500, R501, R502, R508, R509, R511, R515.) -/
def Obligations.TrayBusCommandsComplete : Prop :=
  (∀ (w i b : Nat) (f : Frame) (s : State),
      w < 2 →
      s.tbState (62 + w) = 1 ∨ s.tbState (62 + w) = 4 ∨ s.tbState (62 + w) = 5 →
      f.fdf = true → s.flag fTB_CTL_FD_EN (62 + w) 0 = true →
      s.dataSearch (62 + w) = false →
      f.rtr = false →
      s.ownNode (62 + w) f = false →
      s.orwBad (62 + w) f = false →
      (List.range 16).find? (fun j => s.filterTakes (62 + w) j f) = some i →
      s.fld fTB_FILT_BUF_COUNT (62 + w) i ≠ 0 →
      s.rxBuffer (62 + w) i = some b →
      Completes (.canFrameReceive w f) s fun t =>
        t.reg .TB_RXB_ID (62 + w) b = BitVec.ofNat 64 (f.ide.toNat * 2 ^ 30 + frameIdent f) ∧ t.fld fTB_RXB_CTRL_STATE (62 + w) b = 1 ∧ t.fld fTB_RXB_CTRL_FILTER (62 + w) b = i ∧ t.fld fTB_RXB_CTRL_DLC (62 + w) b = f.dlc % 16 ∧ t.fld fTB_FILT_HITS_HITS (62 + w) i = (s.fld fTB_FILT_HITS_HITS (62 + w) i + 1) % 2 ^ 32 ∧ Only ({ regs := regsAt [.TB_STAT, .TB_FILT_HITS, .TB_RXB_ID, .TB_RXB_CTRL, .TB_RXB_TS, .TB_RXB_DATA] (62 + w), free := true }) s t) ∧
  (∀ (w : Nat) (f : Frame) (s : State),
      w < 2 →
      s.tbState (62 + w) = 1 ∨ s.tbState (62 + w) = 4 ∨ s.tbState (62 + w) = 5 →
      f.fdf = true → s.flag fTB_CTL_FD_EN (62 + w) 0 = true →
      s.dataSearch (62 + w) = false →
      f.rtr = false →
      s.orwBad (62 + w) f = true →
      Completes (.canFrameReceive w f) s fun t =>
        t.fld fTB_ORW_STAT_BAD (62 + w) 0 = min (s.fld fTB_ORW_STAT_BAD (62 + w) 0 + 1) 65535 ∧ Only (Change.recording { regs := regsAt [.TB_STAT, .TB_FILT_HITS, .TB_RXB_ID, .TB_RXB_CTRL, .TB_RXB_TS, .TB_RXB_DATA, .TB_ORW_STAT, .TB_FILT_BUF] (62 + w), free := true }) s t) ∧
  (∀ (w : Nat) (f : Frame) (s : State),
      w < 2 →
      s.tbState (62 + w) = 1 ∨ s.tbState (62 + w) = 4 ∨ s.tbState (62 + w) = 5 →
      f.fdf = true → s.flag fTB_CTL_FD_EN (62 + w) 0 = true →
      s.dataSearch (62 + w) = false →
      f.rtr = true →
      Completes (.canFrameReceive w f) s fun t =>
        Only ({ regs := theReg .TB_STAT (62 + w) 0, free := true }) s t) ∧
  (∀ (w b : Nat) (s : State),
      w < 2 →
      b < 32 →
      s.fld fTB_RXB_CTRL_STATE (62 + w) b = 1 →
      Completes (.rxBufferRead (.warden w) w b 0) s fun t =>
        t.reply = ⟨.ok, leBytes 4 (s.reg .TB_RXB_ID (62 + w) b).toNat⟩ ∧ t.fld fTB_RXB_CTRL_STATE (62 + w) b = 2 ∧ Only ({ regs := theReg .TB_RXB_CTRL (62 + w) b, reply := true }) s t) ∧
  (∀ (w b : Nat) (s : State),
      w < 2 →
      b < 32 →
      Completes (.rxBufferRead (.warden w) w b 0x4C) s fun t =>
        t.reply = ⟨.ok, leBytes 4 (s.reg .TB_RXB_DATA (62 + w) (16 * b + 15)).toNat⟩ ∧ t.fld fTB_RXB_CTRL_STATE (62 + w) b = 0 ∧ Only ({ regs := theReg .TB_RXB_CTRL (62 + w) b, reply := true }) s t) ∧
  (∀ (p w : Nat) (v : W64) (s : State),
      w < 2 →
      getBits v 1 0 = 0 →
      s.tbState (62 + w) < 6 →
      Completes (.tbModeWrite (.host p) w v) s fun t =>
        t.fld fTB_CTL_MODE (62 + w) 0 = 0 ∧ t.tbState (62 + w) = 0 ∧ (∀ b : Nat, b < 32 → t.fld fTB_RXB_CTRL_STATE (62 + w) b = 0)) ∧
  (∀ (p w : Nat) (v : W64) (s : State),
      w < 2 →
      getBits v 1 0 = 1 →
      s.tbState (62 + w) = 0 →
      Completes (.tbModeWrite (.host p) w v) s fun t =>
        t.fld fTB_CTL_MODE (62 + w) 0 = 1 ∧ t.tbState (62 + w) = 1 ∧ t.fld fTB_CTL_FD_EN (62 + w) 0 = getBits v 8 8 ∧ Only ({ regs := regsIn [.TB_CTL, .TB_STAT] (62 + w) 0 }) s t) ∧
  (∀ (p w : Nat) (v : W64) (s : State),
      w < 2 →
      getBits v 1 0 = 2 →
      bitOf v 5 = false →
      s.tbState (62 + w) < 2 →
      s.flag fWD_ROLE_ACTIVE (62 + w) 0 = true →
      s.flag fTB_STAT_NODE_BAD (62 + w) 0 = false →
      Completes (.tbModeWrite (.host p) w v) s fun t =>
        t.fld fTB_CTL_MODE (62 + w) 0 = 2 ∧ t.tbState (62 + w) = 3 ∧ Only ({ regs := regsIn [.TB_CTL, .TB_STAT] (62 + w) 0 }) s t) ∧
  (∀ (p w : Nat) (v : W64) (s : State),
      w < 2 →
      getBits v 1 0 = 2 →
      bitOf v 5 = true →
      s.tbState (62 + w) = 1 →
      Completes (.tbModeWrite (.host p) w v) s fun t =>
        t.fld fTB_CTL_MODE (62 + w) 0 = 2 ∧ t.tbState (62 + w) = 2 ∧ Only ({ regs := regsIn [.TB_CTL, .TB_STAT, .TB_AUTO] (62 + w) 0 }) s t) ∧
  (∀ (p w : Nat) (v : W64) (s : State),
      w < 2 →
      getBits v 1 0 = 2 →
      bitOf v 4 = true →
      s.tbState (62 + w) = 6 →
      Completes (.tbModeWrite (.host p) w v) s fun t =>
        t.fld fTB_CTL_MODE (62 + w) 0 = 2 ∧ t.tbState (62 + w) = 7 ∧ Only ({ regs := regsIn [.TB_CTL, .TB_STAT] (62 + w) 0 }) s t) ∧
  (∀ (w : Nat) (s : State),
      w < 2 →
      s.tbState (62 + w) = 3 →
      Completes (.canIntegrationDone w) s fun t =>
        t.tbState (62 + w) = 4 ∧ t.fld fTB_STAT_TEC (62 + w) 0 = 0 ∧ t.fld fTB_STAT_REC (62 + w) 0 = 0) ∧
  (∀ (p w : Nat) (s : State),
      w < 2 →
      s.tbState (62 + w) ≠ 0 →
      s.tbState (62 + w) < 6 →
      Completes (.autorate (.host p) w) s fun t =>
        t.tbState (62 + w) = 2 ∧ t.fld fTB_AUTO_NCAND (62 + w) 0 = 0 ∧ t.fld fTB_AUTO_COUNT (62 + w) 0 = 0 ∧ t.flag fTB_AUTO_LOCKED_NOM (62 + w) 0 = false ∧ Only ({ regs := regsIn [.TB_AUTO, .TB_STAT] (62 + w) 0 }) s t) ∧
  (∀ (w : Nat) (s : State),
      w < 2 →
      s.tbState (62 + w) = 2 →
      Completes (.autorateCandidateTimeout w) s fun t =>
        t.fld fTB_AUTO_NCAND (62 + w) 0 = (s.fld fTB_AUTO_NCAND (62 + w) 0 + 1) % 4 ∧ t.fld fTB_AUTO_COUNT (62 + w) 0 = 0 ∧ Only ({ regs := theReg .TB_AUTO (62 + w) 0 }) s t) ∧
  (∀ (p w : Nat) (v : W64) (s : State),
      w < 2 →
      s.tbState (62 + w) ≤ 1 →
      s.dataSearch (62 + w) = false →
      timingLegal false v = true →
      Completes (.tbTimingWrite (.host p) w false v) s fun t =>
        t.fld fTB_NOM_BRP (62 + w) 0 = getBits v 31 24 ∧ t.fld fTB_NOM_TSEG1 (62 + w) 0 = getBits v 23 16 ∧ t.fld fTB_NOM_TSEG2 (62 + w) 0 = getBits v 14 8 ∧ t.fld fTB_NOM_SJW (62 + w) 0 = getBits v 6 0) ∧
  (∀ (w : Nat) (e : BusError) (brs : Bool) (s : State),
      w < 2 →
      s.tbState (62 + w) = 4 ∨ s.tbState (62 + w) = 5 →
      e ≠ .ack →
      Completes (.canBusError w e brs) s fun t =>
        t.fld fTB_STAT_REC (62 + w) 0 = min (s.fld fTB_STAT_REC (62 + w) 0 + 1) 255 ∧ t.fld (errField e) (62 + w) 0 = min (s.fld (errField e) (62 + w) 0 + 1) 255 ∧ Only (Change.recording { regs := regsIn [.TB_STAT, .TB_ERRCNT, .TB_AUTO] (62 + w) 0 }) s t) ∧
  (∀ (w : Nat) (brs : Bool) (s : State),
      w < 2 →
      s.tbState (62 + w) = 4 ∨ s.tbState (62 + w) = 5 →
      Completes (.canBusError w .ack brs) s fun t =>
        t.fld fTB_ERRCNT_ACK (62 + w) 0 = min (s.fld fTB_ERRCNT_ACK (62 + w) 0 + 1) 255 ∧ Only ({ regs := theReg .TB_ERRCNT (62 + w) 0 }) s t) ∧
  (∀ (p w : Nat) (s : State),
      w < 2 →
      s.tbState (62 + w) = 6 →
      Completes (.canRecover (.host p) w) s fun t =>
        t.tbState (62 + w) = 7 ∧ Only ({ regs := theReg .TB_STAT (62 + w) 0 }) s t) ∧
  (∀ (s : State),
      s.tbState s.aw = 6 →
      s.recoverAt s.aw ≤ s.now →
      Completes (.busOffAutoRecover) s fun t =>
        t.tbState s.aw = 7 ∧ Only ({ regs := theReg .TB_STAT s.aw 0 }) s t) ∧
  (∀ (w : Nat) (s : State),
      w < 2 →
      s.tbState (62 + w) = 7 →
      Completes (.busOffRecoveryDone w) s fun t =>
        t.tbState (62 + w) = 4 ∧ t.fld fTB_STAT_TEC (62 + w) 0 = 0 ∧ t.fld fTB_STAT_REC (62 + w) 0 = 0 ∧ (∀ b : Nat, b < 32 → s.txStatus (62 + w) b = 1 → t.fld fTB_TXB_CMD_ATTEMPTS (62 + w) b = 0) ∧ Only (Change.recording { regs := regsAt [.TB_STAT, .TB_TXB_CMD] (62 + w) }) s t)

/-- A request by the warden's own core that is not refused makes the buffer PENDING with no attempt; a bad one answers
BAD. An abort ends a buffer that is not on the bus at once, and marks one that is. An attempt takes the pending
buffer that wins arbitration. A sent frame ends its buffer as SENT and lowers TEC by one; lost arbitration counts an
attempt while retries remain, and abandons the buffer after the last; an error raises TEC by 8; past 255 the
controller is in BUS_OFF. A lifetime that ends expires its buffer. (R503, R504, R505, R506, R507, R508, R510.) -/
def Obligations.TransmitCommandsComplete : Prop :=
  (∀ (w b : Nat) (s : State),
      w < 2 →
      b < 32 →
      s.txStatus (62 + w) b ≠ 1 →
      s.txBad (62 + w) b = false →
      Completes (.txRequest (.warden w) w b) s fun t =>
        t.txStatus (62 + w) b = 1 ∧ t.fld fTB_TXB_CMD_ATTEMPTS (62 + w) b = 0 ∧ Only ({ regs := theReg .TB_TXB_CMD (62 + w) b, lats := fun l e i => [Lat.txLife, .txEnds, .txData].contains l && theLat l (62 + w) b l e i }) s t) ∧
  (∀ (w b : Nat) (s : State),
      w < 2 →
      b < 32 →
      s.txStatus (62 + w) b ≠ 1 →
      s.txBad (62 + w) b = true →
      Completes (.txRequest (.warden w) w b) s fun t =>
        t.txStatus (62 + w) b = 6 ∧ Only ({ regs := theReg .TB_TXB_CMD (62 + w) b }) s t) ∧
  (∀ (w b : Nat) (s : State),
      w < 2 →
      b < 32 →
      s.txStatus (62 + w) b = 1 →
      s.lat .txNow (62 + w) 0 ≠ b + 1 →
      Completes (.txAbort (.warden w) w b) s fun t =>
        t.txStatus (62 + w) b = 5 ∧ Only ({ regs := theReg .TB_TXB_CMD (62 + w) b, lats := fun l e i => [Lat.txLife, .txEnds, .txData].contains l && theLat l (62 + w) b l e i }) s t) ∧
  (∀ (w b : Nat) (s : State),
      w < 2 →
      b < 32 →
      s.txStatus (62 + w) b = 1 →
      s.lat .txNow (62 + w) 0 = b + 1 →
      Completes (.txAbort (.warden w) w b) s fun t =>
        t.txStatus (62 + w) b = 1 ∧ t.lat .txEnds (62 + w) b = 2 ∧ Only ({ lats := theLat .txEnds (62 + w) b }) s t) ∧
  (∀ (w b : Nat) (s : State),
      w < 2 →
      s.tbState (62 + w) = 4 ∨ s.tbState (62 + w) = 5 →
      s.flag fTB_STAT_TXEN (62 + w) 0 = true →
      s.lat .txNow (62 + w) 0 = 0 →
      s.txChoice (62 + w) = some b →
      Completes (.txAttemptStart w) s fun t =>
        t.lat .txNow (62 + w) 0 = b + 1 ∧ t.lat .txBrs (62 + w) 0 = (s.brsNow (62 + w) && s.flag fTB_TXB_CTRL_BRS (62 + w) b).toNat ∧ Only ({ lats := orLat (theLat .txNow (62 + w) 0) (theLat .txBrs (62 + w) 0) }) s t) ∧
  (∀ (w b : Nat) (s : State),
      w < 2 →
      s.lat .txNow (62 + w) 0 = b + 1 →
      Completes (.txAttemptEnd w .sent) s fun t =>
        t.txStatus (62 + w) b = 2 ∧ t.fld fTB_STAT_TEC (62 + w) 0 = s.fld fTB_STAT_TEC (62 + w) 0 - 1 ∧ t.lat .txNow (62 + w) 0 = 0 ∧ Only (Change.recording { regs := regsAt [.TB_STAT, .TB_ERRCNT, .TB_TXB_CMD] (62 + w), lats := latsOf [.txNow, .txLife, .txEnds, .txData, .busOffAt] }) s t) ∧
  (∀ (w b : Nat) (s : State),
      w < 2 →
      s.lat .txNow (62 + w) 0 = b + 1 →
      s.lat .txEnds (62 + w) b = 0 →
      s.fld fTB_TXB_CMD_ATTEMPTS (62 + w) b < s.fld fTB_TXB_CTRL_RETRY (62 + w) b →
      Completes (.txAttemptEnd w .lost) s fun t =>
        t.txStatus (62 + w) b = s.txStatus (62 + w) b ∧ t.fld fTB_TXB_CMD_ATTEMPTS (62 + w) b = s.fld fTB_TXB_CMD_ATTEMPTS (62 + w) b + 1 ∧ t.lat .txNow (62 + w) 0 = 0 ∧ Only (Change.recording { regs := regsAt [.TB_STAT, .TB_ERRCNT, .TB_TXB_CMD] (62 + w), lats := latsOf [.txNow, .txLife, .txEnds, .txData, .busOffAt] }) s t) ∧
  (∀ (w b : Nat) (s : State),
      w < 2 →
      s.lat .txNow (62 + w) 0 = b + 1 →
      s.lat .txEnds (62 + w) b = 0 →
      s.fld fTB_TXB_CMD_ATTEMPTS (62 + w) b = s.fld fTB_TXB_CTRL_RETRY (62 + w) b →
      Completes (.txAttemptEnd w .lost) s fun t =>
        t.txStatus (62 + w) b = 3 ∧ Only (Change.recording { regs := regsAt [.TB_STAT, .TB_ERRCNT, .TB_TXB_CMD] (62 + w), lats := latsOf [.txNow, .txLife, .txEnds, .txData, .busOffAt] }) s t) ∧
  (∀ (w b : Nat) (e : BusError) (inData : Bool) (s : State),
      w < 2 →
      s.lat .txNow (62 + w) 0 = b + 1 →
      ¬(e = .ack ∧ s.tbState (62 + w) = 5) →
      s.fld fTB_STAT_TEC (62 + w) 0 < 248 →
      Completes (.txAttemptEnd w (.error e inData)) s fun t =>
        t.fld fTB_STAT_TEC (62 + w) 0 = s.fld fTB_STAT_TEC (62 + w) 0 + 8 ∧ t.fld (errField e) (62 + w) 0 = min (s.fld (errField e) (62 + w) 0 + 1) 255 ∧ Only (Change.recording { regs := regsAt [.TB_STAT, .TB_ERRCNT, .TB_TXB_CMD] (62 + w), lats := latsOf [.txNow, .txLife, .txEnds, .txData, .busOffAt] }) s t) ∧
  (∀ (w b : Nat) (e : BusError) (inData : Bool) (s : State),
      w < 2 →
      s.lat .txNow (62 + w) 0 = b + 1 →
      ¬(e = .ack ∧ s.tbState (62 + w) = 5) →
      248 ≤ s.fld fTB_STAT_TEC (62 + w) 0 →
      Completes (.txAttemptEnd w (.error e inData)) s fun t =>
        t.tbState (62 + w) = 6 ∧ t.fld fTB_ERRCNT_BUSOFFS (62 + w) 0 = min (s.fld fTB_ERRCNT_BUSOFFS (62 + w) 0 + 1) 65535 ∧ Only (Change.recording { regs := regsAt [.TB_STAT, .TB_ERRCNT, .TB_TXB_CMD] (62 + w), lats := latsOf [.txNow, .txLife, .txEnds, .txData, .busOffAt] }) s t) ∧
  (∀ (w b : Nat) (s : State),
      w < 2 →
      b < 32 →
      s.txStatus (62 + w) b = 1 →
      s.lat .txLife (62 + w) b ≠ 0 →
      s.lat .txNow (62 + w) 0 ≠ b + 1 →
      Completes (.txLifetimeEnd w b) s fun t =>
        t.txStatus (62 + w) b = 4 ∧ Only (Change.recording { regs := regsAt [.TB_STAT, .TB_ERRCNT, .TB_TXB_CMD] (62 + w), lats := latsOf [.txNow, .txLife, .txEnds, .txData, .busOffAt] }) s t)

/-- A good message frees its receive buffer. A legal power order from node 0 becomes the rack's order and makes the
effective state; an illegal one leaves the rack's order as it is; an order that expires is no longer valid. A status
request and the periodic status queue a STATUS in the free transmit buffer. An emergency from another node is only
recorded; a message that is not good is dropped. The next event at or above FWD_SEV is queued as EVENT and the
pointer passes it. (R515, R516, R517, R518, R519, R521.) -/
def Obligations.OrwilosCommandsComplete : Prop :=
  (∀ (b : Nat) (s : State),
      b < 32 →
      s.orwHolds b 2 = true →
      s.orwGood b 2 = true →
      s.rxIdPart b 11 6 = 0 →
      orderIllegal (s.rxBytes b) = false →
      Completes (.powerOrder b) s fun t =>
        t.wflag fTH_ORDER_RACK_VALID 0 = true ∧ t.wfld fTH_ORDER_RACK_CAP_W 0 = payloadNat (s.rxBytes b) 0 2 ∧ t.wfld fTB_ORW_STAT_ORDER_SEQ 0 = payloadNat (s.rxBytes b) 10 2 ∧ t.wfld fTH_ORDER_EFF_STATE 0 = t.effState ∧ t.fld fTB_RXB_CTRL_STATE s.aw b = 0) ∧
  (∀ (b : Nat) (s : State),
      b < 32 →
      s.orwHolds b 2 = true →
      s.orwGood b 2 = true →
      s.rxIdPart b 11 6 = 0 →
      orderIllegal (s.rxBytes b) = true →
      Completes (.powerOrder b) s fun t =>
        t.wreg .TH_ORDER_RACK 0 = s.wreg .TH_ORDER_RACK 0 ∧ t.fld fTB_RXB_CTRL_STATE s.aw b = 0) ∧
  (∀ (s : State),
      s.wflag fTH_ORDER_RACK_VALID 0 = true →
      Completes (.powerOrderExpire) s fun t =>
        t.wflag fTH_ORDER_RACK_VALID 0 = false ∧ t.wfld fTH_ORDER_EFF_STATE 0 = t.effState) ∧
  (∀ (b x : Nat) (s : State),
      b < 32 →
      s.orwHolds b 7 = true →
      s.orwGood b 7 = true →
      s.rxIdPart b 11 6 = 0 →
      s.freeTx s.aw = some x →
      Completes (.statusRequest b) s fun t =>
        t.fld fTB_RXB_CTRL_STATE s.aw b = 0 ∧ t.txStatus s.aw x = 1 ∧ getBits (t.reg .TB_TXB_ID s.aw x) 25 18 = 6 ∧ Only ({ regs := regsAt [.TB_RXB_CTRL, .TB_TXB_ID, .TB_TXB_CTRL, .TB_TXB_CMD, .TB_TXB_DATA] s.aw, lats := latsOf [.txData, .txEnds, .txLife, .orwSeq], free := true }) s t) ∧
  (∀ (x : Nat) (s : State),
      s.fld fTB_CFG_STAT_MS s.aw 0 ≠ 0 →
      s.flag fWD_ROLE_ACTIVE s.aw 0 = true →
      s.flag fTB_CFG_ORW_EN s.aw 0 = true →
      s.flag fTB_CTL_FD_EN s.aw 0 = true →
      s.freeTx s.aw = some x →
      Completes (.statusPeriodic) s fun t =>
        t.txStatus s.aw x = 1 ∧ getBits (t.reg .TB_TXB_ID s.aw x) 25 18 = 6 ∧ Only ({ regs := regsAt [.TB_TXB_ID, .TB_TXB_CTRL, .TB_TXB_CMD, .TB_TXB_DATA] s.aw, lats := latsOf [.txData, .txEnds, .txLife, .orwSeq], free := true }) s t) ∧
  (∀ (b : Nat) (s : State),
      b < 32 →
      s.orwHolds b 1 = true →
      s.orwGood b 1 = true →
      Completes (.emergencyReceive b) s fun t =>
        t.fld fTB_RXB_CTRL_STATE s.aw b = 0 ∧ Only (Change.recording { regs := theReg .TB_RXB_CTRL s.aw b }) s t) ∧
  (∀ (b : Nat) (s : State),
      b < 32 →
      s.orwHolds b 1 = true →
      s.orwGood b 1 = false →
      Completes (.emergencyReceive b) s fun t =>
        t.fld fTB_RXB_CTRL_STATE s.aw b = 0 ∧ Only ({ regs := theReg .TB_RXB_CTRL s.aw b }) s t) ∧
  (∀ (x : Nat) (s : State),
      s.flag fWD_ROLE_ACTIVE s.aw 0 = true →
      s.flag fTB_CFG_ORW_EN s.aw 0 = true →
      s.flag fTB_CTL_FD_EN s.aw 0 = true →
      s.freeTx s.aw = some x →
      (List.range 32).all (fun b => s.txStatus s.aw b != 1) = true →
      s.lat .fwdSec 0 0 ≠ s.now / 1000000000 →
      0 < s.fld fTB_CFG_FWD_MAX s.aw 0 →
      s.wfld fTB_FWD_PTR 0 < 8192 →
      s.wfld fTB_FWD_PTR 0 < s.sticky.records.length →
      s.fld fTB_CFG_FWD_SEV s.aw 0 ≤ (s.sticky.records[s.wfld fTB_FWD_PTR 0]?.map Record.sev).getD 0 →
      Completes (.eventForward) s fun t =>
        t.wfld fTB_FWD_PTR 0 = s.wfld fTB_FWD_PTR 0 + 1 ∧ t.txStatus s.aw x = 1 ∧ getBits (t.reg .TB_TXB_ID s.aw x) 25 18 = 5)

/-- A PKG reset outside a power-fail save starts bring-up at step 1, with no contents in HBM, no spindle or ply state,
and PWRFAIL kept; one during a save waits. A power-on reset does so from the straps and pins, with all memory blank.
A WDR leaves its warden not HEALTHY. A DIE reset holds the die in reset with phase RECOVERY until it ends. An SPN
reset puts the slot's spindle in RESET, and its end leaves it HALTED. A PORT reset is shown in WD_RST_STAT. The
reset command refuses a BUSY reset, an unknown unit and a retired one, and starts a DIE reset. (R525, R526, R527,
R528, R529, R530, R532.) -/
def Obligations.ResetCommandsComplete : Prop :=
  (∀ (s : State),
      s.wflag fWD_PKG_STAT_SAVING 0 = false →
      Completes (.pkgReset) s fun t =>
        t.pkgState = 3 ∧ t.wfld fWD_PKG_STAT_STEP 0 = 1 ∧ t.spins = [] ∧ t.plies = [] ∧ t.coll = [] ∧ (∀ a : Nat, a < 0x12000000000 → t.byte a = 0) ∧ t.wfld fWD_PKG_STAT_PWRFAIL 0 = s.wfld fWD_PKG_STAT_PWRFAIL 0) ∧
  (∀ (s : State),
      s.wflag fWD_PKG_STAT_SAVING 0 = true →
      Completes (.pkgReset) s fun t =>
        t.lat .pkgDue 0 0 = 1 ∧ Only ({ lats := theLat .pkgDue 0 0 }) s t) ∧
  (∀ (s : State),
      s.wflag fWD_PKG_STAT_SAVING 0 = false →
      Completes (.pcie0Perst) s fun t =>
        t.pkgState = 3 ∧ t.wfld fWD_PKG_STAT_STEP 0 = 1 ∧ t.spins = [] ∧ t.plies = [] ∧ t.coll = [] ∧ (∀ a : Nat, a < 0x12000000000 → t.byte a = 0) ∧ t.lat .perst 0 0 = 1) ∧
  (∀ (port : Nat) (s : State),
      port < 2 →
      Completes (.perstNDeassert port) s fun t =>
        t.lat .perst port 0 = 0 ∧ Only ({ lats := theLat .perst port 0 }) s t) ∧
  (∀ (slots : Nat) (jumper pwrfail : Bool) (s : State),
      slots < 64 →
      Completes (.powerOnReset slots jumper pwrfail) s fun t =>
        t.pkgState = 3 ∧ t.wfld fWD_PKG_STAT_STEP 0 = 1 ∧ t.spins = [] ∧ t.plies = [] ∧ (∀ a : Nat, t.byte a = 0) ∧ t.flag fFS_PRES_JUMPER 62 0 = jumper ∧ t.flag fFS_PRES_JUMPER 63 0 = jumper ∧ t.wflag fWD_PKG_STAT_PWRFAIL 0 = pwrfail) ∧
  (∀ (s : State),
      Completes (.vstbyDown) s fun t =>
        t.lat .noPower 0 0 = 1 ∧ t.spins = [] ∧ t.mem = [] ∧ t.retLog = s.retLog ∧ t.pending = s.pending) ∧
  (∀ (w cause : Nat) (s : State),
      w < 2 →
      cause = 0 ∨ cause = 2 ∨ cause = 3 →
      s.lat .wardenHeld (62 + w) 0 = 0 →
      Completes (.wdr w cause) s fun t =>
        t.flag fWD_ROLE_HEALTHY (62 + w) 0 = false ∧ t.flag fWD_ROLE_MIRROR_OK (62 + w) 0 = false ∧ t.wfld fWD_RST_STAT_KIND 0 = RstKind.wdr.code ∧ t.wfld fWD_RST_STAT_CAUSE 0 = cause) ∧
  (∀ (d cause : Nat) (s : State),
      d < 62 →
      cause = 0 ∨ cause = 4 →
      s.lat .inReset d 0 = 0 →
      Completes (.dieReset d cause) s fun t =>
        t.lat .inReset d 0 = 1 ∧ t.dieUp d = false ∧ t.wfld fWD_DIE_PHASE_PHASE d = 3 ∧ t.wfld fWD_RST_STAT_KIND 0 = RstKind.die.code ∧ t.wfld fWD_RST_STAT_CAUSE 0 = cause) ∧
  (∀ (d : Nat) (s : State),
      d < 62 →
      s.lat .inReset d 0 ≠ 0 →
      Completes (.dieResetEnd d) s fun t =>
        t.lat .inReset d 0 = 0 ∧ t.wfld fWD_DIE_PHASE_PHASE d = 3) ∧
  (∀ (d ph sp : Nat) (s : State),
      d < 48 →
      ph < 34 →
      s.dieUp d = true →
      s.slotOf d ph = some sp →
      Completes (.spnReset d ph false) s fun t =>
        t.spFld fSPN_STAT_STATE sp = 1 ∧ t.spin sp = Spin.zero ∧ t.wfld fWD_RST_STAT_KIND 0 = RstKind.spn.code) ∧
  (∀ (d ph sp : Nat) (s : State),
      d < 48 →
      ph < 34 →
      sp < 1536 →
      s.slotOf d ph = some sp →
      s.spFld fSPN_STAT_STATE sp = 1 →
      Completes (.spnReset d ph true) s fun t =>
        t.spFld fSPN_STAT_STATE sp = 2 ∧ Only ({ regs := orReg (theReg .SPN_STAT (spDie sp) (spIdx sp)) (regsOf [.WD_RST_STAT, .WD_RST_CMD]), lats := theLat .rstUnit 0 0 }) s t) ∧
  (∀ (unit cause : Nat) (s : State),
      (portOf unit).isSome = true →
      cause = 0 ∨ cause = 1 ∨ cause = 5 →
      s.dieUp (unit / 1024) = true →
      Completes (.portReset unit cause) s fun t =>
        t.wfld fWD_RST_STAT_KIND 0 = RstKind.port.code ∧ t.wfld fWD_RST_STAT_CAUSE 0 = cause) ∧
  (∀ (m : Master) (v : W64) (s : State),
      s.hostOrActive m = true →
      bitOf v 16 = true →
      s.wflag fWD_RST_STAT_BUSY 0 = true →
      Completes (.wdRstCmd m v) s fun t =>
        t.wfld fWD_RST_STAT_RESULT 0 = 2 ∧ t.wfld fWD_RST_CMD_UNIT 0 = getBits v 15 0 ∧ Only ({ regs := regsOf [.WD_RST_CMD, .WD_RST_STAT] }) s t) ∧
  (∀ (m : Master) (v : W64) (s : State),
      s.hostOrActive m = true →
      bitOf v 16 = true →
      s.wflag fWD_RST_STAT_BUSY 0 = false →
      rstKind (getBits v 15 0) = none →
      Completes (.wdRstCmd m v) s fun t =>
        t.wfld fWD_RST_STAT_RESULT 0 = 1 ∧ Only ({ regs := regsOf [.WD_RST_CMD, .WD_RST_STAT] }) s t) ∧
  (∀ (m : Master) (v : W64) (s : State),
      s.hostOrActive m = true →
      bitOf v 16 = true →
      s.wflag fWD_RST_STAT_BUSY 0 = false →
      rstKind (getBits v 15 0) ≠ none →
      getBits v 15 0 ≠ 0xFFFF →
      s.isRetired (getBits v 15 0) = true →
      Completes (.wdRstCmd m v) s fun t =>
        t.wfld fWD_RST_STAT_RESULT 0 = 3 ∧ Only ({ regs := regsOf [.WD_RST_CMD, .WD_RST_STAT] }) s t) ∧
  (∀ (m : Master) (v : W64) (s : State),
      s.hostOrActive m = true →
      bitOf v 16 = true →
      s.wflag fWD_RST_STAT_BUSY 0 = false →
      rstKind (getBits v 15 0) = some .die →
      s.isRetired (getBits v 15 0) = false →
      Completes (.wdRstCmd m v) s fun t =>
        t.wflag fWD_RST_STAT_BUSY 0 = true ∧ t.wflag fWD_RST_CMD_GO 0 = true ∧ t.lat .inReset (getBits v 15 0 / 1024) 0 ≠ 0)

/-- Each bring-up step that completes starts the next where its condition holds, and the last enters RUN. A long wait
for flow is only recorded. A host's request is answered with RETRY before the step I/O and normally after it. A die
power request that is not refused stands in REQ and, in RUN, begins the change, which ends in ACT. An ordered
shutdown that is due starts; its steps lead to STANDBY or OFF. The foldback of VSTBY_OUT is recorded and ends; a
boundary-scan instruction that drives balls acts in OFF only. (R536, R541, R542, R543, R544, R545, R553, R561.) -/
def Obligations.BringupAndShutdownCommandsComplete : Prop :=
  (∀ (a b : Nat) (s : State),
      s.pkgState = 3 →
      s.lat .noPower 0 0 = 0 →
      s.wfld fWD_PKG_STAT_STEP 0 = 1 →
      s.wflag fWD_PKG_STAT_PWRFAIL 0 = false →
      Completes (.bringupStepComplete a b) s fun t =>
        t.wfld fWD_PKG_STAT_STEP 0 = 2) ∧
  (∀ (a b : Nat) (s : State),
      s.pkgState = 3 →
      s.lat .noPower 0 0 = 0 →
      s.wfld fWD_PKG_STAT_STEP 0 = 2 →
      s.forced = false →
      Completes (.bringupStepComplete a b) s fun t =>
        t.wfld fWD_PKG_STAT_STEP 0 = 3) ∧
  (∀ (a b : Nat) (s : State),
      s.pkgState = 3 →
      s.lat .noPower 0 0 = 0 →
      s.wfld fWD_PKG_STAT_STEP 0 = 3 →
      s.dieUp 60 = true →
      Completes (.bringupStepComplete a b) s fun t =>
        t.wfld fWD_PKG_STAT_STEP 0 = 4) ∧
  (∀ (a b : Nat) (s : State),
      s.pkgState = 3 →
      s.lat .noPower 0 0 = 0 →
      s.wfld fWD_PKG_STAT_STEP 0 = 4 →
      s.mayProve = true →
      s.lat .perst 0 0 = 0 →
      Completes (.bringupStepComplete a b) s fun t =>
        t.wfld fWD_PKG_STAT_STEP 0 = 5) ∧
  (∀ (a b : Nat) (s : State),
      s.pkgState = 3 →
      s.lat .noPower 0 0 = 0 →
      s.wfld fWD_PKG_STAT_STEP 0 = 5 →
      Completes (.bringupStepComplete a b) s fun t =>
        (t.wfld fWD_PKG_STAT_STEP 0 = if s.lat .soakSkip 0 0 = 0 then 6 else 7)) ∧
  (∀ (a b : Nat) (s : State),
      s.pkgState = 3 →
      s.lat .noPower 0 0 = 0 →
      s.wfld fWD_PKG_STAT_STEP 0 = 6 →
      s.wflag fTH_HB_STAT_SOAKED 0 = true →
      Completes (.bringupStepComplete a b) s fun t =>
        t.wfld fWD_PKG_STAT_STEP 0 = 7) ∧
  (∀ (a b : Nat) (s : State),
      s.pkgState = 3 →
      s.lat .noPower 0 0 = 0 →
      s.wfld fWD_PKG_STAT_STEP 0 = 7 →
      Completes (.bringupStepComplete a b) s fun t =>
        t.wfld fWD_PKG_STAT_STEP 0 = 8) ∧
  (∀ (a b : Nat) (s : State),
      s.pkgState = 3 →
      s.lat .noPower 0 0 = 0 →
      s.wfld fWD_PKG_STAT_STEP 0 = 8 →
      s.cxlSettled = true →
      Completes (.bringupStepComplete a b) s fun t =>
        t.wfld fWD_PKG_STAT_STEP 0 = 9) ∧
  (∀ (a b : Nat) (s : State),
      s.pkgState = 3 →
      s.lat .noPower 0 0 = 0 →
      s.wfld fWD_PKG_STAT_STEP 0 = 9 →
      Completes (.bringupStepComplete a b) s fun t =>
        t.pkgState = 0 ∧ t.wfld fWD_PKG_STAT_STEP 0 = 0) ∧
  (∀ (s : State),
      s.pkgState = 3 →
      s.wfld fWD_PKG_STAT_STEP 0 = 4 →
      Completes (.flowProofLongWait) s fun t =>
        Only (Change.recording {}) s t) ∧
  (∀ (port : Nat) (s : State),
      port < 2 →
      s.dieUp 60 = true →
      s.lat .perst port 0 = 0 →
      s.pkgState = 3 →
      s.wfld fWD_PKG_STAT_STEP 0 ≤ 3 →
      Completes (.hostConfigRequest port) s fun t =>
        t.reply.status = .retry ∧ Only ({ reply := true }) s t) ∧
  (∀ (port : Nat) (s : State),
      port < 2 →
      s.dieUp 60 = true →
      s.lat .perst port 0 = 0 →
      s.pkgState ≠ 3 ∨ 3 < s.wfld fWD_PKG_STAT_STEP 0 →
      Completes (.hostConfigRequest port) s fun t =>
        t.reply.status = .ok ∧ Only ({ reply := true }) s t) ∧
  (∀ (m : Master) (d : Nat) (v : W64) (s : State),
      d < 62 →
      s.hostOrActive m = true →
      getBits v 1 0 ≠ 3 →
      s.diePwrBad d (getBits v 1 0) = false →
      Completes (.wdDiePwrWrite m d v) s fun t =>
        t.wfld fWD_DIE_PWR_REQ d = getBits v 1 0 ∧ (s.pkgState = 0 → s.wfld fWD_DIE_PWR_ACT d ≠ getBits v 1 0 → t.wfld fWD_DIE_PWR_ACT d = 3)) ∧
  (∀ (d a b : Nat) (s : State),
      d < 62 →
      s.pkgState = 0 →
      s.wfld fWD_DIE_PWR_REQ d = 0 →
      s.wfld fWD_DIE_PWR_ACT d ≠ 0 →
      Completes (.diePowerChangeDone d a b) s fun t =>
        t.wfld fWD_DIE_PWR_ACT d = 0 ∧ t.dieUp d = false) ∧
  (∀ (d a b : Nat) (s : State),
      d < 62 →
      s.pkgState = 0 →
      s.wfld fWD_DIE_PWR_REQ d = 2 →
      s.wfld fWD_DIE_PWR_ACT d ≠ 2 →
      s.dieUp d = true →
      Completes (.diePowerChangeDone d a b) s fun t =>
        t.wfld fWD_DIE_PWR_ACT d = 2) ∧
  (∀ (s : State),
      s.lat .shutdownDue 0 0 ≠ 0 →
      s.pkgState < 2 ∨ s.pkgState = 3 →
      Completes (.orderedShutdownStart) s fun t =>
        t.pkgState = 4 ∧ t.lat .shutdownDue 0 0 = 0 ∧ t.lat .downStep 0 0 = 1 ∧ Only ({ regs := regsOf [.WD_PKG_STAT], lats := latsOf [.shutdownDue, .downStep, .stepSince] }) s t) ∧
  (∀ (s : State),
      s.lat .downStep 0 0 = 1 →
      Completes (.orderedShutdownStep) s fun t =>
        t.lat .downStep 0 0 = 2 ∧ Only ({ lats := theLat .downStep 0 0 }) s t) ∧
  (∀ (s : State),
      s.lat .downStep 0 0 = 2 →
      Completes (.orderedShutdownStep) s fun t =>
        t.lat .downStep 0 0 = 3 ∧ (∀ p : Nat, p < 16 → t.wpFld fWP_PORT_STAT_STATE p ≠ 4)) ∧
  (∀ (s : State),
      s.lat .downStep 0 0 = 3 →
      Completes (.orderedShutdownStep) s fun t =>
        t.lat .downStep 0 0 = 4) ∧
  (∀ (s : State),
      s.lat .downStep 0 0 = 4 →
      s.wfld fTH_ORDER_EFF_STATE 0 = 2 →
      Completes (.orderedShutdownStep) s fun t =>
        t.pkgState = 1 ∧ t.lat .downStep 0 0 = 0 ∧ (∀ d : Nat, d < 56 → t.dieUp d = false)) ∧
  (∀ (s : State),
      s.lat .downStep 0 0 = 5 →
      s.wfld fTH_ORDER_EFF_STATE 0 = 3 →
      Completes (.orderedShutdownStep) s fun t =>
        t.pkgState = 2 ∧ t.lat .offCause 0 0 = 1 ∧ (∀ d : Nat, d < 62 → d < 56 ∨ t.dieUp d = false)) ∧
  (∀ (s : State),
      s.lat .foldback 0 0 = 0 →
      Completes (.vstbyOutFoldback) s fun t =>
        t.lat .foldback 0 0 = 1 ∧ Only (Change.recording { lats := theLat .foldback 0 0 }) s t) ∧
  (∀ (s : State),
      s.lat .foldback 0 0 ≠ 0 →
      Completes (.vstbyOutRecovered) s fun t =>
        t.lat .foldback 0 0 = 0 ∧ Only (Change.recording { lats := theLat .foldback 0 0 }) s t) ∧
  (∀ (drives : Bool) (s : State),
      drives = false ∨ s.pkgState = 2 →
      Completes (.bscanInstruction drives) s fun t =>
        Only ({}) s t) ∧
  (∀ (s : State),
      s.pkgState ≠ 2 →
      s.admits 0x7182 = true →
      s.wflag fEV_STAT_FULL 0 = false →
      Completes (.bscanInstruction true) s fun t =>
        t.sticky.records.length = s.sticky.records.length + 1 ∧ Only (Change.recording {}) s t)

/-- A program of a table that exists, within its size and with a right header, makes the flash BUSY with the table if
its values are in range, and answers RESULT 4 otherwise; one whose check fails answers the check's code. A finished
program is read back as the table's other copy, or answers RESULT 5. The leak record is written while the latch
stands. PWRFAIL_N leads to OFF with a save; a finished save holds the sticky state; its discard and the erasure
leave none. (R533, R540, R547, R548, R549, R552.) -/
def Obligations.FlashAndPowerFailCommandsComplete : Prop :=
  (∀ (m : Master) (v : W64) (n : Nat) (bs : List Byte) (s : State),
      s.hostOrActive m = true →
      s.fld fFS_PRES_SEAL s.aw 0 = 1 →
      s.flag fFS_PRES_BUTTON s.aw 0 = true →
      getBits v 3 0 = 1 →
      s.wflag fWD_FLASH_STAT_BUSY 0 = false →
      n = getBits v 23 16 →
      0 < n →
      n ≤ 8 →
      getBits v 63 32 ≠ 0 →
      getBits v 63 32 ≤ tableLimit n →
      bs = s.bytes (sramAddr (s.aw - 62) 0xC0000) (min (getBits v 63 32) 262144) →
      headerOk n bs = true →
      Completes (.flashProgram m v) s fun t =>
        (if ((s.resetRegs (fun _ d _ => d == s.aw) fun _ => false).badSections s.aw n (bs.drop 32)).isEmpty then t.wflag fWD_FLASH_STAT_BUSY 0 = true ∧ t.wfld fWD_FLASH_STAT_TABLE 0 = n else t.wflag fWD_FLASH_STAT_BUSY 0 = false ∧ t.wfld fWD_FLASH_STAT_RESULT 0 = 4)) ∧
  (∀ (m : Master) (v : W64) (s : State),
      s.hostOrActive m = true →
      s.fld fFS_PRES_SEAL s.aw 0 = 1 →
      s.flag fFS_PRES_BUTTON s.aw 0 = true →
      getBits v 3 0 = 1 →
      s.wflag fWD_FLASH_STAT_BUSY 0 = false →
      getBits v 63 32 = 0 →
      Completes (.flashProgram m v) s fun t =>
        t.wfld fWD_FLASH_STAT_RESULT 0 = 0 ∧ t.wfld fWD_FLASH_STAT_TABLE 0 = getBits v 23 16 ∧ Only (Change.recording { regs := regsOf [.WD_FLASH_STAT, .WD_FLASH_CMD] }) s t) ∧
  (∀ (m : Master) (v : W64) (s : State),
      s.hostOrActive m = true →
      s.fld fFS_PRES_SEAL s.aw 0 = 1 →
      s.flag fFS_PRES_BUTTON s.aw 0 = true →
      getBits v 3 0 = 1 →
      s.wflag fWD_FLASH_STAT_BUSY 0 = false →
      getBits v 63 32 ≠ 0 →
      getBits v 23 16 = 0 ∨ 8 < getBits v 23 16 →
      Completes (.flashProgram m v) s fun t =>
        t.wfld fWD_FLASH_STAT_RESULT 0 = 1 ∧ t.wflag fWD_FLASH_STAT_BUSY 0 = false ∧ Only (Change.recording { regs := regsOf [.WD_FLASH_STAT, .WD_FLASH_CMD] }) s t) ∧
  (∀ (n : Nat) (s : State),
      s.wflag fWD_FLASH_STAT_BUSY 0 = true →
      s.lat .foldback 0 0 = 0 →
      n = s.wfld fWD_FLASH_STAT_TABLE 0 →
      s.flashTarget n ≠ stageKey →
      Completes (.flashProgramDone true) s fun t =>
        t.wflag fWD_FLASH_STAT_BUSY 0 = false ∧ t.wfld fWD_FLASH_STAT_RESULT 0 = 0 ∧ sget [] t.flash (s.flashTarget n) = sget [] s.flash stageKey ∧ Only (Change.recording { regs := regsOf [.WD_FLASH_STAT], flash := true }) s t) ∧
  (∀ (s : State),
      s.wflag fWD_FLASH_STAT_BUSY 0 = true →
      Completes (.flashProgramDone false) s fun t =>
        t.wflag fWD_FLASH_STAT_BUSY 0 = false ∧ t.wfld fWD_FLASH_STAT_RESULT 0 = 5 ∧ Only (Change.recording { regs := regsOf [.WD_FLASH_STAT], flash := true }) s t) ∧
  (∀ (s : State),
      s.lat .leakRecord 0 0 ≠ 0 →
      s.wflag fWD_FORCE_LEAK_LATCH 0 = true →
      Completes (.leakRecordWriteDone) s fun t =>
        sget [] t.flash leakKey = [1] ∧ t.lat .leakRecord 0 0 = 0 ∧ Only ({ lats := theLat .leakRecord 0 0, flash := true }) s t) ∧
  (∀ (s : State),
      s.wflag fWD_PKG_STAT_PWRFAIL 0 = false →
      Completes (.pwrfailAssert) s fun t =>
        t.wflag fWD_PKG_STAT_PWRFAIL 0 = true ∧ t.pkgState = 2 ∧ t.wflag fWD_PKG_STAT_SAVING 0 = true) ∧
  (∀ (good : Bool) (s : State),
      s.wflag fWD_PKG_STAT_SAVING 0 = true →
      s.lat .pkgDue 0 0 = 0 →
      s.lat .eraseDue 0 0 = 0 →
      s.lat .foldback 0 0 = 0 →
      Completes (.powerFailSaveDone good) s fun t =>
        t.wflag fWD_PKG_STAT_SAVING 0 = false ∧ t.wflag fWD_PKG_STAT_SAVE_OK 0 = good ∧ t.saved = some (s.saveOf good) ∧ Only ({ regs := regsOf [.WD_PKG_STAT], flash := true }) s t) ∧
  (∀ (s : State),
      s.wflag fWD_PKG_STAT_PWRFAIL 0 = true →
      s.wflag fWD_PKG_STAT_SAVING 0 = false →
      s.lat .eraseDue 0 0 = 0 →
      Completes (.pwrfailDeassert) s fun t =>
        t.wflag fWD_PKG_STAT_PWRFAIL 0 = false ∧ t.saved = none) ∧
  (∀ (s : State),
      s.lat .eraseDue 0 0 ≠ 0 →
      Completes (.saveAreaEraseDone) s fun t =>
        t.saved = none ∧ t.wflag fWD_PKG_STAT_SAVE_OK 0 = false ∧ t.lat .eraseDue 0 0 = 0 ∧ Only ({ regs := regsOf [.WD_PKG_STAT], lats := theLat .eraseDue 0 0, flash := true }) s t)

/-- A read of an ON bank at which nothing waits answers its bytes; a plain write changes exactly the bytes named; a
write through an alias sets or clears exactly the bits named. Where the two ports conflict, the DMA port's request
waits, and counts the wait; of two sources of one port the one whose turn it is goes first. A bank that is not ON
wakes and holds the request, which is served when it has woken; one without a supply answers an address fault. A
handshake without a request changes nothing but the count of idle ones. Written requests stand in REQ; a transition
gives the requested state, ON by way of a wake, OFF with the contents lost. (R239, R240, R241, R244, R247, R249,
R250, R251, R252, R253, R254, R238.) -/
def Obligations.BankCommandsComplete : Prop :=
  (∀ (b : Bank) (p : BankReq) (s : State),
      b.ok = true →
      s.bankSupply b = 2 →
      s.bankOwn b = 2 →
      s.bankReq b = 2 →
      s.borrowedIn b = none →
      s.bankQueue b = [] →
      reqOk b p = true →
      p.data = none →
      p.ecc.all (· == .good) = true →
      Completes (.bankAccess b [p]) s fun t =>
        t.reply = ⟨.ok, s.bytes (b.base + p.off) p.len⟩ ∧ Only ({ lats := fun l e _ => [Lat.bankIdle, .bankTurn].contains l && e == b.die, reply := true }) s t) ∧
  (∀ (b : Bank) (p : BankReq) (bs : List Byte) (s : State),
      b.ok = true →
      s.bankSupply b = 2 →
      s.bankOwn b = 2 →
      s.bankReq b = 2 →
      s.borrowedIn b = none →
      s.bankQueue b = [] →
      reqOk b p = true →
      p.data = some bs →
      p.mode = 0 →
      Completes (.bankAccess b [p]) s fun t =>
        t.bytes (b.base + p.off) bs.length = bs ∧ t.reply.status = .ok ∧ Only ({ mem := span (b.base + p.off) bs.length, lats := fun l e _ => [Lat.bankIdle, .bankTurn].contains l && e == b.die, reply := true }) s t) ∧
  (∀ (b : Bank) (p q : BankReq) (s : State),
      b.ok = true →
      s.bankSupply b = 2 →
      s.bankOwn b = 2 →
      s.bankReq b = 2 →
      s.borrowedIn b = none →
      s.bankQueue b = [] →
      reqOk b p = true →
      reqOk b q = true →
      onProc p.source = true →
      onProc q.source = false →
      p.data = none →
      p.ecc.all (· == .good) = true →
      reqConflict b p q = true →
      Completes (.bankAccess b [p, q]) s fun t =>
        t.reply = ⟨.ok, s.bytes (b.base + p.off) p.len⟩ ∧ (t.bankQueue b).map (·.req) = [q] ∧ (t.bankQueue b).map (·.waited) = [1] ∧ t.bankMaxWait b = max (s.bankMaxWait b) 1 ∧ Only (Change.recording { regs := regsAt [b.pick .CD_BNK_MAXWAIT .WD_BNK_MAXWAIT, b.pick .CD_BNK_STAT .WD_BNK_STAT] b.die, waits := true, lats := fun l e _ => [Lat.bankIdle, .bankTurn].contains l && e == b.die, reply := true }) s t) ∧
  (∀ (b : Bank) (p q : BankReq) (s : State),
      b.ok = true →
      s.bankSupply b = 2 →
      s.bankOwn b = 2 →
      s.bankReq b = 2 →
      s.borrowedIn b = none →
      s.bankQueue b = [] →
      reqOk b p = true →
      reqOk b q = true →
      p.source = .core →
      q.source = .fetch →
      p.data = none →
      p.ecc.all (· == .good) = true →
      Completes (.bankAccess b [q, p]) s fun t =>
        t.reply = ⟨.ok, s.bytes (b.base + p.off) p.len⟩ ∧ (t.bankQueue b).map (·.req) = [q] ∧ Only ({ waits := true, lats := fun l e _ => [Lat.bankIdle, .bankTurn].contains l && e == b.die, reply := true }) s t) ∧
  (∀ (b : Bank) (s : State),
      b.ok = true →
      s.bankQueue b = [] →
      Completes (.bankAccess b []) s fun t =>
        Only ({ lats := theLat .bankIdle b.die (b.blk * 4 + b.num) }) s t) ∧
  (∀ (b : Bank) (p : BankReq) (s : State),
      b.ok = true →
      reqOk b p = true →
      s.borrowedIn b = none →
      s.bankQueue b = [] →
      s.bankSupply b ≠ 2 →
      (match reqMaster b p with | .host _ => false | _ => true) = true →
      Completes (.bankAccess b [p]) s fun t =>
        t.reply = ⟨.addressFault, []⟩ ∧ Only (Change.recording { reply := true }) s t) ∧
  (∀ (b : Bank) (p : BankReq) (s : State),
      b.ok = true →
      reqOk b p = true →
      s.borrowedIn b = none →
      s.bankQueue b = [] →
      s.bankSupply b = 2 →
      s.bankOwn b < 2 →
      Completes (.bankAccess b [p]) s fun t =>
        t.reply = ⟨.held, []⟩ ∧ t.bankReq b = 2 ∧ t.bankOwn b = 3 ∧ t.bankQueue b = [⟨p, 0, false⟩]) ∧
  (∀ (b : Bank) (off : Nat) (clear : Bool) (m : Master) (data : List Byte) (s : State),
      b.ok = true →
      s.bankSupply b = 2 →
      s.bankOwn b = 2 →
      s.bankReq b = 2 →
      s.borrowedIn b = none →
      s.bankQueue b = [] →
      reqOk b (aliasReq b off clear m data []) = true →
      Completes (.bitAliasWrite b off clear m data []) s fun t =>
        (t.bytes (b.base + off) data.length = aliasBytes (if clear then .clearBits else .setBits) (s.bytes (b.base + off) data.length) data) ∧ Only ({ mem := span (b.base + off) data.length, lats := fun l e _ => [Lat.bankIdle, .bankTurn].contains l && e == b.die, reply := true }) s t) ∧
  (∀ (m : Master) (sp k : Nat) (v : W64) (s : State),
      sp < 1536 →
      k < 4 →
      s.hostOrActive m = true →
      s.dieUp (spDie sp) = true →
      getBits v (2 * k + 1) (2 * k) ≠ 3 →
      Completes (.cdBnkPwrWrite m sp v) s fun t =>
        t.bankReq (.pad sp k) = getBits v (2 * k + 1) (2 * k) ∧ Only ({ regs := theReg .CD_BNK_PWR (spDie sp) (spIdx sp) }) s t) ∧
  (∀ (w k : Nat) (v : W64) (s : State),
      w < 2 →
      k = 2 ∨ k = 3 →
      getBits v (2 * k + 1) (2 * k) ≠ 3 →
      Completes (.wdBnkPwrWrite (.warden w) w v) s fun t =>
        t.bankReq (.sram w k) = getBits v (2 * k + 1) (2 * k)) ∧
  (∀ (b : Bank) (s : State),
      b.ok = true →
      s.bankSupply b = 2 →
      s.bankOwn b ≠ 3 →
      s.bankReq b < 3 →
      s.bankOwn b ≠ s.bankReq b →
      s.bankReq b = 2 ∨ s.bankQueue b = [] →
      Completes (.bankPowerTransition b) s fun t =>
        (t.bankOwn b = if s.bankReq b = 2 then 3 else s.bankReq b) ∧ (s.bankReq b = 0 → ∀ a : Nat, b.base ≤ a → a < b.base + b.size → t.byte a = 0)) ∧
  (∀ (b : Bank) (s : State),
      b.ok = true →
      s.bankSupply b = 2 →
      s.bankOwn b = 3 →
      s.bankQueue b = [] →
      Completes (.bankWakeDone b) s fun t =>
        t.bankOwn b = 2 ∧ Only ({ regs := regsAt [b.pick .CD_BNK_PWR .WD_BNK_PWR] b.die }) s t) ∧
  (∀ (b : Bank) (p : BankReq) (s : State),
      b.ok = true →
      s.bankSupply b = 2 →
      s.bankOwn b = 3 →
      s.bankQueue b = [⟨p, 0, false⟩] →
      p.data = none →
      p.ecc.all (· == .good) = true →
      Completes (.bankWakeDone b) s fun t =>
        t.bankOwn b = 2 ∧ t.bankQueue b = [] ∧ t.reply = ⟨.ok, s.bytes (b.base + p.off) p.len⟩ ∧ Only ({ regs := regsAt [b.pick .CD_BNK_PWR .WD_BNK_PWR] b.die, waits := true, lats := fun l e _ => [Lat.bankIdle, .bankTurn].contains l && e == b.die, reply := true }) s t)

/-- A test controller that is enabled borrows an unpinned line of an ON bank; the end of the test restores it, with a
pass counted. A column-repair command without a failing code makes the repair BUSY, one with codes answers the
lowest. A repair that ends has used a record, and a spare where it read back; RESULT tells which. (R259, R261, R262,
R264, R265, R266, R267.) -/
def Obligations.TestAndRepairCommandsComplete : Prop :=
  (∀ (b : Bank) (line : Nat) (s : State),
      b.ok = true →
      line / (b.size / 256) = b.num →
      s.lat .mtestLine b.die 0 = 0 →
      s.mtestPeriod b ≠ 0 →
      s.bankAct b = 2 →
      s.bankReq b = 2 →
      s.mtestIdle b = true →
      s.bankQueue b = [] →
      s.pinned b line = false →
      Completes (.mtestBorrow b line false [] false) s fun t =>
        t.lat .mtestLine b.die 0 = b.blk * 8192 + line + 1) ∧
  (∀ (b : Bank) (line : Nat) (s : State),
      b.ok = true →
      line / (b.size / 256) = b.num →
      s.lat .mtestLine b.die 0 = b.blk * 8192 + line + 1 →
      Completes (.mtestBorrow b line true [] false) s fun t =>
        t.lat .mtestLine b.die 0 = 0) ∧
  (∀ (m : Master) (w : Nat) (v : W64) (s : State),
      s.hostOrActive m = true →
      62 ≤ w →
      w < 64 →
      w = s.aw →
      s.flag fFS_PRES_JUMPER w 0 = true →
      s.flag fFS_COLREP_STAT_BUSY w 0 = false →
      s.colCodes (s.reg .FS_COLREP_TGT w 0) (getBits v 3 0) = [] →
      Completes (.colrepProgram m w v) s fun t =>
        t.flag fFS_COLREP_STAT_BUSY w 0 = true ∧ t.lat .colrepTgt w 0 = (s.reg .FS_COLREP_TGT w 0).toNat) ∧
  (∀ (m : Master) (w c : Nat) (v : W64) (s : State),
      s.hostOrActive m = true →
      62 ≤ w →
      w < 64 →
      w = s.aw →
      s.flag fFS_PRES_JUMPER w 0 = true →
      s.flag fFS_COLREP_STAT_BUSY w 0 = false →
      lowest (s.colCodes (s.reg .FS_COLREP_TGT w 0) (getBits v 3 0)) = some c →
      Completes (.colrepProgram m w v) s fun t =>
        t.fld fFS_COLREP_STAT_RESULT w 0 = c ∧ t.flag fFS_COLREP_STAT_BUSY w 0 = false) ∧
  (∀ (w d : Nat) (blown : Bool) (s : State),
      62 ≤ w →
      w < 64 →
      s.flag fFS_COLREP_STAT_BUSY w 0 = true →
      d = getBits (BitVec.ofNat 64 (s.lat .colrepTgt w 0)) 57 52 →
      Completes (.colrepDone w blown) s fun t =>
        t.flag fFS_COLREP_STAT_BUSY w 0 = false ∧ (t.fld fFS_COLREP_STAT_RESULT w 0 = if blown then 0 else 5) ∧ t.lat .colrepRecords d 0 = s.lat .colrepRecords d 0 + 1)

/-- A good read of HBM that is served answers the bytes and changes no memory; one that finds a correctable error counts
it and leaves the fragment whole. A write of one fragment outside every region, with no quiesce, changes exactly its
bytes. A write to an epoch region with one home appends to its quarry's skein one record of the old fragment, with
the sequence number, the epoch and the handle. A good scrub read changes no data. Carve, partner and tenancy writes
in order are taken. A lost quarry whose partner does not answer stays lost; a region whose partner is lost is
DEGRADED; a finished rebuild is shown. (R195, R196, R197, R198, R208, R218, R222, R225, R226, R227, R229.) -/
def Obligations.QuarryDataCommandsComplete : Prop :=
  (∀ (m : Master) (a n q : Nat) (bs : List Byte) (s : State),
      s.locate a = .hbm q →
      s.flaws = [] →
      s.readSlow a n = (.ok, bs) →
      Completes (.qdPlainAccess m a n none .good false) s fun t =>
        t.reply = ⟨.ok, bs⟩ ∧ Only ({ regs := regsOf [.QD_ENG_SLOTS, .QD_ENG_DEGRADED], lats := latsOf [.slotThird], reply := true }) s t) ∧
  (∀ (m : Master) (a n q x : Nat) (bs : List Byte) (s : State),
      s.locate a = .hbm q →
      pieces a n = [(a, n)] →
      s.rawAt a = some x →
      x < 0x12000000000 →
      s.readSlow a n = (.ok, bs) →
      Completes (.qdPlainAccess m a n none .corrected false) s fun t =>
        t.reply = ⟨.ok, bs⟩ ∧ t.flaw x = 0 ∧ t.fld fQD_PC_CORR (sliceDie x) (pcOf (x - sliceBase (sliceDie x))) = min (s.fld fQD_PC_CORR (sliceDie x) (pcOf (x - sliceBase (sliceDie x))) + 1) 65535) ∧
  (∀ (m : Master) (a q : Nat) (bs : List Byte) (s : State),
      s.locate a = .hbm q →
      pieces a bs.length = [(a, bs.length)] →
      s.site a = .free →
      s.quiescing (sliceDie a) = false →
      Completes (.qdPlainAccess m a 0 (some bs) .good false) s fun t =>
        t.reply.status = .ok ∧ t.bytes a bs.length = bs ∧ Only ({ regs := regsOf [.QD_ENG_SLOTS, .QD_ENG_DEGRADED], lats := latsOf [.slotThird], mem := span a bs.length, losses := true, flaws := true, reply := true }) s t) ∧
  (∀ (m : Master) (a q d k off : Nat) (bs : List Byte) (s : State),
      s.locate a = .hbm q →
      pieces a bs.length = [(a, bs.length)] →
      s.site a = .region d k off →
      s.lat .servedBy d k = 0 →
      s.homes d k = [(d, (s.rgn d k).base)] →
      s.flaws = [] →
      s.rgnWritable d k = true →
      s.rgnReadable d k (off / 64 * 64) 64 = true →
      (s.rgn d k).nonEpoch = false →
      s.quiescing d = false →
      s.logFits d k 64 = true →
      Completes (.qdPlainAccess m a 0 (some bs) .good false) s fun t =>
        t.reply.status = .ok ∧ t.skein d = s.skein d ++ [⟨s.lat .skeinSeq d 0, (s.reg .QD_SKEIN_EPOCH d 0).toNat, s.handleOf d k, off / 64 * 64, true, s.rgnRead d k (off / 64 * 64) 64⟩]) ∧
  (∀ (a : Nat) (s : State),
      a < 0x12000000000 →
      s.quarryUp (sliceDie a) = true →
      s.fld fQD_CFG_SCRUB_H (sliceDie a) 0 ≠ 0 →
      s.dieRetained (sliceDie a) = false →
      s.flaws = [] →
      s.isLost (a / 64 * 64) = false →
      s.degradedAt (a / 64 * 64) = false →
      Completes (.patrolScrubRead a .good) s fun t =>
        t.reg .QD_ENG_SLOTS (sliceDie a) 0 = s.reg .QD_ENG_SLOTS (sliceDie a) 0 + BitVec.ofNat 64 ((s.lat .slotThird (sliceDie a) 0 + 3) / 3) ∧ Only ({ regs := regsOf [.QD_ENG_SLOTS, .QD_ENG_DEGRADED], lats := latsOf [.slotThird], free := true }) s t) ∧
  (∀ (p d : Nat) (v : W64) (s : State),
      48 ≤ d →
      d < 56 →
      s.dieUp d = true →
      s.rgnSlots d = [] →
      s.mirSlots d = [] →
      getBits v 4 0 ≤ 16 →
      carveGib v ≤ 144 →
      Completes (.qdCarveWrite (.host p) d v) s fun t =>
        t.fld fQD_CARVE_SKEIN_GIB d 0 = getBits v 4 0 ∧ t.fld fQD_OPEN_TOP_ADDR d 0 = (sliceBase d + sliceSize - carveGib v * 2 ^ 30) % 2 ^ 52 ∧ Only ({ regs := regsIn [.QD_CARVE, .QD_OPEN_TOP] d 0 }) s t) ∧
  (∀ (p d : Nat) (v : W64) (s : State),
      48 ≤ d →
      d < 56 →
      s.dieUp d = true →
      s.anyMirrored d = false →
      ¬(bitOf v 8 = true ∧ getBits v 2 0 = d - 48) →
      Completes (.qdCfgWrite (.host p) d v) s fun t =>
        t.fld fQD_CFG_PARTNER d 0 = getBits v 2 0 ∧ t.flag fQD_CFG_PARTNER_EN d 0 = bitOf v 8 ∧ t.fld fQD_CFG_SCRUB_H d 0 = getBits v 23 16 ∧ Only ({ regs := theReg .QD_CFG d 0 }) s t) ∧
  (∀ (p d k : Nat) (v : W64) (s : State),
      48 ≤ d →
      d < 56 →
      s.dieUp d = true →
      k < 8 →
      s.rateSum d k (getBits v 25 16) ≤ 750 →
      Completes (.qdTenWrite (.host p) d k v) s fun t =>
        t.fld fQD_TEN_RATE d k = getBits v 25 16 ∧ t.fld fQD_TEN_CAP_GIB d k = getBits v 7 0 ∧ Only ({ regs := theReg .QD_TEN d k }) s t) ∧
  (∀ (d : Nat) (s : State),
      48 ≤ d →
      d < 56 →
      s.lat .quarryLost d 0 = 1 →
      s.lat .quarryPartner d 0 = 0 →
      Completes (.quarryLost d) s fun t =>
        t.lat .quarryLost d 0 = 3) ∧
  (∀ (d : Nat) (s : State),
      48 ≤ d →
      d < 56 →
      s.quarryUp d = true →
      s.flag fQD_CFG_PARTNER_EN d 0 = true →
      s.quarryUp (s.partner d) = false →
      (s.rgnSlots d).any (s.mirrorOk d) = true →
      Completes (.partnerLost d) s fun t =>
        (∀ k : Nat, k < 256 → s.rgnState d k ≠ 0 → s.mirrorOk d k = true → t.mirrorOk d k = false ∧ t.rgnState d k = max 3 (s.rgnState d k)) ∧ Only (Change.recording { regs := regsAt [.QD_RGN_INFO] d }) s t) ∧
  (∀ (d p : Nat) (s : State),
      48 ≤ d →
      d < 56 →
      s.dieUp d = true →
      p < 128 →
      s.flag fQD_PC_RETIRED d p = true →
      s.flag fQD_PC_REBUILT d p = false →
      s.lat .pcFits d p ≠ 0 →
      Completes (.pcRebuildDone d p) s fun t =>
        t.flag fQD_PC_REBUILT d p = true ∧ Only (Change.recording { regs := theReg .QD_PC d p }) s t)

/-- With the quarry not BUSY and a master that may command, a LOAD without a failing check copies the staged descriptor
into its slot, which is LOADING; one with failing checks answers the lowest code. It ends ACTIVE. An UNLOAD of a
slot without records is UNLOADING, and ends EMPTY; of an empty slot it answers 0x0B. A reserved OP answers RESULT 1.
QUIESCE waits for the changes accepted and is then shown; RESUME releases it; a ROLLBACK while quiesced runs, and
without a bad record empties the skein; COMMIT of an epoch not past drops the records up to it. (R203, R204, R205,
R206, R230, R232, R233.) -/
def Obligations.RegionAndSkeinCommandsComplete : Prop :=
  (∀ (m : Master) (d k : Nat) (v : W64) (s : State),
      48 ≤ d →
      d < 56 →
      s.dieUp d = true →
      s.hostOrActive m = true →
      s.flag fQD_RGN_STAT_BUSY d 0 = false →
      getBits v 3 0 = 1 →
      k = getBits v 15 8 →
      s.loadCodes d k = [] →
      Completes (.regionLoad m d v) s fun t =>
        t.rgnState d k = 1 ∧ t.flag fQD_RGN_STAT_BUSY d 0 = true ∧ t.lat .rgnDue d 0 = k + 1 ∧ t.rgn d k = s.staged d) ∧
  (∀ (m : Master) (d c : Nat) (v : W64) (s : State),
      48 ≤ d →
      d < 56 →
      s.dieUp d = true →
      s.hostOrActive m = true →
      s.flag fQD_RGN_STAT_BUSY d 0 = false →
      getBits v 3 0 = 1 →
      lowest (s.loadCodes d (getBits v 15 8)) = some c →
      Completes (.regionLoad m d v) s fun t =>
        t.fld fQD_RGN_STAT_RESULT d 0 = c ∧ t.flag fQD_RGN_STAT_BUSY d 0 = false ∧ Only (Change.recording { regs := regsIn [.QD_RGN_CMD, .QD_RGN_STAT] d 0 }) s t) ∧
  (∀ (d k : Nat) (s : State),
      48 ≤ d →
      d < 56 →
      s.lat .rgnDue d 0 = k + 1 →
      s.rgnState d k = 1 →
      (s.rgn d k).mirror = false →
      Completes (.regionLoadDone d) s fun t =>
        t.rgnState d k = s.loadedState d k 2 ∧ t.flag fQD_RGN_STAT_BUSY d 0 = false ∧ t.fld fQD_RGN_STAT_RESULT d 0 = 0 ∧ t.lat .rgnDue d 0 = 0 ∧ Only (Change.recording { regs := regsAt [.QD_RGN_STAT, .QD_RGN_INFO] d, lats := theLat .rgnDue d 0 }) s t) ∧
  (∀ (m : Master) (d k : Nat) (v : W64) (s : State),
      48 ≤ d →
      d < 56 →
      s.dieUp d = true →
      s.hostOrActive m = true →
      s.flag fQD_RGN_STAT_BUSY d 0 = false →
      getBits v 3 0 = 2 →
      k = getBits v 15 8 →
      s.rgnState d k ≠ 0 →
      (s.skein (s.servingDie d k)).any (fun r => r.handle == s.handleOf d k) = false →
      Completes (.regionUnload m d v) s fun t =>
        t.rgnState d k = 5 ∧ t.flag fQD_RGN_STAT_BUSY d 0 = true ∧ t.lat .rgnDue d 0 = k + 1 ∧ Only ({ regs := regsAt [.QD_RGN_CMD, .QD_RGN_STAT, .QD_RGN_INFO] d, lats := theLat .rgnDue d 0 }) s t) ∧
  (∀ (m : Master) (d : Nat) (v : W64) (s : State),
      48 ≤ d →
      d < 56 →
      s.dieUp d = true →
      s.hostOrActive m = true →
      s.flag fQD_RGN_STAT_BUSY d 0 = false →
      getBits v 3 0 = 2 →
      s.rgnState d (getBits v 15 8) = 0 →
      Completes (.regionUnload m d v) s fun t =>
        t.fld fQD_RGN_STAT_RESULT d 0 = 0xB ∧ Only (Change.recording { regs := regsIn [.QD_RGN_CMD, .QD_RGN_STAT] d 0 }) s t) ∧
  (∀ (d k : Nat) (s : State),
      48 ≤ d →
      d < 56 →
      s.lat .rgnDue d 0 = k + 1 →
      s.rgnState d k = 5 →
      s.wordOn d k = false →
      s.lat .servedBy d k = 0 →
      Completes (.regionUnloadDone d) s fun t =>
        t.rgnState d k = 0 ∧ t.flag fQD_RGN_STAT_BUSY d 0 = false ∧ t.fld fQD_RGN_STAT_RESULT d 0 = 0) ∧
  (∀ (m : Master) (d : Nat) (v : W64) (s : State),
      48 ≤ d →
      d < 56 →
      s.dieUp d = true →
      s.hostOrActive m = true →
      s.flag fQD_RGN_STAT_BUSY d 0 = false →
      getBits v 3 0 = 0 ∨ 3 ≤ getBits v 3 0 →
      Completes (.regionBadCommand m d v) s fun t =>
        t.fld fQD_RGN_STAT_RESULT d 0 = 1 ∧ Only (Change.recording { regs := regsIn [.QD_RGN_CMD, .QD_RGN_STAT] d 0 }) s t) ∧
  (∀ (m : Master) (d : Nat) (v : W64) (s : State),
      48 ≤ d →
      d < 56 →
      s.dieUp d = true →
      s.isActive m = true →
      m ≠ .hw →
      getBits v 3 0 = 1 →
      s.flag fQD_SKEIN_STAT_QUIESCED d 0 = false →
      Completes (.skeinQuiesce m d v) s fun t =>
        t.lat .quiesceDue d 0 = 1 ∧ Only ({ regs := theReg .QD_SKEIN_CMD d 0, lats := theLat .quiesceDue d 0 }) s t) ∧
  (∀ (d : Nat) (s : State),
      48 ≤ d →
      d < 56 →
      s.dieUp d = true →
      s.lat .quiesceDue d 0 ≠ 0 →
      s.changeOn d = false →
      Completes (.skeinQuiesceDone d) s fun t =>
        t.flag fQD_SKEIN_STAT_QUIESCED d 0 = true ∧ t.lat .quiesceDue d 0 = 0 ∧ Only ({ regs := theReg .QD_SKEIN_STAT d 0, lats := theLat .quiesceDue d 0 }) s t) ∧
  (∀ (d : Nat) (v : W64) (s : State),
      48 ≤ d →
      d < 56 →
      s.dieUp d = true →
      Completes (.skeinResume .hw d v) s fun t =>
        t.flag fQD_SKEIN_STAT_QUIESCED d 0 = false ∧ t.lat .quiesceDue d 0 = 0 ∧ t.lat .rollingBack d 0 = 0 ∧ Only ({ regs := theReg .QD_SKEIN_STAT d 0, lats := latsOf [.quiesceDue, .rollingBack] }) s t) ∧
  (∀ (d : Nat) (v : W64) (s : State),
      48 ≤ d →
      d < 56 →
      s.dieUp d = true →
      s.flag fQD_SKEIN_STAT_QUIESCED d 0 = true →
      Completes (.skeinRollback .hw d v) s fun t =>
        t.lat .rollingBack d 0 = 1 ∧ Only ({ lats := theLat .rollingBack d 0 }) s t) ∧
  (∀ (d : Nat) (s : State),
      48 ≤ d →
      d < 56 →
      s.dieUp d = true →
      s.lat .rollingBack d 0 ≠ 0 →
      Completes (.skeinRollbackDone d none) s fun t =>
        t.skein d = [] ∧ t.flag fQD_SKEIN_STAT_FULL d 0 = false ∧ t.lat .rollingBack d 0 = 0) ∧
  (∀ (d : Nat) (v : W64) (s : State),
      48 ≤ d →
      d < 56 →
      s.dieUp d = true →
      (s.reg .QD_SKEIN_EPOCH d 0).toNat ≤ getBits v 63 8 →
      Completes (.skeinCommit .hw d v) s fun t =>
        (t.reg .QD_SKEIN_EPOCH d 0).toNat = getBits v 63 8 + 1 ∧ (t.skein d = (s.skein d).filter (fun r => decide (getBits v 63 8 < r.epoch))) ∧ Only ({ regs := regsIn [.QD_SKEIN_EPOCH, .QD_SKEIN_STAT] d 0, lats := latsOf [.fullSeen, .markSeen], skeins := fun e => e == d }) s t)

/-- A ply command that PLY_CMD takes while not BUSY, and none of whose checks fails, leaves the sequencer BUSY with
result 0 to show. FORM, JOIN and REFORM keep the descriptor they read and claim the spindles of this package they
name; one of them that fails a check shows the lowest code and claims nothing. When such a command completes and its
checks still hold, its claims end and it takes effect whole: FORM adds the ply of the listed members at level 1;
JOIN replaces its components by one ply of the next level whose members are theirs in order; REFORM gives the ply
its replacements; where a check fails by then, it shows that code and nothing else changes. SPLIT gives back the
components and tells member 0 by NOTICE bit 35; DISSOLVE frees every local member's entry. A reserved OP shows
BAD_COMMAND; a command written while BUSY is refused and changes nothing else. An AUTO ply with a reserve for every
lost member is re-formed with it once a rollback has restored its epoch, and not before. (R157, R181, R182, R183,
R184, R185, R187, R190, R191.) -/
def Obligations.PlyFormingCommandsComplete : Prop :=
  (∀ (m : Master) (d : Nat) (v : W64) (x : PlyDesc) (s : State),
      d < 48 →
      fromSpindle m = false →
      s.flag fPLY_CMD_STAT_BUSY d 0 = false →
      getBits v 3 0 = 1 →
      (s.plyTaken d v).plyDesc d v = some x →
      ((s.plyTaken d v).jobForm d v (some x)).codes = [] →
      Completes (.plyForm m d v) s fun t =>
        t.lat .plyResult d 0 = 1 ∧ t.flag fPLY_CMD_STAT_BUSY d 0 = true ∧ t.plyRun d = some x ∧ (∀ k ∈ ((s.plyTaken d v).jobForm d v (some x)).claims, t.entryState k = 3) ∧ Only ({ regs := regsOf [.PLY_CMD, .PLY_CMD_STAT, .PLY_ENTRY], lats := latsOf [.plyResult, .plyDbe, .plyDbbit, .plyDbTarget, .plyId, .plyKey], plyRuns := true, free := true }) s t) ∧
  (∀ (m : Master) (d c : Nat) (v : W64) (x : PlyDesc) (s : State),
      d < 48 →
      fromSpindle m = false →
      s.flag fPLY_CMD_STAT_BUSY d 0 = false →
      getBits v 3 0 = 1 →
      (s.plyTaken d v).plyDesc d v = some x →
      lowest ((s.plyTaken d v).jobForm d v (some x)).codes = some c →
      c ≠ 0 →
      Completes (.plyForm m d v) s fun t =>
        t.lat .plyResult d 0 = c + 1 ∧ t.flag fPLY_CMD_STAT_BUSY d 0 = true ∧ Only ({ regs := regsOf [.PLY_CMD, .PLY_CMD_STAT], lats := latsOf [.plyResult, .plyDbe, .plyDbbit, .plyDbTarget, .plyId, .plyKey], free := true }) s t) ∧
  (∀ (m : Master) (d : Nat) (v : W64) (x : PlyDesc) (s : State),
      d < 48 →
      fromSpindle m = false →
      s.flag fPLY_CMD_STAT_BUSY d 0 = false →
      getBits v 3 0 = 2 →
      (s.plyTaken d v).plyDesc d v = some x →
      ((s.plyTaken d v).jobJoin d v (some x)).codes = [] →
      Completes (.plyJoin m d v) s fun t =>
        t.lat .plyResult d 0 = 1 ∧ t.flag fPLY_CMD_STAT_BUSY d 0 = true ∧ t.plyRun d = some x ∧ (∀ k ∈ ((s.plyTaken d v).jobJoin d v (some x)).claims, t.entryState k = 3) ∧ Only ({ regs := regsOf [.PLY_CMD, .PLY_CMD_STAT, .PLY_ENTRY], lats := latsOf [.plyResult, .plyDbe, .plyDbbit, .plyDbTarget, .plyId, .plyKey], plyRuns := true, free := true }) s t) ∧
  (∀ (m : Master) (d c : Nat) (v : W64) (x : PlyDesc) (s : State),
      d < 48 →
      fromSpindle m = false →
      s.flag fPLY_CMD_STAT_BUSY d 0 = false →
      getBits v 3 0 = 2 →
      (s.plyTaken d v).plyDesc d v = some x →
      lowest ((s.plyTaken d v).jobJoin d v (some x)).codes = some c →
      c ≠ 0 →
      Completes (.plyJoin m d v) s fun t =>
        t.lat .plyResult d 0 = c + 1 ∧ t.flag fPLY_CMD_STAT_BUSY d 0 = true ∧ Only ({ regs := regsOf [.PLY_CMD, .PLY_CMD_STAT], lats := latsOf [.plyResult, .plyDbe, .plyDbbit, .plyDbTarget, .plyId, .plyKey], free := true }) s t) ∧
  (∀ (m : Master) (d : Nat) (v : W64) (x : PlyDesc) (s : State),
      d < 48 →
      fromSpindle m = false →
      s.flag fPLY_CMD_STAT_BUSY d 0 = false →
      getBits v 3 0 = 8 →
      (s.plyTaken d v).plyDesc d v = some x →
      ((s.plyTaken d v).jobReform d v (some x)).codes = [] →
      Completes (.plyReform m d v) s fun t =>
        t.lat .plyResult d 0 = 1 ∧ t.flag fPLY_CMD_STAT_BUSY d 0 = true ∧ t.plyRun d = some x ∧ (∀ k ∈ ((s.plyTaken d v).jobReform d v (some x)).claims, t.entryState k = 3) ∧ Only ({ regs := regsOf [.PLY_CMD, .PLY_CMD_STAT, .PLY_ENTRY], lats := latsOf [.plyResult, .plyDbe, .plyDbbit, .plyDbTarget, .plyId, .plyKey], plyRuns := true, free := true }) s t) ∧
  (∀ (m : Master) (d c : Nat) (v : W64) (x : PlyDesc) (s : State),
      d < 48 →
      fromSpindle m = false →
      s.flag fPLY_CMD_STAT_BUSY d 0 = false →
      getBits v 3 0 = 8 →
      (s.plyTaken d v).plyDesc d v = some x →
      lowest ((s.plyTaken d v).jobReform d v (some x)).codes = some c →
      c ≠ 0 →
      Completes (.plyReform m d v) s fun t =>
        t.lat .plyResult d 0 = c + 1 ∧ t.flag fPLY_CMD_STAT_BUSY d 0 = true ∧ Only ({ regs := regsOf [.PLY_CMD, .PLY_CMD_STAT], lats := latsOf [.plyResult, .plyDbe, .plyDbbit, .plyDbTarget, .plyId, .plyKey], free := true }) s t) ∧
  (∀ (d : Nat) (v : W64) (x : PlyDesc) (ms : List (Nat × Nat)) (s : State),
      d < 48 →
      s.plyRun d = some x →
      s.lat .plyResult d 0 = 1 →
      s.lat .plyDbe d 0 = 0 →
      v = s.reg .PLY_CMD d 0 →
      getBits v 3 0 = 1 →
      ((s.unclaim d).jobForm d v (some x)).codes = [] →
      ms = (x.list.getD []).map (fun e => (plyEntry e).1) →
      Completes (.plyCmdComplete d) s fun t =>
        t.plies = s.plies ++ [⟨ms, 1, [], x.hdr.window, x.hdr.auto, false, []⟩] ∧ t.flag fPLY_CMD_STAT_BUSY d 0 = false ∧ t.fld fPLY_CMD_STAT_RESULT d 0 = 0 ∧ t.plyRun d = none ∧ Only (Change.recording { regs := regsOf ([.PLY_CMD, .PLY_CMD_STAT, .PLY_ENTRY, .PLY_ENTRY_CFG, .SPN_STAT] ++ [.SPN_PC, .SPN_VEC, .SPN_EXC_CAUSE, .SPN_EXC_PC, .SPN_EXC_INFO, .SPN_IRQ_EN, .SPN_DB_MASK, .SPN_TIMER_CMP, .SPN_CTL] ++ [.PLY_CMD_ID, .PLY_ENTRY_STAT, .WD_EP_ENT0]), lats := latsOf [.plyResult, .plyDbe, .plyDbbit, .plyDbTarget, .plyId, .plyKey], spins := fun k => ms.contains (s.pkg, k), plies := true, plyRuns := true }) s t) ∧
  (∀ (d : Nat) (v : W64) (x : PlyDesc) (p0 : Ply) (ps : List Ply) (s : State),
      d < 48 →
      s.plyRun d = some x →
      s.lat .plyResult d 0 = 1 →
      s.lat .plyDbe d 0 = 0 →
      v = s.reg .PLY_CMD d 0 →
      getBits v 3 0 = 2 →
      ((s.unclaim d).jobJoin d v (some x)).codes = [] →
      (x.list.getD []).map (fun e => s.plyById (plyEntry e).1.1 (plyEntry e).1.2) = (p0 :: ps).map some →
      Completes (.plyCmdComplete d) s fun t =>
        (t.plies.dropLast = s.plies.filter (fun q => !(p0 :: ps).contains q)) ∧ t.plies.getLast?.map Ply.members = some ((p0 :: ps).flatMap Ply.members) ∧ t.plies.getLast?.map Ply.level = some (p0.level + 1) ∧ t.flag fPLY_CMD_STAT_BUSY d 0 = false ∧ t.fld fPLY_CMD_STAT_RESULT d 0 = 0 ∧ t.plyRun d = none ∧ Only (Change.recording { regs := regsOf ([.PLY_CMD, .PLY_CMD_STAT, .PLY_ENTRY, .PLY_ENTRY_CFG, .SPN_STAT] ++ [.SPN_PC, .SPN_VEC, .SPN_EXC_CAUSE, .SPN_EXC_PC, .SPN_EXC_INFO, .SPN_IRQ_EN, .SPN_DB_MASK, .SPN_TIMER_CMP, .SPN_CTL] ++ [.PLY_CMD_ID, .PLY_ENTRY_STAT, .WD_EP_ENT0]), lats := latsOf [.plyResult, .plyDbe, .plyDbbit, .plyDbTarget, .plyId, .plyKey], spins := fun k => ((p0 :: ps).flatMap Ply.members).contains (s.pkg, k), plies := true, plyRuns := true }) s t) ∧
  (∀ (d : Nat) (v : W64) (x : PlyDesc) (p : Ply) (ps : List (Nat × Nat × Nat)) (s : State),
      d < 48 →
      s.plyRun d = some x →
      s.lat .plyResult d 0 = 1 →
      s.lat .plyDbe d 0 = 0 →
      v = s.reg .PLY_CMD d 0 →
      getBits v 3 0 = 8 →
      ((s.unclaim d).jobReform d v (some x)).codes = [] →
      s.target d v = some p →
      ps = reformPairs x.hdr (x.list.getD []) →
      x.list ≠ none →
      Completes (.plyCmdComplete d) s fun t =>
        (t.plies = s.plies.flatMap (fun q => [if q = p then p.reformed ps else q])) ∧ t.flag fPLY_CMD_STAT_BUSY d 0 = false ∧ t.fld fPLY_CMD_STAT_RESULT d 0 = 0 ∧ t.plyRun d = none ∧ Only (Change.recording { regs := regsOf ([.PLY_CMD, .PLY_CMD_STAT, .PLY_ENTRY, .PLY_ENTRY_CFG, .SPN_STAT] ++ [.SPN_PC, .SPN_VEC, .SPN_EXC_CAUSE, .SPN_EXC_PC, .SPN_EXC_INFO, .SPN_IRQ_EN, .SPN_DB_MASK, .SPN_TIMER_CMP, .SPN_CTL] ++ [.PLY_CMD_ID, .PLY_ENTRY_STAT, .WD_EP_ENT0]), lats := latsOf [.plyResult, .plyDbe, .plyDbbit, .plyDbTarget, .plyId, .plyKey], spins := fun k => ps.any (fun y => y.2 == (s.pkg, k)), plies := true, plyRuns := true }) s t) ∧
  (∀ (d c : Nat) (x : PlyDesc) (s : State),
      d < 48 →
      s.plyRun d = some x →
      s.lat .plyResult d 0 = 1 →
      s.lat .plyDbe d 0 = 0 →
      lowest ((s.unclaim d).jobNow d x).codes = some c →
      c ≠ 0 →
      c < 16 →
      Completes (.plyCmdComplete d) s fun t =>
        t.flag fPLY_CMD_STAT_BUSY d 0 = false ∧ t.fld fPLY_CMD_STAT_RESULT d 0 = c ∧ t.plyRun d = none ∧ Only (Change.recording { regs := regsOf [.PLY_CMD_STAT, .PLY_ENTRY], lats := latsOf [.plyResult], plyRuns := true }) s t) ∧
  (∀ (m : Master) (d k : Nat) (v : W64) (p : Ply) (s : State),
      d < 48 →
      fromSpindle m = false →
      s.flag fPLY_CMD_STAT_BUSY d 0 = false →
      getBits v 3 0 = 3 →
      s.target d v = some p →
      p.members.head? = some (s.pkg, k) →
      ((s.plyTaken d v).jobSplit d v).codes = [] →
      Completes (.plySplit m d v) s fun t =>
        (t.plies = s.plies.flatMap (fun q => if q = p then p.parts else [q])) ∧ t.fld fPLY_ENTRY_STAT_NOTICE (spDie k) (spIdx k) = s.fld fPLY_ENTRY_STAT_NOTICE (spDie k) (spIdx k) ||| 8 ∧ t.lat .plyResult d 0 = 1 ∧ t.flag fPLY_CMD_STAT_BUSY d 0 = true ∧ Only (Change.recording { regs := regsOf ([.PLY_CMD, .PLY_CMD_STAT, .PLY_ENTRY, .PLY_ENTRY_CFG, .SPN_STAT] ++ [.PLY_ENTRY_STAT, .WD_EP_ENT0, .WD_EP_ENT1]), lats := latsOf [.plyResult, .plyDbe, .plyDbbit, .plyDbTarget, .plyId, .plyKey], plies := true, free := true }) s t) ∧
  (∀ (m : Master) (d : Nat) (v : W64) (p : Ply) (s : State),
      d < 48 →
      fromSpindle m = false →
      s.flag fPLY_CMD_STAT_BUSY d 0 = false →
      getBits v 3 0 = 4 →
      s.target d v = some p →
      ((s.plyTaken d v).jobDissolve d v).codes = [] →
      Completes (.plyDissolve m d v) s fun t =>
        (t.plies = s.plies.filter (fun q => decide (q ≠ p))) ∧ (∀ k ∈ p.members, k.1 = s.pkg → t.reg .PLY_ENTRY (spDie k.2) (spIdx k.2) = 0) ∧ t.lat .plyResult d 0 = 1 ∧ t.flag fPLY_CMD_STAT_BUSY d 0 = true ∧ Only (Change.recording { regs := regsOf ([.PLY_CMD, .PLY_CMD_STAT, .PLY_ENTRY, .PLY_ENTRY_CFG, .SPN_STAT] ++ [.PLY_ENTRY_STAT, .WD_EP_ENT0, .WD_EP_ENT1]), lats := latsOf [.plyResult, .plyDbe, .plyDbbit, .plyDbTarget, .plyId, .plyKey], plies := true, free := true }) s t) ∧
  (∀ (m : Master) (d : Nat) (v : W64) (s : State),
      d < 48 →
      fromSpindle m = false →
      s.flag fPLY_CMD_STAT_BUSY d 0 = false →
      getBits v 3 0 = 0 ∨ 9 ≤ getBits v 3 0 →
      Completes (.plyBadCommand m d v) s fun t =>
        t.lat .plyResult d 0 = 2 ∧ t.flag fPLY_CMD_STAT_BUSY d 0 = true ∧ Only ({ regs := regsIn [.PLY_CMD, .PLY_CMD_STAT] d 0, lats := latsOf [.plyResult, .plyDbe, .plyDbbit, .plyDbTarget, .plyId, .plyKey], free := true }) s t) ∧
  (∀ (m : Master) (d : Nat) (v : W64) (s : State),
      d < 48 →
      s.flag fPLY_CMD_STAT_BUSY d 0 = true →
      getBits v 3 0 = 1 →
      Completes (.plyForm m d v) s fun t =>
        t.flag fPLY_CMD_STAT_REFUSED d 0 = true ∧ Only (Change.recording { regs := theReg .PLY_CMD_STAT d 0 }) s t) ∧
  (∀ (psn i : Nat) (p : Ply) (pairs : List (Nat × Nat × Nat)) (s : State),
      psn < 1536 →
      s.plyOf psn = some p →
      s.unitEntry psn = some i →
      s.mayReform i = true →
      p.auto = true →
      p.lost ≠ [] →
      s.chooseReserve p p.lost [] = some pairs →
      Completes (.plyAutoReform psn) s fun t =>
        (t.plies = s.plies.flatMap (fun q => [if q = p then p.reformed pairs else q]))) ∧
  (∀ (psn i : Nat) (s : State),
      psn < 1536 →
      s.unitEntry psn = some i →
      s.mayReform i = false →
      Completes (.plyAutoReform psn) s fun t =>
        Only ({}) s t)

/-- RUN and STEP of a ply whose checks pass put every local member in RUNNING, STEP with its request; HALT asks every
member to halt. A command that completes clears BUSY and shows its result, with the identity of the ply where it is
0. Doorbell bits of another member move to member 0 and clear there. A word cleared in every member names the
slowest member and moves the window on. The ply of a lost member, of this package or another, stops with that member
among its lost, and the lowest surviving member is told by NOTICE bit 33; a lost spindle that still stands is
CHECKED. (R172, R173, R174, R177, R179, R187, R189, R569.) -/
def Obligations.PlyRunningCommandsComplete : Prop :=
  (∀ (m : Master) (d k : Nat) (v : W64) (p : Ply) (s : State),
      d < 48 →
      fromSpindle m = false →
      s.flag fPLY_CMD_STAT_BUSY d 0 = false →
      getBits v 3 0 = 5 →
      s.target d v = some p →
      p.members.head? = some (s.pkg, k) →
      (s.plyTaken d v).canRun k = true →
      ((s.plyTaken d v).jobRun d v .run).codes = [] →
      Completes (.plyRun m d v) s fun t =>
        (∀ x ∈ s.mates k, t.spFld fSPN_STAT_STATE x.2 = 3) ∧ t.lat .plyResult d 0 = 1 ∧ t.flag fPLY_CMD_STAT_BUSY d 0 = true ∧ Only ({ regs := regsOf [.PLY_CMD, .PLY_CMD_STAT, .SPN_STAT, .SPN_CTL], lats := latsOf ([.plyResult, .plyDbe, .plyDbbit, .plyDbTarget, .plyId, .plyKey] ++ [.stepDone]), free := true }) s t) ∧
  (∀ (m : Master) (d k : Nat) (v : W64) (p : Ply) (s : State),
      d < 48 →
      fromSpindle m = false →
      s.flag fPLY_CMD_STAT_BUSY d 0 = false →
      getBits v 3 0 = 7 →
      s.target d v = some p →
      p.members.head? = some (s.pkg, k) →
      (s.plyTaken d v).canRun k = true →
      ((s.plyTaken d v).jobRun d v .step).codes = [] →
      Completes (.plyStep m d v) s fun t =>
        (∀ x ∈ s.mates k, t.spFld fSPN_STAT_STATE x.2 = 3 ∧ t.spFlag fSPN_CTL_STEP x.2 = true) ∧ t.lat .plyResult d 0 = 1 ∧ t.flag fPLY_CMD_STAT_BUSY d 0 = true ∧ Only ({ regs := regsOf [.PLY_CMD, .PLY_CMD_STAT, .SPN_STAT, .SPN_CTL], lats := latsOf ([.plyResult, .plyDbe, .plyDbbit, .plyDbTarget, .plyId, .plyKey] ++ [.stepDone]), free := true }) s t) ∧
  (∀ (m : Master) (d k : Nat) (v : W64) (p : Ply) (s : State),
      d < 48 →
      fromSpindle m = false →
      s.flag fPLY_CMD_STAT_BUSY d 0 = false →
      getBits v 3 0 = 6 →
      s.target d v = some p →
      p.members.head? = some (s.pkg, k) →
      s.spState k = 3 ∨ s.spState k = 4 →
      ((s.plyTaken d v).jobRun d v .halt).codes = [] →
      Completes (.plyHalt m d v) s fun t =>
        (∀ x ∈ s.mates k, t.spFlag fSPN_CTL_HALT x.2 = true) ∧ t.lat .plyResult d 0 = 1 ∧ t.flag fPLY_CMD_STAT_BUSY d 0 = true ∧ Only ({ regs := regsOf [.PLY_CMD, .PLY_CMD_STAT, .SPN_STAT, .SPN_CTL], lats := latsOf ([.plyResult, .plyDbe, .plyDbbit, .plyDbTarget, .plyId, .plyKey] ++ [.stepDone]), free := true }) s t) ∧
  (∀ (d r : Nat) (s : State),
      d < 48 →
      r < 11 →
      s.plyRun d = none →
      s.lat .plyResult d 0 = r + 1 →
      s.lat .plyDbe d 0 = 0 →
      Completes (.plyCmdComplete d) s fun t =>
        t.flag fPLY_CMD_STAT_BUSY d 0 = false ∧ t.fld fPLY_CMD_STAT_RESULT d 0 = r ∧ t.lat .plyResult d 0 = 0 ∧ (r = 0 → t.fld fPLY_CMD_ID_SPINDLE d 0 = s.lat .plyId d 0 % 2 ^ 11) ∧ Only (Change.recording { regs := regsIn [.PLY_CMD_STAT, .PLY_CMD_ID] d 0, lats := theLat .plyResult d 0 }) s t) ∧
  (∀ (sp l : Nat) (s : State),
      sp < 1536 →
      s.inRealPly sp = true →
      s.isLead sp = false →
      s.leadOf sp = l →
      l ≠ sp →
      l < 1536 →
      s.spState l = 3 →
      s.spPowered l = true →
      Completes (.plyDoorbellMove sp) s fun t =>
        t.spFld fSPN_DB_PEND_PEND sp = 0 ∧ t.spFld fSPN_DB_PEND_PEND l = s.spFld fSPN_DB_PEND_PEND l ||| s.spFld fSPN_DB_PEND_PEND sp ∧ Only ({ regs := orReg (theReg .SPN_DB_PEND (spDie sp) (spIdx sp)) (theReg .SPN_DB_PEND (spDie l) (spIdx l)), lats := theLat .dbArrived l 0 }) s t) ∧
  (∀ (psn mem : Nat) (p : Ply) (s : State),
      psn < 1536 →
      s.plyOf psn = some p →
      s.isLead psn = true →
      1 < p.members.length →
      mem < p.members.length →
      mem < 2 ^ 22 →
      s.spState psn = 3 →
      s.lat .cleared psn 0 < (s.spin psn).spool.length →
      Completes (.plyWordCleared psn mem) s fun t =>
        t.fld fPLY_ENTRY_STAT_SLOWEST (spDie psn) (spIdx psn) = mem ∧ t.lat .cleared psn 0 = s.lat .cleared psn 0 + 1 ∧ Only ({ regs := theReg .PLY_ENTRY_STAT (spDie psn) (spIdx psn), lats := theLat .cleared psn 0 }) s t) ∧
  (∀ (sp : Nat) (s : State),
      sp < 1536 →
      s.inRealPly sp = true →
      s.isLead sp = false →
      s.leadOf sp = sp →
      Completes (.plyDoorbellMove sp) s fun t =>
        t.spFld fSPN_DB_PEND_PEND sp = 0 ∧ Only ({ regs := theReg .SPN_DB_PEND (spDie sp) (spIdx sp) }) s t) ∧
  (∀ (pkg sp i : Nat) (p q : Ply) (s : State),
      pkg < 4096 →
      sp < 1536 →
      s.plies.find? (fun y => y.members.contains (pkg, sp)) = some p →
      p.members.findIdx? (fun k => decide (k = (pkg, sp))) = some i →
      p.lost.contains i = false →
      q = { p with lost := p.lost ++ [i], stopped := true } →
      q.carrier.1 = s.pkg →
      s.enrolment (p.members.head?.getD (0, 0)).1 (p.members.head?.getD (0, 0)).2 = none →
      pkg ≠ s.pkg →
      Completes (.plyMemberLost pkg sp) s fun t =>
        q ∈ t.plies ∧ getBits (BitVec.ofNat 64 (t.fld fPLY_ENTRY_STAT_NOTICE (spDie q.carrier.2) (spIdx q.carrier.2))) 1 1 = 1 ∧ Only (Change.recording { regs := regsOf [.PLY_ENTRY, .PLY_ENTRY_CFG, .PLY_ENTRY_STAT, .SPN_STAT], lats := latsOf [.cleared], spins := fun k => p.members.contains (s.pkg, k), plies := true }) s t) ∧
  (∀ (pkg sp i : Nat) (p q : Ply) (s : State),
      pkg < 4096 →
      sp < 1536 →
      s.plies.find? (fun y => y.members.contains (pkg, sp)) = some p →
      p.members.findIdx? (fun k => decide (k = (pkg, sp))) = some i →
      p.lost.contains i = false →
      q = { p with lost := p.lost ++ [i], stopped := true } →
      q.carrier.1 = s.pkg →
      s.enrolment (p.members.head?.getD (0, 0)).1 (p.members.head?.getD (0, 0)).2 = none →
      pkg = s.pkg →
      s.standsLost sp = false →
      Completes (.plyMemberLost pkg sp) s fun t =>
        q ∈ t.plies ∧ getBits (BitVec.ofNat 64 (t.fld fPLY_ENTRY_STAT_NOTICE (spDie q.carrier.2) (spIdx q.carrier.2))) 1 1 = 1 ∧ Only (Change.recording { regs := regsOf [.PLY_ENTRY, .PLY_ENTRY_CFG, .PLY_ENTRY_STAT, .SPN_STAT], lats := latsOf [.cleared], spins := fun k => p.members.contains (s.pkg, k), plies := true }) s t) ∧
  (∀ (pkg sp i : Nat) (p q : Ply) (s : State),
      pkg < 4096 →
      sp < 1536 →
      s.plies.find? (fun y => y.members.contains (pkg, sp)) = some p →
      p.members.findIdx? (fun k => decide (k = (pkg, sp))) = some i →
      p.lost.contains i = false →
      q = { p with lost := p.lost ++ [i], stopped := true } →
      q.carrier.1 = s.pkg →
      s.enrolment (p.members.head?.getD (0, 0)).1 (p.members.head?.getD (0, 0)).2 = none →
      pkg = s.pkg →
      s.standsLost sp = true →
      (sget (0, 0) s.sticky.tallies (s.spUnit sp * 32 + 1)).1 < s.wfld fWD_FLT_THR_COUNT 1 →
      Completes (.plyMemberLost pkg sp) s fun t =>
        q ∈ t.plies ∧ getBits (BitVec.ofNat 64 (t.fld fPLY_ENTRY_STAT_NOTICE (spDie q.carrier.2) (spIdx q.carrier.2))) 1 1 = 1 ∧ t.spFld fSPN_STAT_STATE sp = 5 ∧ Only (Change.recording { regs := regsOf [.PLY_ENTRY, .PLY_ENTRY_CFG, .PLY_ENTRY_STAT, .SPN_STAT], lats := latsOf [.cleared], spins := fun k => p.members.contains (s.pkg, k), plies := true, tallies := true }) s t)

/-- A spindle in no ply of more than one, on a live die: RUN and STEP start it from HALTED, STEP with its request; HALT
asks it to halt; a request to a member of a ply is only recorded. Doorbell bits arrive in SPN_DB_PEND. The timer
sets SPN_IRQ.TIMER once it is past its compare value. A refusal notice sets ASYNC with the address of the first. A
WAIT that times out without a match writes 0 and false and the spindle runs on past it. A spindle with a halt
request, or a done step, halts at its oldest word. (R59, R69, R72, R75, R76, R81, R82, R178.) -/
def Obligations.SpindleControlCommandsComplete : Prop :=
  (∀ (m : Master) (sp : Nat) (s : State),
      sp < 1536 →
      s.dieUp (spDie sp) = true →
      s.inRealPly sp = false →
      s.canRun sp = true →
      Completes (.spnRun m sp) s fun t =>
        t.spFld fSPN_STAT_STATE sp = 3 ∧ Only ({ regs := theReg .SPN_STAT (spDie sp) (spIdx sp) }) s t) ∧
  (∀ (m : Master) (sp : Nat) (s : State),
      sp < 1536 →
      s.dieUp (spDie sp) = true →
      s.inRealPly sp = false →
      s.canRun sp = true →
      Completes (.spnStep m sp) s fun t =>
        t.spFld fSPN_STAT_STATE sp = 3 ∧ t.spFlag fSPN_CTL_STEP sp = true ∧ t.lat .stepDone sp 0 = 0 ∧ Only ({ regs := regsIn [.SPN_STAT, .SPN_CTL] (spDie sp) (spIdx sp), lats := theLat .stepDone sp 0 }) s t) ∧
  (∀ (m : Master) (sp : Nat) (s : State),
      sp < 1536 →
      s.dieUp (spDie sp) = true →
      s.inRealPly sp = false →
      s.spState sp = 3 ∨ s.spState sp = 4 →
      Completes (.spnHaltRequest m sp) s fun t =>
        t.spFlag fSPN_CTL_HALT sp = true ∧ Only ({ regs := theReg .SPN_CTL (spDie sp) (spIdx sp) }) s t) ∧
  (∀ (m : Master) (sp : Nat) (s : State),
      sp < 1536 →
      s.dieUp (spDie sp) = true →
      s.inRealPly sp = true →
      m ≠ .hw →
      Completes (.spnRun m sp) s fun t =>
        Only (Change.recording {}) s t) ∧
  (∀ (m : Master) (sp : Nat) (v : W64) (s : State),
      sp < 1536 →
      s.dieUp (spDie sp) = true →
      s.spState sp = 2 ∨ s.spState sp = 3 →
      Completes (.doorbellSetArrive m sp v) s fun t =>
        t.spFld fSPN_DB_PEND_PEND sp = s.spFld fSPN_DB_PEND_PEND sp ||| getBits v 31 0 ∧ Only ({ regs := theReg .SPN_DB_PEND (spDie sp) (spIdx sp), lats := theLat .dbArrived sp 0 }) s t) ∧
  (∀ (sp : Nat) (s : State),
      sp < 1536 →
      s.spPowered sp = true →
      (s.reg .SPN_TIMER_CMP (spDie sp) (spIdx sp)).toNat ≤ s.now →
      Completes (.timerCompare sp) s fun t =>
        t.spFlag fSPN_IRQ_TIMER sp = true ∧ Only ({ regs := theReg .SPN_IRQ (spDie sp) (spIdx sp) }) s t) ∧
  (∀ (sp : Nat) (addr : W64) (s : State),
      sp < 1536 →
      s.dieUp (spDie sp) = true →
      s.spPowered sp = true →
      s.isLead sp = true →
      Completes (.writeRefusalNotice sp addr) s fun t =>
        t.spFlag fSPN_IRQ_ASYNC sp = true ∧ (t.reg .SPN_ASYNC_ADDR (spDie sp) (spIdx sp) = if s.spFlag fSPN_IRQ_ASYNC sp then s.reg .SPN_ASYNC_ADDR (spDie sp) (spIdx sp) else addr) ∧ Only (Change.recording { regs := regsIn [.SPN_IRQ, .SPN_ASYNC_ADDR] (spDie sp) (spIdx sp) }) s t) ∧
  (∀ (sp l : Nat) (addr : W64) (s : State),
      sp < 1536 →
      s.dieUp (spDie sp) = true →
      s.spPowered sp = true →
      s.inRealPly sp = true →
      s.isLead sp = false →
      s.leadOf sp = l →
      l ≠ sp →
      Completes (.writeRefusalNotice sp addr) s fun t =>
        t.spFlag fSPN_IRQ_ASYNC sp = true ∧ t.fld fPLY_ENTRY_STAT_NOTICE (spDie l) (spIdx l) = s.fld fPLY_ENTRY_STAT_NOTICE (spDie l) (spIdx l) ||| 1 ∧ Only (Change.recording { regs := orReg (theReg .PLY_ENTRY_STAT (spDie l) (spIdx l)) (regsIn [.SPN_IRQ, .SPN_ASYNC_ADDR] (spDie sp) (spIdx sp)) }) s t) ∧
  (∀ (sp : Nat) (e : Entry) (s : State),
      sp < 1536 →
      s.inRealPly sp = false →
      s.spState sp = 4 →
      (s.spin sp).spool.head? = some e →
      (s.spin sp).getG (wGB e.word) ≠ BitVec.allOnes 64 →
      s.waitMatch sp e.word = none →
      wPD e.word ≠ 0 →
      s.spFlag fSPN_CTL_HALT sp = false →
      Completes (.waitTimeout sp) s fun t =>
        t.spFld fSPN_STAT_STATE sp = 3 ∧ (t.spin sp).getG (wGC e.word) = 0 ∧ (t.spin sp).getP (wPD e.word) = false ∧ (t.spin sp).spool = s.freshWords sp (s.lat .cleared sp 0 - 1) ((s.spin sp).spool.drop 1) ∧ t.spFld fSPN_PC_WORD sp = (e.pc + 1) % 16384 ∧ Only ({ regs := regsIn [.SPN_PC, .SPN_RETIRED, .SPN_STAT, .SPN_DB_PEND] (spDie sp) (spIdx sp), lats := orLat (theLat .stepDone sp 0) (theLat .cleared sp 0), spins := fun k => k == sp }) s t) ∧
  (∀ (sp : Nat) (s : State),
      sp < 1536 →
      s.inRealPly sp = false →
      s.spState sp = 3 ∨ s.spState sp = 4 →
      s.spFlag fSPN_CTL_HALT sp = true ∨ s.lat .stepDone sp 0 ≠ 0 →
      s.between sp = true →
      Completes (.spindleHalted sp) s fun t =>
        t.spFld fSPN_STAT_STATE sp = 2 ∧ t.spFlag fSPN_CTL_HALT sp = false ∧ t.spFlag fSPN_CTL_STEP sp = false ∧ (t.spin sp).spool = [] ∧ ((s.spin sp).overrun = false → t.spFld fSPN_PC_WORD sp = s.headPc sp % 16384) ∧ Only ({ regs := regsIn [.SPN_PC, .SPN_STAT, .SPN_CTL] (spDie sp) (spIdx sp), lats := orLat (theLat .stepDone sp 0) (theLat .cleared sp 0), spins := fun k => k == sp }) s t)

/-- The next word in program order joins the spool when bank 0 serves it and nothing older holds it back. The oldest
word of a false predicate retires without another effect: its entry leaves the spool of every local member, with any
younger word that a write to bank 0 has changed, the PC moves on and the word is counted. A word that accumulates
whose step fails its residue check replays. An exception already found in the oldest word is taken: cause, word
index and information are kept in every local member, and the spindle vectors with EXC_MODE 1 and halts with
EXC_MODE 0. A pending interrupt is taken between words: cause 0, the index of the oldest word kept, on to the
interrupt handler. (R52, R53, R55, R56, R58, R61, R63, R64, R65, R73, R92.) -/
def Obligations.SpoolCommandsComplete : Prop :=
  (∀ (sp pc : Nat) (w : W256) (s : State),
      sp < 1536 →
      s.inRealPly sp = false →
      s.mayIssue sp = true →
      s.window sp = true →
      s.nextPc sp = pc →
      pc < 16384 →
      s.bankSupply (padBank sp (32 * pc)) = 2 →
      s.bankOwn (padBank sp (32 * pc)) = 2 →
      s.bankReq (padBank sp (32 * pc)) = 2 →
      s.borrowedIn (padBank sp (32 * pc)) = none →
      w = BitVec.ofNat 256 (leValue (s.bytes (padAddr sp (32 * pc)) 32)) →
      ((s.spin sp).spool.all fun e => e.lets w) = true →
      Completes (.wordIssue sp) s fun t =>
        ((t.spin sp).spool = (s.spin sp).spool ++ [⟨w, pc, if (s.spin sp).spool.isEmpty then decodeCause s sp w else none, false⟩]) ∧ Only ({ spins := fun k => k == sp, lats := theLat .bankIdle (spDie sp) (spIdx sp * 4) }) s t) ∧
  (∀ (sp l : Nat) (h : Entry) (s : State),
      sp < 1536 →
      s.leadOf sp = l →
      l < 1536 →
      ((s.mates l).map fun x => x.2).Nodup →
      (s.spin l).spool.head? = some h →
      s.canPerform l h.word = true →
      h.cause = none →
      decodeCause s l h.word = none →
      (s.spin l).getP (wPred h.word) = false →
      Completes (.wordComplete sp .ok) s fun t =>
        (∀ x ∈ s.mates l, (t.spin x.2).spool = s.freshWords l (s.lat .cleared l 0 - 1) ((s.spin x.2).spool.drop 1) ∧ t.spFld fSPN_PC_WORD x.2 = (h.pc + 1) % 16384) ∧ Only (s.wordFrame l) s t) ∧
  (∀ (sp : Nat) (h : Entry) (s : State),
      sp < 1536 →
      s.inRealPly sp = false →
      (s.spin sp).spool.head? = some h →
      s.leadOf sp = sp →
      s.canPerform sp h.word = true →
      accumulates h.word = true →
      (s.spin sp).replays < 3 →
      s.countsOnly 0x00 (s.spUnit sp) = true →
      Completes (.wordComplete sp .residue) s fun t =>
        (t.spin sp).replays = (s.spin sp).replays + 1 ∧ (t.spin sp).spool = (s.spin sp).spool ∧ Only (Change.recording { spins := fun k => k == sp, lats := theLat .injReplay (s.spUnit sp) 0, tallies := true }) s t) ∧
  (∀ (sp : Nat) (h : Entry) (c : Nat × W64) (s : State),
      sp < 1536 →
      (s.spin sp).spool.head? = some h →
      h.cause = some c →
      c.1 < 256 →
      h.pc < 16384 →
      s.isLead sp = true →
      s.canPerform sp h.word = true →
      s.spFlag fSPN_CTL_HALT sp = false →
      s.spFlag fSPN_STAT_IN_HANDLER sp = false →
      s.spFlag fSPN_CTL_STEP sp = false →
      s.spFlag fSPN_CTL_EXC_MODE sp = true →
      Completes (.exceptionTaken sp) s fun t =>
        (∀ x ∈ s.mates sp, t.spFld fSPN_EXC_CAUSE_CAUSE x.2 = c.1 ∧ t.spFld fSPN_EXC_PC_WORD x.2 = h.pc ∧ t.reg .SPN_EXC_INFO (spDie x.2) (spIdx x.2) = c.2 ∧ t.spFld fSPN_PC_WORD x.2 = s.spFld fSPN_VEC_EXC_WORD sp ∧ t.spFlag fSPN_STAT_IN_HANDLER x.2 = true ∧ t.spFld fSPN_STAT_STATE x.2 = 3) ∧ Only ({ regs := regsOf [.SPN_PC, .SPN_EXC_CAUSE, .SPN_EXC_PC, .SPN_EXC_INFO, .SPN_STAT, .SPN_CTL, .PLY_ENTRY_STAT], lats := latsOf [.stepDone, .cleared], spins := fun k => (s.mates sp).any (fun x => x.2 == k) }) s t) ∧
  (∀ (sp : Nat) (h : Entry) (c : Nat × W64) (s : State),
      sp < 1536 →
      (s.spin sp).spool.head? = some h →
      h.cause = some c →
      c.1 < 256 →
      h.pc < 16384 →
      s.isLead sp = true →
      s.canPerform sp h.word = true →
      s.spFlag fSPN_CTL_HALT sp = false →
      s.spFlag fSPN_STAT_IN_HANDLER sp = false →
      s.spFlag fSPN_CTL_STEP sp = false →
      s.spFlag fSPN_CTL_EXC_MODE sp = false →
      Completes (.exceptionTaken sp) s fun t =>
        (∀ x ∈ s.mates sp, t.spFld fSPN_EXC_CAUSE_CAUSE x.2 = c.1 ∧ t.spFld fSPN_EXC_PC_WORD x.2 = h.pc ∧ t.reg .SPN_EXC_INFO (spDie x.2) (spIdx x.2) = c.2 ∧ t.spFld fSPN_PC_WORD x.2 = h.pc ∧ t.spFlag fSPN_STAT_EXC_HALT x.2 = true ∧ t.spFld fSPN_STAT_STATE x.2 = 2) ∧ Only (Change.recording { regs := regsOf [.SPN_PC, .SPN_EXC_CAUSE, .SPN_EXC_PC, .SPN_EXC_INFO, .SPN_STAT, .SPN_CTL, .PLY_ENTRY_STAT], lats := latsOf [.stepDone, .cleared], spins := fun k => (s.mates sp).any (fun x => x.2 == k) }) s t) ∧
  (∀ (sp : Nat) (s : State),
      sp < 1536 →
      s.isLead sp = true →
      s.spState sp = 3 ∨ s.spState sp = 4 →
      s.spFlag fSPN_CTL_HALT sp = false →
      s.spFlag fSPN_CTL_STEP sp = false →
      s.lat .stepDone sp 0 = 0 →
      s.irqPending sp = true →
      s.spFlag fSPN_STAT_IN_HANDLER sp = false →
      s.between sp = true →
      s.faultDue sp = false →
      Completes (.interruptTaken sp) s fun t =>
        (∀ x ∈ s.mates sp, t.spFld fSPN_EXC_CAUSE_CAUSE x.2 = 0 ∧ t.spFld fSPN_EXC_PC_WORD x.2 = s.headPc sp % 16384 ∧ t.spFld fSPN_PC_WORD x.2 = s.spFld fSPN_VEC_IRQ_WORD sp ∧ t.spFlag fSPN_STAT_IN_HANDLER x.2 = true ∧ t.spFld fSPN_STAT_STATE x.2 = 3) ∧ Only ({ regs := regsOf [.SPN_PC, .SPN_EXC_CAUSE, .SPN_EXC_PC, .SPN_STAT, .SPN_CTL], lats := latsOf [.stepDone, .cleared], spins := fun k => (s.mates sp).any (fun x => x.2 == k) }) s t)

/-- A write to an address at which nothing stands is recorded; from a host it is discarded, and any other master is
told. A write of a register's own width reaches it: SPN_VEC of a powered spindle in no ply takes its fields. The
state view of a HALTED spindle reads a g register, and writes one; of another it reads zero, with a record. A
doorbell word of BAR4 sets pending bits of its spindle; as memory it reads them. A read through BAR2 answers the
bytes at the address it leads to, and one that finds nothing there answers UNSUPPORTED and is recorded. (R8, R9,
R38, R42, R43, R83, R186, R271, R543.) -/
def Obligations.RegisterAndHostCommandsComplete : Prop :=
  (∀ (m : Master) (addr size : Nat) (v : W64) (s : State),
      addr < 2 ^ 64 →
      addr / 2 ^ 52 = s.pkg →
      s.locate (addr % 2 ^ 52) = .none →
      s.masterHeld m addr = false →
      Completes (.registerWrite m addr size v) s fun t =>
        t.reply = ⟨match m with | .host _ => .ok | _ => .addressFault, []⟩ ∧ Only (Change.recording { reply := true }) s t) ∧
  (∀ (m : Master) (sp addr off : Nat) (v : W64) (s : State),
      sp < 1536 →
      addr < 2 ^ 64 →
      addr / 2 ^ 52 = s.pkg →
      s.locate (addr % 2 ^ 52) = .win (spDie sp) off →
      s.windowSite (spDie sp) off = .reg .SPN_VEC (spDie sp) (spIdx sp) 0 →
      s.dieAnswer (spDie sp) = .ok →
      s.spPowered sp = true →
      s.lat .slotRetired sp 0 = 0 →
      s.inRealPly sp = false →
      s.masterHeld m addr = false →
      Completes (.registerWrite m addr 4 v) s fun t =>
        t.spFld fSPN_VEC_EXC_WORD sp = getBits v 13 0 ∧ t.spFld fSPN_VEC_IRQ_WORD sp = getBits v 29 16 ∧ t.reply = ⟨.ok, []⟩ ∧ Only ({ regs := theReg .SPN_VEC (spDie sp) (spIdx sp), reply := true }) s t) ∧
  (∀ (m : Master) (sp k : Nat) (s : State),
      sp < 1536 →
      k < 32 →
      s.dieAnswer (spDie sp) = .ok →
      s.spState sp = 2 →
      Completes (.stateViewAccess m sp (0xA0000 + 8 * k) 8 none) s fun t =>
        t.reply = ⟨.ok, leBytes 8 ((s.spin sp).getG k).toNat⟩ ∧ Only ({ reply := true }) s t) ∧
  (∀ (m : Master) (sp k : Nat) (v : W64) (s : State),
      sp < 1536 →
      k < 32 →
      s.dieAnswer (spDie sp) = .ok →
      s.spState sp = 2 →
      s.inRealPly sp = false →
      Completes (.stateViewAccess m sp (0xA0000 + 8 * k) 8 (some v)) s fun t =>
        (t.spin sp).getG k = v ∧ t.reply = ⟨.ok, []⟩ ∧ Only ({ spins := fun j => j == sp, reply := true }) s t) ∧
  (∀ (m : Master) (sp off size : Nat) (s : State),
      sp < 1536 →
      off < 0x100000 →
      s.dieAnswer (spDie sp) = .ok →
      s.spState sp ≠ 2 →
      s.spState sp ≠ 6 →
      Completes (.stateViewAccess m sp off size none) s fun t =>
        t.reply = ⟨.ok, leBytes size 0⟩ ∧ Only (Change.recording { reply := true }) s t) ∧
  (∀ (port sp : Nat) (v : W64) (s : State),
      port < 2 →
      s.portAlive port = true →
      s.portServes = true →
      sp < 1536 →
      s.notReady = false →
      s.dieUp (spDie sp) = true →
      s.spState sp = 2 ∨ s.spState sp = 3 →
      Completes (.bar4DoorbellWrite port (4 * sp) v) s fun t =>
        t.spFld fSPN_DB_PEND_PEND sp = s.spFld fSPN_DB_PEND_PEND sp ||| getBits v 31 0 ∧ t.reply = ⟨.ok, []⟩ ∧ Only ({ regs := theReg .SPN_DB_PEND (spDie sp) (spIdx sp), lats := theLat .dbArrived sp 0, reply := true }) s t) ∧
  (∀ (port sp : Nat) (s : State),
      port < 2 →
      s.portAlive port = true →
      s.portServes = true →
      sp < 1536 →
      s.dieUp (spDie sp) = true →
      s.spState sp ≠ 6 →
      Completes (.hostMemoryRequest port 4 (4 * sp) 4 none) s fun t =>
        t.reply = ⟨.ok, leBytes 4 (s.spFld fSPN_DB_PEND_PEND sp)⟩ ∧ Only ({ reply := true }) s t) ∧
  (∀ (port off n q : Nat) (bs : List Byte) (s : State),
      port < 2 →
      s.portAlive port = true →
      s.portServes = true →
      off + n ≤ 0x1000000000 →
      s.bar2Addr port off / 2 ^ 52 = s.pkg →
      s.locate (s.bar2Addr port off % 2 ^ 52) = .hbm q →
      s.notReady = false →
      (s.moveRead (asHost port) (s.bar2Addr port off) n).1 = .ok →
      (s.moveRead (asHost port) (s.bar2Addr port off) n).2.1 = bs →
      s.flaws = [] →
      Completes (.hostMemoryRequest port 2 off n none) s fun t =>
        t.reply = ⟨.ok, bs⟩ ∧ Only ({ regs := regsOf [.QD_ENG_SLOTS, .QD_ENG_DEGRADED], lats := latsOf [.slotThird], reply := true, free := true }) s t) ∧
  (∀ (port off n : Nat) (s : State),
      port < 2 →
      s.portAlive port = true →
      s.portServes = true →
      off + n ≤ 0x1000000000 →
      n ≠ 0 →
      s.bar2Addr port off / 2 ^ 52 = s.pkg →
      s.locate (s.bar2Addr port off % 2 ^ 52) = .none →
      s.notReady = false →
      s.moveWaits (asHost port) (s.bar2Addr port off) n = false →
      Completes (.hostMemoryRequest port 2 off n none) s fun t =>
        t.reply = ⟨.unsupported, []⟩ ∧ Only (Change.recording { reply := true }) s t)

/-- A C-word that its spindle performs gives this next state. BR and BRR continue at their target; CALL and CALLR also
write the index of the next word; LOOP counts its register down and branches until it is 0; HALT halts at the word
after it. FENCE and SYNC only retire. DOORBELL of a checked target delivers its bits. WAIT ends at once with a
match, or with a timeout of 0, and else the spindle waits with the word at its head. RETX goes to where the
exception or interrupt was kept. BREAK raises cause 0x0E with its IMM32. EPOCH of a unit not enrolled gives the
epoch before the one in progress and is recorded; RDEPOCH gives the epoch in progress. (R60, R66, R73, R75, R117,
R118, R119, R120, R121, R122, R123.) -/
def Obligations.FlowWordsComplete : Prop :=
  (∀ (sp : Nat) (w : W256) (s : State),
      s.performs sp 0x300 w = true →
      Completes (.br sp w) s fun t =>
        t = s.endWord sp (wTARGET w) ∧ Only (s.wordFrame sp) s t) ∧
  (∀ (sp : Nat) (w : W256) (s : State),
      s.performs sp 0x301 w = true →
      Completes (.brr sp w) s fun t =>
        t = s.endWord sp (getBits ((s.spin sp).getG (wGA w)) 13 0) ∧ Only (s.wordFrame sp) s t) ∧
  (∀ (sp : Nat) (w : W256) (s : State),
      s.performs sp 0x302 w = true →
      Completes (.call sp w) s fun t =>
        (t = (s.updMates sp fun x => x.setG (wGA w) (BitVec.ofNat 64 (s.headPc sp + 1))).endWord sp (wTARGET w)) ∧ Only (s.wordFrame sp) s t) ∧
  (∀ (sp : Nat) (w : W256) (s : State),
      s.performs sp 0x303 w = true →
      Completes (.callr sp w) s fun t =>
        (t = (s.updMates sp fun x => x.setG (wGA w) (BitVec.ofNat 64 (s.headPc sp + 1))).endWord sp (getBits ((s.spin sp).getG (wGB w)) 13 0)) ∧ Only (s.wordFrame sp) s t) ∧
  (∀ (sp : Nat) (w : W256) (s : State),
      s.performs sp 0x304 w = true →
      (s.spin sp).getG (wGA w) ≠ 0 →
      Completes (.loop sp w) s fun t =>
        (t = (s.updMates sp fun x => x.setG (wGA w) ((s.spin sp).getG (wGA w) - 1)).endWord sp (if (s.spin sp).getG (wGA w) = 1 then s.headPc sp + 1 else wTARGET w)) ∧ Only (s.wordFrame sp) s t) ∧
  (∀ (sp : Nat) (w : W256) (s : State),
      s.performs sp 0x304 w = true →
      (s.spin sp).getG (wGA w) = 0 →
      Completes (.loop sp w) s fun t =>
        t = s.endWord sp (s.headPc sp + 1) ∧ Only (s.wordFrame sp) s t) ∧
  (∀ (sp : Nat) (w : W256) (s : State),
      s.performs sp 0x305 w = true →
      Completes (.halt sp w) s fun t =>
        t = (s.retire sp (s.headPc sp + 1)).halted sp ∧ (∀ x ∈ s.mates sp, t.spFld fSPN_STAT_STATE x.2 = 2 ∧ t.spFld fSPN_PC_WORD x.2 = (s.headPc sp + 1) % 16384) ∧ Only ({ s.wordFrame sp with regs := regsOf [.SPN_PC, .SPN_RETIRED, .SPN_STAT, .SPN_CTL] }) s t) ∧
  (∀ (sp : Nat) (w : W256) (s : State),
      s.performs sp 0x310 w = true →
      Completes (.fence sp w) s fun t =>
        t = s.endWord sp (s.headPc sp + 1) ∧ Only (s.wordFrame sp) s t) ∧
  (∀ (sp : Nat) (w : W256) (s : State),
      s.performs sp 0x313 w = true →
      scopeCause s sp w = [] →
      Completes (.sync sp w) s fun t =>
        t = s.endWord sp (s.headPc sp + 1) ∧ Only (s.wordFrame sp) s t) ∧
  (∀ (sp : Nat) (w : W256) (s : State),
      s.performs sp 0x311 w = true →
      dbForm ((s.spin sp).getG (wGA w)) = true →
      s.bellHeld (s.spUnit sp) ((s.spin sp).getG (wGA w)) = false →
      s.reachable (dbPkg ((s.spin sp).getG (wGA w))) = true →
      (s.sendBell sp ((s.spin sp).getG (wGA w)) (if wMODE w then wIMM32 w else getBits ((s.spin sp).getG (wGB w)) 31 0)).isSome = true →
      Completes (.doorbell sp w) s fun t =>
        ((s.sendBell sp ((s.spin sp).getG (wGA w)) (if wMODE w then wIMM32 w else getBits ((s.spin sp).getG (wGB w)) 31 0)).map (fun u => u.endWord sp (s.headPc sp + 1)) = some t)) ∧
  (∀ (sp h : Nat) (w : W256) (s : State),
      s.performs sp 0x312 w = true →
      s.waitMatch sp w = some h →
      Completes (.wait sp w) s fun t =>
        t = s.endWait sp w (s.headPc sp) (some h) ∧ Only ({ s.wordFrame sp with regs := regsOf [.SPN_PC, .SPN_RETIRED, .SPN_STAT, .SPN_CTL, .SPN_DB_PEND] }) s t) ∧
  (∀ (sp : Nat) (w : W256) (s : State),
      s.performs sp 0x312 w = true →
      s.waitMatch sp w = none →
      (s.spin sp).getG (wGB w) = 0 →
      Completes (.wait sp w) s fun t =>
        t = s.endWait sp w (s.headPc sp) none ∧ Only ({ s.wordFrame sp with regs := regsOf [.SPN_PC, .SPN_RETIRED, .SPN_STAT, .SPN_CTL, .SPN_DB_PEND] }) s t) ∧
  (∀ (sp : Nat) (w : W256) (s : State),
      s.performs sp 0x312 w = true →
      s.waitMatch sp w = none →
      (s.spin sp).getG (wGB w) ≠ 0 →
      Completes (.wait sp w) s fun t =>
        (∀ x ∈ s.mates sp, t.spFld fSPN_STAT_STATE x.2 = 4) ∧ (∀ x ∈ s.mates sp, ((t.spin x.2).spool.head?.map fun e => e.pc) = ((s.holdHead sp (s.headPc sp) w false).spin x.2).spool.head?.map fun e => e.pc) ∧ Only ({ s.wordFrame sp with regs := regsOf [.SPN_STAT] }) s t) ∧
  (∀ (sp : Nat) (w : W256) (s : State),
      s.performs sp 0x320 w = true →
      s.spFlag fSPN_STAT_IN_HANDLER sp = true →
      Completes (.retx sp w) s fun t =>
        (t = (s.setMatesFld fSPN_STAT_IN_HANDLER sp 0).endWord sp (s.spFld fSPN_EXC_PC_WORD sp + (if wMODE w ∧ s.spFld fSPN_EXC_CAUSE_CAUSE sp ≠ 0 then 1 else 0))) ∧ Only ({ s.wordFrame sp with regs := regsOf [.SPN_PC, .SPN_RETIRED, .SPN_STAT, .SPN_CTL] }) s t) ∧
  (∀ (sp : Nat) (w : W256) (s : State),
      s.performs sp 0x321 w = true →
      Completes (.brk sp w) s fun t =>
        t = s.takeException sp (s.headPc sp) 0xE (BitVec.ofNat 64 (wIMM32 w)) 0) ∧
  (∀ (sp : Nat) (w : W256) (s : State),
      s.performs sp 0x322 w = true →
      s.unitEntry sp = none →
      Completes (.epoch sp w) s fun t =>
        (∀ x ∈ s.mates sp, (t.spin x.2).getG (wGA w) = BitVec.ofNat 64 s.epochC - 1) ∧ Only (Change.recording (s.wordFrame sp)) s t) ∧
  (∀ (sp : Nat) (w : W256) (s : State),
      s.performs sp 0x323 w = true →
      Completes (.rdepoch sp w) s fun t =>
        (t = (s.updMates sp fun x => x.setG (wGA w) (BitVec.ofNat 64 s.epochC)).endWord sp (s.headPc sp + 1)) ∧ Only (s.wordFrame sp) s t) ∧
  (∀ (sp i : Nat) (w : W256) (s : State),
      s.performs sp 0x322 w = true →
      s.unitEntry sp = some i →
      s.wfld fWD_EP_ENT0_STATE i = 1 →
      Completes (.epoch sp w) s fun t =>
        t.wfld fWD_EP_ENT0_STATE i = 2 ∧ (∀ x ∈ s.mates sp, (t.spin x.2).spool.head?.map (fun e => e.started) = some true))

/-- An elementwise T-word that its spindle performs, with its checks at issue passed, gives this next state: in every
member of every group of its scope each element of D is the code of the exact result of the elements of A, B and C
at its place, rounded once into FD under the rounding in force at its logical coordinates; nothing else of the
member changes and the word retires. A word with an empty shape only retires. TDIV and TRECIP do so where no divisor
is zero; else the exception DIV_ZERO is taken with the lowest element of the lowest member. (R101, R104, R106, R108,
R125, R130, R141, R142, R160, R175.) -/
def Obligations.ElementwiseWordsComplete : Prop :=
  (∀ (sp : Nat) (w : W256) (s : State),
      s.performs sp 0x110 w = true →
      s.tileClear sp w = true →
      Completes (.tadd sp w) s fun t =>
        (t = (s.elementwise sp w fun m x r e => FV.add m (x.aVal w r e) (x.bVal w r e)).endWord sp (s.headPc sp + 1)) ∧ Only (s.wordFrame sp) s t) ∧
  (∀ (sp : Nat) (w : W256) (s : State),
      s.performs sp 0x111 w = true →
      s.tileClear sp w = true →
      Completes (.tsub sp w) s fun t =>
        (t = (s.elementwise sp w fun m x r e => FV.add m (x.aVal w r e) (FV.neg (x.bVal w r e))).endWord sp (s.headPc sp + 1)) ∧ Only (s.wordFrame sp) s t) ∧
  (∀ (sp : Nat) (w : W256) (s : State),
      s.performs sp 0x112 w = true →
      s.tileClear sp w = true →
      Completes (.tmul sp w) s fun t =>
        (t = (s.elementwise sp w fun _ x r e => FV.mul (x.aVal w r e) (x.bVal w r e)).endWord sp (s.headPc sp + 1)) ∧ Only (s.wordFrame sp) s t) ∧
  (∀ (sp : Nat) (w : W256) (s : State),
      s.performs sp 0x113 w = true →
      s.tileClear sp w = true →
      s.divZero sp opDiv tBin w = none →
      Completes (.tdiv sp w) s fun t =>
        (t = (s.elementwise sp w fun _ x r e => FV.div (x.aVal w r e) (x.bVal w r e)).endWord sp (s.headPc sp + 1)) ∧ Only (s.wordFrame sp) s t) ∧
  (∀ (sp : Nat) (w : W256) (s : State),
      s.performs sp 0x114 w = true →
      s.tileClear sp w = true →
      Completes (.tfma sp w) s fun t =>
        (t = (s.elementwise sp w fun m x r e => FV.add m (FV.mul (x.aVal w r e) (x.bVal w r e)) (x.cVal w r e)).endWord sp (s.headPc sp + 1)) ∧ Only (s.wordFrame sp) s t) ∧
  (∀ (sp : Nat) (w : W256) (s : State),
      s.performs sp 0x115 w = true →
      s.tileClear sp w = true →
      Completes (.tmin sp w) s fun t =>
        (t = (s.elementwise sp w fun _ x r e => FV.min (x.aVal w r e) (x.bVal w r e)).endWord sp (s.headPc sp + 1)) ∧ Only (s.wordFrame sp) s t) ∧
  (∀ (sp : Nat) (w : W256) (s : State),
      s.performs sp 0x116 w = true →
      s.tileClear sp w = true →
      Completes (.tmax sp w) s fun t =>
        (t = (s.elementwise sp w fun _ x r e => FV.max (x.aVal w r e) (x.bVal w r e)).endWord sp (s.headPc sp + 1)) ∧ Only (s.wordFrame sp) s t) ∧
  (∀ (sp : Nat) (w : W256) (s : State),
      s.performs sp 0x117 w = true →
      s.tileClear sp w = true →
      Completes (.tabs sp w) s fun t =>
        (t = (s.elementwise sp w fun _ x r e => FV.abs (x.aVal w r e)).endWord sp (s.headPc sp + 1)) ∧ Only (s.wordFrame sp) s t) ∧
  (∀ (sp : Nat) (w : W256) (s : State),
      s.performs sp 0x118 w = true →
      s.tileClear sp w = true →
      Completes (.tadds sp w) s fun t =>
        (t = (s.elementwise sp w fun m x r e => FV.add m (x.aVal w r e) (s.scalar sp w (wFA w))).endWord sp (s.headPc sp + 1)) ∧ Only (s.wordFrame sp) s t) ∧
  (∀ (sp : Nat) (w : W256) (s : State),
      s.performs sp 0x119 w = true →
      s.tileClear sp w = true →
      Completes (.tmuls sp w) s fun t =>
        (t = (s.elementwise sp w fun _ x r e => FV.mul (x.aVal w r e) (s.scalar sp w (wFA w))).endWord sp (s.headPc sp + 1)) ∧ Only (s.wordFrame sp) s t) ∧
  (∀ (sp : Nat) (w : W256) (s : State),
      s.performs sp 0x11A w = true →
      s.tileClear sp w = true →
      Completes (.tscl2 sp w) s fun t =>
        (t = (s.elementwise sp w fun _ x r e => FV.scale2 (wIMM11 w) (x.aVal w r e)).endWord sp (s.headPc sp + 1)) ∧ Only (s.wordFrame sp) s t) ∧
  (∀ (sp : Nat) (w : W256) (s : State),
      s.performs sp 0x120 w = true →
      s.tileClear sp w = true →
      Completes (.trelu sp w) s fun t =>
        (t = (s.elementwise sp w fun _ x r e => FV.max (x.aVal w r e) (.fin false 0 1)).endWord sp (s.headPc sp + 1)) ∧ Only (s.wordFrame sp) s t) ∧
  (∀ (sp : Nat) (w : W256) (s : State),
      s.performs sp 0x121 w = true →
      s.tileClear sp w = true →
      Completes (.tgelu sp w) s fun t =>
        (t = (s.elementwise sp w fun _ x r e => Fn.eval .gelu (x.aVal w r e)).endWord sp (s.headPc sp + 1)) ∧ Only (s.wordFrame sp) s t) ∧
  (∀ (sp : Nat) (w : W256) (s : State),
      s.performs sp 0x122 w = true →
      s.tileClear sp w = true →
      Completes (.tsigm sp w) s fun t =>
        (t = (s.elementwise sp w fun _ x r e => Fn.eval .sigm (x.aVal w r e)).endWord sp (s.headPc sp + 1)) ∧ Only (s.wordFrame sp) s t) ∧
  (∀ (sp : Nat) (w : W256) (s : State),
      s.performs sp 0x123 w = true →
      s.tileClear sp w = true →
      Completes (.ttanh sp w) s fun t =>
        (t = (s.elementwise sp w fun _ x r e => Fn.eval .tanh (x.aVal w r e)).endWord sp (s.headPc sp + 1)) ∧ Only (s.wordFrame sp) s t) ∧
  (∀ (sp : Nat) (w : W256) (s : State),
      s.performs sp 0x124 w = true →
      s.tileClear sp w = true →
      Completes (.texp sp w) s fun t =>
        (t = (s.elementwise sp w fun _ x r e => Fn.eval .exp (x.aVal w r e)).endWord sp (s.headPc sp + 1)) ∧ Only (s.wordFrame sp) s t) ∧
  (∀ (sp : Nat) (w : W256) (s : State),
      s.performs sp 0x125 w = true →
      s.tileClear sp w = true →
      Completes (.tlog sp w) s fun t =>
        (t = (s.elementwise sp w fun _ x r e => Fn.eval .log (x.aVal w r e)).endWord sp (s.headPc sp + 1)) ∧ Only (s.wordFrame sp) s t) ∧
  (∀ (sp : Nat) (w : W256) (s : State),
      s.performs sp 0x127 w = true →
      s.tileClear sp w = true →
      Completes (.trsqrt sp w) s fun t =>
        (t = (s.elementwise sp w fun _ x r e => Fn.eval .rsqrt (x.aVal w r e)).endWord sp (s.headPc sp + 1)) ∧ Only (s.wordFrame sp) s t) ∧
  (∀ (sp : Nat) (w : W256) (s : State),
      s.performs sp 0x126 w = true →
      s.tileClear sp w = true →
      Completes (.tsqrt sp w) s fun t =>
        (t = (s.elementwise sp w fun _ x r e => FV.sqrt (x.aVal w r e)).endWord sp (s.headPc sp + 1)) ∧ Only (s.wordFrame sp) s t) ∧
  (∀ (sp : Nat) (w : W256) (s : State),
      s.performs sp 0x128 w = true →
      s.tileClear sp w = true →
      s.divZero sp opRecip tUn w = none →
      Completes (.trecip sp w) s fun t =>
        (t = (s.elementwise sp w fun _ x r e => FV.div (.fin false 1 1) (x.aVal w r e)).endWord sp (s.headPc sp + 1)) ∧ Only (s.wordFrame sp) s t) ∧
  (∀ (sp : Nat) (w : W256) (s : State),
      s.performs sp 0x129 w = true →
      s.tileClear sp w = true →
      Completes (.tcgt sp w) s fun t =>
        (t = (s.elementwise sp w fun _ x r e => boolVal (FV.lt false (x.bVal w r e) (x.aVal w r e))).endWord sp (s.headPc sp + 1)) ∧ Only (s.wordFrame sp) s t) ∧
  (∀ (sp : Nat) (w : W256) (s : State),
      s.performs sp 0x12A w = true →
      s.tileClear sp w = true →
      Completes (.tceq sp w) s fun t =>
        (t = (s.elementwise sp w fun _ x r e => boolVal (FV.eqv (x.aVal w r e) (x.bVal w r e))).endWord sp (s.headPc sp + 1)) ∧ Only (s.wordFrame sp) s t) ∧
  (∀ (sp : Nat) (w : W256) (s : State),
      s.performs sp 0x12B w = true →
      s.tileClear sp w = true →
      Completes (.tsel sp w) s fun t =>
        (t = (s.elementwise sp w fun _ x r e => if (x.cVal w r e).isZero then (x.bVal w r e) else (x.aVal w r e)).endWord sp (s.headPc sp + 1)) ∧ Only (s.wordFrame sp) s t) ∧
  (∀ (sp : Nat) (w : W256) (x : Nat × Nat) (s : State),
      s.performs sp 0x113 w = true →
      s.tileClear sp w = true →
      tileEmpty w = false →
      s.divZero sp opDiv tBin w = some x →
      Completes (.tdiv sp w) s fun t =>
        t = s.takeException sp (s.headPc sp) 0xD (BitVec.ofNat 64 x.2) x.1) ∧
  (∀ (sp : Nat) (w : W256) (x : Nat × Nat) (s : State),
      s.performs sp 0x128 w = true →
      s.tileClear sp w = true →
      tileEmpty w = false →
      s.divZero sp opRecip tUn w = some x →
      Completes (.trecip sp w) s fun t =>
        t = s.takeException sp (s.headPc sp) 0xD (BitVec.ofNat 64 x.2) x.1)

/-- With the checks at issue passed. MMA and MMS add to lane (i, j) of D the products of row i of A and row j of B under
their blocks' scales, MMS negated; MACC the elements of A; with INIT the lanes are cleared first; MCLR clears them.
MRD writes to each member's stripe the combined lanes of its group, rounded once; MRDC clears the lanes too; MFLAG
gives every member the OR of the lanes' flags. A member whose lanes do not agree with their residues replays an
accumulating word, and takes a machine check in a read-out. (R61, R62, R107, R108, R135, R147, R148, R149, R153,
R161, R162, R163.) -/
def Obligations.AccumulateAndReadOutWordsComplete : Prop :=
  (∀ (sp : Nat) (w : W256) (s : State),
      s.performs sp 0x100 w = true →
      s.tileClear sp w = true →
      s.stepsHold sp w (fun _ _ x i j => x.products w false i j) = true →
      Completes (.mma sp w) s fun t =>
        (t = (s.accumulated sp w fun _ _ x i j => x.products w false i j).endWord sp (s.headPc sp + 1)) ∧ Only (s.wordFrame sp) s t) ∧
  (∀ (sp : Nat) (w : W256) (s : State),
      s.performs sp 0x101 w = true →
      s.tileClear sp w = true →
      s.stepsHold sp w (fun _ _ x i j => x.products w true i j) = true →
      Completes (.mms sp w) s fun t =>
        (t = (s.accumulated sp w fun _ _ x i j => x.products w true i j).endWord sp (s.headPc sp + 1)) ∧ Only (s.wordFrame sp) s t) ∧
  (∀ (sp : Nat) (w : W256) (s : State),
      s.performs sp 0x102 w = true →
      s.tileClear sp w = true →
      s.stepsHold sp w (fun _ m x i j => if m * (shapeAt w 64).elems ≤ j ∧ j < (m + 1) * (shapeAt w 64).elems then [x.aVal w i (j - m * (shapeAt w 64).elems)] else []) = true →
      Completes (.macc sp w) s fun t =>
        (t = (s.accumulated sp w (fun _ m x i j => if m * (shapeAt w 64).elems ≤ j ∧ j < (m + 1) * (shapeAt w 64).elems then [x.aVal w i (j - m * (shapeAt w 64).elems)] else [])).endWord sp (s.headPc sp + 1)) ∧ Only (s.wordFrame sp) s t) ∧
  (∀ (sp : Nat) (w : W256) (s : State),
      s.performs sp 0x102 w = true →
      s.tileClear sp w = true →
      s.stepsHold sp w (fun _ m x i j => if m * (shapeAt w 64).elems ≤ j ∧ j < (m + 1) * (shapeAt w 64).elems then [x.aVal w i (j - m * (shapeAt w 64).elems)] else []) = true →
      s.inRealPly sp = true →
      Completes (.macc sp w) s fun t =>
        (t = (s.accumulated sp w (fun _ m x i j => if m * (shapeAt w 64).elems ≤ j ∧ j < (m + 1) * (shapeAt w 64).elems then [x.aVal w i (j - m * (shapeAt w 64).elems)] else [])).endWord sp (s.headPc sp + 1)) ∧ Only (s.wordFrame sp) s t) ∧
  (∀ (sp : Nat) (w : W256) (s : State),
      s.performs sp 0x103 w = true →
      s.tileClear sp w = true →
      Completes (.mclr sp w) s fun t =>
        (t = (if tileEmpty w then s else s.eachMember sp (wScope w) fun _ _ x => x.clearLanes (wD w - 8) (mshapeAt w 192)).endWord sp (s.headPc sp + 1)) ∧ Only (s.wordFrame sp) s t) ∧
  (∀ (sp : Nat) (w : W256) (s : State),
      s.performs sp 0x104 w = true →
      s.tileClear sp w = true →
      s.lanesHold sp w = true →
      Completes (.mrd sp w) s fun t =>
        t = (s.readOuts sp w false).endWord sp (s.headPc sp + 1) ∧ Only ({ s.wordFrame sp with free := true }) s t) ∧
  (∀ (sp : Nat) (w : W256) (s : State),
      s.performs sp 0x105 w = true →
      s.tileClear sp w = true →
      s.lanesHold sp w = true →
      Completes (.mrdc sp w) s fun t =>
        t = (s.readOuts sp w true).endWord sp (s.headPc sp + 1) ∧ Only ({ s.wordFrame sp with free := true }) s t) ∧
  (∀ (sp : Nat) (w : W256) (s : State),
      s.performs sp 0x106 w = true →
      s.tileClear sp w = true →
      Completes (.mflag sp w) s fun t =>
        (t = (if tileEmpty w then s else (s.updMates sp fun x => x.setG (wGS w) (BitVec.ofNat 64 ((s.groups sp 0).foldl (fun a g => (mshapeAt w 64).lanes.foldl (fun b l => (s.partials g (wA w - 8) l.2.2).foldl (fun c x => c ||| x.mflag) b) a) 0))).drawn s sp 0).endWord sp (s.headPc sp + 1)) ∧ Only ({ s.wordFrame sp with free := true }) s t) ∧
  (∀ (sp : Nat) (w : W256) (s : State),
      s.performs sp 0x104 w = true →
      s.tileClear sp w = true →
      tileEmpty w = false →
      s.groups sp (wScope w) = [⟨1, [(0, sp)]⟩] →
      (s.spin sp).lanesOk (wA w - 8) (mshapeAt w 64) (fun _ _ => true) = false →
      s.inRealPly sp = false →
      s.countsOnly 0x01 (s.spUnit sp) = true →
      Completes (.mrd sp w) s fun t =>
        t.spFld fSPN_STAT_STATE sp = 5)

/-- With the checks at issue passed. TCOPY moves codes bit for bit; TBCAST gives every row the elements of A's one row;
TTRANS transposes the logical shape; TZERO writes zeros; TFILL writes the scalar of GS rounded into FD; TPUT writes
it in member 0 of each group only; TGET gives every member member 0's element, an integer sign-extended and any
other as FP32; TCVT converts each element from FA to FD, with the scales of its blocks where FD has them. A word
with an empty shape only retires. (R104, R105, R108, R125, R126, R136, R138, R142, R163.) -/
def Obligations.MoveAndConvertWordsComplete : Prop :=
  (∀ (sp : Nat) (w : W256) (s : State),
      s.performs sp 0x130 w = true →
      s.tileClear sp w = true →
      Completes (.tcopy sp w) s fun t =>
        (t = (s.tileResult sp w (wFA w) fun _ _ x r e => x.elem (x.fmtD (wFA w)) (wA w) (shapeAt w 64) r e).endWord sp (s.headPc sp + 1)) ∧ Only (s.wordFrame sp) s t) ∧
  (∀ (sp : Nat) (w : W256) (s : State),
      s.performs sp 0x134 w = true →
      s.tileClear sp w = true →
      Completes (.tbcast sp w) s fun t =>
        (t = (s.tileResult sp w (wFA w) fun _ _ x _ e => x.elem (x.fmtD (wFA w)) (wA w) (shapeAt w 64) 0 e).endWord sp (s.headPc sp + 1)) ∧ Only (s.wordFrame sp) s t) ∧
  (∀ (sp : Nat) (w : W256) (s : State),
      s.performs sp 0x137 w = true →
      s.tileClear sp w = true →
      Completes (.tzero sp w) s fun t =>
        (t = (s.tileResult sp w (wFD w) fun _ _ _ _ _ => 0).endWord sp (s.headPc sp + 1)) ∧ Only (s.wordFrame sp) s t) ∧
  (∀ (sp : Nat) (w : W256) (s : State),
      s.performs sp 0x133 w = true →
      s.tileClear sp w = true →
      Completes (.tfill sp w) s fun t =>
        (t = (s.elementwise sp w fun _ x _ _ => scalarVal (x.fmtD (wFD w)) (x.getG (wGS w))).endWord sp (s.headPc sp + 1)) ∧ Only (s.wordFrame sp) s t) ∧
  (∀ (sp : Nat) (w : W256) (s : State),
      s.performs sp 0x136 w = true →
      s.tileClear sp w = true →
      Completes (.tput sp w) s fun t =>
        (t = (if tileEmpty w then s else s.eachMember sp (wScope w) fun _ m x => if m = 0 then x.fillShape (x.fmtD (wFD w)) (wD w) (shapeAt w 192) (fun r e => encodeVal (x.fmtD (wFD w)) ((x.tRounding w).at r e) (scalarVal (x.fmtD (wFD w)) (x.getG (wGS w)))) else x).endWord sp (s.headPc sp + 1)) ∧ Only (s.wordFrame sp) s t) ∧
  (∀ (sp : Nat) (w : W256) (s : State),
      s.performs sp 0x135 w = true →
      s.tileClear sp w = true →
      Completes (.tget sp w) s fun t =>
        (t = (if tileEmpty w then s else s.updMates sp fun x => x.setG (wGS w) (if ((s.spin sp).fmtD (wFA w)).isInt then BitVec.ofInt 64 (signedOf ((s.spin sp).fmtD (wFA w)).width ((s.spin sp).elem ((s.spin sp).fmtD (wFA w)) (wA w) (shapeAt w 64) 0 0)) else BitVec.ofNat 64 (encodeVal fmtFP32 ⟨.nearest, 0⟩ (decodeVal ((s.spin sp).fmtD (wFA w)) ((s.spin sp).elem ((s.spin sp).fmtD (wFA w)) (wA w) (shapeAt w 64) 0 0))))).endWord sp (s.headPc sp + 1)) ∧ Only (s.wordFrame sp) s t) ∧
  (∀ (sp : Nat) (w : W256) (s : State),
      s.performs sp 0x132 w = true →
      s.tileClear sp w = true →
      ((s.spin sp).fmtD (wFD w)).block = 0 ∨ wC w = 0 →
      (s.mates sp).all (fun x => (s.spin x.2).fmtD (wFD w) == (s.spin sp).fmtD (wFD w)) = true →
      Completes (.tcvt sp w) s fun t =>
        (t = (s.tileResult sp w (wFD w) fun _ m x r e => x.cvtElem w r e (m * (shapeAt w 192).elems + e)).endWord sp (s.headPc sp + 1)) ∧ Only (s.wordFrame sp) s t) ∧
  (∀ (sp : Nat) (w : W256) (s : State),
      s.performs sp 0x132 w = true →
      s.tileClear sp w = true →
      Completes (.tcvt sp w) s fun t =>
        (t = (if tileEmpty w then s else s.eachMember sp (wScope w) fun _ m x => x.converted w m).endWord sp (s.headPc sp + 1)) ∧ Only (s.wordFrame sp) s t) ∧
  (∀ (sp : Nat) (w : W256) (s : State),
      s.performs sp 0x131 w = true →
      s.tileClear sp w = true →
      tileEmpty w = false →
      Completes (.ttrans sp w) s fun t =>
        (t = ((s.tileResult sp w (wFA w) fun g m x r e => match g.mems.find? (fun q => q.1 = r / (shapeAt w 64).elems) with | some q => (s.spin q.2).elem (x.fmtD (wFA w)) (wA w) (shapeAt w 64) (m * (shapeAt w 192).elems + e) (r % (shapeAt w 64).elems) | none => (Config.freeWord (Nat.pair s.free (Nat.pair r (m * (shapeAt w 192).elems + e)))).toNat % 2 ^ (x.fmtD (wFA w)).width) |>.drawn s sp (wScope w)).endWord sp (s.headPc sp + 1)) ∧ Only ({ s.wordFrame sp with free := true }) s t)

/-- An S-word whose slots all take effect gives the state they leave in order, and retires. Of one slot: a register or
immediate operation writes its 64-bit result in every member; a divisor of zero raises DIV_ZERO and nothing is
written; compares and predicate logic write a predicate; SEL chooses by a predicate; MOVI and its kin write 16-bit
chunks; a load writes the bytes its descriptor leads to, zero- or sign-extended; a store puts the register's low
bytes there; descriptors, selectors and numbers of the machine are moved to and from registers. (R45, R46, R93, R95,
R96, R97, R98, R99, R166.) -/
def Obligations.ScalarWordsComplete : Prop :=
  (∀ (sp : Nat) (w : W256) (s : State),
      s.performs sp 0 w = true →
      (s.slotsDone sp w).isSome = true →
      Completes (.sWord sp w) s fun t =>
        s.slotsDone sp w = some t) ∧
  (∀ (sp x : Nat) (w : W256) (s : State),
      s.performs sp 0 w = true →
      sCount w = 1 →
      slotOf w 1 = x →
      lSOP x = 0x10 →
      Completes (.sWord sp w) s fun t =>
        (t = (s.updMates sp fun y => y.setG (lRD x) (((s.spin sp).getG (lRS1 x)) + ((s.spin sp).getG (lRS2 x)))).endWord sp (s.headPc sp + 1)) ∧ Only (s.wordFrame sp) s t) ∧
  (∀ (sp x : Nat) (w : W256) (s : State),
      s.performs sp 0 w = true →
      sCount w = 1 →
      slotOf w 1 = x →
      lSOP x = 0x11 →
      Completes (.sWord sp w) s fun t =>
        (t = (s.updMates sp fun y => y.setG (lRD x) (((s.spin sp).getG (lRS1 x)) - ((s.spin sp).getG (lRS2 x)))).endWord sp (s.headPc sp + 1)) ∧ Only (s.wordFrame sp) s t) ∧
  (∀ (sp x : Nat) (w : W256) (s : State),
      s.performs sp 0 w = true →
      sCount w = 1 →
      slotOf w 1 = x →
      lSOP x = 0x13 →
      Completes (.sWord sp w) s fun t =>
        (t = (s.updMates sp fun y => y.setG (lRD x) (((s.spin sp).getG (lRS1 x)) * ((s.spin sp).getG (lRS2 x)))).endWord sp (s.headPc sp + 1)) ∧ Only (s.wordFrame sp) s t) ∧
  (∀ (sp x : Nat) (w : W256) (s : State),
      s.performs sp 0 w = true →
      sCount w = 1 →
      slotOf w 1 = x →
      lSOP x = 0x14 →
      Completes (.sWord sp w) s fun t =>
        (t = (s.updMates sp fun y => y.setG (lRD x) (BitVec.ofNat 64 (((s.spin sp).getG (lRS1 x)).toNat * ((s.spin sp).getG (lRS2 x)).toNat / 2 ^ 64))).endWord sp (s.headPc sp + 1)) ∧ Only (s.wordFrame sp) s t) ∧
  (∀ (sp x : Nat) (w : W256) (s : State),
      s.performs sp 0 w = true →
      sCount w = 1 →
      slotOf w 1 = x →
      lSOP x = 0x19 →
      Completes (.sWord sp w) s fun t =>
        (t = (s.updMates sp fun y => y.setG (lRD x) (if BitVec.slt ((s.spin sp).getG (lRS1 x)) ((s.spin sp).getG (lRS2 x)) then ((s.spin sp).getG (lRS1 x)) else ((s.spin sp).getG (lRS2 x)))).endWord sp (s.headPc sp + 1)) ∧ Only (s.wordFrame sp) s t) ∧
  (∀ (sp x : Nat) (w : W256) (s : State),
      s.performs sp 0 w = true →
      sCount w = 1 →
      slotOf w 1 = x →
      lSOP x = 0x1A →
      Completes (.sWord sp w) s fun t =>
        (t = (s.updMates sp fun y => y.setG (lRD x) (if BitVec.slt ((s.spin sp).getG (lRS1 x)) ((s.spin sp).getG (lRS2 x)) then ((s.spin sp).getG (lRS2 x)) else ((s.spin sp).getG (lRS1 x)))).endWord sp (s.headPc sp + 1)) ∧ Only (s.wordFrame sp) s t) ∧
  (∀ (sp x : Nat) (w : W256) (s : State),
      s.performs sp 0 w = true →
      sCount w = 1 →
      slotOf w 1 = x →
      lSOP x = 0x20 →
      Completes (.sWord sp w) s fun t =>
        (t = (s.updMates sp fun y => y.setG (lRD x) (((s.spin sp).getG (lRS1 x)) &&& ((s.spin sp).getG (lRS2 x)))).endWord sp (s.headPc sp + 1)) ∧ Only (s.wordFrame sp) s t) ∧
  (∀ (sp x : Nat) (w : W256) (s : State),
      s.performs sp 0 w = true →
      sCount w = 1 →
      slotOf w 1 = x →
      lSOP x = 0x21 →
      Completes (.sWord sp w) s fun t =>
        (t = (s.updMates sp fun y => y.setG (lRD x) (((s.spin sp).getG (lRS1 x)) ||| ((s.spin sp).getG (lRS2 x)))).endWord sp (s.headPc sp + 1)) ∧ Only (s.wordFrame sp) s t) ∧
  (∀ (sp x : Nat) (w : W256) (s : State),
      s.performs sp 0 w = true →
      sCount w = 1 →
      slotOf w 1 = x →
      lSOP x = 0x22 →
      Completes (.sWord sp w) s fun t =>
        (t = (s.updMates sp fun y => y.setG (lRD x) (((s.spin sp).getG (lRS1 x)) ^^^ ((s.spin sp).getG (lRS2 x)))).endWord sp (s.headPc sp + 1)) ∧ Only (s.wordFrame sp) s t) ∧
  (∀ (sp x : Nat) (w : W256) (s : State),
      s.performs sp 0 w = true →
      sCount w = 1 →
      slotOf w 1 = x →
      lSOP x = 0x26 →
      Completes (.sWord sp w) s fun t =>
        (t = (s.updMates sp fun y => y.setG (lRD x) (((s.spin sp).getG (lRS1 x)) <<< (((s.spin sp).getG (lRS2 x)).toNat % 64))).endWord sp (s.headPc sp + 1)) ∧ Only (s.wordFrame sp) s t) ∧
  (∀ (sp x : Nat) (w : W256) (s : State),
      s.performs sp 0 w = true →
      sCount w = 1 →
      slotOf w 1 = x →
      lSOP x = 0x27 →
      Completes (.sWord sp w) s fun t =>
        (t = (s.updMates sp fun y => y.setG (lRD x) (((s.spin sp).getG (lRS1 x)) >>> (((s.spin sp).getG (lRS2 x)).toNat % 64))).endWord sp (s.headPc sp + 1)) ∧ Only (s.wordFrame sp) s t) ∧
  (∀ (sp x : Nat) (w : W256) (s : State),
      s.performs sp 0 w = true →
      sCount w = 1 →
      slotOf w 1 = x →
      lSOP x = 0x28 →
      Completes (.sWord sp w) s fun t =>
        (t = (s.updMates sp fun y => y.setG (lRD x) (BitVec.sshiftRight ((s.spin sp).getG (lRS1 x)) (((s.spin sp).getG (lRS2 x)).toNat % 64))).endWord sp (s.headPc sp + 1)) ∧ Only (s.wordFrame sp) s t) ∧
  (∀ (sp x : Nat) (w : W256) (s : State),
      s.performs sp 0 w = true →
      sCount w = 1 →
      slotOf w 1 = x →
      lSOP x = 0x15 →
      ((s.spin sp).getG (lRS2 x)) ≠ 0 →
      Completes (.sWord sp w) s fun t =>
        (t = (s.updMates sp fun y => y.setG (lRD x) (BitVec.udiv ((s.spin sp).getG (lRS1 x)) ((s.spin sp).getG (lRS2 x)))).endWord sp (s.headPc sp + 1)) ∧ Only (s.wordFrame sp) s t) ∧
  (∀ (sp x : Nat) (w : W256) (s : State),
      s.performs sp 0 w = true →
      sCount w = 1 →
      slotOf w 1 = x →
      lSOP x = 0x16 →
      ((s.spin sp).getG (lRS2 x)) ≠ 0 →
      Completes (.sWord sp w) s fun t =>
        (t = (s.updMates sp fun y => y.setG (lRD x) (BitVec.sdiv ((s.spin sp).getG (lRS1 x)) ((s.spin sp).getG (lRS2 x)))).endWord sp (s.headPc sp + 1)) ∧ Only (s.wordFrame sp) s t) ∧
  (∀ (sp x : Nat) (w : W256) (s : State),
      s.performs sp 0 w = true →
      sCount w = 1 →
      slotOf w 1 = x →
      lSOP x = 0x17 →
      ((s.spin sp).getG (lRS2 x)) ≠ 0 →
      Completes (.sWord sp w) s fun t =>
        (t = (s.updMates sp fun y => y.setG (lRD x) (BitVec.umod ((s.spin sp).getG (lRS1 x)) ((s.spin sp).getG (lRS2 x)))).endWord sp (s.headPc sp + 1)) ∧ Only (s.wordFrame sp) s t) ∧
  (∀ (sp x : Nat) (w : W256) (s : State),
      s.performs sp 0 w = true →
      sCount w = 1 →
      slotOf w 1 = x →
      lSOP x = 0x18 →
      ((s.spin sp).getG (lRS2 x)) ≠ 0 →
      Completes (.sWord sp w) s fun t =>
        (t = (s.updMates sp fun y => y.setG (lRD x) (BitVec.srem ((s.spin sp).getG (lRS1 x)) ((s.spin sp).getG (lRS2 x)))).endWord sp (s.headPc sp + 1)) ∧ Only (s.wordFrame sp) s t) ∧
  (∀ (sp x : Nat) (w : W256) (s : State),
      s.performs sp 0 w = true →
      sCount w = 1 →
      slotOf w 1 = x →
      lSOP x = 0x15 →
      ((s.spin sp).getG (lRS2 x)) = 0 →
      Completes (.sWord sp w) s fun t =>
        t = s.takeException sp (s.headPc sp) 0xD 0 0) ∧
  (∀ (sp x : Nat) (w : W256) (s : State),
      s.performs sp 0 w = true →
      sCount w = 1 →
      slotOf w 1 = x →
      lSOP x = 0x12 →
      Completes (.sWord sp w) s fun t =>
        (t = (s.updMates sp fun y => y.setG (lRD x) (((s.spin sp).getG (lRS1 x)) + (lIMM14 x))).endWord sp (s.headPc sp + 1)) ∧ Only (s.wordFrame sp) s t) ∧
  (∀ (sp x : Nat) (w : W256) (s : State),
      s.performs sp 0 w = true →
      sCount w = 1 →
      slotOf w 1 = x →
      lSOP x = 0x23 →
      Completes (.sWord sp w) s fun t =>
        (t = (s.updMates sp fun y => y.setG (lRD x) (((s.spin sp).getG (lRS1 x)) &&& (lIMM14 x))).endWord sp (s.headPc sp + 1)) ∧ Only (s.wordFrame sp) s t) ∧
  (∀ (sp x : Nat) (w : W256) (s : State),
      s.performs sp 0 w = true →
      sCount w = 1 →
      slotOf w 1 = x →
      lSOP x = 0x24 →
      Completes (.sWord sp w) s fun t =>
        (t = (s.updMates sp fun y => y.setG (lRD x) (((s.spin sp).getG (lRS1 x)) ||| (lIMM14 x))).endWord sp (s.headPc sp + 1)) ∧ Only (s.wordFrame sp) s t) ∧
  (∀ (sp x : Nat) (w : W256) (s : State),
      s.performs sp 0 w = true →
      sCount w = 1 →
      slotOf w 1 = x →
      lSOP x = 0x25 →
      Completes (.sWord sp w) s fun t =>
        (t = (s.updMates sp fun y => y.setG (lRD x) (((s.spin sp).getG (lRS1 x)) ^^^ (lIMM14 x))).endWord sp (s.headPc sp + 1)) ∧ Only (s.wordFrame sp) s t) ∧
  (∀ (sp x : Nat) (w : W256) (s : State),
      s.performs sp 0 w = true →
      sCount w = 1 →
      slotOf w 1 = x →
      lSOP x = 0x29 →
      Completes (.sWord sp w) s fun t =>
        (t = (s.updMates sp fun y => y.setG (lRD x) (((s.spin sp).getG (lRS1 x)) <<< ((lIMM14 x).toNat % 64))).endWord sp (s.headPc sp + 1)) ∧ Only (s.wordFrame sp) s t) ∧
  (∀ (sp x : Nat) (w : W256) (s : State),
      s.performs sp 0 w = true →
      sCount w = 1 →
      slotOf w 1 = x →
      lSOP x = 0x2A →
      Completes (.sWord sp w) s fun t =>
        (t = (s.updMates sp fun y => y.setG (lRD x) (((s.spin sp).getG (lRS1 x)) >>> ((lIMM14 x).toNat % 64))).endWord sp (s.headPc sp + 1)) ∧ Only (s.wordFrame sp) s t) ∧
  (∀ (sp x : Nat) (w : W256) (s : State),
      s.performs sp 0 w = true →
      sCount w = 1 →
      slotOf w 1 = x →
      lSOP x = 0x2B →
      Completes (.sWord sp w) s fun t =>
        (t = (s.updMates sp fun y => y.setG (lRD x) (BitVec.sshiftRight ((s.spin sp).getG (lRS1 x)) ((lIMM14 x).toNat % 64))).endWord sp (s.headPc sp + 1)) ∧ Only (s.wordFrame sp) s t) ∧
  (∀ (sp x : Nat) (w : W256) (s : State),
      s.performs sp 0 w = true →
      sCount w = 1 →
      slotOf w 1 = x →
      lSOP x = 0x2C →
      Completes (.sWord sp w) s fun t =>
        (t = (s.updMates sp fun y => y.setG (lRD x) (BitVec.ofNat 64 (popCount ((s.spin sp).getG (lRS1 x))))).endWord sp (s.headPc sp + 1)) ∧ Only (s.wordFrame sp) s t) ∧
  (∀ (sp x : Nat) (w : W256) (s : State),
      s.performs sp 0 w = true →
      sCount w = 1 →
      slotOf w 1 = x →
      lSOP x = 0x2D →
      Completes (.sWord sp w) s fun t =>
        (t = (s.updMates sp fun y => y.setG (lRD x) (BitVec.ofNat 64 (leadZeros ((s.spin sp).getG (lRS1 x))))).endWord sp (s.headPc sp + 1)) ∧ Only (s.wordFrame sp) s t) ∧
  (∀ (sp x : Nat) (w : W256) (s : State),
      s.performs sp 0 w = true →
      sCount w = 1 →
      slotOf w 1 = x →
      lSOP x = 0x2E →
      Completes (.sWord sp w) s fun t =>
        (t = (s.updMates sp fun y => y.setG (lRD x) (BitVec.ofNat 64 (trailZeros ((s.spin sp).getG (lRS1 x))))).endWord sp (s.headPc sp + 1)) ∧ Only (s.wordFrame sp) s t) ∧
  (∀ (sp x : Nat) (w : W256) (s : State),
      s.performs sp 0 w = true →
      sCount w = 1 →
      slotOf w 1 = x →
      lSOP x = 0x1B →
      Completes (.sWord sp w) s fun t =>
        (t = (s.updMates sp fun y => y.setG (lRD x) (setBits 0 (16 * lCHUNK x + 15) (16 * lCHUNK x) (lIMM16 x))).endWord sp (s.headPc sp + 1)) ∧ Only (s.wordFrame sp) s t) ∧
  (∀ (sp x : Nat) (w : W256) (s : State),
      s.performs sp 0 w = true →
      sCount w = 1 →
      slotOf w 1 = x →
      lSOP x = 0x1C →
      Completes (.sWord sp w) s fun t =>
        (t = (s.updMates sp fun y => y.setG (lRD x) (setBits ((s.spin sp).getG (lRD x)) (16 * lCHUNK x + 15) (16 * lCHUNK x) (lIMM16 x))).endWord sp (s.headPc sp + 1)) ∧ Only (s.wordFrame sp) s t) ∧
  (∀ (sp x : Nat) (w : W256) (s : State),
      s.performs sp 0 w = true →
      sCount w = 1 →
      slotOf w 1 = x →
      lSOP x = 0x30 →
      Completes (.sWord sp w) s fun t =>
        (t = (s.updMates sp fun y => y.setP (lPD x) (((s.spin sp).getG (lRS1 x)) == ((s.spin sp).getG (lRS2 x)))).endWord sp (s.headPc sp + 1)) ∧ Only (s.wordFrame sp) s t) ∧
  (∀ (sp x : Nat) (w : W256) (s : State),
      s.performs sp 0 w = true →
      sCount w = 1 →
      slotOf w 1 = x →
      lSOP x = 0x31 →
      Completes (.sWord sp w) s fun t =>
        (t = (s.updMates sp fun y => y.setP (lPD x) (((s.spin sp).getG (lRS1 x)) != ((s.spin sp).getG (lRS2 x)))).endWord sp (s.headPc sp + 1)) ∧ Only (s.wordFrame sp) s t) ∧
  (∀ (sp x : Nat) (w : W256) (s : State),
      s.performs sp 0 w = true →
      sCount w = 1 →
      slotOf w 1 = x →
      lSOP x = 0x32 →
      Completes (.sWord sp w) s fun t =>
        (t = (s.updMates sp fun y => y.setP (lPD x) (BitVec.slt ((s.spin sp).getG (lRS1 x)) ((s.spin sp).getG (lRS2 x)))).endWord sp (s.headPc sp + 1)) ∧ Only (s.wordFrame sp) s t) ∧
  (∀ (sp x : Nat) (w : W256) (s : State),
      s.performs sp 0 w = true →
      sCount w = 1 →
      slotOf w 1 = x →
      lSOP x = 0x33 →
      Completes (.sWord sp w) s fun t =>
        (t = (s.updMates sp fun y => y.setP (lPD x) (BitVec.ult ((s.spin sp).getG (lRS1 x)) ((s.spin sp).getG (lRS2 x)))).endWord sp (s.headPc sp + 1)) ∧ Only (s.wordFrame sp) s t) ∧
  (∀ (sp x : Nat) (w : W256) (s : State),
      s.performs sp 0 w = true →
      sCount w = 1 →
      slotOf w 1 = x →
      lSOP x = 0x34 →
      Completes (.sWord sp w) s fun t =>
        (t = (s.updMates sp fun y => y.setP (lPD x) (((s.spin sp).getG (lRS1 x)) == (lIMM14 x))).endWord sp (s.headPc sp + 1)) ∧ Only (s.wordFrame sp) s t) ∧
  (∀ (sp x : Nat) (w : W256) (s : State),
      s.performs sp 0 w = true →
      sCount w = 1 →
      slotOf w 1 = x →
      lSOP x = 0x35 →
      Completes (.sWord sp w) s fun t =>
        (t = (s.updMates sp fun y => y.setP (lPD x) (BitVec.slt ((s.spin sp).getG (lRS1 x)) (lIMM14 x))).endWord sp (s.headPc sp + 1)) ∧ Only (s.wordFrame sp) s t) ∧
  (∀ (sp x : Nat) (w : W256) (s : State),
      s.performs sp 0 w = true →
      sCount w = 1 →
      slotOf w 1 = x →
      lSOP x = 0x36 →
      Completes (.sWord sp w) s fun t =>
        (t = (s.updMates sp fun y => y.setP (lPD x) (((s.spin sp).getP (lPS1 x)) && ((s.spin sp).getP (lPS2 x)))).endWord sp (s.headPc sp + 1)) ∧ Only (s.wordFrame sp) s t) ∧
  (∀ (sp x : Nat) (w : W256) (s : State),
      s.performs sp 0 w = true →
      sCount w = 1 →
      slotOf w 1 = x →
      lSOP x = 0x37 →
      Completes (.sWord sp w) s fun t =>
        (t = (s.updMates sp fun y => y.setP (lPD x) (((s.spin sp).getP (lPS1 x)) || ((s.spin sp).getP (lPS2 x)))).endWord sp (s.headPc sp + 1)) ∧ Only (s.wordFrame sp) s t) ∧
  (∀ (sp x : Nat) (w : W256) (s : State),
      s.performs sp 0 w = true →
      sCount w = 1 →
      slotOf w 1 = x →
      lSOP x = 0x38 →
      Completes (.sWord sp w) s fun t =>
        (t = (s.updMates sp fun y => y.setP (lPD x) (((s.spin sp).getP (lPS1 x)) != ((s.spin sp).getP (lPS2 x)))).endWord sp (s.headPc sp + 1)) ∧ Only (s.wordFrame sp) s t) ∧
  (∀ (sp x : Nat) (w : W256) (s : State),
      s.performs sp 0 w = true →
      sCount w = 1 →
      slotOf w 1 = x →
      lSOP x = 0x39 →
      Completes (.sWord sp w) s fun t =>
        (t = (s.updMates sp fun y => y.setP (lPD x) (((s.spin sp).getP (lPS1 x)) && !((s.spin sp).getP (lPS2 x)))).endWord sp (s.headPc sp + 1)) ∧ Only (s.wordFrame sp) s t) ∧
  (∀ (sp x : Nat) (w : W256) (s : State),
      s.performs sp 0 w = true →
      sCount w = 1 →
      slotOf w 1 = x →
      lSOP x = 0x3A →
      Completes (.sWord sp w) s fun t =>
        (t = (s.updMates sp fun y => y.setP (lPD x) (!((s.spin sp).getP (lPS1 x)))).endWord sp (s.headPc sp + 1)) ∧ Only (s.wordFrame sp) s t) ∧
  (∀ (sp x : Nat) (w : W256) (s : State),
      s.performs sp 0 w = true →
      sCount w = 1 →
      slotOf w 1 = x →
      lSOP x = 0x3B →
      Completes (.sWord sp w) s fun t =>
        (t = (s.updMates sp fun y => y.setP (lPD x) (((s.spin sp).getG (lRS1 x)) != 0)).endWord sp (s.headPc sp + 1)) ∧ Only (s.wordFrame sp) s t) ∧
  (∀ (sp x : Nat) (w : W256) (s : State),
      s.performs sp 0 w = true →
      sCount w = 1 →
      slotOf w 1 = x →
      lSOP x = 0x3D →
      Completes (.sWord sp w) s fun t =>
        (t = (s.updMates sp fun y => y.setG (lRD x) (if (s.spin sp).getP (lPS x) then ((s.spin sp).getG (lRS1 x)) else ((s.spin sp).getG (lRS2 x)))).endWord sp (s.headPc sp + 1)) ∧ Only (s.wordFrame sp) s t) ∧
  (∀ (sp x : Nat) (w : W256) (s : State),
      s.performs sp 0 w = true →
      sCount w = 1 →
      slotOf w 1 = x →
      lSOP x = 0x3C →
      Completes (.sWord sp w) s fun t =>
        (t = (s.updMates sp fun y => y.setG (lRD x) (BitVec.ofNat 64 ((List.range 16).foldl (fun a k => a + ((s.spin sp).getP k).toNat * 2 ^ k) 0))).endWord sp (s.headPc sp + 1)) ∧ Only (s.wordFrame sp) s t) ∧
  (∀ (sp x : Nat) (w : W256) (s : State),
      s.performs sp 0 w = true →
      sCount w = 1 →
      slotOf w 1 = x →
      lSOP x = 0x4C →
      Completes (.sWord sp w) s fun t =>
        (t = (s.updMates sp fun y => y.setG (lRD x) (BitVec.ofNat 64 s.now)).endWord sp (s.headPc sp + 1)) ∧ Only (s.wordFrame sp) s t) ∧
  (∀ (sp x : Nat) (w : W256) (s : State),
      s.performs sp 0 w = true →
      sCount w = 1 →
      slotOf w 1 = x →
      lSOP x = 0x4D →
      Completes (.sWord sp w) s fun t =>
        (t = (s.updMates sp fun y => y.setG (lRD x) (s.rdid sp)).endWord sp (s.headPc sp + 1)) ∧ Only (s.wordFrame sp) s t) ∧
  (∀ (sp x : Nat) (w : W256) (s : State),
      s.performs sp 0 w = true →
      sCount w = 1 →
      slotOf w 1 = x →
      lSOP x = 0x48 →
      Completes (.sWord sp w) s fun t =>
        (t = (s.updMates sp fun y => y.setG (lRD x) (BitVec.ofNat 64 (aBASE ((s.spin sp).getA (lAS x))))).endWord sp (s.headPc sp + 1)) ∧ Only (s.wordFrame sp) s t) ∧
  (∀ (sp x : Nat) (w : W256) (s : State),
      s.performs sp 0 w = true →
      sCount w = 1 →
      slotOf w 1 = x →
      lSOP x = 0x49 →
      Completes (.sWord sp w) s fun t =>
        (t = (s.updMates sp fun y => y.setG (lRD x) (BitVec.ofNat 64 (aLENGTH ((s.spin sp).getA (lAS x))))).endWord sp (s.headPc sp + 1)) ∧ Only (s.wordFrame sp) s t) ∧
  (∀ (sp x : Nat) (w : W256) (s : State),
      s.performs sp 0 w = true →
      sCount w = 1 →
      slotOf w 1 = x →
      lSOP x = 0x4B →
      Completes (.sWord sp w) s fun t =>
        (t = (s.updMates sp fun y => y.setG (lRD x) (BitVec.ofNat 64 ((s.spin sp).getF (lFS x)).toNat)).endWord sp (s.headPc sp + 1)) ∧ Only (s.wordFrame sp) s t) ∧
  (∀ (sp x : Nat) (w : W256) (s : State),
      s.performs sp 0 w = true →
      sCount w = 1 →
      slotOf w 1 = x →
      lSOP x = 0x4A →
      Completes (.sWord sp w) s fun t =>
        (t = (s.updMates sp fun y => y.setF (lFS x) (BitVec.ofNat 32 ((s.spin sp).getG (lRS1 x)).toNat)).endWord sp (s.headPc sp + 1)) ∧ Only (s.wordFrame sp) s t) ∧
  (∀ (sp x : Nat) (w : W256) (s : State),
      s.performs sp 0 w = true →
      sCount w = 1 →
      slotOf w 1 = x →
      lSOP x = 0x45 →
      Completes (.sWord sp w) s fun t =>
        (t = (s.updMates sp fun y => y.setA (lPD x) (BitVec.ofNat 128 (((s.spin sp).getG (lRS1 x)).toNat * 2 ^ 64 + ((s.spin sp).getA (lPD x)).toNat % 2 ^ 64))).endWord sp (s.headPc sp + 1)) ∧ Only (s.wordFrame sp) s t) ∧
  (∀ (sp x : Nat) (w : W256) (s : State),
      s.performs sp 0 w = true →
      sCount w = 1 →
      slotOf w 1 = x →
      lSOP x = 0x46 →
      Completes (.sWord sp w) s fun t =>
        (t = (s.updMates sp fun y => y.setA (lPD x) (BitVec.ofNat 128 (aBASE ((s.spin sp).getA (lPD x)) * 2 ^ 64 + ((s.spin sp).getG (lRS1 x)).toNat % 2 ^ 32 * 2 ^ 32 + ((s.spin sp).getA (lPD x)).toNat % 2 ^ 32))).endWord sp (s.headPc sp + 1)) ∧ Only (s.wordFrame sp) s t) ∧
  (∀ (sp x : Nat) (w : W256) (s : State),
      s.performs sp 0 w = true →
      sCount w = 1 →
      slotOf w 1 = x →
      lSOP x = 0x47 →
      Completes (.sWord sp w) s fun t =>
        (t = (s.updMates sp fun y => y.setA (lPD x) (BitVec.ofNat 128 (aBASE ((s.spin sp).getA (lPD x)) * 2 ^ 64 + aLENGTH ((s.spin sp).getA (lPD x)) * 2 ^ 32 + x % 64))).endWord sp (s.headPc sp + 1)) ∧ Only (s.wordFrame sp) s t) ∧
  (∀ (sp x o p q : Nat) (a : W128) (w : W256) (bs : List Byte) (s : State),
      s.performs sp 0 w = true →
      sCount w = 1 →
      slotOf w 1 = x →
      lSOP x = 0x40 →
      ((((s.spin sp).getG (lRS1 x)).toNat + lIMM8 x * 2 ^ lSIZE x) % 2 ^ 64) = o →
      (s.spin sp).getA (lAS x) = a →
      s.slotCause sp (lAS x) o (2 ^ lSIZE x) = none →
      s.descAddr sp a o = p →
      s.windowAt p = none →
      (s.moveRead (s.asSpindle sp) p (2 ^ lSIZE x)).1 = .ok →
      (s.moveRead (s.asSpindle sp) p (2 ^ lSIZE x)).2.1 = bs →
      s.flaws = [] →
      lowestCause (rightsCause (s.spin sp) (lAS x) 1) = none →
      s.locate (p % 2 ^ 52) = .hbm q →
      pieces (p % 2 ^ 52) (2 ^ lSIZE x) = [(p % 2 ^ 52, 2 ^ lSIZE x)] →
      p / 2 ^ 52 = s.pkg →
      Completes (.sWord sp w) s fun t =>
        (∀ k ∈ s.mates sp, (t.spin k.2).getG (lRD x) = BitVec.ofNat 64 (leValue bs)) ∧ Only ({ regs := regsOf [.SPN_PC, .SPN_RETIRED, .SPN_STAT, .SPN_CTL, .QD_ENG_SLOTS, .QD_ENG_DEGRADED], lats := latsOf [.stepDone, .cleared, .slotThird], spins := fun k => (s.mates sp).any (fun m => m.2 == k) }) s t) ∧
  (∀ (sp x o p q : Nat) (a : W128) (w : W256) (bs : List Byte) (s : State),
      s.performs sp 0 w = true →
      sCount w = 1 →
      slotOf w 1 = x →
      lSOP x = 0x41 →
      ((((s.spin sp).getG (lRS1 x)).toNat + lIMM8 x * 2 ^ lSIZE x) % 2 ^ 64) = o →
      (s.spin sp).getA (lAS x) = a →
      s.slotCause sp (lAS x) o (2 ^ lSIZE x) = none →
      s.descAddr sp a o = p →
      s.windowAt p = none →
      (s.moveRead (s.asSpindle sp) p (2 ^ lSIZE x)).1 = .ok →
      (s.moveRead (s.asSpindle sp) p (2 ^ lSIZE x)).2.1 = bs →
      s.flaws = [] →
      lowestCause (rightsCause (s.spin sp) (lAS x) 1) = none →
      s.locate (p % 2 ^ 52) = .hbm q →
      pieces (p % 2 ^ 52) (2 ^ lSIZE x) = [(p % 2 ^ 52, 2 ^ lSIZE x)] →
      p / 2 ^ 52 = s.pkg →
      Completes (.sWord sp w) s fun t =>
        (∀ k ∈ s.mates sp, (t.spin k.2).getG (lRD x) = BitVec.ofInt 64 (signedOf (8 * 2 ^ lSIZE x) (leValue bs))) ∧ Only ({ regs := regsOf [.SPN_PC, .SPN_RETIRED, .SPN_STAT, .SPN_CTL, .QD_ENG_SLOTS, .QD_ENG_DEGRADED], lats := latsOf [.stepDone, .cleared, .slotThird], spins := fun k => (s.mates sp).any (fun m => m.2 == k) }) s t) ∧
  (∀ (sp x o p q : Nat) (a : W128) (w : W256) (s : State),
      s.performs sp 0 w = true →
      sCount w = 1 →
      slotOf w 1 = x →
      lSOP x = 0x42 →
      ((((s.spin sp).getG (lRS1 x)).toNat + lIMM8 x * 2 ^ lSIZE x) % 2 ^ 64) = o →
      (s.spin sp).getA (lAS x) = a →
      s.slotCause sp (lAS x) o (2 ^ lSIZE x) = none →
      s.descAddr sp a o = p →
      s.windowAt p = none →
      aKIND a = 3 →
      lowestCause (rightsCause (s.spin sp) (lAS x) 2) = none →
      s.locate (p % 2 ^ 52) = .hbm q →
      pieces (p % 2 ^ 52) (2 ^ lSIZE x) = [(p % 2 ^ 52, 2 ^ lSIZE x)] →
      p / 2 ^ 52 = s.pkg →
      s.site (p % 2 ^ 52) = .free →
      s.quiescing (sliceDie (p % 2 ^ 52)) = false →
      s.quarryUp (sliceDie (p % 2 ^ 52)) = true →
      s.moveWaits (s.asSpindle sp) p (2 ^ lSIZE x) = false →
      Completes (.sWord sp w) s fun t =>
        t.bytes (p % 2 ^ 52) (2 ^ lSIZE x) = leBytes (2 ^ lSIZE x) ((s.spin sp).getG (lRD x)).toNat ∧ Only ({ regs := regsOf [.SPN_PC, .SPN_RETIRED, .SPN_STAT, .SPN_CTL, .QD_ENG_SLOTS, .QD_ENG_DEGRADED], lats := latsOf [.stepDone, .cleared, .slotThird], spins := fun k => (s.mates sp).any (fun m => m.2 == k), mem := span (p % 2 ^ 52) (2 ^ lSIZE x), losses := true }) s t)

/-- An LDT, STT, DMA or DMAF that its spindle performs, with no failing check and every access served, gives this next
state: the rows read into the tiles of the members, or their writes in order, then the word's doorbell if it has
one, and it retires. For one member and one row in the same format, LDT leaves in the tile the bytes read, and STT
in memory the bytes of the tile. A DMA by one member leaves at its destination the bytes read at its source, and
DMAF its pattern. (R102, R109, R110, R111, R115, R126, R165, R167, R169.) -/
def Obligations.MemoryWordsComplete : Prop :=
  (∀ (sp : Nat) (w : W256) (s : State),
      s.performs sp 0x200 w = true →
      (s.ldtDone sp w).isSome = true →
      Completes (.ldt sp w) s fun t =>
        s.ldtDone sp w = some t) ∧
  (∀ (sp : Nat) (w : W256) (s : State),
      s.performs sp 0x201 w = true →
      (s.sttDone sp w).isSome = true →
      Completes (.stt sp w) s fun t =>
        s.sttDone sp w = some t) ∧
  (∀ (sp : Nat) (w : W256) (s : State),
      s.performs sp 0x210 w = true →
      (s.mdDone sp w false).isSome = true →
      Completes (.dma sp w) s fun t =>
        s.mdDone sp w false = some t) ∧
  (∀ (sp : Nat) (w : W256) (s : State),
      s.performs sp 0x211 w = true →
      (s.mdDone sp w true).isSome = true →
      Completes (.dmaf sp w) s fun t =>
        s.mdDone sp w true = some t) ∧
  (∀ (sp p q : Nat) (w : W256) (bs : List Byte) (s : State),
      s.performs sp 0x200 w = true →
      (firstFail (s.mtFails sp w false)).isNone = true →
      mDBE w = false →
      s.groups sp (wScope w) = [⟨1, [(0, sp)]⟩] →
      (shapeAt w 128).rows = 1 →
      (shapeAt w 128).elems ≠ 0 →
      sameFmt (s.spin sp) w = true →
      halfRow ((s.spin sp).fmtD (mFM w)) (shapeAt w 128).elems = false →
      s.descAddr sp ((s.spin sp).getA (mAD w)) (mOff (s.spin sp) w) = p →
      s.locate (p % 2 ^ 52) = .hbm q →
      p / 2 ^ 52 = s.pkg →
      pieces (p % 2 ^ 52) (mtRow (s.spin sp) w) = [(p % 2 ^ 52, mtRow (s.spin sp) w)] →
      (s.moveRead (s.asSpindle sp) p (mtRow (s.spin sp) w)).1 = .ok →
      (s.moveRead (s.asSpindle sp) p (mtRow (s.spin sp) w)).2.1 = bs →
      s.flaws = [] →
      Completes (.ldt sp w) s fun t =>
        (t.spin sp).tileBytes (mT w) (shapeAt w 128).off (mtRow (s.spin sp) w) = bs ∧ Only ({ regs := regsOf [.SPN_PC, .SPN_RETIRED, .SPN_STAT, .SPN_CTL, .QD_ENG_SLOTS, .QD_ENG_DEGRADED], lats := latsOf [.stepDone, .cleared, .slotThird], spins := fun k => k == sp, free := true }) s t) ∧
  (∀ (sp p q : Nat) (w : W256) (s : State),
      s.performs sp 0x201 w = true →
      (firstFail (s.mtFails sp w true)).isNone = true →
      mDBE w = false →
      s.groups sp (wScope w) = [⟨1, [(0, sp)]⟩] →
      (shapeAt w 128).rows = 1 →
      (shapeAt w 128).elems ≠ 0 →
      sameFmt (s.spin sp) w = true →
      halfRow ((s.spin sp).fmtD (mFM w)) (shapeAt w 128).elems = false →
      s.descAddr sp ((s.spin sp).getA (mAD w)) (mOff (s.spin sp) w) = p →
      s.locate (p % 2 ^ 52) = .hbm q →
      p / 2 ^ 52 = s.pkg →
      pieces (p % 2 ^ 52) (mtRow (s.spin sp) w) = [(p % 2 ^ 52, mtRow (s.spin sp) w)] →
      s.moveWaits (s.asSpindle sp) p (mtRow (s.spin sp) w) = false →
      s.site (p % 2 ^ 52) = .free →
      s.quiescing (sliceDie (p % 2 ^ 52)) = false →
      s.quarryUp (sliceDie (p % 2 ^ 52)) = true →
      Completes (.stt sp w) s fun t =>
        t.bytes (p % 2 ^ 52) (mtRow (s.spin sp) w) = (s.spin sp).tileBytes (mT w) (shapeAt w 128).off (mtRow (s.spin sp) w) ∧ Only ({ regs := regsOf [.SPN_PC, .SPN_RETIRED, .SPN_STAT, .SPN_CTL, .QD_ENG_SLOTS, .QD_ENG_DEGRADED], lats := latsOf [.stepDone, .cleared, .slotThird], spins := fun k => k == sp, free := true, mem := span (p % 2 ^ 52) (mtRow (s.spin sp) w), losses := true }) s t) ∧
  (∀ (sp p q o r : Nat) (w : W256) (bs : List Byte) (s : State),
      s.performs sp 0x210 w = true →
      (firstFail (s.mdFails sp w false)).isNone = true →
      mDBE w = false →
      s.groups sp (wScope w) = [⟨1, [(0, sp)]⟩] →
      mLEN (s.spin sp) w ≠ 0 →
      s.descAddr sp ((s.spin sp).getA (mAD w)) (mOff (s.spin sp) w) = p →
      s.descAddr sp ((s.spin sp).getA (mAS w)) (bitsOf w 191 128) = o →
      s.locate (p % 2 ^ 52) = .hbm q →
      p / 2 ^ 52 = s.pkg →
      pieces (p % 2 ^ 52) (mLEN (s.spin sp) w) = [(p % 2 ^ 52, mLEN (s.spin sp) w)] →
      s.moveWaits (s.asSpindle sp) p (mLEN (s.spin sp) w) = false →
      s.site (p % 2 ^ 52) = .free →
      s.quiescing (sliceDie (p % 2 ^ 52)) = false →
      s.quarryUp (sliceDie (p % 2 ^ 52)) = true →
      s.locate (o % 2 ^ 52) = .hbm r →
      o / 2 ^ 52 = s.pkg →
      pieces (o % 2 ^ 52) (mLEN (s.spin sp) w) = [(o % 2 ^ 52, mLEN (s.spin sp) w)] →
      (s.moveRead (s.asSpindle sp) o (mLEN (s.spin sp) w)).1 = .ok →
      (s.moveRead (s.asSpindle sp) o (mLEN (s.spin sp) w)).2.1 = bs →
      s.flaws = [] →
      Completes (.dma sp w) s fun t =>
        t.bytes (p % 2 ^ 52) (mLEN (s.spin sp) w) = bs ∧ Only ({ regs := regsOf [.SPN_PC, .SPN_RETIRED, .SPN_STAT, .SPN_CTL, .QD_ENG_SLOTS, .QD_ENG_DEGRADED], lats := latsOf [.stepDone, .cleared, .slotThird], spins := fun k => k == sp, free := true, mem := span (p % 2 ^ 52) (mLEN (s.spin sp) w), losses := true }) s t) ∧
  (∀ (sp p q : Nat) (w : W256) (s : State),
      s.performs sp 0x211 w = true →
      (firstFail (s.mdFails sp w true)).isNone = true →
      mDBE w = false →
      s.groups sp (wScope w) = [⟨1, [(0, sp)]⟩] →
      mLEN (s.spin sp) w ≠ 0 →
      s.descAddr sp ((s.spin sp).getA (mAD w)) (mOff (s.spin sp) w) = p →
      s.locate (p % 2 ^ 52) = .hbm q →
      p / 2 ^ 52 = s.pkg →
      pieces (p % 2 ^ 52) (mLEN (s.spin sp) w) = [(p % 2 ^ 52, mLEN (s.spin sp) w)] →
      s.moveWaits (s.asSpindle sp) p (mLEN (s.spin sp) w) = false →
      s.site (p % 2 ^ 52) = .free →
      s.quiescing (sliceDie (p % 2 ^ 52)) = false →
      s.quarryUp (sliceDie (p % 2 ^ 52)) = true →
      Completes (.dmaf sp w) s fun t =>
        t.bytes (p % 2 ^ 52) (mLEN (s.spin sp) w) = fillBytes w (mLEN (s.spin sp) w) ∧ Only ({ regs := regsOf [.SPN_PC, .SPN_RETIRED, .SPN_STAT, .SPN_CTL, .QD_ENG_SLOTS, .QD_ENG_DEGRADED], lats := latsOf [.stepDone, .cleared, .slotThird], spins := fun k => k == sp, free := true, mem := span (p % 2 ^ 52) (mLEN (s.spin sp) w), losses := true }) s t)

/-- A table word that its spindle performs, whose check pass finds nothing, whose lists and sources are read and whose
writes or steps are all done, gives this next state: GATHER and POOL leave their outputs, the words that change rows
leave the rows changed step by step, and the word is under way at the head of its spindle. Of COUNT 0 and no failing
check it only sets its doorbell and retires. It completes with its doorbell and retires; from a stall it goes on
with the steps left; with DATA_LOST its spindle takes a machine check. (R112, R113, R116, R168, R199, R200, R209,
R210, R211, R212, R213, R215.) -/
def Obligations.TableWordsComplete : Prop :=
  (∀ (sp : Nat) (w : W256) (s : State),
      s.performs sp 0x220 w = true →
      (s.tblOutputs .gather sp w).isSome = true →
      Completes (.gather sp w) s fun t =>
        s.tblOutputs .gather sp w = some t) ∧
  (∀ (sp : Nat) (w : W256) (s : State),
      s.performs sp 0x220 w = true →
      mCOUNT (s.spin sp) w = 0 →
      (s.findRegion (aBASE ((s.spin sp).getA (mAD w)))).any (fun f => s.engine f == .ok && (firstFail (failsOf 0 (s.tblPre (s.tblWord .gather sp w) ++ s.rgnCauses (s.tblWord .gather sp w) (some f) ++ s.listRights (s.tblWord .gather sp w)) ++ s.bellFails sp w)).isNone && !s.unloading f) = true →
      s.bellWaits sp w = false →
      (s.ended sp (s.headPc sp) w).isSome = true →
      Completes (.gather sp w) s fun t =>
        s.ended sp (s.headPc sp) w = some t) ∧
  (∀ (sp : Nat) (w : W256) (s : State),
      s.performs sp 0x221 w = true →
      (s.tblOutputs .sum sp w).isSome = true →
      Completes (.poolSum sp w) s fun t =>
        s.tblOutputs .sum sp w = some t) ∧
  (∀ (sp : Nat) (w : W256) (s : State),
      s.performs sp 0x221 w = true →
      mCOUNT (s.spin sp) w = 0 →
      (s.findRegion (aBASE ((s.spin sp).getA (mAD w)))).any (fun f => s.engine f == .ok && (firstFail (failsOf 0 (s.tblPre (s.tblWord .sum sp w) ++ s.rgnCauses (s.tblWord .sum sp w) (some f) ++ s.listRights (s.tblWord .sum sp w)) ++ s.bellFails sp w)).isNone && !s.unloading f) = true →
      s.bellWaits sp w = false →
      (s.ended sp (s.headPc sp) w).isSome = true →
      Completes (.poolSum sp w) s fun t =>
        s.ended sp (s.headPc sp) w = some t) ∧
  (∀ (sp : Nat) (w : W256) (s : State),
      s.performs sp 0x222 w = true →
      (s.tblOutputs .mean sp w).isSome = true →
      Completes (.poolMean sp w) s fun t =>
        s.tblOutputs .mean sp w = some t) ∧
  (∀ (sp : Nat) (w : W256) (s : State),
      s.performs sp 0x222 w = true →
      mCOUNT (s.spin sp) w = 0 →
      (s.findRegion (aBASE ((s.spin sp).getA (mAD w)))).any (fun f => s.engine f == .ok && (firstFail (failsOf 0 (s.tblPre (s.tblWord .mean sp w) ++ s.rgnCauses (s.tblWord .mean sp w) (some f) ++ s.listRights (s.tblWord .mean sp w)) ++ s.bellFails sp w)).isNone && !s.unloading f) = true →
      s.bellWaits sp w = false →
      (s.ended sp (s.headPc sp) w).isSome = true →
      Completes (.poolMean sp w) s fun t =>
        s.ended sp (s.headPc sp) w = some t) ∧
  (∀ (sp : Nat) (w : W256) (s : State),
      s.performs sp 0x223 w = true →
      (s.tblOutputs .max sp w).isSome = true →
      Completes (.poolMax sp w) s fun t =>
        s.tblOutputs .max sp w = some t) ∧
  (∀ (sp : Nat) (w : W256) (s : State),
      s.performs sp 0x223 w = true →
      mCOUNT (s.spin sp) w = 0 →
      (s.findRegion (aBASE ((s.spin sp).getA (mAD w)))).any (fun f => s.engine f == .ok && (firstFail (failsOf 0 (s.tblPre (s.tblWord .max sp w) ++ s.rgnCauses (s.tblWord .max sp w) (some f) ++ s.listRights (s.tblWord .max sp w)) ++ s.bellFails sp w)).isNone && !s.unloading f) = true →
      s.bellWaits sp w = false →
      (s.ended sp (s.headPc sp) w).isSome = true →
      Completes (.poolMax sp w) s fun t =>
        s.ended sp (s.headPc sp) w = some t) ∧
  (∀ (sp : Nat) (w : W256) (s : State),
      s.performs sp 0x224 w = true →
      (s.tblOutputs .wsum sp w).isSome = true →
      Completes (.poolWsum sp w) s fun t =>
        s.tblOutputs .wsum sp w = some t) ∧
  (∀ (sp : Nat) (w : W256) (s : State),
      s.performs sp 0x224 w = true →
      mCOUNT (s.spin sp) w = 0 →
      (s.findRegion (aBASE ((s.spin sp).getA (mAD w)))).any (fun f => s.engine f == .ok && (firstFail (failsOf 0 (s.tblPre (s.tblWord .wsum sp w) ++ s.rgnCauses (s.tblWord .wsum sp w) (some f) ++ s.listRights (s.tblWord .wsum sp w)) ++ s.bellFails sp w)).isNone && !s.unloading f) = true →
      s.bellWaits sp w = false →
      (s.ended sp (s.headPc sp) w).isSome = true →
      Completes (.poolWsum sp w) s fun t =>
        s.ended sp (s.headPc sp) w = some t) ∧
  (∀ (sp : Nat) (w : W256) (s : State),
      s.performs sp 0x225 w = true →
      (s.tblChanges .scatter sp w).isSome = true →
      Completes (.scatter sp w) s fun t =>
        s.tblChanges .scatter sp w = some t) ∧
  (∀ (sp : Nat) (w : W256) (s : State),
      s.performs sp 0x225 w = true →
      mCOUNT (s.spin sp) w = 0 →
      (s.findRegion (aBASE ((s.spin sp).getA (mAD w)))).any (fun f => s.engine f == .ok && (firstFail (failsOf 0 (s.tblPre (s.tblWord .scatter sp w) ++ s.rgnCauses (s.tblWord .scatter sp w) (some f) ++ s.listRights (s.tblWord .scatter sp w)) ++ s.bellFails sp w)).isNone && !s.unloading f) = true →
      s.bellWaits sp w = false →
      (s.ended sp (s.headPc sp) w).isSome = true →
      Completes (.scatter sp w) s fun t =>
        s.ended sp (s.headPc sp) w = some t) ∧
  (∀ (sp : Nat) (w : W256) (s : State),
      s.performs sp 0x226 w = true →
      (s.tblChanges .scatterAdd sp w).isSome = true →
      Completes (.scatterAdd sp w) s fun t =>
        s.tblChanges .scatterAdd sp w = some t) ∧
  (∀ (sp : Nat) (w : W256) (s : State),
      s.performs sp 0x226 w = true →
      mCOUNT (s.spin sp) w = 0 →
      (s.findRegion (aBASE ((s.spin sp).getA (mAD w)))).any (fun f => s.engine f == .ok && (firstFail (failsOf 0 (s.tblPre (s.tblWord .scatterAdd sp w) ++ s.rgnCauses (s.tblWord .scatterAdd sp w) (some f) ++ s.listRights (s.tblWord .scatterAdd sp w)) ++ s.bellFails sp w)).isNone && !s.unloading f) = true →
      s.bellWaits sp w = false →
      (s.ended sp (s.headPc sp) w).isSome = true →
      Completes (.scatterAdd sp w) s fun t =>
        s.ended sp (s.headPc sp) w = some t) ∧
  (∀ (sp : Nat) (w : W256) (s : State),
      s.performs sp 0x227 w = true →
      (s.tblChanges .sgd sp w).isSome = true →
      Completes (.updSgd sp w) s fun t =>
        s.tblChanges .sgd sp w = some t) ∧
  (∀ (sp : Nat) (w : W256) (s : State),
      s.performs sp 0x227 w = true →
      mCOUNT (s.spin sp) w = 0 →
      (s.findRegion (aBASE ((s.spin sp).getA (mAD w)))).any (fun f => s.engine f == .ok && (firstFail (failsOf 0 (s.tblPre (s.tblWord .sgd sp w) ++ s.rgnCauses (s.tblWord .sgd sp w) (some f) ++ s.listRights (s.tblWord .sgd sp w)) ++ s.bellFails sp w)).isNone && !s.unloading f) = true →
      s.bellWaits sp w = false →
      (s.ended sp (s.headPc sp) w).isSome = true →
      Completes (.updSgd sp w) s fun t =>
        s.ended sp (s.headPc sp) w = some t) ∧
  (∀ (sp : Nat) (w : W256) (s : State),
      s.performs sp 0x228 w = true →
      (s.tblChanges .adagrad sp w).isSome = true →
      Completes (.updAdagrad sp w) s fun t =>
        s.tblChanges .adagrad sp w = some t) ∧
  (∀ (sp : Nat) (w : W256) (s : State),
      s.performs sp 0x228 w = true →
      mCOUNT (s.spin sp) w = 0 →
      (s.findRegion (aBASE ((s.spin sp).getA (mAD w)))).any (fun f => s.engine f == .ok && (firstFail (failsOf 0 (s.tblPre (s.tblWord .adagrad sp w) ++ s.rgnCauses (s.tblWord .adagrad sp w) (some f) ++ s.listRights (s.tblWord .adagrad sp w)) ++ s.bellFails sp w)).isNone && !s.unloading f) = true →
      s.bellWaits sp w = false →
      (s.ended sp (s.headPc sp) w).isSome = true →
      Completes (.updAdagrad sp w) s fun t =>
        s.ended sp (s.headPc sp) w = some t) ∧
  (∀ (sp : Nat) (w : W256) (s : State),
      s.performs sp 0x229 w = true →
      (s.tblChanges .adam sp w).isSome = true →
      Completes (.updAdam sp w) s fun t =>
        s.tblChanges .adam sp w = some t) ∧
  (∀ (sp : Nat) (w : W256) (s : State),
      s.performs sp 0x229 w = true →
      mCOUNT (s.spin sp) w = 0 →
      (s.findRegion (aBASE ((s.spin sp).getA (mAD w)))).any (fun f => s.engine f == .ok && (firstFail (failsOf 0 (s.tblPre (s.tblWord .adam sp w) ++ s.rgnCauses (s.tblWord .adam sp w) (some f) ++ s.listRights (s.tblWord .adam sp w)) ++ s.bellFails sp w)).isNone && !s.unloading f) = true →
      s.bellWaits sp w = false →
      (s.ended sp (s.headPc sp) w).isSome = true →
      Completes (.updAdam sp w) s fun t =>
        s.ended sp (s.headPc sp) w = some t) ∧
  (∀ (sp : Nat) (e : Entry) (s : State),
      sp < 1536 →
      s.isLead sp = true →
      s.spState sp = 3 →
      s.lat .tblFly sp 0 ≠ 0 →
      (s.spin sp).spool.head? = some e →
      e.started = true →
      s.bellWaits sp e.word = false →
      s.lat .tblDone sp 0 = 0 →
      ((s.setLat .tblFly sp 0 0).ended sp e.pc e.word).isSome = true →
      Completes (.tableWordComplete sp .done) s fun t =>
        (s.setLat .tblFly sp 0 0).ended sp e.pc e.word = some t) ∧
  (∀ (sp : Nat) (e : Entry) (s : State),
      sp < 1536 →
      s.isLead sp = true →
      s.spState sp = 3 →
      s.lat .tblFly sp 0 ≠ 0 →
      (s.spin sp).spool.head? = some e →
      e.started = true →
      s.bellWaits sp e.word = false →
      s.lat .tblDone sp 0 ≠ 0 →
      (s.tblResumed sp e.pc e.word).isSome = true →
      Completes (.tableWordComplete sp .done) s fun t =>
        s.tblResumed sp e.pc e.word = some t) ∧
  (∀ (sp : Nat) (e : Entry) (s : State),
      sp < 1536 →
      s.isLead sp = true →
      s.spState sp = 3 →
      s.lat .tblFly sp 0 ≠ 0 →
      (s.spin sp).spool.head? = some e →
      e.started = true →
      s.bellWaits sp e.word = false →
      s.inRealPly sp = false →
      s.countsOnly 0x01 (s.spUnit sp) = true →
      Completes (.tableWordComplete sp .lost) s fun t =>
        t.spFld fSPN_STAT_STATE sp = 5 ∧ t.lat .tblFly sp 0 = 0)
end

