-- ==== Sys2Proof/Laws/SMap.lean ====
section
/-! SUPPORT. Laws of the sparse maps: a read after a write, and that every write keeps the canonical form. -/

namespace Sys2Proof.Machine

variable {α : Type} [DecidableEq α] {d : α}

omit [DecidableEq α] in
@[simp] theorem sget_sdel_self (m : SMap α) (a : Nat) : sget d (sdel a m) a = d := by
  induction m with
  | nil => rfl
  | cons x m ih => rw [sdel]; split <;> simp_all [sget]

omit [DecidableEq α] in
theorem sget_sdel_ne (m : SMap α) {a b : Nat} (h : b ≠ a) : sget d (sdel a m) b = sget d m b := by
  induction m with
  | nil => rfl
  | cons x m ih =>
    rw [sdel]; split
    · next e => rw [ih, sget, if_neg (by omega)]
    · simp only [sget, ih]

omit [DecidableEq α] in
/-- An inserted entry is read where the key was not listed. -/
theorem sget_sins_self (m : SMap α) (a : Nat) (v : α) (h : ∀ x ∈ m, x.1 ≠ a) : sget d (sins a v m) a = v := by
  induction m with
  | nil => simp [sins, sget]
  | cons x m ih =>
    rw [sins]; split
    · simp [sget]
    · rw [sget, if_neg (h x (by simp)), ih fun y hy => h y (by simp [hy])]

omit [DecidableEq α] in
theorem sget_sins_ne (m : SMap α) {a b : Nat} (v : α) (h : b ≠ a) : sget d (sins a v m) b = sget d m b := by
  induction m with
  | nil => simp [sins, sget, h.symm]
  | cons x m ih =>
    rw [sins]; split
    · rw [sget, if_neg h.symm]
    · simp only [sget, ih]

omit [DecidableEq α] in
theorem not_mem_sdel (m : SMap α) (a : Nat) : ∀ x ∈ sdel a m, x.1 ≠ a := by
  induction m with
  | nil => simp [sdel]
  | cons y m ih =>
    rw [sdel]; split
    · exact ih
    · next h => exact fun x hx => (List.mem_cons.1 hx).elim (fun e => e ▸ h) (ih x)

/-- A read after a write to the same key gives the value written. -/
@[simp] theorem sget_sset_self (m : SMap α) (a : Nat) (v : α) : sget d (sset d m a v) a = v := by
  rw [sset]; split
  · next h => rw [sget_sdel_self, h]
  · exact sget_sins_self _ _ _ (not_mem_sdel m a)

/-- A write leaves every other key alone, whatever an unlisted key reads as. -/
theorem sget_sset_ne (m : SMap α) {d' : α} {a b : Nat} (v : α) (h : b ≠ a) : sget d' (sset d m a v) b = sget d' m b := by
  rw [sset]; split
  · exact sget_sdel_ne m h
  · rw [sget_sins_ne _ _ h, sget_sdel_ne m h]

/-- A read after a write. -/
theorem sget_sset (m : SMap α) (a b : Nat) (v : α) : sget d (sset d m a v) b = if b = a then v else sget d m b := by
  split
  · next h => rw [h, sget_sset_self]
  · next h => exact sget_sset_ne m v h

theorem swfFrom_mono {m : SMap α} {b c : Nat} (h : c ≤ b) (w : swfFrom d b m = true) : swfFrom d c m = true := by
  cases m with
  | nil => rfl
  | cons x m => simp only [swfFrom, Bool.and_eq_true, decide_eq_true_eq] at *; exact ⟨⟨by omega, w.1.2⟩, w.2⟩

theorem swfFrom_sdel (a : Nat) {m : SMap α} {b : Nat} (w : swfFrom d b m = true) : swfFrom d b (sdel a m) = true := by
  induction m generalizing b with
  | nil => rfl
  | cons x m ih =>
    simp only [swfFrom, Bool.and_eq_true, decide_eq_true_eq] at w
    rw [sdel]; split
    · exact ih (swfFrom_mono (by omega) w.2)
    · simp only [swfFrom, Bool.and_eq_true, decide_eq_true_eq]; exact ⟨w.1, ih w.2⟩

theorem swfFrom_sins {a : Nat} {v : α} {m : SMap α} {b : Nat} (w : swfFrom d b m = true) (hv : v ≠ d) (hb : b ≤ a)
    (hm : ∀ x ∈ m, x.1 ≠ a) : swfFrom d b (sins a v m) = true := by
  induction m generalizing b with
  | nil => simp [sins, swfFrom, hv, hb]
  | cons x m ih =>
    simp only [swfFrom, Bool.and_eq_true, decide_eq_true_eq] at w
    rw [sins]; split
    · next h =>
      simp only [swfFrom, Bool.and_eq_true, decide_eq_true_eq]
      exact ⟨⟨hb, by simp [hv]⟩, ⟨by omega, w.1.2⟩, w.2⟩
    · next h =>
      simp only [swfFrom, Bool.and_eq_true, decide_eq_true_eq]
      have := hm x (by simp)
      exact ⟨w.1, ih w.2 (by omega) fun y hy => hm y (by simp [hy])⟩

/-- Every write keeps the canonical form. -/
theorem swf_sset {m : SMap α} (a : Nat) (v : α) (w : swf d m = true) : swf d (sset d m a v) = true := by
  rw [sset]; split
  · exact swfFrom_sdel a w
  · next h => exact swfFrom_sins (swfFrom_sdel a w) h (Nat.zero_le _) (not_mem_sdel m a)

/-- Dropping entries keeps the canonical form. -/
theorem swfFrom_filter (f : Nat × α → Bool) {m : SMap α} {b : Nat} (w : swfFrom d b m = true) :
    swfFrom d b (m.filter f) = true := by
  induction m generalizing b with
  | nil => rfl
  | cons x m ih =>
    simp only [swfFrom, Bool.and_eq_true, decide_eq_true_eq] at w
    rw [List.filter_cons]; split
    · simp only [swfFrom, Bool.and_eq_true, decide_eq_true_eq]; exact ⟨w.1, ih w.2⟩
    · exact ih (swfFrom_mono (by omega) w.2)

/-- Writing at consecutive keys keeps the canonical form. -/
theorem swf_ssetList {m : SMap α} (a : Nat) (vs : List α) (w : swf d m = true) : swf d (ssetList d m a vs) = true := by
  induction vs generalizing m a with
  | nil => exact w
  | cons v vs ih => exact ih (a + 1) (swf_sset a v w)

/-- Writing entries one after the other keeps the canonical form. -/
theorem swf_foldl_sset {β : Type} (l : List β) (k : β → Nat) (v : β → α) {m : SMap α} (w : swf d m = true) :
    swf d (l.foldl (fun m x => sset d m (k x) (v x)) m) = true := by
  induction l generalizing m with
  | nil => exact w
  | cons x l ih => exact ih (swf_sset _ _ w)

/-- A read after a write at consecutive keys: inside them the value written there, outside what was there. -/
theorem sget_ssetList (m : SMap α) (a b : Nat) (vs : List α) :
    sget d (ssetList d m a vs) b = if h : a ≤ b ∧ b - a < vs.length then vs[b - a] else sget d m b := by
  induction vs generalizing m a with
  | nil => simp [ssetList]
  | cons v vs ih =>
    rw [ssetList, ih]
    by_cases hb : b = a
    · subst hb; rw [dif_neg (by omega)]; simp
    · rw [sget_sset_ne m v hb]
      by_cases hc : a + 1 ≤ b ∧ b - (a + 1) < vs.length
      · have e : b - a = b - (a + 1) + 1 := by omega
        rw [dif_pos hc, dif_pos ⟨by omega, by rw [e]; simpa using hc.2⟩]
        simp only [e, List.getElem_cons_succ]
      · rw [dif_neg hc, dif_neg]; simp only [List.length_cons]; omega

/-- Outside the keys written nothing changes. -/
theorem sget_ssetList_of_out (m : SMap α) {a b : Nat} {vs : List α} (h : b < a ∨ a + vs.length ≤ b) :
    sget d (ssetList d m a vs) b = sget d m b := by rw [sget_ssetList, dif_neg]; omega

omit [DecidableEq α] in
@[simp] theorem length_sgetList (m : SMap α) (a n : Nat) : (sgetList d m a n).length = n := by simp [sgetList]

/-- Reading back a list that was written. -/
@[simp] theorem sgetList_ssetList (m : SMap α) (a : Nat) (vs : List α) :
    sgetList d (ssetList d m a vs) a vs.length = vs := by
  refine List.ext_getElem (by simp) fun k h _ => ?_
  simp only [length_sgetList] at h
  simp [sgetList, sget_ssetList, h]

end Sys2Proof.Machine
end

