-- ==== Sys2Proof/Laws/Word.lean ====
section
/-! SUPPORT. Laws of the bit fields of a register (reading a field that was set, and one that was not), of bytes in
little-endian order, and of saturating counters. -/

namespace Sys2Proof

/-- A bit of a mask. -/
theorem getLsbD_maskOf (hi lo k : Nat) :
    (maskOf hi lo).getLsbD k = (decide (k < 64) && decide (lo ≤ k) && decide (k - lo < hi + 1 - lo)) := by
  simp only [maskOf, BitVec.getLsbD_shiftLeft, BitVec.getLsbD_ofNat, Nat.testBit_two_pow_sub_one]
  grind

/-- A bit of a field. -/
theorem testBit_getBits (v : W64) (hi lo k : Nat) :
    (getBits v hi lo).testBit k = (v.getLsbD (lo + k) && decide (k < hi + 1 - lo)) := by
  rw [getBits, BitVec.testBit_toNat]
  simp only [BitVec.getLsbD_ushiftRight, BitVec.getLsbD_and, getLsbD_maskOf]
  have := BitVec.lt_of_getLsbD (x := v) (i := lo + k)
  grind

/-- A bit of a word with a field set: the field's own bits come from the value, the others are kept. -/
theorem getLsbD_setBits (v : W64) (hi lo x k : Nat) (hk : k < 64) :
    (setBits v hi lo x).getLsbD k = if lo ≤ k ∧ k ≤ hi then x.testBit (k - lo) else v.getLsbD k := by
  simp only [setBits, BitVec.getLsbD_or, BitVec.getLsbD_and, BitVec.getLsbD_not, BitVec.getLsbD_shiftLeft,
    BitVec.getLsbD_ofNat, getLsbD_maskOf]
  grind

/-- A field is below its width's power of two. -/
theorem getBits_lt (v : W64) (hi lo : Nat) : getBits v hi lo < 2 ^ (hi + 1 - lo) := by
  refine Nat.lt_pow_two_of_testBit _ fun i h => ?_
  rw [testBit_getBits]; simp; omega

/-- Reading a field that was set gives the value, cut to the field's width. -/
@[simp] theorem getBits_setBits (v : W64) (hi lo x : Nat) (h : hi < 64) :
    getBits (setBits v hi lo x) hi lo = x % 2 ^ (hi + 1 - lo) := by
  refine Nat.eq_of_testBit_eq fun k => ?_
  rw [testBit_getBits, Nat.testBit_mod_two_pow]
  by_cases hk : k < hi + 1 - lo
  · rw [getLsbD_setBits _ _ _ _ _ (by omega), if_pos (by omega), Nat.add_sub_cancel_left]; simp [hk]
  · simp [hk]

/-- Setting a field leaves a field of other bits alone. -/
theorem getBits_setBits_disjoint (v : W64) (hi lo x hi' lo' : Nat) (h : hi' < lo ∨ hi < lo') :
    getBits (setBits v hi lo x) hi' lo' = getBits v hi' lo' := by
  refine Nat.eq_of_testBit_eq fun k => ?_
  rw [testBit_getBits, testBit_getBits]
  by_cases hk : k < hi' + 1 - lo'
  · by_cases h64 : lo' + k < 64
    · rw [getLsbD_setBits _ _ _ _ _ h64, if_neg (by omega)]
    · rw [BitVec.getLsbD_of_ge _ _ (by omega), BitVec.getLsbD_of_ge _ _ (by omega)]
  · simp [hk]

/-- Writing a field's own value changes nothing. -/
@[simp] theorem setBits_getBits (v : W64) (hi lo : Nat) : setBits v hi lo (getBits v hi lo) = v := by
  refine BitVec.eq_of_getLsbD_eq fun k hk => ?_
  rw [getLsbD_setBits _ _ _ _ _ hk]
  split
  · next h => rw [testBit_getBits, show lo + (k - lo) = k by omega]; simp; omega
  · rfl

/-- The second of two writes of one field stands. -/
@[simp] theorem setBits_setBits (v : W64) (hi lo x y : Nat) : setBits (setBits v hi lo x) hi lo y = setBits v hi lo y := by
  refine BitVec.eq_of_getLsbD_eq fun k hk => ?_
  rw [getLsbD_setBits _ _ _ _ _ hk, getLsbD_setBits _ _ _ _ _ hk, getLsbD_setBits _ _ _ _ _ hk]
  split <;> rfl

@[simp] theorem length_leBytes (n x : Nat) : (leBytes n x).length = n := by simp [leBytes]

/-- The first of `n + 1` bytes is the lowest. -/
theorem leBytes_succ (n x : Nat) : leBytes (n + 1) x = BitVec.ofNat 8 x :: leBytes n (x / 256) := by
  simp only [leBytes, List.range_succ_eq_map, List.map_cons, List.map_map, Nat.mul_zero, Nat.shiftRight_zero,
    List.cons.injEq, true_and]
  refine List.map_congr_left fun k _ => ?_
  simp only [Function.comp, Nat.succ_eq_add_one]
  rw [Nat.shiftRight_eq_div_pow, Nat.shiftRight_eq_div_pow, Nat.div_div_eq_div_mul]
  congr 2
  rw [show 8 * (k + 1) = 8 + 8 * k by omega, Nat.pow_add]

/-- A value and back (R3). -/
theorem leValue_leBytes (n x : Nat) : leValue (leBytes n x) = x % 256 ^ n := by
  induction n generalizing x with
  | zero => simp [leBytes, leValue, Nat.mod_one]
  | succ n ih =>
    rw [leBytes_succ, leValue, ih, BitVec.toNat_ofNat, Nat.pow_succ 256 n, Nat.mul_comm (256 ^ n), Nat.mod_mul]

theorem satAdd_le (n x d : Nat) : satAdd n x d ≤ 2 ^ n - 1 := Nat.min_le_right _ _

/-- A saturating counter never falls. -/
theorem le_satAdd (n x d : Nat) (h : x ≤ 2 ^ n - 1) : x ≤ satAdd n x d := Nat.le_min.2 ⟨by omega, h⟩

/-- Short of all ones a saturating counter counts exactly. -/
theorem satAdd_eq (n x d : Nat) (h : x + d ≤ 2 ^ n - 1) : satAdd n x d = x + d := Nat.min_eq_left h

end Sys2Proof
end

