-- ==== Sys2Proof/Laws/State.lean ====
section
/-! SUPPORT. What each primitive update of the state does to each of its parts: one lemma for each field and each accessor, and
what reading back a register, a latch, a byte or a spindle gives. -/

namespace Sys2Proof.Machine

variable (s : State)

/-! ## Fields and accessors an update does not touch -/

@[simp] theorem State.lats_setReg (r : Reg) (d i : Nat) (v : W64) : (s.setReg r d i v).lats = s.lats := rfl
@[simp] theorem State.mem_setReg (r : Reg) (d i : Nat) (v : W64) : (s.setReg r d i v).mem = s.mem := rfl
@[simp] theorem State.spins_setReg (r : Reg) (d i : Nat) (v : W64) : (s.setReg r d i v).spins = s.spins := rfl
@[simp] theorem State.plies_setReg (r : Reg) (d i : Nat) (v : W64) : (s.setReg r d i v).plies = s.plies := rfl
@[simp] theorem State.stickyA_setReg (r : Reg) (d i : Nat) (v : W64) : (s.setReg r d i v).stickyA = s.stickyA := rfl
@[simp] theorem State.stickyB_setReg (r : Reg) (d i : Nat) (v : W64) : (s.setReg r d i v).stickyB = s.stickyB := rfl
@[simp] theorem State.sides_setReg (r : Reg) (d i : Nat) (v : W64) : (s.setReg r d i v).sides = s.sides := rfl
@[simp] theorem State.retLog_setReg (r : Reg) (d i : Nat) (v : W64) : (s.setReg r d i v).retLog = s.retLog := rfl
@[simp] theorem State.flash_setReg (r : Reg) (d i : Nat) (v : W64) : (s.setReg r d i v).flash = s.flash := rfl
@[simp] theorem State.skeins_setReg (r : Reg) (d i : Nat) (v : W64) : (s.setReg r d i v).skeins = s.skeins := rfl
@[simp] theorem State.losses_setReg (r : Reg) (d i : Nat) (v : W64) : (s.setReg r d i v).losses = s.losses := rfl
@[simp] theorem State.mended_setReg (r : Reg) (d i : Nat) (v : W64) : (s.setReg r d i v).mended = s.mended := rfl
@[simp] theorem State.flaws_setReg (r : Reg) (d i : Nat) (v : W64) : (s.setReg r d i v).flaws = s.flaws := rfl
@[simp] theorem State.dma_setReg (r : Reg) (d i : Nat) (v : W64) : (s.setReg r d i v).dma = s.dma := rfl
@[simp] theorem State.coll_setReg (r : Reg) (d i : Nat) (v : W64) : (s.setReg r d i v).coll = s.coll := rfl
@[simp] theorem State.collGroups_setReg (r : Reg) (d i : Nat) (v : W64) : (s.setReg r d i v).collGroups = s.collGroups := rfl
@[simp] theorem State.mesh_setReg (r : Reg) (d i : Nat) (v : W64) : (s.setReg r d i v).mesh = s.mesh := rfl
@[simp] theorem State.plyRuns_setReg (r : Reg) (d i : Nat) (v : W64) : (s.setReg r d i v).plyRuns = s.plyRuns := rfl
@[simp] theorem State.banks_setReg (r : Reg) (d i : Nat) (v : W64) : (s.setReg r d i v).banks = s.banks := rfl
@[simp] theorem State.heat_setReg (r : Reg) (d i : Nat) (v : W64) : (s.setReg r d i v).heat = s.heat := rfl
@[simp] theorem State.saved_setReg (r : Reg) (d i : Nat) (v : W64) : (s.setReg r d i v).saved = s.saved := rfl
@[simp] theorem State.reply_setReg (r : Reg) (d i : Nat) (v : W64) : (s.setReg r d i v).reply = s.reply := rfl
@[simp] theorem State.free_setReg (r : Reg) (d i : Nat) (v : W64) : (s.setReg r d i v).free = s.free := rfl
@[simp] theorem State.pending_setReg (r : Reg) (d i : Nat) (v : W64) : (s.setReg r d i v).pending = s.pending := rfl
@[simp] theorem State.lat_setReg (r : Reg) (d i : Nat) (v : W64) (m : Lat) (e j : Nat) : (s.setReg r d i v).lat m e j = s.lat m e j := rfl
@[simp] theorem State.byte_setReg (r : Reg) (d i : Nat) (v : W64) (b : Nat) : (s.setReg r d i v).byte b = s.byte b := rfl
@[simp] theorem State.bytes_setReg (r : Reg) (d i : Nat) (v : W64) (b n : Nat) : (s.setReg r d i v).bytes b n = s.bytes b n := rfl
@[simp] theorem State.spin_setReg (r : Reg) (d i : Nat) (v : W64) (k : Nat) : (s.setReg r d i v).spin k = s.spin k := rfl
@[simp] theorem State.side_setReg (r : Reg) (d i : Nat) (v : W64) (k : Nat) : (s.setReg r d i v).side k = s.side k := rfl
@[simp] theorem State.skein_setReg (r : Reg) (d i : Nat) (v : W64) (e : Nat) : (s.setReg r d i v).skein e = s.skein e := rfl

@[simp] theorem State.regs_setLat (l : Lat) (d i v : Nat) : (s.setLat l d i v).regs = s.regs := rfl
@[simp] theorem State.mem_setLat (l : Lat) (d i v : Nat) : (s.setLat l d i v).mem = s.mem := rfl
@[simp] theorem State.spins_setLat (l : Lat) (d i v : Nat) : (s.setLat l d i v).spins = s.spins := rfl
@[simp] theorem State.plies_setLat (l : Lat) (d i v : Nat) : (s.setLat l d i v).plies = s.plies := rfl
@[simp] theorem State.stickyA_setLat (l : Lat) (d i v : Nat) : (s.setLat l d i v).stickyA = s.stickyA := rfl
@[simp] theorem State.stickyB_setLat (l : Lat) (d i v : Nat) : (s.setLat l d i v).stickyB = s.stickyB := rfl
@[simp] theorem State.sides_setLat (l : Lat) (d i v : Nat) : (s.setLat l d i v).sides = s.sides := rfl
@[simp] theorem State.retLog_setLat (l : Lat) (d i v : Nat) : (s.setLat l d i v).retLog = s.retLog := rfl
@[simp] theorem State.flash_setLat (l : Lat) (d i v : Nat) : (s.setLat l d i v).flash = s.flash := rfl
@[simp] theorem State.skeins_setLat (l : Lat) (d i v : Nat) : (s.setLat l d i v).skeins = s.skeins := rfl
@[simp] theorem State.losses_setLat (l : Lat) (d i v : Nat) : (s.setLat l d i v).losses = s.losses := rfl
@[simp] theorem State.mended_setLat (l : Lat) (d i v : Nat) : (s.setLat l d i v).mended = s.mended := rfl
@[simp] theorem State.flaws_setLat (l : Lat) (d i v : Nat) : (s.setLat l d i v).flaws = s.flaws := rfl
@[simp] theorem State.dma_setLat (l : Lat) (d i v : Nat) : (s.setLat l d i v).dma = s.dma := rfl
@[simp] theorem State.coll_setLat (l : Lat) (d i v : Nat) : (s.setLat l d i v).coll = s.coll := rfl
@[simp] theorem State.collGroups_setLat (l : Lat) (d i v : Nat) : (s.setLat l d i v).collGroups = s.collGroups := rfl
@[simp] theorem State.mesh_setLat (l : Lat) (d i v : Nat) : (s.setLat l d i v).mesh = s.mesh := rfl
@[simp] theorem State.plyRuns_setLat (l : Lat) (d i v : Nat) : (s.setLat l d i v).plyRuns = s.plyRuns := rfl
@[simp] theorem State.banks_setLat (l : Lat) (d i v : Nat) : (s.setLat l d i v).banks = s.banks := rfl
@[simp] theorem State.heat_setLat (l : Lat) (d i v : Nat) : (s.setLat l d i v).heat = s.heat := rfl
@[simp] theorem State.saved_setLat (l : Lat) (d i v : Nat) : (s.setLat l d i v).saved = s.saved := rfl
@[simp] theorem State.reply_setLat (l : Lat) (d i v : Nat) : (s.setLat l d i v).reply = s.reply := rfl
@[simp] theorem State.free_setLat (l : Lat) (d i v : Nat) : (s.setLat l d i v).free = s.free := rfl
@[simp] theorem State.pending_setLat (l : Lat) (d i v : Nat) : (s.setLat l d i v).pending = s.pending := rfl
@[simp] theorem State.reg_setLat (l : Lat) (d i v : Nat) (q : Reg) (e j : Nat) : (s.setLat l d i v).reg q e j = s.reg q e j := rfl
@[simp] theorem State.byte_setLat (l : Lat) (d i v : Nat) (b : Nat) : (s.setLat l d i v).byte b = s.byte b := rfl
@[simp] theorem State.bytes_setLat (l : Lat) (d i v : Nat) (b n : Nat) : (s.setLat l d i v).bytes b n = s.bytes b n := rfl
@[simp] theorem State.spin_setLat (l : Lat) (d i v : Nat) (k : Nat) : (s.setLat l d i v).spin k = s.spin k := rfl
@[simp] theorem State.side_setLat (l : Lat) (d i v : Nat) (k : Nat) : (s.setLat l d i v).side k = s.side k := rfl
@[simp] theorem State.skein_setLat (l : Lat) (d i v : Nat) (e : Nat) : (s.setLat l d i v).skein e = s.skein e := rfl
@[simp] theorem State.fld_setLat (l : Lat) (d i v : Nat) (g : RField) (e j : Nat) : (s.setLat l d i v).fld g e j = s.fld g e j := rfl

@[simp] theorem State.regs_setBytes (a : Nat) (bs : List Byte) : (s.setBytes a bs).regs = s.regs := rfl
@[simp] theorem State.lats_setBytes (a : Nat) (bs : List Byte) : (s.setBytes a bs).lats = s.lats := rfl
@[simp] theorem State.spins_setBytes (a : Nat) (bs : List Byte) : (s.setBytes a bs).spins = s.spins := rfl
@[simp] theorem State.plies_setBytes (a : Nat) (bs : List Byte) : (s.setBytes a bs).plies = s.plies := rfl
@[simp] theorem State.stickyA_setBytes (a : Nat) (bs : List Byte) : (s.setBytes a bs).stickyA = s.stickyA := rfl
@[simp] theorem State.stickyB_setBytes (a : Nat) (bs : List Byte) : (s.setBytes a bs).stickyB = s.stickyB := rfl
@[simp] theorem State.sides_setBytes (a : Nat) (bs : List Byte) : (s.setBytes a bs).sides = s.sides := rfl
@[simp] theorem State.retLog_setBytes (a : Nat) (bs : List Byte) : (s.setBytes a bs).retLog = s.retLog := rfl
@[simp] theorem State.flash_setBytes (a : Nat) (bs : List Byte) : (s.setBytes a bs).flash = s.flash := rfl
@[simp] theorem State.skeins_setBytes (a : Nat) (bs : List Byte) : (s.setBytes a bs).skeins = s.skeins := rfl
@[simp] theorem State.losses_setBytes (a : Nat) (bs : List Byte) : (s.setBytes a bs).losses = s.losses := rfl
@[simp] theorem State.mended_setBytes (a : Nat) (bs : List Byte) : (s.setBytes a bs).mended = s.mended := rfl
@[simp] theorem State.flaws_setBytes (a : Nat) (bs : List Byte) : (s.setBytes a bs).flaws = s.flaws := rfl
@[simp] theorem State.dma_setBytes (a : Nat) (bs : List Byte) : (s.setBytes a bs).dma = s.dma := rfl
@[simp] theorem State.coll_setBytes (a : Nat) (bs : List Byte) : (s.setBytes a bs).coll = s.coll := rfl
@[simp] theorem State.collGroups_setBytes (a : Nat) (bs : List Byte) : (s.setBytes a bs).collGroups = s.collGroups := rfl
@[simp] theorem State.mesh_setBytes (a : Nat) (bs : List Byte) : (s.setBytes a bs).mesh = s.mesh := rfl
@[simp] theorem State.plyRuns_setBytes (a : Nat) (bs : List Byte) : (s.setBytes a bs).plyRuns = s.plyRuns := rfl
@[simp] theorem State.banks_setBytes (a : Nat) (bs : List Byte) : (s.setBytes a bs).banks = s.banks := rfl
@[simp] theorem State.heat_setBytes (a : Nat) (bs : List Byte) : (s.setBytes a bs).heat = s.heat := rfl
@[simp] theorem State.saved_setBytes (a : Nat) (bs : List Byte) : (s.setBytes a bs).saved = s.saved := rfl
@[simp] theorem State.reply_setBytes (a : Nat) (bs : List Byte) : (s.setBytes a bs).reply = s.reply := rfl
@[simp] theorem State.free_setBytes (a : Nat) (bs : List Byte) : (s.setBytes a bs).free = s.free := rfl
@[simp] theorem State.pending_setBytes (a : Nat) (bs : List Byte) : (s.setBytes a bs).pending = s.pending := rfl
@[simp] theorem State.reg_setBytes (a : Nat) (bs : List Byte) (q : Reg) (e j : Nat) : (s.setBytes a bs).reg q e j = s.reg q e j := rfl
@[simp] theorem State.lat_setBytes (a : Nat) (bs : List Byte) (m : Lat) (e j : Nat) : (s.setBytes a bs).lat m e j = s.lat m e j := rfl
@[simp] theorem State.spin_setBytes (a : Nat) (bs : List Byte) (k : Nat) : (s.setBytes a bs).spin k = s.spin k := rfl
@[simp] theorem State.side_setBytes (a : Nat) (bs : List Byte) (k : Nat) : (s.setBytes a bs).side k = s.side k := rfl
@[simp] theorem State.skein_setBytes (a : Nat) (bs : List Byte) (e : Nat) : (s.setBytes a bs).skein e = s.skein e := rfl
@[simp] theorem State.fld_setBytes (a : Nat) (bs : List Byte) (g : RField) (e j : Nat) : (s.setBytes a bs).fld g e j = s.fld g e j := rfl

@[simp] theorem State.regs_updSpin (sp : Nat) (f : Spin → Spin) : (s.updSpin sp f).regs = s.regs := rfl
@[simp] theorem State.lats_updSpin (sp : Nat) (f : Spin → Spin) : (s.updSpin sp f).lats = s.lats := rfl
@[simp] theorem State.mem_updSpin (sp : Nat) (f : Spin → Spin) : (s.updSpin sp f).mem = s.mem := rfl
@[simp] theorem State.plies_updSpin (sp : Nat) (f : Spin → Spin) : (s.updSpin sp f).plies = s.plies := rfl
@[simp] theorem State.stickyA_updSpin (sp : Nat) (f : Spin → Spin) : (s.updSpin sp f).stickyA = s.stickyA := rfl
@[simp] theorem State.stickyB_updSpin (sp : Nat) (f : Spin → Spin) : (s.updSpin sp f).stickyB = s.stickyB := rfl
@[simp] theorem State.sides_updSpin (sp : Nat) (f : Spin → Spin) : (s.updSpin sp f).sides = s.sides := rfl
@[simp] theorem State.retLog_updSpin (sp : Nat) (f : Spin → Spin) : (s.updSpin sp f).retLog = s.retLog := rfl
@[simp] theorem State.flash_updSpin (sp : Nat) (f : Spin → Spin) : (s.updSpin sp f).flash = s.flash := rfl
@[simp] theorem State.skeins_updSpin (sp : Nat) (f : Spin → Spin) : (s.updSpin sp f).skeins = s.skeins := rfl
@[simp] theorem State.losses_updSpin (sp : Nat) (f : Spin → Spin) : (s.updSpin sp f).losses = s.losses := rfl
@[simp] theorem State.mended_updSpin (sp : Nat) (f : Spin → Spin) : (s.updSpin sp f).mended = s.mended := rfl
@[simp] theorem State.flaws_updSpin (sp : Nat) (f : Spin → Spin) : (s.updSpin sp f).flaws = s.flaws := rfl
@[simp] theorem State.dma_updSpin (sp : Nat) (f : Spin → Spin) : (s.updSpin sp f).dma = s.dma := rfl
@[simp] theorem State.coll_updSpin (sp : Nat) (f : Spin → Spin) : (s.updSpin sp f).coll = s.coll := rfl
@[simp] theorem State.collGroups_updSpin (sp : Nat) (f : Spin → Spin) : (s.updSpin sp f).collGroups = s.collGroups := rfl
@[simp] theorem State.mesh_updSpin (sp : Nat) (f : Spin → Spin) : (s.updSpin sp f).mesh = s.mesh := rfl
@[simp] theorem State.plyRuns_updSpin (sp : Nat) (f : Spin → Spin) : (s.updSpin sp f).plyRuns = s.plyRuns := rfl
@[simp] theorem State.banks_updSpin (sp : Nat) (f : Spin → Spin) : (s.updSpin sp f).banks = s.banks := rfl
@[simp] theorem State.heat_updSpin (sp : Nat) (f : Spin → Spin) : (s.updSpin sp f).heat = s.heat := rfl
@[simp] theorem State.saved_updSpin (sp : Nat) (f : Spin → Spin) : (s.updSpin sp f).saved = s.saved := rfl
@[simp] theorem State.reply_updSpin (sp : Nat) (f : Spin → Spin) : (s.updSpin sp f).reply = s.reply := rfl
@[simp] theorem State.free_updSpin (sp : Nat) (f : Spin → Spin) : (s.updSpin sp f).free = s.free := rfl
@[simp] theorem State.pending_updSpin (sp : Nat) (f : Spin → Spin) : (s.updSpin sp f).pending = s.pending := rfl
@[simp] theorem State.reg_updSpin (sp : Nat) (f : Spin → Spin) (q : Reg) (e j : Nat) : (s.updSpin sp f).reg q e j = s.reg q e j := rfl
@[simp] theorem State.lat_updSpin (sp : Nat) (f : Spin → Spin) (m : Lat) (e j : Nat) : (s.updSpin sp f).lat m e j = s.lat m e j := rfl
@[simp] theorem State.byte_updSpin (sp : Nat) (f : Spin → Spin) (b : Nat) : (s.updSpin sp f).byte b = s.byte b := rfl
@[simp] theorem State.bytes_updSpin (sp : Nat) (f : Spin → Spin) (b n : Nat) : (s.updSpin sp f).bytes b n = s.bytes b n := rfl
@[simp] theorem State.side_updSpin (sp : Nat) (f : Spin → Spin) (k : Nat) : (s.updSpin sp f).side k = s.side k := rfl
@[simp] theorem State.skein_updSpin (sp : Nat) (f : Spin → Spin) (e : Nat) : (s.updSpin sp f).skein e = s.skein e := rfl
@[simp] theorem State.fld_updSpin (sp : Nat) (f : Spin → Spin) (g : RField) (e j : Nat) : (s.updSpin sp f).fld g e j = s.fld g e j := rfl

@[simp] theorem State.regs_setSide (k : Nat) (x : Side) : (s.setSide k x).regs = s.regs := rfl
@[simp] theorem State.lats_setSide (k : Nat) (x : Side) : (s.setSide k x).lats = s.lats := rfl
@[simp] theorem State.mem_setSide (k : Nat) (x : Side) : (s.setSide k x).mem = s.mem := rfl
@[simp] theorem State.spins_setSide (k : Nat) (x : Side) : (s.setSide k x).spins = s.spins := rfl
@[simp] theorem State.plies_setSide (k : Nat) (x : Side) : (s.setSide k x).plies = s.plies := rfl
@[simp] theorem State.stickyA_setSide (k : Nat) (x : Side) : (s.setSide k x).stickyA = s.stickyA := rfl
@[simp] theorem State.stickyB_setSide (k : Nat) (x : Side) : (s.setSide k x).stickyB = s.stickyB := rfl
@[simp] theorem State.retLog_setSide (k : Nat) (x : Side) : (s.setSide k x).retLog = s.retLog := rfl
@[simp] theorem State.flash_setSide (k : Nat) (x : Side) : (s.setSide k x).flash = s.flash := rfl
@[simp] theorem State.skeins_setSide (k : Nat) (x : Side) : (s.setSide k x).skeins = s.skeins := rfl
@[simp] theorem State.losses_setSide (k : Nat) (x : Side) : (s.setSide k x).losses = s.losses := rfl
@[simp] theorem State.mended_setSide (k : Nat) (x : Side) : (s.setSide k x).mended = s.mended := rfl
@[simp] theorem State.flaws_setSide (k : Nat) (x : Side) : (s.setSide k x).flaws = s.flaws := rfl
@[simp] theorem State.dma_setSide (k : Nat) (x : Side) : (s.setSide k x).dma = s.dma := rfl
@[simp] theorem State.coll_setSide (k : Nat) (x : Side) : (s.setSide k x).coll = s.coll := rfl
@[simp] theorem State.collGroups_setSide (k : Nat) (x : Side) : (s.setSide k x).collGroups = s.collGroups := rfl
@[simp] theorem State.mesh_setSide (k : Nat) (x : Side) : (s.setSide k x).mesh = s.mesh := rfl
@[simp] theorem State.plyRuns_setSide (k : Nat) (x : Side) : (s.setSide k x).plyRuns = s.plyRuns := rfl
@[simp] theorem State.banks_setSide (k : Nat) (x : Side) : (s.setSide k x).banks = s.banks := rfl
@[simp] theorem State.heat_setSide (k : Nat) (x : Side) : (s.setSide k x).heat = s.heat := rfl
@[simp] theorem State.saved_setSide (k : Nat) (x : Side) : (s.setSide k x).saved = s.saved := rfl
@[simp] theorem State.reply_setSide (k : Nat) (x : Side) : (s.setSide k x).reply = s.reply := rfl
@[simp] theorem State.free_setSide (k : Nat) (x : Side) : (s.setSide k x).free = s.free := rfl
@[simp] theorem State.pending_setSide (k : Nat) (x : Side) : (s.setSide k x).pending = s.pending := rfl
@[simp] theorem State.reg_setSide (k : Nat) (x : Side) (q : Reg) (e j : Nat) : (s.setSide k x).reg q e j = s.reg q e j := rfl
@[simp] theorem State.lat_setSide (k : Nat) (x : Side) (m : Lat) (e j : Nat) : (s.setSide k x).lat m e j = s.lat m e j := rfl
@[simp] theorem State.byte_setSide (k : Nat) (x : Side) (b : Nat) : (s.setSide k x).byte b = s.byte b := rfl
@[simp] theorem State.bytes_setSide (k : Nat) (x : Side) (b n : Nat) : (s.setSide k x).bytes b n = s.bytes b n := rfl
@[simp] theorem State.spin_setSide (k : Nat) (x : Side) (k' : Nat) : (s.setSide k x).spin k' = s.spin k' := rfl
@[simp] theorem State.skein_setSide (k : Nat) (x : Side) (e : Nat) : (s.setSide k x).skein e = s.skein e := rfl
@[simp] theorem State.fld_setSide (k : Nat) (x : Side) (g : RField) (e j : Nat) : (s.setSide k x).fld g e j = s.fld g e j := rfl

@[simp] theorem State.regs_setSkein (d : Nat) (l : List SkeinRec) : (s.setSkein d l).regs = s.regs := rfl
@[simp] theorem State.lats_setSkein (d : Nat) (l : List SkeinRec) : (s.setSkein d l).lats = s.lats := rfl
@[simp] theorem State.mem_setSkein (d : Nat) (l : List SkeinRec) : (s.setSkein d l).mem = s.mem := rfl
@[simp] theorem State.spins_setSkein (d : Nat) (l : List SkeinRec) : (s.setSkein d l).spins = s.spins := rfl
@[simp] theorem State.plies_setSkein (d : Nat) (l : List SkeinRec) : (s.setSkein d l).plies = s.plies := rfl
@[simp] theorem State.stickyA_setSkein (d : Nat) (l : List SkeinRec) : (s.setSkein d l).stickyA = s.stickyA := rfl
@[simp] theorem State.stickyB_setSkein (d : Nat) (l : List SkeinRec) : (s.setSkein d l).stickyB = s.stickyB := rfl
@[simp] theorem State.sides_setSkein (d : Nat) (l : List SkeinRec) : (s.setSkein d l).sides = s.sides := rfl
@[simp] theorem State.retLog_setSkein (d : Nat) (l : List SkeinRec) : (s.setSkein d l).retLog = s.retLog := rfl
@[simp] theorem State.flash_setSkein (d : Nat) (l : List SkeinRec) : (s.setSkein d l).flash = s.flash := rfl
@[simp] theorem State.losses_setSkein (d : Nat) (l : List SkeinRec) : (s.setSkein d l).losses = s.losses := rfl
@[simp] theorem State.mended_setSkein (d : Nat) (l : List SkeinRec) : (s.setSkein d l).mended = s.mended := rfl
@[simp] theorem State.flaws_setSkein (d : Nat) (l : List SkeinRec) : (s.setSkein d l).flaws = s.flaws := rfl
@[simp] theorem State.dma_setSkein (d : Nat) (l : List SkeinRec) : (s.setSkein d l).dma = s.dma := rfl
@[simp] theorem State.coll_setSkein (d : Nat) (l : List SkeinRec) : (s.setSkein d l).coll = s.coll := rfl
@[simp] theorem State.collGroups_setSkein (d : Nat) (l : List SkeinRec) : (s.setSkein d l).collGroups = s.collGroups := rfl
@[simp] theorem State.mesh_setSkein (d : Nat) (l : List SkeinRec) : (s.setSkein d l).mesh = s.mesh := rfl
@[simp] theorem State.plyRuns_setSkein (d : Nat) (l : List SkeinRec) : (s.setSkein d l).plyRuns = s.plyRuns := rfl
@[simp] theorem State.banks_setSkein (d : Nat) (l : List SkeinRec) : (s.setSkein d l).banks = s.banks := rfl
@[simp] theorem State.heat_setSkein (d : Nat) (l : List SkeinRec) : (s.setSkein d l).heat = s.heat := rfl
@[simp] theorem State.saved_setSkein (d : Nat) (l : List SkeinRec) : (s.setSkein d l).saved = s.saved := rfl
@[simp] theorem State.reply_setSkein (d : Nat) (l : List SkeinRec) : (s.setSkein d l).reply = s.reply := rfl
@[simp] theorem State.free_setSkein (d : Nat) (l : List SkeinRec) : (s.setSkein d l).free = s.free := rfl
@[simp] theorem State.pending_setSkein (d : Nat) (l : List SkeinRec) : (s.setSkein d l).pending = s.pending := rfl
@[simp] theorem State.reg_setSkein (d : Nat) (l : List SkeinRec) (q : Reg) (e j : Nat) : (s.setSkein d l).reg q e j = s.reg q e j := rfl
@[simp] theorem State.lat_setSkein (d : Nat) (l : List SkeinRec) (m : Lat) (e j : Nat) : (s.setSkein d l).lat m e j = s.lat m e j := rfl
@[simp] theorem State.byte_setSkein (d : Nat) (l : List SkeinRec) (b : Nat) : (s.setSkein d l).byte b = s.byte b := rfl
@[simp] theorem State.bytes_setSkein (d : Nat) (l : List SkeinRec) (b n : Nat) : (s.setSkein d l).bytes b n = s.bytes b n := rfl
@[simp] theorem State.spin_setSkein (d : Nat) (l : List SkeinRec) (k : Nat) : (s.setSkein d l).spin k = s.spin k := rfl
@[simp] theorem State.side_setSkein (d : Nat) (l : List SkeinRec) (k : Nat) : (s.setSkein d l).side k = s.side k := rfl
@[simp] theorem State.fld_setSkein (d : Nat) (l : List SkeinRec) (g : RField) (e j : Nat) : (s.setSkein d l).fld g e j = s.fld g e j := rfl

@[simp] theorem State.regs_answer (st : Status) (bs : List Byte) : (s.answer st bs).regs = s.regs := rfl
@[simp] theorem State.lats_answer (st : Status) (bs : List Byte) : (s.answer st bs).lats = s.lats := rfl
@[simp] theorem State.mem_answer (st : Status) (bs : List Byte) : (s.answer st bs).mem = s.mem := rfl
@[simp] theorem State.spins_answer (st : Status) (bs : List Byte) : (s.answer st bs).spins = s.spins := rfl
@[simp] theorem State.plies_answer (st : Status) (bs : List Byte) : (s.answer st bs).plies = s.plies := rfl
@[simp] theorem State.stickyA_answer (st : Status) (bs : List Byte) : (s.answer st bs).stickyA = s.stickyA := rfl
@[simp] theorem State.stickyB_answer (st : Status) (bs : List Byte) : (s.answer st bs).stickyB = s.stickyB := rfl
@[simp] theorem State.sides_answer (st : Status) (bs : List Byte) : (s.answer st bs).sides = s.sides := rfl
@[simp] theorem State.retLog_answer (st : Status) (bs : List Byte) : (s.answer st bs).retLog = s.retLog := rfl
@[simp] theorem State.flash_answer (st : Status) (bs : List Byte) : (s.answer st bs).flash = s.flash := rfl
@[simp] theorem State.skeins_answer (st : Status) (bs : List Byte) : (s.answer st bs).skeins = s.skeins := rfl
@[simp] theorem State.losses_answer (st : Status) (bs : List Byte) : (s.answer st bs).losses = s.losses := rfl
@[simp] theorem State.mended_answer (st : Status) (bs : List Byte) : (s.answer st bs).mended = s.mended := rfl
@[simp] theorem State.flaws_answer (st : Status) (bs : List Byte) : (s.answer st bs).flaws = s.flaws := rfl
@[simp] theorem State.dma_answer (st : Status) (bs : List Byte) : (s.answer st bs).dma = s.dma := rfl
@[simp] theorem State.coll_answer (st : Status) (bs : List Byte) : (s.answer st bs).coll = s.coll := rfl
@[simp] theorem State.collGroups_answer (st : Status) (bs : List Byte) : (s.answer st bs).collGroups = s.collGroups := rfl
@[simp] theorem State.mesh_answer (st : Status) (bs : List Byte) : (s.answer st bs).mesh = s.mesh := rfl
@[simp] theorem State.plyRuns_answer (st : Status) (bs : List Byte) : (s.answer st bs).plyRuns = s.plyRuns := rfl
@[simp] theorem State.banks_answer (st : Status) (bs : List Byte) : (s.answer st bs).banks = s.banks := rfl
@[simp] theorem State.heat_answer (st : Status) (bs : List Byte) : (s.answer st bs).heat = s.heat := rfl
@[simp] theorem State.saved_answer (st : Status) (bs : List Byte) : (s.answer st bs).saved = s.saved := rfl
@[simp] theorem State.free_answer (st : Status) (bs : List Byte) : (s.answer st bs).free = s.free := rfl
@[simp] theorem State.pending_answer (st : Status) (bs : List Byte) : (s.answer st bs).pending = s.pending := rfl
@[simp] theorem State.reg_answer (st : Status) (bs : List Byte) (q : Reg) (e j : Nat) : (s.answer st bs).reg q e j = s.reg q e j := rfl
@[simp] theorem State.lat_answer (st : Status) (bs : List Byte) (m : Lat) (e j : Nat) : (s.answer st bs).lat m e j = s.lat m e j := rfl
@[simp] theorem State.byte_answer (st : Status) (bs : List Byte) (b : Nat) : (s.answer st bs).byte b = s.byte b := rfl
@[simp] theorem State.bytes_answer (st : Status) (bs : List Byte) (b n : Nat) : (s.answer st bs).bytes b n = s.bytes b n := rfl
@[simp] theorem State.spin_answer (st : Status) (bs : List Byte) (k : Nat) : (s.answer st bs).spin k = s.spin k := rfl
@[simp] theorem State.side_answer (st : Status) (bs : List Byte) (k : Nat) : (s.answer st bs).side k = s.side k := rfl
@[simp] theorem State.skein_answer (st : Status) (bs : List Byte) (e : Nat) : (s.answer st bs).skein e = s.skein e := rfl
@[simp] theorem State.fld_answer (st : Status) (bs : List Byte) (g : RField) (e j : Nat) : (s.answer st bs).fld g e j = s.fld g e j := rfl

@[simp] theorem State.lats_setFld (f : RField) (d i x : Nat) : (s.setFld f d i x).lats = s.lats := rfl
@[simp] theorem State.mem_setFld (f : RField) (d i x : Nat) : (s.setFld f d i x).mem = s.mem := rfl
@[simp] theorem State.spins_setFld (f : RField) (d i x : Nat) : (s.setFld f d i x).spins = s.spins := rfl
@[simp] theorem State.plies_setFld (f : RField) (d i x : Nat) : (s.setFld f d i x).plies = s.plies := rfl
@[simp] theorem State.stickyA_setFld (f : RField) (d i x : Nat) : (s.setFld f d i x).stickyA = s.stickyA := rfl
@[simp] theorem State.stickyB_setFld (f : RField) (d i x : Nat) : (s.setFld f d i x).stickyB = s.stickyB := rfl
@[simp] theorem State.sides_setFld (f : RField) (d i x : Nat) : (s.setFld f d i x).sides = s.sides := rfl
@[simp] theorem State.retLog_setFld (f : RField) (d i x : Nat) : (s.setFld f d i x).retLog = s.retLog := rfl
@[simp] theorem State.flash_setFld (f : RField) (d i x : Nat) : (s.setFld f d i x).flash = s.flash := rfl
@[simp] theorem State.skeins_setFld (f : RField) (d i x : Nat) : (s.setFld f d i x).skeins = s.skeins := rfl
@[simp] theorem State.losses_setFld (f : RField) (d i x : Nat) : (s.setFld f d i x).losses = s.losses := rfl
@[simp] theorem State.mended_setFld (f : RField) (d i x : Nat) : (s.setFld f d i x).mended = s.mended := rfl
@[simp] theorem State.flaws_setFld (f : RField) (d i x : Nat) : (s.setFld f d i x).flaws = s.flaws := rfl
@[simp] theorem State.dma_setFld (f : RField) (d i x : Nat) : (s.setFld f d i x).dma = s.dma := rfl
@[simp] theorem State.coll_setFld (f : RField) (d i x : Nat) : (s.setFld f d i x).coll = s.coll := rfl
@[simp] theorem State.collGroups_setFld (f : RField) (d i x : Nat) : (s.setFld f d i x).collGroups = s.collGroups := rfl
@[simp] theorem State.mesh_setFld (f : RField) (d i x : Nat) : (s.setFld f d i x).mesh = s.mesh := rfl
@[simp] theorem State.plyRuns_setFld (f : RField) (d i x : Nat) : (s.setFld f d i x).plyRuns = s.plyRuns := rfl
@[simp] theorem State.banks_setFld (f : RField) (d i x : Nat) : (s.setFld f d i x).banks = s.banks := rfl
@[simp] theorem State.heat_setFld (f : RField) (d i x : Nat) : (s.setFld f d i x).heat = s.heat := rfl
@[simp] theorem State.saved_setFld (f : RField) (d i x : Nat) : (s.setFld f d i x).saved = s.saved := rfl
@[simp] theorem State.reply_setFld (f : RField) (d i x : Nat) : (s.setFld f d i x).reply = s.reply := rfl
@[simp] theorem State.free_setFld (f : RField) (d i x : Nat) : (s.setFld f d i x).free = s.free := rfl
@[simp] theorem State.pending_setFld (f : RField) (d i x : Nat) : (s.setFld f d i x).pending = s.pending := rfl
@[simp] theorem State.lat_setFld (f : RField) (d i x : Nat) (m : Lat) (e j : Nat) : (s.setFld f d i x).lat m e j = s.lat m e j := rfl
@[simp] theorem State.byte_setFld (f : RField) (d i x : Nat) (b : Nat) : (s.setFld f d i x).byte b = s.byte b := rfl
@[simp] theorem State.bytes_setFld (f : RField) (d i x : Nat) (b n : Nat) : (s.setFld f d i x).bytes b n = s.bytes b n := rfl
@[simp] theorem State.spin_setFld (f : RField) (d i x : Nat) (k : Nat) : (s.setFld f d i x).spin k = s.spin k := rfl
@[simp] theorem State.side_setFld (f : RField) (d i x : Nat) (k : Nat) : (s.setFld f d i x).side k = s.side k := rfl
@[simp] theorem State.skein_setFld (f : RField) (d i x : Nat) (e : Nat) : (s.setFld f d i x).skein e = s.skein e := rfl

@[simp] theorem State.lats_setFlag (f : RField) (d i : Nat) (b : Bool) : (s.setFlag f d i b).lats = s.lats := rfl
@[simp] theorem State.mem_setFlag (f : RField) (d i : Nat) (b : Bool) : (s.setFlag f d i b).mem = s.mem := rfl
@[simp] theorem State.spins_setFlag (f : RField) (d i : Nat) (b : Bool) : (s.setFlag f d i b).spins = s.spins := rfl
@[simp] theorem State.plies_setFlag (f : RField) (d i : Nat) (b : Bool) : (s.setFlag f d i b).plies = s.plies := rfl
@[simp] theorem State.stickyA_setFlag (f : RField) (d i : Nat) (b : Bool) : (s.setFlag f d i b).stickyA = s.stickyA := rfl
@[simp] theorem State.stickyB_setFlag (f : RField) (d i : Nat) (b : Bool) : (s.setFlag f d i b).stickyB = s.stickyB := rfl
@[simp] theorem State.sides_setFlag (f : RField) (d i : Nat) (b : Bool) : (s.setFlag f d i b).sides = s.sides := rfl
@[simp] theorem State.retLog_setFlag (f : RField) (d i : Nat) (b : Bool) : (s.setFlag f d i b).retLog = s.retLog := rfl
@[simp] theorem State.flash_setFlag (f : RField) (d i : Nat) (b : Bool) : (s.setFlag f d i b).flash = s.flash := rfl
@[simp] theorem State.skeins_setFlag (f : RField) (d i : Nat) (b : Bool) : (s.setFlag f d i b).skeins = s.skeins := rfl
@[simp] theorem State.losses_setFlag (f : RField) (d i : Nat) (b : Bool) : (s.setFlag f d i b).losses = s.losses := rfl
@[simp] theorem State.mended_setFlag (f : RField) (d i : Nat) (b : Bool) : (s.setFlag f d i b).mended = s.mended := rfl
@[simp] theorem State.flaws_setFlag (f : RField) (d i : Nat) (b : Bool) : (s.setFlag f d i b).flaws = s.flaws := rfl
@[simp] theorem State.dma_setFlag (f : RField) (d i : Nat) (b : Bool) : (s.setFlag f d i b).dma = s.dma := rfl
@[simp] theorem State.coll_setFlag (f : RField) (d i : Nat) (b : Bool) : (s.setFlag f d i b).coll = s.coll := rfl
@[simp] theorem State.collGroups_setFlag (f : RField) (d i : Nat) (b : Bool) : (s.setFlag f d i b).collGroups = s.collGroups := rfl
@[simp] theorem State.mesh_setFlag (f : RField) (d i : Nat) (b : Bool) : (s.setFlag f d i b).mesh = s.mesh := rfl
@[simp] theorem State.plyRuns_setFlag (f : RField) (d i : Nat) (b : Bool) : (s.setFlag f d i b).plyRuns = s.plyRuns := rfl
@[simp] theorem State.banks_setFlag (f : RField) (d i : Nat) (b : Bool) : (s.setFlag f d i b).banks = s.banks := rfl
@[simp] theorem State.heat_setFlag (f : RField) (d i : Nat) (b : Bool) : (s.setFlag f d i b).heat = s.heat := rfl
@[simp] theorem State.saved_setFlag (f : RField) (d i : Nat) (b : Bool) : (s.setFlag f d i b).saved = s.saved := rfl
@[simp] theorem State.reply_setFlag (f : RField) (d i : Nat) (b : Bool) : (s.setFlag f d i b).reply = s.reply := rfl
@[simp] theorem State.free_setFlag (f : RField) (d i : Nat) (b : Bool) : (s.setFlag f d i b).free = s.free := rfl
@[simp] theorem State.pending_setFlag (f : RField) (d i : Nat) (b : Bool) : (s.setFlag f d i b).pending = s.pending := rfl
@[simp] theorem State.lat_setFlag (f : RField) (d i : Nat) (b : Bool) (m : Lat) (e j : Nat) : (s.setFlag f d i b).lat m e j = s.lat m e j := rfl
@[simp] theorem State.byte_setFlag (f : RField) (d i : Nat) (b : Bool) (b' : Nat) : (s.setFlag f d i b).byte b' = s.byte b' := rfl
@[simp] theorem State.bytes_setFlag (f : RField) (d i : Nat) (b : Bool) (b' n : Nat) : (s.setFlag f d i b).bytes b' n = s.bytes b' n := rfl
@[simp] theorem State.spin_setFlag (f : RField) (d i : Nat) (b : Bool) (k : Nat) : (s.setFlag f d i b).spin k = s.spin k := rfl
@[simp] theorem State.side_setFlag (f : RField) (d i : Nat) (b : Bool) (k : Nat) : (s.setFlag f d i b).side k = s.side k := rfl
@[simp] theorem State.skein_setFlag (f : RField) (d i : Nat) (b : Bool) (e : Nat) : (s.setFlag f d i b).skein e = s.skein e := rfl

@[simp] theorem State.regs_setFlaw (a x : Nat) : (s.setFlaw a x).regs = s.regs := rfl
@[simp] theorem State.lats_setFlaw (a x : Nat) : (s.setFlaw a x).lats = s.lats := rfl
@[simp] theorem State.mem_setFlaw (a x : Nat) : (s.setFlaw a x).mem = s.mem := rfl
@[simp] theorem State.spins_setFlaw (a x : Nat) : (s.setFlaw a x).spins = s.spins := rfl
@[simp] theorem State.plies_setFlaw (a x : Nat) : (s.setFlaw a x).plies = s.plies := rfl
@[simp] theorem State.stickyA_setFlaw (a x : Nat) : (s.setFlaw a x).stickyA = s.stickyA := rfl
@[simp] theorem State.stickyB_setFlaw (a x : Nat) : (s.setFlaw a x).stickyB = s.stickyB := rfl
@[simp] theorem State.sides_setFlaw (a x : Nat) : (s.setFlaw a x).sides = s.sides := rfl
@[simp] theorem State.retLog_setFlaw (a x : Nat) : (s.setFlaw a x).retLog = s.retLog := rfl
@[simp] theorem State.flash_setFlaw (a x : Nat) : (s.setFlaw a x).flash = s.flash := rfl
@[simp] theorem State.skeins_setFlaw (a x : Nat) : (s.setFlaw a x).skeins = s.skeins := rfl
@[simp] theorem State.losses_setFlaw (a x : Nat) : (s.setFlaw a x).losses = s.losses := rfl
@[simp] theorem State.mended_setFlaw (a x : Nat) : (s.setFlaw a x).mended = s.mended := rfl
@[simp] theorem State.dma_setFlaw (a x : Nat) : (s.setFlaw a x).dma = s.dma := rfl
@[simp] theorem State.coll_setFlaw (a x : Nat) : (s.setFlaw a x).coll = s.coll := rfl
@[simp] theorem State.collGroups_setFlaw (a x : Nat) : (s.setFlaw a x).collGroups = s.collGroups := rfl
@[simp] theorem State.mesh_setFlaw (a x : Nat) : (s.setFlaw a x).mesh = s.mesh := rfl
@[simp] theorem State.plyRuns_setFlaw (a x : Nat) : (s.setFlaw a x).plyRuns = s.plyRuns := rfl
@[simp] theorem State.banks_setFlaw (a x : Nat) : (s.setFlaw a x).banks = s.banks := rfl
@[simp] theorem State.heat_setFlaw (a x : Nat) : (s.setFlaw a x).heat = s.heat := rfl
@[simp] theorem State.saved_setFlaw (a x : Nat) : (s.setFlaw a x).saved = s.saved := rfl
@[simp] theorem State.reply_setFlaw (a x : Nat) : (s.setFlaw a x).reply = s.reply := rfl
@[simp] theorem State.free_setFlaw (a x : Nat) : (s.setFlaw a x).free = s.free := rfl
@[simp] theorem State.pending_setFlaw (a x : Nat) : (s.setFlaw a x).pending = s.pending := rfl
@[simp] theorem State.reg_setFlaw (a x : Nat) (q : Reg) (e j : Nat) : (s.setFlaw a x).reg q e j = s.reg q e j := rfl
@[simp] theorem State.lat_setFlaw (a x : Nat) (m : Lat) (e j : Nat) : (s.setFlaw a x).lat m e j = s.lat m e j := rfl
@[simp] theorem State.byte_setFlaw (a x : Nat) (b : Nat) : (s.setFlaw a x).byte b = s.byte b := rfl
@[simp] theorem State.bytes_setFlaw (a x : Nat) (b n : Nat) : (s.setFlaw a x).bytes b n = s.bytes b n := rfl
@[simp] theorem State.spin_setFlaw (a x : Nat) (k : Nat) : (s.setFlaw a x).spin k = s.spin k := rfl
@[simp] theorem State.side_setFlaw (a x : Nat) (k : Nat) : (s.setFlaw a x).side k = s.side k := rfl
@[simp] theorem State.skein_setFlaw (a x : Nat) (e : Nat) : (s.setFlaw a x).skein e = s.skein e := rfl
@[simp] theorem State.fld_setFlaw (a x : Nat) (g : RField) (e j : Nat) : (s.setFlaw a x).fld g e j = s.fld g e j := rfl

@[simp] theorem State.regs_meshSend (d l : Nat) (x : MeshFlit) : (s.meshSend d l x).regs = s.regs := by rfl
@[simp] theorem State.lats_meshSend (d l : Nat) (x : MeshFlit) : (s.meshSend d l x).lats = s.lats := by rfl
@[simp] theorem State.mem_meshSend (d l : Nat) (x : MeshFlit) : (s.meshSend d l x).mem = s.mem := by rfl
@[simp] theorem State.spins_meshSend (d l : Nat) (x : MeshFlit) : (s.meshSend d l x).spins = s.spins := by rfl
@[simp] theorem State.plies_meshSend (d l : Nat) (x : MeshFlit) : (s.meshSend d l x).plies = s.plies := by rfl
@[simp] theorem State.stickyA_meshSend (d l : Nat) (x : MeshFlit) : (s.meshSend d l x).stickyA = s.stickyA := by rfl
@[simp] theorem State.stickyB_meshSend (d l : Nat) (x : MeshFlit) : (s.meshSend d l x).stickyB = s.stickyB := by rfl
@[simp] theorem State.sides_meshSend (d l : Nat) (x : MeshFlit) : (s.meshSend d l x).sides = s.sides := by rfl
@[simp] theorem State.retLog_meshSend (d l : Nat) (x : MeshFlit) : (s.meshSend d l x).retLog = s.retLog := by rfl
@[simp] theorem State.flash_meshSend (d l : Nat) (x : MeshFlit) : (s.meshSend d l x).flash = s.flash := by rfl
@[simp] theorem State.skeins_meshSend (d l : Nat) (x : MeshFlit) : (s.meshSend d l x).skeins = s.skeins := by rfl
@[simp] theorem State.losses_meshSend (d l : Nat) (x : MeshFlit) : (s.meshSend d l x).losses = s.losses := by rfl
@[simp] theorem State.mended_meshSend (d l : Nat) (x : MeshFlit) : (s.meshSend d l x).mended = s.mended := by rfl
@[simp] theorem State.flaws_meshSend (d l : Nat) (x : MeshFlit) : (s.meshSend d l x).flaws = s.flaws := by rfl
@[simp] theorem State.dma_meshSend (d l : Nat) (x : MeshFlit) : (s.meshSend d l x).dma = s.dma := by rfl
@[simp] theorem State.coll_meshSend (d l : Nat) (x : MeshFlit) : (s.meshSend d l x).coll = s.coll := by rfl
@[simp] theorem State.collGroups_meshSend (d l : Nat) (x : MeshFlit) : (s.meshSend d l x).collGroups = s.collGroups := by rfl
@[simp] theorem State.plyRuns_meshSend (d l : Nat) (x : MeshFlit) : (s.meshSend d l x).plyRuns = s.plyRuns := by rfl
@[simp] theorem State.banks_meshSend (d l : Nat) (x : MeshFlit) : (s.meshSend d l x).banks = s.banks := by rfl
@[simp] theorem State.heat_meshSend (d l : Nat) (x : MeshFlit) : (s.meshSend d l x).heat = s.heat := by rfl
@[simp] theorem State.saved_meshSend (d l : Nat) (x : MeshFlit) : (s.meshSend d l x).saved = s.saved := by rfl
@[simp] theorem State.reply_meshSend (d l : Nat) (x : MeshFlit) : (s.meshSend d l x).reply = s.reply := by rfl
@[simp] theorem State.free_meshSend (d l : Nat) (x : MeshFlit) : (s.meshSend d l x).free = s.free := by rfl
@[simp] theorem State.pending_meshSend (d l : Nat) (x : MeshFlit) : (s.meshSend d l x).pending = s.pending := by rfl
@[simp] theorem State.reg_meshSend (d l : Nat) (x : MeshFlit) (q : Reg) (e j : Nat) : (s.meshSend d l x).reg q e j = s.reg q e j := by rfl
@[simp] theorem State.lat_meshSend (d l : Nat) (x : MeshFlit) (m : Lat) (e j : Nat) : (s.meshSend d l x).lat m e j = s.lat m e j := by rfl
@[simp] theorem State.byte_meshSend (d l : Nat) (x : MeshFlit) (b : Nat) : (s.meshSend d l x).byte b = s.byte b := by rfl
@[simp] theorem State.bytes_meshSend (d l : Nat) (x : MeshFlit) (b n : Nat) : (s.meshSend d l x).bytes b n = s.bytes b n := by rfl
@[simp] theorem State.spin_meshSend (d l : Nat) (x : MeshFlit) (k : Nat) : (s.meshSend d l x).spin k = s.spin k := by rfl
@[simp] theorem State.side_meshSend (d l : Nat) (x : MeshFlit) (k : Nat) : (s.meshSend d l x).side k = s.side k := by rfl
@[simp] theorem State.skein_meshSend (d l : Nat) (x : MeshFlit) (e : Nat) : (s.meshSend d l x).skein e = s.skein e := by rfl
@[simp] theorem State.fld_meshSend (d l : Nat) (x : MeshFlit) (g : RField) (e j : Nat) : (s.meshSend d l x).fld g e j = s.fld g e j := by rfl

@[simp] theorem State.regs_setBankQueue (b : Bank) (q : List BankWait) : (s.setBankQueue b q).regs = s.regs := rfl
@[simp] theorem State.lats_setBankQueue (b : Bank) (q : List BankWait) : (s.setBankQueue b q).lats = s.lats := rfl
@[simp] theorem State.mem_setBankQueue (b : Bank) (q : List BankWait) : (s.setBankQueue b q).mem = s.mem := rfl
@[simp] theorem State.spins_setBankQueue (b : Bank) (q : List BankWait) : (s.setBankQueue b q).spins = s.spins := rfl
@[simp] theorem State.plies_setBankQueue (b : Bank) (q : List BankWait) : (s.setBankQueue b q).plies = s.plies := rfl
@[simp] theorem State.stickyA_setBankQueue (b : Bank) (q : List BankWait) : (s.setBankQueue b q).stickyA = s.stickyA := rfl
@[simp] theorem State.stickyB_setBankQueue (b : Bank) (q : List BankWait) : (s.setBankQueue b q).stickyB = s.stickyB := rfl
@[simp] theorem State.sides_setBankQueue (b : Bank) (q : List BankWait) : (s.setBankQueue b q).sides = s.sides := rfl
@[simp] theorem State.retLog_setBankQueue (b : Bank) (q : List BankWait) : (s.setBankQueue b q).retLog = s.retLog := rfl
@[simp] theorem State.flash_setBankQueue (b : Bank) (q : List BankWait) : (s.setBankQueue b q).flash = s.flash := rfl
@[simp] theorem State.skeins_setBankQueue (b : Bank) (q : List BankWait) : (s.setBankQueue b q).skeins = s.skeins := rfl
@[simp] theorem State.losses_setBankQueue (b : Bank) (q : List BankWait) : (s.setBankQueue b q).losses = s.losses := rfl
@[simp] theorem State.mended_setBankQueue (b : Bank) (q : List BankWait) : (s.setBankQueue b q).mended = s.mended := rfl
@[simp] theorem State.flaws_setBankQueue (b : Bank) (q : List BankWait) : (s.setBankQueue b q).flaws = s.flaws := rfl
@[simp] theorem State.dma_setBankQueue (b : Bank) (q : List BankWait) : (s.setBankQueue b q).dma = s.dma := rfl
@[simp] theorem State.coll_setBankQueue (b : Bank) (q : List BankWait) : (s.setBankQueue b q).coll = s.coll := rfl
@[simp] theorem State.collGroups_setBankQueue (b : Bank) (q : List BankWait) : (s.setBankQueue b q).collGroups = s.collGroups := rfl
@[simp] theorem State.mesh_setBankQueue (b : Bank) (q : List BankWait) : (s.setBankQueue b q).mesh = s.mesh := rfl
@[simp] theorem State.plyRuns_setBankQueue (b : Bank) (q : List BankWait) : (s.setBankQueue b q).plyRuns = s.plyRuns := rfl
@[simp] theorem State.heat_setBankQueue (b : Bank) (q : List BankWait) : (s.setBankQueue b q).heat = s.heat := rfl
@[simp] theorem State.saved_setBankQueue (b : Bank) (q : List BankWait) : (s.setBankQueue b q).saved = s.saved := rfl
@[simp] theorem State.reply_setBankQueue (b : Bank) (q : List BankWait) : (s.setBankQueue b q).reply = s.reply := rfl
@[simp] theorem State.free_setBankQueue (b : Bank) (q : List BankWait) : (s.setBankQueue b q).free = s.free := rfl
@[simp] theorem State.pending_setBankQueue (b : Bank) (q : List BankWait) : (s.setBankQueue b q).pending = s.pending := rfl
@[simp] theorem State.reg_setBankQueue (b : Bank) (q : List BankWait) (q' : Reg) (e j : Nat) : (s.setBankQueue b q).reg q' e j = s.reg q' e j := rfl
@[simp] theorem State.lat_setBankQueue (b : Bank) (q : List BankWait) (m : Lat) (e j : Nat) : (s.setBankQueue b q).lat m e j = s.lat m e j := rfl
@[simp] theorem State.byte_setBankQueue (b : Bank) (q : List BankWait) (b' : Nat) : (s.setBankQueue b q).byte b' = s.byte b' := rfl
@[simp] theorem State.bytes_setBankQueue (b : Bank) (q : List BankWait) (b' n : Nat) : (s.setBankQueue b q).bytes b' n = s.bytes b' n := rfl
@[simp] theorem State.spin_setBankQueue (b : Bank) (q : List BankWait) (k : Nat) : (s.setBankQueue b q).spin k = s.spin k := rfl
@[simp] theorem State.side_setBankQueue (b : Bank) (q : List BankWait) (k : Nat) : (s.setBankQueue b q).side k = s.side k := rfl
@[simp] theorem State.skein_setBankQueue (b : Bank) (q : List BankWait) (e : Nat) : (s.setBankQueue b q).skein e = s.skein e := rfl
@[simp] theorem State.fld_setBankQueue (b : Bank) (q : List BankWait) (g : RField) (e j : Nat) : (s.setBankQueue b q).fld g e j = s.fld g e j := rfl

@[simp] theorem State.regs_setPlyRun (d : Nat) (x : Option PlyDesc) : (s.setPlyRun d x).regs = s.regs := rfl
@[simp] theorem State.lats_setPlyRun (d : Nat) (x : Option PlyDesc) : (s.setPlyRun d x).lats = s.lats := rfl
@[simp] theorem State.mem_setPlyRun (d : Nat) (x : Option PlyDesc) : (s.setPlyRun d x).mem = s.mem := rfl
@[simp] theorem State.spins_setPlyRun (d : Nat) (x : Option PlyDesc) : (s.setPlyRun d x).spins = s.spins := rfl
@[simp] theorem State.plies_setPlyRun (d : Nat) (x : Option PlyDesc) : (s.setPlyRun d x).plies = s.plies := rfl
@[simp] theorem State.stickyA_setPlyRun (d : Nat) (x : Option PlyDesc) : (s.setPlyRun d x).stickyA = s.stickyA := rfl
@[simp] theorem State.stickyB_setPlyRun (d : Nat) (x : Option PlyDesc) : (s.setPlyRun d x).stickyB = s.stickyB := rfl
@[simp] theorem State.sides_setPlyRun (d : Nat) (x : Option PlyDesc) : (s.setPlyRun d x).sides = s.sides := rfl
@[simp] theorem State.retLog_setPlyRun (d : Nat) (x : Option PlyDesc) : (s.setPlyRun d x).retLog = s.retLog := rfl
@[simp] theorem State.flash_setPlyRun (d : Nat) (x : Option PlyDesc) : (s.setPlyRun d x).flash = s.flash := rfl
@[simp] theorem State.skeins_setPlyRun (d : Nat) (x : Option PlyDesc) : (s.setPlyRun d x).skeins = s.skeins := rfl
@[simp] theorem State.losses_setPlyRun (d : Nat) (x : Option PlyDesc) : (s.setPlyRun d x).losses = s.losses := rfl
@[simp] theorem State.mended_setPlyRun (d : Nat) (x : Option PlyDesc) : (s.setPlyRun d x).mended = s.mended := rfl
@[simp] theorem State.flaws_setPlyRun (d : Nat) (x : Option PlyDesc) : (s.setPlyRun d x).flaws = s.flaws := rfl
@[simp] theorem State.dma_setPlyRun (d : Nat) (x : Option PlyDesc) : (s.setPlyRun d x).dma = s.dma := rfl
@[simp] theorem State.coll_setPlyRun (d : Nat) (x : Option PlyDesc) : (s.setPlyRun d x).coll = s.coll := rfl
@[simp] theorem State.collGroups_setPlyRun (d : Nat) (x : Option PlyDesc) : (s.setPlyRun d x).collGroups = s.collGroups := rfl
@[simp] theorem State.mesh_setPlyRun (d : Nat) (x : Option PlyDesc) : (s.setPlyRun d x).mesh = s.mesh := rfl
@[simp] theorem State.banks_setPlyRun (d : Nat) (x : Option PlyDesc) : (s.setPlyRun d x).banks = s.banks := rfl
@[simp] theorem State.heat_setPlyRun (d : Nat) (x : Option PlyDesc) : (s.setPlyRun d x).heat = s.heat := rfl
@[simp] theorem State.saved_setPlyRun (d : Nat) (x : Option PlyDesc) : (s.setPlyRun d x).saved = s.saved := rfl
@[simp] theorem State.reply_setPlyRun (d : Nat) (x : Option PlyDesc) : (s.setPlyRun d x).reply = s.reply := rfl
@[simp] theorem State.free_setPlyRun (d : Nat) (x : Option PlyDesc) : (s.setPlyRun d x).free = s.free := rfl
@[simp] theorem State.pending_setPlyRun (d : Nat) (x : Option PlyDesc) : (s.setPlyRun d x).pending = s.pending := rfl
@[simp] theorem State.reg_setPlyRun (d : Nat) (x : Option PlyDesc) (q : Reg) (e j : Nat) : (s.setPlyRun d x).reg q e j = s.reg q e j := rfl
@[simp] theorem State.lat_setPlyRun (d : Nat) (x : Option PlyDesc) (m : Lat) (e j : Nat) : (s.setPlyRun d x).lat m e j = s.lat m e j := rfl
@[simp] theorem State.byte_setPlyRun (d : Nat) (x : Option PlyDesc) (b : Nat) : (s.setPlyRun d x).byte b = s.byte b := rfl
@[simp] theorem State.bytes_setPlyRun (d : Nat) (x : Option PlyDesc) (b n : Nat) : (s.setPlyRun d x).bytes b n = s.bytes b n := rfl
@[simp] theorem State.spin_setPlyRun (d : Nat) (x : Option PlyDesc) (k : Nat) : (s.setPlyRun d x).spin k = s.spin k := rfl
@[simp] theorem State.side_setPlyRun (d : Nat) (x : Option PlyDesc) (k : Nat) : (s.setPlyRun d x).side k = s.side k := rfl
@[simp] theorem State.skein_setPlyRun (d : Nat) (x : Option PlyDesc) (e : Nat) : (s.setPlyRun d x).skein e = s.skein e := rfl
@[simp] theorem State.fld_setPlyRun (d : Nat) (x : Option PlyDesc) (g : RField) (e j : Nat) : (s.setPlyRun d x).fld g e j = s.fld g e j := rfl

@[simp] theorem State.regs_dropWaits (d : Nat) : (s.dropWaits d).regs = s.regs := rfl
@[simp] theorem State.lats_dropWaits (d : Nat) : (s.dropWaits d).lats = s.lats := rfl
@[simp] theorem State.mem_dropWaits (d : Nat) : (s.dropWaits d).mem = s.mem := rfl
@[simp] theorem State.spins_dropWaits (d : Nat) : (s.dropWaits d).spins = s.spins := rfl
@[simp] theorem State.plies_dropWaits (d : Nat) : (s.dropWaits d).plies = s.plies := rfl
@[simp] theorem State.stickyA_dropWaits (d : Nat) : (s.dropWaits d).stickyA = s.stickyA := rfl
@[simp] theorem State.stickyB_dropWaits (d : Nat) : (s.dropWaits d).stickyB = s.stickyB := rfl
@[simp] theorem State.sides_dropWaits (d : Nat) : (s.dropWaits d).sides = s.sides := rfl
@[simp] theorem State.retLog_dropWaits (d : Nat) : (s.dropWaits d).retLog = s.retLog := rfl
@[simp] theorem State.flash_dropWaits (d : Nat) : (s.dropWaits d).flash = s.flash := rfl
@[simp] theorem State.skeins_dropWaits (d : Nat) : (s.dropWaits d).skeins = s.skeins := rfl
@[simp] theorem State.losses_dropWaits (d : Nat) : (s.dropWaits d).losses = s.losses := rfl
@[simp] theorem State.mended_dropWaits (d : Nat) : (s.dropWaits d).mended = s.mended := rfl
@[simp] theorem State.flaws_dropWaits (d : Nat) : (s.dropWaits d).flaws = s.flaws := rfl
@[simp] theorem State.dma_dropWaits (d : Nat) : (s.dropWaits d).dma = s.dma := rfl
@[simp] theorem State.coll_dropWaits (d : Nat) : (s.dropWaits d).coll = s.coll := rfl
@[simp] theorem State.collGroups_dropWaits (d : Nat) : (s.dropWaits d).collGroups = s.collGroups := rfl
@[simp] theorem State.mesh_dropWaits (d : Nat) : (s.dropWaits d).mesh = s.mesh := rfl
@[simp] theorem State.plyRuns_dropWaits (d : Nat) : (s.dropWaits d).plyRuns = s.plyRuns := rfl
@[simp] theorem State.heat_dropWaits (d : Nat) : (s.dropWaits d).heat = s.heat := rfl
@[simp] theorem State.saved_dropWaits (d : Nat) : (s.dropWaits d).saved = s.saved := rfl
@[simp] theorem State.reply_dropWaits (d : Nat) : (s.dropWaits d).reply = s.reply := rfl
@[simp] theorem State.free_dropWaits (d : Nat) : (s.dropWaits d).free = s.free := rfl
@[simp] theorem State.pending_dropWaits (d : Nat) : (s.dropWaits d).pending = s.pending := rfl
@[simp] theorem State.reg_dropWaits (d : Nat) (q : Reg) (e j : Nat) : (s.dropWaits d).reg q e j = s.reg q e j := rfl
@[simp] theorem State.lat_dropWaits (d : Nat) (m : Lat) (e j : Nat) : (s.dropWaits d).lat m e j = s.lat m e j := rfl
@[simp] theorem State.byte_dropWaits (d : Nat) (b : Nat) : (s.dropWaits d).byte b = s.byte b := rfl
@[simp] theorem State.bytes_dropWaits (d : Nat) (b n : Nat) : (s.dropWaits d).bytes b n = s.bytes b n := rfl
@[simp] theorem State.spin_dropWaits (d : Nat) (k : Nat) : (s.dropWaits d).spin k = s.spin k := rfl
@[simp] theorem State.side_dropWaits (d : Nat) (k : Nat) : (s.dropWaits d).side k = s.side k := rfl
@[simp] theorem State.skein_dropWaits (d : Nat) (e : Nat) : (s.dropWaits d).skein e = s.skein e := rfl
@[simp] theorem State.fld_dropWaits (d : Nat) (g : RField) (e j : Nat) : (s.dropWaits d).fld g e j = s.fld g e j := rfl

@[simp] theorem State.lats_incFld (f : RField) (d i n : Nat) : (s.incFld f d i n).lats = s.lats := rfl
@[simp] theorem State.mem_incFld (f : RField) (d i n : Nat) : (s.incFld f d i n).mem = s.mem := rfl
@[simp] theorem State.spins_incFld (f : RField) (d i n : Nat) : (s.incFld f d i n).spins = s.spins := rfl
@[simp] theorem State.plies_incFld (f : RField) (d i n : Nat) : (s.incFld f d i n).plies = s.plies := rfl
@[simp] theorem State.stickyA_incFld (f : RField) (d i n : Nat) : (s.incFld f d i n).stickyA = s.stickyA := rfl
@[simp] theorem State.stickyB_incFld (f : RField) (d i n : Nat) : (s.incFld f d i n).stickyB = s.stickyB := rfl
@[simp] theorem State.sides_incFld (f : RField) (d i n : Nat) : (s.incFld f d i n).sides = s.sides := rfl
@[simp] theorem State.retLog_incFld (f : RField) (d i n : Nat) : (s.incFld f d i n).retLog = s.retLog := rfl
@[simp] theorem State.flash_incFld (f : RField) (d i n : Nat) : (s.incFld f d i n).flash = s.flash := rfl
@[simp] theorem State.skeins_incFld (f : RField) (d i n : Nat) : (s.incFld f d i n).skeins = s.skeins := rfl
@[simp] theorem State.losses_incFld (f : RField) (d i n : Nat) : (s.incFld f d i n).losses = s.losses := rfl
@[simp] theorem State.mended_incFld (f : RField) (d i n : Nat) : (s.incFld f d i n).mended = s.mended := rfl
@[simp] theorem State.flaws_incFld (f : RField) (d i n : Nat) : (s.incFld f d i n).flaws = s.flaws := rfl
@[simp] theorem State.dma_incFld (f : RField) (d i n : Nat) : (s.incFld f d i n).dma = s.dma := rfl
@[simp] theorem State.coll_incFld (f : RField) (d i n : Nat) : (s.incFld f d i n).coll = s.coll := rfl
@[simp] theorem State.collGroups_incFld (f : RField) (d i n : Nat) : (s.incFld f d i n).collGroups = s.collGroups := rfl
@[simp] theorem State.mesh_incFld (f : RField) (d i n : Nat) : (s.incFld f d i n).mesh = s.mesh := rfl
@[simp] theorem State.plyRuns_incFld (f : RField) (d i n : Nat) : (s.incFld f d i n).plyRuns = s.plyRuns := rfl
@[simp] theorem State.banks_incFld (f : RField) (d i n : Nat) : (s.incFld f d i n).banks = s.banks := rfl
@[simp] theorem State.heat_incFld (f : RField) (d i n : Nat) : (s.incFld f d i n).heat = s.heat := rfl
@[simp] theorem State.saved_incFld (f : RField) (d i n : Nat) : (s.incFld f d i n).saved = s.saved := rfl
@[simp] theorem State.reply_incFld (f : RField) (d i n : Nat) : (s.incFld f d i n).reply = s.reply := rfl
@[simp] theorem State.free_incFld (f : RField) (d i n : Nat) : (s.incFld f d i n).free = s.free := rfl
@[simp] theorem State.pending_incFld (f : RField) (d i n : Nat) : (s.incFld f d i n).pending = s.pending := rfl
@[simp] theorem State.lat_incFld (f : RField) (d i n : Nat) (m : Lat) (e j : Nat) : (s.incFld f d i n).lat m e j = s.lat m e j := rfl
@[simp] theorem State.byte_incFld (f : RField) (d i n : Nat) (b : Nat) : (s.incFld f d i n).byte b = s.byte b := rfl
@[simp] theorem State.bytes_incFld (f : RField) (d i n : Nat) (b n' : Nat) : (s.incFld f d i n).bytes b n' = s.bytes b n' := rfl
@[simp] theorem State.spin_incFld (f : RField) (d i n : Nat) (k : Nat) : (s.incFld f d i n).spin k = s.spin k := rfl
@[simp] theorem State.side_incFld (f : RField) (d i n : Nat) (k : Nat) : (s.incFld f d i n).side k = s.side k := rfl
@[simp] theorem State.skein_incFld (f : RField) (d i n : Nat) (e : Nat) : (s.incFld f d i n).skein e = s.skein e := rfl

@[simp] theorem State.lats_satFld (f : RField) (d i n : Nat) : (s.satFld f d i n).lats = s.lats := rfl
@[simp] theorem State.mem_satFld (f : RField) (d i n : Nat) : (s.satFld f d i n).mem = s.mem := rfl
@[simp] theorem State.spins_satFld (f : RField) (d i n : Nat) : (s.satFld f d i n).spins = s.spins := rfl
@[simp] theorem State.plies_satFld (f : RField) (d i n : Nat) : (s.satFld f d i n).plies = s.plies := rfl
@[simp] theorem State.stickyA_satFld (f : RField) (d i n : Nat) : (s.satFld f d i n).stickyA = s.stickyA := rfl
@[simp] theorem State.stickyB_satFld (f : RField) (d i n : Nat) : (s.satFld f d i n).stickyB = s.stickyB := rfl
@[simp] theorem State.sides_satFld (f : RField) (d i n : Nat) : (s.satFld f d i n).sides = s.sides := rfl
@[simp] theorem State.retLog_satFld (f : RField) (d i n : Nat) : (s.satFld f d i n).retLog = s.retLog := rfl
@[simp] theorem State.flash_satFld (f : RField) (d i n : Nat) : (s.satFld f d i n).flash = s.flash := rfl
@[simp] theorem State.skeins_satFld (f : RField) (d i n : Nat) : (s.satFld f d i n).skeins = s.skeins := rfl
@[simp] theorem State.losses_satFld (f : RField) (d i n : Nat) : (s.satFld f d i n).losses = s.losses := rfl
@[simp] theorem State.mended_satFld (f : RField) (d i n : Nat) : (s.satFld f d i n).mended = s.mended := rfl
@[simp] theorem State.flaws_satFld (f : RField) (d i n : Nat) : (s.satFld f d i n).flaws = s.flaws := rfl
@[simp] theorem State.dma_satFld (f : RField) (d i n : Nat) : (s.satFld f d i n).dma = s.dma := rfl
@[simp] theorem State.coll_satFld (f : RField) (d i n : Nat) : (s.satFld f d i n).coll = s.coll := rfl
@[simp] theorem State.collGroups_satFld (f : RField) (d i n : Nat) : (s.satFld f d i n).collGroups = s.collGroups := rfl
@[simp] theorem State.mesh_satFld (f : RField) (d i n : Nat) : (s.satFld f d i n).mesh = s.mesh := rfl
@[simp] theorem State.plyRuns_satFld (f : RField) (d i n : Nat) : (s.satFld f d i n).plyRuns = s.plyRuns := rfl
@[simp] theorem State.banks_satFld (f : RField) (d i n : Nat) : (s.satFld f d i n).banks = s.banks := rfl
@[simp] theorem State.heat_satFld (f : RField) (d i n : Nat) : (s.satFld f d i n).heat = s.heat := rfl
@[simp] theorem State.saved_satFld (f : RField) (d i n : Nat) : (s.satFld f d i n).saved = s.saved := rfl
@[simp] theorem State.reply_satFld (f : RField) (d i n : Nat) : (s.satFld f d i n).reply = s.reply := rfl
@[simp] theorem State.free_satFld (f : RField) (d i n : Nat) : (s.satFld f d i n).free = s.free := rfl
@[simp] theorem State.pending_satFld (f : RField) (d i n : Nat) : (s.satFld f d i n).pending = s.pending := rfl
@[simp] theorem State.lat_satFld (f : RField) (d i n : Nat) (m : Lat) (e j : Nat) : (s.satFld f d i n).lat m e j = s.lat m e j := rfl
@[simp] theorem State.byte_satFld (f : RField) (d i n : Nat) (b : Nat) : (s.satFld f d i n).byte b = s.byte b := rfl
@[simp] theorem State.bytes_satFld (f : RField) (d i n : Nat) (b n' : Nat) : (s.satFld f d i n).bytes b n' = s.bytes b n' := rfl
@[simp] theorem State.spin_satFld (f : RField) (d i n : Nat) (k : Nat) : (s.satFld f d i n).spin k = s.spin k := rfl
@[simp] theorem State.side_satFld (f : RField) (d i n : Nat) (k : Nat) : (s.satFld f d i n).side k = s.side k := rfl
@[simp] theorem State.skein_satFld (f : RField) (d i n : Nat) (e : Nat) : (s.satFld f d i n).skein e = s.skein e := rfl

/-! ## The queue of commands is not read -/

@[simp] theorem State.reg_pending (q : Reg) (e j : Nat) (q' : List Instr) : ({ s with pending := q' } : State).reg q e j = s.reg q e j := rfl
@[simp] theorem State.lat_pending (m : Lat) (e j : Nat) (q' : List Instr) : ({ s with pending := q' } : State).lat m e j = s.lat m e j := rfl
@[simp] theorem State.byte_pending (b : Nat) (q' : List Instr) : ({ s with pending := q' } : State).byte b = s.byte b := rfl
@[simp] theorem State.bytes_pending (b n : Nat) (q' : List Instr) : ({ s with pending := q' } : State).bytes b n = s.bytes b n := rfl
@[simp] theorem State.spin_pending (k : Nat) (q' : List Instr) : ({ s with pending := q' } : State).spin k = s.spin k := rfl
@[simp] theorem State.side_pending (k : Nat) (q' : List Instr) : ({ s with pending := q' } : State).side k = s.side k := rfl
@[simp] theorem State.skein_pending (e : Nat) (q' : List Instr) : ({ s with pending := q' } : State).skein e = s.skein e := rfl
@[simp] theorem State.fld_pending (g : RField) (e j : Nat) (q' : List Instr) : ({ s with pending := q' } : State).fld g e j = s.fld g e j := rfl

/-! ## Registers -/

/-- Names of registers are told apart by their numbers. -/
theorem regId_inj {r q : Reg} (h : regId r = regId q) : r = q := by
  rw [← Reg.ofNat_ctorIdx r, ← Reg.ofNat_ctorIdx q]; exact congrArg Reg.ofNat h

/-- Two keys of the store agree exactly where the names, the homes and the indices do. -/
theorem regKey_eq_iff {r q : Reg} {d e i j : Nat} :
    regKey r d i = regKey q e j ↔ r = q ∧ regHome r d = regHome q e ∧ i = j := by
  constructor
  · intro h
    obtain ⟨h1, h2⟩ := Nat.pair_eq_pair.1 h
    obtain ⟨h3, h4⟩ := Nat.pair_eq_pair.1 h2
    exact ⟨regId_inj h1, h3, h4⟩
  · rintro ⟨rfl, h, rfl⟩; simp only [regKey, h]

/-- A register of a shared block is the same under every die (Table FL-8). -/
theorem State.reg_home (r : Reg) {d e : Nat} (i : Nat) (h : regHome r d = regHome r e) : s.reg r d i = s.reg r e i := by
  simp only [State.reg, regKey, h]

/-- Reading a register that was set. -/
theorem State.reg_setReg (r q : Reg) (d e i j : Nat) (v : W64) :
    (s.setReg r d i v).reg q e j = if q = r ∧ regHome q e = regHome r d ∧ j = i then v else s.reg q e j := by
  split
  · next h =>
    obtain ⟨rfl, h, rfl⟩ := h
    have k : regKey q e j = regKey q d j := regKey_eq_iff.2 ⟨rfl, h, rfl⟩
    simp only [State.reg, State.setReg, k, h, sget_sset_self]
  · next h =>
    have k : regKey q e j ≠ regKey r d i := fun k => h (regKey_eq_iff.1 k)
    simp only [State.reg, State.setReg]
    exact sget_sset_ne s.regs v k

@[simp] theorem State.reg_setReg_self (r : Reg) (d i : Nat) (v : W64) : (s.setReg r d i v).reg r d i = v := by
  simp [State.reg_setReg]

/-- A register of another name is left alone. -/
theorem State.reg_setReg_name {r q : Reg} (h : q ≠ r) (d e i j : Nat) (v : W64) :
    (s.setReg r d i v).reg q e j = s.reg q e j := by rw [State.reg_setReg, if_neg fun k => h k.1]

/-- Reading the field that was set gives the value, cut to the field's width. -/
theorem State.fld_setFld_self (f : RField) (d i x : Nat) (h : f.hi < 64) :
    (s.setFld f d i x).fld f d i = x % 2 ^ (f.hi + 1 - f.lo) := by
  simp [State.fld, State.setFld, getBits_setBits _ _ _ _ h]

/-- A field of a register of another name is left alone. -/
theorem State.fld_setFld_name {f g : RField} (h : g.reg ≠ f.reg) (d e i j x : Nat) :
    (s.setFld f d i x).fld g e j = s.fld g e j := by
  simp only [State.fld, State.setFld, State.reg_setReg_name s h]

/-- Another field of the same register is left alone. -/
theorem State.fld_setFld_disjoint {f g : RField} (h : g.reg = f.reg) (b : g.hi < f.lo ∨ f.hi < g.lo) (d e i j x : Nat) :
    (s.setFld f d i x).fld g e j = s.fld g e j := by
  simp only [State.fld, State.setFld, h, State.reg_setReg]
  split
  · next k => rw [getBits_setBits_disjoint _ _ _ _ _ _ b, k.2.2, State.reg_home s f.reg i k.2.1]
  · rfl

/-! ## Latches -/

/-- Names of latches are told apart by their numbers. -/
theorem latId_inj {l m : Lat} (h : latId l = latId m) : l = m := by
  rw [← Lat.ofNat_ctorIdx l, ← Lat.ofNat_ctorIdx m]; exact congrArg Lat.ofNat h

/-- Reading a latch that was set. -/
theorem State.lat_setLat (l m : Lat) (d e i j v : Nat) :
    (s.setLat l d i v).lat m e j = if m = l ∧ e = d ∧ j = i then v else s.lat m e j := by
  split
  · next h => obtain ⟨rfl, rfl, rfl⟩ := h; simp only [State.lat, State.setLat, sget_sset_self]
  · next h =>
    simp only [State.lat, State.setLat]
    refine sget_sset_ne s.lats v fun k => h ?_
    obtain ⟨h1, h2⟩ := Nat.pair_eq_pair.1 k
    obtain ⟨h3, h4⟩ := Nat.pair_eq_pair.1 h2
    exact ⟨latId_inj h1, h3, h4⟩

@[simp] theorem State.lat_setLat_self (l : Lat) (d i v : Nat) : (s.setLat l d i v).lat l d i = v := by
  simp [State.lat_setLat]

/-- A latch of another name is left alone. -/
theorem State.lat_setLat_name {l m : Lat} (h : m ≠ l) (d e i j v : Nat) :
    (s.setLat l d i v).lat m e j = s.lat m e j := by rw [State.lat_setLat, if_neg fun k => h k.1]

/-! ## Memory -/

/-- Reading a byte after bytes were written. -/
theorem State.byte_setBytes (a b : Nat) (bs : List Byte) :
    (s.setBytes a bs).byte b = if h : a ≤ b ∧ b - a < bs.length then bs[b - a] else s.byte b :=
  sget_ssetList s.mem a b bs

/-- A byte outside those written is left alone. -/
theorem State.byte_setBytes_of_out {a b : Nat} {bs : List Byte} (h : b < a ∨ a + bs.length ≤ b) :
    (s.setBytes a bs).byte b = s.byte b := sget_ssetList_of_out s.mem h

/-- Reading back what was written. -/
@[simp] theorem State.bytes_setBytes_self (a : Nat) (bs : List Byte) : (s.setBytes a bs).bytes a bs.length = bs :=
  sgetList_ssetList s.mem a bs

@[simp] theorem State.length_bytes (a n : Nat) : (s.bytes a n).length = n := length_sgetList s.mem a n

/-! ## Spindles, sides and skeins -/

/-- Reading a spindle after one was changed. -/
theorem State.spin_updSpin (sp k : Nat) (f : Spin → Spin) :
    (s.updSpin sp f).spin k = if k = sp then f (s.spin sp) else s.spin k := sget_sset s.spins sp k (f (s.spin sp))

@[simp] theorem State.spin_updSpin_self (sp : Nat) (f : Spin → Spin) : (s.updSpin sp f).spin sp = f (s.spin sp) := by
  simp [State.spin_updSpin]

/-- Another spindle is left alone. -/
theorem State.spin_updSpin_ne {sp k : Nat} (h : k ≠ sp) (f : Spin → Spin) : (s.updSpin sp f).spin k = s.spin k := by
  rw [State.spin_updSpin, if_neg h]

/-- Reading a side of a pair after one was set. -/
theorem State.side_setSide (a k : Nat) (x : Side) : (s.setSide a x).side k = if k = a then x else s.side k :=
  sget_sset s.sides a k x

/-- Reading a quarry's records after one's were set. -/
theorem State.skein_setSkein (d e : Nat) (l : List SkeinRec) :
    (s.setSkein d l).skein e = if e = d then l else s.skein e := sget_sset s.skeins d e l

end Sys2Proof.Machine
end

