-- ==== Sys2Proof/Laws/Memory.lean ====
section
/-! SUPPORT. Every memory operation keeps memory's canonical form, and the shared operations beside memory leave it alone. -/

namespace Sys2Proof.Machine

variable {s : State}

/-! ## Operations on memory -/

theorem State.setBytes_wf (a : Nat) (bs : List Byte) (h : Memory.wf s.mem = true) : Memory.wf (s.setBytes a bs).mem = true :=
  swf_ssetList a bs h

theorem State.clearBytes_wf (a n : Nat) (h : Memory.wf s.mem = true) : Memory.wf (s.clearBytes a n).mem = true :=
  swfFrom_filter _ h

/-- What every change of a list keeps, all of them keep. -/
theorem State.each_induct {α : Type} (P : State → Prop) (l : List α) (f : α → State → State)
    (hf : ∀ x ∈ l, ∀ t, P t → P (f x t)) (h : P s) : P (s.each l f) := by
  induction l generalizing s with
  | nil => exact h
  | cons x l ih => exact ih (fun y hy => hf y (by simp [hy])) (hf x (by simp) s h)

/-- A part of the state that no change of a list touches is kept. -/
theorem State.each_keeps {α β : Type} (g : State → β) (l : List α) (f : α → State → State)
    (hf : ∀ x ∈ l, ∀ t, g (f x t) = g t) (s : State) : g (s.each l f) = g s :=
  State.each_induct (fun t => g t = g s) l f (fun x hx t h => (hf x hx t).trans h) rfl

/-- What a change keeps, a change under a condition keeps. -/
theorem State.iff_induct (P : State → Prop) (b : Bool) (f : State → State) (hf : P s → P (f s)) (h : P s) :
    P (s.iff b f) := by
  rw [State.iff]; split
  · exact hf h
  · exact h

theorem State.clearSpans_wf (l : List (Nat × Nat)) (h : Memory.wf s.mem = true) : Memory.wf (s.clearSpans l).mem = true :=
  State.each_induct (fun t => Memory.wf t.mem = true) l _ (fun x _ _ ht => State.clearBytes_wf x.1 x.2 ht) h

theorem State.copyBytes_wf (a b n : Nat) (h : Memory.wf s.mem = true) : Memory.wf (s.copyBytes a b n).mem = true :=
  swf_foldl_sset _ _ _ (State.clearBytes_wf b n h)

theorem State.aliasWrite_wf (m : Alias) (a : Nat) (bs : List Byte) (h : Memory.wf s.mem = true) :
    Memory.wf (s.aliasWrite m a bs).mem = true := State.setBytes_wf _ _ h

/-- A cleared byte reads as one nothing has written; the others are left alone. -/
theorem State.byte_clearBytes (a n b : Nat) :
    (s.clearBytes a n).byte b = if a ≤ b ∧ b < a + n then memBlank else s.byte b := by
  simp only [State.clearBytes, State.byte]
  induction s.mem with
  | nil => simp [sget]
  | cons c m ih =>
    obtain ⟨k, v⟩ := c
    rw [List.filter_cons]
    by_cases hk : k = b
    · subst hk
      by_cases hin : a ≤ k ∧ k < a + n
      · rw [if_neg (by simp; omega), ih, if_pos hin, if_pos hin]
      · rw [if_pos (by simp; omega), if_neg hin]; simp [sget]
    · split <;> simp [sget, hk, ih]

/-! ## Operations that leave memory alone -/

@[simp] theorem State.pending_clearBytes (a n : Nat) : (s.clearBytes a n).pending = s.pending := rfl
@[simp] theorem State.mem_resetRegs (sel : Reg → Nat → Nat → Bool) (keep : Cls → Bool) : (s.resetRegs sel keep).mem = s.mem := rfl
@[simp] theorem State.mem_resetLats (sel : Nat → Nat → Nat → Bool) : (s.resetLats sel).mem = s.mem := rfl
@[simp] theorem State.mem_draw : s.draw.2.mem = s.mem := rfl

@[simp] theorem State.mem_setWreg (r : Reg) (i : Nat) (v : W64) : (s.setWreg r i v).mem = s.mem := by
  simp only [State.setWreg]; split <;> rfl

@[simp] theorem State.mem_setWfld (f : RField) (i x : Nat) : (s.setWfld f i x).mem = s.mem := State.mem_setWreg _ _ _

@[simp] theorem State.mem_satWfld (f : RField) (i n : Nat) : (s.satWfld f i n).mem = s.mem := State.mem_setWreg _ _ _

@[simp] theorem State.mem_setStickyOf (d : Nat) (k : Sticky) : (s.setStickyOf d k).mem = s.mem := by
  rw [State.setStickyOf]; split <;> rfl

@[simp] theorem State.mem_updSticky (f : Sticky → Sticky) : (s.updSticky f).mem = s.mem := by
  simp only [State.updSticky]; split <;> simp

@[simp] theorem State.mem_raiseMsix (p v : Nat) : (s.raiseMsix p v).mem = s.mem := by
  rw [State.raiseMsix]; split <;> rfl

@[simp] theorem State.mem_hostDoorbell (p : Nat) (b : W32) : (s.hostDoorbell p b).mem = s.mem := by
  simp only [State.hostDoorbell]; split <;> simp

@[simp] theorem State.mem_appendRecord (e : Nat) (r : Record) : (s.appendRecord e r).mem = s.mem := by
  unfold State.appendRecord; extract_lets t n u
  split
  · exact State.mem_satWfld _ _ _
  · have hu : u.mem = s.mem := by simp [u, t]
    split
    · rw [State.mem_hostDoorbell, hu]
    · exact hu

@[simp] theorem State.mem_event (c : Nat) (v : Sev) (u p : Nat) : (s.event c v u p).mem = s.mem := by
  unfold State.event; extract_lets e burst rate gained deficit t
  have ht : t.mem = s.mem := rfl
  split
  · rw [State.mem_setLat, State.mem_satWfld, State.mem_setLat, ht]
  · rw [State.mem_appendRecord, State.mem_setLat, ht]

@[simp] theorem State.mem_wevent (c : Nat) (v : Sev) (u p : Nat) : (s.wevent c v u p).mem = s.mem := State.mem_event _ _ _ _

@[simp] theorem State.mem_notice (sp b : Nat) : (s.notice sp b).mem = s.mem := rfl

@[simp] theorem State.mem_setSpFld (f : RField) (sp x : Nat) : (s.setSpFld f sp x).mem = s.mem := rfl

@[simp] theorem State.mem_updMates (sp : Nat) (f : Spin → Spin) : (s.updMates sp f).mem = s.mem :=
  State.each_keeps State.mem (s.mates sp) (fun m t => t.updSpin m.2 f) (fun _ _ _ => rfl) s

@[simp] theorem State.mem_setMatesFld (f : RField) (sp x : Nat) : (s.setMatesFld f sp x).mem = s.mem :=
  State.each_keeps State.mem (s.mates sp) (fun m t => t.setSpFld f m.2 x) (fun _ _ _ => rfl) s

/-! ## Time -/

@[simp] theorem State.mem_edge : s.edge.2.mem = s.mem := rfl

@[simp] theorem State.mem_idle : s.idle.mem = s.mem := by
  simp only [State.idle]
  rw [State.each_keeps State.mem]
  · simp
  · intro x _ t; split <;> simp

end Sys2Proof.Machine
end

