-- ==== Sys2Proof/Laws/Frame.lean ====
section
/-! SUPPORT. The calculus of frames: what changes nothing else, one change after another, a wider frame, and the frame of each
shared operation. -/

namespace Sys2Proof.Machine

/-- A frame allows whatever another one allows. -/
structure Change.Le (c e : Change) : Prop where
  regs : ∀ r d i, c.regs r d i = true → e.regs r d i = true
  lats : ∀ l d i, c.lats l d i = true → e.lats l d i = true
  mem : ∀ a, c.mem a = true → e.mem a = true
  spins : ∀ k, c.spins k = true → e.spins k = true
  skeins : ∀ d, c.skeins d = true → e.skeins d = true
  plies : c.plies = true → e.plies = true
  records : c.records = true → e.records = true
  tallies : c.tallies = true → e.tallies = true
  retired : c.retired = true → e.retired = true
  pairs : c.pairs = true → e.pairs = true
  flash : c.flash = true → e.flash = true
  losses : c.losses = true → e.losses = true
  dma : c.dma = true → e.dma = true
  coll : c.coll = true → e.coll = true
  reply : c.reply = true → e.reply = true
  free : c.free = true → e.free = true
  mesh : c.mesh = true → e.mesh = true
  plyRuns : c.plyRuns = true → e.plyRuns = true
  flaws : c.flaws = true → e.flaws = true
  waits : c.waits = true → e.waits = true
  heat : c.heat = true → e.heat = true

theorem false_of_imp {a b : Bool} (h : a = true → b = true) (hb : b = false) : a = false := by
  cases a
  · rfl
  · rw [h rfl] at hb; exact hb

variable {c e : Change} {s t u : State}

/-- A state differs from itself in nothing. -/
theorem Only.refl (c : Change) (s : State) : Only c s s := by
  simp [Only]

/-- One change after another. -/
theorem Only.trans (h : Only c s t) (k : Only c t u) : Only c s u := by
  obtain ⟨h1, h2, h3, h4, h5, h6, h7, h8, h9, h10, h11, h12, h13, h14, h15, h16, h17, h18, h19, h20, h21, h22⟩ := h
  obtain ⟨k1, k2, k3, k4, k5, k6, k7, k8, k9, k10, k11, k12, k13, k14, k15, k16, k17, k18, k19, k20, k21, k22⟩ := k
  refine ⟨fun r d i x => (k1 r d i x).trans (h1 r d i x), fun l d i x => (k2 l d i x).trans (h2 l d i x),
    fun a x => (k3 a x).trans (h3 a x), fun a x => (k4 a x).trans (h4 a x), fun a x => (k5 a x).trans (h5 a x),
    fun x => (k6 x).trans (h6 x), fun x => ⟨(k7 x).1.trans (h7 x).1, (k7 x).2.trans (h7 x).2⟩,
    fun x => ⟨(k8 x).1.trans (h8 x).1, (k8 x).2.trans (h8 x).2⟩,
    fun x => ⟨(k9 x).1.trans (h9 x).1, (k9 x).2.trans (h9 x).2⟩,
    fun x => ⟨(k10 x).1.trans (h10 x).1, (k10 x).2.1.trans (h10 x).2.1, (k10 x).2.2.trans (h10 x).2.2⟩,
    fun x => ⟨(k11 x).1.trans (h11 x).1, (k11 x).2.1.trans (h11 x).2.1, (k11 x).2.2.trans (h11 x).2.2⟩,
    fun x => ⟨(k12 x).1.trans (h12 x).1, (k12 x).2.trans (h12 x).2⟩, fun x => (k13 x).trans (h13 x),
    fun x => ⟨(k14 x).1.trans (h14 x).1, (k14 x).2.trans (h14 x).2⟩, fun x => (k15 x).trans (h15 x),
    fun x => (k16 x).trans (h16 x), fun x => (k17 x).trans (h17 x), fun x => (k18 x).trans (h18 x),
    fun x => (k19 x).trans (h19 x), fun x k => (k20 x k).trans (h20 x k), fun x => (k21 x).trans (h21 x), k22.trans h22⟩

/-- A wider frame holds as well. -/
theorem Only.mono (h : Only c s t) (w : c.Le e) : Only e s t := by
  obtain ⟨h1, h2, h3, h4, h5, h6, h7, h8, h9, h10, h11, h12, h13, h14, h15, h16, h17, h18, h19, h20, h21, h22⟩ := h
  exact ⟨fun r d i x => h1 r d i (false_of_imp (w.regs r d i) x), fun l d i x => h2 l d i (false_of_imp (w.lats l d i) x),
    fun a x => h3 a (false_of_imp (w.mem a) x), fun a x => h4 a (false_of_imp (w.spins a) x),
    fun a x => h5 a (false_of_imp (w.skeins a) x), fun x => h6 (false_of_imp w.plies x),
    fun x => h7 (false_of_imp w.records x), fun x => h8 (false_of_imp w.tallies x), fun x => h9 (false_of_imp w.retired x),
    fun x => h10 (false_of_imp w.pairs x), fun x => h11 (false_of_imp w.flash x), fun x => h12 (false_of_imp w.losses x),
    fun x => h13 (false_of_imp w.dma x), fun x => h14 (false_of_imp w.coll x), fun x => h15 (false_of_imp w.reply x),
    fun x => h16 (false_of_imp w.free x), fun x => h17 (false_of_imp w.mesh x), fun x => h18 (false_of_imp w.plyRuns x),
    fun x => h19 (false_of_imp w.flaws x), fun x => h20 (false_of_imp w.waits x), fun x => h21 (false_of_imp w.heat x), h22⟩

/-- Every change of a list stays in a frame where each one does. -/
theorem Only.each {α : Type} (l : List α) (f : α → State → State) (h : ∀ x ∈ l, ∀ t, Only c t (f x t)) (s : State) :
    Only c s (s.each l f) :=
  State.each_induct (fun t => Only c s t) l f (fun x hx t k => k.trans (h x hx t)) (Only.refl c s)

/-- A change under a condition stays in a frame where the change does. -/
theorem Only.iff (b : Bool) (f : State → State) (h : Only c s (f s)) : Only c s (s.iff b f) := by
  rw [State.iff]; split
  · exact h
  · exact Only.refl c s

/-- Of two outcomes each in a frame, the one taken is. -/
theorem Only.ite {p : Prop} [Decidable p] (h : Only c s t) (k : Only c s u) : Only c s (if p then t else u) := by
  split
  · exact h
  · exact k

/-! ## The primitive updates -/

/-- A register that is set, where the frame names it (under any die that shows the same block). -/
theorem Only.setReg (r : Reg) (d i : Nat) (v : W64) (h : ∀ x, regHome r x = regHome r d → c.regs r x i = true) :
    Only c s (s.setReg r d i v) := by
  refine ⟨fun q x j k => ?_, ?_⟩
  · rw [State.reg_setReg, if_neg]
    rintro ⟨rfl, hx, rfl⟩
    rw [h x hx] at k; exact absurd k (by decide)
  · simp

/-- A field that is set, where the frame names its register. -/
theorem Only.setFld (f : RField) (d i x : Nat) (h : ∀ y, regHome f.reg y = regHome f.reg d → c.regs f.reg y i = true) :
    Only c s (s.setFld f d i x) := Only.setReg f.reg d i _ h

/-- A latch that is set, where the frame names it. -/
theorem Only.setLat (l : Lat) (d i v : Nat) (h : c.lats l d i = true) : Only c s (s.setLat l d i v) := by
  refine ⟨fun _ _ _ _ => rfl, fun m x j k => ?_, ?_⟩
  · rw [State.lat_setLat, if_neg]
    rintro ⟨rfl, rfl, rfl⟩
    rw [h] at k; exact absurd k (by decide)
  · simp

/-- Bytes that are written, where the frame names them. -/
theorem Only.setBytes (a : Nat) (bs : List Byte) (h : ∀ b, a ≤ b → b < a + bs.length → c.mem b = true) :
    Only c s (s.setBytes a bs) := by
  refine ⟨fun _ _ _ _ => rfl, fun _ _ _ _ => rfl, fun b k => ?_, ?_⟩
  · refine State.byte_setBytes_of_out s ?_
    by_contra hc
    rw [h b (by omega) (by omega)] at k; exact absurd k (by decide)
  · simp

/-- A spindle that is changed, where the frame names it. -/
theorem Only.updSpin (sp : Nat) (f : Spin → Spin) (h : c.spins sp = true) : Only c s (s.updSpin sp f) := by
  refine ⟨fun _ _ _ _ => rfl, fun _ _ _ _ => rfl, fun _ _ => rfl, fun k hk => ?_, ?_⟩
  · refine State.spin_updSpin_ne s (fun x => ?_) f
    rw [x, h] at hk; exact absurd hk (by decide)
  · simp

/-- A quarry's records that are set, where the frame names it. -/
theorem Only.setSkein (d : Nat) (l : List SkeinRec) (h : c.skeins d = true) : Only c s (s.setSkein d l) := by
  refine ⟨fun _ _ _ _ => rfl, fun _ _ _ _ => rfl, fun _ _ => rfl, fun _ _ => rfl, fun k hk => ?_, ?_⟩
  · rw [State.skein_setSkein, if_neg]
    rintro rfl
    rw [h] at hk; exact absurd hk (by decide)
  · simp

/-- A side of a pair that is set. -/
theorem Only.setSide (k : Nat) (x : Side) (h : c.pairs = true) : Only c s (s.setSide k x) := by
  simp [Only, h]

/-- An answer. -/
theorem Only.answer (st : Status) (bs : List Byte) (h : c.reply = true) : Only c s (s.answer st bs) := by
  simp [Only, h]

/-! ## The active warden, the recorder and the host -/

/-- A register of the active warden that is set, where the frame names it in every die. -/
theorem Only.setWreg (r : Reg) (i : Nat) (v : W64) (h : ∀ x, c.regs r x i = true) : Only c s (s.setWreg r i v) := by
  have h1 : Only c s (s.setReg r s.aw i v) := Only.setReg r _ i v fun x _ => h x
  unfold State.setWreg
  extract_lets t m o
  exact Only.ite (h1.trans (Only.setReg r o i _ fun x _ => h x)) h1

/-- A field of the active warden that is set, where the frame names its register in every die. -/
theorem Only.setWfld (f : RField) (i x : Nat) (h : ∀ y, c.regs f.reg y i = true) : Only c s (s.setWfld f i x) :=
  Only.setWreg f.reg i _ h

/-- A saturating counter of the active warden. -/
theorem Only.satWfld (f : RField) (i n : Nat) (h : ∀ y, c.regs f.reg y i = true) : Only c s (s.satWfld f i n) :=
  Only.setWfld f i _ h

/-- Records that a warden's sticky block gains. -/
theorem Only.setRecords (d : Nat) (l : List Record) (h : c.records = true) :
    Only c s (s.setStickyOf d { s.stickyOf d with records := l }) := by
  unfold State.setStickyOf State.stickyOf
  split <;> simp [Only, h] <;> exact ⟨fun _ _ _ _ => rfl, fun _ _ _ _ => rfl, fun _ _ => rfl, fun _ _ => rfl, fun _ _ => rfl⟩

/-- Records that the active warden appends, and the standby with it. -/
theorem Only.updRecords (f : List Record → List Record) (h : c.records = true) :
    Only c s (s.updSticky fun k => { k with records := f k.records }) := by
  have h1 : Only c s (s.setStickyOf s.aw { s.stickyOf s.aw with records := f (s.stickyOf s.aw).records }) :=
    Only.setRecords _ _ h
  unfold State.updSticky
  refine Only.ite (h1.trans ?_) h1
  have e : (s.setStickyOf s.aw { s.stickyOf s.aw with records := f (s.stickyOf s.aw).records }).stickyOf (otherWarden s.aw) =
      s.stickyOf (otherWarden s.aw) := by
    unfold otherWarden State.aw State.setStickyOf State.stickyOf
    split <;> simp
  have := Only.setRecords (c := c) (s := s.setStickyOf s.aw { s.stickyOf s.aw with records := f (s.stickyOf s.aw).records })
    (otherWarden s.aw) (f (s.stickyOf (otherWarden s.aw)).records) h
  rwa [e] at this

/-- A vector that is raised. -/
theorem Only.raiseMsix (p v : Nat) (h : ∀ x, c.regs .HI_MSIX_PBA x p = true) (k : c.lats .msixSent p v = true) :
    Only c s (s.raiseMsix p v) := by
  unfold State.raiseMsix
  exact Only.ite (Only.setReg _ _ _ _ fun x _ => h x) (Only.setLat _ _ _ _ k)

/-- Doorbells to the host. -/
theorem Only.hostDoorbell (p : Nat) (b : W32) (h : c.pairs = true) (h1 : ∀ x j, c.regs .HI_MSIX_PBA x j = true)
    (h2 : ∀ x j, c.lats .msixSent x j = true) : Only c s (s.hostDoorbell p b) := by
  unfold State.hostDoorbell
  extract_lets x y t
  have ht : Only c s t := Only.setSide _ _ h
  exact Only.ite ((ht.trans (Only.raiseMsix 0 p (fun z => h1 z 0) (h2 0 p))).trans
    (Only.raiseMsix 1 p (fun z => h1 z 1) (h2 1 p))) ht

/-- A frame allows what the recorder and its interrupt to the host change. -/
structure Change.Records (c : Change) : Prop where
  regs : ∀ r ∈ recorderRegs, ∀ d i, c.regs r d i = true
  lats : ∀ l ∈ recorderLats, ∀ d i, c.lats l d i = true
  records : c.records = true
  pairs : c.pairs = true

/-- A frame that is recording allows what the recorder changes. -/
theorem Change.records_recording (c : Change) : c.recording.Records :=
  ⟨fun r h d i => by simp [Change.recording, orReg, regsOf, h], fun l h d i => by simp [Change.recording, orLat, latsOf, h],
    rfl, rfl⟩

/-- The recorder's frame is a wider one. -/
theorem Change.le_recording (c : Change) : c.Le c.recording := by
  constructor <;> simp +contextual [Change.recording, orReg, orLat]

/-- A record that is appended (R408). -/
theorem Only.appendRecord (e : Nat) (r : Record) (h : c.Records) : Only c s (s.appendRecord e r) := by
  unfold State.appendRecord
  extract_lets t n u
  have ht : Only c s t := (Only.updRecords (fun l => l ++ [r]) h.records).trans (Only.setLat _ _ _ _ (h.lats _ (by decide) _ _))
  have hu : Only c s u := (ht.trans (Only.setWfld _ _ _ fun y => h.regs _ (by decide) y _)).trans
    (Only.setWfld _ _ _ fun y => h.regs _ (by decide) y _)
  refine Only.ite (Only.satWfld _ _ _ fun y => h.regs _ (by decide) y _) (Only.ite (hu.trans ?_) hu)
  exact Only.hostDoorbell _ _ h.pairs (fun x j => h.regs _ (by decide) x j) fun x j => h.lats _ (by decide) x j

/-- An event changes the recorder, its rate limits and the host's doorbells, nothing else (R396, R407, R408). -/
theorem Only.event (code : Nat) (v : Sev) (w p : Nat) (h : c.Records) : Only c s (s.event code v w p) := by
  unfold State.event
  extract_lets e burst rate gained deficit t
  have hl : ∀ l ∈ recorderLats, ∀ (x : State) (k : Nat), Only c x (x.setLat l 0 e k) :=
    fun l hl x k => Only.setLat l 0 e k (h.lats l hl 0 e)
  have ht : Only c s t := hl _ (by decide) _ _
  have hd : ∀ k, Only c s (t.setLat .evDeficit 0 e k) := fun k => ht.trans (hl _ (by decide) _ _)
  have hs : ∀ x : State, Only c x (x.satWfld fEV_LIMIT1_SUPPRESSED e 1) :=
    fun x => Only.satWfld _ _ _ fun y => h.regs _ (by decide) y _
  exact Only.ite (((hd _).trans (hs _)).trans (hl _ (by decide) _ _)) ((hd _).trans (Only.appendRecord _ _ h))

/-- An event of the active warden. -/
theorem Only.wevent (code : Nat) (v : Sev) (w p : Nat) (h : c.Records) : Only c s (s.wevent code v w p) :=
  Only.event code v _ p h

/-! ## Completion -/

/-- A command on a unit that exists completes. -/
@[simp] theorem ifUnit_true (t : State) : ifUnit true t = .next t := rfl

/-- A command on a unit that does not exist stops. -/
@[simp] theorem ifUnit_false (t : State) : ifUnit false t = .fault .noSuchUnit := rfl

/-- A command of `ifUnit` that completes names a unit that exists. -/
theorem ifUnit_eq_next {b : Bool} {t u : State} : ifUnit b t = .next u ↔ b = true ∧ t = u := by
  cases b <;> simp [ifUnit]

end Sys2Proof.Machine
end

