-- ==== Sys2Proof/Laws/Words.lean ====
section
/-! SUPPORT. What a word command does, case by case: not the oldest word, found wrong, predicated off, or performed. -/

namespace Sys2Proof.Machine

variable {s : State} {sp op pc : Nat} {w : W256} {eff : State → Nat → Nat → W256 → Perf}

/-- What it is for a spindle to perform a word. -/
theorem State.performs_iff : s.performs sp op w = true ↔ sp < nSpindles ∧ wOp w = op ∧ s.canPerform sp w = true ∧
    s.streamCause sp = none ∧ decodeCause s sp w = none ∧ (s.spin sp).getP (wPred w) = true := by
  simp [State.performs, and_assoc]

/-- The word a spindle performs is not past the stream's end. -/
theorem State.perform_pc (h : s.streamCause sp = none) :
    (if (s.spin sp).spool.isEmpty && (s.spin sp).overrun then 16384 else s.headPc sp) = s.headPc sp := by
  unfold State.streamCause at h
  cases k : (s.spin sp).spool with
  | nil => simp_all
  | cons x l => simp

/-- A word that performs has its effect, and its outcome takes effect on the state. -/
theorem wordStep_performs (h : s.performs sp op w = true) :
    wordStep op sp w s eff = .next (s.finishWord sp (s.headPc sp) (eff s sp (s.headPc sp) w)) := by
  obtain ⟨h1, h2, h3, h4, h5, h6⟩ := State.performs_iff.1 h
  simp only [wordStep, h1, h2, h3, decide_true, ifUnit_true, and_self, if_true, State.performWord, State.perform_pc h4,
    State.wordOutcome, h4, h5, h6]

/-- A word whose effect completes retires at its next index. -/
theorem wordStep_ok {t : State} {n : Nat} (h : s.performs sp op w = true) (k : eff s sp (s.headPc sp) w = .ok t n) :
    wordStep op sp w s eff = .next (t.endWord sp n) := by
  rw [wordStep_performs h, k]; rfl

/-- A word whose effect goes on leaves the state its effect gives. -/
theorem wordStep_hold {t : State} (h : s.performs sp op w = true) (k : eff s sp (s.headPc sp) w = .hold t) :
    wordStep op sp w s eff = .next t := by
  rw [wordStep_performs h, k]; rfl

/-- A word that raises an exception has no other effect than to take it. -/
theorem wordStep_exc {c : Cause} {m : Nat} (h : s.performs sp op w = true) (k : eff s sp (s.headPc sp) w = .exc c m) :
    wordStep op sp w s eff = .next (s.takeException sp (s.headPc sp) c.1 c.2 m) := by
  rw [wordStep_performs h, k]; rfl

/-- A word that cannot be the oldest one changes nothing. -/
theorem wordStep_other (h1 : sp < nSpindles) (h : ¬(wOp w = op ∧ s.canPerform sp w = true)) :
    wordStep op sp w s eff = .next s := by
  simp only [wordStep, h1, decide_true, ifUnit_true, if_neg h]

/-- A word whose predicate reads 0 retires without effect (R92). -/
theorem wordStep_predicated (h1 : sp < nSpindles) (h2 : wOp w = op) (h3 : s.canPerform sp w = true)
    (h4 : s.streamCause sp = none) (h5 : decodeCause s sp w = none) (h6 : (s.spin sp).getP (wPred w) = false) :
    wordStep op sp w s eff = .next (s.endWord sp (s.headPc sp + 1)) := by
  simp only [wordStep, h1, h2, h3, decide_true, ifUnit_true, and_self, if_true, State.performWord, State.perform_pc h4,
    State.wordOutcome, h4, h5, h6]
  rfl

/-- A word command of a spindle that exists always completes. -/
theorem wordStep_completes (h : sp < nSpindles) : ∃ t, wordStep op sp w s eff = .next t := by
  simp [wordStep, h, ifUnit]

end Sys2Proof.Machine
end

