-- ==== Sys2Proof/Laws/Spindles.lean ====
section
/-! SUPPORT. The frames of the shared operations on spindles (retiring a word, discarding words, halting, taking an exception) and
of writes of registers. -/

namespace Sys2Proof.Machine

variable {c : Change} {s : State}

/-! ## Writes of registers -/

/-- A register set by its die, where the frame names it in every die. -/
theorem Only.putReg (r : Reg) (d i : Nat) (v : W64) (h : ∀ x, c.regs r x i = true) : Only c s (s.putReg r d i v) :=
  Only.ite (Only.setWreg r i v h) (Only.setReg r d i v fun x _ => h x)

/-- A field set by its die, where the frame names its register in every die. -/
theorem Only.putFld (f : RField) (d i x : Nat) (h : ∀ y, c.regs f.reg y i = true) : Only c s (s.putFld f d i x) :=
  Only.putReg f.reg d i _ h

/-- A write by access codes alone changes its register and, where presence is lacking, the recorder (R10 to R12, R412). -/
theorem Only.plainWrite (r : Reg) (d i : Nat) (v : W64) (h : ∀ x, c.regs r x i = true) (k : c.Records) :
    Only c s (s.plainWrite r d i v) := by
  unfold State.plainWrite
  extract_lets old shown t
  have ht : Only c s t := Only.putReg r d i _ h
  split
  · exact ht.trans (Only.event _ _ _ _ k)
  · exact ht

/-- A write of a warden register by a master without access changes the recorder alone; another has its effect (R379). -/
theorem Only.guardedWrite (m : Master) (r : Reg) (d i : Nat) (f : State → State) (h : Only c s (f s)) (k : c.Records) :
    Only c s (s.guardedWrite m r d i f) := Only.ite h (Only.wevent _ _ _ _ k)

/-- A write of a warden register by the host or the active warden has its effect. -/
theorem State.guardedWrite_of_access {m : Master} (h : s.hostOrActive m = true) (r : Reg) (d i : Nat) (f : State → State) :
    s.guardedWrite m r d i f = f s := by simp [State.guardedWrite, h]

/-! ## Members of a ply -/

/-- A frame names a register of every local member of a spindle's ply. -/
def Change.OfMates (c : Change) (s : State) (sp : Nat) (r : Reg) : Prop :=
  ∀ m ∈ s.mates sp, ∀ x, regHome r x = regHome r (spDie m.2) → c.regs r x (spIdx m.2) = true

theorem Only.setMatesFld (f : RField) (sp x : Nat) (h : c.OfMates s sp f.reg) : Only c s (s.setMatesFld f sp x) :=
  Only.each (s.mates sp) _ (fun m hm _ => Only.setFld f _ _ _ (h m hm)) s

theorem Only.updMates (sp : Nat) (f : Spin → Spin) (h : ∀ m ∈ s.mates sp, c.spins m.2 = true) : Only c s (s.updMates sp f) :=
  Only.each (s.mates sp) _ (fun m hm _ => Only.updSpin m.2 f (h m hm)) s

/-- The members of a ply that run words depend on the plies and the package's number alone. -/
theorem State.mates_congr {t : State} (sp : Nat) (h : t.plies = s.plies) (k : t.pkg = s.pkg) : t.mates sp = s.mates sp := by
  have e : t.inPly sp = s.inPly sp := by funext p; simp only [State.inPly, k]
  simp only [State.mates, State.plyOf, State.aliveOf, State.localOf, h, k, e]

/-- Another register than HI_PKG_NUM leaves the package's number alone. -/
theorem State.pkg_setFld (f : RField) (d i x : Nat) (h : Reg.HI_PKG_NUM ≠ f.reg) : (s.setFld f d i x).pkg = s.pkg :=
  State.fld_setFld_name s h d 60 i 0 x

/-- A word that leaves the spool leaves the members of the ply as they were. -/
theorem State.mates_passWord (sp pc k : Nat) : (s.passWord sp pc).mates k = s.mates k := by
  refine State.mates_congr k ?_ ?_
  · simp only [State.passWord, State.plies_setLat]
    exact State.each_keeps State.plies _ _ (fun _ _ _ => by simp [State.setSpFld]) s
  · simp only [State.passWord, State.pkg, State.fld_setLat]
    refine State.each_keeps State.pkg _ _ (fun m _ t => ?_) s
    exact (State.pkg_setFld _ _ _ _ (by decide)).trans (State.pkg_setFld _ _ _ _ (by decide))

/-- A word that leaves the spool moves the PC and the count of words, ends a STEP, and drops the spool's oldest entry, in every
member. -/
theorem Only.passWord (sp pc : Nat) (h1 : c.OfMates s sp .SPN_PC) (h2 : c.OfMates s sp .SPN_RETIRED)
    (h3 : ∀ m ∈ s.mates sp, c.spins m.2 = true) (h4 : ∀ k, c.lats .stepDone k 0 = true) (h5 : c.lats .cleared sp 0 = true) :
    Only c s (s.passWord sp pc) := by
  unfold State.passWord
  refine Only.trans (Only.each (s.mates sp) _ (fun m hm t => ?_) s) (Only.setLat _ _ _ _ h5)
  exact (((Only.setFld _ _ _ _ (h1 m hm)).trans (Only.setFld _ _ _ _ (h2 m hm))).trans (Only.updSpin _ _ (h3 m hm))).trans
    (Only.setLat _ _ _ _ (h4 m.2))

/-- Entering HALTED ends any request in every member (R82). -/
theorem Only.halted (sp : Nat) (h1 : c.OfMates s sp .SPN_STAT) (h2 : c.OfMates s sp .SPN_CTL)
    (h3 : ∀ k, c.lats .stepDone k 0 = true) : Only c s (s.halted sp) := by
  unfold State.halted
  refine Only.each (s.mates sp) _ (fun m hm t => ?_) s
  exact ((((Only.setFld _ _ _ _ (h1 m hm)).trans (Only.setFld _ _ _ _ (h2 m hm))).trans (Only.setFld _ _ _ _ (h2 m hm))).trans
    (Only.setFld _ _ _ _ (h2 m hm))).trans (Only.setLat _ _ _ _ (h3 m.2))

/-- Retiring a word changes what leaving the spool does, and halts the last member of a ply that has stopped (R180). -/
theorem Only.retire (sp pc : Nat) (h1 : c.OfMates s sp .SPN_PC) (h2 : c.OfMates s sp .SPN_RETIRED)
    (h3 : ∀ m ∈ s.mates sp, c.spins m.2 = true) (h4 : ∀ k, c.lats .stepDone k 0 = true) (h5 : c.lats .cleared sp 0 = true)
    (h6 : s.plyStopped sp = true → c.OfMates s sp .SPN_STAT ∧ c.OfMates s sp .SPN_CTL) : Only c s (s.retire sp pc) := by
  have hp := Only.passWord (c := c) sp pc h1 h2 h3 h4 h5
  unfold State.retire
  split
  · next k =>
    obtain ⟨k1, k2⟩ := h6 (by simp_all)
    refine hp.trans (Only.halted sp ?_ ?_ h4)
    · unfold Change.OfMates; rw [State.mates_passWord]; exact k1
    · unfold Change.OfMates; rw [State.mates_passWord]; exact k2
  · exact hp

/-- A word that ends stays in the frame of its retirement. -/
theorem Only.endWord (sp pc : Nat) (h : Only c s (s.retire sp pc)) : Only c s (s.endWord sp pc) := by
  unfold State.endWord; exact Only.ite h (Only.refl c s)

/-- Retiring stays within what a word may change by retiring. -/
theorem Only.endWord_wordFrame (sp pc : Nat) : Only (s.wordFrame sp) s (s.endWord sp pc) := by
  refine Only.endWord sp pc (Only.retire sp pc ?_ ?_ ?_ ?_ ?_ ?_)
  · exact fun _ _ _ _ => by simp only [State.wordFrame, regsOf]; split <;> decide
  · exact fun _ _ _ _ => by simp only [State.wordFrame, regsOf]; split <;> decide
  · exact fun m hm => by simp only [State.wordFrame, List.any_eq_true]; exact ⟨m, hm, by simp⟩
  · exact fun _ => by simp [State.wordFrame, latsOf]
  · simp [State.wordFrame, latsOf]
  · exact fun h => ⟨fun _ _ _ _ => by simp [State.wordFrame, regsOf, h], fun _ _ _ _ => by simp [State.wordFrame, regsOf, h]⟩

/-- Discarding the words not past their commit point. -/
theorem Only.flush (sp pc : Nat) (h1 : c.OfMates s sp .SPN_PC) (h2 : ∀ m ∈ s.mates sp, c.spins m.2 = true)
    (h3 : c.lats .cleared sp 0 = true) : Only c s (s.flush sp pc) := by
  unfold State.flush
  refine Only.trans (Only.each (s.mates sp) _ (fun m hm t => ?_) s) (Only.setLat _ _ _ _ h3)
  exact (Only.setFld _ _ _ _ (h1 m hm)).trans (Only.updSpin _ _ (h2 m hm))

end Sys2Proof.Machine
end

