-- ==== Sys2Proof/Machine/Pins.lean ====
section
/-! DEFINITION. What the output balls of the cooling and safety signals carry, as the state gives it (R557, R558, Tables PKG-2,
WD-19). -/

namespace Sys2Proof.Machine

/-- What an output ball carries: a level, high impedance, a square wave at a rate in Hz, or a PWM output of a drive in 0.1 % at a
frequency in kHz, which may be inverted. -/
inductive Pin where
  | low | high | z
  | square (hz : Nat)
  | pwm (drive khz : Nat) (inverted : Bool)
  deriving DecidableEq, Repr

/-- FP_PWMc (R558): the drives of rows 1 and 2 of Table ACT-10 are held levels, without POL and PWM_KHZ. -/
def State.fpPwm (s : State) (c : Nat) : Pin :=
  if s.wfld fFP_STAT_CAUSE c ≤ 2 then (if s.wfld fFP_STAT_DRIVE c = 0 then .low else .high)
  else .pwm (s.wfld fFP_STAT_DRIVE c) (s.wfld fFP_CFG_PWM_KHZ c) (s.wflag fFP_CFG_POL c)

/-- THERMTRIP_N (R440): open drain, asserted while a hard trip is latched. -/
def State.thermtripN (s : State) : Pin := if s.wflag fTH_STAT_TRIP 0 then .low else .z

/-- EMERG_N as the package drives it (R447). -/
def State.emergN (s : State) : Pin := if s.wflag fTH_STAT_EMERG_OUT 0 then .low else .z

/-- An LED driver of a code of Table WD-19: open drain. -/
def ledPin (code : Nat) : Pin :=
  match code with | 0 => .z | 1 => .low | 2 => .square 1 | _ => .square 4

/-- LED_STATUS_N. -/
def State.ledStatusN (s : State) : Pin := ledPin (s.wfld fWD_LED_STATUS 0)

/-- LED_FAULT_N: blinking at 4 Hz in the forced state (R389). -/
def State.ledFaultN (s : State) : Pin := if s.forced then .square 4 else ledPin (s.wfld fWD_LED_FAULT 0)

/-- LED_LOCATE_N. -/
def State.ledLocateN (s : State) : Pin := ledPin (s.wfld fWD_LED_LOCATE 0)

/-- SVc_LS_G: the low-side switch of a channel is on in PEAK, and chopped at 20 kHz in HOLD; turn-off opens it (R471, R475). -/
def State.svLow (s : State) (c : Nat) : Pin :=
  match s.svPhase c with | 2 => .high | 3 => .square 20000 | _ => .low

/-- SV_HS0_G and SV_HS1_G: the switch two channels share is on while either drives its coil (R471, R475). -/
def State.svHigh (s : State) (h : Nat) : Pin :=
  if [2, 3].contains (s.svPhase (2 * h)) || [2, 3].contains (s.svPhase (2 * h + 1)) then .high else .low

end Sys2Proof.Machine
end

