-- ==== Sys2Proof/Tests/Slice0.lean ====
section
/-! SUPPORT. Small states, tests of the model's own, ill-formed commands, and the witnesses that the hypotheses of the
statements can be met. -/

open Sys2Proof Sys2Proof.Machine

namespace Sys2Proof.Machine

set_option Elab.async false

/-- The block after reset, a small state for tests. -/
def st0 : State := State.reset
/-- Every part of a die runs: its rails and its mesh stop. -/
def dieOn (d : Nat) (s : State) : State := (s.setFld fPW_DIE_ISO_ON 62 d 1).setFld fPW_DIE_ISO_MS_ON 62 d 1
/-- The package is in RUN with WD-A active. -/
def stRun : State :=
  ((((st0.setFld fWD_ROLE_ACTIVE 62 0 1).setFld fWD_ROLE_HEALTHY 62 0 1).setFld fWD_ROLE_ACTIVE 63 0 0).setWfld fWD_PKG_STAT_STATE 0 0).setWfld fWD_PKG_STAT_STEP 0 0
/-- The active warden's core. -/
def mW : Master := .warden 0
/-- The host's port 0. -/
def mH : Master := .host 0
/-- RUN with die 3 and the dies at either end of its link E up. -/
def stDie : State := dieOn 4 (dieOn 3 stRun)
/-- A flit of zeros to a stop, with its CRC-32. -/
def meshFlitTo (d : Nat) : MeshFlit := ⟨false, false, 4, d, List.replicate 256 0, 0x0D968558⟩
/-- Twin 0 of die 3 ON. -/
def stTwin : State := stDie.setFld fPW_TWIN_CTL_STATE 3 0 2
/-- A collective descriptor without elements: OP and ROOT 0, GROUP 0, its SEQ. -/
def jobBytes (op seq : Nat) : List Byte := leBytes 32 0 ++ leBytes 4 0 ++ leBytes 4 op ++ leBytes 4 0 ++ leBytes 4 seq ++ leBytes 16 0
/-- A queued descriptor. -/
def jobOf (op seq : Nat) (b : Bool) : CollJob := ⟨jobBytes op seq, b⟩
/-- XD0 runs, group 0 holds this package, and a descriptor stands at address 0x1000. -/
def stColl (op : Nat) : State :=
  let s := (dieOn 56 stRun).setBytes 0x1000 (jobBytes op 7)
  { s with collGroups := [(0, [0])] }
/-- A flit of sequence number 0 for this package. -/
def flit0 : Flit := ⟨0, 0, false, false, 1, 0, 0, 3, 0, 0, true, true, 0, true, 0, [], []⟩
/-- A host DMA descriptor to the host of no bytes. -/
def dmaDesc : W256 := BitVec.ofNat 256 (2 ^ 224)
/-- An expander of 1 GiB. -/
def expand1 : Expander := ⟨true, false, false, 0x40000000, 77, 2, 5, 16, true⟩
/-- A GROUP_LOAD of this package alone stands at 0x2000, its list in scratchpad 0. -/
def stLoad : State :=
  ((dieOn 0 (dieOn 56 stRun)).setBytes 0x2000 (leBytes 8 0xF000080000000 ++ leBytes 24 0 ++ leBytes 4 1 ++ leBytes 4 6 ++ leBytes 24 0)).setBytes 0xF000080000000 (leBytes 4 0)
/-- An ALLREDUCE of one FP32 element in scratchpad 0. -/
def jobSum : CollJob := ⟨leBytes 8 0xF000080000000 ++ leBytes 8 0xF000080000100 ++ leBytes 16 0 ++ leBytes 4 1 ++ leBytes 4 5 ++ leBytes 24 0, true⟩
/-- A side of a pair with its message posted. -/
def posted (w : Nat) : Side := { Side.zero with outStatus := 1, wstat := w }
/-- Seal and button presence are shown. -/
def stPres : State := (((stRun.setFld fFS_PRES_BUTTON 62 0 1).setFld fFS_PRES_SEAL 62 0 1)).setFld fFS_PRES_JUMPER 62 0 1
/-- Spindle 96 of die 3, HALTED, is enrolled in entry 0. -/
def stEnr (st : Nat) : State := ((stTwin.setSpFld fSPN_STAT_STATE 96 2).setWfld fWD_EP_ENT0_SPINDLE 0 96).setWfld fWD_EP_ENT0_STATE 0 st
/-- A group of packages 0 and 7, led by this package. -/
def stGroup : State := ((stRun.setBytes 0x2000 (leBytes 4 0 ++ leBytes 4 7)).setWreg .WD_EP_GRP_CFG 0 0x2002)
/-- Quarry 48 holds an active snapshot region of 4,096 rows of 64 bytes in slot 0. -/
def stSnap : State :=
  (((((dieOn 48 stTwin).setSpFld fSPN_STAT_STATE 96 2).setFld fQD_RGN1_ROWS 48 0 4096).setFld fQD_RGN1_ROWLEN 48 0 64).setFld
    fQD_RGN1_NON_EPOCH 48 0 1).setFld fQD_RGN_INFO_STATE 48 0 2
/-- A list of packages 0 and 7 stands at 0x2000. -/
def stGrpMem : State := (dieOn 48 stRun).setBytes 0x2000 (leBytes 4 0 ++ leBytes 4 7)
/-- Bring-up stands in the step of the soak. -/
def stSoak : State := (stDie.setWfld fWD_PKG_STAT_STATE 0 3).setWfld fWD_PKG_STAT_STEP 0 6
/-- What a policy cycle reads. -/
def readings0 : Readings := ⟨4000000, [30000, 40000, 30000, 40000], [(5000, 100), (5000, 100)], [], [], [], 12000, []⟩
/-- Fan channel 2 runs at a fixed drive with a tachometer. -/
def stFan : State :=
  let s := (((stRun.setWfld fFP_CFG_SOURCE 2 1).setWfld fFP_CFG_TACH_PPR 2 2).setWfld fFP_FIXED_PCT 2 500).setWfld fFP_STAT_DRIVE 2 500
  ((s.setWfld fFP_ISUP_I_LOCK_MA 2 800).setWfld fFP_ISUP_I_RUN_MA 2 200).setWfld fFP_SUP_TACH_MIN_RPM 2 600
/-- Solenoid channel 3 stands in a phase, the boost charged. -/
def stSv (p : Nat) : State := (stRun.setWfld fSV_STAT_PHASE 3 p).setWfld fSV_BOOST_V_MV 0 60000
/-- Loop 5 of WD-A samples in AUTO. -/
def stLoop : State := (((stRun.setWfld fCE_LOOP_CFG_MODE 5 1).setWfld fCE_LOOP_CFG_DEST 5 15).setWfld fCE_LOOP_STAT_STATE 5 1).setLat .loopRan 62 5 1
/-- A step of loop 5 is set up in the generator. -/
def stTsg : State := ((stLoop.setWfld fCE_TSG_CFG_KIND 0 1).setWfld fCE_TSG_CFG_LOOP 0 5).setWfld fCE_TSG_TIME_LEN 0 10
/-- A warden's tray bus controller takes part in the bus with FD frames; filter 0 takes every extended frame into buffers 0 and 1. -/
def stBus (w : Nat) : State :=
  let s := ((stRun.setTbState w 4).setFld fTB_CTL_FD_EN w 0 1).setFld fTB_CFG_ORW_EN w 0 1
  let s := (s.setFld fTB_CFG_STAT_MS w 0 1000).setReg .TB_FILT_ID w 0 0xC0000000
  (s.setReg .TB_FILT_MASK w 0 0).setReg .TB_FILT_BUF w 0 0x200
/-- An extended frame of four bytes. -/
def frame0 : Frame := ⟨false, true, 0x123456, false, false, false, 4, [1, 2, 3, 4]⟩
/-- An Orwilos message of a type from a node, with a length code and payload, stands in a receive buffer of WD-A. -/
def stOrw (b ty src dlc : Nat) (bs : List Byte) : State :=
  ((stBus 62).setReg .TB_FILT_ID 62 0 0).placeFrame 62 b 0 ⟨false, true, orwId 0 ty 63 src 0, true, true, false, dlc, bs⟩
/-- RUN with die 3 up, a spindle that has run and bytes in HBM. -/
def stPkg : State := (stTwin.setBytes 0x1000 [1, 2, 3]).setLat .wakeDue 3 0 0
/-- Bring-up stands in a step. -/
def stBring (n : Nat) : State := (stRun.setWfld fWD_PKG_STAT_STATE 0 3).setWfld fWD_PKG_STAT_STEP 0 n
/-- A table 2 without a body is staged in WD-A's SRAM, with presence shown. -/
def stFlash : State := stPres.setBytes (sramAddr 0 0xC0000) (leBytes 4 (2 + 2 ^ 16) ++ leBytes 4 0 ++ leBytes 4 1 ++ leBytes 20 0)
/-- Bank 0 of the first spindle of die 3. -/
def bank0 : Bank := .pad 96 0
/-- That bank is ON and holds bytes. -/
def stBank : State := ((stTwin.setBankReq bank0 2).setBankOwn bank0 2).setBytes (bank0.base + 8) [7, 9, 1]
/-- Quarry 48 is up with bytes at 0x1000; the open area is its whole slice. -/
def stQd : State := ((dieOn 48 stTwin).setBytes 0x1000 [1, 2, 3]).setReg .QD_OPEN_TOP 48 0 0x2400000000
/-- Its slot 0 holds an active epoch region of two rows of 64 bytes at 0x2000; the skein carve is 1 GiB. -/
def stEpoch : State :=
  ((((stQd.setReg .QD_RGN0 48 0 0x2000).setReg .QD_RGN1 48 0 0x100000002).setFld fQD_RGN_INFO_STATE 48 0 2).setFld
    fQD_CARVE_SKEIN_GIB 48 0 1).setBytes 0x2002 [8, 8]
/-- A legal region of one row is staged. -/
def stStage : State :=
  ((stEpoch.setReg .QD_RGN_STAGE0 48 0 0x4000).setReg .QD_RGN_STAGE1 48 0 0x1000100000001).setFld fQD_TEN_CAP_GIB 48 0 9
/-- Twins 0 and 1 of die 3 ON, with their spindles HALTED. -/
def stHalt : State :=
  (List.range 4).foldl (fun s k => s.setFld fSPN_STAT_STATE 3 k 2) ((dieOn 48 stTwin).setFld fPW_TWIN_CTL_STATE 3 1 2)
/-- Spindles of this package, as members. -/
def localMembers (l : List Nat) : List (Nat × Nat) := l.map fun k => (0, k)
/-- A ply of level 1. -/
def plyOne (l : List Nat) : Ply := ⟨localMembers l, 1, [], 16, true, false, []⟩
/-- The first two spindles of die 3 form a ply; WD-A's entries are free. -/
def stPly : State := ({ stHalt with plies := [plyOne [96, 97]] }).writeEntries (plyOne [96, 97]) 1
/-- A ply descriptor at 0x3000 with a list of words: 2^log2n entries, count pairs, window 32. -/
def plyDescAt (s : State) (log2n count : Nat) (ws : List Nat) : State :=
  (s.setBytes 0x3000 (leBytes 8 (32 * 2 ^ 32 + count * 2 ^ 20 + log2n) ++ leBytes 8 0 ++ ws.flatMap (leBytes 4 ·))).setReg .PLY_CMD_ADDR 3 0 0x3000
/-- Two plies of one spindle each, and the descriptor that joins them. -/
def stJoin : State := plyDescAt { stHalt with plies := [plyOne [96], plyOne [97]] } 1 0 [96, 97]
/-- Those two plies joined. -/
def plyTwo : Ply := ⟨localMembers [96, 97], 2, [(1, 0, 0), (1, 1, 0)], 16, true, false, []⟩
/-- The ply of two levels. -/
def stTwo : State := ({ stHalt with plies := [plyTwo] }).writeEntries plyTwo 1
/-- The ply of level 1 has lost its second member. -/
def plyHurt : Ply := { plyOne [96, 97] with stopped := true, lost := [1] }
/-- The ply with a lost member, and the descriptor that replaces it by spindle 98. -/
def stHurt : State := plyDescAt ({ stHalt with plies := [plyHurt] }.writeEntries plyHurt 2) 0 1 [1, 98]
/-- Spindle 96 of die 3 is RUNNING with an oldest word that has issued at an index. -/
def stWord (e : Entry) : State := (stHalt.setSpFld fSPN_STAT_STATE 96 3).updSpin 96 fun x => { x with spool := [e], p := [(1, false)] }
/-- An entry. -/
def entryOf (w : W256) (pc : Nat) : Entry := ⟨w, pc, none, false⟩
/-- Spindle 96 WAITING at a WAIT of g1 in mode ANY, limit g2, result g3 and p4, at word 7. -/
def waitWord : W256 := BitVec.ofNat 256 (0x312 * 2 ^ 6 + 1 * 2 ^ 30 + 2 * 2 ^ 35 + 3 * 2 ^ 40 + 4 * 2 ^ 45)
/-- A word of an opcode and the rest of its bits. -/
def cw (op rest : Nat) : W256 := BitVec.ofNat 256 (op * 2 ^ 6 + rest)
/-- A tile shape: rows of elements of four bytes. -/
def shapeOf (off rows elems : Nat) : Nat := off + 4 * elems * 2 ^ 16 + rows * 2 ^ 32 + elems * 2 ^ 48
/-- A mortar shape from the first lane on. -/
def lanesOf (rows cols : Nat) : Nat := rows * 2 ^ 8 + cols * 2 ^ 24
/-- A T-word: opcode, D, A, B, C, further bits, and the three shapes. -/
def tw (op d a b c more sa sb sd : Nat) : W256 :=
  cw op (d * 2 ^ 16 + a * 2 ^ 20 + b * 2 ^ 24 + c * 2 ^ 28 + more + sa * 2 ^ 64 + sb * 2 ^ 128 + sd * 2 ^ 192)
/-- Two FP32 elements in tiles 1, 2 and 3, a scalar in g5, a lane of accumulator 0. -/
def fillSpin (x : Spin) : Spin :=
  (((x.setTileBytes 1 0 (leBytes 4 0x3FC00000 ++ leBytes 4 0xC0200000)).setTileBytes 2 0 (leBytes 4 0x40000000 ++ leBytes 4 0x3E800000)).setTileBytes
    3 0 (leBytes 4 0x40400000 ++ leBytes 4 0)).setG 5 0x40A00000
/-- Spindle 96 is about to perform a word at index 9. -/
def stW (w : W256) : State := (stWord (entryOf w 9)).updSpin 96 fillSpin
/-- The first two spindles of die 3, a ply of two levels, are about to perform a word. -/
def stWp (w : W256) : State :=
  ((((((stWord (entryOf w 9)).setSpFld fSPN_STAT_STATE 97 3).updSpin 97 fun x => { x with spool := [entryOf w 9] }).updSpin 96 fillSpin).updSpin
    97 fillSpin).updSpin 97 fun x => x.setTileBytes 1 0 [7, 7, 7, 7, 9, 9, 9, 9]) |> fun s => { s with plies := [plyTwo] }
/-- Lane 0 of accumulator 0 holds 3/2. -/
def laneSpin (x : Spin) : Spin := x.setLane 0 0 ((x.getLane 0 0).accumulateAll [.fin false 3 2])
/-- Lane 0 of accumulator 0 does not agree with its residue. -/
def badSpin (x : Spin) : Spin := x.setLane 0 0 { x.getLane 0 0 with res := 9 }
/-- An S-word of some slots. -/
def sw (l : List Nat) : W256 := BitVec.ofNat 256 (l.length * 2 ^ 16 + (l.zipIdx.map fun x => x.1 * 2 ^ (32 * (x.2 + 1))).sum)
/-- A slot with a destination in bits 23:19 and sources g5 and g6. -/
def slotR (op : Nat) : Nat := op * 2 ^ 24 + 7 * 2 ^ 19 + 5 * 2 ^ 14 + 6 * 2 ^ 9
/-- Spindle 96 is about to perform an S-word, g5 and g6 hold numbers, and a[2] names 4096 bytes of HBM. -/
def stS (w : W256) : State :=
  (((stWord (entryOf w 9)).setBytes 0x1000 [1, 2, 3, 0xFF]) |> dieOn 48).updSpin 96 fun x =>
    ((x.setG 5 0xFFFFFFFFFFFFFFF6).setG 6 3).setA 2 (BitVec.ofNat 128 (0x1000 * 2 ^ 64 + 4096 * 2 ^ 32 + 0x33))
/-- A range descriptor of 4096 bytes that may be read and written: KIND 3, or KIND 4 for a region of 1024 bytes. -/
def descTo (a kind : Nat) : W128 := BitVec.ofNat 128 (a * 2 ^ 64 + (if kind = 4 then 1024 else 4096) * 2 ^ 32 + 0x30 + kind)
/-- Spindle 96 is about to perform a memory word: a[2] to a[6] name ranges of HBM, a[3] region 0 of quarry 48, of four rows of 16 elements. -/
def stM (w : W256) (more : Nat) (entry : Nat) : State :=
  let s := (((((stQd.setSpFld fSPN_STAT_STATE 96 3).setReg .QD_RGN0 48 0 0x2000).setReg .QD_RGN1 48 0 (BitVec.ofNat 64 (0x100000004 + more))).setFld
    fQD_RGN_INFO_STATE 48 0 2).setFld fQD_CARVE_SKEIN_GIB 48 0 1).setBytes 0x2040 (leBytes 4 0x3FC00000 ++ leBytes 4 0x40000000)
  let s := ((s.setBytes 0x6000 (leBytes 4 entry)).setBytes 0x7000 (leBytes 4 0x40400000)).setBytes 0x8000 (leBytes 4 0x3F000000)
  s.updSpin 96 fun x => (((((fillSpin { x with spool := [entryOf w 9] }).setA 2 (descTo 0x1000 3)).setA 3 (descTo 0 4)).setA 4 (descTo 0x6000 3)).setA
    5 (descTo 0x7000 3)).setA 6 (descTo 0x8000 3)
/-- A table word of one entry on a[3], a[4] and a[5], with a[6] where it uses one. -/
def tblW (op aw : Nat) : W256 := cw op (3 * 2 ^ 16 + 4 * 2 ^ 20 + aw * 2 ^ 24 + 1 * 2 ^ 128 + 5 * 2 ^ 192)
/-- LDT or STT of two elements between tile 1 and a[2]. -/
def mtW (op : Nat) : W256 := cw op (2 * 2 ^ 16 + 1 * 2 ^ 28 + 0 * 2 ^ 64 + shapeOf 0 1 2 * 2 ^ 128)
/-- WAIT of the bits of g5, mode ANY, limit g6, results g7 and p4. -/
def waitZero : W256 := cw 0x312 (5 * 2 ^ 30 + 6 * 2 ^ 35 + 7 * 2 ^ 40 + 4 * 2 ^ 45)
/-- Spindle 96 waits there with a limit, for bit 0, which is pending. -/
def stWait (limit : Nat) : State :=
  (((stW waitZero).setSpFld fSPN_STAT_STATE 96 4).setSpFld fSPN_DB_PEND_PEND 96 1).updSpin 96 fun x =>
    (x.setG 5 1).setG 6 (BitVec.ofNat 64 limit)
/-- Ten seconds of steady readings are held. -/
def stHeat : State := { stRun with heat := List.replicate 100 ⟨1000, 40000000, 30000000, 5000000000, 7000000, 5000000, 5000000, true⟩ }
/-- The command of die 3's sequencer holds its claims and is about to complete. -/
def stClaimed (s : State) (v : W64) (x : PlyDesc) (sps : List Nat) : State :=
  ((((s.setReg .PLY_CMD 3 0 v).setPlyRun 3 (some x)).setLat .plyResult 3 0 1).setFld fPLY_CMD_STAT_BUSY 3 0 1).claim sps
/-- The descriptor of two spindles. -/
def descTwo : PlyDesc := ⟨0x2000000001, 0, some [96, 97]⟩
/-- The descriptor that replaces member 1. -/
def descPair : PlyDesc := ⟨0x2000100000, 0, some [1, 98]⟩
/-- The hurt ply is enrolled in entry 0, a rollback has restored it, and spindle 98 is in reserve. -/
def stBack : State :=
  (((stHurt.setReg .PLY_RESERVE 3 0 4).setWfld fWD_EP_ENT0_SPINDLE 0 96).setWfld fWD_EP_ENT0_STATE 0 3).setLat .epochBack 0 0 1

/-! Tests of the model's own. Their expected values come from the spec: the worked encodings of chapter 03, the
pseudocode of R141 worked by hand for seed 0, the formats' own tables. -/

/-- A word of four 64-bit quarters. -/
def quarters (a b c d : Nat) : W256 := BitVec.ofNat 256 (a + 2 ^ 64 * b + 2 ^ 128 * c + 2 ^ 192 * d)
/-- The first worked encoding of chapter 03: MOVZ g4; ADDI g5; CLTU p2. -/
def worked1 : W256 := quarters 0x1B20010000030000 0x33210A0012290020 0 0
/-- The second: MMA m0, t1, t2. -/
def worked2 : W256 := quarters 0x0000020502184000 0x0100002002000000 0x0100002002000000 0x0000000020002000
/-- The third: WAIT g10, g11, g12, p3. -/
def worked3 : W256 := quarters 0x00006C5A8000C480 0 0 0
/-- Word w1 of the listing: POOL.SUM. -/
def worked4 : W256 := quarters 0x0000E00100108840 0 0 2

theorem test_worked_mma : (wOp worked2, wScope worked2, wPred worked2, wINIT worked2) = (0x100, 0, 0, true) ∧
    (wD worked2, wA worked2, wB worked2, wC worked2, wFA worked2, wFB worked2, wFD worked2) = (8, 1, 2, 0, 1, 1, 0) := by
  decide +kernel

theorem test_worked_wait : (wOp worked3, wGA worked3, wGB worked3, wGC worked3, wPD worked3, wMODE worked3, wIMM32 worked3)
    = (0x312, 10, 11, 12, 3, false, 0) := by decide +kernel

theorem test_worked_pool : (wOp worked4, wScope worked4, wPred worked4, bitsOf worked4 23 20, bitsOf worked4 195 192)
    = (0x221, 0, 0, 1, 2) := by decide +kernel

/-- The first worked encoding runs: g4 is 256, g5 is 288 and p2 is 1. -/
theorem test_worked_slots : (match exec (.sWord 96 worked1) (stW worked1) with
    | .next t => ((t.spin 96).getG 4, (t.spin 96).getG 5, (t.spin 96).getP 2) | _ => (0, 0, false)) = (256, 288, true) := by
  decide +kernel

/-- The check value of CRC-32 over the nine ASCII digits 1 to 9. -/
theorem test_crc32 : crc32 [0x31, 0x32, 0x33, 0x34, 0x35, 0x36, 0x37, 0x38, 0x39] = 0xCBF43926 := by decide +kernel

/-- 1/10 to nearest even in FP32 and in BF16. -/
theorem test_round_nearest : encodeVal fmtFP32 ⟨.nearest, 0⟩ (.fin false 1 10) = 0x3DCCCCCD ∧
    encodeVal fmtBF16 ⟨.nearest, 0⟩ (.fin false 1 10) = 0x3DCD := by decide +kernel

/-- FP16 at its edge: 65519 is 65504, 65520 is infinity, and toward zero it is 65504 again. -/
theorem test_round_edge : encodeVal fmtFP16 ⟨.nearest, 0⟩ (.fin false 65519 1) = 0x7BFF ∧
    encodeVal fmtFP16 ⟨.nearest, 0⟩ (.fin false 65520 1) = 0x7C00 ∧
    encodeVal fmtFP16 ⟨.zero, 0⟩ (.fin false 65520 1) = 0x7BFF := by decide +kernel

/-- The subnormals of FP16 and a tie to even below them. -/
theorem test_round_subnormal : encodeVal fmtFP16 ⟨.nearest, 0⟩ (.fin false 1 (2 ^ 24)) = 1 ∧
    encodeVal fmtFP16 ⟨.nearest, 0⟩ (.fin true 1 (2 ^ 25)) = 0x8000 ∧
    encodeVal fmtFP16 ⟨.nearest, 0⟩ (.fin true 3 (2 ^ 25)) = 0x8002 := by decide +kernel

/-- Integers saturate and a NaN becomes 0 (Table FMT-7). -/
theorem test_round_int8 : encodeVal fmtINT8 ⟨.nearest, 0⟩ (.fin true 1000 1) = 0x80 ∧
    encodeVal fmtINT8 ⟨.nearest, 0⟩ (.fin false 5 2) = 2 ∧ encodeVal fmtINT8 ⟨.nearest, 0⟩ .nan = 0 := by decide +kernel

/-- The draw of seed 0 at row 0, element 0: the top 24 bits of SplitMix64's first output for seed 0. -/
theorem test_stochastic_draw : stochDraw 0 0 0 = 0xE220A8 := by decide +kernel

/-- The worked example of R86, VID 55 and 56 at 65 °C: rates in 10⁷ cycles per second, the dynamic part and the leakage in mW. -/
theorem test_power : typicalRate (vidVolt 55) (65 * 128) = 649 / 4 ∧ (dynAt (vidVolt 55) (65 * 128) + 1 / 2).floor = 1866 ∧
    (leakAt (vidVolt 55) (65 * 128) + 1 / 2).floor = 164 ∧ typicalRate (vidVolt 56) (65 * 128) = 168 ∧
    (dynAt (vidVolt 56) (65 * 128) + 1 / 2).floor = 2003 ∧ leakAt (vidVolt 56) (65 * 128) = 170 := by decide +kernel

/-- Leakage doubles for each 25 K (R86). -/
theorem test_leak_doubles : leakAt (vidVolt 60) (90 * 128) = 400 ∧ leakAt (vidVolt 60) (40 * 128) = 100 := by decide +kernel

/-- A drive the leak forces holds FP_PWM at a level whatever POL says (R558). -/
theorem test_forced_pwm : (((stFan.setWfld fFP_STAT_CAUSE 2 2).setWfld fFP_STAT_DRIVE 2 1000).setWfld fFP_CFG_POL 2 1).fpPwm 2 = .high ∧
    (((stFan.setWfld fFP_STAT_CAUSE 2 2).setWfld fFP_STAT_DRIVE 2 0).setWfld fFP_CFG_POL 2 1).fpPwm 2 = .low := by decide +kernel

/-- A number above every range. -/
def big : Nat := 2 ^ 70

/-- Commands that name a unit the block has not, or an operand outside its range: not well-formed. -/
theorem test_illformed_0 : ([.registerWrite .hw big 0 0,
    .meshFlitReceive big 0 (meshFlitTo 3),
    .meshFlitReceive 0 big (meshFlitTo 3),
    .routeHoldEnd big,
    .meshStopRailTrip big,
    .dieOvercurrentTrip big,
    .pwDieIsoWrite .hw big 0,
    .pwTwinCtlWrite .hw big 0 0 false,
    .pwTwinCtlWrite .hw 0 big 0 false,
    .twinIlimEntry big 0 false,
    .twinIlimEntry 0 big false,
    .busConverterFail big,
    .hiBar2BaseWrite big 0,
    .hiPkgNumWrite big 0,
    .bar4DoorbellWrite big 0 0,
    .bar4DoorbellWrite 0 big 0,
    .hostMemoryRequest big 0 0 0 none,
    .doorbellSetArrive .hw big 0,
    .waitTimeout big,
    .timerCompare big,
    .writeRefusalNotice big 0,
    .wordIssue big,
    .wordComplete big .ok,
    .exceptionTaken big,
    .interruptTaken big,
    .spnRun .hw big,
    .spnHaltRequest .hw big,
    .spnStep .hw big,
    .spindleHalted big] : List Instr).any Instr.wf = false := by decide +kernel

/-- Commands that name a unit the block has not, or an operand outside its range: not well-formed. -/
theorem test_illformed_1 : ([.stateViewAccess .hw big 0 0 none,
    .stateViewAccess .hw 0 big 0 none,
    .sWord big 0,
    .mma big 0,
    .mms big 0,
    .macc big 0,
    .mclr big 0,
    .mrd big 0,
    .mrdc big 0,
    .mflag big 0,
    .tadd big 0,
    .tsub big 0,
    .tmul big 0,
    .tdiv big 0,
    .tfma big 0,
    .tmin big 0,
    .tmax big 0,
    .tabs big 0,
    .tadds big 0,
    .tmuls big 0,
    .tscl2 big 0,
    .trelu big 0,
    .tgelu big 0,
    .tsigm big 0,
    .ttanh big 0,
    .texp big 0,
    .tlog big 0,
    .tsqrt big 0,
    .trsqrt big 0,
    .trecip big 0,
    .tcgt big 0,
    .tceq big 0] : List Instr).any Instr.wf = false := by decide +kernel

/-- Commands that name a unit the block has not, or an operand outside its range: not well-formed. -/
theorem test_illformed_2 : ([.tsel big 0,
    .tcopy big 0,
    .ttrans big 0,
    .tcvt big 0,
    .tfill big 0,
    .tbcast big 0,
    .tget big 0,
    .tput big 0,
    .tzero big 0,
    .ldt big 0,
    .stt big 0,
    .dma big 0,
    .dmaf big 0,
    .gather big 0,
    .poolSum big 0,
    .poolMean big 0,
    .poolMax big 0,
    .poolWsum big 0,
    .scatter big 0,
    .scatterAdd big 0,
    .updSgd big 0,
    .updAdagrad big 0,
    .updAdam big 0,
    .tableWordComplete big .done,
    .br big 0,
    .brr big 0,
    .call big 0,
    .callr big 0,
    .loop big 0,
    .halt big 0,
    .fence big 0,
    .doorbell big 0] : List Instr).any Instr.wf = false := by decide +kernel

/-- Commands that name a unit the block has not, or an operand outside its range: not well-formed. -/
theorem test_illformed_3 : ([.wait big 0,
    .sync big 0,
    .retx big 0,
    .brk big 0,
    .epoch big 0,
    .rdepoch big 0,
    .plyForm .hw big 0,
    .plyJoin .hw big 0,
    .plySplit .hw big 0,
    .plyDissolve .hw big 0,
    .plyRun .hw big 0,
    .plyHalt .hw big 0,
    .plyStep .hw big 0,
    .plyReform .hw big 0,
    .plyBadCommand .hw big 0,
    .plyCmdComplete big,
    .plyDoorbellMove big,
    .plyWordCleared big 0,
    .plyMemberLost big 0,
    .plyMemberLost 0 big,
    .plyAutoReform big,
    .patrolScrubRead big .good,
    .qdCarveWrite .hw big 0,
    .qdCfgWrite .hw big 0,
    .qdTenWrite .hw big 0 0,
    .qdTenWrite .hw 48 big 0,
    .regionLoad .hw big 0,
    .regionLoadDone big,
    .regionUnload .hw big 0,
    .regionUnloadDone big,
    .regionBadCommand .hw big 0,
    .skeinQuiesce .hw big 0,
    .skeinQuiesceDone big] : List Instr).any Instr.wf = false := by decide +kernel

/-- Commands that name a unit the block has not, or an operand outside its range: not well-formed. -/
theorem test_illformed_4 : ([.skeinResume .hw big 0,
    .skeinRollback .hw big 0,
    .skeinRollbackDone big none,
    .skeinCommit .hw big 0,
    .quarryLost big,
    .partnerLost big,
    .pcRebuildDone big 0,
    .pcRebuildDone 48 big,
    .hbmEyeAdjust big 0 0 0 0 0,
    .hbmEyeAdjust 48 big 0 0 0 0,
    .hbmEyeAdjust 48 0 big 0 0 0,
    .bitAliasWrite (.pad 0 0) big false mH [1] [],
    .cdBnkPwrWrite .hw big 0,
    .wdBnkPwrWrite .hw big 0,
    .mtestBorrow (.pad 0 0) big false [] false,
    .colrepProgram .hw big 0,
    .colrepDone big false,
    .pcieHotReset big,
    .functionLevelReset big false,
    .hostLinkTrained big 0 0 false,
    .hostDmaEnable big 0 0,
    .hostDmaEnable 0 big 0,
    .hostDmaDisable big 0 0,
    .hostDmaDisable 0 big 0,
    .hostDmaHeadWrite big 0 0,
    .hostDmaHeadWrite 0 big 0,
    .hostDmaDescStart big 0 0,
    .hostDmaDescStart 0 big 0,
    .hostDmaDescComplete big 0 none,
    .hostDmaDescComplete 0 big none,
    .hostDmaIdle big 0,
    .hostDmaIdle 0 big] : List Instr).any Instr.wf = false := by decide +kernel

/-- Commands that name a unit the block has not, or an operand outside its range: not well-formed. -/
theorem test_illformed_5 : ([.cxlPortBringup big expand1,
    .cxlLinkDown big,
    .cxlRetrain .hw big,
    .cxlEventLogPoll big [],
    .warpNegotiateStart big,
    .warpPagesExchanged big 0 0 0 0 0,
    .warpTrainingDone big 0,
    .warpEnterActive big,
    .warpLeaveActive big,
    .warpFlitReceive big flit0,
    .warpNakReceive big 0,
    .warpRetrain big,
    .warpPortDown big 0 [],
    .warpLaneRetire big 0,
    .warpLaneRetire 0 big,
    .warpPortRetire big,
    .wpRouteWrite .hw big 0 0,
    .wpRouteWrite .hw 0 big 0,
    .flowRouteHoldEnd big,
    .remoteRequestTimeout big ⟨mH, .read⟩,
    .remoteRequestTimeout 0 ⟨.host 2, .read⟩,
    .warpLaneMarginCheck big 0 0 0 0,
    .warpLaneMarginCheck 0 big 0 0 0,
    .collBegin big false,
    .collComplete big [],
    .collMemberLost big,
    .slackWindowEnd big 0 0 0 0 0 0 [],
    .slackWindowEnd 0 big 0 0 0 0 0 [],
    .avsProbeEnd big 0,
    .avsProbeEnd 0 big,
    .pwTwinAvsWrite .hw big 0 0 false,
    .pwTwinAvsWrite .hw 0 big 0 false,
    .timebaseSerialWord big false] : List Instr).any Instr.wf = false := by decide +kernel

/-- Commands that name a unit the block has not, or an operand outside its range: not well-formed. -/
theorem test_illformed_6 : ([.diodeConversion big 0 0 0 0 0,
    .diodeConversion 0 big 0 0 0 0,
    .dieIdleBurst big,
    .twinIdleBurst big 0,
    .twinIdleBurst 0 big,
    .calibrationWrite .hw big 0,
    .errorOccurrence big 0,
    .errorOccurrence 0 big,
    .wdFltThrWrite .hw big 0,
    .groupReadyMessage big,
    .groupAbortMessage big,
    .groupMemberTimeout big,
    .healthyWrite .hw big 0,
    .watchdogKick .hw big 0,
    .watchdogExpire big,
    .mbOutWrite .hw big false 0 [],
    .mbPost .hw big false,
    .mbWait .hw big false,
    .mbPostWait .hw big false,
    .mbResetIn .hw big false,
    .mbAck .hw big false 0,
    .mbDbOutWrite .hw big false 0,
    .wdDiePhaseWrite .hw big 0,
    .lockRead .hw big,
    .lockWrite .hw big,
    .eventRecord big 0 0 0,
    .eventRecord 0 big 0 0,
    .eventRecord 0 0 big 0,
    .evLimitWrite .hw big 0,
    .sealLoopChange big,
    .fuseProgram .hw big 0,
    .fuseProgramDone big 0] : List Instr).any Instr.wf = false := by decide +kernel

/-- Commands that name a unit the block has not, or an operand outside its range: not well-formed. -/
theorem test_illformed_7 : ([.flowLossDetect big 0 0,
    .leakLoopSample big 0 0 0,
    .leakConfirm big,
    .junctionTrip big 0,
    .junctionTrip 0 big,
    .outletTrip big,
    .thTenmapWrite .hw big 0 0,
    .thTenmapWrite .hw 0 big 0,
    .thTenShareWrite .hw big 0,
    .policyRegisterWrite .hw big 0,
    .loopSample big 0,
    .loopSample 0 big,
    .loopSwap .hw big 0,
    .loopModeWrite .hw big 0,
    .loopClrFault .hw big 0,
    .loopSetWrite .hw big 0 0 0,
    .loopSetWrite .hw 0 big 0 0,
    .loopSetWrite .hw 0 0 big 0,
    .solenoidOn .hw big 0,
    .solenoidOff .hw big 0,
    .solenoidPeakStart big,
    .solenoidPeakReached big 0,
    .solenoidTtpTimeout big,
    .solenoidDip big 0,
    .solenoidPeakEnd big,
    .solenoidRetryWaitEnd big,
    .solenoidHoldEnd big,
    .solenoidRecoverEnd big false,
    .coilOvercurrent big 0,
    .coilOpenLoad big 0,
    .tachSilence big 0,
    .fanSlow big 0] : List Instr).any Instr.wf = false := by decide +kernel

/-- Commands that name a unit the block has not, or an operand outside its range: not well-formed. -/
theorem test_illformed_8 : ([.spinupAttemptEnd big 0 0,
    .spinupPauseEnd big,
    .blockedRetry big,
    .canFrameReceive big ⟨false, false, 0, false, false, false, 0, []⟩,
    .rxBufferRead .hw big 0 0,
    .rxBufferRead .hw 0 big 0,
    .rxBufferRead .hw 0 0 big,
    .txRequest .hw big 0,
    .txRequest .hw 0 big,
    .txAbort .hw big 0,
    .txAbort .hw 0 big,
    .txAttemptStart big,
    .txAttemptEnd big .sent,
    .txLifetimeEnd big 0,
    .txLifetimeEnd 0 big,
    .canRecover .hw big,
    .busOffRecoveryDone big,
    .tbModeWrite .hw big 0,
    .canIntegrationDone big,
    .autorate .hw big,
    .autorateCandidateTimeout big,
    .tbTimingWrite .hw big false 0,
    .powerOrder big,
    .statusRequest big,
    .emergencyReceive big,
    .wdr big 0,
    .wdr 0 big,
    .dieReset big 0,
    .dieReset 0 big,
    .dieResetEnd big,
    .spnReset big 0 false,
    .spnReset 0 big false] : List Instr).any Instr.wf = false := by decide +kernel

/-- Commands that name a unit the block has not, or an operand outside its range: not well-formed. -/
theorem test_illformed_9 : ([.portReset big 0,
    .portReset 0 big,
    .wdDiePwrWrite .hw big 0,
    .diePowerChangeDone big 0 0,
    .powerOnReset big false false,
    .perstNDeassert big,
    .hostConfigRequest big,
    .canBusError big .stuff false,
    .stackTemperatureReadout big 0 0,
    .stackTemperatureReadout 48 big 0,
    .solenoidDeferLimit big,
    .bankAccess (.pad big 0) [],
    .bankAccess (.pad 0 16) [],
    .bankAccess (.sram 2 0) [],
    .bankAccess (.pad 0 0) [⟨.core, big, 1, none, 0, []⟩],
    .bankAccess (.pad 0 0) [⟨.dma, 0, 1, some [], 0, []⟩],
    .bankAccess (.pad 0 0) [⟨.capture, 0, 1, none, 0, []⟩],
    .bankPowerTransition (.pad big 0),
    .bankWakeDone (.sram 0 64),
    .bitAliasWrite (.sram 2 0) 0 false mH [0] [],
    .mtestBorrow (.pad 0 0) 0 false [(32, 0)] false,
    .mtestBorrow (.pad 0 0) 0 false [(0, 72)] false] : List Instr).any Instr.wf = false := by decide +kernel


/-! Witnesses: for each statement with hypotheses, and for each clause of it, a state and operands that meet them
together. -/

/-- A state and operands that meet the hypotheses. -/
theorem wit_IdleStepCountsAHandshake : st0.pending = [] ∧ st0.lat .adjAcc 0 0 = 0 ∧ st0.fld fWD_TIME_ADJ_PPM st0.aw 0 = 0 ∧ st0.lat .timeHalf 0 0 < 2 := by decide +kernel

/-- A state and operands that meet the hypotheses. -/
theorem wit_WellFormedCommandsComplete : Instr.wf (.spnRun .hw 96) = true ∧ Instr.wf (.spnRun .hw 1536) = false := by decide +kernel

/-- A state and operands that meet the hypotheses. -/
theorem wit_CommandsLeaveTheQueue : ∃ t, exec (.spnRun .hw 96) st0 = .next t := ⟨_, rfl⟩

/-- A state and operands that meet the hypotheses. -/
theorem wit_StepKeepsMemoryCanonical : Memory.wf stPkg.mem = true ∧ ∃ t, step stPkg = .next t := ⟨by decide +kernel, _, rfl⟩

/-- A state and operands that meet the hypotheses. -/
theorem wit_PredicateZeroReadsOne : stHalt.streamCause 96 = none ∧ decodeCause stHalt 96 (cw 0x310 0) = none ∧ wPred (cw 0x310 0) = 0 := by decide +kernel

/-- A state and operands that meet the hypotheses of clause 1. -/
theorem wit_WaitTimeoutsAndEmptyMasks_0 : (stW waitZero).performs 96 0x312 waitZero = true ∧ ((stW waitZero).spin 96).getG (wGB waitZero) = 0 := by decide +kernel

/-- A state and operands that meet the hypotheses of clause 2. -/
theorem wit_WaitTimeoutsAndEmptyMasks_1 : (stWait (2 ^ 64 - 1)).spState 96 = 4 ∧ ((stWait (2 ^ 64 - 1)).spin 96).spool.head? = some (entryOf waitZero 9) ∧ ((stWait (2 ^ 64 - 1)).spin 96).getG (wGB (entryOf waitZero 9).word) = BitVec.allOnes 64 := by decide +kernel

/-- A state and operands that meet the hypotheses of clause 3. -/
theorem wit_WaitTimeoutsAndEmptyMasks_2 : (stWait 7).isLead 96 = true ∧ (stWait 7).spFlag fSPN_CTL_HALT 96 = false ∧ (stWait 7).spState 96 = 4 ∧ ((stWait 7).spin 96).spool.head? = some (entryOf waitZero 9) ∧ ((stWait 7).spin 96).getG (wGB (entryOf waitZero 9).word) ≠ BitVec.allOnes 64 ∧ (stWait 7).waitMatch 96 (entryOf waitZero 9).word = some 1 := by decide +kernel

/-- A state and operands that meet the hypotheses of clause 4. -/
theorem wit_WaitTimeoutsAndEmptyMasks_3 : bitsOf ((stHalt.spin 96).getG (wGA (cw 0x312 0))) 31 0 = 0 ∧ wMODE (cw 0x312 0) = false ∧ wMODE (cw 0x312 (2 ^ 49)) = true ∧ bitsOf ((stHalt.spin 96).getG (wGA (cw 0x312 (2 ^ 49)))) 31 0 = 0 := by decide +kernel

/-- A state and operands that meet the hypotheses. -/
theorem wit_UnassignedOpcodesAreIllegal : stHalt.streamCause 96 = none ∧ wOp (cw 0x324 0) ∉ opcodes ∧ (tSpec 0x110).isSome = true ∧ (mSpec 0x200).isSome = true ∧ (cSpec 0 0x300).isSome = true ∧ 0 ∈ opcodes := by decide +kernel

/-- A state and operands that meet the hypotheses of clause 1. -/
theorem wit_IntegerDivisionAndWrapping_0 : (st0.spin 96).getG (lRS2 (0x16 * 2 ^ 24)) = 0 ∧ lSOP (0x16 * 2 ^ 24) = 0x16 := by decide +kernel

/-- A state and operands that meet the hypotheses of clause 2. -/
theorem wit_IntegerDivisionAndWrapping_1 : ((stS 0).spin 96).getG (lRS2 (slotR 0x16)) ≠ 0 ∧ lSOP (slotR 0x16) = 0x16 ∧ lSOP (slotR 0x18) = 0x18 := by decide +kernel

/-- A state and operands that meet the hypotheses of clause 3. -/
theorem wit_IntegerDivisionAndWrapping_2 : lSOP (slotR 0x10) = 0x10 ∧ lSOP (slotR 0x11) = 0x11 ∧ lSOP (slotR 0x12) = 0x12 ∧ lSOP (slotR 0x13) = 0x13 := by decide +kernel

/-- A state and operands that meet the hypotheses of clause 1. -/
theorem wit_BranchesAndLinks_0 : (stW (cw 0x300 (77 * 2 ^ 16))).performs 96 0x300 (cw 0x300 (77 * 2 ^ 16)) = true := by decide +kernel

/-- A state and operands that meet the hypotheses of clause 2. -/
theorem wit_BranchesAndLinks_1 : (stW (cw 0x301 (5 * 2 ^ 30))).performs 96 0x301 (cw 0x301 (5 * 2 ^ 30)) = true := by decide +kernel

/-- A state and operands that meet the hypotheses of clause 3. -/
theorem wit_BranchesAndLinks_2 : (stW (cw 0x302 (77 * 2 ^ 16 + 5 * 2 ^ 30))).performs 96 0x302 (cw 0x302 (77 * 2 ^ 16 + 5 * 2 ^ 30)) = true := by decide +kernel

/-- A state and operands that meet the hypotheses of clause 4. -/
theorem wit_BranchesAndLinks_3 : (stW (cw 0x303 (5 * 2 ^ 30 + 5 * 2 ^ 35))).performs 96 0x303 (cw 0x303 (5 * 2 ^ 30 + 5 * 2 ^ 35)) = true := by decide +kernel

/-- A state and operands that meet the hypotheses. -/
theorem wit_LanesAddExactly : Lane.zero.consistent = true ∧ ([FV.fin false 3 2, .fin true 1 4].map FV.units).sum < 2 ^ 639 ∧ [FV.fin false 3 2, .fin true 1 4].Perm [.fin true 1 4, .fin false 3 2] := ⟨by decide +kernel, by decide +kernel, List.Perm.swap _ _ _⟩

/-- A state and operands that meet the hypotheses. -/
theorem wit_RetiredWordsMoveOn : ((stPly.mates 96).map fun x => x.2).Nodup ∧ stPly.mates 96 = [(0, 96), (1, 97)] := by decide +kernel

/-- A state and operands that meet the hypotheses. -/
theorem wit_GroupsReachEveryMember : (((stPly.groups 96 0).flatMap fun g => g.mems).map fun m => m.2).Nodup ∧ stPly.groups 96 0 = [⟨2, [(0, 96), (1, 97)]⟩] := by decide +kernel

/-- A state and operands that meet the hypotheses. -/
theorem wit_FilledShapesReadBack : (fmtFP32.slot % 2 = 0 ∧ 0 < fmtFP32.slot ∧ fmtFP32.width ≤ 4 * fmtFP32.slot) ∧ rowBytes fmtFP32 2 ≤ 8 := by decide +kernel

/-- For each clause, a state and operands that meet its hypotheses. -/
theorem wit_MeshAndRailCommandsComplete :
    ((fun (d : Nat) (link : Nat) (k : Nat) (x : MeshFlit) (s : State) => decide (d < 64 ∧ link < 4 ∧ meshFits x = true ∧ s.linkUp d link = true ∧ meshGood x = true ∧ x.dst ≠ d ∧ nextLink s.routeMasks d x.dst = some k)) 3 0 1 (meshFlitTo 2) stDie &&
    (fun (d : Nat) (link : Nat) (x : MeshFlit) (s : State) => decide (d < 64 ∧ link < 4 ∧ meshFits x = true ∧ s.linkUp d link = true ∧ meshGood x = true ∧ x.dst = d)) 3 0 (meshFlitTo 3) stDie &&
    (fun (d : Nat) (link : Nat) (x : MeshFlit) (s : State) => decide (d < 64 ∧ link < 4 ∧ meshFits x = true ∧ s.linkUp d link = true ∧ meshGood x = false ∧ s.countsOnly 0x07 (unitId d (0x300 + link)) = true)) 3 0 ({ meshFlitTo 3 with crc := 0 }) stDie &&
    (fun (d : Nat) => decide (d < 64)) 3 &&
    (fun (d : Nat) (s : State) => decide (d < 62 ∧ s.flag fPW_DIE_ISO_MS_ON 62 d = true)) 3 stDie &&
    (fun (d : Nat) (s : State) => decide (d < 62 ∧ s.flag fPW_DIE_ISO_ON 62 d = true)) 3 stDie &&
    (fun (m : Master) (d : Nat) (v : W64) (s : State) => decide (d < 62 ∧ s.isActive m = true ∧ bitOf v 1 = true ∧ s.flag fPW_DIE_ISO_TRIP 62 d = false ∧ s.lat .tripReset d 0 = 0 ∧ s.wflag fTH_STAT_TRIP 0 = false ∧ s.lat .dieRetired d 0 = 0)) mW 5 0x12 stDie &&
    (fun (d : Nat) (k : Nat) (s : State) => decide (d < 48 ∧ k < 17 ∧ s.twinState d k = 2 ∧ s.flag fPW_TWIN_CTL_ILIM d k = false)) 3 0 stTwin &&
    (fun (d : Nat) (k : Nat) (s : State) => decide (d < 48 ∧ k < 17 ∧ s.flag fPW_TWIN_CTL_ILIM d k = true)) 3 0 (stTwin.setFld fPW_TWIN_CTL_ILIM 3 0 1)) = true := by
  decide +kernel

/-- For each clause, a state and operands that meet its hypotheses. -/
theorem wit_InputCommandsComplete :
    ((fun (vin : Nat) (iin : Nat) (pin : Nat) => decide (vin < 2 ^ 16 ∧ iin < 2 ^ 16 ∧ pin < 2 ^ 32)) 48000 100 5000 &&
    (fun (n : Nat) (s : State) => decide (n < 16 ∧ bitOf (s.reg .PW_CONV_OK 62 0) n = true)) 5 (stRun.setReg .PW_CONV_OK 62 0 0xFFFF) &&
    (fun (s : State) => decide (s.pkgState ≠ 2)) stRun &&
    (fun (s : State) => decide (s.pkgState ≠ 2)) stRun &&
    (fun (s : State) => decide (s.pkgState = 2 ∧ s.lat .inputBad 0 0 = 1 ∧ s.lat .offCause 0 0 = 2 ∧ s.wfld fTH_ORDER_EFF_STATE 0 = 0 ∧ s.railsBarred = false)) ((((stRun.setWfld fWD_PKG_STAT_STATE 0 2).setLat .offCause 0 0 2).setLat .inputBad 0 0 1))) = true := by
  decide +kernel

/-- For each clause, a state and operands that meet its hypotheses. -/
theorem wit_TwinRegulatorCommandsComplete :
    ((fun (m : Master) (d : Nat) (k : Nat) (v : W64) (s : State) => decide (d < 48 ∧ k < 17 ∧ s.isActive m = true ∧ 48 ≤ getBits v 15 8 ∧ getBits v 15 8 ≤ 68)) mW 3 0 0x3C20 stDie &&
    (fun (m : Master) (d : Nat) (k : Nat) (v : W64) (s : State) => decide (d < 48 ∧ k < 17 ∧ s.isActive m = true ∧ s.lat .raised d k ≠ 0 ∧ 48 ≤ getBits v 15 8 ∧ getBits v 15 8 ≤ 68)) mW 3 0 0x3C20 (stDie.setLat .raised 3 0 1) &&
    (fun (m : Master) (d : Nat) (k : Nat) (v : W64) (s : State) => decide (d < 48 ∧ k < 17 ∧ s.isActive m = true ∧ 48 ≤ getBits v 15 8 ∧ getBits v 15 8 ≤ 68 ∧ getBits v 5 4 = 2 ∧ s.flag fPW_TWIN_CTL_RETIRED d k = false ∧ s.dieUp d = true)) mW 3 0 0x3C20 stDie &&
    (fun (m : Master) (d : Nat) (k : Nat) (v : W64) (s : State) => decide (d < 48 ∧ k < 17 ∧ s.isActive m = true ∧ 48 ≤ getBits v 23 16 ∧ getBits v 23 16 ≤ 68 ∧ 8 ≤ getBits v 15 8 ∧ getBits v 15 8 ≤ 64 ∧ getBits v 7 0 < getBits v 15 8)) mW 3 0 0x3C140A stDie &&
    (fun (d : Nat) (k : Nat) (s : State) => decide (d < 48 ∧ k < 17 ∧ s.twinState d k = 2)) 3 0 stTwin &&
    (fun (d : Nat) (least : Nat) (s : State) => decide (d < 64 ∧ s.flag fPW_DIE_ISO_ON 62 d = true ∧ 10 ≤ least)) 3 30 stTwin &&
    (fun (d : Nat) (k : Nat) (s : State) => decide (d < 48 ∧ k < 17 ∧ s.twinState d k = 2 ∧ s.lat .retainDue d k = 0 ∧ s.fld fPW_TWIN_SLACK_MIN d k < s.fld fPW_TWIN_AVS_GUARD d k ∧ s.fld fPW_TWIN_CTL_VID d k < 68)) 3 0 (stTwin.setFld fPW_TWIN_SLACK_MIN 3 0 5) &&
    (fun (d : Nat) (k : Nat) (s : State) => decide (d < 48 ∧ k < 17 ∧ s.lat .probe d k = 1 ∧ 0 < s.fld fPW_TWIN_AVS_FLOOR d k)) 3 0 (stTwin.setLat .probe 3 0 1)) = true := by
  decide +kernel

/-- For each clause, a state and operands that meet its hypotheses. -/
theorem wit_TimebaseAndPhyCommandsComplete :
    ((fun (m : Master) (v : W64) (s : State) => decide (s.hostOrActive m = true ∧ v.toNat < 2 ^ 40)) mH 1000 stRun &&
    (fun (d : Nat) => decide (d < 64)) 3 &&
    (fun (m : Master) (v : W64) (s : State) => decide (s.hostOrActive m = true ∧ -25000 ≤ signedOf 16 (getBits v 15 0) ∧ signedOf 16 (getBits v 15 0) ≤ 25000)) mH 1000 stRun &&
    (fun (s : State) => decide (s.wflag fWD_TIME_STAT_ON_BACKUP 0 = false)) stRun &&
    (fun (s : State) => decide (s.wflag fWD_TIME_STAT_ON_BACKUP 0 = true)) (stRun.setBoth fWD_TIME_STAT_ON_BACKUP 1) &&
    (fun (s : State) => decide (s.wflag fWD_TIME_STAT_ON_BACKUP 0 = false)) stRun &&
    (fun (d : Nat) (stack : Nat) (pc : Nat) (eyeT : Nat) (eyeV : Nat) (s : State) => decide (48 ≤ d ∧ d < 56 ∧ stack < 4 ∧ pc < 32 ∧ s.quarryUp d = true ∧ 32 ≤ eyeT ∧ eyeT < 256 ∧ eyeV < 256)) 48 1 7 40 90 (dieOn 48 stRun) &&
    (fun (p : Nat) (l : Nat) (syms : Nat) (received : Nat) (eyeH : Nat) (s : State) => decide (p < 16 ∧ l < 8 ∧ s.dieUp (warpDie p) = true ∧ eyeH < 256 ∧ syms * 10000 ≤ received)) 5 2 3 30000 9 (dieOn 57 stRun)) = true := by
  decide +kernel

/-- For each clause, a state and operands that meet its hypotheses. -/
theorem wit_HostPortCommandsComplete_0 :
    ((fun (port : Nat) => decide (port < 2)) 1 &&
    (fun (port : Nat) => decide (port < 2)) 1 &&
    (fun (port : Nat) (width : Nat) (speed : Nat) (s : State) => decide (port < 2 ∧ width < 32 ∧ speed < 16 ∧ s.lat .perst port 0 = 0 ∧ s.dieUp 60 = true)) 1 8 6 (dieOn 60 stRun) &&
    (fun (port : Nat) (c : Nat) (v : W64) (s : State) => decide (port < 2 ∧ c < 4 ∧ s.dieUp 60 = true ∧ bitOf v 0 = true ∧ 1 ≤ getBits v 20 16 ∧ getBits v 20 16 ≤ 16)) 1 2 0x40001 (dieOn 60 stRun) &&
    (fun (port : Nat) (c : Nat) (v : W64) (s : State) => decide (port < 2 ∧ c < 4 ∧ s.dieUp 60 = true ∧ bitOf v 0 = true ∧ (getBits v 20 16 = 0 ∨ 16 < getBits v 20 16))) 1 2 0x110001 (dieOn 60 stRun) &&
    (fun (port : Nat) (c : Nat) (v : W64) (s : State) => decide (port < 2 ∧ c < 4 ∧ s.dieUp 60 = true ∧ bitOf v 0 = false)) 1 2 0x40008 (((dieOn 60 stRun).setDmaMoving 1 2 [dmaDesc])) &&
    (fun (port : Nat) (c : Nat) (s : State) => decide (port < 2 ∧ c < 4 ∧ s.dieUp 60 = true)) 1 2 (dieOn 60 stRun) &&
    (fun (port : Nat) (c : Nat) (s : State) => decide (port < 2 ∧ c < 4 ∧ s.dieUp 60 = true ∧ s.dmaFld fHI_DMA_CTL_ENABLE port c = 1 ∧ (s.dmaMoving port c).length < s.dmaPosted port c)) 1 2 (((((dieOn 60 stRun).setDmaFld fHI_DMA_CTL_LOG2 1 2 4).setDmaFld fHI_DMA_CTL_ENABLE 1 2 1).setDmaFld fHI_DMA_HEAD_INDEX 1 2 1)) &&
    (fun (port : Nat) (c : Nat) (w : W256) (rest : List W256) (s : State) => decide (port < 2 ∧ c < 4 ∧ s.dmaMoving port c = w :: rest ∧ dmaBad w = false ∧ (dmaDbe w && s.bellHeld (hostUnit port) (dmaTarget w)) = false ∧ dmaToHost w = true ∧ dmaLen w ≠ 0 ∧ (s.moveRead (asHost port) (dmaSysAddr w) (dmaLen w)).1 = .ok)) 1 2 (BitVec.ofNat 256 (2 ^ 224 + 4 * 2 ^ 192 + 0xF000080000000 * 2 ^ 64)) ([]) (((dieOn 0 (dieOn 60 stRun)).setDmaMoving 1 2 [BitVec.ofNat 256 (2 ^ 224 + 4 * 2 ^ 192 + 0xF000080000000 * 2 ^ 64)])) &&
    (fun (port : Nat) (c : Nat) (w : W256) (rest : List W256) (bs : List Byte) (s : State) => decide (port < 2 ∧ c < 4 ∧ s.dmaMoving port c = w :: rest ∧ dmaBad w = false ∧ dmaDbe w = false ∧ dmaToHost w = false ∧ dmaLen w ≠ 0 ∧ dmaLen w ≤ bs.length ∧ (s.moveWrite (asHost port) (dmaSysAddr w) (bs.take (dmaLen w))).1 = .ok)) 1 2 (BitVec.ofNat 256 (4 * 2 ^ 192 + 0xF000080000000 * 2 ^ 64)) ([]) ([1,2,3,4,5]) (((dieOn 0 (dieOn 60 stRun)).setDmaMoving 1 2 [BitVec.ofNat 256 (4 * 2 ^ 192 + 0xF000080000000 * 2 ^ 64)]))) = true := by
  decide +kernel

/-- For each clause, a state and operands that meet its hypotheses. -/
theorem wit_HostPortCommandsComplete_1 :
    ((fun (port : Nat) (c : Nat) (w : W256) (rest : List W256) (s : State) => decide (port < 2 ∧ c < 4 ∧ s.dmaMoving port c = w :: rest ∧ dmaBad w = false ∧ dmaDbe w = false ∧ dmaLen w = 0)) 1 2 (BitVec.ofNat 256 (2 ^ 225)) ([dmaDesc]) (((dieOn 60 stRun).setDmaMoving 1 2 [BitVec.ofNat 256 (2 ^ 225), dmaDesc])) &&
    (fun (port : Nat) (c : Nat) (s : State) => decide (port < 2 ∧ c < 4 ∧ s.dmaFld fHI_DMA_CTL_ENABLE port c = 0 ∧ s.dmaMoving port c = [])) 1 2 stRun &&
    (fun (port : Nat) (s : State) => decide (port < 2 ∧ s.dieUp 60 = true ∧ (∀ p : Nat, p < 16 → s.wpFld fWP_PORT_STAT_STATE p ≠ 4))) 1 (dieOn 60 stRun) &&
    (fun (port : Nat) (p : Nat) (s : State) => decide (port < 2 ∧ s.dieUp 60 = true ∧ p < 16 ∧ s.wpFld fWP_PORT_STAT_STATE p = 4)) 1 5 (((dieOn 57 (dieOn 60 stRun)).setWpFld fWP_PORT_STAT_STATE 5 4)) &&
    (fun (port : Nat) (s : State) => decide (port < 2 ∧ s.dieUp 60 = true)) 1 (dieOn 60 stRun)) = true := by
  decide +kernel

/-- For each clause, a state and operands that meet its hypotheses. -/
theorem wit_CxlPortCommandsComplete :
    ((fun (p : Nat) (x : Expander) (s : State) => decide (p < 4 ∧ s.dieUp (60 + p / 2) = true ∧ s.cxFld fCX_PORT_CTL_ENABLE p = 1 ∧ s.cxFld fCX_PORT_STAT_STATE p ≤ 1 ∧ s.cxlReason p x = 0)) 3 expand1 (dieOn 61 stRun) &&
    (fun (p : Nat) (s : State) => decide (p < 4 ∧ s.cxFld fCX_PORT_STAT_STATE p = 2)) 3 (((dieOn 61 stRun).setCxFld fCX_PORT_STAT_STATE 3 2)) &&
    (fun (m : Master) (p : Nat) (s : State) => decide (p < 4 ∧ s.dieUp (60 + p / 2) = true ∧ s.hostOrActive m = true)) mH 3 (((dieOn 61 stRun).setCxFld fCX_PORT_STAT_STATE 3 2)) &&
    (fun (p : Nat) (s : State) => decide (p < 4 ∧ s.cxFld fCX_PORT_STAT_STATE p = 2)) 3 (((dieOn 61 stRun).setCxFld fCX_PORT_STAT_STATE 3 2))) = true := by
  decide +kernel

/-- For each clause, a state and operands that meet its hypotheses. -/
theorem wit_WarpPortCommandsComplete_0 :
    ((fun (p : Nat) (s : State) => decide (p < 16 ∧ s.warpUp p = true ∧ s.wpFld fWP_PORT_CTL_TRAIN_EN p = 1 ∧ s.wpFld fWP_PORT_STAT_STATE p = 0)) 5 (((dieOn 57 stRun).setWpFld fWP_PORT_CTL_TRAIN_EN 5 1)) &&
    (fun (p : Nat) (rates : Nat) (versions : Nat) (peerPkg : Nat) (peerPort : Nat) (peerRetired : Nat) (s : State) => decide (p < 16 ∧ s.warpUp p = true ∧ s.wpFld fWP_PORT_STAT_STATE p = 1 ∧ s.sharedRates p rates ≠ 0 ∧ versions.testBit 1 = true ∧ 4 ≤ popc8 (255 - ((s.wpFld fWP_PORT_STAT_RETIRED_LANES p ||| peerRetired) % 256)) ∧ peerPkg < 4096 ∧ peerPort < 16)) 5 3 2 9 4 1 (((((dieOn 57 stRun).setWpFld fWP_PORT_CTL_TRAIN_EN 5 1).setWpFld fWP_PORT_CTL_RATES 5 7).setWpFld fWP_PORT_STAT_STATE 5 1)) &&
    (fun (p : Nat) (failed : Nat) (s : State) => decide (p < 16 ∧ s.warpUp p = true ∧ s.wpFld fWP_PORT_STAT_STATE p = 2 ∧ failed &&& s.wpFld fWP_PORT_STAT_LANES_UP p = 0)) 5 1 ((((dieOn 57 stRun).setWpFld fWP_PORT_STAT_STATE 5 2).setWpFld fWP_PORT_STAT_LANES_UP 5 254)) &&
    (fun (p : Nat) (s : State) => decide (p < 16 ∧ s.warpUp p = true ∧ s.wpFld fWP_PORT_STAT_STATE p = 3 ∧ s.wpFld fWP_PORT_CTL_ENABLE p = 1 ∧ s.wpFld fWP_PORT_STAT_PEER_PKG p ≠ s.pkg)) 5 (((((dieOn 57 stRun).setWpFld fWP_PORT_STAT_STATE 5 3).setWpFld fWP_PORT_CTL_ENABLE 5 1).setWpFld fWP_PORT_STAT_PEER_PKG 5 9)) &&
    (fun (p : Nat) (s : State) => decide (p < 16 ∧ s.wpFld fWP_PORT_STAT_STATE p = 4 ∧ s.wpFld fWP_PORT_CTL_ENABLE p = 0)) 5 (((dieOn 57 stRun).setWpFld fWP_PORT_STAT_STATE 5 4)) &&
    (fun (p : Nat) (x : Flit) (s : State) => decide (p < 16 ∧ s.warpUp p = true ∧ s.wpFld fWP_PORT_STAT_STATE p = 4 ∧ x.kind = 1 ∧ x.good = true ∧ x.fec = true ∧ x.ack = false ∧ x.nak = false ∧ x.dst = s.pkg ∧ x.seq < 4096 ∧ x.seq = s.lat .warpExpect p 0 ∧ s.flitWaits x = false)) 5 flit0 (((dieOn 57 stRun).setWpFld fWP_PORT_STAT_STATE 5 4)) &&
    (fun (p : Nat) (ackseq : Nat) (s : State) => decide (p < 16 ∧ s.warpUp p = true ∧ 3 ≤ s.wpFld fWP_PORT_STAT_STATE p ∧ (ackseq % 4096 + 4096 - s.lat .warpAcked p 0) % 4096 ≠ 0 ∧ (ackseq % 4096 + 4096 - s.lat .warpAcked p 0) % 4096 < s.lat .warpUnacked p 0)) 5 2 ((((dieOn 57 stRun).setWpFld fWP_PORT_STAT_STATE 5 4).setLat .warpUnacked 5 0 5)) &&
    (fun (p : Nat) (s : State) => decide (p < 16 ∧ s.warpUp p = true ∧ s.wpFld fWP_PORT_STAT_STATE p = 4 ∧ 8 ≤ s.lat .warpReplays p 0 ∧ s.countsOnly 0x0D (warpUnit p) = true)) 5 ((((dieOn 57 stRun).setWpFld fWP_PORT_STAT_STATE 5 4).setLat .warpReplays 5 0 8)) &&
    (fun (p : Nat) (silent : Nat) (s : State) => decide (p < 16 ∧ s.warpUp p = true ∧ s.wpFld fWP_PORT_STAT_STATE p = 2 ∧ s.retraining p = true ∧ 3 ≤ s.lat .warpFails p 0 + silent ∧ s.countsOnly 0x0E (warpUnit p) = true)) 5 1 (((((dieOn 57 stRun).setWpFld fWP_PORT_STAT_STATE 5 2).setWpFld fWP_PORT_CTL_RETRAIN 5 1).setLat .warpFails 5 0 2)) &&
    (fun (p : Nat) (l : Nat) (s : State) => decide (p < 16 ∧ s.warpUp p = true ∧ l < 8 ∧ (s.wpFld fWP_PORT_STAT_RETIRED_LANES p).testBit l = false ∧ s.countsOnly 0x0D (warpUnit p) = true)) 5 2 (((dieOn 57 stRun).setWpFld fWP_PORT_STAT_STATE 5 4))) = true := by
  decide +kernel

/-- A state and operands that meet the hypotheses. -/
theorem wit_WarpPortCommandsComplete_1 : (fun (p : Nat) (s : State) => decide (p < 16 ∧ s.warpUp p = true)) 5 (((dieOn 57 stRun).setWpFld fWP_PORT_STAT_STATE 5 4)) = true := by decide +kernel

/-- For each clause, a state and operands that meet its hypotheses. -/
theorem wit_RouteCommandsComplete :
    ((fun (m : Master) (k : Nat) (s : State) => decide (k < 4096 ∧ s.dieUp 56 = true ∧ s.hostOrActive m = true)) mH 9 (dieOn 56 stRun) &&
    (fun (pkg : Nat) => decide (pkg < 4096)) 9 &&
    (fun (port : Nat) (xd : Nat) (s : State) => decide (port < 2 ∧ xd < 4 ∧ s.fld fWP_GCFG_TIMEOUT_US 56 0 ≠ 0)) 0 2 (stRun.setFld fWP_GCFG_TIMEOUT_US 56 0 100) &&
    (fun (port : Nat) (xd : Nat) (s : State) => decide (port < 2 ∧ xd < 4 ∧ s.fld fWP_GCFG_TIMEOUT_US 56 0 ≠ 0)) 0 2 (stRun.setFld fWP_GCFG_TIMEOUT_US 56 0 100) &&
    (fun (port : Nat) (xd : Nat) (c : Nat) (w : W256) (rest : List W256) (s : State) => decide (port < 2 ∧ xd < 4 ∧ c < 4 ∧ s.fld fWP_GCFG_TIMEOUT_US 56 0 ≠ 0 ∧ s.dmaMoving port c = w :: rest)) 1 2 2 dmaDesc ([]) (((stRun.setFld fWP_GCFG_TIMEOUT_US 56 0 100).setDmaMoving 1 2 [dmaDesc])) &&
    (fun (sp : Nat) (xd : Nat) (s : State) => decide (xd < 4 ∧ sp < 1536 ∧ s.fld fWP_GCFG_TIMEOUT_US 56 0 ≠ 0 ∧ s.spState sp = 3 ∧ s.plyOf sp = none ∧ s.countsOnly 0x01 (s.spUnit sp) = true)) 96 2 (((stTwin.setFld fWP_GCFG_TIMEOUT_US 56 0 100).setSpFld fSPN_STAT_STATE 96 3))) = true := by
  decide +kernel

/-- For each clause, a state and operands that meet its hypotheses. -/
theorem wit_CollectiveCommandsComplete :
    ((fun (m : Master) (v : W64) (s : State) => decide (s.dieUp 56 = true ∧ s.mayPost m = true ∧ s.coll.length < 16 ∧ (s.collRead v).op = 1 ∧ ((s.collHead (s.collRead v).group).isNone = true ∧ s.collOwn (s.collRead v) = none))) mH 0x1000 (stColl 1) &&
    (fun (m : Master) (v : W64) (s : State) => decide (s.dieUp 56 = true ∧ s.mayPost m = true ∧ s.coll.length < 16 ∧ (s.collRead v).op = 2 ∧ ((s.collHead (s.collRead v).group).isNone = true ∧ s.collOwn (s.collRead v) = none))) mH 0x1000 (stColl 2) &&
    (fun (m : Master) (v : W64) (s : State) => decide (s.dieUp 56 = true ∧ s.mayPost m = true ∧ s.coll.length < 16 ∧ (s.collRead v).op = 3 ∧ ((s.collHead (s.collRead v).group).isNone = true ∧ s.collOwn (s.collRead v) = none))) mH 0x1000 (stColl 3) &&
    (fun (m : Master) (v : W64) (s : State) => decide (s.dieUp 56 = true ∧ s.mayPost m = true ∧ s.coll.length < 16 ∧ (s.collRead v).op = 4 ∧ ((s.collHead (s.collRead v).group).isNone = true ∧ s.collOwn (s.collRead v) = none))) mH 0x1000 (stColl 4) &&
    (fun (m : Master) (v : W64) (s : State) => decide (s.dieUp 56 = true ∧ s.mayPost m = true ∧ s.coll.length < 16 ∧ (s.collRead v).op = 5 ∧ ((s.collHead (s.collRead v).group).isNone = true ∧ s.collOwn (s.collRead v) = none))) mH 0x1000 (stColl 5) &&
    (fun (m : Master) (v : W64) (s : State) => decide (s.dieUp 56 = true ∧ s.mayPost m = true ∧ s.coll = [] ∧ (s.collRead v).op = 6 ∧ s.groupCode (s.collRead v).count [s.pkg] = 0 ∧ s.collBad (s.collRead v) 1 = false ∧ (s.ownRead 56 (s.collRead v).src (4 * (s.collRead v).count)).1 = .ok ∧ s.groupCode (s.collRead v).count (s.listRead (s.collRead v)) = 0 ∧ ((s.listRead (s.collRead v)).all (fun e => decide (e < 4096)) = true))) mH 0x2000 stLoad &&
    (fun (g : Nat) (j : CollJob) (s : State) => decide (g < 16 ∧ s.dieUp 56 = true ∧ s.collHead g = some j ∧ j.begun = false ∧ j.op ≠ 6)) 0 (jobOf 1 7 false) ({ stColl 1 with coll := [jobOf 1 7 false] }) &&
    (fun (g : Nat) (j : CollJob) (sent : List (List Byte)) (s : State) => decide (g < 16 ∧ s.dieUp 56 = true ∧ s.coll = [j] ∧ j.group = g ∧ j.begun = true ∧ j.op ≠ 1 ∧ j.count ≠ 0 ∧ (s.srcRead j).1 = .ok ∧ (s.dstWrite j sent).1 = .ok)) 0 jobSum ([]) ({ dieOn 0 (stColl 5) with coll := [jobSum] }) &&
    (fun (g : Nat) (j : CollJob) (s : State) => decide (g < 16 ∧ s.dieUp 56 = true ∧ s.coll = [j] ∧ j.group = g)) 0 (jobOf 1 7 true) ({ stColl 1 with coll := [jobOf 1 7 true] })) = true := by
  decide +kernel

/-- For each clause, a state and operands that meet its hypotheses. -/
theorem wit_MailboxCommandsComplete :
    ((fun (m : Master) (pair : Nat) (low : Bool) (off : Nat) (data : List Byte) (s : State) => decide (pair < 51 ∧ s.mbMay m pair low = true ∧ ((low = true ∧ 3 ≤ pair) → s.dieUp (pair - 3) = true) ∧ off + data.length ≤ 256 ∧ (s.mbSide pair low).outStatus ≠ 1)) mH 0 true 2 ([4, 0]) stRun &&
    (fun (m : Master) (pair : Nat) (low : Bool) (s : State) => decide (pair < 51 ∧ s.mbMay m pair low = true ∧ ((low = true ∧ 3 ≤ pair) → s.dieUp (pair - 3) = true) ∧ s.mbCanPost pair low = true ∧ s.sideGone pair (!low) = false)) mH 0 true stRun &&
    (fun (m : Master) (pair : Nat) (low : Bool) (s : State) => decide (pair < 51 ∧ s.mbMay m pair low = true ∧ ((low = true ∧ 3 ≤ pair) → s.dieUp (pair - 3) = true) ∧ (s.mbSide pair low).outStatus = 1 ∧ (s.mbSide pair (!low)).wstat ≠ 1)) mH 0 true ((stRun.setMbSide 0 true (posted 0))) &&
    (fun (m : Master) (pair : Nat) (low : Bool) (s : State) => decide (pair < 51 ∧ s.mbMay m pair low = true ∧ ((low = true ∧ 3 ≤ pair) → s.dieUp (pair - 3) = true) ∧ s.mbCanPost pair low = true ∧ s.sideGone pair (!low) = false ∧ (s.mbSide pair (!low)).wstat ≠ 1)) mH 0 true stRun &&
    (fun (m : Master) (pair : Nat) (s : State) => decide (pair < 51 ∧ pair ≠ 2 ∧ s.mbMay m pair true = true ∧ (3 ≤ pair → s.dieUp (pair - 3) = true))) mH 0 ((stRun.setMbSide 0 false (posted 1))) &&
    (fun (m : Master) (pair : Nat) (low : Bool) (s : State) => decide (pair < 51 ∧ s.mbMay m pair low = true ∧ ((low = true ∧ 3 ≤ pair) → s.dieUp (pair - 3) = true) ∧ (s.mbSide pair (!low)).outStatus = 1)) mH 0 true ((stRun.setMbSide 0 false (posted 1))) &&
    (fun (m : Master) (pair : Nat) (low : Bool) (s : State) => decide (pair < 51 ∧ s.mbMay m pair low = true ∧ ((low = true ∧ 3 ≤ pair) → s.dieUp (pair - 3) = true))) mH 0 true stRun) = true := by
  decide +kernel

/-- For each clause, a state and operands that meet its hypotheses. -/
theorem wit_WardenRoleCommandsComplete :
    ((fun (w : Nat) (v : W64) (s : State) => decide (w < 2 ∧ bitOf v 8 = true ∧ s.lat .wardenHeld (62 + w) 0 = 0 ∧ s.lat .noFirmware (62 + w) 0 = 0 ∧ s.flag fWD_ROLE_ACTIVE (otherWarden (62 + w)) 0 = true ∧ s.flag fWD_ROLE_HEALTHY (otherWarden (62 + w)) 0 = true ∧ s.lat .restarted (62 + w) 0 = 0)) 1 0x100 (stRun.setLat .fwSince 63 0 5) &&
    (fun (w : Nat) (v : W64) (s : State) => decide (w < 2 ∧ bitOf v 8 = true ∧ s.lat .wardenHeld (62 + w) 0 = 0 ∧ s.lat .noFirmware (62 + w) 0 = 0 ∧ s.flag fWD_ROLE_ACTIVE (62 + w) 0 = false ∧ s.flag fWD_ROLE_ACTIVE (otherWarden (62 + w)) 0 = true ∧ s.flag fWD_ROLE_HEALTHY (otherWarden (62 + w)) 0 = true ∧ s.lat .restarted (62 + w) 0 ≠ 0)) 1 0x100 ({ stRun with stickyB := ⟨[], [], [], [7]⟩ }.setLat .restarted 63 0 1) &&
    (fun (s : State) => decide (s.flag fWD_ROLE_ACTIVE s.aw 0 = true ∧ s.flag fWD_ROLE_HEALTHY s.aw 0 = false ∧ s.flag fWD_ROLE_HEALTHY (otherWarden s.aw) 0 = true)) (((stRun.setFld fWD_ROLE_HEALTHY 62 0 0).setFld fWD_ROLE_HEALTHY 63 0 1)) &&
    (fun (m : Master) (v : W64) (s : State) => decide (bitOf v 0 = true ∧ s.hostOrActive m = true ∧ (((List.range 4).any fun c => [1, 2, 4].contains (s.fld fSV_STAT_PHASE s.aw c)) = false) ∧ s.flag fWD_ROLE_HEALTHY (otherWarden s.aw) 0 = true ∧ s.flag fWD_ROLE_MIRROR_OK s.aw 0 = true)) mH 1 (((stRun.setFld fWD_ROLE_MIRROR_OK 62 0 1).setFld fWD_ROLE_HEALTHY 63 0 1)) &&
    (fun (s : State) => decide (s.flag fWD_ROLE_ACTIVE s.aw 0 = true ∧ s.lat .wardenHeld (otherWarden s.aw) 0 = 0)) stRun &&
    (fun (w : Nat) (v : W64) (s : State) => decide (w < 2 ∧ getBits v 31 0 = 0xC3 ∧ s.lat .wardenHeld (62 + w) 0 = 0)) 1 0xC3 stRun &&
    (fun (w : Nat) (v : W64) (s : State) => decide (w < 2 ∧ getBits v 31 0 = 0x3C ∧ s.lat .wardenHeld (62 + w) 0 = 0 ∧ s.lat .kicked (62 + w) 0 = 1)) 1 0x3C (stRun.setLat .kicked 63 0 1) &&
    (fun (w : Nat) (s : State) => decide (w < 2 ∧ s.lat .wardenHeld (62 + w) 0 = 0)) 0 stRun) = true := by
  decide +kernel

/-- For each clause, a state and operands that meet its hypotheses. -/
theorem wit_PhaseAndLockCommandsComplete :
    ((fun (d : Nat) (v : W64) (s : State) => decide (d < 64 ∧ s.phaseOk d (getBits v 1 0) = true)) 5 2 (stRun.setWfld fWD_DIE_PHASE_PHASE 5 0) &&
    (fun (m : Master) (n : Nat) (me : Nat) (s : State) => decide (n < 64 ∧ ownerCode m = some me ∧ s.wfld fLK_LOCK_OWNER n = 0)) mH 63 0x8000 stRun &&
    (fun (m : Master) (n : Nat) (me : Nat) (s : State) => decide (n < 64 ∧ ownerCode m = some me ∧ s.wfld fLK_LOCK_OWNER n ≠ 0)) mH 63 0x8000 (stRun.setWfld fLK_LOCK_OWNER 63 5) &&
    (fun (m : Master) (n : Nat) (me : Nat) (s : State) => decide (n < 64 ∧ ownerCode m = some me ∧ s.wfld fLK_LOCK_OWNER n = me)) mH 0 0x8000 (stRun.setWfld fLK_LOCK_OWNER 0 0x8000) &&
    (fun (m : Master) (v : W64) (n : Nat) (s : State) => decide (n < 64 ∧ s.isActive m = true ∧ bitOf v n = true)) mW 0x8000000000000000 63 (stRun.setWfld fLK_LOCK_OWNER 63 5)) = true := by
  decide +kernel

/-- For each clause, a state and operands that meet its hypotheses. -/
theorem wit_RecorderCommandsComplete :
    ((fun (code : Nat) (sev : Nat) (unit : Nat) (s : State) => decide (code < 65536 ∧ sev < 4 ∧ unit < 65536 ∧ s.admits code = true ∧ s.wflag fEV_STAT_FULL 0 = false)) 0x1234 2 7 stRun &&
    (fun (m : Master) (v : W64) (s : State) => decide (bitOf v 0 = true ∧ s.hostOrActive m = true ∧ s.flag fFS_PRES_BUTTON s.aw 0 = true)) mH 1 (stPres.wevent 0x1234 .warn 0 0) &&
    (fun (m : Master) (n : Nat) (v : W64) (s : State) => decide (n < 1024 ∧ s.hostOrActive m = true ∧ s.limitBad s.aw n v = false)) mH 5 0x1234000500000064 stRun) = true := by
  decide +kernel

/-- For each clause, a state and operands that meet its hypotheses. -/
theorem wit_PresenceAndFuseCommandsComplete :
    ((fun (rested : Bool) (s : State) => decide ((s.flag fFS_PRES_BTN_STUCK s.aw 0 && !rested) = false)) false stRun &&
    (fun (reading : Nat) (s : State) => decide (reading < 3 ∧ reading ≠ s.fld fFS_PRES_SEAL s.aw 0)) 0 stPres &&
    (fun (s : State) => decide (s.fld fFS_PRES_SEAL s.aw 0 ≠ 1 ∧ s.lat .wardenHeld 62 0 = 0)) stRun &&
    (fun (m : Master) (w : Nat) (v : W64) (s : State) => decide (w < 2 ∧ s.hostOrActive m = true ∧ s.flag fFS_PRES_JUMPER (62 + w) 0 = true ∧ getBits v 3 0 = 1 ∧ s.flag fFS_FUSE_STAT_BUSY (62 + w) 0 = false)) mH 0 1 (stPres.setFld fFS_FUSE_PGM_DATA 62 0 6) &&
    (fun (w : Nat) (s : State) => decide (w < 2 ∧ s.flag fFS_FUSE_STAT_BUSY (62 + w) 0 = true)) 0 (((stRun.setFld fFS_FUSE_STAT_BUSY 62 0 1).setLat .fuseData 62 0 5))) = true := by
  decide +kernel

/-- For each clause, a state and operands that meet its hypotheses. -/
theorem wit_FaultCommandsComplete :
    ((fun (cls : Nat) (unit : Nat) (s : State) => decide (cls < 32 ∧ unit < 65536 ∧ s.isRetired unit = false ∧ s.nextTally cls unit ≤ s.wfld fWD_FLT_THR_COUNT cls)) 0 7 stRun &&
    (fun (cls : Nat) (unit : Nat) (s : State) => decide (cls < 32 ∧ unit < 62 * 1024 ∧ s.isRetired unit = false ∧ s.wfld fWD_FLT_THR_COUNT cls = 0 ∧ s.wfld fWD_FLT_THR_ACTION cls = 1)) 8 (unitId 3 0x310) stDie &&
    (fun (m : Master) (c : Nat) (v : W64) (s : State) => decide (c < 32 ∧ s.hostOrActive m = true ∧ thrBad c v = false)) mH 3 0x10000500000064 stRun &&
    (fun (m : Master) (v : W64) (s : State) => decide (s.hostOrActive m = true ∧ s.flag fFS_PRES_JUMPER s.aw 0 = true ∧ bitOf v 8 = true ∧ getBits v 4 0 = 0)) mH 0x70100 stPres &&
    (fun (m : Master) (v : W64) (s : State) => decide (s.hostOrActive m = true ∧ s.fld fFS_PRES_SEAL s.aw 0 = 1 ∧ bitOf v 0 = true)) mH 1 ({ stPres with retLog := [(5, 6)] })) = true := by
  decide +kernel

/-- For each clause, a state and operands that meet its hypotheses. -/
theorem wit_EpochCommandsComplete :
    ((fun (m : Master) (v : W64) (i : Nat) (ms : List (Nat × Nat)) (s : State) => decide (s.hostOrActive m = true ∧ v &&& epReserved = 0 ∧ getBits v 3 0 = 1 ∧ s.wfld fWD_EP_STAT_PHASE 0 = 0 ∧ s.unitMembers (getBits v 63 52) (getBits v 42 32) = some ms ∧ s.membersHalted (getBits v 63 52) (getBits v 42 32) = true ∧ s.enrolment (getBits v 63 52) (getBits v 42 32) = none ∧ s.freeEnt = some i ∧ s.snapOk (s.wreg .WD_EP_ARG 0).toNat ms.length = true)) mH 0x6000000001 0 ([(0, 96)]) stSnap &&
    (fun (m : Master) (v : W64) (i : Nat) (s : State) => decide (s.hostOrActive m = true ∧ v &&& epReserved = 0 ∧ getBits v 3 0 = 2 ∧ s.wfld fWD_EP_STAT_PHASE 0 = 0 ∧ (s.unitMembers (getBits v 63 52) (getBits v 42 32)).isSome = true ∧ s.unitHalted (getBits v 63 52) (getBits v 42 32) = true ∧ s.enrolment (getBits v 63 52) (getBits v 42 32) = some i)) mH 0x6000000002 0 (stEnr 1) &&
    (fun (m : Master) (v : W64) (s : State) => decide (s.hostOrActive m = true ∧ v &&& epReserved = 0 ∧ getBits v 3 0 = 3 ∧ s.wfld fWD_EP_STAT_PHASE 0 = 0)) mH 3 (stEnr 2) &&
    (fun (m : Master) (v : W64) (s : State) => decide (s.hostOrActive m = true ∧ v &&& epReserved = 0 ∧ getBits v 3 0 = 4 ∧ s.wfld fWD_EP_STAT_PHASE 0 = 0)) mH 4 (stEnr 1) &&
    (fun (m : Master) (v : W64) (s : State) => decide (s.hostOrActive m = true ∧ v &&& epReserved = 0 ∧ getBits v 3 0 = 4 ∧ s.wfld fWD_EP_STAT_PHASE 0 = 5)) mH 4 (((stEnr 1).setWfld fWD_EP_STAT_PHASE 0 5)) &&
    (fun (m : Master) (v : W64) (s : State) => decide (s.hostOrActive m = true ∧ v &&& epReserved = 0 ∧ getBits v 3 0 = 5 ∧ s.wfld fWD_EP_STAT_PHASE 0 = 5)) mH 5 (((stEnr 1).setWfld fWD_EP_STAT_PHASE 0 5)) &&
    (fun (m : Master) (v : W64) (s : State) => decide (s.hostOrActive m = true ∧ (getBits v 3 0 = 0 ∨ 6 ≤ getBits v 3 0) ∧ s.wfld fWD_EP_STAT_PHASE 0 = 0)) mH 9 stRun &&
    (fun (m : Master) (v : W64) (s : State) => decide (s.hostOrActive m = true ∧ s.entries = [] ∧ s.populated (getBits v 63 13 * 2 ^ 13) (4 * getBits v 12 0) = true ∧ ((groupNames (getBits v 12 0) (s.sysBytes (getBits v 63 13 * 2 ^ 13) (4 * getBits v 12 0))).filter (fun k => k == s.pkg) = [s.pkg]))) mH 0x2002 (stGrpMem)) = true := by
  decide +kernel

/-- For each clause, a state and operands that meet its hypotheses. -/
theorem wit_CommitAndRollbackCommandsComplete_0 :
    ((fun (s : State) => decide (s.wfld fWD_EP_STAT_PHASE 0 = 0 ∧ s.lat .rollbackDue 0 0 = 0 ∧ s.entries ≠ [] ∧ (s.entries.all (fun i => s.wfld fWD_EP_ENT0_STATE i == 2) = true) ∧ s.group = [])) (stEnr 2) &&
    (fun (s : State) => decide (s.wfld fWD_EP_STAT_PHASE 0 = 1)) (((stEnr 2).setWfld fWD_EP_STAT_PHASE 0 1)) &&
    (fun (pkg : Nat) (s : State) => decide (pkg < 4096 ∧ s.groupLeader = s.pkg ∧ s.group.contains pkg = true ∧ s.wfld fWD_EP_STAT_PHASE 0 = 0 ∧ ((s.group.any fun k => k != pkg && s.lat .groupReady k 0 == 0) = true))) 7 stGroup &&
    (fun (s : State) => decide (s.lat .groupSent 0 0 ≠ 0 ∧ s.wfld fWD_EP_STAT_PHASE 0 = 0)) (stGroup.setLat .groupSent 0 0 1) &&
    (fun (pkg : Nat) (s : State) => decide (pkg < 4096 ∧ s.groupLeader = s.pkg ∧ s.group.contains pkg = true ∧ s.wfld fWD_EP_STAT_PHASE 0 = 0)) 7 stGroup &&
    (fun (s : State) => decide (s.group ≠ [] ∧ s.wfld fWD_EP_STAT_PHASE 0 = 0)) stGroup &&
    (fun (pkg : Nat) (s : State) => decide (pkg < 4096 ∧ s.groupLeader = s.pkg ∧ s.group.contains pkg = true ∧ s.wfld fWD_EP_STAT_PHASE 0 = 0)) 7 stGroup &&
    (fun (s : State) => decide (s.lat .rollbackDue 0 0 ≠ 0 ∧ s.wfld fWD_EP_STAT_PHASE 0 = 0 ∧ s.lat .groupSent 0 0 = 0 ∧ s.lat .rollbackFail 0 0 = 0 ∧ s.countsOnly 0x12 0xFFFF = true)) (((stEnr 1).setLat .rollbackDue 0 0 5)) &&
    (fun (s : State) => decide (s.wfld fWD_EP_STAT_PHASE 0 = 2 ∧ s.lat .rollbackFail 0 0 = 0 ∧ (s.quarries.all (fun d => !s.changeOn d) = true))) (((dieOn 48 (stEnr 1)).setWfld fWD_EP_STAT_PHASE 0 2)) &&
    (fun (s : State) => decide (s.wfld fWD_EP_STAT_PHASE 0 = 3 ∧ (s.quarries.all (fun d => s.lat .rollingBack d 0 == 0) = true) ∧ s.lat .unguarded 0 0 ≠ 0)) ((((dieOn 48 (stEnr 1)).setWfld fWD_EP_STAT_PHASE 0 3).setLat .unguarded 0 0 1))) = true := by
  decide +kernel

/-- A state and operands that meet the hypotheses. -/
theorem wit_CommitAndRollbackCommandsComplete_1 : (fun (s : State) => decide (s.wfld fWD_EP_STAT_PHASE 0 = 3 ∧ (s.quarries.all (fun d => s.lat .rollingBack d 0 == 0) = true) ∧ s.lat .rollbackFail 0 0 = 0)) ((((dieOn 48 (stEnr 1)).setWfld fWD_EP_STAT_PHASE 0 3))) = true := by decide +kernel

/-- For each clause, a state and operands that meet its hypotheses. -/
theorem wit_CalibrationCommandsComplete_0 :
    ((fun (d : Nat) (k : Nat) (s : State) => decide (d < 48 ∧ k < 34 ∧ s.dieUp d = true)) 3 5 stDie &&
    (fun (d : Nat) (k : Nat) (s : State) => decide (48 ≤ d ∧ isDiodePair d k = true ∧ (62 ≤ d ∨ s.dieUp d = true))) 63 0 stDie &&
    (fun (d : Nat) (k : Nat) (s : State) => decide (d < 62 ∧ isDiodePair d k = true ∧ s.dieUp d = false)) 50 3 stRun &&
    (fun (s : State) => decide (s.pkgState = 3 ∧ s.wfld fWD_PKG_STAT_STEP 0 = 6 ∧ s.wflag fTH_HB_STAT_SOAKED 0 = false)) stSoak &&
    (fun (d : Nat) (s : State) => decide (d < 48 ∧ s.dieUp d = true)) 3 stDie &&
    (fun (d : Nat) (s : State) => decide (48 ≤ d ∧ (d < 62 → s.dieUp d = true) ∧ d < 64)) 62 stDie &&
    (fun (d : Nat) (k : Nat) (x : Int) (s : State) => decide (d < 48 ∧ k < 17 ∧ s.dieUp d = true ∧ s.lat .dLow d (2 * k) = 0 ∧ s.lat .dHigh d (2 * k) = 0 ∧ x = (s.diodeAt d (2 * k) diodeA + s.diodeAt d (2 * k) diodeB) / 2)) 3 5 0 stDie &&
    (fun (a : Nat) (b : Nat) => decide ((max a b - min a b) * 2000 ≤ a)) 2000000 1999000 &&
    (fun (a : Nat) (b : Nat) (s : State) => decide (a < (max a b - min a b) * 2000 ∧ s.admits 0x4405 = true ∧ s.wflag fEV_STAT_FULL 0 = false)) 2000000 1998999 stRun &&
    (fun (losses : Nat) (sum : Nat) (s : State) => decide ((sum = ((List.range 64).map fun d => s.lat .dieMw d 0).sum) ∧ 0 < sum ∧ losses < s.fld fPW_IN_MEAS_P_IN 62 0)) 100 900 (((stRun.setLat .dieMw 3 0 900).setFld fPW_IN_MEAS_P_IN 62 0 1500))) = true := by
  decide +kernel

/-- For each clause, a state and operands that meet its hypotheses. -/
theorem wit_CalibrationCommandsComplete_1 :
    ((fun (l : List HeatSum) (late : List HeatSum) (early : List HeatSum) (inlet : Int) (rise : Int) (pin : Int) (s : State) => decide ((l = s.heat.filter (fun h => h.n == 1000)) ∧ late = l.take 10 ∧ early = (l.drop (s.wfld fTH_CAL_HB_LAG 0)).take 10 ∧ (inlet = (early.map fun h => h.inlet).sum / 10000) ∧ (rise = ((late.map fun h => h.outlet).sum - (early.map fun h => h.inlet).sum) / 1000 - signedOf 32 (s.lat .dtZero 0 0)) ∧ 100 ≤ l.length ∧ (∀ h ∈ l, h.ok = true) ∧ (∀ a ∈ l, ∀ b ∈ l, 0 < a.hi ∧ 19 * a.hi < 20 * b.lo) ∧ (pin = ((early.map fun h => h.pin).sum / 10000 : Nat)) ∧ (s.wfld fTH_CAL_HB_MIN_DT 0 : Int) * 1000 ≤ rise ∧ 0 < pin * (10000 - (s.wfld fTH_CAL_HB_LOSS 0 : Int)) ∧ 0 < s.heatCap inlet rise * rise)) stHeat.heat (stHeat.heat.take 10) ((stHeat.heat.drop 0).take 10) 30000 100000 5000000 stHeat &&
    (fun (l : List HeatSum) (s : State) => decide ((l = s.heat.filter (fun h => h.n == 1000)) ∧ (l.length < 100 ∨ (∃ h ∈ l, h.ok = false) ∨ (∃ a ∈ l, ∃ b ∈ l, 20 * b.lo ≤ 19 * a.hi)))) ([]) stRun &&
    (fun (l : List HeatSum) (late : List HeatSum) (early : List HeatSum) (inlet : Int) (rise : Int) (s : State) => decide ((l = s.heat.filter (fun h => h.n == 1000)) ∧ late = l.take 10 ∧ early = (l.drop (s.wfld fTH_CAL_HB_LAG 0)).take 10 ∧ (inlet = (early.map fun h => h.inlet).sum / 10000) ∧ (rise = ((late.map fun h => h.outlet).sum - (early.map fun h => h.inlet).sum) / 1000 - signedOf 32 (s.lat .dtZero 0 0)) ∧ rise < (s.wfld fTH_CAL_HB_MIN_DT 0 : Int) * 1000)) stHeat.heat (stHeat.heat.take 10) ((stHeat.heat.drop 0).take 10) 30000 0 (stHeat.setLat .dtZero 0 0 100000) &&
    (fun (m : Master) (k : Nat) (v : W64) (s : State) => decide (k < 67 ∧ s.hostOrActive m = true ∧ calLegal k v = true)) mH 66 0x12340056 stRun &&
    (fun (m : Master) (v : W64) (s : State) => decide (s.hostOrActive m = true ∧ 3000 ≤ getBits v 31 16 ∧ getBits v 31 16 ≤ 4300)) mH 0x0BB80056 stRun) = true := by
  decide +kernel

/-- For each clause, a state and operands that meet its hypotheses. -/
theorem wit_PolicyCommandsComplete :
    ((fun (r : Readings) => decide (r.pin < 2 ^ 32)) readings0 &&
    (fun (v : W64) => decide (getBits v 15 0 ≤ 7200)) 0x64_01011000 &&
    (fun (s : State) => decide (s.lat .drainEnd 0 0 ≠ 0)) (((stRun.setLat .drainEnd 0 0 500).setWfld fTH_ORDER_HOST_STATE 0 1)) &&
    (fun (m : Master) (d : Nat) (half : Nat) (i : Nat) (s : State) => decide (d < 48 ∧ half < 2 ∧ i < 16 ∧ s.hostOrActive m = true)) mH 3 0 0 (stTwin.setSpFld fSPN_STAT_STATE 96 2) &&
    (fun (m : Master) (n : Nat) (v : W64) (s : State) => decide (n < 8 ∧ s.hostOrActive m = true ∧ ((((List.range 8).filter (· != n)).map fun i => s.wfld fTH_TEN_SHARE i).sum + getBits v 9 0 ≤ 1000))) mH 7 250 (stRun.setWfld fTH_TEN_SHARE 0 0) &&
    (fun (m : Master) (off : Nat) (v : W64) (r : Reg) (i : Nat) (s : State) => decide (policyReg off = some (r, i) ∧ s.hostOrActive m = true ∧ s.flag fFS_PRES_BUTTON s.aw 0 = true ∧ s.fld fFS_PRES_SEAL s.aw 0 = 1 ∧ policyLegal r v = true)) mH 0x200 0x02580384 .TH_HARD_T 0 stPres &&
    (fun (m : Master) (v : W64) (s : State) => decide (s.hostOrActive m = true ∧ bitOf v 0 = true ∧ s.fld fFS_PRES_SEAL s.aw 0 = 1 ∧ s.lat .curveDue 0 0 = 0)) mH 1 stPres &&
    (fun (m : Master) (v : W64) (s : State) => decide (s.hostOrActive m = true ∧ bitOf v 0 = true ∧ s.fld fFS_PRES_SEAL s.aw 0 = 1 ∧ s.lat .curveDue 0 0 ≠ 0)) mH 1 (stPres.setLat .curveDue 0 0 1) &&
    (fun (d : Nat) (stack : Nat) (temp : Nat) (s : State) => decide (48 ≤ d ∧ d < 56 ∧ stack < 4 ∧ s.dieUp d = true ∧ temp < 256)) 48 2 96 (dieOn 48 stRun)) = true := by
  decide +kernel

/-- For each clause, a state and operands that meet its hypotheses. -/
theorem wit_CoolingSafetyCommandsComplete_0 :
    ((fun (n : Nat) (x : Nat) (y : Nat) (s : State) => decide (n < 2 ∧ s.flowWatched = true ∧ s.flowInputs.contains n = true ∧ s.wfld fCE_FLOW_CFG_MODE n ≠ 0 ∧ s.flowReading n x y < s.wfld fTH_HARD_FLOW_LOSS_Q 0 * 10 ∧ s.wflag fTH_STAT_FLOW_LOSS 0 = false ∧ s.lat .pumpHold 0 0 = 0)) 0 1 60000000 (stRun.setWfld fCE_FLOW_CFG_MODE 0 1) &&
    (fun (s : State) => decide (s.wflag fTH_STAT_FLOW_LOSS 0 = true ∧ s.lat .shutdownDue 0 0 = 0 ∧ s.flowStood 200000000 = true ∧ s.resumeOver = false)) (((((stRun.setWfld fTH_STAT_FLOW_LOSS 0 1).setLat .clampCause 0 0 1).setLat .flowOk 0 0 1).setReg .WD_TIME_NS 62 0 200000000)) &&
    (fun (s : State) => decide (s.wflag fTH_STAT_RECOVERY 0 = true)) (stRun.setWfld fTH_STAT_RECOVERY 0 1) &&
    (fun (s : State) => decide (s.wflag fTH_STAT_FLOW_LOSS 0 = true ∧ s.lat .shutdownDue 0 0 = 0 ∧ s.resumeOver = true)) (((stRun.setWfld fTH_STAT_FLOW_LOSS 0 1).setReg .WD_TIME_NS 62 0 600000000000)) &&
    (fun (k : Nat) (s : State) => decide (k < 4 ∧ (s.wfld fTH_HARD_LEAK_USE 0).testBit k = true)) 3 (stRun.setWfld fTH_HARD_LEAK_USE 0 15) &&
    (fun (k : Nat) (s : State) => decide (k < 4 ∧ (s.wfld fTH_HARD_LEAK_USE 0).testBit k = false)) 3 (stRun.setWfld fTH_HARD_LEAK_USE 0 0) &&
    (fun (k : Nat) (s : State) => decide (k < 4 ∧ (s.wfld fTH_HARD_LEAK_USE 0).testBit k = true ∧ s.lat .leakMs k 0 ≠ 0 ∧ s.wflag fWD_FORCE_LEAK_LATCH 0 = false ∧ s.pkgState ≠ 2 ∧ s.wfld fTH_HARD_LEAK_LEAK_MS 0 ≤ s.lat .leakMs k 0 + 49)) 0 (((stDie.setWfld fTH_HARD_LEAK_USE 0 15).setLat .leakMs 0 0 6000)) &&
    (fun (s : State) => decide (s.wflag fWD_FORCE_LEAK_LATCH 0 = true ∧ s.lat .leakDue 0 0 ≠ 0)) ((((stRun.setBoth fWD_FORCE_LEAK_LATCH 1).setLat .leakDue 0 0 1).setWfld fSV_CMD_ON 1 1)) &&
    (fun (m : Master) (v : W64) (s : State) => decide (s.hostOrActive m = true ∧ bitOf v 30 = true ∧ s.fld fFS_PRES_SEAL s.aw 0 = 1)) mH 0x40000000 (stPres.setBoth fWD_FORCE_LEAK_LATCH 1) &&
    (fun (d : Nat) (k : Nat) (s : State) => decide (d < 48 ∧ k < 34 ∧ s.spotTrips d k = true ∧ s.wflag fTH_STAT_TRIP 0 = false)) 3 5 (((stDie.setFld fTH_HS_TEMP_TA 3 5 15000).setFld fTH_HS_TEMP_TB 3 5 15000))) = true := by
  decide +kernel

/-- For each clause, a state and operands that meet its hypotheses. -/
theorem wit_CoolingSafetyCommandsComplete_1 :
    ((fun (d : Nat) (k : Nat) (s : State) => decide (48 ≤ d ∧ isDiodePair d k = true ∧ s.pairTrips d k = true ∧ s.wflag fTH_STAT_TRIP 0 = false)) 61 3 (stDie.setLat .diodeFault 61 3 3) &&
    (fun (n : Nat) (s : State) => decide ((n = 1 ∨ n = 3) ∧ s.outlets.contains n = true ∧ (s.wfld fTH_HARD_T_OUT_TRIP 0 : Int) * 100 < s.coolMk n ∧ s.wflag fTH_STAT_TRIP 0 = false)) 1 (stDie.setWfld fTH_COOL_T_TEMP 1 99000) &&
    (fun (s : State) => decide (s.wflag fTH_HARD_EMERG_IN_EN 0 = true ∧ s.wflag fTH_STAT_EMERG_OUT 0 = false)) (stDie.setWfld fTH_HARD_EMERG_IN_EN 0 1) &&
    (fun (s : State) => decide (s.wflag fTH_ORDER_EFF_EMERG_HOLD 0 = true ∧ s.lat .orderSince 0 0 ≠ 0)) (((stDie.setWfld fTH_ORDER_EFF_EMERG_HOLD 0 1).setLat .orderSince 0 0 1))) = true := by
  decide +kernel

/-- For each clause, a state and operands that meet its hypotheses. -/
theorem wit_FanCommandsComplete :
    ((fun (c : Nat) (ma : Nat) (s : State) => decide (c < 6 ∧ (s.settle c).tachRuns c = true ∧ s.wfld fFP_ISUP_I_LOCK_MA c ≤ ma)) 2 900 stFan &&
    (fun (c : Nat) (ma : Nat) (s : State) => decide (c < 6 ∧ (s.settle c).tachRuns c = true ∧ s.wfld fFP_ISUP_I_RUN_MA c ≤ ma ∧ ma < s.wfld fFP_ISUP_I_LOCK_MA c)) 2 300 stFan &&
    (fun (c : Nat) (ma : Nat) (s : State) => decide (c < 6 ∧ (s.settle c).tachRuns c = true ∧ ma < s.wfld fFP_ISUP_I_RUN_MA c ∧ ma < s.wfld fFP_ISUP_I_LOCK_MA c)) 2 3 stFan &&
    (fun (c : Nat) (us : Nat) (s : State) => decide (c < 6 ∧ (s.settle c).tachRuns c = true ∧ 0 < s.fanRpm c us ∧ s.fanRpm c us < s.wfld fFP_SUP_TACH_MIN_RPM c)) 2 300000 stFan &&
    (fun (c : Nat) (us : Nat) (s : State) => decide (c < 6 ∧ s.wfld fFP_STAT_ATTEMPT c ≠ 0 ∧ s.lat .fpPause c 0 ≠ 1 ∧ s.wfld fFP_STAT_DRIVE c ≠ 0 ∧ s.wfld fFP_SUP_TACH_MIN_RPM c ≤ s.fanRpm c us)) 2 30000 (stFan.setWfld fFP_STAT_ATTEMPT 2 2) &&
    (fun (c : Nat) (us : Nat) (ma : Nat) (s : State) => decide (c < 6 ∧ s.wfld fFP_STAT_ATTEMPT c ≠ 0 ∧ s.wfld fFP_STAT_ATTEMPT c ≠ 4 ∧ s.lat .fpPause c 0 ≠ 1 ∧ s.fanRpm c us < s.wfld fFP_SUP_TACH_MIN_RPM c ∧ s.wfld fFP_ISUP_I_LOCK_MA c ≤ ma)) 2 0 900 (stFan.setWfld fFP_STAT_ATTEMPT 2 2) &&
    (fun (c : Nat) (us : Nat) (ma : Nat) (s : State) => decide (c < 6 ∧ s.wfld fFP_STAT_ATTEMPT c = 4 ∧ s.lat .fpPause c 0 ≠ 1 ∧ s.fanRpm c us < s.wfld fFP_SUP_TACH_MIN_RPM c ∧ s.wfld fFP_ISUP_I_LOCK_MA c ≤ ma)) 2 0 900 (stFan.setWfld fFP_STAT_ATTEMPT 2 4) &&
    (fun (c : Nat) (s : State) => decide (c < 6 ∧ s.wfld fFP_STAT_ATTEMPT c ≠ 0 ∧ s.wfld fFP_STAT_ATTEMPT c < 4 ∧ s.lat .fpPause c 0 = 1)) 2 (((stFan.setWfld fFP_STAT_ATTEMPT 2 2).setLat .fpPause 2 0 1)) &&
    (fun (c : Nat) (s : State) => decide (c < 6 ∧ s.blockedHold c = true ∧ s.wfld fFP_ISUP_RETRY_S c ≠ 0 ∧ s.demand c ≠ 0)) 2 (((((stFan.setWfld fFP_STAT_BLOCKED 2 1).setLat .fpPause 2 0 2).setWfld fFP_ISUP_RETRY_S 2 5).setWfld fFP_STAT_DRIVE 2 0))) = true := by
  decide +kernel

/-- For each clause, a state and operands that meet its hypotheses. -/
theorem wit_SolenoidCommandsComplete_0 :
    ((fun (m : Master) (c : Nat) (v : W64) (s : State) => decide (c < 4 ∧ s.hostOrActive m = true ∧ bitOf v 0 = true ∧ s.svIgnored c = false ∧ s.wflag fSV_FAULT_SHORT c = false)) mH 3 1 stRun &&
    (fun (m : Master) (c : Nat) (v : W64) (s : State) => decide (c < 4 ∧ s.hostOrActive m = true ∧ bitOf v 0 = false ∧ s.svIgnored c = false ∧ s.lat .handoverDue 0 0 = 0)) mH 3 0 (stSv 2) &&
    (fun (c : Nat) (s : State) => decide (c < 4 ∧ s.mayPeak c = true)) 3 (stSv 1) &&
    (fun (c : Nat) (us : Nat) (s : State) => decide (c < 4 ∧ s.svPhase c = 2 ∧ s.lat .svReached c 0 = 0 ∧ (s.wflag fSV_BOOST_LOW 0 = true ∨ (s.svProf fSV_PROF1_TTP_MIN_US c ≤ us ∧ us ≤ s.svProf fSV_PROF1_TTP_MAX_US c)) ∧ s.svProf fSV_PROF0_PEAK_US c ≠ 0)) 3 90 (((((stSv 2).setWfld fSV_PROF1_TTP_MIN_US 0 20).setWfld fSV_PROF1_TTP_MAX_US 0 90).setWfld fSV_PROF0_PEAK_US 0 5)) &&
    (fun (c : Nat) (us : Nat) (s : State) => decide (c < 4 ∧ s.svPhase c = 2 ∧ s.lat .svReached c 0 = 0 ∧ s.lat .handoverDue 0 0 = 0 ∧ s.wflag fSV_BOOST_LOW 0 = false ∧ us < s.svProf fSV_PROF1_TTP_MIN_US c)) 3 19 ((((stSv 2).setWfld fSV_PROF1_TTP_MIN_US 0 20).setWfld fSV_PROF1_TTP_MAX_US 0 90)) &&
    (fun (c : Nat) (us : Nat) (s : State) => decide (c < 4 ∧ s.svPhase c = 2 ∧ s.lat .svReached c 0 = 0 ∧ s.lat .handoverDue 0 0 = 0 ∧ s.wflag fSV_BOOST_LOW 0 = false ∧ s.svProf fSV_PROF1_TTP_MIN_US c ≤ us ∧ s.svProf fSV_PROF1_TTP_MAX_US c < us)) 3 91 ((((stSv 2).setWfld fSV_PROF1_TTP_MIN_US 0 20).setWfld fSV_PROF1_TTP_MAX_US 0 90)) &&
    (fun (c : Nat) (us : Nat) (s : State) => decide (c < 4 ∧ s.svPhase c = 2 ∧ s.lat .svReached c 0 = 0 ∧ s.lat .handoverDue 0 0 = 0 ∧ (s.wflag fSV_BOOST_LOW 0 = true ∨ (s.svProf fSV_PROF1_TTP_MIN_US c ≤ us ∧ us ≤ s.svProf fSV_PROF1_TTP_MAX_US c)) ∧ s.svProf fSV_PROF0_PEAK_US c = 0)) 3 90 (((((stSv 2).setWfld fSV_PROF1_TTP_MIN_US 0 20).setWfld fSV_PROF1_TTP_MAX_US 0 90).setWfld fSV_PROF0_PEAK_US 0 0)) &&
    (fun (c : Nat) (s : State) => decide (c < 4 ∧ s.svPhase c = 2 ∧ s.lat .svReached c 0 = 0 ∧ s.lat .handoverDue 0 0 = 0 ∧ s.wflag fSV_BOOST_LOW 0 = false)) 3 (stSv 2) &&
    (fun (c : Nat) (s : State) => decide (c < 4 ∧ s.svPhase c = 2 ∧ s.lat .svReached c 0 = 0 ∧ s.lat .svDip c 0 = 0)) 3 (stSv 2) &&
    (fun (c : Nat) (s : State) => decide (c < 4 ∧ s.svPhase c = 2 ∧ s.lat .svReached c 0 = 1 ∧ s.lat .handoverDue 0 0 = 0 ∧ s.dipGood c = true ∧ (s.svTimed c = true → s.svProf fSV_PROF0_HOLD_MS c ≠ 0))) 3 ((((stSv 2).setWfld fSV_PROF0_HOLD_MS 0 20).setLat .svReached 3 0 1))) = true := by
  decide +kernel

/-- For each clause, a state and operands that meet its hypotheses. -/
theorem wit_SolenoidCommandsComplete_1 :
    ((fun (c : Nat) (s : State) => decide (c < 4 ∧ s.svPhase c = 2 ∧ s.lat .svReached c 0 = 1 ∧ s.lat .handoverDue 0 0 = 0 ∧ s.dipGood c = false ∧ s.svProf fSV_PROF2_RETRY c = 1 ∧ s.lat .svRetry c 0 ≠ 2)) 3 (((((stSv 2).setWfld fSV_PROF1_DIP_MAX_US 0 20).setWfld fSV_PROF2_RETRY 0 1).setLat .svReached 3 0 1)) &&
    (fun (c : Nat) (s : State) => decide (c < 4 ∧ s.lat .svRetry c 0 = 1 ∧ s.svPhase c = 0)) 3 (((stSv 0).setLat .svRetry 3 0 1)) &&
    (fun (c : Nat) (s : State) => decide (c < 4 ∧ s.svPhase c = 3 ∧ s.svTimed c = true ∧ s.svProf fSV_PROF0_HOLD_MS c * 1000000 ≤ s.now - s.lat .svHeld c 0 ∧ s.lat .handoverDue 0 0 = 0)) 3 (((((stSv 3).setWfld fSV_PROF2_MODE 0 0).setWfld fSV_PROF0_HOLD_MS 0 2).setReg .WD_TIME_NS 62 0 2000000)) &&
    (fun (c : Nat) (s : State) => decide (c < 4 ∧ s.svPhase c = 4 ∧ s.lat .handoverDue 0 0 = 0 ∧ s.lat .svExtend c 0 = 0 ∧ s.closing s.aw c = false)) 3 (stSv 4) &&
    (fun (c : Nat) (s : State) => decide (c < 4 ∧ s.svPhase c = 4 ∧ s.lat .svExtend c 0 ≠ 0 ∧ s.wflag fSV_FAULT_SHORT c = false)) 3 (((stSv 4).setLat .svExtend 3 0 1)) &&
    (fun (c : Nat) (ma : Nat) (s : State) => decide (c < 4 ∧ (7500 < ma ∨ (s.svPhase c = 3 ∧ 2 * s.svProf fSV_PROF0_HOLD_MA c < ma)) ∧ s.lat .handoverDue 0 0 = 0)) 3 7501 (stSv 3) &&
    (fun (c : Nat) (ma : Nat) (s : State) => decide (c < 4 ∧ s.svPhase c = 3 ∧ 2 * ma < s.svProf fSV_PROF0_HOLD_MA c)) 3 49 (((stSv 3).setWfld fSV_PROF0_HOLD_MA 0 100)) &&
    (fun (c : Nat) (s : State) => decide (c < 4 ∧ s.svPhase c = 1 ∧ s.wfld fSV_BOOST_V_MV 0 < 58000 ∧ s.wflag fSV_BOOST_LOW 0 = false)) 3 (((stSv 1).setWfld fSV_BOOST_V_MV 0 57999)) &&
    (fun (c : Nat) (s : State) => decide (c < 4 ∧ s.svPhase c = 1 ∧ s.wflag fSV_STAT_DEFER_LONG c = false)) 3 (stSv 1)) = true := by
  decide +kernel

/-- For each clause, a state and operands that meet its hypotheses. -/
theorem wit_ControlLoopCommandsComplete_0 :
    ((fun (k : Nat) (x : Terms) (i : Int) (s : State) => decide (k < 16 ∧ s.lat .wardenHeld s.aw 0 = 0 ∧ s.fld fCE_LOOP_CFG_MODE s.aw k = 1 ∧ s.fld fCE_LOOP_STAT_STATE s.aw k ≠ 3 ∧ s.tsgOn s.aw k = false ∧ s.overridden s.aw k = false ∧ s.flag fCE_LOOP_CTL_SWAP_PEND s.aw k = false ∧ s.lat .loopOver s.aw k = 0 ∧ s.lat .loopRan s.aw k ≠ 0 ∧ x = s.terms s.aw k (s.loopSet s.aw k) ∧ x.valid = true ∧ (s.following s.aw k x).1 = false ∧ i = integrate x (s.loopQ fCE_LOOP_SET0_KI s.aw (setIx k (s.loopSet s.aw k))) (s.loopI s.aw k) (s.clamps s.aw k (s.loopSet s.aw k)))) 5 ((stLoop).terms (stLoop).aw 5 ((stLoop).loopSet (stLoop).aw 5)) (integrate ((stLoop).terms (stLoop).aw 5 ((stLoop).loopSet (stLoop).aw 5)) ((stLoop).loopQ fCE_LOOP_SET0_KI (stLoop).aw (setIx 5 ((stLoop).loopSet (stLoop).aw 5))) ((stLoop).loopI (stLoop).aw 5) ((stLoop).clamps (stLoop).aw 5 ((stLoop).loopSet (stLoop).aw 5))) stLoop &&
    (fun (w : Nat) (k : Nat) (s : State) => decide (w < 2 ∧ k < 16 ∧ s.lat .wardenHeld (62 + w) 0 = 0 ∧ s.fld fCE_LOOP_CFG_MODE (62 + w) k = 0 ∧ s.fld fCE_LOOP_STAT_STATE (62 + w) k ≠ 3)) 1 5 stRun &&
    (fun (w : Nat) (k : Nat) (s : State) => decide (w < 2 ∧ k < 16 ∧ s.lat .wardenHeld (62 + w) 0 = 0 ∧ 62 + w ≠ s.aw ∧ s.fld fCE_LOOP_CFG_MODE (62 + w) k ≠ 0)) 1 5 (stRun.setFld fCE_LOOP_CFG_MODE 63 5 1) &&
    (fun (m : Master) (k : Nat) (v : W64) (s : State) => decide (k < 16 ∧ s.hostOrActive m = true ∧ bitOf v 0 = true)) mH 5 1 stRun &&
    (fun (m : Master) (k : Nat) (v : W64) (s : State) => decide (k < 16 ∧ s.hostOrActive m = true ∧ bitOf v 1 = true ∧ s.wfld fCE_LOOP_STAT_STATE k = 3)) mH 5 2 (stRun.setWfld fCE_LOOP_STAT_STATE 5 3) &&
    (fun (m : Master) (k : Nat) (v : W64) (s : State) => decide (k < 16 ∧ s.hostOrActive m = true ∧ s.fld fFS_PRES_SEAL s.aw 0 = 1 ∧ s.loopCfgLegal s.aw k v = true)) mH 5 0x00640800000F0001 stPres &&
    (fun (m : Master) (k : Nat) (set : Nat) (part : Nat) (v : W64) (s : State) => decide (k < 16 ∧ set < 2 ∧ part < 4 ∧ s.hostOrActive m = true ∧ s.loopSet s.aw k ≠ set ∧ (part = 1 → getBits v 63 32 ≤ 0x10000000))) mH 5 1 1 0x1000000000000001 stPres &&
    (fun (m : Master) (v : W64) (s : State) => decide (s.hostOrActive m = true ∧ bitOf v 0 = true ∧ s.tsgResult = 0 ∧ s.wfld fCE_TSG_TIME_LEN 0 ≠ 0)) mH 1 stTsg &&
    (fun (m : Master) (v : W64) (s : State) => decide (s.hostOrActive m = true ∧ bitOf v 0 = true ∧ s.tsgResult ≠ 0)) mH 1 stRun &&
    (fun (m : Master) (v : W64) (s : State) => decide (s.hostOrActive m = true ∧ bitOf v 1 = true)) mH 2 (stTsg.setWfld fCE_TSG_STAT_RUNNING 0 1)) = true := by
  decide +kernel

/-- For each clause, a state and operands that meet its hypotheses. -/
theorem wit_ControlLoopCommandsComplete_1 :
    ((fun (m : Master) (v : W64) (s : State) => decide (s.hostOrActive m = true ∧ bitOf v 0 = true ∧ 0 < s.capSigs ∧ s.capSigs ≤ 4 ∧ s.wfld fCE_CAP_CFG_DECIM 0 ≠ 0 ∧ s.wfld fWD_BNK_PWR_ACT 0 / 16 % 4 = 2 ∧ s.wflag fCE_CAP_CFG_TRIG 0 = false)) mH 1 ((((stRun.setWfld fCE_CAP_CFG_SIG 0 0x0F).setWfld fCE_CAP_CFG_DECIM 0 3).setWfld fWD_BNK_PWR_ACT 0 0x2A)) &&
    (fun (m : Master) (v : W64) (s : State) => decide (s.hostOrActive m = true ∧ bitOf v 1 = true)) mH 2 (stRun.setWfld fCE_CAP_STAT_RUNNING 0 1)) = true := by
  decide +kernel

/-- For each clause, a state and operands that meet its hypotheses. -/
theorem wit_TrayBusCommandsComplete_0 :
    ((fun (w : Nat) (i : Nat) (b : Nat) (f : Frame) (s : State) => decide (w < 2 ∧ (s.tbState (62 + w) = 1 ∨ s.tbState (62 + w) = 4 ∨ s.tbState (62 + w) = 5) ∧ (f.fdf = true → s.flag fTB_CTL_FD_EN (62 + w) 0 = true) ∧ s.dataSearch (62 + w) = false ∧ f.rtr = false ∧ s.ownNode (62 + w) f = false ∧ s.orwBad (62 + w) f = false ∧ ((List.range 16).find? (fun j => s.filterTakes (62 + w) j f) = some i) ∧ s.fld fTB_FILT_BUF_COUNT (62 + w) i ≠ 0 ∧ s.rxBuffer (62 + w) i = some b)) 1 0 0 frame0 (stBus 63) &&
    (fun (w : Nat) (f : Frame) (s : State) => decide (w < 2 ∧ (s.tbState (62 + w) = 1 ∨ s.tbState (62 + w) = 4 ∨ s.tbState (62 + w) = 5) ∧ (f.fdf = true → s.flag fTB_CTL_FD_EN (62 + w) 0 = true) ∧ s.dataSearch (62 + w) = false ∧ f.rtr = false ∧ s.orwBad (62 + w) f = true)) 0 (⟨false, true, orwId 0 2 63 0 0, true, false, false, 8, []⟩) (stBus 62) &&
    (fun (w : Nat) (f : Frame) (s : State) => decide (w < 2 ∧ (s.tbState (62 + w) = 1 ∨ s.tbState (62 + w) = 4 ∨ s.tbState (62 + w) = 5) ∧ (f.fdf = true → s.flag fTB_CTL_FD_EN (62 + w) 0 = true) ∧ s.dataSearch (62 + w) = false ∧ f.rtr = true)) 1 (⟨true, true, 0x123456, false, false, false, 4, []⟩) (stBus 63) &&
    (fun (w : Nat) (b : Nat) (s : State) => decide (w < 2 ∧ b < 32 ∧ s.fld fTB_RXB_CTRL_STATE (62 + w) b = 1)) 1 3 (((stBus 63).setFld fTB_RXB_CTRL_STATE 63 3 1)) &&
    (fun (w : Nat) (b : Nat) => decide (w < 2 ∧ b < 32)) 1 3 &&
    (fun (w : Nat) (v : W64) (s : State) => decide (w < 2 ∧ getBits v 1 0 = 0 ∧ s.tbState (62 + w) < 6)) 1 0x100 (stBus 63) &&
    (fun (w : Nat) (v : W64) (s : State) => decide (w < 2 ∧ getBits v 1 0 = 1 ∧ s.tbState (62 + w) = 0)) 1 0x101 (((stBus 63).setTbState 63 0)) &&
    (fun (w : Nat) (v : W64) (s : State) => decide (w < 2 ∧ getBits v 1 0 = 2 ∧ bitOf v 5 = false ∧ s.tbState (62 + w) < 2 ∧ s.flag fWD_ROLE_ACTIVE (62 + w) 0 = true ∧ s.flag fTB_STAT_NODE_BAD (62 + w) 0 = false)) 0 0x102 ((((stBus 62).setTbState 62 1).setFld fTB_STAT_NODE_BAD 62 0 0)) &&
    (fun (w : Nat) (v : W64) (s : State) => decide (w < 2 ∧ getBits v 1 0 = 2 ∧ bitOf v 5 = true ∧ s.tbState (62 + w) = 1)) 0 0x122 (((stBus 62).setTbState 62 1)) &&
    (fun (w : Nat) (v : W64) (s : State) => decide (w < 2 ∧ getBits v 1 0 = 2 ∧ bitOf v 4 = true ∧ s.tbState (62 + w) = 6)) 0 0x112 (((stBus 62).setTbState 62 6))) = true := by
  decide +kernel

/-- For each clause, a state and operands that meet its hypotheses. -/
theorem wit_TrayBusCommandsComplete_1 :
    ((fun (w : Nat) (s : State) => decide (w < 2 ∧ s.tbState (62 + w) = 3)) 0 (((stBus 62).setTbState 62 3)) &&
    (fun (w : Nat) (s : State) => decide (w < 2 ∧ s.tbState (62 + w) ≠ 0 ∧ s.tbState (62 + w) < 6)) 0 (((stBus 62).setTbState 62 1)) &&
    (fun (w : Nat) (s : State) => decide (w < 2 ∧ s.tbState (62 + w) = 2)) 0 ((((stBus 62).setTbState 62 2).setFld fTB_AUTO_NCAND 62 0 3)) &&
    (fun (w : Nat) (v : W64) (s : State) => decide (w < 2 ∧ s.tbState (62 + w) ≤ 1 ∧ s.dataSearch (62 + w) = false ∧ timingLegal false v = true)) 0 0x023F1010 (((stBus 62).setTbState 62 1)) &&
    (fun (w : Nat) (e : BusError) (s : State) => decide (w < 2 ∧ (s.tbState (62 + w) = 4 ∨ s.tbState (62 + w) = 5) ∧ e ≠ .ack)) 1 .crc (stBus 63) &&
    (fun (w : Nat) (s : State) => decide (w < 2 ∧ (s.tbState (62 + w) = 4 ∨ s.tbState (62 + w) = 5))) 1 (stBus 63) &&
    (fun (w : Nat) (s : State) => decide (w < 2 ∧ s.tbState (62 + w) = 6)) 1 (((stBus 63).setTbState 63 6)) &&
    (fun (s : State) => decide (s.tbState s.aw = 6 ∧ s.recoverAt s.aw ≤ s.now)) ((((stBus 62).setTbState 62 6).setReg .WD_TIME_NS 62 0 900000000)) &&
    (fun (w : Nat) (s : State) => decide (w < 2 ∧ s.tbState (62 + w) = 7)) 1 (((stBus 63).setTbState 63 7))) = true := by
  decide +kernel

/-- For each clause, a state and operands that meet its hypotheses. -/
theorem wit_TransmitCommandsComplete_0 :
    ((fun (w : Nat) (b : Nat) (s : State) => decide (w < 2 ∧ b < 32 ∧ s.txStatus (62 + w) b ≠ 1 ∧ s.txBad (62 + w) b = false)) 1 7 (stBus 63) &&
    (fun (w : Nat) (b : Nat) (s : State) => decide (w < 2 ∧ b < 32 ∧ s.txStatus (62 + w) b ≠ 1 ∧ s.txBad (62 + w) b = true)) 1 7 (((stBus 63).setFld fTB_TXB_CTRL_BRS 63 7 1)) &&
    (fun (w : Nat) (b : Nat) (s : State) => decide (w < 2 ∧ b < 32 ∧ s.txStatus (62 + w) b = 1 ∧ s.lat .txNow (62 + w) 0 ≠ b + 1)) 1 7 (((stBus 63).txPending 63 7)) &&
    (fun (w : Nat) (b : Nat) (s : State) => decide (w < 2 ∧ b < 32 ∧ s.txStatus (62 + w) b = 1 ∧ s.lat .txNow (62 + w) 0 = b + 1)) 1 7 ((((stBus 63).txPending 63 7).setLat .txNow 63 0 8)) &&
    (fun (w : Nat) (b : Nat) (s : State) => decide (w < 2 ∧ (s.tbState (62 + w) = 4 ∨ s.tbState (62 + w) = 5) ∧ s.flag fTB_STAT_TXEN (62 + w) 0 = true ∧ s.lat .txNow (62 + w) 0 = 0 ∧ s.txChoice (62 + w) = some b)) 1 7 ((((stBus 63).txPending 63 7).setFld fTB_STAT_TXEN 63 0 1)) &&
    (fun (w : Nat) (b : Nat) (s : State) => decide (w < 2 ∧ s.lat .txNow (62 + w) 0 = b + 1)) 1 7 ((((stBus 63).txPending 63 7).setLat .txNow 63 0 8)) &&
    (fun (w : Nat) (b : Nat) (s : State) => decide (w < 2 ∧ s.lat .txNow (62 + w) 0 = b + 1 ∧ s.lat .txEnds (62 + w) b = 0 ∧ s.fld fTB_TXB_CMD_ATTEMPTS (62 + w) b < s.fld fTB_TXB_CTRL_RETRY (62 + w) b)) 1 7 (((((stBus 63).txPending 63 7).setLat .txNow 63 0 8).setFld fTB_TXB_CTRL_RETRY 63 7 3)) &&
    (fun (w : Nat) (b : Nat) (s : State) => decide (w < 2 ∧ s.lat .txNow (62 + w) 0 = b + 1 ∧ s.lat .txEnds (62 + w) b = 0 ∧ s.fld fTB_TXB_CMD_ATTEMPTS (62 + w) b = s.fld fTB_TXB_CTRL_RETRY (62 + w) b)) 1 7 ((((stBus 63).txPending 63 7).setLat .txNow 63 0 8)) &&
    (fun (w : Nat) (b : Nat) (e : BusError) (s : State) => decide (w < 2 ∧ s.lat .txNow (62 + w) 0 = b + 1 ∧ (¬(e = .ack ∧ s.tbState (62 + w) = 5)) ∧ s.fld fTB_STAT_TEC (62 + w) 0 < 248)) 1 7 .bit ((((stBus 63).txPending 63 7).setLat .txNow 63 0 8)) &&
    (fun (w : Nat) (b : Nat) (e : BusError) (s : State) => decide (w < 2 ∧ s.lat .txNow (62 + w) 0 = b + 1 ∧ (¬(e = .ack ∧ s.tbState (62 + w) = 5)) ∧ 248 ≤ s.fld fTB_STAT_TEC (62 + w) 0)) 1 7 .bit (((((stBus 63).txPending 63 7).setLat .txNow 63 0 8).setFld fTB_STAT_TEC 63 0 250))) = true := by
  decide +kernel

/-- A state and operands that meet the hypotheses. -/
theorem wit_TransmitCommandsComplete_1 : (fun (w : Nat) (b : Nat) (s : State) => decide (w < 2 ∧ b < 32 ∧ s.txStatus (62 + w) b = 1 ∧ s.lat .txLife (62 + w) b ≠ 0 ∧ s.lat .txNow (62 + w) 0 ≠ b + 1)) 1 7 ((((stBus 63).txPending 63 7).setLat .txLife 63 7 9)) = true := by decide +kernel

/-- For each clause, a state and operands that meet its hypotheses. -/
theorem wit_OrwilosCommandsComplete :
    ((fun (b : Nat) (s : State) => decide (b < 32 ∧ s.orwHolds b 2 = true ∧ s.orwGood b 2 = true ∧ s.rxIdPart b 11 6 = 0 ∧ orderIllegal (s.rxBytes b) = false)) 9 (stOrw 9 2 0 10 [0, 16, 1, 0, 0, 0, 0, 0, 5, 0, 7, 0, 0, 0, 0, 0]) &&
    (fun (b : Nat) (s : State) => decide (b < 32 ∧ s.orwHolds b 2 = true ∧ s.orwGood b 2 = true ∧ s.rxIdPart b 11 6 = 0 ∧ orderIllegal (s.rxBytes b) = true)) 9 (stOrw 9 2 0 10 [0, 16, 1, 0, 0, 0, 0, 0, 0, 0, 7, 0, 0, 0, 0, 0]) &&
    (fun (s : State) => decide (s.wflag fTH_ORDER_RACK_VALID 0 = true)) (stRun.setWfld fTH_ORDER_RACK_VALID 0 1) &&
    (fun (b : Nat) (x : Nat) (s : State) => decide (b < 32 ∧ s.orwHolds b 7 = true ∧ s.orwGood b 7 = true ∧ s.rxIdPart b 11 6 = 0 ∧ s.freeTx s.aw = some x)) 9 0 (stOrw 9 7 0 0 []) &&
    (fun (x : Nat) (s : State) => decide (s.fld fTB_CFG_STAT_MS s.aw 0 ≠ 0 ∧ s.flag fWD_ROLE_ACTIVE s.aw 0 = true ∧ s.flag fTB_CFG_ORW_EN s.aw 0 = true ∧ s.flag fTB_CTL_FD_EN s.aw 0 = true ∧ s.freeTx s.aw = some x)) 0 (stBus 62) &&
    (fun (b : Nat) (s : State) => decide (b < 32 ∧ s.orwHolds b 1 = true ∧ s.orwGood b 1 = true)) 9 (stOrw 9 1 5 9 [1, 0, 0, 0]) &&
    (fun (b : Nat) (s : State) => decide (b < 32 ∧ s.orwHolds b 1 = true ∧ s.orwGood b 1 = false)) 9 (stOrw 9 1 5 8 [1, 0, 0, 0]) &&
    (fun (x : Nat) (s : State) => decide (s.flag fWD_ROLE_ACTIVE s.aw 0 = true ∧ s.flag fTB_CFG_ORW_EN s.aw 0 = true ∧ s.flag fTB_CTL_FD_EN s.aw 0 = true ∧ s.freeTx s.aw = some x ∧ ((List.range 32).all (fun b => s.txStatus s.aw b != 1) = true) ∧ s.lat .fwdSec 0 0 ≠ s.now / 1000000000 ∧ 0 < s.fld fTB_CFG_FWD_MAX s.aw 0 ∧ s.wfld fTB_FWD_PTR 0 < 8192 ∧ s.wfld fTB_FWD_PTR 0 < s.sticky.records.length ∧ s.fld fTB_CFG_FWD_SEV s.aw 0 ≤ (s.sticky.records[s.wfld fTB_FWD_PTR 0]?.map Record.sev).getD 0)) 0 (((((stBus 62).wevent 0x1234 .fatal 0 0).setFld fTB_CFG_FWD_MAX 62 0 3).setReg .WD_TIME_NS 62 0 3000000000))) = true := by
  decide +kernel

/-- For each clause, a state and operands that meet its hypotheses. -/
theorem wit_ResetCommandsComplete_0 :
    ((fun (s : State) => decide (s.wflag fWD_PKG_STAT_SAVING 0 = false)) stPkg &&
    (fun (s : State) => decide (s.wflag fWD_PKG_STAT_SAVING 0 = true)) (stPkg.setWfld fWD_PKG_STAT_SAVING 0 1) &&
    (fun (s : State) => decide (s.wflag fWD_PKG_STAT_SAVING 0 = false)) stPkg &&
    (fun (port : Nat) => decide (port < 2)) 1 &&
    (fun (slots : Nat) => decide (slots < 64)) 5 &&
    (fun (w : Nat) (cause : Nat) (s : State) => decide (w < 2 ∧ (cause = 0 ∨ cause = 2 ∨ cause = 3) ∧ s.lat .wardenHeld (62 + w) 0 = 0)) 0 2 stPkg &&
    (fun (d : Nat) (cause : Nat) (s : State) => decide (d < 62 ∧ (cause = 0 ∨ cause = 4) ∧ s.lat .inReset d 0 = 0)) 3 4 stPkg &&
    (fun (d : Nat) (s : State) => decide (d < 62 ∧ s.lat .inReset d 0 ≠ 0)) 3 (stDie.setLat .inReset 3 0 1) &&
    (fun (d : Nat) (ph : Nat) (sp : Nat) (s : State) => decide (d < 48 ∧ ph < 34 ∧ s.dieUp d = true ∧ s.slotOf d ph = some sp)) 3 0 96 stTwin &&
    (fun (d : Nat) (ph : Nat) (sp : Nat) (s : State) => decide (d < 48 ∧ ph < 34 ∧ sp < 1536 ∧ s.slotOf d ph = some sp ∧ s.spFld fSPN_STAT_STATE sp = 1)) 3 0 96 (stTwin.setSpFld fSPN_STAT_STATE 96 1)) = true := by
  decide +kernel

/-- For each clause, a state and operands that meet its hypotheses. -/
theorem wit_ResetCommandsComplete_1 :
    ((fun (unit : Nat) (cause : Nat) (s : State) => decide ((portOf unit).isSome = true ∧ (cause = 0 ∨ cause = 1 ∨ cause = 5) ∧ s.dieUp (unit / 1024) = true)) (unitId 60 1) 5 (dieOn 60 stRun) &&
    (fun (m : Master) (v : W64) (s : State) => decide (s.hostOrActive m = true ∧ bitOf v 16 = true ∧ s.wflag fWD_RST_STAT_BUSY 0 = true)) mH 0x1FFFF (stRun.setWfld fWD_RST_STAT_BUSY 0 1) &&
    (fun (m : Master) (v : W64) (s : State) => decide (s.hostOrActive m = true ∧ bitOf v 16 = true ∧ s.wflag fWD_RST_STAT_BUSY 0 = false ∧ rstKind (getBits v 15 0) = none)) mH 0x10030 stRun &&
    (fun (m : Master) (v : W64) (s : State) => decide (s.hostOrActive m = true ∧ bitOf v 16 = true ∧ s.wflag fWD_RST_STAT_BUSY 0 = false ∧ rstKind (getBits v 15 0) ≠ none ∧ getBits v 15 0 ≠ 0xFFFF ∧ s.isRetired (getBits v 15 0) = true)) mH 0x10010 (stRun.addRetired 0x10) &&
    (fun (m : Master) (v : W64) (s : State) => decide (s.hostOrActive m = true ∧ bitOf v 16 = true ∧ s.wflag fWD_RST_STAT_BUSY 0 = false ∧ rstKind (getBits v 15 0) = some .die ∧ s.isRetired (getBits v 15 0) = false)) mH 0x10FFF stTwin) = true := by
  decide +kernel

/-- For each clause, a state and operands that meet its hypotheses. -/
theorem wit_BringupAndShutdownCommandsComplete_0 :
    ((fun (s : State) => decide (s.pkgState = 3 ∧ s.lat .noPower 0 0 = 0 ∧ s.wfld fWD_PKG_STAT_STEP 0 = 1 ∧ s.wflag fWD_PKG_STAT_PWRFAIL 0 = false)) (stBring 1) &&
    (fun (s : State) => decide (s.pkgState = 3 ∧ s.lat .noPower 0 0 = 0 ∧ s.wfld fWD_PKG_STAT_STEP 0 = 2 ∧ s.forced = false)) (stBring 2) &&
    (fun (s : State) => decide (s.pkgState = 3 ∧ s.lat .noPower 0 0 = 0 ∧ s.wfld fWD_PKG_STAT_STEP 0 = 3 ∧ s.dieUp 60 = true)) ((dieOn 60 (stBring 3))) &&
    (fun (s : State) => decide (s.pkgState = 3 ∧ s.lat .noPower 0 0 = 0 ∧ s.wfld fWD_PKG_STAT_STEP 0 = 4 ∧ s.mayProve = true ∧ s.lat .perst 0 0 = 0)) (((((stBring 4).setWfld fTH_HARD_LEAK_USE 0 0).setLat .flowOk 0 0 1).setReg .WD_TIME_NS 62 0 1000000000)) &&
    (fun (s : State) => decide (s.pkgState = 3 ∧ s.lat .noPower 0 0 = 0 ∧ s.wfld fWD_PKG_STAT_STEP 0 = 5)) (stBring 5) &&
    (fun (s : State) => decide (s.pkgState = 3 ∧ s.lat .noPower 0 0 = 0 ∧ s.wfld fWD_PKG_STAT_STEP 0 = 6 ∧ s.wflag fTH_HB_STAT_SOAKED 0 = true)) (((stBring 6).setWfld fTH_HB_STAT_SOAKED 0 1)) &&
    (fun (s : State) => decide (s.pkgState = 3 ∧ s.lat .noPower 0 0 = 0 ∧ s.wfld fWD_PKG_STAT_STEP 0 = 7)) ((dieOn 48 (stBring 7))) &&
    (fun (s : State) => decide (s.pkgState = 3 ∧ s.lat .noPower 0 0 = 0 ∧ s.wfld fWD_PKG_STAT_STEP 0 = 8 ∧ s.cxlSettled = true)) (stBring 8) &&
    (fun (s : State) => decide (s.pkgState = 3 ∧ s.lat .noPower 0 0 = 0 ∧ s.wfld fWD_PKG_STAT_STEP 0 = 9)) ((dieOn 3 (stBring 9))) &&
    (fun (s : State) => decide (s.pkgState = 3 ∧ s.wfld fWD_PKG_STAT_STEP 0 = 4)) (stBring 4)) = true := by
  decide +kernel

/-- For each clause, a state and operands that meet its hypotheses. -/
theorem wit_BringupAndShutdownCommandsComplete_1 :
    ((fun (port : Nat) (s : State) => decide (port < 2 ∧ s.dieUp 60 = true ∧ s.lat .perst port 0 = 0 ∧ s.pkgState = 3 ∧ s.wfld fWD_PKG_STAT_STEP 0 ≤ 3)) 1 ((dieOn 60 (stBring 3))) &&
    (fun (port : Nat) (s : State) => decide (port < 2 ∧ s.dieUp 60 = true ∧ s.lat .perst port 0 = 0 ∧ (s.pkgState ≠ 3 ∨ 3 < s.wfld fWD_PKG_STAT_STEP 0))) 1 (dieOn 60 stRun) &&
    (fun (m : Master) (d : Nat) (v : W64) (s : State) => decide (d < 62 ∧ s.hostOrActive m = true ∧ getBits v 1 0 ≠ 3 ∧ s.diePwrBad d (getBits v 1 0) = false)) mH 3 1 stTwin &&
    (fun (d : Nat) (s : State) => decide (d < 62 ∧ s.pkgState = 0 ∧ s.wfld fWD_DIE_PWR_REQ d = 0 ∧ s.wfld fWD_DIE_PWR_ACT d ≠ 0)) 3 (((stTwin.setWfld fWD_DIE_PWR_REQ 3 0).setWfld fWD_DIE_PWR_ACT 3 3)) &&
    (fun (d : Nat) (s : State) => decide (d < 62 ∧ s.pkgState = 0 ∧ s.wfld fWD_DIE_PWR_REQ d = 2 ∧ s.wfld fWD_DIE_PWR_ACT d ≠ 2 ∧ s.dieUp d = true)) 3 (((stTwin.setWfld fWD_DIE_PWR_REQ 3 2).setWfld fWD_DIE_PWR_ACT 3 3)) &&
    (fun (s : State) => decide (s.lat .shutdownDue 0 0 ≠ 0 ∧ (s.pkgState < 2 ∨ s.pkgState = 3))) (stRun.setLat .shutdownDue 0 0 1) &&
    (fun (s : State) => decide (s.lat .downStep 0 0 = 1)) (stRun.setLat .downStep 0 0 1) &&
    (fun (s : State) => decide (s.lat .downStep 0 0 = 2)) (((dieOn 56 stRun).setLat .downStep 0 0 2)) &&
    (fun (s : State) => decide (s.lat .downStep 0 0 = 3)) (((dieOn 48 stRun).setLat .downStep 0 0 3)) &&
    (fun (s : State) => decide (s.lat .downStep 0 0 = 4 ∧ s.wfld fTH_ORDER_EFF_STATE 0 = 2)) (((stTwin.setLat .downStep 0 0 4).setWfld fTH_ORDER_EFF_STATE 0 2))) = true := by
  decide +kernel

/-- For each clause, a state and operands that meet its hypotheses. -/
theorem wit_BringupAndShutdownCommandsComplete_2 :
    ((fun (s : State) => decide (s.lat .downStep 0 0 = 5 ∧ s.wfld fTH_ORDER_EFF_STATE 0 = 3)) (((stTwin.setLat .downStep 0 0 5).setWfld fTH_ORDER_EFF_STATE 0 3)) &&
    (fun (s : State) => decide (s.lat .foldback 0 0 = 0)) stRun &&
    (fun (s : State) => decide (s.lat .foldback 0 0 ≠ 0)) (stRun.setLat .foldback 0 0 1) &&
    (fun (drives : Bool) (s : State) => decide ((drives = false ∨ s.pkgState = 2))) true (stRun.setWfld fWD_PKG_STAT_STATE 0 2) &&
    (fun (s : State) => decide (s.pkgState ≠ 2 ∧ s.admits 0x7182 = true ∧ s.wflag fEV_STAT_FULL 0 = false)) stRun) = true := by
  decide +kernel

/-- For each clause, a state and operands that meet its hypotheses. -/
theorem wit_FlashAndPowerFailCommandsComplete :
    ((fun (m : Master) (v : W64) (n : Nat) (bs : List Byte) (s : State) => decide (s.hostOrActive m = true ∧ s.fld fFS_PRES_SEAL s.aw 0 = 1 ∧ s.flag fFS_PRES_BUTTON s.aw 0 = true ∧ getBits v 3 0 = 1 ∧ s.wflag fWD_FLASH_STAT_BUSY 0 = false ∧ n = getBits v 23 16 ∧ 0 < n ∧ n ≤ 8 ∧ getBits v 63 32 ≠ 0 ∧ getBits v 63 32 ≤ tableLimit n ∧ bs = s.bytes (sramAddr (s.aw - 62) 0xC0000) (min (getBits v 63 32) 262144) ∧ headerOk n bs = true)) mH 0x2000020001 2 ((stFlash).bytes (sramAddr ((stFlash).aw - 62) 0xC0000) (min (32) 262144)) stFlash &&
    (fun (m : Master) (v : W64) (s : State) => decide (s.hostOrActive m = true ∧ s.fld fFS_PRES_SEAL s.aw 0 = 1 ∧ s.flag fFS_PRES_BUTTON s.aw 0 = true ∧ getBits v 3 0 = 1 ∧ s.wflag fWD_FLASH_STAT_BUSY 0 = false ∧ getBits v 63 32 = 0)) mH 0x20001 stFlash &&
    (fun (m : Master) (v : W64) (s : State) => decide (s.hostOrActive m = true ∧ s.fld fFS_PRES_SEAL s.aw 0 = 1 ∧ s.flag fFS_PRES_BUTTON s.aw 0 = true ∧ getBits v 3 0 = 1 ∧ s.wflag fWD_FLASH_STAT_BUSY 0 = false ∧ getBits v 63 32 ≠ 0 ∧ (getBits v 23 16 = 0 ∨ 8 < getBits v 23 16))) mH 0x2000090001 stFlash &&
    (fun (n : Nat) (s : State) => decide (s.wflag fWD_FLASH_STAT_BUSY 0 = true ∧ s.lat .foldback 0 0 = 0 ∧ n = s.wfld fWD_FLASH_STAT_TABLE 0 ∧ s.flashTarget n ≠ stageKey)) 2 (((stFlash.setWfld fWD_FLASH_STAT_BUSY 0 1).setWfld fWD_FLASH_STAT_TABLE 0 2)) &&
    (fun (s : State) => decide (s.wflag fWD_FLASH_STAT_BUSY 0 = true)) (stFlash.setWfld fWD_FLASH_STAT_BUSY 0 1) &&
    (fun (s : State) => decide (s.lat .leakRecord 0 0 ≠ 0 ∧ s.wflag fWD_FORCE_LEAK_LATCH 0 = true)) (((stRun.setBoth fWD_FORCE_LEAK_LATCH 1).setLat .leakRecord 0 0 1)) &&
    (fun (s : State) => decide (s.wflag fWD_PKG_STAT_PWRFAIL 0 = false)) stTwin &&
    (fun (s : State) => decide (s.wflag fWD_PKG_STAT_SAVING 0 = true ∧ s.lat .pkgDue 0 0 = 0 ∧ s.lat .eraseDue 0 0 = 0 ∧ s.lat .foldback 0 0 = 0)) (stRun.setWfld fWD_PKG_STAT_SAVING 0 1) &&
    (fun (s : State) => decide (s.wflag fWD_PKG_STAT_PWRFAIL 0 = true ∧ s.wflag fWD_PKG_STAT_SAVING 0 = false ∧ s.lat .eraseDue 0 0 = 0)) ((({ stRun with saved := some (stRun.saveOf true) } : State).setWfld fWD_PKG_STAT_PWRFAIL 0 1)) &&
    (fun (s : State) => decide (s.lat .eraseDue 0 0 ≠ 0)) (stRun.setLat .eraseDue 0 0 1)) = true := by
  decide +kernel

/-- For each clause, a state and operands that meet its hypotheses. -/
theorem wit_BankCommandsComplete_0 :
    ((fun (b : Bank) (p : BankReq) (s : State) => decide (b.ok = true ∧ s.bankSupply b = 2 ∧ s.bankOwn b = 2 ∧ s.bankReq b = 2 ∧ s.borrowedIn b = none ∧ s.bankQueue b = [] ∧ reqOk b p = true ∧ p.data = none ∧ p.ecc.all (· == .good) = true)) bank0 (⟨.core, 8, 8, none, 0, []⟩) stBank &&
    (fun (b : Bank) (p : BankReq) (bs : List Byte) (s : State) => decide (b.ok = true ∧ s.bankSupply b = 2 ∧ s.bankOwn b = 2 ∧ s.bankReq b = 2 ∧ s.borrowedIn b = none ∧ s.bankQueue b = [] ∧ reqOk b p = true ∧ p.data = some bs ∧ p.mode = 0)) bank0 (⟨.dma, 8, 0, some [1, 0], 0, []⟩) ([1, 0]) stBank &&
    (fun (b : Bank) (p : BankReq) (q : BankReq) (s : State) => decide (b.ok = true ∧ s.bankSupply b = 2 ∧ s.bankOwn b = 2 ∧ s.bankReq b = 2 ∧ s.borrowedIn b = none ∧ s.bankQueue b = [] ∧ reqOk b p = true ∧ reqOk b q = true ∧ onProc p.source = true ∧ onProc q.source = false ∧ p.data = none ∧ p.ecc.all (· == .good) = true ∧ reqConflict b p q = true)) bank0 (⟨.core, 8, 8, none, 0, []⟩) (⟨.dma, 4104, 8, none, 0, []⟩) stBank &&
    (fun (b : Bank) (p : BankReq) (q : BankReq) (s : State) => decide (b.ok = true ∧ s.bankSupply b = 2 ∧ s.bankOwn b = 2 ∧ s.bankReq b = 2 ∧ s.borrowedIn b = none ∧ s.bankQueue b = [] ∧ reqOk b p = true ∧ reqOk b q = true ∧ p.source = .core ∧ q.source = .fetch ∧ p.data = none ∧ p.ecc.all (· == .good) = true)) bank0 (⟨.core, 8, 8, none, 0, []⟩) (⟨.fetch, 4104, 8, none, 0, []⟩) stBank &&
    (fun (b : Bank) (s : State) => decide (b.ok = true ∧ s.bankQueue b = [])) bank0 stBank &&
    (fun (b : Bank) (p : BankReq) (s : State) => decide (b.ok = true ∧ reqOk b p = true ∧ s.borrowedIn b = none ∧ s.bankQueue b = [] ∧ s.bankSupply b ≠ 2 ∧ (match reqMaster b p with | .host _ => false | _ => true) = true)) bank0 (⟨.core, 8, 8, none, 0, []⟩) stRun &&
    (fun (b : Bank) (p : BankReq) (s : State) => decide (b.ok = true ∧ reqOk b p = true ∧ s.borrowedIn b = none ∧ s.bankQueue b = [] ∧ s.bankSupply b = 2 ∧ s.bankOwn b < 2)) bank0 (⟨.core, 8, 8, none, 0, []⟩) (stBank.setBankOwn bank0 1) &&
    (fun (b : Bank) (off : Nat) (clear : Bool) (m : Master) (data : List Byte) (s : State) => decide (b.ok = true ∧ s.bankSupply b = 2 ∧ s.bankOwn b = 2 ∧ s.bankReq b = 2 ∧ s.borrowedIn b = none ∧ s.bankQueue b = [] ∧ reqOk b (aliasReq b off clear m data []) = true)) bank0 8 true mH ([5, 1]) stBank &&
    (fun (m : Master) (sp : Nat) (k : Nat) (v : W64) (s : State) => decide (sp < 1536 ∧ k < 4 ∧ s.hostOrActive m = true ∧ s.dieUp (spDie sp) = true ∧ getBits v (2 * k + 1) (2 * k) ≠ 3)) mH 96 3 0x55 stBank &&
    (fun (w : Nat) (k : Nat) (v : W64) => decide (w < 2 ∧ (k = 2 ∨ k = 3) ∧ getBits v (2 * k + 1) (2 * k) ≠ 3)) 1 3 0x40) = true := by
  decide +kernel

/-- For each clause, a state and operands that meet its hypotheses. -/
theorem wit_BankCommandsComplete_1 :
    ((fun (b : Bank) (s : State) => decide (b.ok = true ∧ s.bankSupply b = 2 ∧ s.bankOwn b ≠ 3 ∧ s.bankReq b < 3 ∧ s.bankOwn b ≠ s.bankReq b ∧ (s.bankReq b = 2 ∨ s.bankQueue b = []))) bank0 (stBank.setBankReq bank0 0) &&
    (fun (b : Bank) (s : State) => decide (b.ok = true ∧ s.bankSupply b = 2 ∧ s.bankOwn b = 3 ∧ s.bankQueue b = [])) bank0 (stBank.setBankOwn bank0 3) &&
    (fun (b : Bank) (p : BankReq) (s : State) => decide (b.ok = true ∧ s.bankSupply b = 2 ∧ s.bankOwn b = 3 ∧ s.bankQueue b = [⟨p, 0, false⟩] ∧ p.data = none ∧ p.ecc.all (· == .good) = true)) bank0 (⟨.core, 8, 8, none, 0, []⟩) (((stBank.setBankOwn bank0 3).setBankQueue bank0 [⟨⟨.core, 8, 8, none, 0, []⟩, 0, false⟩]))) = true := by
  decide +kernel

/-- For each clause, a state and operands that meet its hypotheses. -/
theorem wit_TestAndRepairCommandsComplete :
    ((fun (b : Bank) (line : Nat) (s : State) => decide (b.ok = true ∧ line / (b.size / 256) = b.num ∧ s.lat .mtestLine b.die 0 = 0 ∧ s.mtestPeriod b ≠ 0 ∧ s.bankAct b = 2 ∧ s.bankReq b = 2 ∧ s.mtestIdle b = true ∧ s.bankQueue b = [] ∧ s.pinned b line = false)) bank0 4 (((stBank.setReg .CD_MTEST_CTL 3 0 1).setBankReq bank0 2)) &&
    (fun (b : Bank) (line : Nat) (s : State) => decide (b.ok = true ∧ line / (b.size / 256) = b.num ∧ s.lat .mtestLine b.die 0 = b.blk * 8192 + line + 1)) bank0 4 (stBank.setLat .mtestLine 3 0 5) &&
    (fun (m : Master) (w : Nat) (v : W64) (s : State) => decide (s.hostOrActive m = true ∧ 62 ≤ w ∧ w < 64 ∧ w = s.aw ∧ s.flag fFS_PRES_JUMPER w 0 = true ∧ s.flag fFS_COLREP_STAT_BUSY w 0 = false ∧ s.colCodes (s.reg .FS_COLREP_TGT w 0) (getBits v 3 0) = [])) mH 62 1 stPres &&
    (fun (m : Master) (w : Nat) (c : Nat) (v : W64) (s : State) => decide (s.hostOrActive m = true ∧ 62 ≤ w ∧ w < 64 ∧ w = s.aw ∧ s.flag fFS_PRES_JUMPER w 0 = true ∧ s.flag fFS_COLREP_STAT_BUSY w 0 = false ∧ lowest (s.colCodes (s.reg .FS_COLREP_TGT w 0) (getBits v 3 0)) = some c)) mH 62 1 2 stPres &&
    (fun (w : Nat) (d : Nat) (s : State) => decide (62 ≤ w ∧ w < 64 ∧ s.flag fFS_COLREP_STAT_BUSY w 0 = true ∧ d = getBits (BitVec.ofNat 64 (s.lat .colrepTgt w 0)) 57 52)) 63 0 (stPres.setFld fFS_COLREP_STAT_BUSY 63 0 1)) = true := by
  decide +kernel

/-- For each clause, a state and operands that meet its hypotheses. -/
theorem wit_QuarryDataCommandsComplete_0 :
    ((fun (a : Nat) (n : Nat) (q : Nat) (bs : List Byte) (s : State) => decide (s.locate a = .hbm q ∧ s.flaws = [] ∧ s.readSlow a n = (.ok, bs))) 0x1002 3 0 ([3, 0, 0]) stQd &&
    (fun (a : Nat) (n : Nat) (q : Nat) (x : Nat) (bs : List Byte) (s : State) => decide (s.locate a = .hbm q ∧ pieces a n = [(a, n)] ∧ s.rawAt a = some x ∧ x < 0x12000000000 ∧ s.readSlow a n = (.ok, bs))) 0x1002 3 0 0x1002 ([3, 0, 0]) stQd &&
    (fun (a : Nat) (q : Nat) (bs : List Byte) (s : State) => decide (s.locate a = .hbm q ∧ pieces a bs.length = [(a, bs.length)] ∧ s.site a = .free ∧ s.quiescing (sliceDie a) = false)) 0x1002 0 ([3, 0, 5]) stQd &&
    (fun (a : Nat) (q : Nat) (d : Nat) (k : Nat) (off : Nat) (bs : List Byte) (s : State) => decide (s.locate a = .hbm q ∧ pieces a bs.length = [(a, bs.length)] ∧ s.site a = .region d k off ∧ s.lat .servedBy d k = 0 ∧ s.homes d k = [(d, (s.rgn d k).base)] ∧ s.flaws = [] ∧ s.rgnWritable d k = true ∧ s.rgnReadable d k (off / 64 * 64) 64 = true ∧ (s.rgn d k).nonEpoch = false ∧ s.quiescing d = false ∧ s.logFits d k 64 = true)) 0x2002 0 48 0 2 ([3, 0, 5]) stEpoch &&
    (fun (a : Nat) (s : State) => decide (a < 0x12000000000 ∧ s.quarryUp (sliceDie a) = true ∧ s.fld fQD_CFG_SCRUB_H (sliceDie a) 0 ≠ 0 ∧ s.dieRetained (sliceDie a) = false ∧ s.flaws = [] ∧ s.isLost (a / 64 * 64) = false ∧ s.degradedAt (a / 64 * 64) = false)) 0x1040 (stQd.setFld fQD_CFG_SCRUB_H 48 0 24) &&
    (fun (d : Nat) (v : W64) (s : State) => decide (48 ≤ d ∧ d < 56 ∧ s.dieUp d = true ∧ s.rgnSlots d = [] ∧ s.mirSlots d = [] ∧ getBits v 4 0 ≤ 16 ∧ carveGib v ≤ 144)) 48 0x040204 stQd &&
    (fun (d : Nat) (v : W64) (s : State) => decide (48 ≤ d ∧ d < 56 ∧ s.dieUp d = true ∧ s.anyMirrored d = false ∧ (¬(bitOf v 8 = true ∧ getBits v 2 0 = d - 48)))) 48 0x180103 stQd &&
    (fun (d : Nat) (k : Nat) (v : W64) (s : State) => decide (48 ≤ d ∧ d < 56 ∧ s.dieUp d = true ∧ k < 8 ∧ s.rateSum d k (getBits v 25 16) ≤ 750)) 48 3 0x20010 stQd &&
    (fun (d : Nat) (s : State) => decide (48 ≤ d ∧ d < 56 ∧ s.lat .quarryLost d 0 = 1 ∧ s.lat .quarryPartner d 0 = 0)) 48 (stQd.setLat .quarryLost 48 0 1) &&
    (fun (d : Nat) (s : State) => decide (48 ≤ d ∧ d < 56 ∧ s.quarryUp d = true ∧ s.flag fQD_CFG_PARTNER_EN d 0 = true ∧ s.quarryUp (s.partner d) = false ∧ (s.rgnSlots d).any (s.mirrorOk d) = true)) 48 (((((stEpoch.setFld fQD_CFG_PARTNER_EN 48 0 1).setFld fQD_CFG_PARTNER 48 0 3).setFld fQD_RGN1_POLICY 48 0 2).setFld fQD_RGN_INFO_MIRROR_OK 48 0 1))) = true := by
  decide +kernel

/-- A state and operands that meet the hypotheses. -/
theorem wit_QuarryDataCommandsComplete_1 : (fun (d : Nat) (p : Nat) (s : State) => decide (48 ≤ d ∧ d < 56 ∧ s.dieUp d = true ∧ p < 128 ∧ s.flag fQD_PC_RETIRED d p = true ∧ s.flag fQD_PC_REBUILT d p = false ∧ s.lat .pcFits d p ≠ 0)) 48 7 (((stQd.setFld fQD_PC_RETIRED 48 7 1).setLat .pcFits 48 7 1)) = true := by decide +kernel

/-- For each clause, a state and operands that meet its hypotheses. -/
theorem wit_RegionAndSkeinCommandsComplete_0 :
    ((fun (m : Master) (d : Nat) (k : Nat) (v : W64) (s : State) => decide (48 ≤ d ∧ d < 56 ∧ s.dieUp d = true ∧ s.hostOrActive m = true ∧ s.flag fQD_RGN_STAT_BUSY d 0 = false ∧ getBits v 3 0 = 1 ∧ k = getBits v 15 8 ∧ s.loadCodes d k = [])) mH 48 5 0x501 stStage &&
    (fun (m : Master) (d : Nat) (c : Nat) (v : W64) (s : State) => decide (48 ≤ d ∧ d < 56 ∧ s.dieUp d = true ∧ s.hostOrActive m = true ∧ s.flag fQD_RGN_STAT_BUSY d 0 = false ∧ getBits v 3 0 = 1 ∧ lowest (s.loadCodes d (getBits v 15 8)) = some c)) mH 48 2 0x501 (stStage.setReg .QD_RGN_STAGE1 48 0 0) &&
    (fun (d : Nat) (k : Nat) (s : State) => decide (48 ≤ d ∧ d < 56 ∧ s.lat .rgnDue d 0 = k + 1 ∧ s.rgnState d k = 1 ∧ (s.rgn d k).mirror = false)) 48 0 (((stEpoch.setFld fQD_RGN_INFO_STATE 48 0 1).setLat .rgnDue 48 0 1)) &&
    (fun (m : Master) (d : Nat) (k : Nat) (v : W64) (s : State) => decide (48 ≤ d ∧ d < 56 ∧ s.dieUp d = true ∧ s.hostOrActive m = true ∧ s.flag fQD_RGN_STAT_BUSY d 0 = false ∧ getBits v 3 0 = 2 ∧ k = getBits v 15 8 ∧ s.rgnState d k ≠ 0 ∧ ((s.skein (s.servingDie d k)).any (fun r => r.handle == s.handleOf d k) = false))) mH 48 0 2 stEpoch &&
    (fun (m : Master) (d : Nat) (v : W64) (s : State) => decide (48 ≤ d ∧ d < 56 ∧ s.dieUp d = true ∧ s.hostOrActive m = true ∧ s.flag fQD_RGN_STAT_BUSY d 0 = false ∧ getBits v 3 0 = 2 ∧ s.rgnState d (getBits v 15 8) = 0)) mH 48 0x302 stEpoch &&
    (fun (d : Nat) (k : Nat) (s : State) => decide (48 ≤ d ∧ d < 56 ∧ s.lat .rgnDue d 0 = k + 1 ∧ s.rgnState d k = 5 ∧ s.wordOn d k = false ∧ s.lat .servedBy d k = 0)) 48 0 (((stEpoch.setFld fQD_RGN_INFO_STATE 48 0 5).setLat .rgnDue 48 0 1)) &&
    (fun (m : Master) (d : Nat) (v : W64) (s : State) => decide (48 ≤ d ∧ d < 56 ∧ s.dieUp d = true ∧ s.hostOrActive m = true ∧ s.flag fQD_RGN_STAT_BUSY d 0 = false ∧ (getBits v 3 0 = 0 ∨ 3 ≤ getBits v 3 0))) mH 48 0x309 stEpoch &&
    (fun (m : Master) (d : Nat) (v : W64) (s : State) => decide (48 ≤ d ∧ d < 56 ∧ s.dieUp d = true ∧ s.isActive m = true ∧ m ≠ .hw ∧ getBits v 3 0 = 1 ∧ s.flag fQD_SKEIN_STAT_QUIESCED d 0 = false)) mW 48 1 stEpoch &&
    (fun (d : Nat) (s : State) => decide (48 ≤ d ∧ d < 56 ∧ s.dieUp d = true ∧ s.lat .quiesceDue d 0 ≠ 0 ∧ s.changeOn d = false)) 48 (stEpoch.setLat .quiesceDue 48 0 1) &&
    (fun (d : Nat) (s : State) => decide (48 ≤ d ∧ d < 56 ∧ s.dieUp d = true)) 48 (stEpoch.setLat .quiesceDue 48 0 1)) = true := by
  decide +kernel

/-- For each clause, a state and operands that meet its hypotheses. -/
theorem wit_RegionAndSkeinCommandsComplete_1 :
    ((fun (d : Nat) (s : State) => decide (48 ≤ d ∧ d < 56 ∧ s.dieUp d = true ∧ s.flag fQD_SKEIN_STAT_QUIESCED d 0 = true)) 48 (stEpoch.setFld fQD_SKEIN_STAT_QUIESCED 48 0 1) &&
    (fun (d : Nat) (s : State) => decide (48 ≤ d ∧ d < 56 ∧ s.dieUp d = true ∧ s.lat .rollingBack d 0 ≠ 0)) 48 (((stEpoch.setSkein 48 [⟨0, 0, stEpoch.handleOf 48 0, 0, true, [9]⟩]).setLat .rollingBack 48 0 1)) &&
    (fun (d : Nat) (v : W64) (s : State) => decide (48 ≤ d ∧ d < 56 ∧ s.dieUp d = true ∧ (s.reg .QD_SKEIN_EPOCH d 0).toNat ≤ getBits v 63 8)) 48 0x700 (stEpoch.setSkein 48 [⟨0, 3, 0, 0, true, [9]⟩, ⟨1, 8, 0, 0, true, [9]⟩])) = true := by
  decide +kernel

/-- For each clause, a state and operands that meet its hypotheses. -/
theorem wit_PlyFormingCommandsComplete_0 :
    ((fun (m : Master) (d : Nat) (v : W64) (x : PlyDesc) (s : State) => decide (d < 48 ∧ fromSpindle m = false ∧ s.flag fPLY_CMD_STAT_BUSY d 0 = false ∧ getBits v 3 0 = 1 ∧ (s.plyTaken d v).plyDesc d v = some x ∧ ((s.plyTaken d v).jobForm d v (some x)).codes = [])) mH 3 1 descTwo (plyDescAt stHalt 1 0 [96, 97]) &&
    (fun (m : Master) (d : Nat) (c : Nat) (v : W64) (x : PlyDesc) (s : State) => decide (d < 48 ∧ fromSpindle m = false ∧ s.flag fPLY_CMD_STAT_BUSY d 0 = false ∧ getBits v 3 0 = 1 ∧ (s.plyTaken d v).plyDesc d v = some x ∧ lowest ((s.plyTaken d v).jobForm d v (some x)).codes = some c ∧ c ≠ 0)) mH 3 7 1 descTwo (((plyDescAt stHalt 1 0 [96, 97]).setSpFld fSPN_STAT_STATE 97 3)) &&
    (fun (m : Master) (d : Nat) (v : W64) (x : PlyDesc) (s : State) => decide (d < 48 ∧ fromSpindle m = false ∧ s.flag fPLY_CMD_STAT_BUSY d 0 = false ∧ getBits v 3 0 = 2 ∧ (s.plyTaken d v).plyDesc d v = some x ∧ ((s.plyTaken d v).jobJoin d v (some x)).codes = [])) mH 3 2 descTwo stJoin &&
    (fun (m : Master) (d : Nat) (c : Nat) (v : W64) (x : PlyDesc) (s : State) => decide (d < 48 ∧ fromSpindle m = false ∧ s.flag fPLY_CMD_STAT_BUSY d 0 = false ∧ getBits v 3 0 = 2 ∧ (s.plyTaken d v).plyDesc d v = some x ∧ lowest ((s.plyTaken d v).jobJoin d v (some x)).codes = some c ∧ c ≠ 0)) mH 3 7 2 descTwo (stJoin.setSpFld fSPN_STAT_STATE 97 3) &&
    (fun (m : Master) (d : Nat) (v : W64) (x : PlyDesc) (s : State) => decide (d < 48 ∧ fromSpindle m = false ∧ s.flag fPLY_CMD_STAT_BUSY d 0 = false ∧ getBits v 3 0 = 8 ∧ (s.plyTaken d v).plyDesc d v = some x ∧ ((s.plyTaken d v).jobReform d v (some x)).codes = [])) mH 3 0x6000000008 descPair stHurt &&
    (fun (m : Master) (d : Nat) (c : Nat) (v : W64) (x : PlyDesc) (s : State) => decide (d < 48 ∧ fromSpindle m = false ∧ s.flag fPLY_CMD_STAT_BUSY d 0 = false ∧ getBits v 3 0 = 8 ∧ (s.plyTaken d v).plyDesc d v = some x ∧ lowest ((s.plyTaken d v).jobReform d v (some x)).codes = some c ∧ c ≠ 0)) mH 3 7 0x6000000008 descPair (stHurt.setSpFld fSPN_STAT_STATE 98 3) &&
    (fun (d : Nat) (v : W64) (x : PlyDesc) (ms : List (Nat × Nat)) (s : State) => decide (d < 48 ∧ s.plyRun d = some x ∧ s.lat .plyResult d 0 = 1 ∧ s.lat .plyDbe d 0 = 0 ∧ v = s.reg .PLY_CMD d 0 ∧ getBits v 3 0 = 1 ∧ ((s.unclaim d).jobForm d v (some x)).codes = [] ∧ (ms = (x.list.getD []).map (fun e => (plyEntry e).1)))) 3 1 descTwo ([(0, 96), (0, 97)]) ((stClaimed (plyDescAt stHalt 1 0 [96, 97]) 1 descTwo [96, 97])) &&
    (fun (d : Nat) (v : W64) (x : PlyDesc) (p0 : Ply) (ps : List Ply) (s : State) => decide (d < 48 ∧ s.plyRun d = some x ∧ s.lat .plyResult d 0 = 1 ∧ s.lat .plyDbe d 0 = 0 ∧ v = s.reg .PLY_CMD d 0 ∧ getBits v 3 0 = 2 ∧ ((s.unclaim d).jobJoin d v (some x)).codes = [] ∧ ((x.list.getD []).map (fun e => s.plyById (plyEntry e).1.1 (plyEntry e).1.2) = (p0 :: ps).map some))) 3 2 descTwo (plyOne [96]) ([plyOne [97]]) (stClaimed stJoin 2 descTwo [96, 97]) &&
    (fun (d : Nat) (v : W64) (x : PlyDesc) (p : Ply) (ps : List (Nat × Nat × Nat)) (s : State) => decide (d < 48 ∧ s.plyRun d = some x ∧ s.lat .plyResult d 0 = 1 ∧ s.lat .plyDbe d 0 = 0 ∧ v = s.reg .PLY_CMD d 0 ∧ getBits v 3 0 = 8 ∧ ((s.unclaim d).jobReform d v (some x)).codes = [] ∧ s.target d v = some p ∧ ps = reformPairs x.hdr (x.list.getD []) ∧ x.list ≠ none)) 3 0x6000000008 descPair plyHurt ([(1, 0, 98)]) (stClaimed stHurt 0x6000000008 descPair [98]) &&
    (fun (d : Nat) (c : Nat) (x : PlyDesc) (s : State) => decide (d < 48 ∧ s.plyRun d = some x ∧ s.lat .plyResult d 0 = 1 ∧ s.lat .plyDbe d 0 = 0 ∧ lowest ((s.unclaim d).jobNow d x).codes = some c ∧ c ≠ 0 ∧ c < 16)) 3 7 descTwo (((stClaimed (plyDescAt stHalt 1 0 [96, 97]) 1 descTwo [96, 97]).setSpFld fSPN_STAT_STATE 97 3))) = true := by
  decide +kernel

/-- For each clause, a state and operands that meet its hypotheses. -/
theorem wit_PlyFormingCommandsComplete_1 :
    ((fun (m : Master) (d : Nat) (k : Nat) (v : W64) (p : Ply) (s : State) => decide (d < 48 ∧ fromSpindle m = false ∧ s.flag fPLY_CMD_STAT_BUSY d 0 = false ∧ getBits v 3 0 = 3 ∧ s.target d v = some p ∧ p.members.head? = some (s.pkg, k) ∧ ((s.plyTaken d v).jobSplit d v).codes = [])) mH 3 96 0x6000000003 plyTwo stTwo &&
    (fun (m : Master) (d : Nat) (v : W64) (p : Ply) (s : State) => decide (d < 48 ∧ fromSpindle m = false ∧ s.flag fPLY_CMD_STAT_BUSY d 0 = false ∧ getBits v 3 0 = 4 ∧ s.target d v = some p ∧ ((s.plyTaken d v).jobDissolve d v).codes = [])) mH 3 0x6000000004 plyTwo stTwo &&
    (fun (m : Master) (d : Nat) (v : W64) (s : State) => decide (d < 48 ∧ fromSpindle m = false ∧ s.flag fPLY_CMD_STAT_BUSY d 0 = false ∧ (getBits v 3 0 = 0 ∨ 9 ≤ getBits v 3 0))) mH 3 9 stPly &&
    (fun (d : Nat) (v : W64) (s : State) => decide (d < 48 ∧ s.flag fPLY_CMD_STAT_BUSY d 0 = true ∧ getBits v 3 0 = 1)) 3 1 (stPly.setFld fPLY_CMD_STAT_BUSY 3 0 1) &&
    (fun (psn : Nat) (i : Nat) (p : Ply) (pairs : List (Nat × Nat × Nat)) (s : State) => decide (psn < 1536 ∧ s.plyOf psn = some p ∧ s.unitEntry psn = some i ∧ s.mayReform i = true ∧ p.auto = true ∧ p.lost ≠ [] ∧ s.chooseReserve p p.lost [] = some pairs)) 96 0 plyHurt ([(1, 0, 98)]) stBack &&
    (fun (psn : Nat) (i : Nat) (s : State) => decide (psn < 1536 ∧ s.unitEntry psn = some i ∧ s.mayReform i = false)) 96 0 (stBack.setLat .epochBack 0 0 0)) = true := by
  decide +kernel

/-- For each clause, a state and operands that meet its hypotheses. -/
theorem wit_PlyRunningCommandsComplete :
    ((fun (m : Master) (d : Nat) (k : Nat) (v : W64) (p : Ply) (s : State) => decide (d < 48 ∧ fromSpindle m = false ∧ s.flag fPLY_CMD_STAT_BUSY d 0 = false ∧ getBits v 3 0 = 5 ∧ s.target d v = some p ∧ p.members.head? = some (s.pkg, k) ∧ (s.plyTaken d v).canRun k = true ∧ ((s.plyTaken d v).jobRun d v .run).codes = [])) mH 3 96 0x6000000005 (plyOne [96, 97]) stPly &&
    (fun (m : Master) (d : Nat) (k : Nat) (v : W64) (p : Ply) (s : State) => decide (d < 48 ∧ fromSpindle m = false ∧ s.flag fPLY_CMD_STAT_BUSY d 0 = false ∧ getBits v 3 0 = 7 ∧ s.target d v = some p ∧ p.members.head? = some (s.pkg, k) ∧ (s.plyTaken d v).canRun k = true ∧ ((s.plyTaken d v).jobRun d v .step).codes = [])) mH 3 96 0x6000000007 (plyOne [96, 97]) stPly &&
    (fun (m : Master) (d : Nat) (k : Nat) (v : W64) (p : Ply) (s : State) => decide (d < 48 ∧ fromSpindle m = false ∧ s.flag fPLY_CMD_STAT_BUSY d 0 = false ∧ getBits v 3 0 = 6 ∧ s.target d v = some p ∧ p.members.head? = some (s.pkg, k) ∧ (s.spState k = 3 ∨ s.spState k = 4) ∧ ((s.plyTaken d v).jobRun d v .halt).codes = [])) mH 3 96 0x6000000006 (plyOne [96, 97]) (((stPly.setSpFld fSPN_STAT_STATE 96 3).setSpFld fSPN_STAT_STATE 97 3)) &&
    (fun (d : Nat) (r : Nat) (s : State) => decide (d < 48 ∧ r < 11 ∧ s.plyRun d = none ∧ s.lat .plyResult d 0 = r + 1 ∧ s.lat .plyDbe d 0 = 0)) 3 0 (((stPly.setLat .plyResult 3 0 1).setLat .plyId 3 0 96)) &&
    (fun (sp : Nat) (l : Nat) (s : State) => decide (sp < 1536 ∧ s.inRealPly sp = true ∧ s.isLead sp = false ∧ s.leadOf sp = l ∧ l ≠ sp ∧ l < 1536 ∧ s.spState l = 3 ∧ s.spPowered l = true)) 97 96 (((stPly.setSpFld fSPN_STAT_STATE 96 3).setSpFld fSPN_DB_PEND_PEND 97 6)) &&
    (fun (psn : Nat) (mem : Nat) (p : Ply) (s : State) => decide (psn < 1536 ∧ s.plyOf psn = some p ∧ s.isLead psn = true ∧ 1 < p.members.length ∧ mem < p.members.length ∧ mem < 2 ^ 22 ∧ s.spState psn = 3 ∧ s.lat .cleared psn 0 < (s.spin psn).spool.length)) 96 1 (plyOne [96, 97]) (((stPly.setSpFld fSPN_STAT_STATE 96 3).updSpin 96 fun x => { x with spool := [⟨0, 0, none, true⟩] })) &&
    (fun (sp : Nat) (s : State) => decide (sp < 1536 ∧ s.inRealPly sp = true ∧ s.isLead sp = false ∧ s.leadOf sp = sp)) 97 (({ stHalt with plies := [⟨[(5, 3), (0, 97)], 1, [], 16, true, false, []⟩] }.setSpFld fSPN_DB_PEND_PEND 97 6)) &&
    (fun (pkg : Nat) (sp : Nat) (i : Nat) (p : Ply) (q : Ply) (s : State) => decide (pkg < 4096 ∧ sp < 1536 ∧ (s.plies.find? (fun y => y.members.contains (pkg, sp)) = some p) ∧ (p.members.findIdx? (fun k => decide (k = (pkg, sp))) = some i) ∧ p.lost.contains i = false ∧ q = { p with lost := p.lost ++ [i], stopped := true } ∧ q.carrier.1 = s.pkg ∧ s.enrolment (p.members.head?.getD (0, 0)).1 (p.members.head?.getD (0, 0)).2 = none ∧ pkg ≠ s.pkg)) 5 3 1 (⟨[(0, 96), (5, 3)], 1, [], 16, true, false, []⟩) (⟨[(0, 96), (5, 3)], 1, [], 16, true, true, [1]⟩) ({ stHalt with plies := [⟨[(0, 96), (5, 3)], 1, [], 16, true, false, []⟩] }) &&
    (fun (pkg : Nat) (sp : Nat) (i : Nat) (p : Ply) (q : Ply) (s : State) => decide (pkg < 4096 ∧ sp < 1536 ∧ (s.plies.find? (fun y => y.members.contains (pkg, sp)) = some p) ∧ (p.members.findIdx? (fun k => decide (k = (pkg, sp))) = some i) ∧ p.lost.contains i = false ∧ q = { p with lost := p.lost ++ [i], stopped := true } ∧ q.carrier.1 = s.pkg ∧ s.enrolment (p.members.head?.getD (0, 0)).1 (p.members.head?.getD (0, 0)).2 = none ∧ pkg = s.pkg ∧ s.standsLost sp = false)) 0 97 1 (plyOne [96, 97]) ({ plyOne [96, 97] with lost := [1], stopped := true }) (stPly.setSpFld fSPN_STAT_STATE 97 6) &&
    (fun (pkg : Nat) (sp : Nat) (i : Nat) (p : Ply) (q : Ply) (s : State) => decide (pkg < 4096 ∧ sp < 1536 ∧ (s.plies.find? (fun y => y.members.contains (pkg, sp)) = some p) ∧ (p.members.findIdx? (fun k => decide (k = (pkg, sp))) = some i) ∧ p.lost.contains i = false ∧ q = { p with lost := p.lost ++ [i], stopped := true } ∧ q.carrier.1 = s.pkg ∧ s.enrolment (p.members.head?.getD (0, 0)).1 (p.members.head?.getD (0, 0)).2 = none ∧ pkg = s.pkg ∧ s.standsLost sp = true ∧ (sget (0, 0) s.sticky.tallies (s.spUnit sp * 32 + 1)).1 < s.wfld fWD_FLT_THR_COUNT 1)) 0 97 1 (plyOne [96, 97]) ({ plyOne [96, 97] with lost := [1], stopped := true }) stPly) = true := by
  decide +kernel

/-- For each clause, a state and operands that meet its hypotheses. -/
theorem wit_SpindleControlCommandsComplete :
    ((fun (sp : Nat) (s : State) => decide (sp < 1536 ∧ s.dieUp (spDie sp) = true ∧ s.inRealPly sp = false ∧ s.canRun sp = true)) 96 stHalt &&
    (fun (sp : Nat) (s : State) => decide (sp < 1536 ∧ s.dieUp (spDie sp) = true ∧ s.inRealPly sp = false ∧ s.canRun sp = true)) 96 stHalt &&
    (fun (sp : Nat) (s : State) => decide (sp < 1536 ∧ s.dieUp (spDie sp) = true ∧ s.inRealPly sp = false ∧ (s.spState sp = 3 ∨ s.spState sp = 4))) 96 (stHalt.setSpFld fSPN_STAT_STATE 96 4) &&
    (fun (m : Master) (sp : Nat) (s : State) => decide (sp < 1536 ∧ s.dieUp (spDie sp) = true ∧ s.inRealPly sp = true ∧ m ≠ .hw)) mH 96 stPly &&
    (fun (sp : Nat) (s : State) => decide (sp < 1536 ∧ s.dieUp (spDie sp) = true ∧ (s.spState sp = 2 ∨ s.spState sp = 3))) 96 (stHalt.setSpFld fSPN_DB_PEND_PEND 96 1) &&
    (fun (sp : Nat) (s : State) => decide (sp < 1536 ∧ s.spPowered sp = true ∧ (s.reg .SPN_TIMER_CMP (spDie sp) (spIdx sp)).toNat ≤ s.now)) 96 (stHalt.setReg .SPN_TIMER_CMP 3 0 0) &&
    (fun (sp : Nat) (s : State) => decide (sp < 1536 ∧ s.dieUp (spDie sp) = true ∧ s.spPowered sp = true ∧ s.isLead sp = true)) 96 stHalt &&
    (fun (sp : Nat) (l : Nat) (s : State) => decide (sp < 1536 ∧ s.dieUp (spDie sp) = true ∧ s.spPowered sp = true ∧ s.inRealPly sp = true ∧ s.isLead sp = false ∧ s.leadOf sp = l ∧ l ≠ sp)) 97 96 stPly &&
    (fun (sp : Nat) (e : Entry) (s : State) => decide (sp < 1536 ∧ s.inRealPly sp = false ∧ s.spState sp = 4 ∧ (s.spin sp).spool.head? = some e ∧ (s.spin sp).getG (wGB e.word) ≠ BitVec.allOnes 64 ∧ s.waitMatch sp e.word = none ∧ wPD e.word ≠ 0 ∧ s.spFlag fSPN_CTL_HALT sp = false)) 96 (entryOf waitWord 7) (((stWord (entryOf waitWord 7)).setSpFld fSPN_STAT_STATE 96 4)) &&
    (fun (sp : Nat) (s : State) => decide (sp < 1536 ∧ s.inRealPly sp = false ∧ (s.spState sp = 3 ∨ s.spState sp = 4) ∧ (s.spFlag fSPN_CTL_HALT sp = true ∨ s.lat .stepDone sp 0 ≠ 0) ∧ s.between sp = true)) 96 (((stWord (entryOf 0 5)).setSpFld fSPN_CTL_HALT 96 1))) = true := by
  decide +kernel

/-- For each clause, a state and operands that meet its hypotheses. -/
theorem wit_SpoolCommandsComplete :
    ((fun (sp : Nat) (pc : Nat) (w : W256) (s : State) => decide (sp < 1536 ∧ s.inRealPly sp = false ∧ s.mayIssue sp = true ∧ s.window sp = true ∧ s.nextPc sp = pc ∧ pc < 16384 ∧ s.bankSupply (padBank sp (32 * pc)) = 2 ∧ s.bankOwn (padBank sp (32 * pc)) = 2 ∧ s.bankReq (padBank sp (32 * pc)) = 2 ∧ s.borrowedIn (padBank sp (32 * pc)) = none ∧ w = BitVec.ofNat 256 (leValue (s.bytes (padAddr sp (32 * pc)) 32)) ∧ (((s.spin sp).spool.all fun e => e.lets w) = true))) 96 0 0x4140 (((((stWord (entryOf 0 0)).updSpin 96 fun x => { x with spool := [] }).setBankOwn (.pad 96 0) 2 |>.setBankReq (.pad 96 0) 2).setBytes (padAddr 96 0) (leBytes 32 0x4140))) &&
    (fun (sp : Nat) (l : Nat) (h : Entry) (s : State) => decide (sp < 1536 ∧ s.leadOf sp = l ∧ l < 1536 ∧ (((s.mates l).map fun x => x.2).Nodup) ∧ (s.spin l).spool.head? = some h ∧ s.canPerform l h.word = true ∧ h.cause = none ∧ decodeCause s l h.word = none ∧ (s.spin l).getP (wPred h.word) = false)) 96 96 (entryOf 0xC141 9) ((stWord (entryOf 0xC141 9))) &&
    (fun (sp : Nat) (h : Entry) (s : State) => decide (sp < 1536 ∧ s.inRealPly sp = false ∧ (s.spin sp).spool.head? = some h ∧ s.leadOf sp = sp ∧ s.canPerform sp h.word = true ∧ accumulates h.word = true ∧ (s.spin sp).replays < 3 ∧ s.countsOnly 0x00 (s.spUnit sp) = true)) 96 (entryOf 0x4000 9) ((stWord (entryOf 0x4000 9))) &&
    (fun (sp : Nat) (h : Entry) (c : Nat × W64) (s : State) => decide (sp < 1536 ∧ (s.spin sp).spool.head? = some h ∧ h.cause = some c ∧ c.1 < 256 ∧ h.pc < 16384 ∧ s.isLead sp = true ∧ s.canPerform sp h.word = true ∧ s.spFlag fSPN_CTL_HALT sp = false ∧ s.spFlag fSPN_STAT_IN_HANDLER sp = false ∧ s.spFlag fSPN_CTL_STEP sp = false ∧ s.spFlag fSPN_CTL_EXC_MODE sp = true)) 96 (⟨0xFFFF, 9, some (2, 0x3FF), false⟩) (2, 0x3FF) ((((stWord ⟨0xFFFF, 9, some (2, 0x3FF), false⟩).setSpFld fSPN_CTL_EXC_MODE 96 1).setSpFld fSPN_VEC_EXC_WORD 96 40)) &&
    (fun (sp : Nat) (h : Entry) (c : Nat × W64) (s : State) => decide (sp < 1536 ∧ (s.spin sp).spool.head? = some h ∧ h.cause = some c ∧ c.1 < 256 ∧ h.pc < 16384 ∧ s.isLead sp = true ∧ s.canPerform sp h.word = true ∧ s.spFlag fSPN_CTL_HALT sp = false ∧ s.spFlag fSPN_STAT_IN_HANDLER sp = false ∧ s.spFlag fSPN_CTL_STEP sp = false ∧ s.spFlag fSPN_CTL_EXC_MODE sp = false)) 96 (⟨0xFFFF, 9, some (2, 0x3FF), false⟩) (2, 0x3FF) ((stWord ⟨0xFFFF, 9, some (2, 0x3FF), false⟩)) &&
    (fun (sp : Nat) (s : State) => decide (sp < 1536 ∧ s.isLead sp = true ∧ (s.spState sp = 3 ∨ s.spState sp = 4) ∧ s.spFlag fSPN_CTL_HALT sp = false ∧ s.spFlag fSPN_CTL_STEP sp = false ∧ s.lat .stepDone sp 0 = 0 ∧ s.irqPending sp = true ∧ s.spFlag fSPN_STAT_IN_HANDLER sp = false ∧ s.between sp = true ∧ s.faultDue sp = false)) 96 ((((((stWord (entryOf 0 9)).setSpFld fSPN_CTL_IRQ_ON 96 1).setSpFld fSPN_IRQ_EN_EN 96 2).setSpFld fSPN_IRQ_TIMER 96 1).setSpFld fSPN_VEC_IRQ_WORD 96 50))) = true := by
  decide +kernel

/-- For each clause, a state and operands that meet its hypotheses. -/
theorem wit_RegisterAndHostCommandsComplete :
    ((fun (m : Master) (addr : Nat) (s : State) => decide (addr < 2 ^ 64 ∧ addr / 2 ^ 52 = s.pkg ∧ s.locate (addr % 2 ^ 52) = .none ∧ s.masterHeld m addr = false)) mH 0xE000000000000 stHalt &&
    (fun (m : Master) (sp : Nat) (addr : Nat) (off : Nat) (s : State) => decide (sp < 1536 ∧ addr < 2 ^ 64 ∧ addr / 2 ^ 52 = s.pkg ∧ s.locate (addr % 2 ^ 52) = .win (spDie sp) off ∧ s.windowSite (spDie sp) off = .reg .SPN_VEC (spDie sp) (spIdx sp) 0 ∧ s.dieAnswer (spDie sp) = .ok ∧ s.spPowered sp = true ∧ s.lat .slotRetired sp 0 = 0 ∧ s.inRealPly sp = false ∧ s.masterHeld m addr = false)) mH 96 4222137552338968 16777240 stHalt &&
    (fun (sp : Nat) (k : Nat) (s : State) => decide (sp < 1536 ∧ k < 32 ∧ s.dieAnswer (spDie sp) = .ok ∧ s.spState sp = 2)) 96 5 stHalt &&
    (fun (sp : Nat) (k : Nat) (s : State) => decide (sp < 1536 ∧ k < 32 ∧ s.dieAnswer (spDie sp) = .ok ∧ s.spState sp = 2 ∧ s.inRealPly sp = false)) 96 5 stHalt &&
    (fun (sp : Nat) (off : Nat) (s : State) => decide (sp < 1536 ∧ off < 0x100000 ∧ s.dieAnswer (spDie sp) = .ok ∧ s.spState sp ≠ 2 ∧ s.spState sp ≠ 6)) 96 0xA0008 (stHalt.setSpFld fSPN_STAT_STATE 96 3) &&
    (fun (port : Nat) (sp : Nat) (s : State) => decide (port < 2 ∧ s.portAlive port = true ∧ s.portServes = true ∧ sp < 1536 ∧ s.notReady = false ∧ s.dieUp (spDie sp) = true ∧ (s.spState sp = 2 ∨ s.spState sp = 3))) 0 96 (dieOn 60 stHalt) &&
    (fun (port : Nat) (sp : Nat) (s : State) => decide (port < 2 ∧ s.portAlive port = true ∧ s.portServes = true ∧ sp < 1536 ∧ s.dieUp (spDie sp) = true ∧ s.spState sp ≠ 6)) 0 96 (((dieOn 60 stHalt).setSpFld fSPN_DB_PEND_PEND 96 6)) &&
    (fun (port : Nat) (off : Nat) (n : Nat) (q : Nat) (bs : List Byte) (s : State) => decide (port < 2 ∧ s.portAlive port = true ∧ s.portServes = true ∧ off + n ≤ 0x1000000000 ∧ s.bar2Addr port off / 2 ^ 52 = s.pkg ∧ s.locate (s.bar2Addr port off % 2 ^ 52) = .hbm q ∧ s.notReady = false ∧ (s.moveRead (asHost port) (s.bar2Addr port off) n).1 = .ok ∧ (s.moveRead (asHost port) (s.bar2Addr port off) n).2.1 = bs ∧ s.flaws = [])) 0 0x1001 2 0 ([2, 3]) (((dieOn 60 (dieOn 48 stPkg)).setReg .HI_BAR2_BASE 60 0 1)) &&
    (fun (port : Nat) (off : Nat) (n : Nat) (s : State) => decide (port < 2 ∧ s.portAlive port = true ∧ s.portServes = true ∧ off + n ≤ 0x1000000000 ∧ n ≠ 0 ∧ s.bar2Addr port off / 2 ^ 52 = s.pkg ∧ s.locate (s.bar2Addr port off % 2 ^ 52) = .none ∧ s.notReady = false ∧ s.moveWaits (asHost port) (s.bar2Addr port off) n = false)) 0 0 2 (((dieOn 60 (dieOn 48 stPkg)).setReg .HI_BAR2_BASE 60 0 0x000E000000000001))) = true := by
  decide +kernel

/-- For each clause, a state and operands that meet its hypotheses. -/
theorem wit_FlowWordsComplete_0 :
    ((fun (sp : Nat) (w : W256) (s : State) => decide (s.performs sp 0x300 w = true)) 96 ((cw 0x300 (77 * 2 ^ 16))) ((stW (cw 0x300 (77 * 2 ^ 16)))) &&
    (fun (sp : Nat) (w : W256) (s : State) => decide (s.performs sp 0x301 w = true)) 96 ((cw 0x301 (5 * 2 ^ 30))) ((stW (cw 0x301 (5 * 2 ^ 30)))) &&
    (fun (sp : Nat) (w : W256) (s : State) => decide (s.performs sp 0x302 w = true)) 96 ((cw 0x302 (77 * 2 ^ 16 + 5 * 2 ^ 30))) ((stW (cw 0x302 (77 * 2 ^ 16 + 5 * 2 ^ 30)))) &&
    (fun (sp : Nat) (w : W256) (s : State) => decide (s.performs sp 0x303 w = true)) 96 ((cw 0x303 (5 * 2 ^ 30 + 5 * 2 ^ 35))) ((stW (cw 0x303 (5 * 2 ^ 30 + 5 * 2 ^ 35)))) &&
    (fun (sp : Nat) (w : W256) (s : State) => decide (s.performs sp 0x304 w = true ∧ (s.spin sp).getG (wGA w) ≠ 0)) 96 ((cw 0x304 (77 * 2 ^ 16 + 5 * 2 ^ 30))) ((stW (cw 0x304 (77 * 2 ^ 16 + 5 * 2 ^ 30)))) &&
    (fun (sp : Nat) (w : W256) (s : State) => decide (s.performs sp 0x304 w = true ∧ (s.spin sp).getG (wGA w) = 0)) 96 ((cw 0x304 (77 * 2 ^ 16 + 6 * 2 ^ 30))) ((stW (cw 0x304 (77 * 2 ^ 16 + 6 * 2 ^ 30)))) &&
    (fun (sp : Nat) (w : W256) (s : State) => decide (s.performs sp 0x305 w = true)) 96 (cw 0x305 0) ((stW (cw 0x305 0))) &&
    (fun (sp : Nat) (w : W256) (s : State) => decide (s.performs sp 0x310 w = true)) 96 (cw 0x310 0) ((stW (cw 0x310 0))) &&
    (fun (sp : Nat) (w : W256) (s : State) => decide (s.performs sp 0x313 w = true ∧ scopeCause s sp w = [])) 96 (cw 0x313 0) ((stW (cw 0x313 0))) &&
    (fun (sp : Nat) (w : W256) (s : State) => decide (s.performs sp 0x311 w = true ∧ dbForm ((s.spin sp).getG (wGA w)) = true ∧ s.bellHeld (s.spUnit sp) ((s.spin sp).getG (wGA w)) = false ∧ s.reachable (dbPkg ((s.spin sp).getG (wGA w))) = true ∧ ((s.sendBell sp ((s.spin sp).getG (wGA w)) (if wMODE w then wIMM32 w else getBits ((s.spin sp).getG (wGB w)) 31 0)).isSome = true))) 96 ((cw 0x311 (5 * 2 ^ 30 + 2 ^ 49 + 6 * 2 ^ 64))) ((stW (cw 0x311 (5 * 2 ^ 30 + 2 ^ 49 + 6 * 2 ^ 64))).updSpin 96 fun x => x.setG 5 98)) = true := by
  decide +kernel

/-- For each clause, a state and operands that meet its hypotheses. -/
theorem wit_FlowWordsComplete_1 :
    ((fun (sp : Nat) (h : Nat) (w : W256) (s : State) => decide (s.performs sp 0x312 w = true ∧ s.waitMatch sp w = some h)) 96 0x800000 ((cw 0x312 (5 * 2 ^ 30 + 6 * 2 ^ 35 + 7 * 2 ^ 40 + 4 * 2 ^ 45))) ((stW (cw 0x312 (5 * 2 ^ 30 + 6 * 2 ^ 35 + 7 * 2 ^ 40 + 4 * 2 ^ 45))).setSpFld fSPN_DB_PEND_PEND 96 0x800001) &&
    (fun (sp : Nat) (w : W256) (s : State) => decide (s.performs sp 0x312 w = true ∧ s.waitMatch sp w = none ∧ (s.spin sp).getG (wGB w) = 0)) 96 ((cw 0x312 (5 * 2 ^ 30 + 6 * 2 ^ 35 + 7 * 2 ^ 40 + 4 * 2 ^ 45))) ((stW (cw 0x312 (5 * 2 ^ 30 + 6 * 2 ^ 35 + 7 * 2 ^ 40 + 4 * 2 ^ 45)))) &&
    (fun (sp : Nat) (w : W256) (s : State) => decide (s.performs sp 0x312 w = true ∧ s.waitMatch sp w = none ∧ (s.spin sp).getG (wGB w) ≠ 0)) 96 ((cw 0x312 (5 * 2 ^ 30 + 6 * 2 ^ 35 + 7 * 2 ^ 40 + 4 * 2 ^ 45))) ((stW (cw 0x312 (5 * 2 ^ 30 + 6 * 2 ^ 35 + 7 * 2 ^ 40 + 4 * 2 ^ 45))).updSpin 96 fun x => x.setG 6 1000) &&
    (fun (sp : Nat) (w : W256) (s : State) => decide (s.performs sp 0x320 w = true ∧ s.spFlag fSPN_STAT_IN_HANDLER sp = true)) 96 ((cw 0x320 (2 ^ 49))) ((stW (cw 0x320 (2 ^ 49))).setSpFld fSPN_STAT_IN_HANDLER 96 1) &&
    (fun (sp : Nat) (w : W256) (s : State) => decide (s.performs sp 0x321 w = true)) 96 ((cw 0x321 (99 * 2 ^ 64))) ((stW (cw 0x321 (99 * 2 ^ 64)))) &&
    (fun (sp : Nat) (w : W256) (s : State) => decide (s.performs sp 0x322 w = true ∧ s.unitEntry sp = none)) 96 ((cw 0x322 (5 * 2 ^ 30))) ((stW (cw 0x322 (5 * 2 ^ 30)))) &&
    (fun (sp : Nat) (w : W256) (s : State) => decide (s.performs sp 0x323 w = true)) 96 ((cw 0x323 (5 * 2 ^ 30))) ((stW (cw 0x323 (5 * 2 ^ 30)))) &&
    (fun (sp : Nat) (i : Nat) (w : W256) (s : State) => decide (s.performs sp 0x322 w = true ∧ s.unitEntry sp = some i ∧ s.wfld fWD_EP_ENT0_STATE i = 1)) 96 0 ((cw 0x322 (5 * 2 ^ 30))) ((((stW (cw 0x322 (5 * 2 ^ 30))).setWfld fWD_EP_ENT0_SPINDLE 0 96).setWfld fWD_EP_ENT0_STATE 0 1))) = true := by
  decide +kernel

/-- For each clause, a state and operands that meet its hypotheses. -/
theorem wit_ElementwiseWordsComplete_0 :
    ((fun (sp : Nat) (w : W256) (s : State) => decide (s.performs sp 0x110 w = true ∧ s.tileClear sp w = true)) 96 ((tw 0x110 3 1 2 0 0 (shapeOf 0 1 2) (shapeOf 0 1 2) (shapeOf 0 1 2))) ((stW (tw 0x110 3 1 2 0 0 (shapeOf 0 1 2) (shapeOf 0 1 2) (shapeOf 0 1 2)))) &&
    (fun (sp : Nat) (w : W256) (s : State) => decide (s.performs sp 0x111 w = true ∧ s.tileClear sp w = true)) 96 ((tw 0x111 3 1 2 0 0 (shapeOf 0 1 2) (shapeOf 0 1 2) (shapeOf 0 1 2))) ((stW (tw 0x111 3 1 2 0 0 (shapeOf 0 1 2) (shapeOf 0 1 2) (shapeOf 0 1 2)))) &&
    (fun (sp : Nat) (w : W256) (s : State) => decide (s.performs sp 0x112 w = true ∧ s.tileClear sp w = true)) 96 ((tw 0x112 3 1 2 0 0 (shapeOf 0 1 2) (shapeOf 0 1 2) (shapeOf 0 1 2))) ((stW (tw 0x112 3 1 2 0 0 (shapeOf 0 1 2) (shapeOf 0 1 2) (shapeOf 0 1 2)))) &&
    (fun (sp : Nat) (w : W256) (s : State) => decide (s.performs sp 0x113 w = true ∧ s.tileClear sp w = true ∧ s.divZero sp opDiv tBin w = none)) 96 ((tw 0x113 3 1 2 0 0 (shapeOf 0 1 2) (shapeOf 0 1 2) (shapeOf 0 1 2))) ((stW (tw 0x113 3 1 2 0 0 (shapeOf 0 1 2) (shapeOf 0 1 2) (shapeOf 0 1 2)))) &&
    (fun (sp : Nat) (w : W256) (s : State) => decide (s.performs sp 0x114 w = true ∧ s.tileClear sp w = true)) 96 ((tw 0x114 3 1 2 3 0 (shapeOf 0 1 2) (shapeOf 0 1 2) (shapeOf 0 1 2))) ((stW (tw 0x114 3 1 2 3 0 (shapeOf 0 1 2) (shapeOf 0 1 2) (shapeOf 0 1 2)))) &&
    (fun (sp : Nat) (w : W256) (s : State) => decide (s.performs sp 0x115 w = true ∧ s.tileClear sp w = true)) 96 ((tw 0x115 3 1 2 0 0 (shapeOf 0 1 2) (shapeOf 0 1 2) (shapeOf 0 1 2))) ((stW (tw 0x115 3 1 2 0 0 (shapeOf 0 1 2) (shapeOf 0 1 2) (shapeOf 0 1 2)))) &&
    (fun (sp : Nat) (w : W256) (s : State) => decide (s.performs sp 0x116 w = true ∧ s.tileClear sp w = true)) 96 ((tw 0x116 3 1 2 0 0 (shapeOf 0 1 2) (shapeOf 0 1 2) (shapeOf 0 1 2))) ((stW (tw 0x116 3 1 2 0 0 (shapeOf 0 1 2) (shapeOf 0 1 2) (shapeOf 0 1 2)))) &&
    (fun (sp : Nat) (w : W256) (s : State) => decide (s.performs sp 0x117 w = true ∧ s.tileClear sp w = true)) 96 ((tw 0x117 4 1 0 0 0 (shapeOf 0 1 2) 0 (shapeOf 0 1 2))) ((stW (tw 0x117 4 1 0 0 0 (shapeOf 0 1 2) 0 (shapeOf 0 1 2)))) &&
    (fun (sp : Nat) (w : W256) (s : State) => decide (s.performs sp 0x118 w = true ∧ s.tileClear sp w = true)) 96 ((tw 0x118 4 1 0 0 43980465111040 (shapeOf 0 1 2) 0 (shapeOf 0 1 2))) ((stW (tw 0x118 4 1 0 0 43980465111040 (shapeOf 0 1 2) 0 (shapeOf 0 1 2)))) &&
    (fun (sp : Nat) (w : W256) (s : State) => decide (s.performs sp 0x119 w = true ∧ s.tileClear sp w = true)) 96 ((tw 0x119 4 1 0 0 43980465111040 (shapeOf 0 1 2) 0 (shapeOf 0 1 2))) ((stW (tw 0x119 4 1 0 0 43980465111040 (shapeOf 0 1 2) 0 (shapeOf 0 1 2))))) = true := by
  decide +kernel

/-- For each clause, a state and operands that meet its hypotheses. -/
theorem wit_ElementwiseWordsComplete_1 :
    ((fun (sp : Nat) (w : W256) (s : State) => decide (s.performs sp 0x11A w = true ∧ s.tileClear sp w = true)) 96 ((tw 0x11A 4 1 0 0 18428729675200069632 (shapeOf 0 1 2) 0 (shapeOf 0 1 2))) ((stW (tw 0x11A 4 1 0 0 18428729675200069632 (shapeOf 0 1 2) 0 (shapeOf 0 1 2)))) &&
    (fun (sp : Nat) (w : W256) (s : State) => decide (s.performs sp 0x120 w = true ∧ s.tileClear sp w = true)) 96 ((tw 0x120 4 1 0 0 0 (shapeOf 0 1 2) 0 (shapeOf 0 1 2))) ((stW (tw 0x120 4 1 0 0 0 (shapeOf 0 1 2) 0 (shapeOf 0 1 2)))) &&
    (fun (sp : Nat) (w : W256) (s : State) => decide (s.performs sp 0x121 w = true ∧ s.tileClear sp w = true)) 96 ((tw 0x121 4 1 0 0 0 (shapeOf 0 1 2) 0 (shapeOf 0 1 2))) ((stW (tw 0x121 4 1 0 0 0 (shapeOf 0 1 2) 0 (shapeOf 0 1 2)))) &&
    (fun (sp : Nat) (w : W256) (s : State) => decide (s.performs sp 0x122 w = true ∧ s.tileClear sp w = true)) 96 ((tw 0x122 4 1 0 0 0 (shapeOf 0 1 2) 0 (shapeOf 0 1 2))) ((stW (tw 0x122 4 1 0 0 0 (shapeOf 0 1 2) 0 (shapeOf 0 1 2)))) &&
    (fun (sp : Nat) (w : W256) (s : State) => decide (s.performs sp 0x123 w = true ∧ s.tileClear sp w = true)) 96 ((tw 0x123 4 1 0 0 0 (shapeOf 0 1 2) 0 (shapeOf 0 1 2))) ((stW (tw 0x123 4 1 0 0 0 (shapeOf 0 1 2) 0 (shapeOf 0 1 2)))) &&
    (fun (sp : Nat) (w : W256) (s : State) => decide (s.performs sp 0x124 w = true ∧ s.tileClear sp w = true)) 96 ((tw 0x124 4 1 0 0 0 (shapeOf 0 1 2) 0 (shapeOf 0 1 2))) ((stW (tw 0x124 4 1 0 0 0 (shapeOf 0 1 2) 0 (shapeOf 0 1 2)))) &&
    (fun (sp : Nat) (w : W256) (s : State) => decide (s.performs sp 0x125 w = true ∧ s.tileClear sp w = true)) 96 ((tw 0x125 4 1 0 0 0 (shapeOf 0 1 2) 0 (shapeOf 0 1 2))) ((stW (tw 0x125 4 1 0 0 0 (shapeOf 0 1 2) 0 (shapeOf 0 1 2)))) &&
    (fun (sp : Nat) (w : W256) (s : State) => decide (s.performs sp 0x127 w = true ∧ s.tileClear sp w = true)) 96 ((tw 0x127 4 1 0 0 0 (shapeOf 0 1 2) 0 (shapeOf 0 1 2))) ((stW (tw 0x127 4 1 0 0 0 (shapeOf 0 1 2) 0 (shapeOf 0 1 2)))) &&
    (fun (sp : Nat) (w : W256) (s : State) => decide (s.performs sp 0x126 w = true ∧ s.tileClear sp w = true)) 96 ((tw 0x126 4 1 0 0 0 (shapeOf 0 1 2) 0 (shapeOf 0 1 2))) ((stW (tw 0x126 4 1 0 0 0 (shapeOf 0 1 2) 0 (shapeOf 0 1 2)))) &&
    (fun (sp : Nat) (w : W256) (s : State) => decide (s.performs sp 0x128 w = true ∧ s.tileClear sp w = true ∧ s.divZero sp opRecip tUn w = none)) 96 ((tw 0x128 4 1 0 0 0 (shapeOf 0 1 2) 0 (shapeOf 0 1 2))) ((stW (tw 0x128 4 1 0 0 0 (shapeOf 0 1 2) 0 (shapeOf 0 1 2))))) = true := by
  decide +kernel

/-- For each clause, a state and operands that meet its hypotheses. -/
theorem wit_ElementwiseWordsComplete_2 :
    ((fun (sp : Nat) (w : W256) (s : State) => decide (s.performs sp 0x129 w = true ∧ s.tileClear sp w = true)) 96 ((tw 0x129 3 1 2 0 0 (shapeOf 0 1 2) (shapeOf 0 1 2) (shapeOf 0 1 2))) ((stW (tw 0x129 3 1 2 0 0 (shapeOf 0 1 2) (shapeOf 0 1 2) (shapeOf 0 1 2)))) &&
    (fun (sp : Nat) (w : W256) (s : State) => decide (s.performs sp 0x12A w = true ∧ s.tileClear sp w = true)) 96 ((tw 0x12A 3 1 2 0 0 (shapeOf 0 1 2) (shapeOf 0 1 2) (shapeOf 0 1 2))) ((stW (tw 0x12A 3 1 2 0 0 (shapeOf 0 1 2) (shapeOf 0 1 2) (shapeOf 0 1 2)))) &&
    (fun (sp : Nat) (w : W256) (s : State) => decide (s.performs sp 0x12B w = true ∧ s.tileClear sp w = true)) 96 ((tw 0x12B 3 1 2 3 0 (shapeOf 0 1 2) (shapeOf 0 1 2) (shapeOf 0 1 2))) ((stW (tw 0x12B 3 1 2 3 0 (shapeOf 0 1 2) (shapeOf 0 1 2) (shapeOf 0 1 2)))) &&
    (fun (sp : Nat) (w : W256) (x : Nat × Nat) (s : State) => decide (s.performs sp 0x113 w = true ∧ s.tileClear sp w = true ∧ tileEmpty w = false ∧ s.divZero sp opDiv tBin w = some x)) 96 ((tw 0x113 3 1 3 0 0 (shapeOf 0 1 2) (shapeOf 0 1 2) (shapeOf 0 1 2))) (0, 1) ((stW (tw 0x113 3 1 3 0 0 (shapeOf 0 1 2) (shapeOf 0 1 2) (shapeOf 0 1 2)))) &&
    (fun (sp : Nat) (w : W256) (x : Nat × Nat) (s : State) => decide (s.performs sp 0x128 w = true ∧ s.tileClear sp w = true ∧ tileEmpty w = false ∧ s.divZero sp opRecip tUn w = some x)) 96 ((tw 0x128 4 3 0 0 0 (shapeOf 0 1 2) 0 (shapeOf 0 1 2))) (0, 1) ((stW (tw 0x128 4 3 0 0 0 (shapeOf 0 1 2) 0 (shapeOf 0 1 2))))) = true := by
  decide +kernel

/-- For each clause, a state and operands that meet its hypotheses. -/
theorem wit_AccumulateAndReadOutWordsComplete :
    ((fun (sp : Nat) (w : W256) (s : State) => decide (s.performs sp 0x100 w = true ∧ s.tileClear sp w = true ∧ (s.stepsHold sp w (fun _ _ x i j => x.products w false i j) = true))) 96 ((tw 0x100 8 1 2 0 0 (shapeOf 0 1 2) (shapeOf 0 1 2) (lanesOf 1 1))) ((stW (tw 0x100 8 1 2 0 0 (shapeOf 0 1 2) (shapeOf 0 1 2) (lanesOf 1 1)))) &&
    (fun (sp : Nat) (w : W256) (s : State) => decide (s.performs sp 0x101 w = true ∧ s.tileClear sp w = true ∧ (s.stepsHold sp w (fun _ _ x i j => x.products w true i j) = true))) 96 ((tw 0x101 8 1 2 0 2199023255552 (shapeOf 0 1 2) (shapeOf 0 1 2) (lanesOf 1 1))) ((stW (tw 0x101 8 1 2 0 2199023255552 (shapeOf 0 1 2) (shapeOf 0 1 2) (lanesOf 1 1)))) &&
    (fun (sp : Nat) (w : W256) (s : State) => decide (s.performs sp 0x102 w = true ∧ s.tileClear sp w = true ∧ (s.stepsHold sp w (fun _ m x i j => if m * (shapeAt w 64).elems ≤ j ∧ j < (m + 1) * (shapeAt w 64).elems then [x.aVal w i (j - m * (shapeAt w 64).elems)] else []) = true))) 96 ((tw 0x102 8 1 0 0 0 (shapeOf 0 1 2) 0 (lanesOf 1 2))) ((stW (tw 0x102 8 1 0 0 0 (shapeOf 0 1 2) 0 (lanesOf 1 2)))) &&
    (fun (sp : Nat) (w : W256) (s : State) => decide (s.performs sp 0x102 w = true ∧ s.tileClear sp w = true ∧ (s.stepsHold sp w (fun _ m x i j => if m * (shapeAt w 64).elems ≤ j ∧ j < (m + 1) * (shapeAt w 64).elems then [x.aVal w i (j - m * (shapeAt w 64).elems)] else []) = true) ∧ s.inRealPly sp = true)) 96 ((tw 0x102 8 1 0 0 2199023255552 (shapeOf 0 1 2) 0 (lanesOf 1 4))) ((stWp (tw 0x102 8 1 0 0 2199023255552 (shapeOf 0 1 2) 0 (lanesOf 1 4)))) &&
    (fun (sp : Nat) (w : W256) (s : State) => decide (s.performs sp 0x103 w = true ∧ s.tileClear sp w = true)) 96 ((tw 0x103 8 0 0 0 0 0 0 (lanesOf 1 2))) ((stW (tw 0x103 8 0 0 0 0 0 0 (lanesOf 1 2)))) &&
    (fun (sp : Nat) (w : W256) (s : State) => decide (s.performs sp 0x104 w = true ∧ s.tileClear sp w = true ∧ s.lanesHold sp w = true)) 96 ((tw 0x104 3 8 0 0 0 (lanesOf 1 2) 0 (shapeOf 0 1 2))) ((stW (tw 0x104 3 8 0 0 0 (lanesOf 1 2) 0 (shapeOf 0 1 2))).updSpin 96 laneSpin) &&
    (fun (sp : Nat) (w : W256) (s : State) => decide (s.performs sp 0x105 w = true ∧ s.tileClear sp w = true ∧ s.lanesHold sp w = true)) 96 ((tw 0x105 3 8 0 0 0 (lanesOf 1 2) 0 (shapeOf 0 1 2))) ((stW (tw 0x105 3 8 0 0 0 (lanesOf 1 2) 0 (shapeOf 0 1 2))).updSpin 96 laneSpin) &&
    (fun (sp : Nat) (w : W256) (s : State) => decide (s.performs sp 0x106 w = true ∧ s.tileClear sp w = true)) 96 ((tw 0x106 0 8 0 0 43980465111040 (lanesOf 1 2) 0 0)) ((stW (tw 0x106 0 8 0 0 43980465111040 (lanesOf 1 2) 0 0)).updSpin 96 laneSpin) &&
    (fun (sp : Nat) (w : W256) (s : State) => decide (s.performs sp 0x104 w = true ∧ s.tileClear sp w = true ∧ tileEmpty w = false ∧ s.groups sp (wScope w) = [⟨1, [(0, sp)]⟩] ∧ ((s.spin sp).lanesOk (wA w - 8) (mshapeAt w 64) (fun _ _ => true) = false) ∧ s.inRealPly sp = false ∧ s.countsOnly 0x01 (s.spUnit sp) = true)) 96 ((tw 0x104 3 8 0 0 0 (lanesOf 1 2) 0 (shapeOf 0 1 2))) ((((stW (tw 0x104 3 8 0 0 0 (lanesOf 1 2) 0 (shapeOf 0 1 2))).updSpin 96 laneSpin).updSpin 96 badSpin))) = true := by
  decide +kernel

/-- For each clause, a state and operands that meet its hypotheses. -/
theorem wit_MoveAndConvertWordsComplete :
    ((fun (sp : Nat) (w : W256) (s : State) => decide (s.performs sp 0x130 w = true ∧ s.tileClear sp w = true)) 96 ((tw 0x130 3 1 0 0 0 (shapeOf 0 1 2) 0 (shapeOf 0 1 2))) ((stW (tw 0x130 3 1 0 0 0 (shapeOf 0 1 2) 0 (shapeOf 0 1 2)))) &&
    (fun (sp : Nat) (w : W256) (s : State) => decide (s.performs sp 0x134 w = true ∧ s.tileClear sp w = true)) 96 ((tw 0x134 3 1 0 0 0 (shapeOf 0 1 2) 0 (shapeOf 0 2 2))) ((stW (tw 0x134 3 1 0 0 0 (shapeOf 0 1 2) 0 (shapeOf 0 2 2)))) &&
    (fun (sp : Nat) (w : W256) (s : State) => decide (s.performs sp 0x137 w = true ∧ s.tileClear sp w = true)) 96 ((tw 0x137 3 0 0 0 0 0 0 (shapeOf 0 1 2))) ((stW (tw 0x137 3 0 0 0 0 0 0 (shapeOf 0 1 2)))) &&
    (fun (sp : Nat) (w : W256) (s : State) => decide (s.performs sp 0x133 w = true ∧ s.tileClear sp w = true)) 96 ((tw 0x133 3 0 0 0 43980465111040 0 0 (shapeOf 0 1 2))) ((stW (tw 0x133 3 0 0 0 43980465111040 0 0 (shapeOf 0 1 2)))) &&
    (fun (sp : Nat) (w : W256) (s : State) => decide (s.performs sp 0x136 w = true ∧ s.tileClear sp w = true)) 96 ((tw 0x136 3 0 0 0 43980465111040 0 0 (shapeOf 0 1 1))) ((stW (tw 0x136 3 0 0 0 43980465111040 0 0 (shapeOf 0 1 1)))) &&
    (fun (sp : Nat) (w : W256) (s : State) => decide (s.performs sp 0x135 w = true ∧ s.tileClear sp w = true)) 96 ((tw 0x135 0 1 0 0 43980465111040 (shapeOf 0 1 1) 0 0)) ((stW (tw 0x135 0 1 0 0 43980465111040 (shapeOf 0 1 1) 0 0))) &&
    (fun (sp : Nat) (w : W256) (s : State) => decide (s.performs sp 0x132 w = true ∧ s.tileClear sp w = true ∧ (((s.spin sp).fmtD (wFD w)).block = 0 ∨ wC w = 0) ∧ ((s.mates sp).all (fun x => (s.spin x.2).fmtD (wFD w) == (s.spin sp).fmtD (wFD w)) = true))) 96 ((tw 0x132 3 1 0 0 0 (shapeOf 0 1 2) 0 (shapeOf 0 1 2))) ((stW (tw 0x132 3 1 0 0 0 (shapeOf 0 1 2) 0 (shapeOf 0 1 2)))) &&
    (fun (sp : Nat) (w : W256) (s : State) => decide (s.performs sp 0x132 w = true ∧ s.tileClear sp w = true)) 96 ((tw 0x132 3 1 0 4 68719476736 (shapeOf 0 1 32) 0 (shapeOf 0 1 32))) ((stW (tw 0x132 3 1 0 4 68719476736 (shapeOf 0 1 32) 0 (shapeOf 0 1 32))).updSpin 96 fun x => x.setF 1 (BitVec.ofNat 32 (5 + 5 * 16))) &&
    (fun (sp : Nat) (w : W256) (s : State) => decide (s.performs sp 0x131 w = true ∧ s.tileClear sp w = true ∧ tileEmpty w = false)) 96 ((tw 0x131 3 1 0 0 0 (shapeOf 0 1 2) 0 (shapeOf 0 2 1))) ((stW (tw 0x131 3 1 0 0 0 (shapeOf 0 1 2) 0 (shapeOf 0 2 1))))) = true := by
  decide +kernel

/-- For each clause, a state and operands that meet its hypotheses. -/
theorem wit_ScalarWordsComplete_0 :
    ((fun (sp : Nat) (w : W256) (s : State) => decide (s.performs sp 0 w = true ∧ (s.slotsDone sp w).isSome = true)) 96 (sw [slotR 0x10, slotR 0x11, slotR 0x20]) ((stS (sw [slotR 0x10, slotR 0x11, slotR 0x20]))) &&
    (fun (sp : Nat) (x : Nat) (w : W256) (s : State) => decide (s.performs sp 0 w = true ∧ sCount w = 1 ∧ slotOf w 1 = x ∧ lSOP x = 0x10)) 96 (slotR 0x10) ((sw [(slotR 0x10)])) ((stS (sw [(slotR 0x10)]))) &&
    (fun (sp : Nat) (x : Nat) (w : W256) (s : State) => decide (s.performs sp 0 w = true ∧ sCount w = 1 ∧ slotOf w 1 = x ∧ lSOP x = 0x11)) 96 (slotR 0x11) ((sw [(slotR 0x11)])) ((stS (sw [(slotR 0x11)]))) &&
    (fun (sp : Nat) (x : Nat) (w : W256) (s : State) => decide (s.performs sp 0 w = true ∧ sCount w = 1 ∧ slotOf w 1 = x ∧ lSOP x = 0x13)) 96 (slotR 0x13) ((sw [(slotR 0x13)])) ((stS (sw [(slotR 0x13)]))) &&
    (fun (sp : Nat) (x : Nat) (w : W256) (s : State) => decide (s.performs sp 0 w = true ∧ sCount w = 1 ∧ slotOf w 1 = x ∧ lSOP x = 0x14)) 96 (slotR 0x14) ((sw [(slotR 0x14)])) ((stS (sw [(slotR 0x14)]))) &&
    (fun (sp : Nat) (x : Nat) (w : W256) (s : State) => decide (s.performs sp 0 w = true ∧ sCount w = 1 ∧ slotOf w 1 = x ∧ lSOP x = 0x19)) 96 (slotR 0x19) ((sw [(slotR 0x19)])) ((stS (sw [(slotR 0x19)]))) &&
    (fun (sp : Nat) (x : Nat) (w : W256) (s : State) => decide (s.performs sp 0 w = true ∧ sCount w = 1 ∧ slotOf w 1 = x ∧ lSOP x = 0x1A)) 96 (slotR 0x1A) ((sw [(slotR 0x1A)])) ((stS (sw [(slotR 0x1A)]))) &&
    (fun (sp : Nat) (x : Nat) (w : W256) (s : State) => decide (s.performs sp 0 w = true ∧ sCount w = 1 ∧ slotOf w 1 = x ∧ lSOP x = 0x20)) 96 (slotR 0x20) ((sw [(slotR 0x20)])) ((stS (sw [(slotR 0x20)]))) &&
    (fun (sp : Nat) (x : Nat) (w : W256) (s : State) => decide (s.performs sp 0 w = true ∧ sCount w = 1 ∧ slotOf w 1 = x ∧ lSOP x = 0x21)) 96 (slotR 0x21) ((sw [(slotR 0x21)])) ((stS (sw [(slotR 0x21)]))) &&
    (fun (sp : Nat) (x : Nat) (w : W256) (s : State) => decide (s.performs sp 0 w = true ∧ sCount w = 1 ∧ slotOf w 1 = x ∧ lSOP x = 0x22)) 96 (slotR 0x22) ((sw [(slotR 0x22)])) ((stS (sw [(slotR 0x22)])))) = true := by
  decide +kernel

/-- For each clause, a state and operands that meet its hypotheses. -/
theorem wit_ScalarWordsComplete_1 :
    ((fun (sp : Nat) (x : Nat) (w : W256) (s : State) => decide (s.performs sp 0 w = true ∧ sCount w = 1 ∧ slotOf w 1 = x ∧ lSOP x = 0x26)) 96 (slotR 0x26) ((sw [(slotR 0x26)])) ((stS (sw [(slotR 0x26)]))) &&
    (fun (sp : Nat) (x : Nat) (w : W256) (s : State) => decide (s.performs sp 0 w = true ∧ sCount w = 1 ∧ slotOf w 1 = x ∧ lSOP x = 0x27)) 96 (slotR 0x27) ((sw [(slotR 0x27)])) ((stS (sw [(slotR 0x27)]))) &&
    (fun (sp : Nat) (x : Nat) (w : W256) (s : State) => decide (s.performs sp 0 w = true ∧ sCount w = 1 ∧ slotOf w 1 = x ∧ lSOP x = 0x28)) 96 (slotR 0x28) ((sw [(slotR 0x28)])) ((stS (sw [(slotR 0x28)]))) &&
    (fun (sp : Nat) (x : Nat) (w : W256) (s : State) => decide (s.performs sp 0 w = true ∧ sCount w = 1 ∧ slotOf w 1 = x ∧ lSOP x = 0x15 ∧ ((s.spin sp).getG (lRS2 x)) ≠ 0)) 96 (slotR 0x15) ((sw [(slotR 0x15)])) ((stS (sw [(slotR 0x15)]))) &&
    (fun (sp : Nat) (x : Nat) (w : W256) (s : State) => decide (s.performs sp 0 w = true ∧ sCount w = 1 ∧ slotOf w 1 = x ∧ lSOP x = 0x16 ∧ ((s.spin sp).getG (lRS2 x)) ≠ 0)) 96 (slotR 0x16) ((sw [(slotR 0x16)])) ((stS (sw [(slotR 0x16)]))) &&
    (fun (sp : Nat) (x : Nat) (w : W256) (s : State) => decide (s.performs sp 0 w = true ∧ sCount w = 1 ∧ slotOf w 1 = x ∧ lSOP x = 0x17 ∧ ((s.spin sp).getG (lRS2 x)) ≠ 0)) 96 (slotR 0x17) ((sw [(slotR 0x17)])) ((stS (sw [(slotR 0x17)]))) &&
    (fun (sp : Nat) (x : Nat) (w : W256) (s : State) => decide (s.performs sp 0 w = true ∧ sCount w = 1 ∧ slotOf w 1 = x ∧ lSOP x = 0x18 ∧ ((s.spin sp).getG (lRS2 x)) ≠ 0)) 96 (slotR 0x18) ((sw [(slotR 0x18)])) ((stS (sw [(slotR 0x18)]))) &&
    (fun (sp : Nat) (x : Nat) (w : W256) (s : State) => decide (s.performs sp 0 w = true ∧ sCount w = 1 ∧ slotOf w 1 = x ∧ lSOP x = 0x15 ∧ ((s.spin sp).getG (lRS2 x)) = 0)) 96 (slotR 0x15 - 6 * 2 ^ 9) ((sw [(slotR 0x15 - 6 * 2 ^ 9)])) ((stS (sw [(slotR 0x15 - 6 * 2 ^ 9)]))) &&
    (fun (sp : Nat) (x : Nat) (w : W256) (s : State) => decide (s.performs sp 0 w = true ∧ sCount w = 1 ∧ slotOf w 1 = x ∧ lSOP x = 0x12)) 96 (0x12 * 2 ^ 24 + 7 * 2 ^ 19 + 5 * 2 ^ 14 + 16380) ((sw [(0x12 * 2 ^ 24 + 7 * 2 ^ 19 + 5 * 2 ^ 14 + 16380)])) ((stS (sw [(0x12 * 2 ^ 24 + 7 * 2 ^ 19 + 5 * 2 ^ 14 + 16380)]))) &&
    (fun (sp : Nat) (x : Nat) (w : W256) (s : State) => decide (s.performs sp 0 w = true ∧ sCount w = 1 ∧ slotOf w 1 = x ∧ lSOP x = 0x23)) 96 (0x23 * 2 ^ 24 + 7 * 2 ^ 19 + 5 * 2 ^ 14 + 16380) ((sw [(0x23 * 2 ^ 24 + 7 * 2 ^ 19 + 5 * 2 ^ 14 + 16380)])) ((stS (sw [(0x23 * 2 ^ 24 + 7 * 2 ^ 19 + 5 * 2 ^ 14 + 16380)])))) = true := by
  decide +kernel

/-- For each clause, a state and operands that meet its hypotheses. -/
theorem wit_ScalarWordsComplete_2 :
    ((fun (sp : Nat) (x : Nat) (w : W256) (s : State) => decide (s.performs sp 0 w = true ∧ sCount w = 1 ∧ slotOf w 1 = x ∧ lSOP x = 0x24)) 96 (0x24 * 2 ^ 24 + 7 * 2 ^ 19 + 5 * 2 ^ 14 + 12) ((sw [(0x24 * 2 ^ 24 + 7 * 2 ^ 19 + 5 * 2 ^ 14 + 12)])) ((stS (sw [(0x24 * 2 ^ 24 + 7 * 2 ^ 19 + 5 * 2 ^ 14 + 12)]))) &&
    (fun (sp : Nat) (x : Nat) (w : W256) (s : State) => decide (s.performs sp 0 w = true ∧ sCount w = 1 ∧ slotOf w 1 = x ∧ lSOP x = 0x25)) 96 (0x25 * 2 ^ 24 + 7 * 2 ^ 19 + 5 * 2 ^ 14 + 16380) ((sw [(0x25 * 2 ^ 24 + 7 * 2 ^ 19 + 5 * 2 ^ 14 + 16380)])) ((stS (sw [(0x25 * 2 ^ 24 + 7 * 2 ^ 19 + 5 * 2 ^ 14 + 16380)]))) &&
    (fun (sp : Nat) (x : Nat) (w : W256) (s : State) => decide (s.performs sp 0 w = true ∧ sCount w = 1 ∧ slotOf w 1 = x ∧ lSOP x = 0x29)) 96 (0x29 * 2 ^ 24 + 7 * 2 ^ 19 + 5 * 2 ^ 14 + 9) ((sw [(0x29 * 2 ^ 24 + 7 * 2 ^ 19 + 5 * 2 ^ 14 + 9)])) ((stS (sw [(0x29 * 2 ^ 24 + 7 * 2 ^ 19 + 5 * 2 ^ 14 + 9)]))) &&
    (fun (sp : Nat) (x : Nat) (w : W256) (s : State) => decide (s.performs sp 0 w = true ∧ sCount w = 1 ∧ slotOf w 1 = x ∧ lSOP x = 0x2A)) 96 (0x2A * 2 ^ 24 + 7 * 2 ^ 19 + 5 * 2 ^ 14 + 9) ((sw [(0x2A * 2 ^ 24 + 7 * 2 ^ 19 + 5 * 2 ^ 14 + 9)])) ((stS (sw [(0x2A * 2 ^ 24 + 7 * 2 ^ 19 + 5 * 2 ^ 14 + 9)]))) &&
    (fun (sp : Nat) (x : Nat) (w : W256) (s : State) => decide (s.performs sp 0 w = true ∧ sCount w = 1 ∧ slotOf w 1 = x ∧ lSOP x = 0x2B)) 96 (0x2B * 2 ^ 24 + 7 * 2 ^ 19 + 5 * 2 ^ 14 + 9) ((sw [(0x2B * 2 ^ 24 + 7 * 2 ^ 19 + 5 * 2 ^ 14 + 9)])) ((stS (sw [(0x2B * 2 ^ 24 + 7 * 2 ^ 19 + 5 * 2 ^ 14 + 9)]))) &&
    (fun (sp : Nat) (x : Nat) (w : W256) (s : State) => decide (s.performs sp 0 w = true ∧ sCount w = 1 ∧ slotOf w 1 = x ∧ lSOP x = 0x2C)) 96 (0x2C * 2 ^ 24 + 7 * 2 ^ 19 + 5 * 2 ^ 14 + 0) ((sw [(0x2C * 2 ^ 24 + 7 * 2 ^ 19 + 5 * 2 ^ 14 + 0)])) ((stS (sw [(0x2C * 2 ^ 24 + 7 * 2 ^ 19 + 5 * 2 ^ 14 + 0)]))) &&
    (fun (sp : Nat) (x : Nat) (w : W256) (s : State) => decide (s.performs sp 0 w = true ∧ sCount w = 1 ∧ slotOf w 1 = x ∧ lSOP x = 0x2D)) 96 (0x2D * 2 ^ 24 + 7 * 2 ^ 19 + 5 * 2 ^ 14 + 0) ((sw [(0x2D * 2 ^ 24 + 7 * 2 ^ 19 + 5 * 2 ^ 14 + 0)])) ((stS (sw [(0x2D * 2 ^ 24 + 7 * 2 ^ 19 + 5 * 2 ^ 14 + 0)]))) &&
    (fun (sp : Nat) (x : Nat) (w : W256) (s : State) => decide (s.performs sp 0 w = true ∧ sCount w = 1 ∧ slotOf w 1 = x ∧ lSOP x = 0x2E)) 96 (0x2E * 2 ^ 24 + 7 * 2 ^ 19 + 5 * 2 ^ 14 + 0) ((sw [(0x2E * 2 ^ 24 + 7 * 2 ^ 19 + 5 * 2 ^ 14 + 0)])) ((stS (sw [(0x2E * 2 ^ 24 + 7 * 2 ^ 19 + 5 * 2 ^ 14 + 0)]))) &&
    (fun (sp : Nat) (x : Nat) (w : W256) (s : State) => decide (s.performs sp 0 w = true ∧ sCount w = 1 ∧ slotOf w 1 = x ∧ lSOP x = 0x1B)) 96 (0x1B * 2 ^ 24 + 7 * 2 ^ 19 + 2 * 2 ^ 16 + 0x1234) ((sw [(0x1B * 2 ^ 24 + 7 * 2 ^ 19 + 2 * 2 ^ 16 + 0x1234)])) ((stS (sw [(0x1B * 2 ^ 24 + 7 * 2 ^ 19 + 2 * 2 ^ 16 + 0x1234)]))) &&
    (fun (sp : Nat) (x : Nat) (w : W256) (s : State) => decide (s.performs sp 0 w = true ∧ sCount w = 1 ∧ slotOf w 1 = x ∧ lSOP x = 0x1C)) 96 (0x1C * 2 ^ 24 + 5 * 2 ^ 19 + 2 * 2 ^ 16 + 0x1234) ((sw [(0x1C * 2 ^ 24 + 5 * 2 ^ 19 + 2 * 2 ^ 16 + 0x1234)])) ((stS (sw [(0x1C * 2 ^ 24 + 5 * 2 ^ 19 + 2 * 2 ^ 16 + 0x1234)])))) = true := by
  decide +kernel

/-- For each clause, a state and operands that meet its hypotheses. -/
theorem wit_ScalarWordsComplete_3 :
    ((fun (sp : Nat) (x : Nat) (w : W256) (s : State) => decide (s.performs sp 0 w = true ∧ sCount w = 1 ∧ slotOf w 1 = x ∧ lSOP x = 0x30)) 96 (0x30 * 2 ^ 24 + 4 * 2 ^ 20 + 5 * 2 ^ 14 + 6 * 2 ^ 9) ((sw [(0x30 * 2 ^ 24 + 4 * 2 ^ 20 + 5 * 2 ^ 14 + 6 * 2 ^ 9)])) ((stS (sw [(0x30 * 2 ^ 24 + 4 * 2 ^ 20 + 5 * 2 ^ 14 + 6 * 2 ^ 9)]))) &&
    (fun (sp : Nat) (x : Nat) (w : W256) (s : State) => decide (s.performs sp 0 w = true ∧ sCount w = 1 ∧ slotOf w 1 = x ∧ lSOP x = 0x31)) 96 (0x31 * 2 ^ 24 + 4 * 2 ^ 20 + 5 * 2 ^ 14 + 6 * 2 ^ 9) ((sw [(0x31 * 2 ^ 24 + 4 * 2 ^ 20 + 5 * 2 ^ 14 + 6 * 2 ^ 9)])) ((stS (sw [(0x31 * 2 ^ 24 + 4 * 2 ^ 20 + 5 * 2 ^ 14 + 6 * 2 ^ 9)]))) &&
    (fun (sp : Nat) (x : Nat) (w : W256) (s : State) => decide (s.performs sp 0 w = true ∧ sCount w = 1 ∧ slotOf w 1 = x ∧ lSOP x = 0x32)) 96 (0x32 * 2 ^ 24 + 4 * 2 ^ 20 + 5 * 2 ^ 14 + 6 * 2 ^ 9) ((sw [(0x32 * 2 ^ 24 + 4 * 2 ^ 20 + 5 * 2 ^ 14 + 6 * 2 ^ 9)])) ((stS (sw [(0x32 * 2 ^ 24 + 4 * 2 ^ 20 + 5 * 2 ^ 14 + 6 * 2 ^ 9)]))) &&
    (fun (sp : Nat) (x : Nat) (w : W256) (s : State) => decide (s.performs sp 0 w = true ∧ sCount w = 1 ∧ slotOf w 1 = x ∧ lSOP x = 0x33)) 96 (0x33 * 2 ^ 24 + 4 * 2 ^ 20 + 5 * 2 ^ 14 + 6 * 2 ^ 9) ((sw [(0x33 * 2 ^ 24 + 4 * 2 ^ 20 + 5 * 2 ^ 14 + 6 * 2 ^ 9)])) ((stS (sw [(0x33 * 2 ^ 24 + 4 * 2 ^ 20 + 5 * 2 ^ 14 + 6 * 2 ^ 9)]))) &&
    (fun (sp : Nat) (x : Nat) (w : W256) (s : State) => decide (s.performs sp 0 w = true ∧ sCount w = 1 ∧ slotOf w 1 = x ∧ lSOP x = 0x34)) 96 (0x34 * 2 ^ 24 + 4 * 2 ^ 20 + 5 * 2 ^ 14 + 16374) ((sw [(0x34 * 2 ^ 24 + 4 * 2 ^ 20 + 5 * 2 ^ 14 + 16374)])) ((stS (sw [(0x34 * 2 ^ 24 + 4 * 2 ^ 20 + 5 * 2 ^ 14 + 16374)]))) &&
    (fun (sp : Nat) (x : Nat) (w : W256) (s : State) => decide (s.performs sp 0 w = true ∧ sCount w = 1 ∧ slotOf w 1 = x ∧ lSOP x = 0x35)) 96 (0x35 * 2 ^ 24 + 4 * 2 ^ 20 + 5 * 2 ^ 14 + 16374) ((sw [(0x35 * 2 ^ 24 + 4 * 2 ^ 20 + 5 * 2 ^ 14 + 16374)])) ((stS (sw [(0x35 * 2 ^ 24 + 4 * 2 ^ 20 + 5 * 2 ^ 14 + 16374)]))) &&
    (fun (sp : Nat) (x : Nat) (w : W256) (s : State) => decide (s.performs sp 0 w = true ∧ sCount w = 1 ∧ slotOf w 1 = x ∧ lSOP x = 0x36)) 96 (0x36 * 2 ^ 24 + 4 * 2 ^ 20 + 0 * 2 ^ 16 + 1 * 2 ^ 12) ((sw [(0x36 * 2 ^ 24 + 4 * 2 ^ 20 + 0 * 2 ^ 16 + 1 * 2 ^ 12)])) ((stS (sw [(0x36 * 2 ^ 24 + 4 * 2 ^ 20 + 0 * 2 ^ 16 + 1 * 2 ^ 12)]))) &&
    (fun (sp : Nat) (x : Nat) (w : W256) (s : State) => decide (s.performs sp 0 w = true ∧ sCount w = 1 ∧ slotOf w 1 = x ∧ lSOP x = 0x37)) 96 (0x37 * 2 ^ 24 + 4 * 2 ^ 20 + 0 * 2 ^ 16 + 1 * 2 ^ 12) ((sw [(0x37 * 2 ^ 24 + 4 * 2 ^ 20 + 0 * 2 ^ 16 + 1 * 2 ^ 12)])) ((stS (sw [(0x37 * 2 ^ 24 + 4 * 2 ^ 20 + 0 * 2 ^ 16 + 1 * 2 ^ 12)]))) &&
    (fun (sp : Nat) (x : Nat) (w : W256) (s : State) => decide (s.performs sp 0 w = true ∧ sCount w = 1 ∧ slotOf w 1 = x ∧ lSOP x = 0x38)) 96 (0x38 * 2 ^ 24 + 4 * 2 ^ 20 + 0 * 2 ^ 16 + 1 * 2 ^ 12) ((sw [(0x38 * 2 ^ 24 + 4 * 2 ^ 20 + 0 * 2 ^ 16 + 1 * 2 ^ 12)])) ((stS (sw [(0x38 * 2 ^ 24 + 4 * 2 ^ 20 + 0 * 2 ^ 16 + 1 * 2 ^ 12)]))) &&
    (fun (sp : Nat) (x : Nat) (w : W256) (s : State) => decide (s.performs sp 0 w = true ∧ sCount w = 1 ∧ slotOf w 1 = x ∧ lSOP x = 0x39)) 96 (0x39 * 2 ^ 24 + 4 * 2 ^ 20 + 0 * 2 ^ 16 + 1 * 2 ^ 12) ((sw [(0x39 * 2 ^ 24 + 4 * 2 ^ 20 + 0 * 2 ^ 16 + 1 * 2 ^ 12)])) ((stS (sw [(0x39 * 2 ^ 24 + 4 * 2 ^ 20 + 0 * 2 ^ 16 + 1 * 2 ^ 12)])))) = true := by
  decide +kernel

/-- For each clause, a state and operands that meet its hypotheses. -/
theorem wit_ScalarWordsComplete_4 :
    ((fun (sp : Nat) (x : Nat) (w : W256) (s : State) => decide (s.performs sp 0 w = true ∧ sCount w = 1 ∧ slotOf w 1 = x ∧ lSOP x = 0x3A)) 96 (0x3A * 2 ^ 24 + 4 * 2 ^ 20 + 0 * 2 ^ 16) ((sw [(0x3A * 2 ^ 24 + 4 * 2 ^ 20 + 0 * 2 ^ 16)])) ((stS (sw [(0x3A * 2 ^ 24 + 4 * 2 ^ 20 + 0 * 2 ^ 16)]))) &&
    (fun (sp : Nat) (x : Nat) (w : W256) (s : State) => decide (s.performs sp 0 w = true ∧ sCount w = 1 ∧ slotOf w 1 = x ∧ lSOP x = 0x3B)) 96 (0x3B * 2 ^ 24 + 4 * 2 ^ 20 + 5 * 2 ^ 14 + 0) ((sw [(0x3B * 2 ^ 24 + 4 * 2 ^ 20 + 5 * 2 ^ 14 + 0)])) ((stS (sw [(0x3B * 2 ^ 24 + 4 * 2 ^ 20 + 5 * 2 ^ 14 + 0)]))) &&
    (fun (sp : Nat) (x : Nat) (w : W256) (s : State) => decide (s.performs sp 0 w = true ∧ sCount w = 1 ∧ slotOf w 1 = x ∧ lSOP x = 0x3D)) 96 (slotR 0x3D + 1 * 2 ^ 5) ((sw [(slotR 0x3D + 1 * 2 ^ 5)])) ((stS (sw [(slotR 0x3D + 1 * 2 ^ 5)]))) &&
    (fun (sp : Nat) (x : Nat) (w : W256) (s : State) => decide (s.performs sp 0 w = true ∧ sCount w = 1 ∧ slotOf w 1 = x ∧ lSOP x = 0x3C)) 96 (0x3C * 2 ^ 24 + 7 * 2 ^ 19) ((sw [(0x3C * 2 ^ 24 + 7 * 2 ^ 19)])) ((stS (sw [(0x3C * 2 ^ 24 + 7 * 2 ^ 19)]))) &&
    (fun (sp : Nat) (x : Nat) (w : W256) (s : State) => decide (s.performs sp 0 w = true ∧ sCount w = 1 ∧ slotOf w 1 = x ∧ lSOP x = 0x4C)) 96 (0x4C * 2 ^ 24 + 7 * 2 ^ 19) ((sw [(0x4C * 2 ^ 24 + 7 * 2 ^ 19)])) ((stS (sw [(0x4C * 2 ^ 24 + 7 * 2 ^ 19)]))) &&
    (fun (sp : Nat) (x : Nat) (w : W256) (s : State) => decide (s.performs sp 0 w = true ∧ sCount w = 1 ∧ slotOf w 1 = x ∧ lSOP x = 0x4D)) 96 (0x4D * 2 ^ 24 + 7 * 2 ^ 19) ((sw [(0x4D * 2 ^ 24 + 7 * 2 ^ 19)])) ((stS (sw [(0x4D * 2 ^ 24 + 7 * 2 ^ 19)]))) &&
    (fun (sp : Nat) (x : Nat) (w : W256) (s : State) => decide (s.performs sp 0 w = true ∧ sCount w = 1 ∧ slotOf w 1 = x ∧ lSOP x = 0x48)) 96 (0x48 * 2 ^ 24 + 7 * 2 ^ 19 + 2 * 2 ^ 10) ((sw [(0x48 * 2 ^ 24 + 7 * 2 ^ 19 + 2 * 2 ^ 10)])) ((stS (sw [(0x48 * 2 ^ 24 + 7 * 2 ^ 19 + 2 * 2 ^ 10)]))) &&
    (fun (sp : Nat) (x : Nat) (w : W256) (s : State) => decide (s.performs sp 0 w = true ∧ sCount w = 1 ∧ slotOf w 1 = x ∧ lSOP x = 0x49)) 96 (0x49 * 2 ^ 24 + 7 * 2 ^ 19 + 2 * 2 ^ 10) ((sw [(0x49 * 2 ^ 24 + 7 * 2 ^ 19 + 2 * 2 ^ 10)])) ((stS (sw [(0x49 * 2 ^ 24 + 7 * 2 ^ 19 + 2 * 2 ^ 10)]))) &&
    (fun (sp : Nat) (x : Nat) (w : W256) (s : State) => decide (s.performs sp 0 w = true ∧ sCount w = 1 ∧ slotOf w 1 = x ∧ lSOP x = 0x4B)) 96 (0x4B * 2 ^ 24 + 7 * 2 ^ 19 + 2 * 2 ^ 12) ((sw [(0x4B * 2 ^ 24 + 7 * 2 ^ 19 + 2 * 2 ^ 12)])) ((stS (sw [(0x4B * 2 ^ 24 + 7 * 2 ^ 19 + 2 * 2 ^ 12)]))) &&
    (fun (sp : Nat) (x : Nat) (w : W256) (s : State) => decide (s.performs sp 0 w = true ∧ sCount w = 1 ∧ slotOf w 1 = x ∧ lSOP x = 0x4A)) 96 (0x4A * 2 ^ 24 + 5 * 2 ^ 14 + 2 * 2 ^ 12) ((sw [(0x4A * 2 ^ 24 + 5 * 2 ^ 14 + 2 * 2 ^ 12)])) ((stS (sw [(0x4A * 2 ^ 24 + 5 * 2 ^ 14 + 2 * 2 ^ 12)])))) = true := by
  decide +kernel

/-- For each clause, a state and operands that meet its hypotheses. -/
theorem wit_ScalarWordsComplete_5 :
    ((fun (sp : Nat) (x : Nat) (w : W256) (s : State) => decide (s.performs sp 0 w = true ∧ sCount w = 1 ∧ slotOf w 1 = x ∧ lSOP x = 0x45)) 96 (0x45 * 2 ^ 24 + 2 * 2 ^ 20 + 5 * 2 ^ 14) ((sw [(0x45 * 2 ^ 24 + 2 * 2 ^ 20 + 5 * 2 ^ 14)])) ((stS (sw [(0x45 * 2 ^ 24 + 2 * 2 ^ 20 + 5 * 2 ^ 14)]))) &&
    (fun (sp : Nat) (x : Nat) (w : W256) (s : State) => decide (s.performs sp 0 w = true ∧ sCount w = 1 ∧ slotOf w 1 = x ∧ lSOP x = 0x46)) 96 (0x46 * 2 ^ 24 + 2 * 2 ^ 20 + 5 * 2 ^ 14) ((sw [(0x46 * 2 ^ 24 + 2 * 2 ^ 20 + 5 * 2 ^ 14)])) ((stS (sw [(0x46 * 2 ^ 24 + 2 * 2 ^ 20 + 5 * 2 ^ 14)]))) &&
    (fun (sp : Nat) (x : Nat) (w : W256) (s : State) => decide (s.performs sp 0 w = true ∧ sCount w = 1 ∧ slotOf w 1 = x ∧ lSOP x = 0x47)) 96 (0x47 * 2 ^ 24 + 2 * 2 ^ 20 + 0x23) ((sw [(0x47 * 2 ^ 24 + 2 * 2 ^ 20 + 0x23)])) ((stS (sw [(0x47 * 2 ^ 24 + 2 * 2 ^ 20 + 0x23)]))) &&
    (fun (sp : Nat) (x : Nat) (o : Nat) (p : Nat) (q : Nat) (a : W128) (w : W256) (bs : List Byte) (s : State) => decide (s.performs sp 0 w = true ∧ sCount w = 1 ∧ slotOf w 1 = x ∧ lSOP x = 0x40 ∧ ((((s.spin sp).getG (lRS1 x)).toNat + lIMM8 x * 2 ^ lSIZE x) % 2 ^ 64) = o ∧ (s.spin sp).getA (lAS x) = a ∧ s.slotCause sp (lAS x) o (2 ^ lSIZE x) = none ∧ s.descAddr sp a o = p ∧ s.windowAt p = none ∧ (s.moveRead (s.asSpindle sp) p (2 ^ lSIZE x)).1 = .ok ∧ (s.moveRead (s.asSpindle sp) p (2 ^ lSIZE x)).2.1 = bs ∧ s.flaws = [] ∧ lowestCause (rightsCause (s.spin sp) (lAS x) 1) = none ∧ s.locate (p % 2 ^ 52) = .hbm q ∧ pieces (p % 2 ^ 52) (2 ^ lSIZE x) = [(p % 2 ^ 52, 2 ^ lSIZE x)] ∧ p / 2 ^ 52 = s.pkg)) 96 (0x40 * 2 ^ 24 + 7 * 2 ^ 19 + 8 * 2 ^ 14 + 2 * 2 ^ 10 + 1 * 2 ^ 8 + 1) 2 0x1002 0 ((BitVec.ofNat 128 (0x1000 * 2 ^ 64 + 4096 * 2 ^ 32 + 0x33))) ((sw [(0x40 * 2 ^ 24 + 7 * 2 ^ 19 + 8 * 2 ^ 14 + 2 * 2 ^ 10 + 1 * 2 ^ 8 + 1)])) ([3, 0xFF]) ((stS (sw [(0x40 * 2 ^ 24 + 7 * 2 ^ 19 + 8 * 2 ^ 14 + 2 * 2 ^ 10 + 1 * 2 ^ 8 + 1)]))) &&
    (fun (sp : Nat) (x : Nat) (o : Nat) (p : Nat) (q : Nat) (a : W128) (w : W256) (bs : List Byte) (s : State) => decide (s.performs sp 0 w = true ∧ sCount w = 1 ∧ slotOf w 1 = x ∧ lSOP x = 0x41 ∧ ((((s.spin sp).getG (lRS1 x)).toNat + lIMM8 x * 2 ^ lSIZE x) % 2 ^ 64) = o ∧ (s.spin sp).getA (lAS x) = a ∧ s.slotCause sp (lAS x) o (2 ^ lSIZE x) = none ∧ s.descAddr sp a o = p ∧ s.windowAt p = none ∧ (s.moveRead (s.asSpindle sp) p (2 ^ lSIZE x)).1 = .ok ∧ (s.moveRead (s.asSpindle sp) p (2 ^ lSIZE x)).2.1 = bs ∧ s.flaws = [] ∧ lowestCause (rightsCause (s.spin sp) (lAS x) 1) = none ∧ s.locate (p % 2 ^ 52) = .hbm q ∧ pieces (p % 2 ^ 52) (2 ^ lSIZE x) = [(p % 2 ^ 52, 2 ^ lSIZE x)] ∧ p / 2 ^ 52 = s.pkg)) 96 (0x41 * 2 ^ 24 + 7 * 2 ^ 19 + 8 * 2 ^ 14 + 2 * 2 ^ 10 + 1 * 2 ^ 8 + 1) 2 0x1002 0 ((BitVec.ofNat 128 (0x1000 * 2 ^ 64 + 4096 * 2 ^ 32 + 0x33))) ((sw [(0x41 * 2 ^ 24 + 7 * 2 ^ 19 + 8 * 2 ^ 14 + 2 * 2 ^ 10 + 1 * 2 ^ 8 + 1)])) ([3, 0xFF]) ((stS (sw [(0x41 * 2 ^ 24 + 7 * 2 ^ 19 + 8 * 2 ^ 14 + 2 * 2 ^ 10 + 1 * 2 ^ 8 + 1)]))) &&
    (fun (sp : Nat) (x : Nat) (o : Nat) (p : Nat) (q : Nat) (a : W128) (w : W256) (s : State) => decide (s.performs sp 0 w = true ∧ sCount w = 1 ∧ slotOf w 1 = x ∧ lSOP x = 0x42 ∧ ((((s.spin sp).getG (lRS1 x)).toNat + lIMM8 x * 2 ^ lSIZE x) % 2 ^ 64) = o ∧ (s.spin sp).getA (lAS x) = a ∧ s.slotCause sp (lAS x) o (2 ^ lSIZE x) = none ∧ s.descAddr sp a o = p ∧ s.windowAt p = none ∧ aKIND a = 3 ∧ lowestCause (rightsCause (s.spin sp) (lAS x) 2) = none ∧ s.locate (p % 2 ^ 52) = .hbm q ∧ pieces (p % 2 ^ 52) (2 ^ lSIZE x) = [(p % 2 ^ 52, 2 ^ lSIZE x)] ∧ p / 2 ^ 52 = s.pkg ∧ s.site (p % 2 ^ 52) = .free ∧ s.quiescing (sliceDie (p % 2 ^ 52)) = false ∧ s.quarryUp (sliceDie (p % 2 ^ 52)) = true ∧ s.moveWaits (s.asSpindle sp) p (2 ^ lSIZE x) = false)) 96 ((0x42 * 2 ^ 24 + 7 * 2 ^ 19 + 8 * 2 ^ 14 + 2 * 2 ^ 10 + 1 * 2 ^ 8 + 1) - 2 * 2 ^ 19) 2 0x1002 0 ((BitVec.ofNat 128 (0x1000 * 2 ^ 64 + 4096 * 2 ^ 32 + 0x33))) ((sw [(0x42 * 2 ^ 24 + 7 * 2 ^ 19 + 8 * 2 ^ 14 + 2 * 2 ^ 10 + 1 * 2 ^ 8 + 1) - 2 * 2 ^ 19])) ((stS (sw [(0x42 * 2 ^ 24 + 7 * 2 ^ 19 + 8 * 2 ^ 14 + 2 * 2 ^ 10 + 1 * 2 ^ 8 + 1) - 2 * 2 ^ 19])))) = true := by
  decide +kernel

/-- For each clause, a state and operands that meet its hypotheses. -/
theorem wit_MemoryWordsComplete :
    ((fun (sp : Nat) (w : W256) (s : State) => decide (s.performs sp 0x200 w = true ∧ (s.ldtDone sp w).isSome = true)) 96 (mtW 0x200) ((stM (mtW 0x200) 0 0)) &&
    (fun (sp : Nat) (w : W256) (s : State) => decide (s.performs sp 0x201 w = true ∧ (s.sttDone sp w).isSome = true)) 96 (mtW 0x201) ((stM (mtW 0x201) 0 0)) &&
    (fun (sp : Nat) (w : W256) (s : State) => decide (s.performs sp 0x210 w = true ∧ (s.mdDone sp w false).isSome = true)) 96 ((cw 0x210 (2 * 2 ^ 16 + 4 * 2 ^ 20 + 0x20 * 2 ^ 64 + 8 * 2 ^ 192))) ((stM (cw 0x210 (2 * 2 ^ 16 + 4 * 2 ^ 20 + 0x20 * 2 ^ 64 + 8 * 2 ^ 192)) 0 0)) &&
    (fun (sp : Nat) (w : W256) (s : State) => decide (s.performs sp 0x211 w = true ∧ (s.mdDone sp w true).isSome = true)) 96 ((cw 0x211 (2 * 2 ^ 16 + 0x20 * 2 ^ 64 + 0x0102030405060708 * 2 ^ 128 + 9 * 2 ^ 192))) ((stM (cw 0x211 (2 * 2 ^ 16 + 0x20 * 2 ^ 64 + 0x0102030405060708 * 2 ^ 128 + 9 * 2 ^ 192)) 0 0)) &&
    (fun (sp : Nat) (p : Nat) (q : Nat) (w : W256) (bs : List Byte) (s : State) => decide (s.performs sp 0x200 w = true ∧ (firstFail (s.mtFails sp w false)).isNone = true ∧ mDBE w = false ∧ s.groups sp (wScope w) = [⟨1, [(0, sp)]⟩] ∧ (shapeAt w 128).rows = 1 ∧ (shapeAt w 128).elems ≠ 0 ∧ sameFmt (s.spin sp) w = true ∧ halfRow ((s.spin sp).fmtD (mFM w)) (shapeAt w 128).elems = false ∧ s.descAddr sp ((s.spin sp).getA (mAD w)) (mOff (s.spin sp) w) = p ∧ s.locate (p % 2 ^ 52) = .hbm q ∧ p / 2 ^ 52 = s.pkg ∧ pieces (p % 2 ^ 52) (mtRow (s.spin sp) w) = [(p % 2 ^ 52, mtRow (s.spin sp) w)] ∧ (s.moveRead (s.asSpindle sp) p (mtRow (s.spin sp) w)).1 = .ok ∧ (s.moveRead (s.asSpindle sp) p (mtRow (s.spin sp) w)).2.1 = bs ∧ s.flaws = [])) 96 0x1000 0 (mtW 0x200) ([1, 2, 3, 0, 0, 0, 0, 0]) ((stM (mtW 0x200) 0 0)) &&
    (fun (sp : Nat) (p : Nat) (q : Nat) (w : W256) (s : State) => decide (s.performs sp 0x201 w = true ∧ (firstFail (s.mtFails sp w true)).isNone = true ∧ mDBE w = false ∧ s.groups sp (wScope w) = [⟨1, [(0, sp)]⟩] ∧ (shapeAt w 128).rows = 1 ∧ (shapeAt w 128).elems ≠ 0 ∧ sameFmt (s.spin sp) w = true ∧ halfRow ((s.spin sp).fmtD (mFM w)) (shapeAt w 128).elems = false ∧ s.descAddr sp ((s.spin sp).getA (mAD w)) (mOff (s.spin sp) w) = p ∧ s.locate (p % 2 ^ 52) = .hbm q ∧ p / 2 ^ 52 = s.pkg ∧ pieces (p % 2 ^ 52) (mtRow (s.spin sp) w) = [(p % 2 ^ 52, mtRow (s.spin sp) w)] ∧ s.moveWaits (s.asSpindle sp) p (mtRow (s.spin sp) w) = false ∧ s.site (p % 2 ^ 52) = .free ∧ s.quiescing (sliceDie (p % 2 ^ 52)) = false ∧ s.quarryUp (sliceDie (p % 2 ^ 52)) = true)) 96 0x1000 0 (mtW 0x201) ((stM (mtW 0x201) 0 0)) &&
    (fun (sp : Nat) (p : Nat) (q : Nat) (o : Nat) (r : Nat) (w : W256) (bs : List Byte) (s : State) => decide (s.performs sp 0x210 w = true ∧ (firstFail (s.mdFails sp w false)).isNone = true ∧ mDBE w = false ∧ s.groups sp (wScope w) = [⟨1, [(0, sp)]⟩] ∧ mLEN (s.spin sp) w ≠ 0 ∧ s.descAddr sp ((s.spin sp).getA (mAD w)) (mOff (s.spin sp) w) = p ∧ s.descAddr sp ((s.spin sp).getA (mAS w)) (bitsOf w 191 128) = o ∧ s.locate (p % 2 ^ 52) = .hbm q ∧ p / 2 ^ 52 = s.pkg ∧ pieces (p % 2 ^ 52) (mLEN (s.spin sp) w) = [(p % 2 ^ 52, mLEN (s.spin sp) w)] ∧ s.moveWaits (s.asSpindle sp) p (mLEN (s.spin sp) w) = false ∧ s.site (p % 2 ^ 52) = .free ∧ s.quiescing (sliceDie (p % 2 ^ 52)) = false ∧ s.quarryUp (sliceDie (p % 2 ^ 52)) = true ∧ s.locate (o % 2 ^ 52) = .hbm r ∧ o / 2 ^ 52 = s.pkg ∧ pieces (o % 2 ^ 52) (mLEN (s.spin sp) w) = [(o % 2 ^ 52, mLEN (s.spin sp) w)] ∧ (s.moveRead (s.asSpindle sp) o (mLEN (s.spin sp) w)).1 = .ok ∧ (s.moveRead (s.asSpindle sp) o (mLEN (s.spin sp) w)).2.1 = bs ∧ s.flaws = [])) 96 0x1020 0 0x6000 0 ((cw 0x210 (2 * 2 ^ 16 + 4 * 2 ^ 20 + 0x20 * 2 ^ 64 + 8 * 2 ^ 192))) ([1, 0, 0, 128, 0, 0, 0, 0]) ((stM (cw 0x210 (2 * 2 ^ 16 + 4 * 2 ^ 20 + 0x20 * 2 ^ 64 + 8 * 2 ^ 192)) 0 (2 ^ 31 + 1))) &&
    (fun (sp : Nat) (p : Nat) (q : Nat) (w : W256) (s : State) => decide (s.performs sp 0x211 w = true ∧ (firstFail (s.mdFails sp w true)).isNone = true ∧ mDBE w = false ∧ s.groups sp (wScope w) = [⟨1, [(0, sp)]⟩] ∧ mLEN (s.spin sp) w ≠ 0 ∧ s.descAddr sp ((s.spin sp).getA (mAD w)) (mOff (s.spin sp) w) = p ∧ s.locate (p % 2 ^ 52) = .hbm q ∧ p / 2 ^ 52 = s.pkg ∧ pieces (p % 2 ^ 52) (mLEN (s.spin sp) w) = [(p % 2 ^ 52, mLEN (s.spin sp) w)] ∧ s.moveWaits (s.asSpindle sp) p (mLEN (s.spin sp) w) = false ∧ s.site (p % 2 ^ 52) = .free ∧ s.quiescing (sliceDie (p % 2 ^ 52)) = false ∧ s.quarryUp (sliceDie (p % 2 ^ 52)) = true)) 96 0x1020 0 ((cw 0x211 (2 * 2 ^ 16 + 0x20 * 2 ^ 64 + 0x0102030405060708 * 2 ^ 128 + 9 * 2 ^ 192))) ((stM (cw 0x211 (2 * 2 ^ 16 + 0x20 * 2 ^ 64 + 0x0102030405060708 * 2 ^ 128 + 9 * 2 ^ 192)) 0 0))) = true := by
  decide +kernel

/-- For each clause, a state and operands that meet its hypotheses. -/
theorem wit_TableWordsComplete_0 :
    ((fun (sp : Nat) (w : W256) (s : State) => decide (s.performs sp 0x220 w = true ∧ (s.tblOutputs .gather sp w).isSome = true)) 96 (tblW 0x220 0) ((stM (tblW 0x220 0) 0 (2 ^ 31 + 1))) &&
    (fun (sp : Nat) (w : W256) (s : State) => decide (s.performs sp 0x220 w = true ∧ mCOUNT (s.spin sp) w = 0 ∧ ((s.findRegion (aBASE ((s.spin sp).getA (mAD w)))).any (fun f => s.engine f == .ok && (firstFail (failsOf 0 (s.tblPre (s.tblWord .gather sp w) ++ s.rgnCauses (s.tblWord .gather sp w) (some f) ++ s.listRights (s.tblWord .gather sp w)) ++ s.bellFails sp w)).isNone && !s.unloading f) = true) ∧ s.bellWaits sp w = false ∧ (s.ended sp (s.headPc sp) w).isSome = true)) 96 (((tblW 0x220 0) - BitVec.ofNat 256 (2 ^ 128))) ((stM ((tblW 0x220 0) - BitVec.ofNat 256 (2 ^ 128)) 0 (2 ^ 31 + 1))) &&
    (fun (sp : Nat) (w : W256) (s : State) => decide (s.performs sp 0x221 w = true ∧ (s.tblOutputs .sum sp w).isSome = true)) 96 (tblW 0x221 0) ((stM (tblW 0x221 0) 0 (2 ^ 31 + 1))) &&
    (fun (sp : Nat) (w : W256) (s : State) => decide (s.performs sp 0x221 w = true ∧ mCOUNT (s.spin sp) w = 0 ∧ ((s.findRegion (aBASE ((s.spin sp).getA (mAD w)))).any (fun f => s.engine f == .ok && (firstFail (failsOf 0 (s.tblPre (s.tblWord .sum sp w) ++ s.rgnCauses (s.tblWord .sum sp w) (some f) ++ s.listRights (s.tblWord .sum sp w)) ++ s.bellFails sp w)).isNone && !s.unloading f) = true) ∧ s.bellWaits sp w = false ∧ (s.ended sp (s.headPc sp) w).isSome = true)) 96 (((tblW 0x221 0) - BitVec.ofNat 256 (2 ^ 128))) ((stM ((tblW 0x221 0) - BitVec.ofNat 256 (2 ^ 128)) 0 (2 ^ 31 + 1))) &&
    (fun (sp : Nat) (w : W256) (s : State) => decide (s.performs sp 0x222 w = true ∧ (s.tblOutputs .mean sp w).isSome = true)) 96 (tblW 0x222 0) ((stM (tblW 0x222 0) 0 (2 ^ 31 + 1))) &&
    (fun (sp : Nat) (w : W256) (s : State) => decide (s.performs sp 0x222 w = true ∧ mCOUNT (s.spin sp) w = 0 ∧ ((s.findRegion (aBASE ((s.spin sp).getA (mAD w)))).any (fun f => s.engine f == .ok && (firstFail (failsOf 0 (s.tblPre (s.tblWord .mean sp w) ++ s.rgnCauses (s.tblWord .mean sp w) (some f) ++ s.listRights (s.tblWord .mean sp w)) ++ s.bellFails sp w)).isNone && !s.unloading f) = true) ∧ s.bellWaits sp w = false ∧ (s.ended sp (s.headPc sp) w).isSome = true)) 96 (((tblW 0x222 0) - BitVec.ofNat 256 (2 ^ 128))) ((stM ((tblW 0x222 0) - BitVec.ofNat 256 (2 ^ 128)) 0 (2 ^ 31 + 1))) &&
    (fun (sp : Nat) (w : W256) (s : State) => decide (s.performs sp 0x223 w = true ∧ (s.tblOutputs .max sp w).isSome = true)) 96 (tblW 0x223 0) ((stM (tblW 0x223 0) 0 (2 ^ 31 + 1))) &&
    (fun (sp : Nat) (w : W256) (s : State) => decide (s.performs sp 0x223 w = true ∧ mCOUNT (s.spin sp) w = 0 ∧ ((s.findRegion (aBASE ((s.spin sp).getA (mAD w)))).any (fun f => s.engine f == .ok && (firstFail (failsOf 0 (s.tblPre (s.tblWord .max sp w) ++ s.rgnCauses (s.tblWord .max sp w) (some f) ++ s.listRights (s.tblWord .max sp w)) ++ s.bellFails sp w)).isNone && !s.unloading f) = true) ∧ s.bellWaits sp w = false ∧ (s.ended sp (s.headPc sp) w).isSome = true)) 96 (((tblW 0x223 0) - BitVec.ofNat 256 (2 ^ 128))) ((stM ((tblW 0x223 0) - BitVec.ofNat 256 (2 ^ 128)) 0 (2 ^ 31 + 1))) &&
    (fun (sp : Nat) (w : W256) (s : State) => decide (s.performs sp 0x224 w = true ∧ (s.tblOutputs .wsum sp w).isSome = true)) 96 (tblW 0x224 6) ((stM (tblW 0x224 6) 0 (2 ^ 31 + 1))) &&
    (fun (sp : Nat) (w : W256) (s : State) => decide (s.performs sp 0x224 w = true ∧ mCOUNT (s.spin sp) w = 0 ∧ ((s.findRegion (aBASE ((s.spin sp).getA (mAD w)))).any (fun f => s.engine f == .ok && (firstFail (failsOf 0 (s.tblPre (s.tblWord .wsum sp w) ++ s.rgnCauses (s.tblWord .wsum sp w) (some f) ++ s.listRights (s.tblWord .wsum sp w)) ++ s.bellFails sp w)).isNone && !s.unloading f) = true) ∧ s.bellWaits sp w = false ∧ (s.ended sp (s.headPc sp) w).isSome = true)) 96 (((tblW 0x224 6) - BitVec.ofNat 256 (2 ^ 128))) ((stM ((tblW 0x224 6) - BitVec.ofNat 256 (2 ^ 128)) 0 (2 ^ 31 + 1)))) = true := by
  decide +kernel

/-- For each clause, a state and operands that meet its hypotheses. -/
theorem wit_TableWordsComplete_1 :
    ((fun (sp : Nat) (w : W256) (s : State) => decide (s.performs sp 0x225 w = true ∧ (s.tblChanges .scatter sp w).isSome = true)) 96 (tblW 0x225 0) ((stM (tblW 0x225 0) 0 (2 ^ 31 + 1))) &&
    (fun (sp : Nat) (w : W256) (s : State) => decide (s.performs sp 0x225 w = true ∧ mCOUNT (s.spin sp) w = 0 ∧ ((s.findRegion (aBASE ((s.spin sp).getA (mAD w)))).any (fun f => s.engine f == .ok && (firstFail (failsOf 0 (s.tblPre (s.tblWord .scatter sp w) ++ s.rgnCauses (s.tblWord .scatter sp w) (some f) ++ s.listRights (s.tblWord .scatter sp w)) ++ s.bellFails sp w)).isNone && !s.unloading f) = true) ∧ s.bellWaits sp w = false ∧ (s.ended sp (s.headPc sp) w).isSome = true)) 96 (((tblW 0x225 0) - BitVec.ofNat 256 (2 ^ 128))) ((stM ((tblW 0x225 0) - BitVec.ofNat 256 (2 ^ 128)) 0 (2 ^ 31 + 1))) &&
    (fun (sp : Nat) (w : W256) (s : State) => decide (s.performs sp 0x226 w = true ∧ (s.tblChanges .scatterAdd sp w).isSome = true)) 96 (tblW 0x226 0) ((stM (tblW 0x226 0) 0 (2 ^ 31 + 1))) &&
    (fun (sp : Nat) (w : W256) (s : State) => decide (s.performs sp 0x226 w = true ∧ mCOUNT (s.spin sp) w = 0 ∧ ((s.findRegion (aBASE ((s.spin sp).getA (mAD w)))).any (fun f => s.engine f == .ok && (firstFail (failsOf 0 (s.tblPre (s.tblWord .scatterAdd sp w) ++ s.rgnCauses (s.tblWord .scatterAdd sp w) (some f) ++ s.listRights (s.tblWord .scatterAdd sp w)) ++ s.bellFails sp w)).isNone && !s.unloading f) = true) ∧ s.bellWaits sp w = false ∧ (s.ended sp (s.headPc sp) w).isSome = true)) 96 (((tblW 0x226 0) - BitVec.ofNat 256 (2 ^ 128))) ((stM ((tblW 0x226 0) - BitVec.ofNat 256 (2 ^ 128)) 0 (2 ^ 31 + 1))) &&
    (fun (sp : Nat) (w : W256) (s : State) => decide (s.performs sp 0x227 w = true ∧ (s.tblChanges .sgd sp w).isSome = true)) 96 (tblW 0x227 6) ((stM (tblW 0x227 6) 0 (2 ^ 31 + 1))) &&
    (fun (sp : Nat) (w : W256) (s : State) => decide (s.performs sp 0x227 w = true ∧ mCOUNT (s.spin sp) w = 0 ∧ ((s.findRegion (aBASE ((s.spin sp).getA (mAD w)))).any (fun f => s.engine f == .ok && (firstFail (failsOf 0 (s.tblPre (s.tblWord .sgd sp w) ++ s.rgnCauses (s.tblWord .sgd sp w) (some f) ++ s.listRights (s.tblWord .sgd sp w)) ++ s.bellFails sp w)).isNone && !s.unloading f) = true) ∧ s.bellWaits sp w = false ∧ (s.ended sp (s.headPc sp) w).isSome = true)) 96 (((tblW 0x227 6) - BitVec.ofNat 256 (2 ^ 128))) ((stM ((tblW 0x227 6) - BitVec.ofNat 256 (2 ^ 128)) 0 (2 ^ 31 + 1))) &&
    (fun (sp : Nat) (w : W256) (s : State) => decide (s.performs sp 0x228 w = true ∧ (s.tblChanges .adagrad sp w).isSome = true)) 96 (tblW 0x228 6) ((stM (tblW 0x228 6) 1099511627776 (2 ^ 31 + 1))) &&
    (fun (sp : Nat) (w : W256) (s : State) => decide (s.performs sp 0x228 w = true ∧ mCOUNT (s.spin sp) w = 0 ∧ ((s.findRegion (aBASE ((s.spin sp).getA (mAD w)))).any (fun f => s.engine f == .ok && (firstFail (failsOf 0 (s.tblPre (s.tblWord .adagrad sp w) ++ s.rgnCauses (s.tblWord .adagrad sp w) (some f) ++ s.listRights (s.tblWord .adagrad sp w)) ++ s.bellFails sp w)).isNone && !s.unloading f) = true) ∧ s.bellWaits sp w = false ∧ (s.ended sp (s.headPc sp) w).isSome = true)) 96 (((tblW 0x228 6) - BitVec.ofNat 256 (2 ^ 128))) ((stM ((tblW 0x228 6) - BitVec.ofNat 256 (2 ^ 128)) 1099511627776 (2 ^ 31 + 1))) &&
    (fun (sp : Nat) (w : W256) (s : State) => decide (s.performs sp 0x229 w = true ∧ (s.tblChanges .adam sp w).isSome = true)) 96 (tblW 0x229 6) ((stM (tblW 0x229 6) 2199023255552 (2 ^ 31 + 1))) &&
    (fun (sp : Nat) (w : W256) (s : State) => decide (s.performs sp 0x229 w = true ∧ mCOUNT (s.spin sp) w = 0 ∧ ((s.findRegion (aBASE ((s.spin sp).getA (mAD w)))).any (fun f => s.engine f == .ok && (firstFail (failsOf 0 (s.tblPre (s.tblWord .adam sp w) ++ s.rgnCauses (s.tblWord .adam sp w) (some f) ++ s.listRights (s.tblWord .adam sp w)) ++ s.bellFails sp w)).isNone && !s.unloading f) = true) ∧ s.bellWaits sp w = false ∧ (s.ended sp (s.headPc sp) w).isSome = true)) 96 (((tblW 0x229 6) - BitVec.ofNat 256 (2 ^ 128))) ((stM ((tblW 0x229 6) - BitVec.ofNat 256 (2 ^ 128)) 2199023255552 (2 ^ 31 + 1)))) = true := by
  decide +kernel

/-- For each clause, a state and operands that meet its hypotheses. -/
theorem wit_TableWordsComplete_2 :
    ((fun (sp : Nat) (e : Entry) (s : State) => decide (sp < 1536 ∧ s.isLead sp = true ∧ s.spState sp = 3 ∧ s.lat .tblFly sp 0 ≠ 0 ∧ (s.spin sp).spool.head? = some e ∧ e.started = true ∧ s.bellWaits sp e.word = false ∧ s.lat .tblDone sp 0 = 0 ∧ ((s.setLat .tblFly sp 0 0).ended sp e.pc e.word).isSome = true)) 96 (⟨tblW 0x225 0, 9, none, true⟩) ((((stM (tblW 0x225 0) 0 (2 ^ 31 + 1)).setLat .tblFly 96 0 1).updSpin 96 fun x => { x with spool := [⟨tblW 0x225 0, 9, none, true⟩] })) &&
    (fun (sp : Nat) (e : Entry) (s : State) => decide (sp < 1536 ∧ s.isLead sp = true ∧ s.spState sp = 3 ∧ s.lat .tblFly sp 0 ≠ 0 ∧ (s.spin sp).spool.head? = some e ∧ e.started = true ∧ s.bellWaits sp e.word = false ∧ s.lat .tblDone sp 0 ≠ 0 ∧ (s.tblResumed sp e.pc e.word).isSome = true)) 96 (⟨tblW 0x225 0, 9, none, true⟩) (((((stM (tblW 0x225 0) 0 (2 ^ 31 + 1)).setLat .tblFly 96 0 1).updSpin 96 fun x => { x with spool := [⟨tblW 0x225 0, 9, none, true⟩] }).setLat .tblDone 96 0 1)) &&
    (fun (sp : Nat) (e : Entry) (s : State) => decide (sp < 1536 ∧ s.isLead sp = true ∧ s.spState sp = 3 ∧ s.lat .tblFly sp 0 ≠ 0 ∧ (s.spin sp).spool.head? = some e ∧ e.started = true ∧ s.bellWaits sp e.word = false ∧ s.inRealPly sp = false ∧ s.countsOnly 0x01 (s.spUnit sp) = true)) 96 (⟨tblW 0x225 0, 9, none, true⟩) ((((stM (tblW 0x225 0) 0 (2 ^ 31 + 1)).setLat .tblFly 96 0 1).updSpin 96 fun x => { x with spool := [⟨tblW 0x225 0, 9, none, true⟩] }))) = true := by
  decide +kernel

end Sys2Proof.Machine
end

section
/-! PROOF. The state after reset: it lists nothing, so every register reads what its table gives and every latch
reads 0. -/

namespace Sys2Proof.Machine

/-- After reset a register reads its reset value. -/
@[simp] theorem State.reg_reset (r : Reg) (d i : Nat) : State.reset.reg r d i = regReset r (regHome r d) i := rfl

/-- After reset every latch reads 0. -/
@[simp] theorem State.lat_reset (l : Lat) (d i : Nat) : State.reset.lat l d i = 0 := rfl

/-- After reset the rails of every die but the wardens are open (R32). -/
theorem State.dieIso_reset {d : Nat} (h : d < 62) : State.reset.flag fPW_DIE_ISO_ON 62 d = false := by
  have e : regReset .PW_DIE_ISO (regHome .PW_DIE_ISO 62) d = tableReset .PW_DIE_ISO := if_pos h
  have z : (getBits (tableReset .PW_DIE_ISO) fPW_DIE_ISO_ON.hi fPW_DIE_ISO_ON.lo != 0) = false := by decide +kernel
  rw [State.flag, State.fld, State.reg_reset, show fPW_DIE_ISO_ON.reg = .PW_DIE_ISO from rfl, e, z]

/-- After reset no spindle is powered, so each reads OFF (R80). -/
theorem State.spState_reset {sp : Nat} (h : sp < 1536) : State.reset.spState sp = 0 := by
  have hd : spDie sp < 62 := by unfold spDie; omega
  simp [State.spState, State.spPowered, State.twinState, State.dieIso_reset hd]

/-- Settles O6: the reset state lists nothing, so every register reads what its table gives. -/
theorem resetState : Obligations.ResetState :=
  ⟨rfl, rfl, State.reg_reset, fun _ => State.spState_reset, rfl, rfl, rfl, by decide +kernel⟩

end Sys2Proof.Machine
end

section
/-! PROOF. Every step keeps the memory in its canonical form. `Keeps s t` says that `t` comes from `s` with the queue
as it was and canonical memory still canonical. Each function of the model that answers a state has one lemma, under
the function's name in the namespace `Keeps`, so that a proof reads as the function's own composition; a function with
`let`s has its intermediate states named and followed one by one. Only `setBytes`, `clearBytes`, `copyBytes` and the
loss of power change the memory. -/

namespace Sys2Proof.Machine

/-- From `s` to `t` no command joins or leaves the queue, and memory that was canonical is canonical still. -/
structure Keeps (s t : State) : Prop where
  pending : t.pending = s.pending
  mem : Memory.wf s.mem = true → Memory.wf t.mem = true

/-- A command that completes keeps queue and memory. -/
def OutKeeps (s : State) : Out → Prop
  | .next t => Keeps s t
  | _ => True

/-- Where there is a state, it keeps queue and memory. -/
def OptKeeps (s : State) : Option State → Prop
  | some t => Keeps s t
  | none => True

/-- The states a word's outcome carries keep queue and memory. -/
def PerfKeeps (s : State) : Perf → Prop
  | .ok t _ | .hold t | .check t _ _ => Keeps s t
  | _ => True

/-- The effect of a ply command's job keeps queue and memory. -/
def JobKeeps (s : State) (j : PlyJob) : Prop := ∀ t, Keeps s t → Keeps s (j.act t).1

/-- Words whose effect, run from a state that keeps queue and memory, has an outcome that does. -/
def EffKeeps (s : State) (eff : State → Nat → Nat → W256 → Perf) : Prop :=
  ∀ t sp pc w, Keeps s t → PerfKeeps s (eff t sp pc w)

/-- The rows a written value may spell keep queue and memory. -/
def RowsKeep (s : State) (fs : List (State → Out)) : Prop := ∀ f ∈ fs, ∀ t, Keeps s t → OutKeeps s (f t)

/-- A register's rows, where it has some, keep queue and memory. -/
def OptRowsKeep (s : State) : Option (List (State → Out)) → Prop
  | some fs => RowsKeep s fs
  | none => True

/-- What a slot of an S word leaves keeps queue and memory. -/
def SlotKeeps (s : State) : SlotEnd → Prop
  | .ok t => Keeps s t
  | _ => True

/-- What one step of a table word leaves keeps queue and memory. -/
def StepKeeps (s : State) : StepEnd → Prop
  | .ok t | .stall t | .lost t => Keeps s t

/-- An attempt that succeeds keeps queue and memory of the state `p` finds in its result; `e` holds of an error. -/
def TryKeeps (s : State) {ε α : Type} (e : ε → Prop) (p : α → State) : Except ε α → Prop
  | .ok x => Keeps s (p x)
  | .error x => e x

/-- Reads of a word, whose errors carry no state. -/
abbrev ReadKeeps (s : State) {α : Type} (r : Except Missed (α × State)) : Prop :=
  TryKeeps s (fun _ => True) Prod.snd r

variable {s t u : State}

theorem RowsKeep.nil : RowsKeep s [] := fun _ h => absurd h List.not_mem_nil

theorem RowsKeep.cons {f : State → Out} {fs : List (State → Out)} (hf : ∀ t, Keeps s t → OutKeeps s (f t))
    (h : RowsKeep s fs) : RowsKeep s (f :: fs) := List.forall_mem_cons.mpr ⟨hf, h⟩

theorem RowsKeep.one {f : State → Out} (hf : ∀ t, Keeps s t → OutKeeps s (f t)) : RowsKeep s [f] := .cons hf .nil

theorem OptRowsKeep.one {f : State → Out} (hf : ∀ t, Keeps s t → OutKeeps s (f t)) : OptRowsKeep s (some [f]) :=
  RowsKeep.one hf

theorem OptRowsKeep.two {f g : State → Out} (hf : ∀ t, Keeps s t → OutKeeps s (f t))
    (hg : ∀ t, Keeps s t → OutKeeps s (g t)) : OptRowsKeep s (some [f, g]) := RowsKeep.cons hf (.one hg)

theorem TryKeeps.ok {ε α : Type} {e : ε → Prop} {p : α → State} {r : Except ε α} {x : α}
    (h : TryKeeps s e p r) (k : r = .ok x) : Keeps s (p x) := by rw [k] at h; exact h

theorem TryKeeps.error {ε α : Type} {e : ε → Prop} {p : α → State} {r : Except ε α} {x : ε}
    (h : TryKeeps s e p r) (k : r = .error x) : e x := by rw [k] at h; exact h

theorem SlotKeeps.of_eq {e : SlotEnd} (h : SlotKeeps s e) (k : e = .ok t) : Keeps s t := by rw [k] at h; exact h

theorem OptKeeps.map {α : Type} {o : Option α} {f : α → State} (hf : ∀ x, Keeps s (f x)) :
    OptKeeps s (o.map f) := by
  cases o
  · trivial
  · exact hf _

theorem OutKeeps.ite {p : Prop} {i : Decidable p} {a b : Out} (h : OutKeeps s a) (k : OutKeeps s b) :
    OutKeeps s (if p then a else b) := by
  split
  · exact h
  · exact k

theorem OutKeeps.next (h : Keeps s t) : OutKeeps s (.next t) := h

theorem OptKeeps.of_eq {o : Option State} (h : OptKeeps s o) (k : o = .some t) : Keeps s t := by rw [k] at h; exact h

theorem OptKeeps.getD {o : Option State} (h : OptKeeps s o) (k : Keeps s t) : Keeps s (o.getD t) := by
  cases o
  · exact k
  · exact h

theorem OutKeeps.unit {b : Bool} (h : Keeps s t) : OutKeeps s (ifUnit b t) := .ite h trivial

theorem OptKeeps.ite {p : Prop} {i : Decidable p} {a b : Option State} (h : OptKeeps s a) (k : OptKeeps s b) :
    OptKeeps s (if p then a else b) := by
  split
  · exact h
  · exact k

theorem PerfKeeps.ite {p : Prop} {i : Decidable p} {a b : Perf} (h : PerfKeeps s a) (k : PerfKeeps s b) :
    PerfKeeps s (if p then a else b) := by
  split
  · exact h
  · exact k

namespace Keeps

theorem refl (s : State) : Keeps s s := ⟨rfl, id⟩

/-- A record update of other fields than queue and memory. -/
theorem record {regs lats spins plies stickyA stickyB sides retLog flash skeins losses mended flaws dma coll collGroups
    mesh plyRuns banks heat saved reply free} (h : Keeps s t) :
    Keeps s { t with
      regs := regs, lats := lats, spins := spins, plies := plies, stickyA := stickyA, stickyB := stickyB,
      sides := sides, retLog := retLog, flash := flash, skeins := skeins, losses := losses, mended := mended,
      flaws := flaws, dma := dma, coll := coll, collGroups := collGroups, mesh := mesh, plyRuns := plyRuns,
      banks := banks, heat := heat, saved := saved, reply := reply, free := free } :=
  ⟨h.pending, h.mem⟩

theorem ite {p : Prop} {i : Decidable p} (h : Keeps s t) (k : Keeps s u) : Keeps s (if p then t else u) := by
  split
  · exact h
  · exact k

theorem elim {α : Type} {o : Option α} {f : α → State} (h : Keeps s t) (hf : ∀ x, Keeps s (f x)) :
    Keeps s (o.elim t f) := by
  cases o
  · exact h
  · exact hf _

theorem each {α : Type} {l : List α} {f : α → State → State} (h : Keeps s t)
    (hf : ∀ x u, Keeps s u → Keeps s (f x u)) : Keeps s (t.each l f) :=
  State.each_induct (Keeps s) l f (fun x _ => hf x) h

theorem iff {b : Bool} {f : State → State} (h : Keeps s t) (hf : ∀ u, Keeps s u → Keeps s (f u)) :
    Keeps s (t.iff b f) :=
  State.iff_induct (Keeps s) b f (hf t) h

theorem setBytes {a bs} (h : Keeps s t) : Keeps s (t.setBytes a bs) :=
  ⟨h.pending, fun w => State.setBytes_wf a bs (h.mem w)⟩

theorem clearBytes {a n} (h : Keeps s t) : Keeps s (t.clearBytes a n) :=
  ⟨h.pending, fun w => State.clearBytes_wf a n (h.mem w)⟩

theorem copyBytes {a b n} (h : Keeps s t) : Keeps s (t.copyBytes a b n) :=
  ⟨h.pending, fun w => State.copyBytes_wf a b n (h.mem w)⟩

/-- A fold keeps queue and memory of the state `p` finds in its accumulator when each of its steps does. -/
theorem foldl {α β : Type} (p : β → State) {l : List α} {f : β → α → β} {b : β} (h : Keeps s (p b))
    (hf : ∀ b x, Keeps s (p b) → Keeps s (p (f b x))) : Keeps s (p (l.foldl f b)) :=
  List.foldlRecOn (motive := fun b => Keeps s (p b)) l f h fun b hb x _ => hf b x hb

/-! ## Ops -/

theorem setReg {r d i v} (h : Keeps s t) : Keeps s (t.setReg r d i v) := h.record

theorem setFld {f d i x} (h : Keeps s t) : Keeps s (t.setFld f d i x) := h.setReg

theorem setFlag {f d i b} (h : Keeps s t) : Keeps s (t.setFlag f d i b) := h.setFld

theorem incFld {f d i n} (h : Keeps s t) : Keeps s (t.incFld f d i n) := h.setFld

theorem satFld {f d i n} (h : Keeps s t) : Keeps s (t.satFld f d i n) := h.setFld

theorem setLat {l d i v} (h : Keeps s t) : Keeps s (t.setLat l d i v) := h.record

theorem setWreg {r i v} (h : Keeps s t) : Keeps s (t.setWreg r i v) := .ite h.setReg.setReg h.setReg

theorem setWfld {f i x} (h : Keeps s t) : Keeps s (t.setWfld f i x) := h.setWreg

theorem satWfld {f i n} (h : Keeps s t) : Keeps s (t.satWfld f i n) := h.setWfld

theorem setStickyOf {d k} (h : Keeps s t) : Keeps s (t.setStickyOf d k) := .ite h.record h.record

theorem updSticky {f} (h : Keeps s t) : Keeps s (t.updSticky f) := .ite h.setStickyOf.setStickyOf h.setStickyOf

theorem dropWaits {d} (h : Keeps s t) : Keeps s (t.dropWaits d) := h.record

theorem edge (h : Keeps s t) : Keeps s t.edge.2 := h.setLat

theorem idle (h : Keeps s t) : Keeps s t.idle := h.edge.setLat.setReg.each fun _ _ h => .ite h.incFld.incFld h

theorem raiseMsix {port vec} (h : Keeps s t) : Keeps s (t.raiseMsix port vec) := .ite h.setReg h.setLat

theorem setSide {k x} (h : Keeps s t) : Keeps s (t.setSide k x) := h.record

theorem hostDoorbell {pair bits} (h : Keeps s t) : Keeps s (t.hostDoorbell pair bits) :=
  .ite h.setSide.raiseMsix.raiseMsix h.setSide

theorem appendRecord {e r} (h : Keeps s t) : Keeps s (t.appendRecord e r) :=
  .ite h.satWfld (.ite h.updSticky.setLat.setWfld.setWfld.hostDoorbell h.updSticky.setLat.setWfld.setWfld)

theorem event {code sev unit payload} (h : Keeps s t) : Keeps s (t.event code sev unit payload) :=
  .ite h.setLat.setLat.satWfld.setLat h.setLat.setLat.appendRecord

theorem wevent {code sev u' payload} (h : Keeps s t) : Keeps s (t.wevent code sev u' payload) := h.event

theorem answer {st bs} (h : Keeps s t) : Keeps s (t.answer st bs) := h.record

/-! ## Spindle -/

theorem setSpFld {f sp x} (h : Keeps s t) : Keeps s (t.setSpFld f sp x) := h.setFld

theorem updSpin {sp f} (h : Keeps s t) : Keeps s (t.updSpin sp f) := h.record

theorem updMates {sp f} (h : Keeps s t) : Keeps s (t.updMates sp f) := h.each fun _ _ h => h.updSpin

theorem setMatesFld {f sp x} (h : Keeps s t) : Keeps s (t.setMatesFld f sp x) := h.each fun _ _ h => h.setSpFld

theorem notice {sp bits} (h : Keeps s t) : Keeps s (t.notice sp bits) := h.setFld

theorem writeEntries {p st} (h : Keeps s t) : Keeps s (t.writeEntries p st) :=
  h.each fun _ _ h => h.setReg.setReg.setSpFld

theorem halted {sp} (h : Keeps s t) : Keeps s (t.halted sp) :=
  h.each fun _ _ h => h.setSpFld.setSpFld.setSpFld.setSpFld.setLat

theorem passWord {sp pc'} (h : Keeps s t) : Keeps s (t.passWord sp pc') :=
  .setLat (h.each (fun _ _ h => h.setSpFld.incFld.updSpin.setLat))

theorem retire {sp pc'} (h : Keeps s t) : Keeps s (t.retire sp pc') := .ite h.passWord.halted h.passWord

theorem endWait {sp w pc hit} (h : Keeps s t) : Keeps s (t.endWait sp w pc hit) :=
  h.setSpFld.updMates.setMatesFld.retire

theorem testWait {sp} (h : Keeps s t) : Keeps s (t.testWait sp) := by
  unfold State.testWait
  refine .ite ?_ h
  split
  · split
    · exact h.endWait
    · exact h
  · exact h

theorem twinOn {d k} (h : Keeps s t) : Keeps s (t.twinOn d k) := .ite h h.setFld.setFld

theorem doorbell {sp bits} (h : Keeps s t) : Keeps s (t.doorbell sp bits) :=
  .ite h.event (.ite (.twinOn (.ite h.setSpFld.setLat h.setSpFld)) (.testWait (.ite h.setSpFld.setLat h.setSpFld)))

theorem flush {sp pc} (h : Keeps s t) : Keeps s (t.flush sp pc) := .setLat (h.each (fun _ _ h => h.setSpFld.updSpin))

theorem takeException {sp pc cause info mem} (h : Keeps s t) : Keeps s (t.takeException sp pc cause info mem) := by
  unfold State.takeException
  extract_lets dbl a b v c d
  have hb : Keeps s b := h.each fun _ _ h => h.setSpFld.setSpFld.setReg
  have hv : Keeps s v := .ite hb.setFld hb
  have hc : Keeps s c := hv.flush.setMatesFld
  exact .ite h.flush.setMatesFld.halted.event (.ite (.ite hc.halted hc.setMatesFld) hv.flush.setMatesFld.halted.event)

theorem runOp {sp o} (h : Keeps s t) : Keeps s (t.runOp sp o) := by
  unfold State.runOp
  split
  · exact .ite h.setMatesFld h
  · exact .ite (h.each (fun _ _ h => h.setSpFld.setSpFld.setLat)) h
  · exact .ite h.setMatesFld h

theorem returnFromHandler {sp pc skip} (h : Keeps s t) : Keeps s (t.returnFromHandler sp pc skip).1 := by
  unfold State.returnFromHandler
  split
  · exact h.setMatesFld
  · exact h.event

theorem takeInterrupt {sp} (h : Keeps s t) : Keeps s (t.takeInterrupt sp) :=
  .ite (.halted (.flush (h.each (fun _ _ h => h.setSpFld.setSpFld.setSpFld)))) (.setMatesFld (.flush (h.each (fun _ _ h
    => h.setSpFld.setSpFld.setSpFld))))

theorem plyStop {p who} (h : Keeps s t) : Keeps s (t.plyStop p who) :=
  .writeEntries (.record (h.each (fun _ _ h => .ite h (.ite (.ite h.updSpin.setSpFld.setLat h.updSpin) h))))

theorem machineCheck {sp cause} (h : Keeps s t) : Keeps s (t.machineCheck sp cause) := by
  unfold State.machineCheck
  dsimp only
  split
  · exact .ite h.setSpFld.event.plyStop.notice.event h.setSpFld.event
  · exact h.setSpFld.event

/-! ## Map -/

theorem sendFlit {q vc} (h : Keeps s t) : Keeps s (t.sendFlit q vc) := h.setLat.setLat

theorem flitLeaves {pkg unit addr response late} (h : Keeps s t) :
    Keeps s (t.flitLeaves pkg unit addr response late) := by
  unfold State.flitLeaves
  split
  · exact h.sendFlit
  · exact h

theorem wardenDoorbell {d bits} (h : Keeps s t) : Keeps s (t.wardenDoorbell d bits) := h.updSticky

theorem ring {d u' tgt bits} (h : Keeps s t) : OptKeeps s (t.ring d u' tgt bits) :=
  .ite (.ite h.flitLeaves trivial) (.ite h.wardenDoorbell (.ite trivial h.doorbell))

/-! ## Regs -/

theorem putReg {r d i v} (h : Keeps s t) : Keeps s (t.putReg r d i v) := .ite h.setWreg h.setReg

theorem putFld {f d i x} (h : Keeps s t) : Keeps s (t.putFld f d i x) := h.putReg

theorem presenceRefused {d addr p} (h : Keeps s t) : Keeps s (t.presenceRefused d addr p) := h.event

theorem plainWrite {r d i v} (h : Keeps s t) : Keeps s (t.plainWrite r d i v) := by
  unfold State.plainWrite
  dsimp only
  split
  · exact h.putReg.presenceRefused
  · exact h.putReg

theorem wardenRefused {addr} (h : Keeps s t) : Keeps s (t.wardenRefused addr) := h.wevent

theorem guardedWrite {m r d i f} (h : Keeps s t) (hf : ∀ u, Keeps s u → Keeps s (f u)) :
    Keeps s (t.guardedWrite m r d i f) :=
  .ite (hf _ h) h.wardenRefused

theorem resetRegs {sel keep} (h : Keeps s t) : Keeps s (t.resetRegs sel keep) := h.record

theorem resetLats {sel} (h : Keeps s t) : Keeps s (t.resetLats sel) := h.record

theorem powerWrite {m r d i f} (h : Keeps s t) (hf : ∀ u, Keeps s u → Keeps s (f u)) :
    Keeps s (t.powerWrite m r d i f) :=
  .ite (hf _ h) h.wardenRefused

/-! ## Legal -/

theorem putImage {w l} (h : Keeps s t) : Keeps s (t.putImage w l) := h.each fun _ _ h => h.setReg

/-! ## Tray -/

theorem setTxData {w b bs} (h : Keeps s t) : Keeps s (t.setTxData w b bs) := h.each fun _ _ h => h.setReg

theorem txPending {w b} (h : Keeps s t) : Keeps s (t.txPending w b) := h.setFld.setFld.setLat.setLat.setLat

theorem sendOrw {ty dst payload retry life} (h : Keeps s t) : Keeps s (t.sendOrw ty dst payload retry life) := by
  unfold State.sendOrw
  dsimp only
  refine .ite ?_ h
  split
  · exact h
  · exact h.setReg.setReg.setTxData.txPending.setLat

theorem powerReport {result seq} (h : Keeps s t) : Keeps s (t.powerReport result seq) := h.sendOrw

theorem breachSend {ten kind unit guaranteed delivered} (h : Keeps s t) :
    Keeps s (t.breachSend ten kind unit guaranteed delivered) :=
  h.sendOrw

theorem emergencySend {causes} (h : Keeps s t) : Keeps s (t.emergencySend causes) := h.sendOrw

theorem announce (h : Keeps s t) : Keeps s t.announce := h.sendOrw

theorem statusSend {forced} (h : Keeps s t) : Keeps s (t.statusSend forced) := h.record.sendOrw

theorem tbJoin {w} (h : Keeps s t) : Keeps s (t.tbJoin w) := .ite h.setFld.setFld.setFld h

theorem txLost {w} (h : Keeps s t) : Keeps s (t.txLost w) := h.setLat.each fun _ _ h => h.setFld.setLat.setLat.setLat

theorem tbRole {w o forced} (h : Keeps s t) : Keeps s (t.tbRole w o forced) := by
  unfold State.tbRole
  extract_lets a b c
  have ha : Keeps s a := h.txLost.setFld.setFld
  have hb : Keeps s b := .ite ha ha.setFld
  have hc : Keeps s c := .ite hb.setFld.tbJoin hb
  exact hc.announce.powerReport.statusSend

/-! ## Role -/

theorem setVid {d k x} (h : Keeps s t) : Keeps s (t.setVid d k x) := .ite h.setFld.setFld h.setFld

theorem floorTwins (h : Keeps s t) : Keeps s t.floorTwins := h.each fun _ _ h => h.each (fun _ _ h => .ite h.setVid h)

theorem svOff {w c} (h : Keeps s t) : Keeps s (t.svOff w c) := by
  unfold State.svOff
  dsimp only
  split
  · exact h.setLat.setLat.setFld
  · exact h.setLat.setLat.setFld
  · exact h.setLat.setLat.setFld
  · exact h.setLat.setLat

theorem signalsEnd (h : Keeps s t) : Keeps s t.signalsEnd := h.each fun _ _ h => .ite h.putFld.event h

theorem loopsHeld {w} (h : Keeps s t) : Keeps s (t.loopsHeld w) := h.each fun _ _ h => .ite h.setLat h

theorem releaseValves {w} (h : Keeps s t) : Keeps s (t.releaseValves w) := h.each fun _ _ h => .ite h h.svOff

theorem forcedFans {w} (h : Keeps s t) : Keeps s (t.forcedFans w) := h.each fun _ _ h => h.setFld.setFld.setLat.setLat

theorem forcedBegin {w} (h : Keeps s t) : Keeps s (t.forcedBegin w) :=
  h.floorTwins.forcedFans.signalsEnd.loopsHeld.each fun _ _ h => .ite h.setFld h.setFld.svOff

theorem rollbackAgain (h : Keeps s t) : Keeps s t.rollbackAgain := .ite (h.setWfld.each (fun _ _ h => h.setLat)) h

theorem takeover {w first} (h : Keeps s t) (hf : ∀ u, Keeps s u → Keeps s (first u)) :
    Keeps s (t.takeover w first) := by
  unfold State.takeover
  extract_lets stale a b c d
  have hc : Keeps s c := (hf _ h.setFld.setFld.setFld.setFld.setFld).rollbackAgain.wevent
  have hd : Keeps s d := .ite hc.wevent hc
  exact hd.forcedBegin.hostDoorbell.tbRole

theorem checkRoleWith {first} (h : Keeps s t) (hfirst : ∀ u, Keeps s u → Keeps s (first u)) :
    Keeps s (t.checkRoleWith first) :=
  .ite (h.takeover (hfirst)) (hfirst _ h)

theorem checkRole (h : Keeps s t) : Keeps s t.checkRole := h.checkRoleWith fun _ h => h

theorem resetSide {k} (h : Keeps s t) : Keeps s (t.resetSide k) :=
  .wevent (.ite h.setSide.setSide.raiseMsix.raiseMsix h.setSide.setSide)

theorem resetCdSide {d} (h : Keeps s t) : Keeps s (t.resetCdSide d) := h.updSticky.wevent

theorem cdDeliver {d} (h : Keeps s t) : Keeps s (t.cdDeliver d) := .ite h.doorbell h

theorem freeLocks {p} (h : Keeps s t) : Keeps s (t.freeLocks p) := h.each fun _ _ h => .ite h.setWfld.wevent h

theorem loadFirmware {w c} (h : Keeps s t) : Keeps s (t.loadFirmware w c) := h.setBytes.setLat

theorem retryFirmware {w before} (h : Keeps s t) : Keeps s (t.retryFirmware w before) := by
  unfold State.retryFirmware
  dsimp only
  split
  · exact h.setFld.setFld.loadFirmware.event
  · exact .ite h h.setLat

theorem loadTable {w n} (h : Keeps s t) : Keeps s (t.loadTable w n) := by
  unfold State.loadTable
  extract_lets c one a u1 u2 b d bs bad v1 v2 v3
  have ha : Keeps s a := .ite h.event h
  have hu : Keeps s u2 := (ha.each fun _ _ h => h.event).setFld.setFld
  have hd : Keeps s d := .ite ha.setFld.setFld.setLat.loadFirmware ha.setFld.setFld
  have hv : Keeps s v2 := hd.putImage.each fun _ _ h => h.event
  exact .ite (.ite hu.setLat hu) (.ite hd (setFld (.ite hv hv.setFld)))

theorem putStraps {w} (h : Keeps s t) : Keeps s (t.putStraps w) := h.setFld.setFld

theorem loadTables {w} (h : Keeps s t) : Keeps s (t.loadTables w) :=
  .setFld (h.resetRegs.each (fun _ _ h => h.loadTable))

theorem resetRan {k unit cause} (h : Keeps s t) : Keeps s (t.resetRan k unit cause) := h.setWfld.setWfld.wevent

theorem wdr {w cause} (h : Keeps s t) : Keeps s (t.wdr w cause) := by
  unfold State.wdr
  extract_lets a b c d e f g i j k l m n
  have he : Keeps s e := h.setFld.setFld.setFld.resetRegs.dropWaits.resetLats.setLat.clearBytes
  have hg : Keeps s g := he.putStraps.loadTables.retryFirmware.setFld.setFld
  have hi : Keeps s i := hg.each fun _ _ h => h.setFld
  have hj : Keeps s j := hi.each fun _ _ h => h.setFld
  have hk : Keeps s k := .ite hj.forcedBegin.setLat hj
  have hm : Keeps s m := hk.resetSide.resetSide.checkRoleWith fun _ h => .ite h.event h
  exact hm.freeLocks.setLat.resetRan

/-! ## Bank -/

theorem setBnk {b cd wd hi lo x} (h : Keeps s t) : Keeps s (t.setBnk b cd wd hi lo x) := h.putFld

theorem setBnkBit {b lo} (h : Keeps s t) : Keeps s (t.setBnkBit b lo) := h.setBnk

theorem setBankReq {b x} (h : Keeps s t) : Keeps s (t.setBankReq b x) := h.setBnk

theorem setBankOwn {b x} (h : Keeps s t) : Keeps s (t.setBankOwn b x) := h.setBnk

theorem clearBank {b} (h : Keeps s t) : Keeps s (t.clearBank b) := h.clearBytes

theorem bankWake {b} (h : Keeps s t) : Keeps s (t.bankWake b) := .ite h.setBankOwn h

theorem bankSettle {b} (h : Keeps s t) : Keeps s (t.bankSettle b) :=
  .ite h.setBankOwn (.ite h (.ite h.setBankOwn (.ite h.setBankOwn.clearBank h.setBankOwn)))

theorem bankWoken {b} (h : Keeps s t) : Keeps s (t.bankWoken b) := .ite h.setBankOwn h

theorem bankEvent {b cd wd sev payload} (h : Keeps s t) : Keeps s (t.bankEvent b cd wd sev payload) := by
  unfold State.bankEvent
  split <;> exact h.event

theorem setBankQueue {b q} (h : Keeps s t) : Keeps s (t.setBankQueue b q) := h.record

theorem bankUsed {b} (h : Keeps s t) : Keeps s (t.bankUsed b) := by
  unfold State.bankUsed
  split
  · exact h.setLat
  · exact h

theorem bankTouch {b} (h : Keeps s t) : Keeps s (t.bankTouch b).2 := by
  unfold State.bankTouch
  extract_lets u
  have hu : Keeps s u := by
    unfold u
    refine .ite h ?_
    split
    · exact h.setBankReq.setBnkBit.event
    · exact h.setBankReq.setBnkBit
  split
  · exact h
  · split
    · exact h.bankUsed
    · split
      · exact hu.bankUsed
      · exact hu.setBankOwn

theorem mtestRestore {b} (h : Keeps s t) : Keeps s (t.mtestRestore b) := h.setLat.putFld

theorem bankName {b off n} (h : Keeps s t) : Keeps s (t.bankName b off n) := by
  unfold State.bankName
  split
  · exact .ite h.mtestRestore h
  · exact h

theorem bankReach {b off n} (h : Keeps s t) : Keeps s (t.bankReach b off n).2 := h.bankName.bankTouch

theorem aliasWrite {mode a bs} (h : Keeps s t) : Keeps s (t.aliasWrite mode a bs) := h.setBytes

/-! ## Quarry -/

theorem setFlaw {a x} (h : Keeps s t) : Keeps s (t.setFlaw a x) := h.record

theorem mend {a n} (h : Keeps s t) : Keeps s (t.mend a n) := .ite h.record (h.record.each (fun _ _ h => h.record))

theorem setSkein {d l} (h : Keeps s t) : Keeps s (t.setSkein d l) := h.record

theorem skeinFull {d} (h : Keeps s t) : Keeps s (t.skeinFull d) := .ite h.setFld.setLat.event h.setFld

theorem skeinMark {d} (h : Keeps s t) : Keeps s (t.skeinMark d) :=
  have hm {l d i v c f w p} : Keeps s ((t.setLat l d i v).event c f w p) := h.setLat.event
  .ite (.ite (hm.ring.getD hm) hm) h

theorem skeinAppend {d handle place frag bytes} (h : Keeps s t) : Keeps s (t.skeinAppend d handle place frag bytes) :=
  h.setSkein.setLat.skeinMark

theorem rgnWrite {d k off bs} (h : Keeps s t) : Keeps s (t.rgnWrite d k off bs) := h.each fun _ _ h => h.setBytes.mend

theorem logOld {d k place frag bytes} (h : Keeps s t) : Keeps s (t.logOld d k place frag bytes) :=
  h.each fun _ _ h => h.skeinAppend

theorem logStall {d k n} (h : Keeps s t) : Keeps s (t.logStall d k n) := h.each fun _ _ h => .ite h h.skeinFull

theorem slots {d n3} (h : Keeps s t) : Keeps s (t.slots d n3) := h.setLat.setReg

theorem rebuilt {d n} (h : Keeps s t) : Keeps s (t.rebuilt d n) := h.setReg

theorem spendChange {d k r n log} (h : Keeps s t) : Keeps s (t.spendChange d k r n log) := h.each fun _ _ h => h.slots

theorem cxlDiscard {a} (h : Keeps s t) : Keeps s (t.cxlDiscard a) := .ite h.setLat.event h

/-! ## Channels -/

theorem noteLosses {before d ps opened} (h : Keeps s t) : Keeps s (t.noteLosses before d ps opened) := by
  unfold State.noteLosses
  dsimp only
  split
  · refine .event ?_
    refine .each ?_ (fun _ _ h => .ite h h.setFld)
    refine h.each (fun _ _ h => ?_)
    split
    · exact h.setLat
    · exact h
    · exact h.setFld
  · refine .each ?_ (fun _ _ h => .ite h h.setFld)
    refine h.each (fun _ _ h => ?_)
    split
    · exact h.setLat
    · exact h
    · exact h.setFld

theorem retirePc {d p} (h : Keeps s t) : Keeps s (t.retirePc d p) := by
  unfold State.retirePc
  extract_lets others safe w a b c es e f g
  have hb : Keeps s b := .ite h.setFld.incFld.setFld h.setFld.incFld
  have hf : Keeps s f := hb.event.record.setLat
  have hg : Keeps s g := .ite hf.setLat hf.setLat.event
  exact hg.noteLosses

theorem sourcesGone {before d} (h : Keeps s t) : Keeps s (t.sourcesGone before d) := .ite h h.record.noteLosses

/-! ## Mesh -/

theorem setLinkRetired {d l} (h : Keeps s t) : Keeps s (t.setLinkRetired d l) := h.setReg.setReg

theorem writeRoutes (h : Keeps s t) : Keeps s t.writeRoutes := h.each fun _ _ h => h.setLat

theorem reroute (h : Keeps s t) : Keeps s t.reroute := h.writeRoutes.each fun _ _ h => h.setLat

theorem meshSend {d l x} (h : Keeps s t) : Keeps s (t.meshSend d l x) := h.record

theorem meshForward {d l x} (h : Keeps s t) : Keeps s (t.meshForward d l x) := by
  unfold State.meshForward
  refine .ite h ?_
  split
  · exact h.meshSend.incFld
  · exact h

theorem meshArrives {d l x} (h : Keeps s t) : Keeps s (t.meshArrives d l x) := .ite h h.meshSend

theorem meshForget {d} (h : Keeps s t) : Keeps s (t.meshForget d) := h.setReg.record

/-! ## Ply -/

theorem copyReplicated {a b} (h : Keeps s t) : Keeps s (t.copyReplicated a b) :=
  .setSpFld (.setSpFld (h.updSpin.each (fun _ _ h => h.setReg)))

theorem clearMortar {sp} (h : Keeps s t) : Keeps s (t.clearMortar sp) := h.updSpin

theorem freeEntry {m} (h : Keeps s t) : Keeps s (t.freeEntry m) := .ite h.setReg.setReg.setSpFld h

theorem noticeAt {m bits} (h : Keeps s t) : Keeps s (t.noticeAt m bits) := .ite h.notice h

theorem replacePly {p qs} (h : Keeps s t) : Keeps s (t.replacePly p qs) := h.record

theorem formPly {ms p} (h : Keeps s t) : Keeps s (t.formPly ms p) := by
  unfold State.formPly
  extract_lets q u
  have hu : Keeps s u := by
    unfold u; split
    · exact h.each fun _ _ h => .clearMortar (.ite h.copyReplicated h)
    · exact h
  exact hu.record.writeEntries

theorem joinPlies {ps p} (h : Keeps s t) : Keeps s (t.joinPlies ps p) := by
  unfold State.joinPlies
  split
  · exact h
  · extract_lets n subs q u
    have hu : Keeps s u := by
      refine h.each fun _ _ h => ?_
      split
      · exact .ite (.clearMortar (.ite h.copyReplicated h)) (.ite h.copyReplicated h)
      · exact h
    exact hu.record.writeEntries

theorem releaseEnrolment {p} (h : Keeps s t) : Keeps s (t.releaseEnrolment p) := by
  unfold State.releaseEnrolment
  split
  · split
    · exact h.setWreg.setWreg.wevent
    · exact h
  · exact h

theorem splitPly {p} (h : Keeps s t) : Keeps s (t.splitPly p) :=
  .noticeAt (h.releaseEnrolment.replacePly.each (fun _ _ h => h.writeEntries))

theorem dissolvePly {p} (h : Keeps s t) : Keeps s (t.dissolvePly p) :=
  .noticeAt (h.releaseEnrolment.replacePly.each (fun _ _ h => h.freeEntry))

theorem reformPly {p pairs} (h : Keeps s t) : Keeps s (t.reformPly p pairs) := by
  unfold State.reformPly
  dsimp only
  split
  · refine .noticeAt ?_
    refine .writeEntries ?_
    refine .replacePly ?_
    split
    · split
      · refine .setWfld ?_
        refine .setWfld ?_
        refine .each ?_ (fun _ _ h => ?_)
        · refine h.each (fun _ _ h => ?_)
          split
          · exact h.freeEntry
          · exact h
        · refine .ite ?_ h
          refine .updSpin ?_
          split
          · exact .ite h.copyReplicated h
          · exact h
      · refine .each ?_ (fun _ _ h => ?_)
        · refine h.each (fun _ _ h => ?_)
          split
          · exact h.freeEntry
          · exact h
        · refine .ite ?_ h
          refine .updSpin ?_
          split
          · exact .ite h.copyReplicated h
          · exact h
    · refine .each ?_ (fun _ _ h => ?_)
      · refine h.each (fun _ _ h => ?_)
        split
        · exact h.freeEntry
        · exact h
      · refine .ite ?_ h
        refine .updSpin ?_
        split
        · exact .ite h.copyReplicated h
        · exact h
  · refine .writeEntries ?_
    refine .replacePly ?_
    split
    · split
      · refine .setWfld ?_
        refine .setWfld ?_
        refine .each ?_ (fun _ _ h => ?_)
        · refine h.each (fun _ _ h => ?_)
          split
          · exact h.freeEntry
          · exact h
        · refine .ite ?_ h
          refine .updSpin ?_
          split
          · exact .ite h.copyReplicated h
          · exact h
      · refine .each ?_ (fun _ _ h => ?_)
        · refine h.each (fun _ _ h => ?_)
          split
          · exact h.freeEntry
          · exact h
        · refine .ite ?_ h
          refine .updSpin ?_
          split
          · exact .ite h.copyReplicated h
          · exact h
    · refine .each ?_ (fun _ _ h => ?_)
      · refine h.each (fun _ _ h => ?_)
        split
        · exact h.freeEntry
        · exact h
      · refine .ite ?_ h
        refine .updSpin ?_
        split
        · exact .ite h.copyReplicated h
        · exact h

theorem memberGone {m cause} (h : Keeps s t) : Keeps s (t.memberGone m cause) := by
  unfold State.memberGone
  split
  · exact h
  · exact .ite h (.ite h.replacePly.plyStop.noticeAt h.replacePly.plyStop.noticeAt.event)

theorem memberLost {sp cause} (h : Keeps s t) : Keeps s (t.memberLost sp cause) := h.memberGone

theorem jobForm {d v x} : JobKeeps s (t.jobForm d v x) := by
  unfold State.jobForm
  split
  · exact fun _ h => h
  · exact fun _ h => h.formPly

theorem jobJoin {d v x} : JobKeeps s (t.jobJoin d v x) := by
  unfold State.jobJoin
  split
  · exact fun _ h => h
  · exact fun _ h => h.joinPlies

theorem jobOn {d v codes act} (ha : ∀ p u, Keeps s u → Keeps s (act p u)) : JobKeeps s (t.jobOn d v codes act) := by
  unfold State.jobOn
  split
  · exact fun _ h => h
  · exact fun _ h => ha _ _ h

theorem jobSplit {d v} : JobKeeps s (t.jobSplit d v) := jobOn fun _ _ h => h.splitPly

theorem jobDissolve {d v} : JobKeeps s (t.jobDissolve d v) := jobOn fun _ _ h => h.dissolvePly

theorem jobRun {d v o} : JobKeeps s (t.jobRun d v o) := by
  refine jobOn fun _ _ h => ?_
  split
  · exact h.runOp
  · exact h

theorem jobReform {d v x} : JobKeeps s (t.jobReform d v x) := by
  unfold State.jobReform
  extract_lets home
  split
  · exact fun _ h => h
  · extract_lets p
    split
    · exact fun _ h => h.reformPly
    · exact fun _ h => h

theorem plyJob {d v x} : JobKeeps s (t.plyJob d v x) := by
  unfold State.plyJob
  split
  · exact jobForm
  · exact jobJoin
  · exact jobSplit
  · exact jobDissolve
  · exact jobRun
  · exact jobRun
  · exact jobRun
  · exact jobReform
  · exact fun _ h => h

theorem setEntryState {sp st} (h : Keeps s t) : Keeps s (t.setEntryState sp st) := h.setFld

theorem claim {sps} (h : Keeps s t) : Keeps s (t.claim sps) := h.each fun _ _ h => h.setEntryState

theorem unclaimAll {sps} (h : Keeps s t) : Keeps s (t.unclaimAll sps) := h.each fun _ _ h => .ite h.setEntryState h

theorem setPlyRun {d x} (h : Keeps s t) : Keeps s (t.setPlyRun d x) := h.record

theorem jobNow {d x} : JobKeeps s (t.jobNow d x) := plyJob

theorem unclaim {d} (h : Keeps s t) : Keeps s (t.unclaim d) := by
  unfold State.unclaim
  split
  · exact h.unclaimAll.setPlyRun
  · exact h

theorem plyRefused {d} (h : Keeps s t) : Keeps s (t.plyRefused d) := h.setFld.event

theorem plyTaken {d v} (h : Keeps s t) : Keeps s (t.plyTaken d v) := h.setFld.setFld.setFld.setFld.setLat.record

theorem keepBell {d j c} (h : Keeps s t) : Keeps s (t.keepBell d j c) := by
  unfold State.keepBell
  split
  · exact .ite h.setLat.setLat.setLat h.setLat
  · exact h.setLat

theorem plyStart {d x j} (h : Keeps s t) (hj : JobKeeps s j) : Keeps s (t.plyStart d x j) := by
  unfold State.plyStart
  extract_lets c u v
  have hu : Keeps s u := h.keepBell.setLat.setLat
  refine .ite hu ?_
  split
  · exact hu.claim.setPlyRun
  · exact (hj u hu).setLat

theorem plyCmdWrite {m d v job} (h : Keeps s t) (hj : ∀ u x, JobKeeps s (job u x)) :
    Keeps s (t.plyCmdWrite m d v job) :=
  .ite h.plyRefused (h.plyTaken.plyStart (hj _ _))

theorem plyEffect {d} (h : Keeps s t) : Keeps s (t.plyEffect d) := by
  unfold State.plyEffect
  split
  · exact h
  · extract_lets u j
    split
    · exact (jobNow u h.unclaim).setLat
    · exact h.unclaim.setLat

theorem plyResult {d} (h : Keeps s t) : Keeps s (t.plyResult d) := by
  unfold State.plyResult
  extract_lets r i u v tgt
  have hu : Keeps s u := h.setFld.setFld.setLat
  have hv : Keeps s v := .ite hu.setFld.setFld.event hu.event
  refine .ite ?_ hv
  split
  · next k => exact hv.ring.of_eq k
  · exact hv.event

theorem plyComplete {d} (h : Keeps s t) : Keeps s (t.plyComplete d) := .ite h h.plyEffect.plyResult

/-! ## Loss -/

theorem trigger {unit fails} (h : Keeps s t) : Keeps s (t.trigger unit fails) := .ite h (.ite h.setLat.setLat h.setLat)

theorem noteRunning {sp} (h : Keeps s t) : Keeps s (t.noteRunning sp) := by
  unfold State.noteRunning
  split
  · exact .ite h.setLat h
  · exact h

theorem checkSpindle {sp cause} (h : Keeps s t) : Keeps s (t.checkSpindle sp cause) := by
  unfold State.checkSpindle
  dsimp only
  split
  · exact h.noteRunning.machineCheck.trigger
  · exact h.noteRunning.machineCheck

theorem loseSpindle {sp cause} (h : Keeps s t) : Keeps s (t.loseSpindle sp cause) := by
  unfold State.loseSpindle
  dsimp only
  split
  · exact h.noteRunning.memberLost.setWfld.trigger
  · exact h.noteRunning.memberLost

theorem clearSpLats {sp} (h : Keeps s t) : Keeps s (t.clearSpLats sp) := h.each fun _ _ h => h.setLat

theorem clearSpin {sp} (h : Keeps s t) : Keeps s (t.clearSpin sp) := h.record.clearSpLats

theorem freshSpindle {sp} (h : Keeps s t) : Keeps s (t.freshSpindle sp) := h.resetRegs.clearSpin.setSpFld

theorem spnReset {sp} (h : Keeps s t) : Keeps s (t.spnReset sp) := h.loseSpindle.freshSpindle.setSpFld.freeLocks

theorem spnResetEnd {sp} (h : Keeps s t) : Keeps s (t.spnResetEnd sp) := .ite h.setSpFld h

theorem banksOff {sp} (h : Keeps s t) : Keeps s (t.banksOff sp) := h.each fun _ _ h => h.setBankOwn.clearBank

theorem twinOff {d k} (h : Keeps s t) : Keeps s (t.twinOff d k) :=
  h.setFld.setFld.setFld.setLat.setLat.setLat.each fun _ _ h => h.resetRegs.clearSpin.setSpFld.setSpFld.banksOff

theorem holdFlows {before} (h : Keeps s t) : Keeps s (t.holdFlows before) := h.each fun _ _ h => .ite h h.setLat.setLat

theorem quarryLoss {d} (h : Keeps s t) : Keeps s (t.quarryLoss d) :=
  .ite h (.trigger (h.setLat.setLat.setLat.each (fun _ _ h => h.sourcesGone)))

theorem loadDieT {d} (h : Keeps s t) : Keeps s (t.loadDieT d) := .ite (h.each (fun _ _ h => h.setReg)) h

theorem clearDieMem {d dark} (h : Keeps s t) : Keeps s (t.clearDieMem d dark) := h.clearBytes

theorem clearSlice {d} (h : Keeps s t) : Keeps s (t.clearSlice d) := h.clearBytes.record

theorem dieGone {d dark} (h : Keeps s t) : Keeps s (t.dieGone d dark) := by
  unfold State.dieGone
  extract_lets sps a b p q f v w x y
  have hb : Keeps s b := .clearDieMem (.each (h.each fun _ _ h => h.loseSpindle) fun _ _ h => h.clearSpin)
  have hq : Keeps s q := h.quarryLoss.setSkein
  have hf : Keeps s f := h.freeLocks
  have hv : Keeps s v := .ite hb.freeLocks.resetCdSide.dropWaits.unclaim
    (.ite (.ite hq.clearSlice hq) (.ite h.record (.ite hf.record h)))
  have hx : Keeps s x := hv.resetLats.resetRegs
  have hy : Keeps s y := .ite hx hx.loadDieT
  exact .ite hy.holdFlows hy

theorem railsOpen {d cause} (h : Keeps s t) : Keeps s (t.railsOpen d cause) :=
  .ite (.dieGone (.ite h.setFld.setWfld h.setFld.setWfld.setFld)) h

theorem isolate {d cause} (h : Keeps s t) : Keeps s (t.isolate d cause) := h.setFld.railsOpen

theorem railsClose {d} (h : Keeps s t) : Keeps s (t.railsClose d) :=
  .ite h (.ite h.setFld (.ite (.cdDeliver (.ite h.setFld.setFld.setWfld h.setFld.setFld.setWfld.setWfld)) (.ite
    h.setFld.setFld.setWfld h.setFld.setFld.setWfld.setWfld)))

theorem stopClose {d} (h : Keeps s t) : Keeps s (t.stopClose d) := .ite h h.setFld.setFld

theorem stopOff {d} (h : Keeps s t) : Keeps s (t.stopOff d) := .ite h.setFld.setFld.meshForget h.setFld

theorem stopOpen {d cause} (h : Keeps s t) : Keeps s (t.stopOpen d cause) := h.stopOff.isolate

/-! ## Retire -/

theorem stopUnit {i} (h : Keeps s t) : Keeps s (t.stopUnit i) := .ite h.setLat.flush.halted h

theorem stopUnits (h : Keeps s t) : Keeps s t.stopUnits :=
  h.each fun _ _ h => .each (.ite h.stopUnit.setWfld h.stopUnit) (fun _ _ h => h.setLat)

theorem quiesce {d} (h : Keeps s t) : Keeps s (t.quiesce d) := h.setFld.setLat

theorem hold {code payload} (h : Keeps s t) : Keeps s (t.hold code payload) :=
  .wevent (.setLat (.setWfld (h.stopUnits.each (fun _ _ h => h.quiesce))))

theorem addRetired {u'} (h : Keeps s t) : Keeps s (t.addRetired u') := .ite h h.updSticky.setWfld

theorem logRetired {u' cls} (h : Keeps s t) : Keeps s (t.logRetired u' cls) := .ite h.record.setWfld h.wevent

theorem remap {d sp} (h : Keeps s t) : Keeps s (t.remap d sp) := by
  unfold State.remap
  dsimp only
  split
  · exact h.loseSpindle.twinOn.setSpFld.setSpFld.freshSpindle.banksOff.setReg.wevent
  · exact .ite h.loseSpindle.setLat.clearSpin.banksOff.freeLocks.setLat.event
      h.loseSpindle.setLat.clearSpin.banksOff.freeLocks

theorem retireSpindle {d ph} (h : Keeps s t) : Keeps s (t.retireSpindle d ph) := by
  unfold State.retireSpindle
  split
  · exact h.remap
  · exact h

theorem retireTwin {d k} (h : Keeps s t) : Keeps s (t.retireTwin d k) := by
  unfold State.retireTwin
  dsimp only
  refine .setFld ?_
  refine .setFld ?_
  refine .setFld ?_
  split
  · refine .remap ?_
    split
    · exact h.setFld.addRetired.addRetired.remap
    · exact h.setFld.addRetired.addRetired
  · split
    · exact h.setFld.addRetired.addRetired.remap
    · exact h.setFld.addRetired.addRetired

theorem retireDie {d} (h : Keeps s t) : Keeps s (t.retireDie d) := h.setLat.isolate.event

theorem retireLink {d l} (h : Keeps s t) : Keeps s (t.retireLink d l) := h.setLinkRetired.event.reroute

theorem retireStop {d} (h : Keeps s t) : Keeps s (t.retireStop d) :=
  .ite (h.setLat.event.reroute.each (fun _ _ h => h.loseSpindle)) (.ite h.setLat.event.reroute.quarryLoss
    h.setLat.event.reroute)

theorem setWpFld {f p x} (h : Keeps s t) : Keeps s (t.setWpFld f p x) := h.setFld

theorem satWpFld {f p n} (h : Keeps s t) : Keeps s (t.satWpFld f p n) := h.satFld

theorem dropFlits {p} (h : Keeps s t) : Keeps s (t.dropFlits p) := h.setLat.setLat.setLat.each fun _ _ h => h.setLat

theorem retirePort {p} (h : Keeps s t) : Keeps s (t.retirePort p) := h.setWpFld.setWpFld.dropFlits.event.holdFlows

theorem warpRetrain {again p} (h : Keeps s t) (hagain : ∀ u x1 x2, Keeps s u → Keeps s (again u x1 x2)) :
    Keeps s (State.warpRetrain again t p) :=
  hagain _ _ _ h.setWpFld.satWpFld.setWpFld.setWpFld.setLat.event.holdFlows

theorem retireLane {again p l} (h : Keeps s t) (hagain : ∀ u x1 x2, Keeps s u → Keeps s (again u x1 x2)) :
    Keeps s (State.retireLane again t p l) :=
  .ite h.setWpFld.event.addRetired.retirePort (.ite h.setWpFld.event (h.setWpFld.event.warpRetrain (hagain)))

theorem enact {again u'} (h : Keeps s t) (ha : ∀ u x y, Keeps s u → Keeps s (again u x y)) :
    Keeps s (State.enact again t u') := by
  unfold State.enact
  extract_lets d x
  refine .ite ?_ (.ite h.retireDie (.ite h.retireLink (.ite h.retireStop (.ite ?_ (.ite ?_ ?_)))))
  · exact .ite h.wdr.setLat.checkRole h
  · exact .ite h.retireSpindle (.ite h.retireTwin h)
  · exact .ite h.retirePc h
  · exact .ite (.ite h.retirePort (.ite (h.retireLane ha) h)) h

theorem retireUnit {again u' cls} (h : Keeps s t) (hagain : ∀ u x1 x2, Keeps s u → Keeps s (again u x1 x2)) :
    Keeps s (State.retireUnit again t u' cls) :=
  .ite h (.logRetired (h.addRetired.event.enact (hagain)))

theorem takeAction {again cls u'} (h : Keeps s t) (hagain : ∀ u x1 x2, Keeps s u → Keeps s (again u x1 x2)) :
    Keeps s (State.takeAction again t cls u') := by
  unfold State.takeAction
  split
  · exact h.event
  · exact h.retireUnit (hagain)
  · exact h.retireUnit (hagain)
  · exact h.hold
  · exact h

theorem occurN {n cls w} (h : Keeps s t) : Keeps s (t.occurN n cls w) := by
  induction n generalizing t cls w with
  | zero => exact h
  | succ n ih => exact .ite h (.ite (h.updSticky.takeAction fun _ _ _ h => ih h) h.updSticky)

theorem occur {cls u'} (h : Keeps s t) : Keeps s (t.occur cls u') := h.occurN

theorem check {sp cause} (h : Keeps s t) : Keeps s (t.check sp cause) := h.checkSpindle.occur

theorem reportLost {sp} (h : Keeps s t) : Keeps s (t.reportLost sp) :=
  .ite h.event.loseSpindle.setSpFld.occur h.loseSpindle

theorem loseRemote {m} (h : Keeps s t) : Keeps s (t.loseRemote m) := by
  unfold State.loseRemote
  split
  · exact h
  · dsimp only
    split
    · refine .trigger ?_
      refine .setWfld ?_
      refine .memberGone ?_
      split
      · exact h.noteRunning
      · exact h
    · refine .memberGone ?_
      split
      · exact h.noteRunning
      · exact h

theorem execPlyMemberLost {pkg sp} (h : Keeps s t) : OutKeeps s (execPlyMemberLost pkg sp t) :=
  .unit (.ite h.reportLost h.loseRemote)

/-! ## Fragments -/

theorem fragCorrect {a} (h : Keeps s t) : Keeps s (t.fragCorrect a) := h.setFlaw.satFld.event.occur

theorem fragUncorrected {a rebuilt} (h : Keeps s t) : Keeps s (t.fragUncorrected a rebuilt) := h.satFld.event.occur

theorem fragRebuild {a h'} (h : Keeps s t) : Keeps s (t.fragRebuild a h') :=
  .ite h.slots.rebuilt (.ite h.slots.slots.setFlaw h.slots)

theorem noteRaw {a} (h : Keeps s t) : Keeps s (t.noteRaw a) := by
  unfold State.noteRaw
  refine .ite ?_ (.ite h.event h)
  refine .ite h ?_
  split
  · refine .ite ?_ h.slots
    split
    · exact h.fragRebuild
    · exact h.slots
  · exact h.fragCorrect.slots
  · split
    · exact h.fragUncorrected.fragRebuild
    · exact h.fragUncorrected.slots

theorem noteRead {a n} (h : Keeps s t) : Keeps s (t.noteRead a n) := by
  refine foldl (fun acc : Bool × State => acc.2) h fun acc x hx => ?_
  split
  · split
    · exact hx.noteRaw
    · exact hx
  · exact hx

theorem noteRgn {d k off n} (h : Keeps s t) : Keeps s (t.noteRgn d k off n) := by
  unfold State.noteRgn
  split
  · exact h.each (fun _ _ h => h.noteRaw)
  · exact h

theorem writeFree {a bs} (h : Keeps s t) : Keeps s (t.writeFree a bs).2 := by
  unfold State.writeFree
  split
  · split
    · exact h
    · exact h.setBytes.mend.slots
  · split
    · exact h.cxlDiscard
    · exact h.setBytes.mend

theorem writeRgn {d k off a bs} (h : Keeps s t) : Keeps s (t.writeRgn d k off a bs).2 := by
  unfold State.writeRgn
  extract_lets r f u n v
  have hu : Keeps s u := .ite h.noteRgn h
  have hv : Keeps s v := h.noteRgn.record
  split
  · exact h
  split
  · exact h.cxlDiscard
  split
  · dsimp only
    exact hu.rgnWrite.spendChange
  split
  · dsimp only
    exact hv.logOld.rgnWrite.spendChange
  · exact h.logStall

theorem writePiece {a bs} (h : Keeps s t) : Keeps s (t.writePiece a bs).2 := by
  unfold State.writePiece
  split
  · exact h
  · exact h.writeFree
  · exact h.writeRgn

theorem writeSlow {a bs} (h : Keeps s t) : Keeps s (t.writeSlow a bs).2 := by
  refine foldl (fun acc : Status × State => acc.2) h fun acc x hx => ?_
  split
  · exact hx
  · exact hx.writePiece

theorem unpopulated {m write u' a} (h : Keeps s t) : Keeps s (t.unpopulated m write u' a) := by
  unfold State.unpopulated
  dsimp only
  split
  · exact .ite h.event.answer h.event.answer
  · exact h.event.answer

theorem endPlain {m write u' a st bs} (h : Keeps s t) : Keeps s (t.endPlain m write u' a st bs) := by
  unfold State.endPlain
  split
  · exact h.unpopulated
  · exact h.check.answer
  · exact h.answer

theorem strikeFlaw {a x} (h : Keeps s t) : Keeps s (t.strikeFlaw a x) := by
  unfold State.strikeFlaw
  split
  · exact .ite h h.setFlaw
  · exact h

theorem plainAccess {m a n data x} (h : Keeps s t) : Keeps s (t.plainAccess m a n data x) := by
  unfold State.plainAccess
  dsimp only
  split
  · exact .endPlain (.ite h.writeSlow.strikeFlaw h.writeSlow)
  · exact h.strikeFlaw.noteRead.endPlain

theorem execQdPlainAccess {m addr len data err poison} (h : Keeps s t) :
    OutKeeps s (execQdPlainAccess m addr len data err poison t) := by
  unfold Machine.execQdPlainAccess
  refine .next ?_
  split
  · exact h.plainAccess
  · exact h.plainAccess
  · exact h.unpopulated

theorem scrubCarve {d a} (h : Keeps s t) : Keeps s (t.scrubCarve d a) := by
  unfold State.scrubCarve
  extract_lets ok u
  have hu : Keeps s u := by
    unfold u
    split
    · exact h.slots
    · exact h.fragCorrect.slots
    · exact .ite h.fragUncorrected.slots.rebuilt h.fragUncorrected.slots
  exact hu.record

theorem execPatrolScrubRead {addr err} (h : Keeps s t) : OutKeeps s (execPatrolScrubRead addr err t) :=
  .unit (.ite (.ite (.scrubCarve (.ite h h.setFlaw)) (.noteRaw (.ite h h.setFlaw))) h)

/-! ## Regions -/

theorem qdRefused {d} (h : Keeps s t) : Keeps s (t.qdRefused d) := h.event

theorem qdIgnored {d payload} (h : Keeps s t) : Keeps s (t.qdIgnored d payload) := h.event

theorem toDie {d f} (h : Keeps s t) (hf : ∀ u, Keeps s u → Keeps s (f u)) : Keeps s (t.toDie d f) :=
  .ite (hf _ h) h.answer

theorem qdWrite {m d f} (h : Keeps s t) (hf : ∀ u, Keeps s u → Keeps s (f u)) : Keeps s (t.qdWrite m d f) := by
  unfold State.qdWrite
  refine h.toDie (fun _ h => ?_)
  split
  · exact h.qdRefused
  · exact hf _ h

theorem execQdCarveWrite {m d v} (h : Keeps s t) : OutKeeps s (execQdCarveWrite m d v t) :=
  .unit (h.qdWrite (fun _ h => .ite h.qdIgnored h.plainWrite.setFld))

theorem execQdCfgWrite {m d v} (h : Keeps s t) : OutKeeps s (execQdCfgWrite m d v t) :=
  .unit (h.qdWrite (fun _ h => .ite h.qdIgnored h.plainWrite))

theorem execQdTenWrite {m d k v} (h : Keeps s t) : OutKeeps s (execQdTenWrite m d k v t) :=
  .unit (h.qdWrite (fun _ h => .ite h.qdIgnored h.plainWrite))

theorem rgnFail {d c} (h : Keeps s t) : Keeps s (t.rgnFail d c) := h.setFld.setFld.qdIgnored

theorem rgnCmd {m d v f} (h : Keeps s t) (hf : ∀ x0 u, Keeps s u → Keeps s (f x0 u)) : Keeps s (t.rgnCmd m d v f) :=
  h.toDie fun _ h => .ite h.setFld.qdRefused (hf _ _ h.plainWrite)

theorem placeRgn {d k mirror} (h : Keeps s t) : Keeps s (t.placeRgn d k mirror) :=
  .ite h.setReg.setReg.setReg.setReg.setReg.setLat.setReg.setReg.setReg.setReg.setReg
    h.setReg.setReg.setReg.setReg.setReg.setLat

theorem execRegionLoad {m d v} (h : Keeps s t) : OutKeeps s (execRegionLoad m d v t) := by
  unfold Machine.execRegionLoad
  refine .unit ?_
  refine .ite ?_ h
  refine h.rgnCmd (fun _ _ h => ?_)
  split
  · exact h.rgnFail
  · exact h.placeRgn.setFld.setLat

theorem rgnDone {d} (h : Keeps s t) : Keeps s (t.rgnDone d) := h.setFld.setFld.setLat.event

theorem execRegionLoadDone {d} (h : Keeps s t) : OutKeeps s (execRegionLoadDone d t) :=
  .unit (.ite (.ite (.ite h.copyBytes.setFld.setFld.setFld.setFld.rgnDone h.setFld.rgnDone) h.setFld.rgnDone) h)

theorem execRegionUnload {m d v} (h : Keeps s t) : OutKeeps s (execRegionUnload m d v t) :=
  .unit (.ite (h.rgnCmd (fun _ _ h => .ite h.rgnFail (.ite h.rgnFail h.setFld.setFld.setLat))) h)

theorem emptySlot {d k} (h : Keeps s t) : Keeps s (t.emptySlot d k) := h.setReg.setReg.setReg.setReg.setReg

theorem emptyMir {d k} (h : Keeps s t) : Keeps s (t.emptyMir d k) := h.setReg.setReg.setReg.setReg.setReg

theorem execRegionUnloadDone {d} (h : Keeps s t) : OutKeeps s (execRegionUnloadDone d t) :=
  .unit (.ite (.ite h.emptyMir.setLat.emptySlot.reroute.rgnDone (.rgnDone (.emptySlot (.ite h.emptyMir h)))) h)

theorem execRegionBadCommand {m d v} (h : Keeps s t) : OutKeeps s (execRegionBadCommand m d v t) :=
  .unit (.ite (h.rgnCmd (fun _ _ h => h.rgnFail)) h)

theorem skeinCmd {m d op v f} (h : Keeps s t) (hf : ∀ u, Keeps s u → Keeps s (f u)) :
    Keeps s (t.skeinCmd m d op v f) :=
  h.toDie fun _ h => .ite (hf _ h) (.ite h (.ite (hf _ h.plainWrite) h.qdRefused))

theorem execSkeinQuiesce {m d v} (h : Keeps s t) : OutKeeps s (execSkeinQuiesce m d v t) :=
  .unit (h.skeinCmd (fun _ h => .ite h h.setLat))

theorem execSkeinQuiesceDone {d} (h : Keeps s t) : OutKeeps s (execSkeinQuiesceDone d t) := .unit (.ite h.quiesce h)

theorem skeinResume {d} (h : Keeps s t) : Keeps s (t.skeinResume d) := h.setFld.setLat.setLat

theorem execSkeinResume {m d v} (h : Keeps s t) : OutKeeps s (execSkeinResume m d v t) :=
  .unit (h.skeinCmd (fun _ h => h.skeinResume))

theorem execSkeinRollback {m d v} (h : Keeps s t) : OutKeeps s (execSkeinRollback m d v t) :=
  .unit (h.skeinCmd (fun _ h => .ite h.setLat h.qdRefused))

theorem restoreRec {d r} (h : Keeps s t) : Keeps s (t.restoreRec d r) :=
  .ite (.ite h.rgnWrite h.cxlDiscard) h.setBytes.mend

theorem skeinRollback {d bad} (h : Keeps s t) : Keeps s (t.skeinRollback d bad) := by
  unfold State.skeinRollback
  extract_lets newest good a b
  have ha : Keeps s a := setLat (h.each fun _ _ h => h.restoreRec)
  have hb : Keeps s b := .ite ha.setLat ha
  exact .ite hb.setFld.event ha.setSkein.setFld.event

theorem execSkeinRollbackDone {d bad} (h : Keeps s t) : OutKeeps s (execSkeinRollbackDone d bad t) :=
  .unit (.ite h.skeinRollback h)

theorem skeinCommit {d e} (h : Keeps s t) : Keeps s (t.skeinCommit d e) := .ite h h.setSkein.setReg.setFld.setLat.setLat

theorem execSkeinCommit {m d v} (h : Keeps s t) : OutKeeps s (execSkeinCommit m d v t) :=
  .unit (h.skeinCmd (fun _ h => h.skeinCommit))

theorem quarryTakeover {d} (h : Keeps s t) : Keeps s (t.quarryTakeover d) :=
  .ite (.setLat (h.reroute.each (fun _ _ h => h.setLat.setFld.setFld))) h.reroute.setLat

theorem execQuarryLost {d} (h : Keeps s t) : OutKeeps s (execQuarryLost d t) := .unit (.ite h.quarryTakeover.event h)

theorem execPartnerLost {d} (h : Keeps s t) : OutKeeps s (execPartnerLost d t) :=
  .unit (.ite (.event (h.each (fun _ _ h => h.setFld.setFld))) h)

theorem execPcRebuildDone {d p} (h : Keeps s t) : OutKeeps s (execPcRebuildDone d p t) := .unit (.ite h.setFld.event h)

/-! ## BankCommands -/

theorem bankMultibit {b r} (h : Keeps s t) : Keeps s (t.bankMultibit b r) := by
  unfold State.bankMultibit
  dsimp only
  refine .ite h ?_
  split
  · split
    · exact .answer (.ite (h.each (fun _ _ h => h.event)) h)
    · exact .check (.ite (h.each (fun _ _ h => h.event)) h)
  · exact .ite h.event.wdr.occur (.answer (h.each (fun _ _ h => h.event.occur)))

theorem bankCorrected {b r} (h : Keeps s t) : Keeps s (t.bankCorrected b r) := by
  unfold State.bankCorrected
  refine h.each (fun _ _ h => ?_)
  split <;> exact h.occur

theorem bankPut {b r} (h : Keeps s t) : Keeps s (t.bankPut b r) := by
  unfold State.bankPut
  split
  · exact h.setBytes
  · exact h

theorem bankServe {b rs} (h : Keeps s t) : Keeps s (t.bankServe b rs) :=
  .each (.ite (.bankEvent (.setBnkBit (.answer (h.each (fun _ _ h => h.bankPut))))) (.answer (h.each (fun _ _ h =>
    h.bankPut)))) (fun _ _ h => h.bankCorrected.bankMultibit)

theorem bankWaits {b x} (h : Keeps s t) : Keeps s (t.bankWaits b x) :=
  .ite h.setBankQueue (.ite h.setBnk.setBankQueue.setBnkBit.bankEvent h.setBnk.setBankQueue)

theorem bankHandshake {b} (h : Keeps s t) : Keeps s (t.bankHandshake b) :=
  .bankServe (.each (h.setBankQueue.each (fun _ _ h => h.bankWaits)) (fun _ _ h => h.setLat))

theorem bankAbsent {b r} (h : Keeps s t) : Keeps s (t.bankAbsent b r) := h.event.answer

theorem bankAccess {b rs} (h : Keeps s t) : Keeps s (t.bankAccess b rs) := by
  unfold State.bankAccess
  extract_lets q n u
  have hu : Keeps s u := h.setBankQueue.each fun _ _ h => h.bankName
  have hv : Keeps s (u.bankTouch b).2 := hu.bankTouch
  refine .ite (.ite h h.setLat) ?_
  split
  · next e => rw [e] at hv; exact hv.setBankQueue.each fun _ _ h => h.bankAbsent
  · next e => rw [e] at hv; exact hv.answer
  · next e => rw [e] at hv; exact hv.bankHandshake

theorem execBankAccess {b rs} (h : Keeps s t) : OutKeeps s (execBankAccess b rs t) := .unit h.bankAccess

theorem execBitAliasWrite {b off clear m data ecc} (h : Keeps s t) :
    OutKeeps s (execBitAliasWrite b off clear m data ecc t) :=
  .unit h.bankAccess

theorem bankFlush {b} (h : Keeps s t) : Keeps s (t.bankFlush b) := h.setBankQueue.each fun _ _ h => h.bankServe

theorem writeReqs {bs v} (h : Keeps s t) : Keeps s (t.writeReqs bs v) :=
  h.each fun _ _ h => .ite h h.setBankReq.bankWake

theorem execCdBnkPwrWrite {m sp v} (h : Keeps s t) : OutKeeps s (execCdBnkPwrWrite m sp v t) :=
  .unit (h.toDie (fun _ h => .ite h.writeReqs h.event))

theorem execWdBnkPwrWrite {m w v} (h : Keeps s t) : OutKeeps s (execWdBnkPwrWrite m w v t) :=
  .unit (.ite h.writeReqs h.event)

theorem execBankPowerTransition {b} (h : Keeps s t) : OutKeeps s (execBankPowerTransition b t) :=
  .unit (.ite h (.bankSettle (.ite h.mtestRestore h)))

theorem execBankWakeDone {b} (h : Keeps s t) : OutKeeps s (execBankWakeDone b t) := .unit (.ite h.bankWoken.bankFlush h)

theorem mtestFail {b line word bit} (h : Keeps s t) : Keeps s (t.mtestFail b line word bit) := by
  unfold State.mtestFail
  dsimp only
  split <;> exact .occur (.bankEvent (.setBnkBit (.ite h.putFld h.putFld.putReg.putFld)))

theorem mtestEnd {b line fails pass} (h : Keeps s t) : Keeps s (t.mtestEnd b line fails pass) :=
  .ite (.putFld (.mtestRestore (h.each (fun _ _ h => h.mtestFail)))) (.mtestRestore (h.each (fun _ _ h => h.mtestFail)))

theorem execMtestBorrow {b line done fails pass} (h : Keeps s t) :
    OutKeeps s (execMtestBorrow b line done fails pass t) :=
  .unit (.ite h.mtestEnd (.ite (.ite h.setLat.putFld.mtestEnd h.setLat.putFld) h))

theorem colEnd {w d c} (h : Keeps s t) : Keeps s (t.colEnd w d c) :=
  .ite h.putFld.putFld.putFld.event h.putFld.putFld.putFld.event

theorem execColrepProgram {m w v} (h : Keeps s t) : OutKeeps s (execColrepProgram m w v t) := by
  unfold Machine.execColrepProgram
  refine .unit ?_
  refine .ite h.wardenRefused ?_
  refine .ite h.putFld.event ?_
  refine .ite ?_ h.plainWrite
  dsimp only
  split
  · exact h.plainWrite.colEnd
  · exact h.plainWrite.putFld.setLat

theorem execColrepDone {w blown} (h : Keeps s t) : OutKeeps s (execColrepDone w blown t) :=
  .unit (.ite (.ite h.setLat.setLat.colEnd h.setLat.colEnd) h)

/-! ## Coolant -/

theorem updateRise (h : Keeps s t) : Keeps s (t.updateRise) := by
  unfold State.updateRise
  split
  · exact h.setWfld
  · exact h

theorem noteFlat {n q} (h : Keeps s t) : Keeps s (t.noteFlat n q) :=
  .ite h.setLat.setLat.setLat h.setLat.setLat.setLat.setLat

theorem noteFlow {n q} (h : Keeps s t) : Keeps s (t.noteFlow n q) := h.setLat.setLat

/-! ## View -/

theorem replicatedWrite {sp f} (h : Keeps s t) (hf : ∀ x0 u, Keeps s u → Keeps s (f x0 u)) :
    Keeps s (t.replicatedWrite sp f) :=
  .ite h.event (.ite (h.each (fun _ _ h => hf _ _ h)) (hf _ _ h))

theorem fmtNotice {sp k} (h : Keeps s t) : Keeps s (t.fmtNotice sp k) := .ite h.event (.ite h.event h)

theorem viewWrite {sp l v} (h : Keeps s t) : Keeps s (t.viewWrite sp l v) := by
  unfold State.viewWrite
  dsimp only
  split
  · exact .ite (.ite (h.replicatedWrite (fun _ _ h => h.updSpin)) h.updSpin) (.fmtNotice (.ite (h.replicatedWrite (fun
      _ _ h => h.updSpin)) h.updSpin))
  · exact .ite (h.replicatedWrite (fun _ _ h => h.updSpin)) h.updSpin

theorem bankReady {b} (h : Keeps s t) : Keeps s (t.bankReady b) := by
  unfold State.bankReady
  split
  · exact h.bankTouch.setBankOwn
  · exact h.bankTouch

theorem writeImage {i ident m sp e pc x} (h : Keeps s t) : Keeps s (t.writeImage i ident m sp e pc x) :=
  .each (.rgnWrite (h.each (fun _ _ h => h.bankReady))) (fun _ _ h => h.rgnWrite)

theorem restoreReplicated {sp get} (h : Keeps s t) : Keeps s (t.restoreReplicated sp get) :=
  h.updSpin.setSpFld.setReg.setReg.setReg.setReg.setReg

theorem restoreMember {i m sp k} (h : Keeps s t) : Keeps s (t.restoreMember i m sp k) :=
  .ite (.setSpFld (.setSpFld (h.restoreReplicated.updSpin.each (fun _ _ h => h.bankReady.setBytes)))) (.setSpFld
    (h.restoreReplicated.updSpin.each (fun _ _ h => h.bankReady.setBytes)))

/-! ## Mover -/

theorem moveBank {b off n} (h : Keeps s t) : Keeps s (t.moveBank b off n).2 := by
  have hr : Keeps s (t.bankReach b off n).2 := h.bankReach
  unfold State.moveBank
  split
  · next e => rw [e] at hr; exact hr
  · next e => rw [e] at hr; exact hr
  · next e => rw [e] at hr; exact hr

theorem movePiece {a n} (h : Keeps s t) : Keeps s (t.movePiece a n).2.2 := by
  unfold State.movePiece
  split
  · exact h.noteRead
  · exact h.noteRead
  · split
    · dsimp only
      split
      · exact h.moveBank
      · exact h.moveBank
    · exact h
  · split
    · exact h
    · exact h
  · dsimp only
    split
    · exact h.moveBank
    · exact h.moveBank
  · split
    · exact h
    · exact h
  · split
    · exact h
    · exact h
  · exact h

theorem readEach {l f} (h : Keeps s t) (hf : ∀ u a n, Keeps s u → Keeps s (f u a n).2.2) :
    Keeps s (t.readEach l f).2.2 := by
  refine foldl (fun acc : Status × List Byte × State => acc.2.2) h fun acc x hx => ?_
  dsimp only
  split
  · exact hx
  · exact hf _ _ _ hx

theorem writeEach {a bs l f} (h : Keeps s t) (hf : ∀ u a b, Keeps s u → Keeps s (f u a b).2) :
    Keeps s (t.writeEach a bs l f).2 := by
  refine foldl (fun acc : Status × State => acc.2) h fun acc x hx => ?_
  split
  · exact hx
  · exact hf _ _ _ hx

theorem ownRead {d a n} (h : Keeps s t) : Keeps s (t.ownRead d a n).2.2 := by
  unfold State.ownRead
  split
  · exact h
  · exact h.readEach fun _ _ _ h => h.movePiece

theorem putPiece {a bs} (h : Keeps s t) : Keeps s (t.putPiece a bs).2 := by
  unfold State.putPiece
  split
  · exact h.writePiece
  · exact h.writePiece
  · split
    · dsimp only
      split
      · exact h.moveBank.aliasWrite
      · exact h.moveBank
    · exact h
  · split
    · exact h.setBytes
    · exact h
  · dsimp only
    split
    · exact h.moveBank.aliasWrite
    · exact h.moveBank
  · exact h
  · exact h
  · exact h

theorem noteUnpopulated {st u' a} (h : Keeps s t) : Keeps s (t.noteUnpopulated st u' a) := .ite h.event h

/-! ## Ports -/

theorem setDmaMoving {port c l} (h : Keeps s t) : Keeps s (t.setDmaMoving port c l) := h.record

theorem setDmaFld {f port c x} (h : Keeps s t) : Keeps s (t.setDmaFld f port c x) := h.setFld

theorem dmaFail {port c} (h : Keeps s t) : Keeps s (t.dmaFail port c) := h.setDmaFld.setDmaFld.event

theorem dmaAbort {port link} (h : Keeps s t) : Keeps s (t.dmaAbort port link) := by
  refine h.each fun c v hv => ?_
  extract_lets n u w
  have hu : Keeps s u := foldl id hv fun _ _ h => h.dmaFail
  have hw : Keeps s w := .ite hu.setDmaFld hu
  exact hw.setDmaMoving.setDmaFld.setDmaFld

theorem linkChange {before port} (h : Keeps s t) : Keeps s (t.linkChange before port) := .ite h h.raiseMsix

theorem hostPortReset {port cause} (h : Keeps s t) : Keeps s (t.hostPortReset port cause) :=
  h.dmaAbort.resetRegs.freeLocks.resetRan

theorem setCxFld {f p x} (h : Keeps s t) : Keeps s (t.setCxFld f p x) := h.setFld

theorem cxlPortReset {p cause} (h : Keeps s t) : Keeps s (t.cxlPortReset p cause) := h.resetRegs.setCxFld.resetRan

theorem warpForget {p} (h : Keeps s t) : Keeps s (t.warpForget p) := h.dropFlits.setLat.setLat.setLat.setLat.setLat

theorem warpPortReset {p cause} (h : Keeps s t) : Keeps s (t.warpPortReset p cause) :=
  .resetRan (.holdFlows (.ite h.resetRegs.warpForget.setWpFld h.resetRegs.warpForget))

/-! ## Cxl -/

theorem execCxlPortBringup {p x} (h : Keeps s t) : OutKeeps s (execCxlPortBringup p x t) :=
  .unit (.ite (.ite h.setCxFld.setCxFld.setCxFld.wevent
    h.setCxFld.setCxFld.setCxFld.setCxFld.setCxFld.setCxFld.setCxFld.setCxFld.setReg.setLat.setLat.setLat.wevent) h)

theorem execCxlLinkDown {p} (h : Keeps s t) : OutKeeps s (execCxlLinkDown p t) :=
  .unit (.ite h.setCxFld.setCxFld.setCxFld.setLat.event h)

theorem cxlRetrain {p} (h : Keeps s t) : Keeps s (t.cxlRetrain p) :=
  .ite h.cxlPortReset.setCxFld.setLat.setLat h.cxlPortReset.setCxFld

theorem portRefused {d} (h : Keeps s t) : Keeps s (t.portRefused d) := h.event

theorem portWrite {m d f} (h : Keeps s t) (hf : ∀ u, Keeps s u → Keeps s (f u)) : Keeps s (t.portWrite m d f) :=
  h.toDie fun _ h => .ite (hf _ h) h.portRefused

theorem execCxlRetrain {m p} (h : Keeps s t) : OutKeeps s (execCxlRetrain m p t) :=
  .unit (h.portWrite (fun _ h => h.cxlRetrain))

theorem cxlCtlWrite {p v} (h : Keeps s t) : Keeps s (t.cxlCtlWrite p v) :=
  .ite (.setCxFld (.cxlRetrain (.ite h.setCxFld h.setCxFld.setCxFld.setCxFld.setCxFld.setCxFld.setCxFld))) (.ite
    h.setCxFld h.setCxFld.setCxFld.setCxFld.setCxFld.setCxFld.setCxFld)

theorem execCxlEventLogPoll {p recs} (h : Keeps s t) : OutKeeps s (execCxlEventLogPoll p recs t) :=
  .unit (.ite (h.each (fun _ _ h => h.wevent)) h)

/-! ## Collective -/

theorem collShow (h : Keeps s t) : Keeps s t.collShow := h.setFld

theorem collEnd {j result} (h : Keeps s t) : Keeps s (t.collEnd j result) := by
  unfold State.collEnd
  extract_lets a b c
  have ha : Keeps s a := h.record
  have hb : Keeps s b := .ite (ha.ring.getD ha.event) ha
  have hc : Keeps s c := by
    unfold c
    split
    · exact hb.event
    · exact hb.event
    · exact hb
  exact hc.setFld.setFld.setFld.collShow

theorem groupLoad {j} (h : Keeps s t) : Keeps s (t.groupLoad j) :=
  .ite h.collEnd (.ite h.collEnd (.ite h.ownRead (.ite h.ownRead.collEnd (.ite h.ownRead.collEnd
    h.ownRead.record.setReg.setLat.collEnd))))

theorem collAdvance {g fuel} (h : Keeps s t) : Keeps s (State.collAdvance g fuel t) := by
  induction fuel generalizing t with
  | zero => exact h
  | succ fuel ih =>
    unfold State.collAdvance
    split
    · exact h
    refine .ite h (.ite (ih h.groupLoad) ?_)
    split
    · exact ih h.collEnd
    · exact h

theorem collPost {m v} (h : Keeps s t) : Keeps s (t.collPost m v) :=
  h.toDie fun _ h => .ite h.portRefused (.ite h.setFld.event h.record.collShow.collAdvance)

theorem collCommand {op m v} (h : Keeps s t) : OutKeeps s (collCommand op m v t) := .next (.ite h.collPost h)

theorem execCollGroupLoad {m v} (h : Keeps s t) : OutKeeps s (execCollGroupLoad m v t) := h.collCommand

theorem execCollBroadcast {m v} (h : Keeps s t) : OutKeeps s (execCollBroadcast m v t) := h.collCommand

theorem execCollAllgather {m v} (h : Keeps s t) : OutKeeps s (execCollAllgather m v t) := h.collCommand

theorem execCollAlltoall {m v} (h : Keeps s t) : OutKeeps s (execCollAlltoall m v t) := h.collCommand

theorem execCollReduceScatter {m v} (h : Keeps s t) : OutKeeps s (execCollReduceScatter m v t) := h.collCommand

theorem execCollAllreduce {m v} (h : Keeps s t) : OutKeeps s (execCollAllreduce m v t) := h.collCommand

theorem execCollBegin {g same} (h : Keeps s t) : OutKeeps s (execCollBegin g same t) := by
  unfold Machine.execCollBegin
  refine .unit ?_
  split
  · exact .ite h (.ite h.collAdvance (.ite h.record h.collEnd.collAdvance))
  · exact h

theorem collLose {g} (h : Keeps s t) : Keeps s (t.collLose g) := by
  unfold State.collLose
  split
  · exact h.setLat.collEnd.collAdvance
  · exact h

theorem execCollMemberLost {g} (h : Keeps s t) : OutKeeps s (execCollMemberLost g t) := .unit (.ite h.collLose h)

/-! ## PlyCommands -/

theorem plyRow {m d op v job} (h : Keeps s t) (hj : ∀ u x, JobKeeps s (job u x)) :
    OutKeeps s (plyRow m d op v t job) :=
  .unit (.ite (h.plyCmdWrite hj) h)

theorem execPlyForm {m d v} (h : Keeps s t) : OutKeeps s (execPlyForm m d v t) := h.plyRow fun _ _ => jobForm

theorem execPlyJoin {m d v} (h : Keeps s t) : OutKeeps s (execPlyJoin m d v t) := h.plyRow fun _ _ => jobJoin

theorem execPlySplit {m d v} (h : Keeps s t) : OutKeeps s (execPlySplit m d v t) := h.plyRow fun _ _ => jobSplit

theorem execPlyDissolve {m d v} (h : Keeps s t) :
    OutKeeps s (execPlyDissolve m d v t) := h.plyRow fun _ _ => jobDissolve

theorem execPlyRun {m d v} (h : Keeps s t) : OutKeeps s (execPlyRun m d v t) := h.plyRow fun _ _ => jobRun

theorem execPlyHalt {m d v} (h : Keeps s t) : OutKeeps s (execPlyHalt m d v t) := h.plyRow fun _ _ => jobRun

theorem execPlyStep {m d v} (h : Keeps s t) : OutKeeps s (execPlyStep m d v t) := h.plyRow fun _ _ => jobRun

theorem execPlyReform {m d v} (h : Keeps s t) : OutKeeps s (execPlyReform m d v t) := h.plyRow fun _ _ => jobReform

theorem execPlyBadCommand {m d v} (h : Keeps s t) : OutKeeps s (execPlyBadCommand m d v t) :=
  .unit (.ite (h.plyCmdWrite fun _ _ _ k => k) h)

theorem execPlyCmdComplete {d} (h : Keeps s t) : OutKeeps s (execPlyCmdComplete d t) := .unit h.plyComplete

theorem execPlyDoorbellMove {sp} (h : Keeps s t) : OutKeeps s (execPlyDoorbellMove sp t) :=
  .unit (.ite (.ite h.setSpFld h.setSpFld.doorbell) h)

theorem execPlyWordCleared {psn mem} (h : Keeps s t) : OutKeeps s (execPlyWordCleared psn mem t) := by
  unfold Machine.execPlyWordCleared
  refine .unit ?_
  split
  · exact .ite h.setFld.setLat h
  · exact h

theorem autoReform {p} (h : Keeps s t) : Keeps s (t.autoReform p) := by
  unfold State.autoReform
  refine .ite ?_ h
  split
  · exact h.reformPly
  · exact h

/-! ## Epochs -/

theorem faultWrite {m f} (h : Keeps s t) (hf : ∀ u, Keeps s u → Keeps s (f u)) : Keeps s (t.faultWrite m f) :=
  .ite (hf _ h) h.wevent

theorem execErrorOccurrence {cls unit} (h : Keeps s t) : OutKeeps s (execErrorOccurrence cls unit t) := .unit h.occur

theorem execWdFltThrWrite {m c v} (h : Keeps s t) : OutKeeps s (execWdFltThrWrite m c v t) :=
  .unit (h.faultWrite (fun _ h => .ite h.wevent h.plainWrite))

theorem inject {cls u'} (h : Keeps s t) : Keeps s (t.inject cls u') := by
  unfold State.inject
  dsimp only
  refine .wevent ?_
  split
  · exact h.setLat
  · exact h.setLat
  · exact h.occur

theorem execFaultInject {m v} (h : Keeps s t) : OutKeeps s (execFaultInject m v t) :=
  h.faultWrite fun _ h => .ite h.plainWrite.setWfld.inject h.plainWrite

theorem execRetirementLogClear {m v} (h : Keeps s t) : OutKeeps s (execRetirementLogClear m v t) :=
  h.faultWrite fun _ h => .ite h.plainWrite.setWfld.record.setWfld.wevent h.plainWrite

theorem epEnd {c} (h : Keeps s t) : Keeps s (t.epEnd c) := .ite h.setWfld h.setWfld.wevent

theorem epCmd {m op v held codes act} (h : Keeps s t) (hact : ∀ u, Keeps s u → Keeps s (act u)) :
    Keeps s (t.epCmd m op v held codes act) := by
  unfold State.epCmd
  refine .ite h ?_
  refine h.faultWrite (fun _ h => ?_)
  dsimp only
  refine .ite h.plainWrite.epEnd ?_
  split
  · exact h.plainWrite.epEnd
  · exact .epEnd (hact _ h.plainWrite)

theorem writeImages {i e pc f} (h : Keeps s t) : Keeps s (t.writeImages i e pc f) := h.each fun _ _ h => h.writeImage

theorem execEpEnrol {m v} (h : Keeps s t) : OutKeeps s (execEpEnrol m v t) :=
  h.epCmd fun _ h => h.setWreg.setWreg.writeImages.wevent

theorem execEpRelease {m v} (h : Keeps s t) : OutKeeps s (execEpRelease m v t) :=
  h.epCmd fun _ h => h.setWreg.setWreg.wevent

theorem commitQuarries (h : Keeps s t) : Keeps s t.commitQuarries := h.each fun _ _ h => h.skeinCommit

theorem reopenHead {sp} (h : Keeps s t) : Keeps s (t.reopenHead sp) := h.updSpin

theorem execEpForceCommit {m v} (h : Keeps s t) : OutKeeps s (execEpForceCommit m v t) :=
  h.epCmd fun _ h => .wevent (h.commitQuarries.setWreg.setWfld.each (fun _ _ h => .ite h.setWfld.reopenHead h))

theorem execEpRollback {m v} (h : Keeps s t) : OutKeeps s (execEpRollback m v t) :=
  h.epCmd fun _ h => .ite h.setWfld.setLat h.trigger

theorem execEpResume {m v} (h : Keeps s t) : OutKeeps s (execEpResume m v t) :=
  h.epCmd fun _ h => .setLat (.each (.setWfld (h.each (fun _ _ h => h.skeinResume))) (fun _ _ h => h.setLat))

theorem execEpBadCommand {m v} (h : Keeps s t) : OutKeeps s (execEpBadCommand m v t) :=
  .next (.ite (h.epCmd (fun _ h => h)) h)

theorem groupSend {code} (h : Keeps s t) : Keeps s (t.groupSend code) := h.each fun _ _ h => h.setLat

theorem groupForget (h : Keeps s t) : Keeps s t.groupForget := h.resetLats

theorem execEpGrpCfgWrite {m v} (h : Keeps s t) : OutKeeps s (execEpGrpCfgWrite m v t) :=
  h.faultWrite fun _ h => .ite h.epEnd h.plainWrite

theorem commitStart (h : Keeps s t) : Keeps s t.commitStart := h.commitQuarries.setWfld

theorem groupDecide (h : Keeps s t) : Keeps s t.groupDecide := .ite h.groupSend.commitStart.groupForget h

theorem execEpochCommit (h : Keeps s t) : OutKeeps s (execEpochCommit t) :=
  .next (.ite (.ite h.commitStart (.ite h.setLat.groupDecide (.ite h.setLat.setLat h))) h)

theorem retireEpoch {sp c} (h : Keeps s t) : Keeps s (t.retireEpoch sp c) := by
  unfold State.retireEpoch
  split
  · exact .ite h.updMates.retire h
  · exact h

theorem commitPoint (h : Keeps s t) : Keeps s t.commitPoint :=
  .ite (.wevent (.setLat (.setWfld (.updSticky (.each (h.setWreg.setWfld.each (fun _ _ h => h.setWfld)) (fun _ _ h =>
    h.retireEpoch)))))) h

theorem execEpochCommitPoint (h : Keeps s t) : OutKeeps s (execEpochCommitPoint t) := h.commitPoint

theorem execGroupReadyMessage {pkg} (h : Keeps s t) : OutKeeps s (execGroupReadyMessage pkg t) :=
  .unit (.ite h.setLat.groupDecide h)

theorem execGroupCommitMessage (h : Keeps s t) : OutKeeps s (execGroupCommitMessage t) := .next (.ite h.commitStart h)

theorem groupRollback {fails} (h : Keeps s t) : Keeps s (t.groupRollback fails) := h.groupSend.groupForget.trigger

theorem execGroupAbortMessage {pkg} (h : Keeps s t) : OutKeeps s (execGroupAbortMessage pkg t) :=
  .unit (.ite h.groupRollback h)

theorem execGroupRollbackMessage (h : Keeps s t) : OutKeeps s (execGroupRollbackMessage t) :=
  .next (.ite h h.setLat.trigger)

theorem execGroupMemberTimeout {pkg} (h : Keeps s t) : OutKeeps s (execGroupMemberTimeout pkg t) :=
  .unit (.ite h.wevent.groupRollback h)

theorem recoverDies {on} (h : Keeps s t) : Keeps s (t.recoverDies on) :=
  h.each fun _ _ h => .ite h.setWfld (.ite h.setWfld h)

theorem unlessFailed {f} (h : Keeps s t) (hf : ∀ u, Keeps s u → Keeps s (f u)) : Keeps s (t.unlessFailed f) := by
  unfold State.unlessFailed
  split
  · exact h.hold.recoverDies
  · exact hf _ h

theorem rollbackStart (h : Keeps s t) : Keeps s t.rollbackStart := by
  unfold State.rollbackStart
  extract_lets a b c d
  have hb : Keeps s b := h.wevent.stopUnits.setWfld.setLat.recoverDies
  have hc : Keeps s c := .ite hb (.ite hb.groupSend.groupForget hb.setLat)
  exact .ite hc.occur.recoverDies (hc.occur.unlessFailed fun _ h => h)

theorem execRollbackStart (h : Keeps s t) : OutKeeps s (execRollbackStart t) := .next (.ite h.rollbackStart h)

theorem execRollbackStopDone (h : Keeps s t) : OutKeeps s (execRollbackStopDone t) :=
  .next (.ite (h.unlessFailed (fun _ h => .setWfld (h.each (fun _ _ h => h.quiesce.setLat)))) h)

theorem uncheck {sp} (h : Keeps s t) : Keeps s (t.uncheck sp) := .ite h.freshSpindle h

theorem recoverPly {p} (h : Keeps s t) : Keeps s (t.recoverPly p) := by
  unfold State.recoverPly
  dsimp only
  refine .ite h.replacePly ?_
  refine .ite ?_ h.replacePly
  split
  · exact h.replacePly.reformPly
  · exact h.replacePly

theorem recoverUnit {i} (h : Keeps s t) : Keeps s (t.recoverUnit i) := by
  unfold State.recoverUnit
  split
  · exact .ite h.recoverPly h
  · exact h

theorem restoreUnit {i k} (h : Keeps s t) : Keeps s (t.restoreUnit i k) := by
  unfold State.restoreUnit
  dsimp only
  refine .setWfld ?_
  split
  · exact .ite (.noticeAt (.writeEntries (.replacePly (h.each (fun _ _ h => h.uncheck.restoreMember))))) (h.each (fun _
      _ h => h.uncheck.restoreMember))
  · exact h.each (fun _ _ h => h.uncheck.restoreMember)

theorem restoreAll (h : Keeps s t) : Keeps s t.restoreAll := by
  unfold State.restoreAll
  extract_lets a b k whole bad c
  have hb : Keeps s b := h.setWfld.each fun _ _ h => h.recoverUnit
  have hc : Keeps s c := .ite hb.setLat hb
  refine hc.unlessFailed fun u hu => ?_
  extract_lets u1 u2 u3 u4 u5 u6
  have h1 : Keeps s u1 := hu.each fun _ _ h => h.restoreUnit
  have h2 : Keeps s u2 := h1.each fun _ _ h => h.setWfld.setLat
  have h3 : Keeps s u3 := h2.each fun _ _ h => h.skeinResume
  have h4 : Keeps s u4 := h3.each fun _ _ h => .ite h.runOp h
  have h5 : Keeps s u5 := (h4.each fun _ _ h => h.setLat).recoverDies
  have h6 : Keeps s u6 := h5.setLat.setLat
  exact h6.setWfld.wevent.hostDoorbell

theorem execRollbackQuarriesDone (h : Keeps s t) : OutKeeps s (execRollbackQuarriesDone t) :=
  .next (.ite (h.unlessFailed (fun _ h => h.restoreAll)) h)

theorem rejoin {i} (h : Keeps s t) : Keeps s (t.rejoin i) :=
  .ite (.ite h.restoreUnit.setLat.runOp h.restoreUnit.setLat) h

theorem execPlyAutoReform {psn} (h : Keeps s t) : OutKeeps s (execPlyAutoReform psn t) := by
  unfold Machine.execPlyAutoReform
  refine .unit ?_
  split
  · exact .ite h.autoReform.rejoin h
  · exact h

/-! ## Package -/

theorem beginStep {n} (h : Keeps s t) : Keeps s (t.beginStep n) := h.setWfld.setLat

theorem enterState {st} (h : Keeps s t) : Keeps s (t.enterState st) :=
  .ite h.setWfld.beginStep.wevent h.setWfld.beginStep.wevent.setLat.setWfld

theorem noteSuspension {before} (h : Keeps s t) : Keeps s (t.noteSuspension before) := .ite h.wevent.breachSend h

theorem clampOn {c} (h : Keeps s t) : Keeps s (t.clampOn c) :=
  .ite h.setLat h.setLat.setWfld.wevent.floorTwins.noteSuspension

theorem clampOff {c} (h : Keeps s t) : Keeps s (t.clampOff c) := .ite h.setLat.setWfld.wevent h.setLat

theorem emergDrive {bit} (h : Keeps s t) : Keeps s (t.emergDrive bit) := .ite h.setLat.setWfld.wevent.emergencySend h

theorem darkCompute {cause} (h : Keeps s t) : Keeps s (t.darkCompute cause) := h.each fun _ _ h => h.isolate

theorem darkIo {cause} (h : Keeps s t) : Keeps s (t.darkIo cause) := h.each fun _ _ h => h.isolate

theorem darkStops {cause} (h : Keeps s t) : Keeps s (t.darkStops cause) := h.each fun _ _ h => h.stopOpen

theorem rest {st} (h : Keeps s t) : Keeps s (t.rest st) :=
  h.setLat.setLat.enterState.noteSuspension.clampOff.setLat.setWfld.setWfld

theorem downToStandby (h : Keeps s t) : Keeps s t.downToStandby := .ite h (.ite h.darkCompute h.darkCompute.rest)

theorem convertersOff (h : Keeps s t) : Keeps s t.convertersOff := h.setReg

theorem downToOff {why} (h : Keeps s t) : Keeps s (t.downToOff why) :=
  .ite (.convertersOff (.ite h h.setLat)) h.darkCompute.darkIo.darkStops.convertersOff.setLat.rest

theorem startSave (h : Keeps s t) : Keeps s t.startSave := .ite h h.wevent.setWfld

theorem trip {cause unit} (h : Keeps s t) : Keeps s (t.trip cause unit) := by
  unfold State.trip
  extract_lets a b c d
  have hc : Keeps s c := h.setWfld.setWfld.event.noteSuspension.darkCompute.darkIo.releaseValves.forcedFans
  have hd : Keeps s d := .ite hc hc.rest
  exact .ite h hd.emergDrive

theorem bringupEvents (h : Keeps s t) : Keeps s t.bringupEvents := .ite (.wevent (.ite h.event h)) (.ite h.event h)

theorem dieReady {d} (h : Keeps s t) : Keeps s (t.dieReady d) :=
  .ite (h.each (fun _ _ h => h.setWpFld)) (.ite (h.each (fun _ _ h => .ite h.setFld.setFld h.setFld)) h)

theorem closeDies {ds} (h : Keeps s t) : Keeps s (t.closeDies ds) := h.each fun _ _ h => h.railsClose.dieReady

theorem convertersOn (h : Keeps s t) : Keeps s t.convertersOn := h.setReg

theorem enterStep {n} (h : Keeps s t) : Keeps s (t.enterStep n) := by
  unfold State.enterStep
  dsimp only
  split
  · exact .closeDies (.writeRoutes (h.beginStep.convertersOn.each (fun _ _ h => h.stopClose)))
  · exact h.beginStep.closeDies
  · exact h.beginStep

theorem bringup {step} (h : Keeps s t) : Keeps s (t.bringup step) := h.setWfld.setLat.setLat.enterStep

theorem tryReturn (h : Keeps s t) : Keeps s t.tryReturn :=
  .ite h (.ite h.bringupEvents.bringup (.ite h.bringupEvents.bringup h))

theorem actOnOrder (h : Keeps s t) : Keeps s t.actOnOrder :=
  .ite (.tryReturn (.ite h h.setLat.setWfld)) (.ite (.ite h h.setLat.setWfld) (.ite (.setLat (.ite h h.setLat.setWfld))
    (.ite h h.setLat.setWfld)))

theorem formOrder {before report} (h : Keeps s t) : Keeps s (t.formOrder before report) := by
  unfold State.formOrder
  dsimp only
  split
  · exact .powerReport (.actOnOrder (.ite h.setWfld.setWfld.setWfld.wevent.hostDoorbell h.setWfld.setWfld.setWfld))
  · exact .ite (.powerReport (.actOnOrder (.ite h.setWfld.setWfld.setWfld.wevent.hostDoorbell
      h.setWfld.setWfld.setWfld))) (.actOnOrder (.ite h.setWfld.setWfld.setWfld.wevent.hostDoorbell
      h.setWfld.setWfld.setWfld))

theorem orderArrives {bit st ms} (h : Keeps s t) : Keeps s (t.orderArrives bit st ms) :=
  .ite h.setLat.setLat (.ite h.setLat.setLat h.setLat.setLat.setLat.setWfld)

theorem shutdownStart (h : Keeps s t) : Keeps s t.shutdownStart := .ite h.setLat.setWfld.beginStep.setLat h

theorem warpHold (h : Keeps s t) : Keeps s t.warpHold := .holdFlows (h.each (fun _ _ h => h.setWpFld))

theorem twinsOff (h : Keeps s t) : Keeps s t.twinsOff := h.each fun _ _ h => h.each (fun _ _ h => .ite h h.twinOff)

theorem collsLost (h : Keeps s t) : Keeps s t.collsLost := h.each fun _ _ h => h.collLose

theorem shutdownStep (h : Keeps s t) : Keeps s (t.shutdownStep) := by
  unfold State.shutdownStep
  split
  · exact h.setLat
  · exact h.warpHold.setLat
  · exact .setLat (.collsLost (.each (.ite h.commitPoint h) (fun _ _ h => h.quiesce)))
  · exact .ite h.twinsOff.darkCompute.setLat h.twinsOff.darkCompute.rest.tryReturn
  · exact h.darkIo.darkStops.convertersOff.setLat.rest.tryReturn
  · exact h

/-! ## Rails -/

theorem execMeshFlitReceive {d link x} (h : Keeps s t) : OutKeeps s (execMeshFlitReceive d link x t) :=
  .unit (.ite (.ite h.meshArrives.meshForward h.setLat.event.occur) h)

theorem execRouteHoldEnd {d} (h : Keeps s t) : OutKeeps s (execRouteHoldEnd d t) := .unit h.setLat

theorem execMeshStopRailTrip {d} (h : Keeps s t) : OutKeeps s (execMeshStopRailTrip d t) :=
  .unit (.ite (.ite h.setLat.stopOpen.setFld.occur h.setLat.stopOpen.setFld.occur.event.reroute) h)

theorem execDieOvercurrentTrip {d} (h : Keeps s t) : OutKeeps s (execDieOvercurrentTrip d t) :=
  .unit (.ite h.setLat.setFld.isolate.event.occur h)

theorem isoWrite {d v} (h : Keeps s t) : Keeps s (t.isoWrite d v) := by
  unfold State.isoWrite
  extract_lets trip a b
  have ha : Keeps s a := .ite h.setFld h
  have hb : Keeps s b := .ite ha.stopClose ha.stopOff
  exact .ite (.ite hb hb.railsClose) hb.isolate

theorem execPwDieIsoWrite {m d v} (h : Keeps s t) : OutKeeps s (execPwDieIsoWrite m d v t) :=
  .unit (.ite (.ite h.isoWrite h) h.wardenRefused)

theorem execTwinIlimEntry {d k on} (h : Keeps s t) : OutKeeps s (execTwinIlimEntry d k on t) :=
  .unit (.ite h.setFld.event (.ite h h.setFld.setLat))

theorem railCap (h : Keeps s t) : Keeps s t.railCap := .ite h.setFld.setLat.wevent h.setFld.setLat

theorem execRailCapRecompute {vin iin pin} (h : Keeps s t) : OutKeeps s (execRailCapRecompute vin iin pin t) :=
  h.setFld.setFld.setFld.railCap

theorem execBusConverterFail {n} (h : Keeps s t) : OutKeeps s (execBusConverterFail n t) :=
  .unit (.ite h.setFld.setFld.wevent.railCap h)

/-! ## Timing -/

theorem execVinUndervoltage (h : Keeps s t) : OutKeeps s (execVinUndervoltage t) := h.wevent.setLat.downToOff.startSave

theorem execVinOvervoltage (h : Keeps s t) : OutKeeps s (execVinOvervoltage t) :=
  h.wevent.setLat.convertersOff.downToOff

theorem execVinBackInBand (h : Keeps s t) : OutKeeps s (execVinBackInBand t) :=
  .next (.ite h (.tryReturn (.ite h.setLat.setLat h.setLat)))

theorem twinRequest {d k x} (h : Keeps s t) : Keeps s (t.twinRequest d k x) := by
  unfold State.twinRequest
  refine .ite h ?_
  dsimp only
  split
  · exact .ite h.setLat h.setLat.twinOff
  · exact .ite h.setLat.setFld h.setLat.setLat
  · exact .ite h.setLat h.setLat.twinOn

theorem twinCtlWrite {d k v same} (h : Keeps s t) : Keeps s (t.twinCtlWrite d k v same) :=
  .twinRequest (.ite h.setVid h.event)

theorem execPwTwinCtlWrite {m d k v same} (h : Keeps s t) : OutKeeps s (execPwTwinCtlWrite m d k v same t) :=
  .unit (.ite h.twinCtlWrite h.wardenRefused)

theorem twinAvsWrite {d k v same} (h : Keeps s t) : Keeps s (t.twinAvsWrite d k v same) :=
  .ite h.event h.plainWrite.setFld

theorem execPwTwinAvsWrite {m d k v same} (h : Keeps s t) : OutKeeps s (execPwTwinAvsWrite m d k v same t) :=
  .unit (.ite h.twinAvsWrite h.wardenRefused)

theorem raiseVid {d k} (h : Keeps s t) : Keeps s (t.raiseVid d k) := h.setVid.setFld

theorem slackFault {d k} (h : Keeps s t) : Keeps s (t.slackFault d k) := h.event.occur

theorem twinMeter {d k mv ma} (h : Keeps s t) : Keeps s (t.twinMeter d k mv ma) := h.setFld.setFld.incFld.setReg.setLat

theorem rateWindow {d k n} (h : Keeps s t) : Keeps s (t.rateWindow d k n) :=
  .ite h.setLat.setLat (.ite h.setLat.setLat.setLat (.ite h.setLat.setLat.setLat h.setLat.setLat.setLat.slackFault))

theorem hardRaise {d k} (h : Keeps s t) : Keeps s (t.hardRaise d k) := h.raiseVid.satFld.setLat.event

theorem probeFails {d k} (h : Keeps s t) : Keeps s (t.probeFails d k) := h.setVid.setLat.setLat

theorem twinWindow {d k least mean stretches} (h : Keeps s t) : Keeps s (t.twinWindow d k least mean stretches) := by
  unfold State.twinWindow
  extract_lets lo a b top sag alarm c d e
  have hc : Keeps s c := h.setFld.setFld.satFld.setLat
  have hd : Keeps s d := .ite hc.hardRaise hc.setLat
  have he : Keeps s e := .ite hd.probeFails hd
  exact .ite he.slackFault he

theorem railWindow {d stop least mean stretches} (h : Keeps s t) : Keeps s (t.railWindow d stop least mean stretches) :=
  .ite (.occur (.event (.satFld (.ite h.setFld.setFld h.setFld.setFld)))) (.satFld (.ite h.setFld.setFld
    h.setFld.setFld))

theorem execSlackWindowEnd {d k least mean stretches mv ma cyc} (h : Keeps s t) :
    OutKeeps s (execSlackWindowEnd d k least mean stretches mv ma cyc t) := by
  unfold Machine.execSlackWindowEnd
  extract_lets u
  have hu : Keeps s u := foldl id h fun _ _ h => h.incFld.incFld
  exact .unit (.ite (.ite h.railWindow h) (.ite hu.twinMeter.twinWindow.rateWindow h))

theorem avsTwin {d k} (h : Keeps s t) : Keeps s (t.avsTwin d k) :=
  .ite h.raiseVid (.ite h.setVid (.ite h.setVid.setLat h))

theorem execAvsCycle (h : Keeps s t) : OutKeeps s (execAvsCycle t) :=
  h.each fun _ _ h => h.each (fun _ _ h => .ite (.ite h.twinRequest h.avsTwin) h)

theorem execAvsProbeEnd {d k} (h : Keeps s t) : OutKeeps s (execAvsProbeEnd d k t) := .unit (.ite h h.setFld.setLat)

theorem execTimebaseSerialWord {d differs} (h : Keeps s t) : OutKeeps s (execTimebaseSerialWord d differs t) :=
  .unit (.ite h.setReg.setLat.setLat.event h.setReg.setLat.setLat)

theorem setBoth {f x} (h : Keeps s t) : Keeps s (t.setBoth f x) := h.setFld.setFld

theorem execClockToBackup (h : Keeps s t) : OutKeeps s (execClockToBackup t) :=
  .next (.ite h h.setBoth.setBoth.setBoth.wevent.wevent)

theorem execClockToCrystal (h : Keeps s t) : OutKeeps s (execClockToCrystal t) :=
  .next (.ite h.setBoth.setBoth.setBoth.wevent.wevent h)

theorem execBackupTrim {trim} (h : Keeps s t) : OutKeeps s (execBackupTrim trim t) := .next (.ite h h.setBoth)

theorem adjWrite {d v} (h : Keeps s t) : Keeps s (t.adjWrite d v) := .ite h.event h.setFld

theorem execWdTimeAdjWrite {m v} (h : Keeps s t) : OutKeeps s (execWdTimeAdjWrite m v t) :=
  h.guardedWrite fun _ h => .ite h.wevent h.setBoth

theorem execWdTimeStepWrite {m v} (h : Keeps s t) : OutKeeps s (execWdTimeStepWrite m v t) :=
  h.guardedWrite fun _ h => .ite h.wevent h.setLat

theorem offsetsBack {d} (h : Keeps s t) : Keeps s (t.offsetsBack d) := h.each fun _ _ h => h.setFld.setFld

theorem execHbmEyeAdjust {d stack pc eyeT eyeV moves} (h : Keeps s t) :
    OutKeeps s (execHbmEyeAdjust d stack pc eyeT eyeV moves t) := by
  refine .unit ?_
  extract_lets u fresh a b c
  have hb : Keeps s b := h.setFld.setFld.setFld.setFld
  have hc : Keeps s c := .ite hb.event hb
  exact .ite (.ite hc.satFld.event.occur hc) h

theorem execWarpLaneMarginCheck {p l syms received eyeH} (h : Keeps s t) :
    OutKeeps s (execWarpLaneMarginCheck p l syms received eyeH t) :=
  .unit (.ite (.ite h.setFld.setFld.setFld.event.occur h.setFld.setFld.setFld) h)

/-! ## Calibration -/

theorem showDiode {d k q} (h : Keeps s t) : Keeps s (t.showDiode d k q) := .ite h.setFld h.setLat

theorem setDiodeFault {d k q b} (h : Keeps s t) : Keeps s (t.setDiodeFault d k q b) := .ite h.setFlag h.setLat

theorem convertDiode {d k q same x bad} (h : Keeps s t) : Keeps s (t.convertDiode d k q same x bad) :=
  h.setLat.showDiode.setLat.setDiodeFault

theorem convertDelay {d k raw} (h : Keeps s t) : Keeps s (t.convertDelay d k raw) :=
  .ite h.setLat.setFld (.ite h.setLat.setFld.setFlag.event h.setLat.setFld.setFlag)

theorem execDiodeConversion {d k ta tb td bad} (h : Keeps s t) : OutKeeps s (execDiodeConversion d k ta tb td bad t) :=
  .unit (.ite h (.ite h.convertDiode.convertDiode.convertDelay.incFld h.convertDiode.convertDiode))

theorem addPoint {d k} (h : Keeps s t) : Keeps s (t.addPoint d k) :=
  .setFlag (.ite (.setLat (.setLat (.ite h.setLat.setLat h))) (.ite h.setLat.setLat h))

theorem moveOffset {d k q x soak} (h : Keeps s t) : Keeps s (t.moveOffset d k q x soak) :=
  .ite h.setLat.setDiodeFault.event (.ite (.setDiodeFault (.setLat (.showDiode (.ite h.setLat.setFld h.setLat))))
    (.showDiode (.ite h.setLat.setFld h.setLat)))

theorem moveBoth {d k f soak} (h : Keeps s t) : Keeps s (t.moveBoth d k f soak) := h.moveOffset.moveOffset

theorem soakSpot {d k} (h : Keeps s t) : Keeps s (t.soakSpot d k) :=
  .ite h.moveBoth.setLat.setFld.addPoint h.moveBoth.setLat

theorem soakRise (h : Keeps s t) : Keeps s (t.soakRise) := by
  unfold State.soakRise
  split
  · exact h
  · exact .ite h (.ite h.wevent h.setLat.updateRise)

theorem execSoakEnd (h : Keeps s t) : OutKeeps s (execSoakEnd t) :=
  .next (.ite (.wevent (.setWfld (h.soakRise.each (fun _ _ h => h.each (fun _ _ h => h.soakSpot))))) h)

theorem burstSpot {d k} (h : Keeps s t) : Keeps s (t.burstSpot d k) := .ite h.moveBoth.satFld.addPoint.setFld h.moveBoth

theorem execDieIdleBurst {d} (h : Keeps s t) : OutKeeps s (execDieIdleBurst d t) :=
  .unit (.ite (h.each (fun _ _ h => h.burstSpot)) h)

theorem calWrite {d k v} (h : Keeps s t) : Keeps s (t.calWrite d k v) := h.plainWrite.setLat.setLat.showDiode.showDiode

theorem execTwinIdleBurst {d k} (h : Keeps s t) : OutKeeps s (execTwinIdleBurst d k t) :=
  .unit (.ite h.addPoint.addPoint h)

theorem execPowerReferenceCheck {a b} (h : Keeps s t) : OutKeeps s (execPowerReferenceCheck a b t) :=
  .next (.ite h.wevent h)

theorem execMeterTrim {losses} (h : Keeps s t) : OutKeeps s (execMeterTrim losses t) := .next (.ite h h.setLat)

theorem balanceWarn {num den} (h : Keeps s t) : Keeps s (t.balanceWarn num den) :=
  .ite (.ite h.setLat h.setLat.setWfld.setWfld.event) (.ite h.setLat.setWfld.setWfld.event h.setLat)

theorem balanceTrim {dev} (h : Keeps s t) : Keeps s (t.balanceTrim dev) := .ite h h.setLat.setWfld

theorem balanceValid {num den q} (h : Keeps s t) : Keeps s (t.balanceValid num den q) :=
  h.setWfld.setWfld.setWfld.setLat.balanceWarn.balanceTrim

theorem heatNote (h : Keeps s t) : Keeps s (t.heatNote) := by
  unfold State.heatNote
  dsimp only
  split
  · exact .ite h.record h.record
  · exact h.record

theorem execHeatBalance (h : Keeps s t) : OutKeeps s (execHeatBalance t) := .next (.ite h.balanceValid h.setWfld.setLat)

theorem execCalibrationWrite {m k v} (h : Keeps s t) : OutKeeps s (execCalibrationWrite m k v t) :=
  .unit (h.guardedWrite (fun _ h => .ite h.plainWrite h.wevent))

/-! ## Fans -/

theorem settle {c} (h : Keeps s t) : Keeps s (t.settle c) :=
  .setWfld (.setWfld (.ite (.ite h.setWfld h) (.setLat (.setLat (.ite h.setWfld h)))))

theorem settleAll (h : Keeps s t) : Keeps s t.settleAll := h.each fun _ _ h => h.settle

theorem fanFault {f c code} (h : Keeps s t) : Keeps s (t.fanFault f c code) := .ite h h.setWfld.event

theorem classify {c ma blocked} (h : Keeps s t) (hblocked : ∀ u, Keeps s u → Keeps s (blocked u)) :
    Keeps s (t.classify c ma blocked) :=
  .ite (hblocked _ h) (.ite h.setWfld.setLat.fanFault h.setWfld.setLat.fanFault)

theorem execTachSilence {c ma} (h : Keeps s t) : OutKeeps s (execTachSilence c ma t) :=
  .unit (.ite (.settle (h.settle.setWfld.setWfld.classify (fun _ h => h.setWfld.setLat))) h.settle)

theorem execFanSlow {c us} (h : Keeps s t) : OutKeeps s (execFanSlow c us t) :=
  .unit (.ite h.settle.setWfld.fanFault h.settle)

theorem attemptBlocked {c} (h : Keeps s t) : Keeps s (t.attemptBlocked c) :=
  .ite h.setWfld.setLat.setWfld.event h.setLat

theorem execSpinupAttemptEnd {c us ma} (h : Keeps s t) : OutKeeps s (execSpinupAttemptEnd c us ma t) :=
  .unit (.ite h (.settle (.ite h.setWfld.setWfld.setWfld.setLat (h.setWfld.setWfld.classify (fun _ h =>
    h.attemptBlocked)))))

theorem execSpinupPauseEnd {c} (h : Keeps s t) : OutKeeps s (execSpinupPauseEnd c t) :=
  .unit (.ite h.setLat.setWfld.event.settle h)

theorem execBlockedRetry {c} (h : Keeps s t) : OutKeeps s (execBlockedRetry c t) :=
  .unit (.ite h.setLat.setWfld.settle h)

/-! ## Policy -/

theorem takeReadings {r} (h : Keeps s t) : Keeps s (t.takeReadings r) := by
  unfold State.takeReadings
  extract_lets a b c d raw q e trim f g i j k l m n
  have hb : Keeps s b := h.setFld.each fun _ _ h => h.setWfld
  have hd : Keeps s d := (hb.each fun _ _ h => h.setLat).setLat
  have he : Keeps s e := hd.each fun _ _ h => h.setWfld.noteFlow.noteFlat
  have hi : Keeps s i := he.setWfld.setLat.each fun _ _ h => h.setWfld
  have hk : Keeps s k := hi.setLat.each fun _ _ h => h.setWfld.setWfld
  have hm : Keeps s m := (hk.each fun _ _ h => h.setWfld).setWfld
  have hn : Keeps s n := .ite hm.setWfld.setWfld hm
  exact (hn.each fun _ _ h => h.setLat).updateRise.heatNote

theorem coolEnter {bit on f} (h : Keeps s t) (hf : ∀ u, Keeps s u → Keeps s (f u)) :
    Keeps s (t.coolEnter bit on f) :=
  .ite (.ite h (hf _ h.setLat)) h.setLat

theorem sensorShutdown (h : Keeps s t) : Keeps s t.sensorShutdown := .emergDrive (.ite h.event.setLat h.event)

theorem readingsInUse (h : Keeps s t) : Keeps s t.readingsInUse := by
  unfold State.readingsInUse
  extract_lets i o q a b c d e
  have ha : Keeps s a := h.setWfld
  have hb : Keeps s b := .ite ha ha.setWfld
  have hc : Keeps s c := hb.setWfld.setWfld
  have hd : Keeps s d := hc.coolEnter fun _ h => h.event
  have he : Keeps s e := hd.coolEnter fun _ h => h.sensorShutdown
  exact he.coolEnter fun _ h => h.event

theorem formSpot {d k x unit} (h : Keeps s t) : Keeps s (t.formSpot d k x unit) := by
  unfold State.formSpot
  dsimp only
  refine .ite h.setLat.setLat ?_
  split
  · exact .event (.ite h.setLat.setLat.setFld h.setLat.setLat)
  · exact h.setLat.setLat

theorem formTwin {d k} (h : Keeps s t) : Keeps s (t.formTwin d k) := by
  unfold State.formTwin
  dsimp only
  split
  · exact h
  · exact h.setFld.setFld

theorem formOther {d} (h : Keeps s t) : Keeps s (t.formOther d) :=
  .ite (.event (.setLat (h.each (fun _ _ h => h.formSpot)))) (.setLat (h.each (fun _ _ h => h.formSpot)))

theorem formTemps (h : Keeps s t) : Keeps s t.formTemps :=
  .each (h.each (fun _ _ h => .each (h.each (fun _ _ h => h.formSpot)) (fun _ _ h => h.formTwin))) (fun _ _ h =>
    h.formOther)

theorem formCap (h : Keeps s t) : Keeps s t.formCap := h.setWfld.setWfld.setWfld.setWfld

theorem capTooLow (h : Keeps s t) : Keeps s t.capTooLow := by
  unfold State.capTooLow
  extract_lets other on
  exact .ite (.ite h h.wevent.clampOn) (.ite h.clampOff h)

theorem excursion (h : Keeps s t) : Keeps s t.excursion :=
  .ite (.ite h.setLat.setLat.setWfld.clampOff h.setLat.setLat) (.ite h.setLat.setLat.setLat.setWfld.wevent.clampOn
    h.setLat.setLat)

theorem firstOnDie {l d k code sev} (h : Keeps s t) : Keeps s (t.firstOnDie l d k code sev) := .ite h.setLat.event h

theorem throttleWalk {d l} (h : Keeps s t) : Keeps s (State.throttleWalk d l t) := by
  induction l generalizing t with
  | nil => exact h
  | cons k ks ih =>
    unfold State.throttleWalk
    extract_lets vid a b c
    have ha : Keeps s a := h.setFld.setLat
    have hb : Keeps s b := ha.setLat.firstOnDie
    have hc : Keeps s c := .ite hb.setLat.setLat.firstOnDie hb
    exact .ite ha.setVid.firstOnDie (ih hc)

theorem regain {d k} (h : Keeps s t) : Keeps s (t.regain d k) :=
  .ite (.setFld (.ite h.setLat.setLat.setLat (.ite h.setLat.setVid h.setLat))) (.ite h.setLat.setLat.setLat (.ite
    h.setLat.setVid h.setLat))

theorem release {d anyHot} (h : Keeps s t) : Keeps s (t.release d anyHot) := by
  unfold State.release
  dsimp only
  refine .ite (h.each (fun _ _ h => h.setLat)) ?_
  split
  · exact .regain (h.each (fun _ _ h => h.setLat))
  · exact h.each (fun _ _ h => h.setLat)

theorem throttleDie {d} (h : Keeps s t) : Keeps s (t.throttleDie d) := by
  unfold State.throttleDie
  extract_lets hot a b c e
  have ha : Keeps s a := h.each fun _ _ h => h.setFld.setFld.setLat.setLat
  have hb : Keeps s b := ha.each fun _ _ h => h.setFlag.setLat
  have he : Keeps s e := hb.throttleWalk.release
  exact .ite he he.setLat.setLat

theorem capWalk {l above} (h : Keeps s t) : Keeps s (State.capWalk l above t) := by
  induction l generalizing t above with
  | nil => exact h
  | cons x l ih =>
    unfold State.capWalk
    exact .ite h (.ite (ih h.setVid.setFld) (.ite (ih h.setLat.setLat.setFld) (ih h.setLat)))

theorem capRise (h : Keeps s t) : Keeps s (t.capRise) := by
  unfold State.capRise
  split
  · exact h
  · exact .ite (.setFld (.ite h.setLat.setLat h.setVid)) (.ite h.setLat.setLat h.setVid)

theorem capControl (h : Keeps s t) : Keeps s t.capControl := .ite h.capWalk (.ite h.capRise h)

theorem formDraws (h : Keeps s t) : Keeps s t.formDraws :=
  .ite (.setLat (h.each (fun _ _ h => h.setLat))) (.setLat (.each (h.each (fun _ _ h => h.setLat)) (fun _ _ h =>
    h.setWfld.setLat)))

theorem noteBreach {t' kind unit guar deliv} (h : Keeps s t) : Keeps s (t.noteBreach t' kind unit guar deliv) := by
  unfold State.noteBreach
  dsimp only
  split
  · exact h.setLat
  · exact .ite h h.setLat.setWfld.wevent.breachSend

theorem breaches {t'} (h : Keeps s t) : Keeps s (t.breaches t') := h.noteBreach.record.noteBreach.noteBreach

theorem curveInstall (h : Keeps s t) : Keeps s (t.curveInstall) := by
  unfold State.curveInstall
  refine .ite h ?_
  dsimp only
  split
  · exact h.setLat.setWfld.setWfld
  · exact .setWfld (.setWfld (h.setLat.each (fun _ _ h => h.setWreg)))

theorem policyCycle (h : Keeps s t) : Keeps s t.policyCycle :=
  .settleAll (.each (.formDraws (.capControl (h.curveInstall.readingsInUse.formTemps.formCap.capTooLow.excursion.each
    (fun _ _ h => h.throttleDie)))) (fun _ _ h => h.breaches))

theorem execPolicyCycle {r} (h : Keeps s t) : OutKeeps s (execPolicyCycle r t) := h.takeReadings.policyCycle

/-! ## Orders -/

theorem execThOrderHostWrite {m v} (h : Keeps s t) : OutKeeps s (execThOrderHostWrite m v t) := by
  unfold Machine.execThOrderHostWrite
  refine .next ?_
  split
  · exact .ite h.wevent h.plainWrite.orderArrives.formOrder
  · exact h.wardenRefused

theorem execDrainTimerEnd (h : Keeps s t) : OutKeeps s (execDrainTimerEnd t) :=
  .next (.ite h h.setLat.setWfld.setLat.formOrder)

theorem flowShutdown (h : Keeps s t) : Keeps s t.flowShutdown := h.wevent.setLat.emergDrive

theorem flowLoss {i} (h : Keeps s t) : Keeps s (t.flowLoss i) :=
  .settleAll (.ite (.flowShutdown (h.setWfld.event.clampOn.setLat.each (fun _ _ h => .ite h.svOff h)))
    (h.setWfld.event.clampOn.setLat.each (fun _ _ h => .ite h.svOff h)))

theorem execFlowLossDetect {n x y} (h : Keeps s t) : OutKeeps s (execFlowLossDetect n x y t) :=
  .unit (.ite (.ite h.noteFlow.flowLoss h.noteFlow) h)

theorem execFlowRestored (h : Keeps s t) : OutKeeps s (execFlowRestored t) :=
  .next (.ite h.setWfld.setLat.setWfld.setLat.wevent.clampOff h)

theorem execRampStep (h : Keeps s t) : OutKeeps s (execRampStep t) := .next (.ite (.ite h.setLat.setWfld h.setLat) h)

theorem execPumpHoldEnd (h : Keeps s t) : OutKeeps s (execPumpHoldEnd t) := h.setLat

theorem execFlowLossShutdown (h : Keeps s t) : OutKeeps s (execFlowLossShutdown t) := .next (.ite h.flowShutdown h)

theorem leakRead {k x} (h : Keeps s t) : Keeps s (t.leakRead k x) := .ite h.setWfld.setLat.event h.setWfld.setLat

theorem execLeakLoopSample {k off r1 r2} (h : Keeps s t) : OutKeeps s (execLeakLoopSample k off r1 r2 t) :=
  .unit (.ite h.leakRead h.setWfld.setLat)

theorem leakConfirm {k} (h : Keeps s t) : Keeps s (t.leakConfirm k) :=
  h.setBoth.event.downToStandby.setLat.setLat.emergDrive

theorem execLeakConfirm {k} (h : Keeps s t) : OutKeeps s (execLeakConfirm k t) := .unit (.ite h.leakConfirm h)

theorem execJunctionTrip {d k} (h : Keeps s t) : OutKeeps s (execJunctionTrip d k t) :=
  .unit (.ite (.ite h.trip h) (.ite h.trip h))

theorem execOutletTrip {n} (h : Keeps s t) : OutKeeps s (execOutletTrip n t) := .unit (.ite h.trip h)

theorem execThTenmapWrite {m d half v} (h : Keeps s t) : OutKeeps s (execThTenmapWrite m d half v t) :=
  .unit (h.guardedWrite (fun _ h => .ite h.setWreg.wevent h.setWreg))

theorem execThTenShareWrite {m t' v} (h : Keeps s t) : OutKeeps s (execThTenShareWrite m t' v t) :=
  .unit (h.guardedWrite (fun _ h => .ite h.wevent h.plainWrite))

theorem execEmergIn (h : Keeps s t) : OutKeeps s (execEmergIn t) :=
  .next (.ite h.setWfld.setWfld.wevent.setLat.downToStandby.formOrder h)

theorem execEmergHoldClear (h : Keeps s t) : OutKeeps s (execEmergHoldClear t) :=
  .next (.ite h.setWfld.setWfld.formOrder h)

theorem execEmergDriveEnd (h : Keeps s t) : OutKeeps s (execEmergDriveEnd t) := h.setWfld.setLat

theorem execCurveApply {m v} (h : Keeps s t) : OutKeeps s (execCurveApply m v t) :=
  h.guardedWrite fun _ h => .ite h (.ite h.presenceRefused (.ite h.setWfld h.setLat))

theorem policyWrite {r i v} (h : Keeps s t) : Keeps s (t.policyWrite r i v) :=
  .ite h.wevent (h.plainWrite.each (fun _ _ h => h.setWfld.setLat))

theorem execPolicyRegisterWrite {m off v} (h : Keeps s t) : OutKeeps s (execPolicyRegisterWrite m off v t) := by
  unfold Machine.execPolicyRegisterWrite
  split
  · exact h.guardedWrite (fun _ h => h.policyWrite)
  · exact trivial

theorem execStackTemperatureReadout {d stack temp} (h : Keeps s t) :
    OutKeeps s (execStackTemperatureReadout d stack temp t) :=
  .unit (.ite (.ite h.setFld.setLat (.ite h.setFld.setLat h.setFld)) h)

/-! ## HostPort -/

theorem execPcie1Perst (h : Keeps s t) : OutKeeps s (execPcie1Perst t) := h.setLat.hostPortReset

theorem execPcieHotReset {port} (h : Keeps s t) : OutKeeps s (execPcieHotReset port t) := .unit h.hostPortReset

theorem execFunctionLevelReset {port link} (h : Keeps s t) : OutKeeps s (execFunctionLevelReset port link t) :=
  .unit h.dmaAbort.setReg.setFld.linkChange.freeLocks.answer

theorem execHostLinkTrained {port width speed flit} (h : Keeps s t) :
    OutKeeps s (execHostLinkTrained port width speed flit t) :=
  .unit (.ite h (.linkChange (.ite h.setFld.setFld.setFld.setFld.setFld.event h.setFld.setFld.setFld.setFld)))

theorem dmaCtlWrite {port c v} (h : Keeps s t) : Keeps s (t.dmaCtlWrite port c v) :=
  .ite (.ite (.setDmaFld (.ite h.setDmaFld.setDmaFld h.setDmaFld)) (.event (.setDmaFld (.ite h.setDmaFld.setDmaFld
    h.setDmaFld)))) (.setDmaFld (.ite h.setDmaFld.setDmaFld h.setDmaFld))

theorem execHostDmaEnable {port c v} (h : Keeps s t) : OutKeeps s (execHostDmaEnable port c v t) :=
  .unit (.ite (h.toDie (fun _ h => h.dmaCtlWrite)) h)

theorem execHostDmaDisable {port c v} (h : Keeps s t) : OutKeeps s (execHostDmaDisable port c v t) :=
  .unit (.ite h (h.toDie (fun _ h => h.dmaCtlWrite)))

theorem execHostDmaHeadWrite {port c v} (h : Keeps s t) : OutKeeps s (execHostDmaHeadWrite port c v t) :=
  .unit (h.toDie (fun _ h => h.setDmaFld))

theorem execHostDmaDescStart {port c desc} (h : Keeps s t) : OutKeeps s (execHostDmaDescStart port c desc t) :=
  .unit (.ite h.setDmaMoving.setDmaFld h)

theorem dmaEnd {port c code w rest bs} (h : Keeps s t) : Keeps s (t.dmaEnd port c code w rest bs) := by
  unfold State.dmaEnd
  extract_lets a b c d
  have hb : Keeps s b := h.setDmaMoving.setDmaFld
  have hc : Keeps s c := .ite (.ite hb.raiseMsix hb) hb.dmaFail
  have hd : Keeps s d := .ite hc.setDmaFld hc
  exact hd.answer

theorem execHostDmaIdle {port c} (h : Keeps s t) : OutKeeps s (execHostDmaIdle port c t) := .unit (.ite h.setDmaFld h)

theorem execHiPkgNumWrite {port v} (h : Keeps s t) : OutKeeps s (execHiPkgNumWrite port v t) :=
  .unit (h.toDie (fun _ h => .ite h.event h.setFld))

theorem execHiBar2BaseWrite {port v} (h : Keeps s t) : OutKeeps s (execHiBar2BaseWrite port v t) :=
  .unit (h.toDie (fun _ h => h.setReg))

/-! ## Mailbox -/

theorem setMbSide {pair low x} (h : Keeps s t) : Keeps s (t.setMbSide pair low x) := .ite h.setSide h.updSticky

theorem wakeDie {d} (h : Keeps s t) : Keeps s (t.wakeDie d) := .ite h (.ite h.setLat.railsClose.twinOn h.setLat)

theorem mbBell {pair low bits} (h : Keeps s t) : Keeps s (t.mbBell pair low bits) :=
  .ite h.hostDoorbell (.ite (.ite (.ite h.setMbSide.cdDeliver h.setMbSide) (.wakeDie (.ite h.setMbSide.cdDeliver
    h.setMbSide))) h.setMbSide)

theorem mbRefuse {pair low} (h : Keeps s t) : Keeps s (t.mbRefuse pair low) := h.setMbSide.wevent

theorem mbEndWait {pair low w} (h : Keeps s t) : Keeps s (t.mbEndWait pair low w) := h.setMbSide.mbBell

theorem mbCross {pair} (h : Keeps s t) : Keeps s (t.mbCross pair) := .ite h.mbEndWait.wevent h

theorem mbPost {pair low wait} (h : Keeps s t) : Keeps s (t.mbPost pair low wait) :=
  .ite h.setMbSide.mbBell h.setMbSide.mbBell.mbCross

theorem mbAck {pair low r} (h : Keeps s t) : Keeps s (t.mbAck pair low r) := .ite h.setMbSide.mbBell h.mbRefuse

theorem mbReset {pair low} (h : Keeps s t) : Keeps s (t.mbReset pair low) := .ite h.resetSide (.ite h.resetCdSide h)

theorem mbCommand {m pair low f} (h : Keeps s t) (hf : ∀ u, Keeps s u → Keeps s (f u)) :
    OutKeeps s (mbCommand m pair low t f) :=
  .unit (.ite h.wevent (.ite (h.toDie (hf)) (hf _ h)))

theorem execMbOutWrite {m pair low off data} (h : Keeps s t) : OutKeeps s (execMbOutWrite m pair low off data t) :=
  h.mbCommand fun _ h => .ite h (.ite h.mbRefuse h.setMbSide)

theorem execMbPost {m pair low} (h : Keeps s t) : OutKeeps s (execMbPost m pair low t) :=
  h.mbCommand fun _ h => .ite h.mbPost h.mbRefuse

theorem execMbWait {m pair low} (h : Keeps s t) : OutKeeps s (execMbWait m pair low t) :=
  h.mbCommand fun _ h => .ite h.setMbSide.mbCross h

theorem execMbPostWait {m pair low} (h : Keeps s t) : OutKeeps s (execMbPostWait m pair low t) :=
  h.mbCommand fun _ h => .ite h.mbPost h.mbRefuse

theorem execMbResetIn {m pair low} (h : Keeps s t) : OutKeeps s (execMbResetIn m pair low t) :=
  h.mbCommand fun _ h => h.mbReset

theorem execMbAck {m pair low x} (h : Keeps s t) : OutKeeps s (execMbAck m pair low x t) :=
  h.mbCommand fun _ h => h.mbAck

theorem execMbDbOutWrite {m pair low x} (h : Keeps s t) : OutKeeps s (execMbDbOutWrite m pair low x t) :=
  h.mbCommand fun _ h => h.mbBell

/-! ## Warden -/

theorem discardCopy {o} (h : Keeps s t) : Keeps s (t.discardCopy o) := by
  unfold State.discardCopy
  dsimp only
  refine .setLat ?_
  refine .setStickyOf ?_
  refine h.each (fun _ _ h => ?_)
  split
  · exact .ite h.setReg h
  · exact h

theorem healthyWrite {w on} (h : Keeps s t) : Keeps s (t.healthyWrite w on) :=
  .ite h (.ite (.ite h.setFld.setLat (.ite h.setFld.setLat.setFld.tbRole (.ite h.setFld.setLat.discardCopy
    h.setFld.setLat.checkRole))) (.ite h.setFld.forcedBegin.checkRole h.setFld))

theorem execHealthyWrite {m w v} (h : Keeps s t) : OutKeeps s (execHealthyWrite m w v t) :=
  .unit (.ite h.healthyWrite h)

theorem execWardenTakeover (h : Keeps s t) : OutKeeps s (execWardenTakeover t) := h.checkRole

theorem handover (h : Keeps s t) : Keeps s t.handover :=
  .ite h.setLat.wevent (.ite h.setLat (.tbRole (.hostDoorbell (.setLat (h.setFld.setFld.setFld.setFld.each (fun _ _ h
    => h.setFld.setFld.setFld))))))

theorem execHandover {m v} (h : Keeps s t) : OutKeeps s (execHandover m v t) :=
  .next (.ite (h.guardedWrite (fun _ h => h.handover)) h)

theorem copyMirror {o} (h : Keeps s t) : Keeps s (t.copyMirror o) := by
  unfold State.copyMirror
  dsimp only
  refine .setStickyOf ?_
  refine .each ?_ (fun _ _ h => ?_)
  · refine h.each (fun _ _ h => ?_)
    split
    · exact .ite h.setReg h
    · exact h
  · split
    · exact .ite h.setReg h
    · exact h

theorem execMirrorCopyDone (h : Keeps s t) : OutKeeps s (execMirrorCopyDone t) :=
  .next (.ite h.copyMirror.setFld.setLat h)

theorem watchdogExpire {w} (h : Keeps s t) : Keeps s (t.watchdogExpire w) := .ite h h.satFld.setLat.wdr.occur

theorem execWatchdogKick {m w v} (h : Keeps s t) : OutKeeps s (execWatchdogKick m w v t) :=
  .unit (.ite h (.ite h.setLat (.ite h.setLat.setFld.setLat h.watchdogExpire)))

theorem execWatchdogExpire {w} (h : Keeps s t) : OutKeeps s (execWatchdogExpire w t) := .unit h.watchdogExpire

theorem leakForced {w} (h : Keeps s t) : Keeps s (State.leakForced w t) := h.forcedBegin.each fun _ _ h => h.railsOpen

theorem leakWrite {m d v} (h : Keeps s t) : Keeps s (t.leakWrite m d v) := by
  unfold State.leakWrite
  extract_lets w un was a b c e
  have ha : Keeps s a := h.plainWrite
  have hb : Keeps s b := .ite (ha.setLat.iff fun _ h => h.leakForced) ha
  have hc : Keeps s c := .ite hb.putFld hb
  exact .ite hc.putFld.record hc

theorem execLeakUnlatch {m v} (h : Keeps s t) : OutKeeps s (execLeakUnlatch m v t) :=
  .next (.ite (h.guardedWrite (fun _ h => h.leakWrite)) h)

theorem execWdDiePhaseWrite {m d v} (h : Keeps s t) : OutKeeps s (execWdDiePhaseWrite m d v t) := by
  unfold Machine.execWdDiePhaseWrite
  refine .unit ?_
  refine h.guardedWrite (fun _ h => ?_)
  split
  · exact .ite h.setWfld h.wevent
  · exact h.setWfld

theorem lockRead {me i} (h : Keeps s t) : Keeps s (t.lockRead me i) := .ite h.setWfld.answer h.answer

theorem execLockRead {m n} (h : Keeps s t) : OutKeeps s (execLockRead m n t) := by
  unfold Machine.execLockRead
  refine .unit ?_
  split
  · exact h.lockRead
  · exact h.answer

theorem lockWrite {me i} (h : Keeps s t) : Keeps s (t.lockWrite me i) := .ite h.setWfld h.wevent

theorem execLockWrite {m n} (h : Keeps s t) : OutKeeps s (execLockWrite m n t) := by
  unfold Machine.execLockWrite
  refine .unit ?_
  split
  · exact h.lockWrite
  · exact h

theorem execLkForce {m v} (h : Keeps s t) : OutKeeps s (execLkForce m v t) :=
  .next (.ite (h.each (fun _ _ h => h.setWfld.wevent)) h.wardenRefused)

/-! ## Recorder -/

theorem execEventRecord {code sev unit payload} (h : Keeps s t) :
    OutKeeps s (execEventRecord code sev unit payload t) :=
  .unit h.event

theorem clearRecorder (h : Keeps s t) : Keeps s t.clearRecorder := h.resetRegs.resetLats.setFld.setFld.record

theorem execRecorderClear {m v} (h : Keeps s t) : OutKeeps s (execRecorderClear m v t) :=
  .next (.ite (h.guardedWrite (fun _ h => .ite h.plainWrite.setWfld.clearRecorder.wevent h.plainWrite.setWfld)) h)

theorem execEvLimitWrite {m n v} (h : Keeps s t) : OutKeeps s (execEvLimitWrite m n v t) :=
  .unit (h.guardedWrite (fun _ h => .ite h.wevent h.setWreg.setLat.setLat))

theorem setPres {f x} (h : Keeps s t) : Keeps s (t.setPres f x) := h.setFld.setFld

theorem execPresenceButton {rested} (h : Keeps s t) : OutKeeps s (execPresenceButton rested t) :=
  .next (.ite h h.setPres.setPres.setPres.setLat.wevent)

theorem execButtonWindowEnd (h : Keeps s t) : OutKeeps s (execButtonWindowEnd t) := h.setPres.setPres

theorem execButtonStuck (h : Keeps s t) : OutKeeps s (execButtonStuck t) := h.setPres.setPres.setPres.wevent

theorem sealCount {w} (h : Keeps s t) : Keeps s (t.sealCount w) := .ite h h.satFld.satFld

theorem execSealLoopChange {reading} (h : Keeps s t) : OutKeeps s (execSealLoopChange reading t) := by
  unfold Machine.execSealLoopChange
  refine .unit ?_
  dsimp only
  refine .ite h ?_
  split
  · exact .ite h.setPres h.setPres.wevent
  · exact .ite h.setPres.sealCount.sealCount.wevent.wevent h.setPres.sealCount.sealCount.wevent
  · exact h.setPres.wevent

theorem fuseCommand {d v} (h : Keeps s t) : Keeps s (t.fuseCommand d v) :=
  .ite h.presenceRefused (.ite h (.ite h.setFld h.setFld.setLat.setLat))

theorem execFuseProgram {m w v} (h : Keeps s t) : OutKeeps s (execFuseProgram m w v t) :=
  .unit (h.guardedWrite (fun _ h => h.fuseCommand))

theorem execFuseProgramDone {w reads} (h : Keeps s t) : OutKeeps s (execFuseProgramDone w reads t) :=
  .unit (.ite (.ite h.setFld.setFld.setFld.event h.setFld.setFld.setFld.event) h)

/-! ## Reset -/

theorem reapplySpindle {d ph} (h : Keeps s t) : Keeps s (t.reapplySpindle d ph) := by
  unfold State.reapplySpindle
  split
  · split
    · exact h.setSpFld.setSpFld
    · exact h.setLat
  · exact h

theorem reapply {u'} (h : Keeps s t) : Keeps s (t.reapply u') := by
  unfold State.reapply
  extract_lets d x a k i j b c p m e
  have ha : Keeps s a := h.addRetired
  have hb : Keeps s b := ha.setFld.addRetired.addRetired
  have hc : Keeps s c := .ite hb.reapplySpindle hb
  have he : Keeps s e := ha.setWpFld
  refine .ite (.ite ha.setLat ha) (.ite ha.setLat (.ite ha.setLinkRetired (.ite ha.setLat (.ite ?_ (.ite ?_ ?_)))))
  · exact .ite ha.reapplySpindle (.ite (.ite hc.reapplySpindle hc) ha)
  · exact .ite ha.setFld ha
  · exact .ite (.ite he.addRetired he) ha

theorem reapplyLog (h : Keeps s t) : Keeps s t.reapplyLog := h.each fun _ _ h => h.reapply

theorem reapplyLeak (h : Keeps s t) : Keeps s t.reapplyLeak := .ite h h.setBoth

theorem restoreRecorder (h : Keeps s t) : Keeps s (t.restoreRecorder) := by
  unfold State.restoreRecorder
  split
  · exact h
  · exact .ite (.wevent (.setBoth (h.record.setReg.setReg.each (fun _ _ h => h.setFld.setFld)))) h.wevent

theorem restoreSave (h : Keeps s t) : Keeps s (t.restoreSave) := by
  unfold State.restoreSave
  split
  · exact h
  · exact .setLat (.ite h.record.setFld.setBoth.setBoth.setWfld.setWfld.wevent h.wevent)

theorem reapplyAll (h : Keeps s t) : Keeps s t.reapplyAll := by
  unfold State.reapplyAll
  extract_lets u v
  have hv : Keeps s v := h.putStraps.putStraps.reapplyLog.loadTables.loadTables
  exact (hv.each fun _ _ h => h.loadDieT).reapplyLeak.restoreSave

theorem pkgLose (h : Keeps s t) : Keeps s t.pkgLose :=
  .ite h.resetRegs.resetRegs.resetLats.clearBytes.clearBytes.record.setLat.setLat.setFld
    h.resetRegs.resetRegs.resetLats.clearBytes.clearBytes.record.setLat.setLat

theorem pkgReset {cause} (h : Keeps s t) : Keeps s (t.pkgReset cause) :=
  .ite h.setLat h.pkgLose.reapplyAll.setWfld.setLat.setLat.beginStep

theorem execPcie0Perst (h : Keeps s t) : OutKeeps s (execPcie0Perst t) := h.setLat.pkgReset

theorem execPkgReset (h : Keeps s t) : OutKeeps s (execPkgReset t) := h.pkgReset

theorem execPerstNDeassert {port} (h : Keeps s t) : OutKeeps s (execPerstNDeassert port t) := .unit h.setLat

theorem powerLost (h : Keeps s t) : Keeps s t.powerLost := ⟨h.pending, fun _ => rfl⟩

theorem execVstbyDown (h : Keeps s t) : OutKeeps s (execVstbyDown t) := h.powerLost.setLat

theorem execPowerOnReset {slots jumper pwrfail} (h : Keeps s t) :
    OutKeeps s (execPowerOnReset slots jumper pwrfail t) :=
  .unit h.powerLost.restoreRecorder.setLat.setBoth.reapplyAll.setWfld

theorem execWdr {w cause} (h : Keeps s t) : OutKeeps s (execWdr w cause t) := .unit (.ite h h.wdr)

theorem rstDone {unit} (h : Keeps s t) : Keeps s (t.rstDone unit) := .ite h.setLat.setWfld.setWfld h

theorem absorbReset {d} (h : Keeps s t) : Keeps s (t.absorbReset d) := .ite h.rstDone h

theorem dieReset {d cause} (h : Keeps s t) : Keeps s (t.dieReset d cause) :=
  .ite h h.dieGone.setLat.setLat.setLat.setWfld.absorbReset.resetRan

theorem execDieReset {d cause} (h : Keeps s t) : OutKeeps s (execDieReset d cause t) := .unit h.dieReset

theorem quarryBack {d} (h : Keeps s t) : Keeps s (t.quarryBack d) := h.setLat.setReg.each fun _ _ h => h.setFld

theorem dieResetEnd {d} (h : Keeps s t) : Keeps s (t.dieResetEnd d) := by
  unfold State.dieResetEnd
  extract_lets a u v b
  have ha : Keeps s a := h.setLat.setWfld.dieReady
  have hu : Keeps s u := ha.quarryBack
  have hv : Keeps s v := ha.offsetsBack
  have hb : Keeps s b := .ite (.ite (hu.each fun _ _ h => .ite h.setFld h) hu) (.ite (.ite hv.cdDeliver hv) ha)
  exact hb.rstDone

theorem execDieResetEnd {d} (h : Keeps s t) : OutKeeps s (execDieResetEnd d t) := .unit (.ite h h.dieResetEnd)

theorem spnResetPhys {d ph} (h : Keeps s t) : Keeps s (t.spnResetPhys d ph) := by
  unfold State.spnResetPhys
  refine .ite ?_ h
  refine .resetRan ?_
  split
  · exact h.spnReset
  · exact h

theorem spnResetDone {d ph} (h : Keeps s t) : Keeps s (t.spnResetDone d ph) := by
  unfold State.spnResetDone
  refine .rstDone ?_
  split
  · exact h.spnResetEnd
  · exact h

theorem execSpnReset {d ph done} (h : Keeps s t) : OutKeeps s (execSpnReset d ph done t) :=
  .unit (.ite h.spnResetDone h.spnResetPhys)

theorem portReset {unit cause} (h : Keeps s t) : Keeps s (t.portReset unit cause) := by
  unfold State.portReset
  refine .ite ?_ h
  split
  · exact h.warpPortReset
  · exact h.hostPortReset
  · exact h.cxlPortReset
  · exact h

theorem execPortReset {unit cause} (h : Keeps s t) : OutKeeps s (execPortReset unit cause t) := .unit h.portReset

theorem rstBegun {unit} (h : Keeps s t) : Keeps s (t.rstBegun unit) := h.setLat.setWfld.setWfld

theorem rstRun {unit} (h : Keeps s t) : Keeps s (t.rstRun unit) := by
  unfold State.rstRun
  dsimp only
  split
  · exact h.setWfld.pkgReset
  · exact h.setWfld.wdr
  · exact h.setWfld.dieReset.rstBegun
  · exact .ite h.setWfld.spnResetPhys.rstBegun h.setWfld.spnResetPhys
  · exact h.setWfld.portReset
  · exact h.setWfld

theorem rstWrite {v} (h : Keeps s t) : Keeps s (t.rstWrite v) :=
  .ite h.setWfld (.ite h.setWfld.setWfld (.ite h.setWfld.setWfld (.ite h.setWfld.setWfld h.setWfld.rstRun)))

theorem execWdRstCmd {m v} (h : Keeps s t) : OutKeeps s (execWdRstCmd m v t) := h.guardedWrite fun _ h => h.rstWrite

/-! ## TrayBus -/

theorem setTbState {w x} (h : Keeps s t) : Keeps s (t.setTbState w x) := h.setFld

theorem tbEvent {w code sev payload} (h : Keeps s t) : Keeps s (t.tbEvent w code sev payload) := h.event

theorem tbRefused {w addr} (h : Keeps s t) : Keeps s (t.tbRefused w addr) := h.tbEvent

theorem tbWrite {m w addr f} (h : Keeps s t) (hf : ∀ u, Keeps s u → Keeps s (f u)) :
    Keeps s (t.tbWrite m w addr f) := by
  unfold State.tbWrite
  split
  · exact hf _ h
  · exact .ite (hf _ h) h.tbRefused
  · exact h.tbRefused

theorem tbOwn {m w addr f} (h : Keeps s t) (hf : ∀ u, Keeps s u → Keeps s (f u)) : Keeps s (t.tbOwn m w addr f) :=
  .ite (hf _ h) h.tbRefused

theorem txEnd {w b x} (h : Keeps s t) : Keeps s (t.txEnd w b x) := h.setFld.setLat.setLat.setLat

theorem txExpire {w b} (h : Keeps s t) : Keeps s (t.txExpire w b) := h.txEnd.tbEvent

theorem txAbort {w b} (h : Keeps s t) : Keeps s (t.txAbort w b) := .ite h (.ite h.setLat h.txEnd)

theorem autorate {w} (h : Keeps s t) : Keeps s (t.autorate w) := h.setTbState.setFld.setFld.setFld.setFld.setFld

theorem nextNom {w} (h : Keeps s t) : Keeps s (t.nextNom w) := .ite h.setFld.setFld.satFld h.setFld.setFld

theorem goNormal {w} (h : Keeps s t) : Keeps s (t.goNormal w) := h.setFld.setTbState.tbJoin

theorem mayJoin {w} (h : Keeps s t) : Keeps s (t.mayJoin w) := .ite h.goNormal h.setTbState

theorem countFrame {w brs} (h : Keeps s t) : Keeps s (t.countFrame w brs) :=
  .ite (.ite h.setFld h.setReg.setFld.setFld.tbEvent.mayJoin) (.ite (.ite h.setFld h.setReg.setFld.setFld) h)

theorem tbPassive {w} (h : Keeps s t) : Keeps s (t.tbPassive w) := by
  unfold State.tbPassive
  dsimp only
  split
  · exact .ite h.setTbState.tbEvent h
  · exact .ite h h.setTbState
  · exact h

theorem busOff {w} (h : Keeps s t) : Keeps s (t.busOff w) := h.setTbState.setFld.satFld.setLat.tbEvent

theorem execCanBusError {w e brs} (h : Keeps s t) : OutKeeps s (execCanBusError w e brs t) := by
  refine .unit ?_
  extract_lets d st a b
  have ha : Keeps s a := h.satFld
  have hb : Keeps s b := .ite ha.satFld.tbPassive ha
  exact .ite h (.ite hb (.ite hb.nextNom (.ite hb.setFld.setFld hb)))

theorem execBusOffAutoRecover (h : Keeps s t) : OutKeeps s (execBusOffAutoRecover t) := .next (.ite h.setTbState h)

theorem execBusOffRecoveryDone {w} (h : Keeps s t) : OutKeeps s (execBusOffRecoveryDone w t) :=
  .unit (.ite (.tbEvent (h.setTbState.setFld.setFld.each (fun _ _ h => h.setFld))) h)

theorem tbOff {w} (h : Keeps s t) : Keeps s (t.tbOff w) :=
  .ite (.setTbState (h.each (fun _ _ h => h.txAbort.setFld))) (.setTbState (h.each (fun _ _ h => h.txAbort.setFld)))

theorem tbRecover {w} (h : Keeps s t) : Keeps s (t.tbRecover w) := .ite h.setTbState h

theorem tbAutorate {w} (h : Keeps s t) : Keeps s (t.tbAutorate w) := .ite h h.autorate

theorem execTbModeWrite {m w v} (h : Keeps s t) : OutKeeps s (execTbModeWrite m w v t) := by
  unfold Machine.execTbModeWrite
  refine .unit ?_
  refine h.tbWrite (fun _ h => ?_)
  dsimp only
  split
  · exact .tbOff (.setFld (.setFld (.setFld (.ite (.tbAutorate (.ite h.tbRecover h)) (.ite h.tbRecover h)))))
  · exact .iff (.setFld (.setFld (.setFld (.ite (.tbAutorate (.ite h.tbRecover h)) (.ite h.tbRecover h))))) (fun _ h =>
      h.setTbState)
  · exact .ite (.goNormal (.setFld (.setFld (.ite (.tbAutorate (.ite h.tbRecover h)) (.ite h.tbRecover h))))) (.setFld
      (.setFld (.setFld (.ite (.tbAutorate (.ite h.tbRecover h)) (.ite h.tbRecover h)))))
  · exact .setFld (.setFld (.ite (.tbAutorate (.ite h.tbRecover h)) (.ite h.tbRecover h)))

theorem execCanIntegrationDone {w} (h : Keeps s t) : OutKeeps s (execCanIntegrationDone w t) :=
  .unit (.ite (.ite h.setTbState.setFld.setFld.announce h.setTbState.setFld.setFld) h)

theorem execCanRecover {m w} (h : Keeps s t) : OutKeeps s (execCanRecover m w t) :=
  .unit (h.tbWrite (fun _ h => h.tbRecover))

theorem execAutorate {m w} (h : Keeps s t) : OutKeeps s (execAutorate m w t) :=
  .unit (h.tbWrite (fun _ h => h.tbAutorate))

theorem execAutorateCandidateTimeout {w} (h : Keeps s t) : OutKeeps s (execAutorateCandidateTimeout w t) :=
  .unit (.ite h.nextNom h)

theorem execTbTimingWrite {m w phase v} (h : Keeps s t) : OutKeeps s (execTbTimingWrite m w phase v t) :=
  .unit (h.tbWrite (fun _ h => .ite h.plainWrite h.tbRefused))

theorem placeFrame {w b i f} (h : Keeps s t) : Keeps s (t.placeFrame w b i f) :=
  h.setReg.setReg.setReg.setReg.each fun _ _ h => h.setReg

theorem filterFrame {w f} (h : Keeps s t) : Keeps s (t.filterFrame w f) := by
  unfold State.filterFrame
  split
  · exact h
  · dsimp only
    refine .ite h.incFld ?_
    split
    · exact h.incFld.placeFrame
    · exact h.incFld.satFld.setFld.tbEvent

theorem recLess {w} (h : Keeps s t) : Keeps s (t.recLess w) :=
  .ite h (.ite h.setFld.tbPassive h.record.setFld.tbPassive)

theorem execCanFrameReceive {w f} (h : Keeps s t) : OutKeeps s (execCanFrameReceive w f t) := by
  refine .unit ?_
  extract_lets d st a b c
  have ha : Keeps s a := .ite h.recLess h
  have hb : Keeps s b := .ite ha.satFld ha
  have hc : Keeps s c := .ite hb.setFld.tbEvent hb
  exact .ite h (.ite ha.countFrame hc.countFrame.filterFrame)

theorem execRxBufferRead {m w b off} (h : Keeps s t) : OutKeeps s (execRxBufferRead m w b off t) :=
  .unit (.ite h.answer (.ite h.answer (.ite h.answer.setFld (.ite h.answer.setFld h.answer))))

theorem execTxRequest {m w b} (h : Keeps s t) : OutKeeps s (execTxRequest m w b t) :=
  .unit (h.tbOwn (fun _ h => .ite h.tbRefused (.ite h.setFld h.txPending)))

theorem execTxAbort {m w b} (h : Keeps s t) : OutKeeps s (execTxAbort m w b t) := .unit (h.tbOwn (fun _ h => h.txAbort))

theorem execTxAttemptStart {w} (h : Keeps s t) : OutKeeps s (execTxAttemptStart w t) := by
  unfold Machine.execTxAttemptStart
  refine .unit ?_
  dsimp only
  refine .ite ?_ h
  split
  · exact h.setLat.setLat
  · exact h

theorem txFailed {w b} (h : Keeps s t) : Keeps s (t.txFailed w b) :=
  .ite h.setFld.txExpire (.ite h.setFld.txEnd (.ite h.setFld (.ite h.setFld.txEnd.setFld.tbEvent
    h.setFld.txEnd.tbEvent)))

theorem txBusOff {w b} (h : Keeps s t) : Keeps s (t.txBusOff w b) :=
  .ite h.busOff.txExpire (.ite h.busOff.txEnd h.busOff)

theorem txAttemptEnd {w b e} (h : Keeps s t) : Keeps s (t.txAttemptEnd w b e) := by
  unfold State.txAttemptEnd
  dsimp only
  split
  · exact h.setLat.txEnd.setFld.tbPassive
  · exact h.setLat.txFailed
  · exact .ite (.txBusOff (.ite h.setLat.satFld.setLat h.setLat.satFld)) (.txFailed (.tbPassive (.setFld (.ite
      h.setLat.satFld.setLat h.setLat.satFld))))

theorem execTxAttemptEnd {w e} (h : Keeps s t) : OutKeeps s (execTxAttemptEnd w e t) := .unit (.ite h h.txAttemptEnd)

theorem execTxLifetimeEnd {w b} (h : Keeps s t) : OutKeeps s (execTxLifetimeEnd w b t) :=
  .unit (.ite (.ite h.setLat.setLat h.txExpire) h)

theorem orwTake {b ty f} (h : Keeps s t) (hf : ∀ u, Keeps s u → Keeps s (f u)) : Keeps s (t.orwTake b ty f) :=
  .ite (.ite (hf _ h.setFld) h.setFld) h

theorem rackOrder {at_ bs} (h : Keeps s t) : Keeps s (t.rackOrder at_ bs) := by
  unfold State.rackOrder
  extract_lets fl v a b
  have hb : Keeps s b := h.setWreg.setWfld.setLat
  exact hb.orderArrives.formOrder

theorem execPowerOrder {b} (h : Keeps s t) : OutKeeps s (execPowerOrder b t) :=
  .unit (h.orwTake (fun _ h => .ite h.tbEvent (.ite h.tbEvent.powerReport h.rackOrder)))

theorem execPowerOrderExpire (h : Keeps s t) : OutKeeps s (execPowerOrderExpire t) :=
  .next (.ite h.setWfld.setLat.setLat.tbEvent.formOrder h)

theorem execStatusRequest {b} (h : Keeps s t) : OutKeeps s (execStatusRequest b t) :=
  .unit (h.orwTake (fun _ h => .ite h.statusSend h))

theorem execStatusPeriodic (h : Keeps s t) : OutKeeps s (execStatusPeriodic t) := .next (.ite h h.statusSend)

theorem execEmergencyReceive {b} (h : Keeps s t) : OutKeeps s (execEmergencyReceive b t) :=
  .unit (h.orwTake (fun _ h => h.tbEvent))

theorem execEventForward (h : Keeps s t) : OutKeeps s (execEventForward t) := by
  unfold Machine.execEventForward
  dsimp only
  refine .next ?_
  refine .ite ?_ h
  split
  · exact h.setWfld.sendOrw.setLat.setLat
  · exact h.setWfld

theorem tbStart {w} (h : Keeps s t) : Keeps s (t.tbStart w) :=
  .ite (.autorate (h.each (fun _ _ h => h.setReg.setReg.setReg))) (.mayJoin (h.each (fun _ _ h =>
    h.setReg.setReg.setReg)))

/-! ## Bringup -/

theorem timebaseUp (h : Keeps s t) : Keeps s t.timebaseUp := h.setBoth.setBoth

theorem resetWritten (h : Keeps s t) : Keeps s t.resetWritten := .ite h h.resetRan.setLat

theorem selfTestDone (h : Keeps s t) : Keeps s t.selfTestDone := by
  unfold State.selfTestDone
  extract_lets u
  have hu : Keeps s u := h.timebaseUp.resetWritten.bringupEvents
  exact hu.tbStart.tbStart.enterStep

theorem flowIsProven (h : Keeps s t) : Keeps s t.flowIsProven := h.enterStep.each fun _ _ h => h.wakeDie

theorem trainStack {d k slow failed} (h : Keeps s t) : Keeps s (t.trainStack d k slow failed) :=
  .ite h (.ite (h.each (fun _ _ h => h.addRetired.retirePc)) (.ite h.setFld.event h.setFld))

theorem memoryUp {d slow failed} (h : Keeps s t) : Keeps s (t.memoryUp d slow failed) :=
  .ite (.quarryBack (h.each (fun _ _ h => h.trainStack))) h

theorem twinsUp {d} (h : Keeps s t) : Keeps s (t.twinsUp d) := h.each fun _ _ h => h.setVid.twinOn

theorem dieServes {d} (h : Keeps s t) : Keeps s (t.dieServes d) := .ite (.setWfld (.ite h.twinsUp h)) (.ite h.twinsUp h)

theorem enterRun (h : Keeps s t) : Keeps s t.enterRun := .enterState (h.each (fun _ _ h => h.dieServes))

theorem stepComplete {slow failed} (h : Keeps s t) : Keeps s (t.stepComplete slow failed) := by
  unfold State.stepComplete
  split
  · exact .ite h h.convertersOn.enterStep
  · exact .ite h h.selfTestDone
  · exact .ite h.enterStep h
  · exact .ite h.flowIsProven h
  · exact h.enterStep
  · exact .ite h.enterStep h
  · exact .enterStep (h.each (fun _ _ h => h.memoryUp))
  · exact .ite h.enterStep h
  · exact h.enterRun
  · exact h

theorem execBringupStepComplete {slow failed} (h : Keeps s t) : OutKeeps s (execBringupStepComplete slow failed t) :=
  .next (.ite h.stepComplete h)

theorem execFlowProofLongWait (h : Keeps s t) : OutKeeps s (execFlowProofLongWait t) := .next (.ite h.wevent h)

theorem execHostConfigRequest {port} (h : Keeps s t) : OutKeeps s (execHostConfigRequest port t) :=
  .unit (.ite h (.ite h.answer h.answer))

theorem retainTwins {d} (h : Keeps s t) : Keeps s (t.retainTwins d) := h.each fun _ _ h => h.twinRequest

theorem diePwrWrite {d x} (h : Keeps s t) : Keeps s (t.diePwrWrite d x) :=
  .ite h (.ite h.wevent (.ite h.setWfld (.setWfld (.ite h.setWfld.retainTwins h.setWfld))))

theorem execWdDiePwrWrite {m d v} (h : Keeps s t) : OutKeeps s (execWdDiePwrWrite m d v t) :=
  .unit (h.guardedWrite (fun _ h => h.diePwrWrite))

theorem wakeTwins {d} (h : Keeps s t) : Keeps s (t.wakeTwins d) := h.each fun _ _ h => h.twinOn

theorem dieUpAgain {d slow failed} (h : Keeps s t) : Keeps s (t.dieUpAgain d slow failed) :=
  .ite (.dieServes (.ite h.railsClose.dieReady.memoryUp h.railsClose.dieReady)) (.setWfld (.ite
    h.railsClose.dieReady.memoryUp h.railsClose.dieReady))

theorem diePwrDone {d slow failed} (h : Keeps s t) : Keeps s (t.diePwrDone d slow failed) := by
  unfold State.diePwrDone
  split
  · exact h.isolate.setWfld
  · exact .ite h (.ite (.ite h.retainTwins h) (.setWfld (.ite h.retainTwins h)))
  · exact .ite (.setWfld (.ite h.wakeTwins h)) h.dieUpAgain

theorem execDiePowerChangeDone {d slow failed} (h : Keeps s t) : OutKeeps s (execDiePowerChangeDone d slow failed t) :=
  .unit (.ite h.diePwrDone h)

theorem execOrderedShutdownStart (h : Keeps s t) : OutKeeps s (execOrderedShutdownStart t) := h.shutdownStart

theorem execOrderedShutdownStep (h : Keeps s t) : OutKeeps s (execOrderedShutdownStep t) := h.shutdownStep

theorem execVstbyOutFoldback (h : Keeps s t) : OutKeeps s (execVstbyOutFoldback t) := .next (.ite h.setLat.wevent h)

theorem execVstbyOutRecovered (h : Keeps s t) : OutKeeps s (execVstbyOutRecovered t) := .next (.ite h h.setLat.wevent)

theorem execBscanInstruction {drives} (h : Keeps s t) : OutKeeps s (execBscanInstruction drives t) :=
  .next (.ite h.wevent h)

/-! ## Flash -/

theorem flashEnd {t' r} (h : Keeps s t) : Keeps s (t.flashEnd t' r) :=
  .ite h.setWfld.setWfld.setWfld.wevent h.setWfld.setWfld.setWfld.wevent

theorem flashProgram {t' len} (h : Keeps s t) : Keeps s (t.flashProgram t' len) := by
  unfold State.flashProgram
  refine .ite h.setWfld ?_
  refine .ite h.flashEnd ?_
  dsimp only
  split
  · exact h.record.setWfld.setWfld
  · exact h.flashEnd

theorem flashWrite {v} (h : Keeps s t) : Keeps s (t.flashWrite v) :=
  .ite h.plainWrite (.ite h.plainWrite.presenceRefused (.ite h.plainWrite.flashProgram h.plainWrite))

theorem execFlashProgram {m v} (h : Keeps s t) : OutKeeps s (execFlashProgram m v t) :=
  h.guardedWrite fun _ h => h.flashWrite

theorem execFlashProgramDone {good} (h : Keeps s t) : OutKeeps s (execFlashProgramDone good t) :=
  .next (.ite (.ite h.record.flashEnd h.record.flashEnd) h)

theorem execLeakRecordWriteDone (h : Keeps s t) : OutKeeps s (execLeakRecordWriteDone t) :=
  .next (.ite h (.ite h.setLat.record h.setLat))

theorem execPwrfailAssert (h : Keeps s t) : OutKeeps s (execPwrfailAssert t) :=
  .next (.ite h (.startSave (.downToOff (.ite h.setWfld.record.flashEnd h.setWfld))))

theorem execPowerFailSaveDone {good} (h : Keeps s t) : OutKeeps s (execPowerFailSaveDone good t) :=
  .next (.ite (.ite h.record.setWfld.setWfld h.record.setWfld.setWfld.pkgReset) h)

theorem eraseSave (h : Keeps s t) : Keeps s t.eraseSave := h.record.setWfld.setLat

theorem execPwrfailDeassert (h : Keeps s t) : OutKeeps s (execPwrfailDeassert t) :=
  .next (.ite (.ite (.tryReturn (.setLat (.ite h.setWfld.eraseSave.wevent h.setWfld))) (.ite h.setWfld.eraseSave.wevent
    h.setWfld)) h)

theorem execSaveAreaEraseDone (h : Keeps s t) : OutKeeps s (execSaveAreaEraseDone t) := .next (.ite h h.eraseSave)

/-! ## Loops -/

theorem setLoopLat {l w k x} (h : Keeps s t) : Keeps s (t.setLoopLat l w k x) := h.setLat

theorem loopRefused {w k result} (h : Keeps s t) : Keeps s (t.loopRefused w k result) := h.putFld.event

theorem tsgEnd (h : Keeps s t) : Keeps s t.tsgEnd := .ite h.setWfld.event h

theorem tsgStep (h : Keeps s t) : Keeps s t.tsgStep :=
  .ite (.tsgEnd (.ite h.setLat.setLat h.setLat)) (.ite h.setLat.setLat h.setLat)

theorem capEnd (h : Keeps s t) : Keeps s t.capEnd := .ite h.setWfld.event h

theorem capPut {x} (h : Keeps s t) : Keeps s (t.capPut x) :=
  .ite h (.ite h.satWfld.event (.ite h.bankAccess.record.setWfld.setLat (.ite
    h.bankAccess.record.setWfld.setLat.setWfld h.bankAccess.record.setWfld.capEnd)))

theorem capSample {k sigs} (h : Keeps s t) : Keeps s (t.capSample k sigs) :=
  .ite (.ite h.setLat (h.setLat.each (fun _ _ h => h.capPut))) h

theorem capStart (h : Keeps s t) : Keeps s t.capStart := h.setLat.setLat.setLat.setWfld.setWfld.setWfld

theorem loopPut {w k st x i u'} (h : Keeps s t) : Keeps s (t.loopPut w k st x i u') :=
  h.putFld.putFld.putFld.putFld.setLoopLat.setLoopLat.setLoopLat.setLat

theorem following {w k x} (h : Keeps s t) : Keeps s (t.following w k x).2 := by
  unfold State.following
  dsimp only
  split
  · exact h.setLat
  · exact h.setLat

theorem swapInFault {w k} (h : Keeps s t) : Keeps s (t.swapInFault w k) := .ite h.putFld.loopRefused h

theorem swap {w k} (h : Keeps s t) : Keeps s (t.swap w k).2 := by
  unfold State.swap
  split
  · exact h
  · dsimp only
    split
    · exact h.putFld.loopRefused
    · exact h.putFld.putFld.event

theorem tsgAfter {w k st on} (h : Keeps s t) : Keeps s (t.tsgAfter w k st on) :=
  .ite h (.ite h.tsgStep (.ite h.tsgEnd h))

theorem loopLaw {w k mode old swapped seed uPrev} (h : Keeps s t) :
    Keeps s (t.loopLaw w k mode old swapped seed uPrev) :=
  .ite h.loopPut.setLat h.loopPut.setLat

theorem loopNormal {w k mode leaving} (h : Keeps s t) : Keeps s (t.loopNormal w k mode leaving) := h.swap.loopLaw

theorem loopOff {w k} (h : Keeps s t) : Keeps s (t.loopOff w k) :=
  .settleAll (.setLat (.setLat (.putFld (.ite h.tsgEnd h))))

theorem loopActive {w k} (h : Keeps s t) : Keeps s (t.loopActive w k) := by
  unfold State.loopActive
  extract_lets mode on x f bad inFault clr a u v b c
  have ha : Keeps s a := h.following.setLat
  have hv : Keeps s v := ha.event.swapInFault
  have hr : Keeps s (if clr then a.loopRefused w k 4 else a) := .ite ha.loopRefused ha
  have hb : Keeps s b := .ite hr.swapInFault.setLoopLat.putFld (.ite hv.loopPut (.ite ha.loopOff ha.loopNormal))
  exact hb.tsgAfter.capSample.settleAll

theorem loopTrack {w k} (h : Keeps s t) : Keeps s (t.loopTrack w k) := h.loopPut

theorem execLoopSample {w k} (h : Keeps s t) : OutKeeps s (execLoopSample w k t) :=
  .unit (.ite h (.ite h.loopOff (.ite h.loopActive h.loopTrack)))

theorem execLoopSwap {m k v} (h : Keeps s t) : OutKeeps s (execLoopSwap m k v t) :=
  .unit (h.guardedWrite (fun _ h => .ite h.setWfld h))

theorem execLoopClrFault {m k v} (h : Keeps s t) : OutKeeps s (execLoopClrFault m k v t) :=
  .unit (h.guardedWrite (fun _ h => .ite h.setLat h))

theorem execLoopModeWrite {m k v} (h : Keeps s t) : OutKeeps s (execLoopModeWrite m k v t) := by
  unfold Machine.execLoopModeWrite
  refine .unit ?_
  refine h.guardedWrite (fun _ h => ?_)
  refine .ite ?_ h.plainWrite
  refine .event ?_
  split
  · exact h.presenceRefused
  · exact h

theorem execLoopSetWrite {m k set part v} (h : Keeps s t) : OutKeeps s (execLoopSetWrite m k set part v t) :=
  .unit (h.guardedWrite (fun _ h => .ite h.loopRefused (.ite h.event h.plainWrite)))

theorem execTsgStart {m v} (h : Keeps s t) : OutKeeps s (execTsgStart m v t) := by
  refine h.guardedWrite fun u hu => ?_
  extract_lets r a b c
  have hb : Keeps s b := hu.setWfld.setWfld.setLat.setLat.event
  have hc : Keeps s c := .ite hb hb.capStart
  exact .ite hu (.ite hu.setWfld.event (.ite hc.tsgEnd hc))

theorem execTsgStop {m v} (h : Keeps s t) : OutKeeps s (execTsgStop m v t) := h.guardedWrite fun _ h => .ite h.tsgEnd h

theorem execCaptureStart {m v} (h : Keeps s t) : OutKeeps s (execCaptureStart m v t) :=
  h.guardedWrite fun _ h => .ite h (.ite h.setWfld.event (.ite h.setWfld.setLat h.setWfld.capStart))

theorem execCaptureStop {m v} (h : Keeps s t) : OutKeeps s (execCaptureStop m v t) :=
  h.guardedWrite fun _ h => .ite h.setLat.capEnd h

/-! ## Words -/

theorem replayWord {q} (h : Keeps s t) : Keeps s (t.replayWord q) := .ite h.check h.setLat.updSpin.event.occur

theorem endWord {sp pc} (h : Keeps s t) : Keeps s (t.endWord sp pc) := .ite h.retire h

theorem finishWord {sp pc p} (h : Keeps s t) (hp : PerfKeeps s p) : Keeps s (t.finishWord sp pc p) := by
  unfold State.finishWord
  split
  · exact endWord hp
  · exact h.takeException
  · exact h.event.takeException
  · exact hp
  · exact check hp
  · exact h.replayWord

theorem wordOutcome {sp pc w eff} (h : Keeps s t) (he : EffKeeps s eff) : PerfKeeps s (t.wordOutcome sp pc w eff) := by
  unfold State.wordOutcome
  split
  · trivial
  · split
    · trivial
    · exact .ite (he _ _ _ _ h) h

theorem performWord {sp w eff} (h : Keeps s t) (he : EffKeeps s eff) : Keeps s (t.performWord sp w eff) :=
  h.finishWord (h.wordOutcome he)

theorem wordStep {op sp w eff} (h : Keeps s t) (he : EffKeeps s eff) : OutKeeps s (wordStep op sp w t eff) :=
  .unit (.ite (h.performWord he) h)

/-! ## SpinControl -/

theorem timerTest {sp} (h : Keeps s t) : Keeps s (t.timerTest sp) := .ite h.setSpFld h

theorem ctlRequest {sp run halt step} (h : Keeps s t) : Keeps s (t.ctlRequest sp run halt step) :=
  .ite h.runOp (.ite h (.ite h.runOp (.ite h.runOp h)))

theorem ctlWrite {m sp f} (h : Keeps s t) (hf : ∀ u, Keeps s u → Keeps s (f u)) : Keeps s (t.ctlWrite m sp f) :=
  .ite h (.ite h.event (hf _ h))

theorem execSpnRun {m sp} (h : Keeps s t) : OutKeeps s (execSpnRun m sp t) :=
  .unit (h.ctlWrite (fun _ h => h.ctlRequest))

theorem execSpnHaltRequest {m sp} (h : Keeps s t) : OutKeeps s (execSpnHaltRequest m sp t) :=
  .unit (h.ctlWrite (fun _ h => h.ctlRequest))

theorem execSpnStep {m sp} (h : Keeps s t) : OutKeeps s (execSpnStep m sp t) :=
  .unit (h.ctlWrite (fun _ h => h.ctlRequest))

theorem dbSetWrite {sp v} (h : Keeps s t) : Keeps s (t.dbSetWrite sp v) := .ite h.doorbell h

theorem execDoorbellSetArrive {m sp v} (h : Keeps s t) : OutKeeps s (execDoorbellSetArrive m sp v t) :=
  .unit h.dbSetWrite

theorem execTimerCompare {sp} (h : Keeps s t) : OutKeeps s (execTimerCompare sp t) := .unit h.timerTest

theorem refusal {sp addr} (h : Keeps s t) : Keeps s (t.refusal sp addr) :=
  .ite (.notice (.event (.setSpFld (.ite h h.setReg)))) (.event (.setSpFld (.ite h h.setReg)))

theorem execWriteRefusalNotice {sp addr} (h : Keeps s t) : OutKeeps s (execWriteRefusalNotice sp addr t) :=
  .unit (.ite h.refusal h)

theorem execWaitTimeout {sp} (h : Keeps s t) : OutKeeps s (execWaitTimeout sp t) := by
  unfold Machine.execWaitTimeout
  refine .unit ?_
  refine .ite ?_ h
  split
  · exact .ite h h.endWait
  · exact h

theorem execSpindleHalted {sp} (h : Keeps s t) : OutKeeps s (execSpindleHalted sp t) := .unit (.ite h.flush.halted h)

/-! ## RegRead -/

theorem readWhole {m r d i} (h : Keeps s t) : Keeps s (t.readWhole m r d i).2 := by
  unfold State.readWhole
  split
  · split
    · exact h.lockRead.record
    · exact h
  split
  · exact h
  split
  · next x _ =>
    have hu : OutKeeps s (Machine.execRxBufferRead m (d - 62) x.1 x.2 t) := h.execRxBufferRead
    split
    · next e =>
      rw [e] at hu
      exact record hu
    · exact h
  · exact .ite h h.putReg

theorem readReg {m r d i b size} (h : Keeps s t) : Keeps s (t.readReg m r d i b size).2 := by
  unfold State.readReg
  dsimp only
  split
  · exact h.readWhole
  · split
    · exact h.readWhole.setLat
    · split
      · split
        · exact .ite h h.putReg
        · exact h.setLat
      · exact h

theorem readMailbox {m pair low here off size} (h : Keeps s t) :
    Keeps s (t.readMailbox m pair low here off size).2 := by
  unfold State.readMailbox
  split
  · exact h.wevent
  · exact h

theorem readSite {m x size} (h : Keeps s t) : Keeps s (t.readSite m x size).2 := by
  unfold State.readSite
  split
  · exact h.readReg
  · exact h
  · exact h.readMailbox
  · exact h

theorem viewHalf {sp off} (h : Keeps s t) : Keeps s (t.viewHalf sp off).2 := by
  unfold State.viewHalf
  dsimp only
  split
  · exact h.setLat
  · split
    · exact h
    · exact h.setLat

theorem viewRead {sp off size} (h : Keeps s t) : Keeps s (t.viewRead sp off size).2 := by
  unfold State.viewRead
  split
  · split
    · exact h
    · split
      · exact h.viewHalf
      · exact h
  · exact h.event

theorem viewPut {sp off size v} (h : Keeps s t) : Keeps s (t.viewPut sp off size v) :=
  .ite (.ite h.viewWrite h) (.ite h.event.event h.event)

theorem readWindow {m l size} (h : Keeps s t) : Keeps s (t.readWindow m l size).2.2 := by
  unfold State.readWindow
  split
  · split
    · exact h.viewRead
    · exact h
  · split
    · exact h.readSite
    · exact h
  · exact h

/-! ## Valves -/

theorem svFault {f c code sev} (h : Keeps s t) : Keeps s (t.svFault f c code sev) := h.setWfld.event

theorem retryHandover (h : Keeps s t) : Keeps s t.retryHandover := .ite h.handover h

theorem svWait {c} (h : Keeps s t) : Keeps s (t.svWait c) := h.setWfld.setLat

theorem svStop {c} (h : Keeps s t) : Keeps s (t.svStop c) := h.svOff.retryHandover

theorem svOn {c} (h : Keeps s t) : Keeps s (t.svOn c) := by
  unfold State.svOn
  dsimp only
  split
  · exact h.setWfld.setLat.svWait
  · exact h.setWfld.setLat
  · exact h.setWfld.setLat
  · exact h.setWfld

theorem execSolenoidOn {m c v} (h : Keeps s t) : OutKeeps s (execSolenoidOn m c v t) :=
  .unit (h.guardedWrite (fun _ h => .ite h h.svOn))

theorem execSolenoidOff {m c v} (h : Keeps s t) : OutKeeps s (execSolenoidOff m c v t) :=
  .unit (h.guardedWrite (fun _ h => .ite h h.setWfld.svStop))

theorem svDefer {c us} (h : Keeps s t) : Keeps s (t.svDefer c us) := .ite h.svFault h

theorem execSolenoidPeakStart {c} (h : Keeps s t) : OutKeeps s (execSolenoidPeakStart c t) :=
  .unit (.ite h.setWfld.setWfld.setWfld.setLat.setLat.setWfld.svDefer h)

theorem svHold {c} (h : Keeps s t) : Keeps s (t.svHold c) := .ite h.setWfld.setLat.svStop h.setWfld.setLat.retryHandover

theorem peakOver {c} (h : Keeps s t) : Keeps s (t.peakOver c) :=
  .ite h.svHold (.ite h.svFault.svStop.setLat h.svFault.svHold)

theorem peakLate {c} (h : Keeps s t) : Keeps s (t.peakLate c) := .svHold (.ite h.svFault h.svFault.svFault)

theorem execSolenoidPeakReached {c us} (h : Keeps s t) : OutKeeps s (execSolenoidPeakReached c us t) :=
  .unit (.ite (.ite h.setWfld.setLat.setWfld.event.svStop (.ite h.setWfld.setLat.peakLate (.ite
    h.setWfld.setLat.peakOver h.setWfld.setLat))) h)

theorem execSolenoidTtpTimeout {c} (h : Keeps s t) : OutKeeps s (execSolenoidTtpTimeout c t) :=
  .unit (.ite h.peakLate h)

theorem execSolenoidDip {c us} (h : Keeps s t) : OutKeeps s (execSolenoidDip c us t) := .unit (.ite h.setLat.setWfld h)

theorem execSolenoidPeakEnd {c} (h : Keeps s t) : OutKeeps s (execSolenoidPeakEnd c t) := .unit (.ite h.peakOver h)

theorem execSolenoidRetryWaitEnd {c} (h : Keeps s t) : OutKeeps s (execSolenoidRetryWaitEnd c t) :=
  .unit (.ite h.setLat.setWfld.svWait h)

theorem execSolenoidHoldEnd {c} (h : Keeps s t) : OutKeeps s (execSolenoidHoldEnd c t) := .unit (.ite h.svStop h)

theorem execSolenoidRecoverEnd {c late} (h : Keeps s t) : OutKeeps s (execSolenoidRecoverEnd c late t) :=
  .unit (.ite (.ite (.svWait (.setLat (.ite h.setWfld.svFault h.setWfld))) (.retryHandover (.setLat (.ite
    h.setWfld.svFault h.setWfld)))) h)

theorem execCoilOvercurrent {c ma} (h : Keeps s t) : OutKeeps s (execCoilOvercurrent c ma t) :=
  .unit (.ite h.setWfld.setWfld.event.svStop h)

theorem execCoilOpenLoad {c ma} (h : Keeps s t) : OutKeeps s (execCoilOpenLoad c ma t) :=
  .unit (.ite (.ite h.setWfld h.setWfld.svFault) h)

theorem execBoostWaitTimeout (h : Keeps s t) : OutKeeps s (execBoostWaitTimeout t) := .next (.ite h.setWfld.event h)

theorem execBoostRecharged (h : Keeps s t) : OutKeeps s (execBoostRecharged t) := h.setWfld.setWfld.setWfld

theorem execSolenoidDeferLimit {c} (h : Keeps s t) : OutKeeps s (execSolenoidDeferLimit c t) := .unit (.ite h.svFault h)

theorem svClose {c} (h : Keeps s t) : Keeps s (t.svClose c) := by
  unfold State.svClose
  split
  · exact h.svWait
  · exact h.setLat
  · exact h

theorem execLeakActuatorStop (h : Keeps s t) : OutKeeps s (execLeakActuatorStop t) :=
  .next (.ite (.settleAll (h.setLat.each (fun _ _ h => .ite h.svClose h.setWfld.svOff))) h)

/-! ## Warp -/

theorem execWarpNegotiateStart {p} (h : Keeps s t) : OutKeeps s (execWarpNegotiateStart p t) :=
  .unit (.ite h.setWpFld.answer h)

theorem remoteLost {x} (h : Keeps s t) : Keeps s (t.remoteLost x) := by
  unfold State.remoteLost
  split
  · exact .ite h.check h
  · exact h.event.answer
  · split
    · exact h.dmaEnd
    · exact h
  · exact h.answer

theorem warpPortDown {p waiting} (h : Keeps s t) : Keeps s (t.warpPortDown p waiting) :=
  h.setWpFld.setWpFld.setWpFld.dropFlits.setLat.event.holdFlows.occur.each fun _ _ h => h.remoteLost

theorem pagesFail {p} (h : Keeps s t) : Keeps s (t.pagesFail p) := .ite h.event.setLat h.event

theorem execWarpPagesExchanged {p rates versions peerPkg peerPort peerRetired} (h : Keeps s t) :
    OutKeeps s (execWarpPagesExchanged p rates versions peerPkg peerPort peerRetired t) :=
  .unit (.ite (.ite h.setLat.pagesFail h.setLat.setWpFld.setWpFld.setWpFld.setWpFld.setWpFld.setWpFld) h)

theorem laneOut {p l} (h : Keeps s t) : Keeps s (t.laneOut p l) := h.addRetired.retireLane fun _ _ _ h => h.occur

theorem execWarpTrainingDone {p failed} (h : Keeps s t) : OutKeeps s (execWarpTrainingDone p failed t) := by
  unfold Machine.execWarpTrainingDone
  refine .unit ?_
  refine .ite ?_ h
  split
  · exact h.setWpFld.setWpFld.setLat
  · exact h.each (fun _ _ h => .ite h h.laneOut)

theorem execWarpEnterActive {p} (h : Keeps s t) : OutKeeps s (execWarpEnterActive p t) :=
  .unit (.ite (.ite h.event h.setWpFld.event.holdFlows) h)

theorem execWarpLeaveActive {p} (h : Keeps s t) : OutKeeps s (execWarpLeaveActive p t) :=
  .unit (.ite h.setWpFld.holdFlows h)

theorem warpAck {p a} (h : Keeps s t) : Keeps s (t.warpAck p a) := .ite h h.setLat.setLat.setLat

theorem warpNak {p a} (h : Keeps s t) : Keeps s (t.warpNak p a) := .ite h.warpAck h.warpAck.satWpFld.setLat.event

theorem execWarpNakReceive {p ackseq} (h : Keeps s t) : OutKeeps s (execWarpNakReceive p ackseq t) :=
  .unit (.ite h.warpNak h)

theorem execWarpRetrain {p} (h : Keeps s t) : OutKeeps s (execWarpRetrain p t) :=
  .unit (.ite (h.warpRetrain (fun _ _ _ h => h.occur)) h)

theorem execWarpPortDown {p silent waiting} (h : Keeps s t) : OutKeeps s (execWarpPortDown p silent waiting t) :=
  .unit (.ite h.warpPortDown h)

theorem execWarpLaneRetire {p l} (h : Keeps s t) : OutKeeps s (execWarpLaneRetire p l t) := .unit (.ite h.laneOut h)

theorem execWarpPortRetire {p} (h : Keeps s t) : OutKeeps s (execWarpPortRetire p t) :=
  .unit (.ite h.addRetired.retirePort h)

theorem warpCtlWrite {p v} (h : Keeps s t) : Keeps s (t.warpCtlWrite p v) := by
  unfold State.warpCtlWrite
  extract_lets a b c
  have ha : Keeps s a := h.setWpFld.setWpFld.setWpFld
  have hb : Keeps s b := .ite ha.setWpFld ha
  have hc : Keeps s c := hb.each fun _ _ h => .ite h h.laneOut
  exact .ite ha (.ite hc.addRetired.retirePort hc)

theorem execWpRouteWrite {m xd k v} (h : Keeps s t) : OutKeeps s (execWpRouteWrite m xd k v t) :=
  .unit (h.portWrite (fun _ h => .ite h.setFld.holdFlows h.portRefused))

theorem execFlowRouteHoldEnd {pkg} (h : Keeps s t) : OutKeeps s (execFlowRouteHoldEnd pkg t) := .unit h.setLat

theorem execRemoteRequestTimeout {xd x} (h : Keeps s t) : OutKeeps s (execRemoteRequestTimeout xd x t) :=
  .unit (.ite h h.event.remoteLost)

/-! ## RegWrite -/

theorem ranState {f : State → Out} (h : Keeps s t) (hf : OutKeeps s (f t)) : Keeps s (ranState f t) := by
  unfold Machine.ranState
  split
  · next e => rw [e] at hf; exact hf
  · exact h

theorem ranAll {fs} (h : Keeps s t) (hf : RowsKeep s fs) : Keeps s (ranAll fs t) :=
  List.foldlRecOn (motive := Keeps s) fs _ h fun _ hu f k => hu.ranState (hf f k _ hu)

theorem plyCmdRows {m d v} : RowsKeep s (plyCmdRows m d v) := by
  unfold Machine.plyCmdRows
  split
  · exact .one fun _ h => h.execPlyForm
  · exact .one fun _ h => h.execPlyJoin
  · exact .one fun _ h => h.execPlySplit
  · exact .one fun _ h => h.execPlyDissolve
  · exact .one fun _ h => h.execPlyRun
  · exact .one fun _ h => h.execPlyHalt
  · exact .one fun _ h => h.execPlyStep
  · exact .one fun _ h => h.execPlyReform
  · exact .one fun _ h => h.execPlyBadCommand

theorem rgnCmdRows {m d v} : RowsKeep s (rgnCmdRows m d v) :=
  .cons (fun _ h => h.execRegionLoad) <| .cons (fun _ h => h.execRegionUnload) <| .one fun _ h => h.execRegionBadCommand

theorem skeinCmdRows {m d v} : RowsKeep s (skeinCmdRows m d v) :=
  .cons (fun _ h => h.execSkeinQuiesce) <| .cons (fun _ h => h.execSkeinResume) <|
    .cons (fun _ h => h.execSkeinRollback) <| .one fun _ h => h.execSkeinCommit

theorem epCmdRows {m v} : RowsKeep s (epCmdRows m v) :=
  .cons (fun _ h => h.execEpEnrol) <| .cons (fun _ h => h.execEpRelease) <| .cons (fun _ h => h.execEpForceCommit) <|
    .cons (fun _ h => h.execEpRollback) <| .cons (fun _ h => h.execEpResume) <| .one fun _ h => h.execEpBadCommand

theorem txCmdRows {m w i} {v : W64} :
    RowsKeep s ((if bitOf v 0 then [Machine.execTxRequest m w i] else []) ++
      (if bitOf v 1 then [Machine.execTxAbort m w i] else [])) := by
  have hr : RowsKeep s (if bitOf v 0 then [Machine.execTxRequest m w i] else []) := by
    split
    · exact .one fun _ h => h.execTxRequest
    · exact .nil
  have ha : RowsKeep s (if bitOf v 1 then [Machine.execTxAbort m w i] else []) := by
    split
    · exact .one fun _ h => h.execTxAbort
    · exact .nil
  exact fun f k => (List.mem_append.mp k).elim (hr f) (ha f)

theorem writeRows {m r d i v} : OptRowsKeep s (writeRows m r d i v) := by
  unfold Machine.writeRows
  split
  · exact .one fun _ h => h.execPwDieIsoWrite
  · exact .one fun _ h => h.execPwTwinCtlWrite
  · exact .one fun _ h => h.execPwTwinAvsWrite
  · exact plyCmdRows
  · exact .one fun _ h => h.execQdCfgWrite
  · exact .one fun _ h => h.execQdCarveWrite
  · exact .one fun _ h => h.execQdTenWrite
  · exact rgnCmdRows
  · exact skeinCmdRows
  · exact .one fun _ h => h.execCdBnkPwrWrite
  · exact .one fun _ h => h.execWdBnkPwrWrite
  · exact .one fun _ h => h.execColrepProgram
  · exact .one fun _ h => h.execHiBar2BaseWrite
  · exact .one fun _ h => h.execHiPkgNumWrite
  · exact .two (fun _ h => h.execHostDmaEnable) fun _ h => h.execHostDmaDisable
  · exact .one fun _ h => h.execHostDmaHeadWrite
  · exact .one fun _ h => h.execWpRouteWrite
  · exact .one fun _ h => h.collPost
  · exact .one fun _ h => h.execWatchdogKick
  · exact .one fun _ h => h.execHealthyWrite
  · exact .one fun _ h => h.execHandover
  · exact .one fun _ h => h.execWdDiePhaseWrite
  · exact .one fun _ h => h.execWdDiePwrWrite
  · exact .one fun _ h => h.execFuseProgram
  · exact .one fun _ h => h.execTbModeWrite
  · exact .one fun _ h => h.execTbTimingWrite
  · exact .one fun _ h => h.execTbTimingWrite
  · exact txCmdRows
  · trivial

theorem activeRows {m r i v} : OptRowsKeep s (activeRows m r i v) := by
  unfold Machine.activeRows
  split
  · exact .one fun _ h => h.execWdTimeAdjWrite
  · exact .one fun _ h => h.execWdTimeStepWrite
  · exact .one fun _ h => h.execCalibrationWrite
  · exact .one fun _ h => h.execCalibrationWrite
  · exact .one fun _ h => h.execCalibrationWrite
  · exact .one fun _ h => h.execCalibrationWrite
  · exact .one fun _ h => h.execWdFltThrWrite
  · exact .one fun _ h => h.execFaultInject
  · exact .one fun _ h => h.execRetirementLogClear
  · exact epCmdRows
  · exact .one fun _ h => h.execEpGrpCfgWrite
  · exact .one fun _ h => h.execLockWrite
  · exact .one fun _ h => h.execLkForce
  · split
    · exact .one fun _ h => h.execRecorderClear
    · trivial
  · exact .one fun _ h => h.execEvLimitWrite
  · exact .one fun _ h => h.execThOrderHostWrite
  · exact .one fun _ h => h.execPolicyRegisterWrite
  · exact .one fun _ h => h.execPolicyRegisterWrite
  · exact .one fun _ h => h.execPolicyRegisterWrite
  · exact .one fun _ h => h.execPolicyRegisterWrite
  · exact .one fun _ h => h.execPolicyRegisterWrite
  · exact .one fun _ h => h.execPolicyRegisterWrite
  · exact .one fun _ h => h.execCurveApply
  · exact .one fun _ h => h.execThTenShareWrite
  · exact .one fun _ h => h.execThTenmapWrite
  · exact .one fun _ h => h.execThTenmapWrite
  · exact .two (fun _ h => h.execTsgStop) fun _ h => h.execTsgStart
  · exact .two (fun _ h => h.execCaptureStop) fun _ h => h.execCaptureStart
  · exact .one fun _ h => h.execLoopModeWrite
  · exact .two (fun _ h => h.execLoopSwap) fun _ h => h.execLoopClrFault
  · exact .one fun _ h => h.execLoopSetWrite
  · exact .one fun _ h => h.execLoopSetWrite
  · exact .one fun _ h => h.execLoopSetWrite
  · exact .one fun _ h => h.execLoopSetWrite
  · exact .two (fun _ h => h.execSolenoidOn) fun _ h => h.execSolenoidOff
  · exact .one fun _ h => h.execWdRstCmd
  · exact .one fun _ h => h.execFlashProgram
  · trivial

theorem spnWrite {m r sp v} (h : Keeps s t) : Keeps s (t.spnWrite m r sp v) := by
  unfold State.spnWrite
  dsimp only
  refine .ite h ?_
  split
  · exact h.ctlWrite (fun _ h => h.setReg.ctlRequest)
  · exact h.dbSetWrite
  · exact .ite (h.replicatedWrite (fun _ _ h => h.plainWrite.updSpin)) h
  · exact h.replicatedWrite (fun _ _ h => h.plainWrite)
  · exact h.replicatedWrite (fun _ _ h => h.plainWrite)
  · exact h.replicatedWrite (fun _ _ h => h.plainWrite)
  · exact h.replicatedWrite (fun _ _ h => h.plainWrite)
  · exact .each (h.replicatedWrite (fun _ _ h => h.plainWrite)) (fun _ _ h => h.timerTest)
  · exact h.plainWrite.timerTest
  · exact h.plainWrite

theorem wardenWrite {m r d i v} (h : Keeps s t) : Keeps s (t.wardenWrite m r d i v) := by
  unfold State.wardenWrite
  dsimp only
  split
  · exact h.guardedWrite (fun _ h => h.adjWrite)
  · exact h.guardedWrite (fun _ h => .ite h.event h)
  · exact h.powerWrite (fun _ h => h.plainWrite)
  · exact h.powerWrite (fun _ h => h.plainWrite)
  · exact h.powerWrite (fun _ h => h.plainWrite)
  · exact h.guardedWrite (fun _ h => h.leakWrite)
  · exact h.faultWrite (fun _ h => h.plainWrite)
  · exact h.faultWrite (fun _ h => h.plainWrite)
  · exact h.faultWrite (fun _ h => .ite h.event h.plainWrite)
  · exact h.faultWrite (fun _ h => h)
  · exact h.faultWrite (fun _ h => h)
  · exact h.faultWrite (fun _ h => h)
  · exact h.faultWrite (fun _ h => h)
  · exact h.guardedWrite (fun _ h => .ite h.event h.plainWrite)
  · exact h.guardedWrite (fun _ h => .ite h.event h.plainWrite)
  · exact h.guardedWrite (fun _ h => .ite h.event h.plainWrite)
  · exact h.guardedWrite (fun _ h => .ite h.event h.plainWrite)
  · exact h.guardedWrite (fun _ h => .ite h.event h.plainWrite)
  · exact h.guardedWrite (fun _ h => .ite h.event h.plainWrite)
  · exact h.guardedWrite (fun _ h => .ite h.event h.plainWrite)
  · exact h.guardedWrite (fun _ h => .ite h.event h.plainWrite)
  · exact h.guardedWrite (fun _ h => .ite h.event h.plainWrite)
  · exact h.guardedWrite (fun _ h => .ite h.event h.plainWrite)
  · exact h.guardedWrite (fun _ h => .ite h.event h.plainWrite)
  · exact h.guardedWrite (fun _ h => .ite h.event (.ite h.event h.plainWrite))
  · exact h.guardedWrite (fun _ h => .ite h.loopRefused (.ite h.event h.plainWrite))
  · exact h.guardedWrite (fun _ h => .ite h.loopRefused (.ite h.event h.plainWrite))
  · exact h.guardedWrite (fun _ h => .ite h.loopRefused (.ite h.event h.plainWrite))
  · exact h.guardedWrite (fun _ h => .ite h.loopRefused (.ite h.event h.plainWrite))
  · exact h.guardedWrite (fun _ h => h.plainWrite.putFld)
  · exact h.guardedWrite (fun _ h => h)
  · exact h.guardedWrite (fun _ h => h)
  · exact h.guardedWrite (fun _ h => h)
  · exact h.guardedWrite (fun _ h => h)
  · exact h.guardedWrite (fun _ h => h)
  · exact h.guardedWrite (fun _ h => h)
  · exact h.guardedWrite (fun _ h => .ite h.event h.plainWrite)
  · exact h.guardedWrite (fun _ h => .ite h.event h.plainWrite)
  · exact h.guardedWrite (fun _ h => .ite h.event h.plainWrite)
  · exact h.guardedWrite (fun _ h => .ite h.event h.plainWrite)
  · exact h.guardedWrite (fun _ h => .iff (.ite h.event h.plainWrite) (fun _ h => h.settleAll))
  · exact h.guardedWrite (fun _ h => .iff (.ite h.event h.plainWrite) (fun _ h => h.settleAll))
  · exact h.guardedWrite (fun _ h => .iff (.ite h.event h.plainWrite) (fun _ h => h.settleAll))
  · exact h.guardedWrite (fun _ h => .iff (.ite h.event h.plainWrite) (fun _ h => h.settleAll))
  · exact h.guardedWrite (fun _ h => .iff (.ite h.event h.plainWrite) (fun _ h => h.settleAll))
  · exact h.guardedWrite (fun _ h => .iff (.ite h.event h.plainWrite) (fun _ h => h.settleAll))
  · exact h.guardedWrite (fun _ h => .iff (.ite h.event h.plainWrite) (fun _ h => h.settleAll))
  · exact h.guardedWrite (fun _ h => .iff (.ite h.event h.plainWrite) (fun _ h => h.settleAll))
  · exact h.guardedWrite (fun _ h => .iff (.ite h.event h.plainWrite) (fun _ h => h.settleAll))
  · exact h.tbWrite (fun _ h => .ite h.plainWrite h.tbRefused)
  · exact h.tbWrite (fun _ h => .ite h.plainWrite h.tbRefused)
  · exact h.tbOwn (fun _ h => .ite h.plainWrite h.tbRefused)
  · exact h.tbOwn (fun _ h => .ite h.plainWrite h.tbRefused)
  · exact h.tbOwn (fun _ h => .ite h.plainWrite h.tbRefused)
  · exact h.tbOwn (fun _ h => .ite h.plainWrite h.tbRefused)
  · exact h.tbOwn (fun _ h => .ite h.tbRefused h.plainWrite)
  · exact h.tbOwn (fun _ h => .ite h.tbRefused h.plainWrite)
  · exact h.tbOwn (fun _ h => .ite h.tbRefused h.plainWrite)
  · exact h.tbOwn (fun _ h => h)
  · exact h.tbOwn (fun _ h => h)
  · exact h.tbOwn (fun _ h => h)
  · exact h.tbOwn (fun _ h => h)
  · exact h.tbWrite (fun _ h => h.plainWrite)
  · exact h.tbWrite (fun _ h => h.plainWrite)
  · exact h.tbWrite (fun _ h => h.plainWrite)
  · exact h.tbWrite (fun _ h => h.plainWrite)
  · exact h.guardedWrite (fun _ h => h.plainWrite)

theorem hostWrite {r i v} (h : Keeps s t) : Keeps s (t.hostWrite r i v) := by
  unfold State.hostWrite
  dsimp only
  split
  · exact h.plainWrite.linkChange
  · exact .ite h.plainWrite.setReg.raiseMsix h.plainWrite
  · exact h.plainWrite

theorem writeBlock {m r d i v} (h : Keeps s t) : Keeps s (t.writeBlock m r d i v) := by
  unfold State.writeBlock
  refine .ite h.spnWrite ?_
  refine .ite h.hostWrite ?_
  refine .ite h.wardenWrite ?_
  split
  · split
    · exact h.portWrite (fun _ h => h.cxlCtlWrite)
    · exact h.portWrite (fun _ h => h.warpCtlWrite)
    · exact h.portWrite (fun _ h => h.plainWrite)
  · refine .ite (h.qdWrite (fun _ h => h.plainWrite)) ?_
    split
    · exact h.powerWrite (fun _ h => h)
    · exact h.powerWrite (fun _ h => h)
    · exact h.powerWrite (fun _ h => h)
    · exact .ite h.calWrite h
    · exact h.plainWrite

theorem writeReg {m r d i v} (h : Keeps s t) : Keeps s (t.writeReg m r d i v) := by
  have hw : OptRowsKeep s (Machine.writeRows m r d i v) := writeRows
  have ha : OptRowsKeep s (Machine.activeRows m r i v) := activeRows
  unfold State.writeReg
  split
  · next e => rw [e] at hw; exact h.ranAll hw
  · split
    · next e =>
      split at e
      · rw [e] at ha; exact h.ranAll ha
      · contradiction
    · exact h.writeBlock

theorem mbMaskWrite {pair low v} (h : Keeps s t) : Keeps s (t.mbMaskWrite pair low v) :=
  .ite (.ite h.setMbSide h.setMbSide.raiseMsix.raiseMsix) (.ite (.ite h.setMbSide.cdDeliver h.setMbSide) h.setMbSide)

theorem mbRegWrite {m pair low off v} (h : Keeps s t) : Keeps s (t.mbRegWrite m pair low off v) := by
  unfold State.mbRegWrite
  refine .ite h.wevent ?_
  dsimp only
  split
  · exact .ite h.setMbSide h
  · exact h.setMbSide
  · exact h.mbMaskWrite
  · exact .ite h.setMbSide h
  · exact h

theorem writeMailbox {m pair low here off size v} (h : Keeps s t) :
    Keeps s (t.writeMailbox m pair low here off size v) := by
  unfold State.writeMailbox
  refine .ite h.wevent (.ite (h.ranState h.execMbOutWrite) (.ite ?_ h))
  split
  · split
    · exact h.ranState h.execMbPost
    · exact h.ranState h.execMbWait
    · exact h.ranState h.execMbPostWait
    · exact h.ranState h.execMbResetIn
    · exact h.mbRegWrite
  · exact h.ranState h.execMbAck
  · exact h.ranState h.execMbDbOutWrite
  · exact h.mbRegWrite

theorem writeSite {m x size v} (h : Keeps s t) : Keeps s (t.writeSite m x size v) := by
  unfold State.writeSite
  split
  · exact .ite h.writeReg h
  · exact h.writeMailbox
  · exact h
  · exact h

theorem writeWindow {m l size v} (h : Keeps s t) : Keeps s (t.writeWindow m l size v).2 := by
  unfold State.writeWindow
  split
  · split
    · exact h.viewPut
    · exact h
  · split
    · exact h.writeSite
    · exact h
  · exact h

/-! ## Wide -/

end Keeps

/-- A piece is read from a window or is plain memory. (`readAt` is unfolded on its own, away from its arguments:
  against a
goal that names them the kernel would evaluate the address, and count `2 ^ 52` down.) -/
theorem State.readAt_induct {P : Status × List Byte × State → Prop} {m a n}
    (hw : ∀ l, t.windowAt (t.pkg * 2 ^ 52 + a) = some l → P (t.readEach (natural 0 n) fun u k z =>
      let x := u.readWindow m (l.plus k) z; (x.1, leBytes z x.2.1.toNat, x.2.2)))
    (hp : t.windowAt (t.pkg * 2 ^ 52 + a) = none → P (t.movePiece a n)) : P (State.readAt m t a n) := by
  suffices k : ∀ f, f = State.readAt → P (f m t a n) from k _ rfl
  intro f hf
  delta State.readAt at hf
  subst hf
  beta_reduce
  generalize t.windowAt _ = o at *
  cases o
  · exact hp rfl
  · exact hw _ rfl

namespace Keeps

theorem readAt {m a n} (h : Keeps s t) : Keeps s (State.readAt m t a n).2.2 :=
  State.readAt_induct (P := fun r => Keeps s r.2.2) (fun _ _ => h.readEach fun _ _ _ h => h.readWindow) fun _ =>
    h.movePiece

end Keeps

/-- A piece is written to a window or is plain memory (`writeAt` unfolded as `readAt` is above). -/
theorem State.writeAt_induct {P : Status × State → Prop} {m a bs}
    (hw : ∀ l, t.windowAt (t.pkg * 2 ^ 52 + a) = some l → P (t.writeEach 0 bs (natural 0 bs.length) fun u k b =>
      u.writeWindow m (l.plus k) b.length (BitVec.ofNat 64 (leValue b))))
    (hp : t.windowAt (t.pkg * 2 ^ 52 + a) = none → P (t.putPiece a bs)) : P (State.writeAt m t a bs) := by
  suffices k : ∀ f, f = State.writeAt → P (f m t a bs) from k _ rfl
  intro f hf
  delta State.writeAt at hf
  subst hf
  beta_reduce
  generalize t.windowAt _ = o at *
  cases o
  · exact hp rfl
  · exact hw _ rfl

namespace Keeps

theorem writeAt {m a bs} (h : Keeps s t) : Keeps s (State.writeAt m t a bs).2 :=
  State.writeAt_induct (P := fun r => Keeps s r.2) (fun _ _ => h.writeEach fun _ _ _ h => h.writeWindow) fun _ =>
    h.putPiece

theorem warpSend {q a n} (h : Keeps s t) : Keeps s (t.warpSend q a n) := h.each fun _ _ h => h.flitLeaves

theorem moveRead {q a n} (h : Keeps s t) : Keeps s (t.moveRead q a n).2.2 := by
  unfold State.moveRead
  split
  · exact h
  split
  · exact h.readEach fun _ _ _ h => h.readAt
  split
  · exact h
  split
  · exact h.warpSend.record
  · exact h

theorem moveWrite {q a bs} (h : Keeps s t) : Keeps s (t.moveWrite q a bs).2 := by
  unfold State.moveWrite
  split
  · exact h
  split
  · exact h.writeEach fun _ _ _ h => h.writeAt
  split
  · exact h
  split
  · exact h.warpSend
  · exact h

/-! ## Access -/

theorem registerWrite {m addr size v} (h : Keeps s t) : Keeps s (t.registerWrite m addr size v) := by
  unfold State.registerWrite
  refine .ite h.answer ?_
  refine .ite h.answer ?_
  split
  · exact h.writeWindow.answer
  · exact h.writeWindow.answer
  · exact h.event.answer
  · exact h

theorem execRegisterWrite {m addr size v} (h : Keeps s t) : OutKeeps s (execRegisterWrite m addr size v t) :=
  .unit h.registerWrite

theorem execStateViewAccess {m sp off size data} (h : Keeps s t) :
    OutKeeps s (execStateViewAccess m sp off size data t) := by
  unfold Machine.execStateViewAccess
  refine .unit ?_
  split
  · exact h.writeWindow.answer
  · exact h.readWindow.answer

theorem readParts {l f} (h : Keeps s t) (hf : ∀ u a n, Keeps s u → Keeps s (f u a n).2) :
    Keeps s (t.readParts l f).2 :=
  foldl (fun acc : List Byte × State => acc.2) h fun _ _ hx => hf _ _ _ hx

theorem writeParts {o l bs f} (h : Keeps s t) (hf : ∀ u x1 x2 x3, Keeps s u → Keeps s (f u x1 x2 x3)) :
    Keeps s (t.writeParts o l bs f) :=
  h.each fun _ _ h => hf _ _ _ _ h

theorem bar0Read {port off n} (h : Keeps s t) : Keeps s (t.bar0Read port off n) :=
  .answer (h.readParts fun _ _ _ h => h.readSite)

theorem bar0Write {port off bs} (h : Keeps s t) : Keeps s (t.bar0Write port off bs) :=
  .answer (h.writeParts (fun _ _ _ _ h => h.writeSite))

theorem endRead {port a st bs} (h : Keeps s t) : Keeps s (t.endRead port a st bs) := by
  unfold State.endRead
  split
  · exact h.answer
  · exact h.event.answer
  · exact h.event.answer
  · exact h.event.answer
  · exact h.answer

theorem endWrite {port a st} (h : Keeps s t) : Keeps s (t.endWrite port a st) := by
  unfold State.endWrite
  split
  · exact h.event.answer
  · exact h.event.answer
  · exact h.event.answer
  · exact h.event.answer
  · exact h.answer

theorem bar2Read {port off n} (h : Keeps s t) : Keeps s (t.bar2Read port off n) := .ite h.endRead h.moveRead.endRead

theorem bar2Write {port off bs} (h : Keeps s t) : Keeps s (t.bar2Write port off bs) :=
  .ite h.endWrite h.moveWrite.endWrite

theorem bar4Write {port off v} (h : Keeps s t) : Keeps s (t.bar4Write port off v) :=
  .ite h (.ite (.ite h.event h.dbSetWrite) (.ite (h.ranState h.execMbDbOutWrite) h))

theorem ifServed {port f} (h : Keeps s t) (hf : ∀ u, Keeps s u → Keeps s (f u)) : Keeps s (t.ifServed port f) :=
  .ite h (.ite (hf _ h) h.answer)

theorem execBar4DoorbellWrite {port off v} (h : Keeps s t) : OutKeeps s (execBar4DoorbellWrite port off v t) :=
  .unit (h.ifServed (fun _ h => h.bar4Write.answer))

theorem hostRequest {port bar off len data} (h : Keeps s t) : Keeps s (t.hostRequest port bar off len data) := by
  unfold State.hostRequest
  split
  · exact h.bar0Read
  · exact h.bar0Write
  · exact h.bar2Read
  · exact h.bar2Write
  · exact .answer (h.readParts fun _ _ _ h => h)
  · exact .answer (h.writeParts fun _ _ _ _ h => .ite h.bar4Write h)

theorem execHostMemoryRequest {port bar off len data} (h : Keeps s t) :
    OutKeeps s (execHostMemoryRequest port bar off len data t) :=
  .unit (h.ifServed (fun _ h => .ite h.hostRequest h.answer))

/-! ## CWords -/

theorem setGs {sp k v} (h : Keeps s t) : Keeps s (t.setGs sp k v) := h.updMates

theorem brEff : EffKeeps s brEff := fun _ _ _ _ h => h

theorem brrEff : EffKeeps s brrEff := fun _ _ _ _ h => h

theorem callEff : EffKeeps s callEff := fun _ _ _ _ h => h.setGs

theorem callrEff : EffKeeps s callrEff := fun _ _ _ _ h => h.setGs

theorem loopEff : EffKeeps s loopEff := fun _ _ _ _ h => .ite h h.setGs

theorem haltEff : EffKeeps s haltEff := fun _ _ _ _ h => h.retire.halted

theorem fenceEff : EffKeeps s fenceEff := fun _ _ _ _ h => h

theorem syncEff : EffKeeps s syncEff := by
  intro t sp pc w h
  unfold Machine.syncEff
  split
  · trivial
  · exact h

theorem sendBell {sp tgt bits} (h : Keeps s t) : OptKeeps s (t.sendBell sp tgt bits) := .ite h (.ite h h.ring)

theorem doorbellEff : EffKeeps s doorbellEff := by
  intro t sp pc w h
  unfold Machine.doorbellEff
  extract_lets tgt
  split
  · trivial
  · refine .ite h ?_
    split
    · next k => exact h.sendBell.of_eq k
    · exact h

theorem holdHead {sp pc w begun} (h : Keeps s t) : Keeps s (t.holdHead sp pc w begun) := h.updMates

theorem waitEff : EffKeeps s waitEff := by
  intro t sp pc w h
  unfold Machine.waitEff
  split
  · exact h.endWait
  · exact .ite h.endWait h.holdHead.setMatesFld

theorem retxEff : EffKeeps s retxEff := fun _ _ _ _ h => h.returnFromHandler

theorem brkEff : EffKeeps s brkEff := fun _ _ _ _ _ => trivial

theorem epochEff : EffKeeps s epochEff := by
  intro t sp pc w h
  unfold Machine.epochEff
  extract_lets i
  split
  · exact h.setGs.wevent
  · exact .ite h.writeImages.setWfld.holdHead h

theorem rdepochEff : EffKeeps s rdepochEff := fun _ _ _ _ h => h.setGs

/-! ## SWords -/

theorem loadBytes {q a n} (h : Keeps s t) : Keeps s (t.loadBytes q a n).2.2 := h.moveRead

theorem storeBytes {q a bs} (h : Keeps s t) : Keeps s (t.storeBytes q a bs).2 := h.moveWrite

theorem statusPerf {st : Status} {q a mem} (h : Keeps s t) (hu : Keeps s u) :
    PerfKeeps s (st.perf t u q a mem) := by
  unfold Status.perf
  split
  · trivial
  · trivial
  · exact h
  · exact hu
  · exact hu
  · exact hu
  · exact hu

theorem slotSet {sp f} (h : Keeps s t) : SlotKeeps s (t.slotSet sp f) := h.updMates

theorem slotLoad {sp k off n f} (h : Keeps s t) (hf : ∀ u bs, Keeps s u → Keeps s (f u bs)) :
    SlotKeeps s (t.slotLoad sp k off n f) := by
  unfold State.slotLoad
  extract_lets a r
  have hr : Keeps s r.2.2 := h.loadBytes
  split
  · trivial
  split
  · trivial
  split
  · trivial
  split
  · exact hf _ _ hr
  · trivial

theorem slotStore {sp k off bs} (h : Keeps s t) : SlotKeeps s (t.slotStore sp k off bs) := by
  unfold State.slotStore
  extract_lets d qs r
  have hr : SlotKeeps s r := by
    refine List.foldlRecOn (motive := SlotKeeps s) qs _ h fun e he q _ => ?_
    split
    · dsimp only
      split
      · exact Keeps.storeBytes he
      · trivial
    · exact he
  clear_value r
  split
  · trivial
  split
  · exact hr
  split
  · trivial
  · exact hr

theorem slot {sp x} (h : Keeps s t) : SlotKeeps s (t.slot sp x) := by
  unfold State.slot
  extract_lets m op lOff n r1 r2 ad
  split
  · split
    · exact h.slotSet
    · trivial
  · split
    · exact h.slotSet
    · trivial
  · split
    · exact h.slotSet
    · trivial
  · split
    · exact h.slotSet
    · trivial
  · exact h.slotSet
  · exact h.slotSet
  · exact h.slotSet
  · exact h.slotSet
  · exact h.slotSet
  · exact h.slotSet
  · exact h.slotSet
  · split
    · exact h.slotStore
    · exact h.slotLoad fun _ _ h => h.setGs
  · split
    · exact h.slotLoad fun _ _ h => h.updMates
    · exact h.slotStore
  · exact h.slotSet
  · exact h.slotSet
  · exact h.slotSet
  · exact h.slotSet
  · exact h.slotSet
  · exact h.slotSet
  · trivial

theorem heldAccess {q a n bs} (h : Keeps s t) : Keeps s (t.heldAccess q a n bs) := by
  unfold State.heldAccess
  split
  · exact .ite h.storeBytes h
  · exact .ite h.loadBytes h

theorem slots' {sp l} (h : Keeps s t) : SlotKeeps s (t.slots' sp l) := by
  induction l generalizing t with
  | nil => exact h
  | cons x xs ih =>
    unfold State.slots'
    have hx : SlotKeeps s (t.slot sp x) := h.slot
    split
    · next e => exact ih (hx.of_eq e)
    · unfold SlotEnd.least
      split
      · exact ih h
      · exact hx

theorem sEff : EffKeeps s sEff := by
  intro t sp pc w h
  unfold Machine.sEff
  split
  · next e => exact h.slots'.of_eq e
  · trivial
  · exact h.statusPerf h.heldAccess

/-! ## Tile -/

theorem eachMember {sp scope f} (h : Keeps s t) : Keeps s (t.eachMember sp scope f) :=
  h.each fun _ _ h => h.each (fun _ _ h => h.updSpin)

theorem tWord {sp pc w body} (h : Keeps s t) (hb : PerfKeeps s body) : PerfKeeps s (tWord t sp pc w body) := by
  unfold Machine.tWord
  split
  · exact h
  split
  · trivial
  · exact .ite h hb

theorem effElem {o} : EffKeeps s (effElem o) := by
  intro t sp pc w h
  unfold Machine.effElem
  split
  · exact h
  refine h.tWord ?_
  split
  · trivial
  · exact h.eachMember

theorem effScalar {o} : EffKeeps s (effScalar o) := fun _ _ _ _ h => effElem _ _ _ _ h

theorem effScl2 : EffKeeps s effScl2 := fun _ _ _ _ h => effElem _ _ _ _ h

theorem effAccumulate {add} : EffKeeps s (effAccumulate add) := by
  intro t sp pc w h
  refine h.tWord ?_
  extract_lets acc sh u bad
  have hu : Keeps s u := h.eachMember
  clear_value u bad
  split
  · trivial
  · exact hu

theorem effMma {neg} : EffKeeps s (effMma neg) := fun _ _ _ _ h => effAccumulate _ _ _ _ h

theorem effMacc : EffKeeps s effMacc := fun _ _ _ _ h => effAccumulate _ _ _ _ h

theorem effMclr : EffKeeps s effMclr := fun _ _ _ _ h => h.tWord h.eachMember

theorem effMrd {clear} : EffKeeps s (effMrd clear) := by
  intro t sp pc w h
  refine h.tWord ?_
  extract_lets acc hm sh gs bad u
  have hu : Keeps s u := h.eachMember
  clear_value u bad
  split
  · exact h.setLat
  · exact ite hu.record hu

theorem effMflag : EffKeeps s effMflag := by
  intro t sp pc w h
  refine h.tWord ?_
  extract_lets hm gs v u
  have hu : Keeps s u := h.updMates
  exact ite hu.record hu

theorem effTcopy : EffKeeps s effTcopy := fun _ _ _ _ h => h.tWord h.eachMember

theorem effTtrans : EffKeeps s effTtrans := by
  intro t sp pc w h
  refine h.tWord ?_
  extract_lets ha hd u
  have hu : Keeps s u := h.eachMember
  exact ite hu.record hu

theorem effTbcast : EffKeeps s effTbcast := fun _ _ _ _ h => h.tWord h.eachMember

theorem effTfill : EffKeeps s effTfill := fun _ _ _ _ h => h.tWord h.eachMember

theorem effTput : EffKeeps s effTput := fun _ _ _ _ h => h.tWord h.eachMember

theorem effTzero : EffKeeps s effTzero := fun _ _ _ _ h => h.tWord h.eachMember

theorem effTget : EffKeeps s effTget := fun _ _ _ _ h => h.tWord h.updMates

theorem effTcvt : EffKeeps s effTcvt := fun _ _ _ _ h => h.tWord h.eachMember

/-! ## MWords -/

theorem moveHeld {v sp a n bs} (h : Keeps s t) : Keeps s (t.moveHeld v sp a n bs) := by
  unfold State.moveHeld
  split
  · exact .ite h.moveRead h
  · refine .ite h.moveWrite (.ite h ?_)
    split
    · exact .ite h h.logStall
    · exact h

theorem missedPerf {x : Missed} (h : Keeps s t) : PerfKeeps s (x.perf t u) := h.statusPerf h.moveHeld

theorem workRead {k r off n} (h : Keeps s t) : ReadKeeps s (t.workRead k r off n) := by
  unfold State.workRead
  extract_lets d a x
  have hx : Keeps s x.2.2 := h.loadBytes
  split
  · exact h
  split
  · exact h
  split
  · exact hx
  · trivial

theorem workReads {l} (h : Keeps s t) : ReadKeeps s (t.workReads l) := by
  induction l generalizing t with
  | nil => exact h
  | cons x l ih =>
    unfold State.workReads
    split
    · trivial
    · next e =>
      have hx := h.workRead.ok e
      split
      · trivial
      · next e =>
        have hy := (ih hx).ok e
        exact hy

theorem putOne {x} (h : Keeps s t) : TryKeeps s (fun _ => True) id (t.putOne x) := by
  unfold State.putOne
  extract_lets go e o
  have hg {v bs} (hv : Keeps s v) : TryKeeps s (fun _ => True) id (go v bs) := by
    unfold go
    dsimp only
    split
    · exact hv.storeBytes
    · trivial
  have ho : Keeps s o.2.2 := h.loadBytes
  split
  · split
    · exact hg ho
    · trivial
  · exact hg h

theorem puts {l} (h : Keeps s t) : TryKeeps s (fun e => Keeps s e.2) id (t.puts l) := by
  induction l generalizing t with
  | nil => exact h
  | cons x l ih =>
    unfold State.puts
    split
    · next e => exact ih (h.putOne.ok e)
    · exact h

theorem ringAndEnd {sp pc w} (h : Keeps s t) : PerfKeeps s (t.ringAndEnd sp pc w) := by
  unfold State.ringAndEnd
  refine .ite ?_ h
  split
  · next e => exact h.sendBell.of_eq e
  · exact h

theorem unlessBell {sp w body} (h : Keeps s t) (hb : PerfKeeps s body) :
    PerfKeeps s (t.unlessBell sp w body) := .ite h hb

theorem withFails {l body} (hb : PerfKeeps s body) : PerfKeeps s (withFails l body) := by
  unfold Machine.withFails
  split
  · unfold failPerf
    split <;> trivial
  · exact hb

theorem finishPuts {sp pc w l away} (h : Keeps s t) (hu : Keeps s u) : PerfKeeps s (t.finishPuts u sp pc w l away) := by
  unfold State.finishPuts
  split
  · next e =>
    have hv : Keeps s _ := hu.puts.ok e
    exact ringAndEnd hv.record
  · exact h.missedPerf

theorem ldtReads {sp w} (h : Keeps s t) : TryKeeps s (fun _ => True) Prod.snd (t.ldtReads sp w) := by
  refine List.foldlRecOn (motive := TryKeeps s (fun _ => True) Prod.snd) _ _ ?_ fun acc ha k _ => ?_
  · exact h
  split
  · exact ha
  · split
    · next e =>
      have hr := (Keeps.workReads ha).ok e
      exact hr
    · trivial

theorem ldtWrites {w l} (h : Keeps s t) : Keeps s (t.ldtWrites w l) := h.each fun _ _ h => h.updSpin

theorem ldtEff : EffKeeps s ldtEff := by
  intro t sp pc w h
  refine withFails (h.unlessBell (.ite h.ringAndEnd ?_))
  split
  · exact h.missedPerf
  · next e => exact (h.ldtReads.ok e).ldtWrites.ringAndEnd

theorem sttEff : EffKeeps s sttEff := fun _ _ _ _ h => withFails (h.unlessBell (.ite h.ringAndEnd (h.finishPuts h)))

theorem mdReads {sp w fill} (h : Keeps s t) : ReadKeeps s (t.mdReads sp w fill) := by
  unfold State.mdReads
  extract_lets ks
  split
  · exact h
  · exact h.workReads

theorem mdEff {fill} : EffKeeps s (mdEff fill) := by
  intro t sp pc w h
  refine withFails (h.unlessBell ?_)
  split
  · exact h.missedPerf
  · next e => exact h.finishPuts (h.mdReads.ok e)

/-! ## TableWords -/

theorem noteRow {f row n} (h : Keeps s t) : Keeps s (t.noteRow f row n) := .ite h h.noteRgn

theorem readLists {x k} (h : Keeps s t) : ReadKeeps s (t.readLists x k) := by
  unfold State.readLists
  split
  · trivial
  · next e => exact h.workReads.ok e

theorem readAllLists {x l} (h : Keeps s t) : ReadKeeps s (t.readAllLists x l) := by
  induction l generalizing t with
  | nil => exact h
  | cons k ks ih =>
    unfold State.readAllLists
    split
    · trivial
    · next e =>
      have hx := h.readLists.ok e
      split
      · trivial
      · next e =>
        have hy := (ih hx).ok e
        exact hy

theorem readSources {x r l} (h : Keeps s t) : ReadKeeps s (t.readSources x r l) := by
  induction l generalizing t with
  | nil => exact h
  | cons b bs ih =>
    unfold State.readSources
    split
    · trivial
    · next e =>
      have hx := h.workReads.ok e
      split
      · trivial
      · next e =>
        have hy := (ih hx).ok e
        exact hy

theorem changeRow {x f hyper row es} (h : Keeps s t) : StepKeeps s (t.changeRow x f hyper row es) := by
  unfold State.changeRow
  extract_lets r off len reads u
  have hu : Keeps s u := .ite h.noteRgn h
  split
  · exact h
  split
  · exact hu
  split
  · exact h.cxlDiscard
  split
  · exact hu.satFld.event
  extract_lets n
  split
  · exact hu.rgnWrite.spendChange
  split
  · exact hu.record.logOld.rgnWrite.spendChange
  · exact h.logStall

theorem runSteps {x f l n} (h : Keeps s t) : StepKeeps s (t.runSteps x f l n).2 := by
  induction l generalizing t n with
  | nil => exact h
  | cons y l ih =>
    have hy : StepKeeps s (t.changeRow x f y.1 y.2.1 y.2.2) := h.changeRow
    unfold State.runSteps
    split
    · next e => rw [e] at hy; exact ih hy
    · next e => rw [e] at hy; exact hy
    · next e => rw [e] at hy; exact hy

theorem underWay {t' f pc} (h : Keeps s t) : Keeps s (t.underWay t' f pc) := h.holdHead.setLat.setLat

theorem tblLost {sp} (h : Keeps s t) : PerfKeeps s (tblLost t sp) := h

theorem tblPerf {x : Missed} (h : Keeps s t) (hu : Keeps s u) : PerfKeeps s (x.tblPerf t u) := by
  unfold Missed.tblPerf
  split
  · exact hu.moveHeld.tblLost
  · exact hu.moveHeld.tblLost
  · exact h.missedPerf

theorem makeOutputs {x f pc bs} (h : Keeps s t) (hu : Keeps s u) : PerfKeeps s (t.makeOutputs u x f pc bs) := by
  unfold State.makeOutputs
  extract_lets l l' v
  have hv : Keeps s v := hu.each fun _ _ h => h.noteRow
  split
  · next e => exact h.tblPerf (hv.puts.error e)
  · next e =>
    extract_lets z
    have hz : Keeps s z := (hv.puts.ok e).record
    exact .ite (tblLost ((OptKeeps.map fun _ => hz.each fun _ _ h => h.noteRow).getD hz)) hz.underWay

theorem makeChanges {x f pc seed done bs} (h : Keeps s t) : PerfKeeps s (t.makeChanges x f pc seed done bs) := by
  unfold State.makeChanges
  extract_lets l r
  have hr : StepKeeps s r.2 := h.runSteps
  split
  · next e => rw [e] at hr; exact (record hr).underWay
  · next e => rw [e] at hr; exact (underWay hr).setLat.setLat
  · next e => rw [e] at hr; exact tblLost hr

theorem readWord {x r} (h : Keeps s t) : ReadKeeps s (t.readWord x r) := by
  unfold State.readWord
  split
  · trivial
  · next e => exact (h.readAllLists.ok e).readSources

theorem tblRun {x f pc} (h : Keeps s t) : PerfKeeps s (t.tblRun x f pc) := by
  unfold State.tblRun
  extract_lets ks base f1 low
  clear_value f1 low base
  refine .ite (withFails (h.unlessBell h.ringAndEnd)) (.ite (withFails h) ?_)
  split
  · exact withFails (h.tblPerf h)
  next e =>
  have hx := h.readAllLists.ok e
  refine withFails (.ite h (.ite (h.makeOutputs hx) ?_))
  split
  · exact h.tblPerf h
  · next e => exact (hx.readSources.ok e).makeChanges

theorem tblEff {o} : EffKeeps s (tblEff o) := by
  intro t sp pc w h
  unfold Machine.tblEff
  extract_lets x pre
  split
  · exact withFails h
  refine .ite (withFails h) ?_
  split
  · exact h.tblRun
  · exact withFails h
  · exact withFails h
  · exact withFails h.tblLost

theorem resumeWord {sp pc w} (h : Keeps s t) : PerfKeeps s (t.resumeWord sp pc w) := by
  unfold State.resumeWord
  extract_lets x
  split
  · exact h.tblLost
  refine .ite h ?_
  split
  · exact h.tblPerf h
  · next e => exact (h.readWord.ok e).makeChanges

theorem poolAgain {sp} (h : Keeps s t) : Keeps s (t.poolAgain sp) := by
  unfold State.poolAgain
  split
  · exact h.event
  · exact h

theorem tblComplete {sp e how} (h : Keeps s t) : Keeps s (t.tblComplete sp e how) := by
  unfold State.tblComplete
  extract_lets close pool u p
  have hc {v} (hv : Keeps s v) : Keeps s (close v) := hv.setLat
  have hu : Keeps s u := .ite h.poolAgain h
  have hp : PerfKeeps s p := hu.resumeWord
  clear_value p
  refine .ite h (.ite (hc hu).setLat.check (.ite (.check (.elim (hc hu) fun _ => (hc hu).occur)) (.ite ?_ ?_)))
  · exact (hc hu).finishWord (hc hu).ringAndEnd
  · split
    · next v =>
      have hv : Keeps s v := hp
      exact .ite ((hc hv).finishWord (hc hv).ringAndEnd) hv
    · exact hu.finishWord hp

theorem execTableWordComplete {sp how} (h : Keeps s t) : OutKeeps s (execTableWordComplete sp how t) := by
  unfold Machine.execTableWordComplete
  refine .unit ?_
  refine .ite ?_ h
  split
  · exact .ite h.tblComplete h
  · exact h

/-! ## TileWords -/

theorem tileEff {op} : EffKeeps s (tileEff op) := by
  unfold Machine.tileEff
  split
  · exact effMma
  · exact effMma
  · exact effMacc
  · exact effMclr
  · exact effMrd
  · exact effMrd
  · exact effMflag
  · exact effElem
  · exact effElem
  · exact effElem
  · exact effElem
  · exact effElem
  · exact effElem
  · exact effElem
  · exact effElem
  · exact effScalar
  · exact effScalar
  · exact effScl2
  · exact effElem
  · exact effElem
  · exact effElem
  · exact effElem
  · exact effElem
  · exact effElem
  · exact effElem
  · exact effElem
  · exact effElem
  · exact effElem
  · exact effElem
  · exact effElem
  · exact effTcopy
  · exact effTtrans
  · exact effTcvt
  · exact effTfill
  · exact effTbcast
  · exact effTget
  · exact effTput
  · exact effTzero
  · exact fun _ _ _ _ h => h

/-! ## Issue -/

theorem memEff {op} : EffKeeps s (memEff op) := by
  unfold Machine.memEff
  split
  · exact ldtEff
  · exact sttEff
  · exact mdEff
  · exact mdEff
  · exact tblEff

theorem ctlEff {op} : EffKeeps s (ctlEff op) := by
  unfold Machine.ctlEff
  split
  · exact brEff
  · exact brrEff
  · exact callEff
  · exact callrEff
  · exact loopEff
  · exact haltEff
  · exact fenceEff
  · exact doorbellEff
  · exact waitEff
  · exact syncEff
  · exact retxEff
  · exact brkEff
  · exact epochEff
  · exact rdepochEff

theorem wordEff : EffKeeps s wordEff := by
  intro t sp pc w h
  unfold Machine.wordEff
  split
  · exact sEff _ _ _ _ h
  · exact tileEff _ _ _ _ h
  · exact memEff _ _ _ _ h
  · exact ctlEff _ _ _ _ h

theorem pushEntry {sp e} (h : Keeps s t) : Keeps s (t.pushEntry sp e) := h.updMates

theorem issue {sp} (h : Keeps s t) : Keeps s (t.issue sp) := by
  unfold State.issue
  dsimp only
  refine .ite (.ite h.pushEntry h) ?_
  split
  · exact .ite h.bankReach.pushEntry h
  · exact h.bankReach

theorem execWordIssue {sp} (h : Keeps s t) : OutKeeps s (execWordIssue sp t) := .unit (.ite h.issue h)

theorem completeHead {l w} (h : Keeps s t) : Keeps s (t.completeHead l w) := h.performWord wordEff

theorem combineFails {l sp h' twice} (h : Keeps s t) : Keeps s (t.combineFails l sp h' twice) := by
  unfold State.combineFails
  split
  · exact .ite (.ite h.event.check h.event.completeHead) h
  · exact h

theorem execWordComplete {sp e} (h : Keeps s t) : OutKeeps s (execWordComplete sp e t) := by
  unfold Machine.execWordComplete
  refine .unit ?_
  dsimp only
  split
  · exact h
  · refine .ite ?_ h
    split
    · exact h.completeHead
    · exact .ite h.replayWord (.ite h.check h)
    · exact h.check
    · exact .ite h.check h
    · exact h.combineFails

theorem execExceptionTaken {sp} (h : Keeps s t) : OutKeeps s (execExceptionTaken sp t) := by
  refine .unit ?_
  split
  · exact h
  · refine .ite ?_ h
    split
    · exact h.finishWord trivial
    · exact h.finishWord trivial
    · exact h

theorem execInterruptTaken {sp} (h : Keeps s t) : OutKeeps s (execInterruptTaken sp t) := .unit (.ite h.takeInterrupt h)

/-! ## Requesters -/

theorem dmaMove {port w data} (h : Keeps s t) : Keeps s (t.dmaMove port w data).2.2 := by
  unfold State.dmaMove
  split
  · exact h
  · split
    · exact h
    · split
      · dsimp only
        split
        · exact h.moveRead
        · exact h.moveRead.noteUnpopulated
      · split
        · exact h
        · split
          · exact h
          · dsimp only
            split
            · exact h.moveWrite
            · exact h.moveWrite.noteUnpopulated

theorem dmaBell {port w} (h : Keeps s t) : Keeps s (t.dmaBell port w) := .ite (h.ring.getD h.event) h

theorem dmaComplete {port c w rest data} (h : Keeps s t) : Keeps s (t.dmaComplete port c w rest data) :=
  .ite h.answer (.ite h.dmaMove.answer (.dmaEnd (.ite h.dmaMove.dmaBell h.dmaMove)))

theorem execHostDmaDescComplete {port c data} (h : Keeps s t) : OutKeeps s (execHostDmaDescComplete port c data t) := by
  unfold Machine.execHostDmaDescComplete
  refine .unit ?_
  split
  · exact h.dmaComplete
  · exact h

theorem remoteAct {p x} (h : Keeps s t) : Keeps s (t.remoteAct p x) := by
  unfold State.remoteAct
  split
  · exact h.moveWrite.noteUnpopulated
  · exact .ite (h.ring.getD h.event) h

theorem takeFlit {p x} (h : Keeps s t) : Keeps s (t.takeFlit p x) := by
  unfold State.takeFlit
  extract_lets a b
  have ha : Keeps s a := h.setLat
  have hb : Keeps s b := .ite (ha.each fun _ _ h => h.remoteAct) (.ite ha.event (.ite ha ha.event))
  split
  · exact .ite hb hb.flitLeaves
  · exact hb

theorem dataFlit {p x} (h : Keeps s t) : Keeps s (t.dataFlit p x) :=
  .ite h.satWpFld.setLat (.ite h.satWpFld.setLat (.ite (.ite h.answer h.setLat.setLat.takeFlit) h))

theorem warpCredits {p l} (h : Keeps s t) : Keeps s (t.warpCredits p l) := h.each fun _ _ h => h.setLat

theorem execWarpFlitReceive {p x} (h : Keeps s t) : OutKeeps s (execWarpFlitReceive p x t) := by
  refine .unit ?_
  extract_lets st a b
  have ha : Keeps s a := h.setWpFld
  have hb : Keeps s b := .ite (.ite ha.warpNak (.ite ha.warpAck ha)) ha
  exact .ite (.ite hb.dataFlit (.ite (.ite hb.warpCredits hb) (.ite hb.satWpFld hb.satWpFld))) h

theorem collFinish {j sent} (h : Keeps s t) : Keeps s (t.collFinish j sent) := by
  unfold State.collFinish
  extract_lets ms m reads r len parts w
  have hr : Keeps s r.2.2 := by
    unfold r
    split
    · exact h.moveRead
    · exact h
  have hw : Keeps s w.2 := by
    unfold w
    split
    · exact hr
    · exact hr.moveWrite
  exact .ite hr (.ite hr.collEnd.collAdvance (.ite hw hw.collEnd.collAdvance))

theorem execCollComplete {g sent} (h : Keeps s t) : OutKeeps s (execCollComplete g sent t) := by
  unfold Machine.execCollComplete
  refine .unit ?_
  split
  · exact .ite h.collFinish h
  · exact h

/-! ## Dispatch -/

theorem exec {i} (h : Keeps s t) : OutKeeps s (exec i t) := by
  unfold Machine.exec
  split
  · exact h.execRegisterWrite
  · exact h.execMeshFlitReceive
  · exact h.execRouteHoldEnd
  · exact h.execMeshStopRailTrip
  · exact h.execDieOvercurrentTrip
  · exact h.execPwDieIsoWrite
  · exact h.execPwTwinCtlWrite
  · exact h.execTwinIlimEntry
  · exact h.execRailCapRecompute
  · exact h.execBusConverterFail
  · exact h.execVinUndervoltage
  · exact h.execVinOvervoltage
  · exact h.execVinBackInBand
  · exact h.execHiBar2BaseWrite
  · exact h.execHiPkgNumWrite
  · exact h.execBar4DoorbellWrite
  · exact h.execHostMemoryRequest
  · exact h.execDoorbellSetArrive
  · exact h.execWaitTimeout
  · exact h.execTimerCompare
  · exact h.execWriteRefusalNotice
  · exact h.execWordIssue
  · exact h.execWordComplete
  · exact h.execExceptionTaken
  · exact h.execInterruptTaken
  · exact h.execSpnRun
  · exact h.execSpnHaltRequest
  · exact h.execSpnStep
  · exact h.execSpindleHalted
  · exact h.execStateViewAccess
  · exact h.wordStep sEff
  · exact h.wordStep effMma
  · exact h.wordStep effMma
  · exact h.wordStep effMacc
  · exact h.wordStep effMclr
  · exact h.wordStep effMrd
  · exact h.wordStep effMrd
  · exact h.wordStep effMflag
  · exact h.wordStep effElem
  · exact h.wordStep effElem
  · exact h.wordStep effElem
  · exact h.wordStep effElem
  · exact h.wordStep effElem
  · exact h.wordStep effElem
  · exact h.wordStep effElem
  · exact h.wordStep effElem
  · exact h.wordStep effScalar
  · exact h.wordStep effScalar
  · exact h.wordStep effScl2
  · exact h.wordStep effElem
  · exact h.wordStep effElem
  · exact h.wordStep effElem
  · exact h.wordStep effElem
  · exact h.wordStep effElem
  · exact h.wordStep effElem
  · exact h.wordStep effElem
  · exact h.wordStep effElem
  · exact h.wordStep effElem
  · exact h.wordStep effElem
  · exact h.wordStep effElem
  · exact h.wordStep effElem
  · exact h.wordStep effTcopy
  · exact h.wordStep effTtrans
  · exact h.wordStep effTcvt
  · exact h.wordStep effTfill
  · exact h.wordStep effTbcast
  · exact h.wordStep effTget
  · exact h.wordStep effTput
  · exact h.wordStep effTzero
  · exact h.wordStep ldtEff
  · exact h.wordStep sttEff
  · exact h.wordStep mdEff
  · exact h.wordStep mdEff
  · exact h.wordStep tblEff
  · exact h.wordStep tblEff
  · exact h.wordStep tblEff
  · exact h.wordStep tblEff
  · exact h.wordStep tblEff
  · exact h.wordStep tblEff
  · exact h.wordStep tblEff
  · exact h.wordStep tblEff
  · exact h.wordStep tblEff
  · exact h.wordStep tblEff
  · exact h.execTableWordComplete
  · exact h.wordStep brEff
  · exact h.wordStep brrEff
  · exact h.wordStep callEff
  · exact h.wordStep callrEff
  · exact h.wordStep loopEff
  · exact h.wordStep haltEff
  · exact h.wordStep fenceEff
  · exact h.wordStep doorbellEff
  · exact h.wordStep waitEff
  · exact h.wordStep syncEff
  · exact h.wordStep retxEff
  · exact h.wordStep brkEff
  · exact h.wordStep epochEff
  · exact h.wordStep rdepochEff
  · exact h.execPlyForm
  · exact h.execPlyJoin
  · exact h.execPlySplit
  · exact h.execPlyDissolve
  · exact h.execPlyRun
  · exact h.execPlyHalt
  · exact h.execPlyStep
  · exact h.execPlyReform
  · exact h.execPlyBadCommand
  · exact h.execPlyCmdComplete
  · exact h.execPlyDoorbellMove
  · exact h.execPlyWordCleared
  · exact h.execPlyMemberLost
  · exact h.execPlyAutoReform
  · exact h.execQdPlainAccess
  · exact h.execPatrolScrubRead
  · exact h.execQdCarveWrite
  · exact h.execQdCfgWrite
  · exact h.execQdTenWrite
  · exact h.execRegionLoad
  · exact h.execRegionLoadDone
  · exact h.execRegionUnload
  · exact h.execRegionUnloadDone
  · exact h.execRegionBadCommand
  · exact h.execSkeinQuiesce
  · exact h.execSkeinQuiesceDone
  · exact h.execSkeinResume
  · exact h.execSkeinRollback
  · exact h.execSkeinRollbackDone
  · exact h.execSkeinCommit
  · exact h.execQuarryLost
  · exact h.execPartnerLost
  · exact h.execPcRebuildDone
  · exact h.execHbmEyeAdjust
  · exact h.execBankAccess
  · exact h.execBitAliasWrite
  · exact h.execCdBnkPwrWrite
  · exact h.execWdBnkPwrWrite
  · exact h.execBankPowerTransition
  · exact h.execBankWakeDone
  · exact h.execMtestBorrow
  · exact h.execColrepProgram
  · exact h.execColrepDone
  · exact h.execPcie0Perst
  · exact h.execPcie1Perst
  · exact h.execPcieHotReset
  · exact h.execFunctionLevelReset
  · exact h.execHostLinkTrained
  · exact h.execHostDmaEnable
  · exact h.execHostDmaDisable
  · exact h.execHostDmaHeadWrite
  · exact h.execHostDmaDescStart
  · exact h.execHostDmaDescComplete
  · exact h.execHostDmaIdle
  · exact h.execCxlPortBringup
  · exact h.execCxlLinkDown
  · exact h.execCxlRetrain
  · exact h.execCxlEventLogPoll
  · exact h.execWarpNegotiateStart
  · exact h.execWarpPagesExchanged
  · exact h.execWarpTrainingDone
  · exact h.execWarpEnterActive
  · exact h.execWarpLeaveActive
  · exact h.execWarpFlitReceive
  · exact h.execWarpNakReceive
  · exact h.execWarpRetrain
  · exact h.execWarpPortDown
  · exact h.execWarpLaneRetire
  · exact h.execWarpPortRetire
  · exact h.execWpRouteWrite
  · exact h.execFlowRouteHoldEnd
  · exact h.execRemoteRequestTimeout
  · exact h.execWarpLaneMarginCheck
  · exact h.execCollGroupLoad
  · exact h.execCollBroadcast
  · exact h.execCollAllgather
  · exact h.execCollAlltoall
  · exact h.execCollReduceScatter
  · exact h.execCollAllreduce
  · exact h.execCollBegin
  · exact h.execCollComplete
  · exact h.execCollMemberLost
  · exact h.execSlackWindowEnd
  · exact h.execAvsCycle
  · exact h.execAvsProbeEnd
  · exact h.execPwTwinAvsWrite
  · exact h.execTimebaseSerialWord
  · exact h.execClockToBackup
  · exact h.execClockToCrystal
  · exact h.execBackupTrim
  · exact h.execWdTimeAdjWrite
  · exact h.execWdTimeStepWrite
  · exact h.execDiodeConversion
  · exact h.execSoakEnd
  · exact h.execDieIdleBurst
  · exact h.execTwinIdleBurst
  · exact h.execPowerReferenceCheck
  · exact h.execMeterTrim
  · exact h.execHeatBalance
  · exact h.execCalibrationWrite
  · exact h.execErrorOccurrence
  · exact h.execWdFltThrWrite
  · exact h.execFaultInject
  · exact h.execRetirementLogClear
  · exact h.execEpEnrol
  · exact h.execEpRelease
  · exact h.execEpForceCommit
  · exact h.execEpRollback
  · exact h.execEpResume
  · exact h.execEpBadCommand
  · exact h.execEpGrpCfgWrite
  · exact h.execEpochCommit
  · exact h.execEpochCommitPoint
  · exact h.execGroupReadyMessage
  · exact h.execGroupCommitMessage
  · exact h.execGroupAbortMessage
  · exact h.execGroupRollbackMessage
  · exact h.execGroupMemberTimeout
  · exact h.execRollbackStart
  · exact h.execRollbackStopDone
  · exact h.execRollbackQuarriesDone
  · exact h.execHealthyWrite
  · exact h.execWardenTakeover
  · exact h.execHandover
  · exact h.execMirrorCopyDone
  · exact h.execWatchdogKick
  · exact h.execWatchdogExpire
  · exact h.execLeakUnlatch
  · exact h.execMbOutWrite
  · exact h.execMbPost
  · exact h.execMbWait
  · exact h.execMbPostWait
  · exact h.execMbResetIn
  · exact h.execMbAck
  · exact h.execMbDbOutWrite
  · exact h.execWdDiePhaseWrite
  · exact h.execLockRead
  · exact h.execLockWrite
  · exact h.execLkForce
  · exact h.execEventRecord
  · exact h.execRecorderClear
  · exact h.execEvLimitWrite
  · exact h.execPresenceButton
  · exact h.execButtonWindowEnd
  · exact h.execButtonStuck
  · exact h.execSealLoopChange
  · exact h.execFuseProgram
  · exact h.execFuseProgramDone
  · exact h.execPolicyCycle
  · exact h.execThOrderHostWrite
  · exact h.execDrainTimerEnd
  · exact h.execFlowLossDetect
  · exact h.execFlowRestored
  · exact h.execRampStep
  · exact h.execPumpHoldEnd
  · exact h.execFlowLossShutdown
  · exact h.execLeakLoopSample
  · exact h.execLeakConfirm
  · exact h.execLeakActuatorStop
  · exact h.execJunctionTrip
  · exact h.execOutletTrip
  · exact h.execThTenmapWrite
  · exact h.execThTenShareWrite
  · exact h.execEmergIn
  · exact h.execEmergHoldClear
  · exact h.execEmergDriveEnd
  · exact h.execCurveApply
  · exact h.execPolicyRegisterWrite
  · exact h.execLoopSample
  · exact h.execLoopSwap
  · exact h.execLoopModeWrite
  · exact h.execLoopClrFault
  · exact h.execLoopSetWrite
  · exact h.execTsgStart
  · exact h.execTsgStop
  · exact h.execCaptureStart
  · exact h.execCaptureStop
  · exact h.execSolenoidOn
  · exact h.execSolenoidOff
  · exact h.execSolenoidPeakStart
  · exact h.execSolenoidPeakReached
  · exact h.execSolenoidTtpTimeout
  · exact h.execSolenoidDip
  · exact h.execSolenoidPeakEnd
  · exact h.execSolenoidRetryWaitEnd
  · exact h.execSolenoidHoldEnd
  · exact h.execSolenoidRecoverEnd
  · exact h.execCoilOvercurrent
  · exact h.execCoilOpenLoad
  · exact h.execBoostWaitTimeout
  · exact h.execBoostRecharged
  · exact h.execTachSilence
  · exact h.execFanSlow
  · exact h.execSpinupAttemptEnd
  · exact h.execSpinupPauseEnd
  · exact h.execBlockedRetry
  · exact h.execCanFrameReceive
  · exact h.execRxBufferRead
  · exact h.execTxRequest
  · exact h.execTxAbort
  · exact h.execTxAttemptStart
  · exact h.execTxAttemptEnd
  · exact h.execTxLifetimeEnd
  · exact h.execCanRecover
  · exact h.execBusOffAutoRecover
  · exact h.execBusOffRecoveryDone
  · exact h.execTbModeWrite
  · exact h.execCanIntegrationDone
  · exact h.execAutorate
  · exact h.execAutorateCandidateTimeout
  · exact h.execTbTimingWrite
  · exact h.execPowerOrder
  · exact h.execPowerOrderExpire
  · exact h.execStatusRequest
  · exact h.execStatusPeriodic
  · exact h.execEmergencyReceive
  · exact h.execEventForward
  · exact h.execPkgReset
  · exact h.execWdr
  · exact h.execDieReset
  · exact h.execDieResetEnd
  · exact h.execSpnReset
  · exact h.execPortReset
  · exact h.execWdRstCmd
  · exact h.execBringupStepComplete
  · exact h.execFlowProofLongWait
  · exact h.execWdDiePwrWrite
  · exact h.execDiePowerChangeDone
  · exact h.execOrderedShutdownStart
  · exact h.execOrderedShutdownStep
  · exact h.execPwrfailAssert
  · exact h.execPowerFailSaveDone
  · exact h.execPwrfailDeassert
  · exact h.execSaveAreaEraseDone
  · exact h.execFlashProgram
  · exact h.execFlashProgramDone
  · exact h.execLeakRecordWriteDone
  · exact h.execVstbyOutFoldback
  · exact h.execVstbyOutRecovered
  · exact h.execBscanInstruction
  · exact h.execPowerOnReset
  · exact h.execVstbyDown
  · exact h.execPerstNDeassert
  · exact h.execHostConfigRequest
  · exact h.execCanBusError
  · exact h.execStackTemperatureReadout
  · exact h.execSolenoidDeferLimit

/-! ## Step -/

/-- A command that completes leaves a canonical memory canonical. -/
theorem exec_next {i} (e : Machine.exec i t = .next u) : Keeps t u := by
  have h : OutKeeps t (Machine.exec i t) := (refl t).exec
  rw [e] at h
  exact h

end Keeps

/-- Settles O5, from the command at the front of the queue, or from idling when no command waits. -/
theorem stepKeepsMemoryCanonical : Obligations.StepKeepsMemoryCanonical := by
  unfold Obligations.StepKeepsMemoryCanonical
  intro s t hw e
  unfold step at e
  split at e
  · cases e
    exact (Keeps.refl s).idle.mem hw
  · exact (Keeps.exec_next e).mem hw

end Sys2Proof.Machine
end

section
/-! PROOF. Register and host commands: the statement fails in its clause on SPN_VEC. That a spindle is powered and its
slot not retired does not say that its stored SPN_STAT.STATE is not 6, and a spindle that reads 6 shows SPN_STAT and
SPN_MAP alone (`spnHidden`). -/

namespace Sys2Proof.Machine

/-- Die 3 is up, its twin 0 is ON, and the stored STATE of its spindle 96 is 6. -/
def stHidden : State :=
  (((State.reset.setFld fPW_DIE_ISO_ON 62 3 1).setFld fPW_DIE_ISO_MS_ON 62 3 1).setFld fPW_TWIN_CTL_STATE 3 0 2).setFld
    fSPN_STAT_STATE 3 0 6

/-- Where SPN_VEC of spindle 96 stands in the window of its die. -/
def vecOffset : Nat := 0x1000018

/-- The system address of SPN_VEC of spindle 96. -/
def vecAddr : Nat := 0xF000300000000 + vecOffset

/-- The address leads to SPN_VEC of a powered spindle in no ply, at a die that answers. -/
theorem vecAddr_leads : vecAddr < 2 ^ 64 ∧ vecAddr / 2 ^ 52 = stHidden.pkg ∧
    stHidden.locate (vecAddr % 2 ^ 52) = .win (spDie 96) vecOffset ∧
    stHidden.windowSite (spDie 96) vecOffset = .reg .SPN_VEC (spDie 96) (spIdx 96) 0 ∧
    stHidden.dieAnswer (spDie 96) = .ok ∧ stHidden.spPowered 96 = true ∧
    stHidden.lat .slotRetired 96 0 = 0 ∧ stHidden.inRealPly 96 = false ∧ stHidden.masterHeld (.host 0) vecAddr = false := by decide +kernel

/-- Yet the write of 1 leaves VEC.EXC_WORD at 0. -/
theorem vecWrite_discarded :
    (stHidden.registerWrite (.host 0) vecAddr 4 1).spFld fSPN_VEC_EXC_WORD 96 = 0 ∧ getBits 1 13 0 = 1 := by
  decide +kernel

/-- Refutes O53: SPN_VEC of a powered spindle whose stored STATE is 6 is hidden, and its write is discarded. -/
theorem not_registerAndHostCommandsComplete : ¬ Obligations.RegisterAndHostCommandsComplete := by
  unfold Obligations.RegisterAndHostCommandsComplete
  rintro ⟨-, hvec, -⟩
  obtain ⟨h1, h2, h3, h4, h5, h6, h7, h8, h9⟩ := vecAddr_leads
  obtain ⟨t, ht, hexc, -⟩ := hvec (.host 0) 96 vecAddr vecOffset 1 stHidden (by decide) h1 h2 h3 h4 h5 h6 h7 h8 h9
  have hrun : exec (.registerWrite (.host 0) vecAddr 4 1) stHidden =
      ifUnit (decide (vecAddr < 2 ^ 64)) (stHidden.registerWrite (.host 0) vecAddr 4 1) := rfl
  obtain ⟨-, rfl⟩ := ifUnit_eq_next.mp (hrun.symm.trans ht)
  obtain ⟨hkept, hone⟩ := vecWrite_discarded
  rw [hkept, hone] at hexc
  exact absurd hexc (by decide)

end Sys2Proof.Machine
end

section
/-! PROOF. Completion: every command is a state guarded by the test that the units it names exist, and that test is
`Instr.wf` (log entry 17). -/

namespace Sys2Proof.Machine

/-- A write of a policy register answers a state exactly where its offset is one of the table's. -/
theorem execPolicyRegisterWrite_eq_ifUnit (m : Master) (off : Nat) (v : W64) (s : State) :
    ∃ t, execPolicyRegisterWrite m off v s = ifUnit (policyReg off).isSome t := by
  unfold execPolicyRegisterWrite
  cases policyReg off with
  | none => exact ⟨s, rfl⟩
  | some x => exact ⟨_, rfl⟩

/-- Each row of the dispatch answers a state under the test `Instr.wf` writes for it. -/
theorem exec_eq_ifUnit (i : Instr) (s : State) : ∃ t, exec i s = ifUnit i.wf t := by
  cases i
  case policyRegisterWrite m off v => exact execPolicyRegisterWrite_eq_ifUnit m off v s
  all_goals exact ⟨_, rfl⟩

/-- Settles O3: a command's answer is decided by the test of its units alone, whatever the state (log entries 8, 17). -/
theorem wellFormedCommandsComplete : Obligations.WellFormedCommandsComplete := by
  unfold Obligations.WellFormedCommandsComplete
  refine ⟨fun i s h => ?_, fun i s h => ?_⟩
  · obtain ⟨t, e⟩ := exec_eq_ifUnit i s
    exact ⟨t, by rw [e, h, ifUnit_true]⟩
  · obtain ⟨t, e⟩ := exec_eq_ifUnit i s
    rw [e, h, ifUnit_false]

end Sys2Proof.Machine
end


section
/-! PROOF. Reading back: what a field shows after the updates of the model, a command's completion, and what a block
reset leaves of a register. -/

-- Proofs one after another here and below: the threads of many decided side conditions at once exceed the check's memory.
set_option Elab.async false

namespace Sys2Proof.Machine

variable (s : State)

/-! ## Completion -/

/-- A command on a unit that exists completes with the state it computes. -/
theorem Completes.of_unit {i : Instr} {s t : State} {b : Bool} {P : State → Prop} (e : exec i s = ifUnit b t)
    (h : b = true) (p : P t) : Completes i s P :=
  ⟨t, by rw [e, h, ifUnit_true], p⟩

/-- A command that names no unit completes with the state it computes. -/
theorem Completes.of_next {i : Instr} {s t : State} {P : State → Prop} (e : exec i s = .next t) (p : P t) :
    Completes i s P :=
  ⟨t, e, p⟩

/-! ## Fields -/

/-- Reading back a value that fits its field. -/
theorem State.fld_setFld_fits {f : RField} (d i : Nat) {x : Nat} (h : f.hi < 64) (hx : x < 2 ^ (f.hi + 1 - f.lo)) :
    (s.setFld f d i x).fld f d i = x := by
  rw [State.fld_setFld_self s f d i x h, Nat.mod_eq_of_lt hx]

/-- A flag that was set reads 1. -/
theorem State.flag_setFld_one {f : RField} (d i : Nat) (h : f.hi < 64) (hx : 1 < 2 ^ (f.hi + 1 - f.lo)) :
    (s.setFld f d i 1).flag f d i = true := by
  rw [State.flag, State.fld_setFld_fits s d i h hx]; rfl

/-- A flag that was cleared reads 0. -/
theorem State.flag_setFld_zero {f : RField} (d i : Nat) (h : f.hi < 64) : (s.setFld f d i 0).flag f d i = false := by
  rw [State.flag, State.fld_setFld_self s f d i 0 h, Nat.zero_mod]; rfl

/-- A flag of a register of another name is left alone. -/
theorem State.flag_setFld_name {f g : RField} (h : g.reg ≠ f.reg) (d e i j x : Nat) :
    (s.setFld f d i x).flag g e j = s.flag g e j := by
  rw [State.flag, State.fld_setFld_name s h, State.flag]

/-- Another flag of the same register is left alone. -/
theorem State.flag_setFld_disjoint {f g : RField} (h : g.reg = f.reg) (b : g.hi < f.lo ∨ f.hi < g.lo) (d e i j x : Nat) :
    (s.setFld f d i x).flag g e j = s.flag g e j := by
  rw [State.flag, State.fld_setFld_disjoint s h b, State.flag]

/-- A field depends on its register alone. -/
theorem State.fld_congr {s t : State} {f : RField} {d i : Nat} (h : t.reg f.reg d i = s.reg f.reg d i) :
    t.fld f d i = s.fld f d i := by rw [State.fld, h, State.fld]

/-- A flag depends on its register alone. -/
theorem State.flag_congr {s t : State} {f : RField} {d i : Nat} (h : t.reg f.reg d i = s.reg f.reg d i) :
    t.flag f d i = s.flag f d i := by rw [State.flag, State.fld_congr h, State.flag]

/-- A one-bit field is a bit of its register. -/
theorem bitOf_eq_getBits (v : W64) (n : Nat) : bitOf v n = (getBits v n n != 0) := by
  have h := testBit_getBits v n n 0
  have hlt : getBits v n n < 2 := by simpa using getBits_lt v n n
  rw [bitOf, show v.getLsbD n = (getBits v n n).testBit 0 by simpa using h.symm]
  interval_cases getBits v n n <;> rfl

/-! ## The active warden's registers -/

/-- A write of another register than WD_ROLE leaves the active warden the same. -/
theorem State.aw_setReg {r : Reg} (h : Reg.WD_ROLE ≠ r) (d i : Nat) (v : W64) : (s.setReg r d i v).aw = s.aw := by
  rw [State.aw, State.flag_congr (s.reg_setReg_name h d 63 i 0 v), State.aw]

/-- A mirrored write of another register than WD_ROLE leaves the active warden the same. -/
theorem State.aw_setWreg {r : Reg} (h : Reg.WD_ROLE ≠ r) (i : Nat) (v : W64) : (s.setWreg r i v).aw = s.aw := by
  unfold State.setWreg
  extract_lets t m o
  split
  · exact (t.aw_setReg h o i _).trans (s.aw_setReg h _ i v)
  · exact s.aw_setReg h _ i v

/-- Taking the masked bits of a word from itself changes nothing. -/
theorem and_not_or_and (v m : W64) : (v &&& ~~~m) ||| (v &&& m) = v := by
  refine BitVec.eq_of_getLsbD_eq fun k hk => ?_
  simp only [BitVec.getLsbD_or, BitVec.getLsbD_and, BitVec.getLsbD_not, hk, decide_true, Bool.true_and]
  cases v.getLsbD k <;> cases m.getLsbD k <;> rfl

/-- The active warden's register reads what was written: the mirror writes the other warden's, or the same bits of a
shared one (R385). -/
theorem State.wreg_setWreg_self {r : Reg} (h : Reg.WD_ROLE ≠ r) (i : Nat) (v : W64) : (s.setWreg r i v).wreg r i = v := by
  rw [State.wreg, s.aw_setWreg h]
  unfold State.setWreg
  extract_lets t m o
  have ht : t.reg r s.aw i = v := s.reg_setReg_self r s.aw i v
  split
  · rw [State.reg_setReg]
    split
    · next k => rw [t.reg_home r i k.2.1.symm, ht, and_not_or_and]
    · exact ht
  · exact ht

/-- Reading back a value that fits its field of the active warden. -/
theorem State.wfld_setWfld_fits {f : RField} (h : Reg.WD_ROLE ≠ f.reg) (i : Nat) {x : Nat} (hf : f.hi < 64)
    (hx : x < 2 ^ (f.hi + 1 - f.lo)) : (s.setWfld f i x).wfld f i = x := by
  rw [State.wfld, State.setWfld, s.wreg_setWreg_self h, getBits_setBits _ _ _ _ hf, Nat.mod_eq_of_lt hx]

/-- Another field of the active warden's register is left alone. -/
theorem State.wfld_setWfld_disjoint {f g : RField} (h : Reg.WD_ROLE ≠ f.reg) (hg : g.reg = f.reg)
    (b : g.hi < f.lo ∨ f.hi < g.lo) (i x : Nat) : (s.setWfld f i x).wfld g i = s.wfld g i := by
  rw [State.wfld, State.setWfld, hg, s.wreg_setWreg_self h, getBits_setBits_disjoint _ _ _ _ _ _ b, State.wfld, hg]

/-! ## Block resets -/

/-- A read of a map whose changed entries keep their keys, where those of the key read are left alone. -/
theorem sget_filterMap_of_kept {α : Type} {d : α} {f : Nat × α → Option (Nat × α)} {a : Nat}
    (hk : ∀ x y, f x = some y → y.1 = x.1) (m : SMap α) (ha : ∀ x : Nat × α, x.1 = a → f x = some x) :
    sget d (m.filterMap f) a = sget d m a := by
  induction m with
  | nil => rfl
  | cons x m ih =>
    obtain ⟨k, v⟩ := x
    rw [List.filterMap_cons]
    split
    · next e =>
      have hne : k ≠ a := fun h => by rw [ha (k, v) h] at e; cases e
      rw [ih, sget, if_neg hne]
    · next y e =>
      obtain ⟨k', v'⟩ := y
      obtain rfl : k' = k := hk _ _ e
      by_cases h : k' = a
      · rw [ha (k', v) h] at e; cases e; simp only [sget, if_pos h]
      · simp only [sget, if_neg h, ih]

/-- A read of a map of which every entry of the key read is dropped. -/
theorem sget_filterMap_of_dropped {α : Type} {d : α} {f : Nat × α → Option (Nat × α)} {a : Nat}
    (hk : ∀ x y, f x = some y → y.1 = x.1) (m : SMap α) (ha : ∀ x : Nat × α, x.1 = a → f x = none) :
    sget d (m.filterMap f) a = d := by
  induction m with
  | nil => rfl
  | cons x m ih =>
    rw [List.filterMap_cons]
    split
    · exact ih
    · next y e =>
      have hne : y.1 ≠ a := fun h => by rw [ha x ((hk x y e).symm.trans h)] at e; cases e
      obtain ⟨k, v⟩ := y
      rw [sget, if_neg hne, ih]

variable {sel : Reg → Nat → Nat → Bool} {keep : Cls → Bool}

/-- A block reset keeps every stored entry under its key. -/
theorem resetEntry_key (x y : Nat × W64) (e : resetEntry sel keep x = some y) : y.1 = x.1 := by
  unfold resetEntry at e
  dsimp only at e
  split at e
  · cases e; rfl
  · split at e
    · split at e <;> cases e; rfl
    · cases e; rfl

/-- The table lists every register under its number. -/
theorem regOfId_regId (r : Reg) : regOfId (regId r) = some r := by cases r <;> rfl

/-- A register that a block reset does not choose is left alone. -/
theorem State.reg_resetRegs_of_not_sel (r : Reg) (d i : Nat) (h : sel r (regHome r d) i = false) :
    (s.resetRegs sel keep).reg r d i = s.reg r d i := by
  refine sget_filterMap_of_kept resetEntry_key s.regs fun x hx => ?_
  simp [resetEntry, hx, regKey, Nat.unpair_pair, regOfId_regId, h]

/-- With no bit kept, the reset value stands. -/
theorem and_not_zero_or_and_zero (v w : W64) : (v &&& ~~~(0 : W64)) ||| (w &&& 0) = v := by
  change (v &&& BitVec.allOnes 64) ||| (w &&& 0#64) = v
  rw [BitVec.and_allOnes, BitVec.and_zero, BitVec.or_zero]

/-- A register that a block reset chooses, and of which it keeps no field, returns to its reset value. -/
theorem State.reg_resetRegs_of_sel (r : Reg) (d i : Nat)
    (h : sel r (regHome r d) i = true) (hm : keepMask r keep = 0) :
    (s.resetRegs sel keep).reg r d i = regReset r (regHome r d) i := by
  refine sget_filterMap_of_dropped resetEntry_key s.regs fun x hx => ?_
  simp only [resetEntry, hx, regKey, Nat.unpair_pair, regOfId_regId, h, hm, and_not_zero_or_and_zero, if_true]

/-- A latch that a block reset does not choose is left alone. -/
theorem State.lat_resetLats_of_not_sel {sel : Nat → Nat → Nat → Bool} (l : Lat) (d i : Nat)
    (h : sel (latId l) d i = false) : (s.resetLats sel).lat l d i = s.lat l d i := by
  unfold State.resetLats State.lat
  simp only [← List.filterMap_eq_filter]
  refine sget_filterMap_of_kept (fun x y e => ?_) s.lats fun x hx => ?_
  · simp only [Option.guard] at e
    split at e <;> cases e
    rfl
  · simp [Option.guard, keepLat, hx, h]

end Sys2Proof.Machine
end


section
/-! PROOF. What an operation spares. `Spares rs ls s t` says that from `s` to `t` the registers named in `rs` and the
latches named in `ls` are as they were, in every die. As with `Keeps`, an operation has one lemma, under its own name
in the namespace `Spares`, so that a proof reads as the operation's composition; that the operation's own registers
and latches are none of those named is decided. -/

set_option Elab.async false

namespace Sys2Proof.Machine

/-- From `s` to `t` the registers named in `rs` and the latches named in `ls` are as they were, in every die. -/
structure Spares (rs : List Reg) (ls : List Lat) (s t : State) : Prop where
  reg : ∀ r ∈ rs, ∀ d i, t.reg r d i = s.reg r d i
  lat : ∀ l ∈ ls, ∀ d i, t.lat l d i = s.lat l d i

namespace Spares

variable {rs : List Reg} {ls : List Lat} {s t u : State}

theorem refl (s : State) : Spares rs ls s s := ⟨fun _ _ _ _ => rfl, fun _ _ _ _ => rfl⟩

theorem trans (h : Spares rs ls s t) (k : Spares rs ls t u) : Spares rs ls s u :=
  ⟨fun r hr d i => (k.reg r hr d i).trans (h.reg r hr d i), fun l hl d i => (k.lat l hl d i).trans (h.lat l hl d i)⟩

/-- Fewer names are spared as well. -/
theorem mono {rs' : List Reg} {ls' : List Lat} (h : Spares rs ls s t) (hr : ∀ r ∈ rs', r ∈ rs := by decide)
    (hl : ∀ l ∈ ls', l ∈ ls := by decide) : Spares rs' ls' s t :=
  ⟨fun r k => h.reg r (hr r k), fun l k => h.lat l (hl l k)⟩

/-- A frame spares what it does not name. -/
theorem of_only {c : Change} (h : Spares rs ls s t) (k : Only c t u) (hr : ∀ r ∈ rs, ∀ d i, c.regs r d i = false)
    (hl : ∀ l ∈ ls, ∀ d i, c.lats l d i = false) : Spares rs ls s u :=
  h.trans ⟨fun r m d i => k.1 r d i (hr r m d i), fun l m d i => k.2.1 l d i (hl l m d i)⟩

/-! ## What is read -/

theorem fld {f : RField} (h : Spares rs ls s t) (d i : Nat) (hf : f.reg ∈ rs := by decide) : t.fld f d i = s.fld f d i :=
  State.fld_congr (h.reg _ hf d i)

theorem flag {f : RField} (h : Spares rs ls s t) (d i : Nat) (hf : f.reg ∈ rs := by decide) :
    t.flag f d i = s.flag f d i :=
  State.flag_congr (h.reg _ hf d i)

theorem aw (h : Spares rs ls s t) (hr : .WD_ROLE ∈ rs := by decide) : t.aw = s.aw := by
  rw [State.aw, h.flag (f := fWD_ROLE_ACTIVE) 63 0 hr, State.aw]

theorem wreg {r : Reg} (h : Spares rs ls s t) (i : Nat) (hr : r ∈ rs := by decide)
    (ha : .WD_ROLE ∈ rs := by decide) : t.wreg r i = s.wreg r i := by
  rw [State.wreg, h.aw ha, h.reg r hr, State.wreg]

theorem wfld {f : RField} (h : Spares rs ls s t) (i : Nat) (hf : f.reg ∈ rs := by decide)
    (ha : .WD_ROLE ∈ rs := by decide) : t.wfld f i = s.wfld f i := by
  rw [State.wfld, h.wreg i hf ha, State.wfld]

theorem wflag {f : RField} (h : Spares rs ls s t) (i : Nat) (hf : f.reg ∈ rs := by decide)
    (ha : .WD_ROLE ∈ rs := by decide) : t.wflag f i = s.wflag f i := by
  rw [State.wflag, h.wfld i hf ha, State.wflag]

/-! ## Updates -/

/-- A record update of other fields than the registers and the latches. -/
theorem record {mem spins plies stickyA stickyB sides retLog flash skeins losses mended flaws dma coll collGroups
    mesh plyRuns banks heat saved reply free pending} (h : Spares rs ls s t) :
    Spares rs ls s { t with
      mem := mem, spins := spins, plies := plies, stickyA := stickyA, stickyB := stickyB, sides := sides,
      retLog := retLog, flash := flash, skeins := skeins, losses := losses, mended := mended, flaws := flaws,
      dma := dma, coll := coll, collGroups := collGroups, mesh := mesh, plyRuns := plyRuns, banks := banks,
      heat := heat, saved := saved, reply := reply, free := free, pending := pending } :=
  ⟨h.reg, h.lat⟩

theorem ite {p : Prop} {i : Decidable p} (h : Spares rs ls s t) (k : Spares rs ls s u) :
    Spares rs ls s (if p then t else u) := by
  split
  · exact h
  · exact k

theorem each {α : Type} {l : List α} {f : α → State → State} (h : Spares rs ls s t)
    (hf : ∀ x u, Spares rs ls s u → Spares rs ls s (f x u)) : Spares rs ls s (t.each l f) :=
  State.each_induct (Spares rs ls s) l f (fun x _ => hf x) h

theorem foldl {α : Type} {l : List α} {f : State → α → State} (h : Spares rs ls s t)
    (hf : ∀ u x, Spares rs ls s u → Spares rs ls s (f u x)) : Spares rs ls s (l.foldl f t) :=
  List.foldlRecOn (motive := Spares rs ls s) l f h fun u hu x _ => hf u x hu

theorem setReg {r d i v} (h : Spares rs ls s t) (hr : r ∉ rs := by decide) : Spares rs ls s (t.setReg r d i v) :=
  h.trans ⟨fun _ hq e j => t.reg_setReg_name (ne_of_mem_of_not_mem hq hr) d e i j v, fun _ _ _ _ => rfl⟩

theorem setFld {f d i x} (h : Spares rs ls s t) (hf : f.reg ∉ rs := by decide) : Spares rs ls s (t.setFld f d i x) :=
  h.setReg hf

theorem incFld {f d i n} (h : Spares rs ls s t) (hf : f.reg ∉ rs := by decide) : Spares rs ls s (t.incFld f d i n) :=
  h.setReg hf

theorem setSpFld {f sp x} (h : Spares rs ls s t) (hf : f.reg ∉ rs := by decide) : Spares rs ls s (t.setSpFld f sp x) :=
  h.setReg hf

theorem setLat {l d i v} (h : Spares rs ls s t) (hl : l ∉ ls := by decide) : Spares rs ls s (t.setLat l d i v) :=
  h.trans ⟨fun _ _ _ _ => rfl, fun _ hm e j => t.lat_setLat_name (ne_of_mem_of_not_mem hm hl) d e i j v⟩

theorem setWreg {r i v} (h : Spares rs ls s t) (hr : r ∉ rs := by decide) : Spares rs ls s (t.setWreg r i v) :=
  .ite ((h.setReg hr).setReg hr) (h.setReg hr)

theorem setWfld {f i x} (h : Spares rs ls s t) (hf : f.reg ∉ rs := by decide) : Spares rs ls s (t.setWfld f i x) :=
  h.setWreg hf

theorem setStickyOf {d k} (h : Spares rs ls s t) : Spares rs ls s (t.setStickyOf d k) := .ite h.record h.record

theorem updSticky {f} (h : Spares rs ls s t) : Spares rs ls s (t.updSticky f) :=
  .ite h.setStickyOf.setStickyOf h.setStickyOf

/-- The recorder's frame is its own registers and latches. -/
theorem event {code sev unit payload} (h : Spares rs ls s t) (hr : ∀ r ∈ rs, r ∉ recorderRegs := by decide)
    (hl : ∀ l ∈ ls, l ∉ recorderLats := by decide) : Spares rs ls s (t.event code sev unit payload) :=
  h.of_only (Only.event code sev unit payload (Change.records_recording {}))
    (fun r m d i => by simp [Change.recording, orReg, regsOf, hr r m])
    (fun l m d i => by simp [Change.recording, orLat, latsOf, hl l m])

theorem wevent {code sev unit payload} (h : Spares rs ls s t) (hr : ∀ r ∈ rs, r ∉ recorderRegs := by decide)
    (hl : ∀ l ∈ ls, l ∉ recorderLats := by decide) : Spares rs ls s (t.wevent code sev unit payload) :=
  h.event hr hl

theorem resetRegs {sel keep} (h : Spares rs ls s t) (hs : ∀ r ∈ rs, ∀ d i, sel r (regHome r d) i = false) :
    Spares rs ls s (t.resetRegs sel keep) :=
  h.trans ⟨fun r hr d i => t.reg_resetRegs_of_not_sel r d i (hs r hr d i), fun _ _ _ _ => rfl⟩

theorem resetLats {sel} (h : Spares rs ls s t) (hs : ∀ l ∈ ls, ∀ d i, sel (latId l) d i = false) :
    Spares rs ls s (t.resetLats sel) :=
  h.trans ⟨fun _ _ _ _ => rfl, fun l hl d i => t.lat_resetLats_of_not_sel l d i (hs l hl d i)⟩

/-- Freeing locks changes the locks and records it (R405). -/
theorem freeLocks {p} (h : Spares rs ls s t) (hk : .LK_LOCK ∉ rs := by decide)
    (hr : ∀ r ∈ rs, r ∉ recorderRegs := by decide) (hl : ∀ l ∈ ls, l ∉ recorderLats := by decide) :
    Spares rs ls s (t.freeLocks p) :=
  h.each fun _ _ h => .ite ((h.setWfld hk).wevent hr hl) h

/-! ## Mesh stops -/

theorem meshForget {d} (h : Spares rs ls s t) (hf : .MESH_FLITS ∉ rs := by decide) : Spares rs ls s (t.meshForget d) :=
  (h.setReg hf).record

theorem stopClose {d} (h : Spares rs ls s t) (hr : .PW_DIE_ISO ∉ rs := by decide) : Spares rs ls s (t.stopClose d) :=
  .ite h ((h.setFld hr).setFld hr)

theorem stopOff {d} (h : Spares rs ls s t) (hr : .PW_DIE_ISO ∉ rs := by decide) (hf : .MESH_FLITS ∉ rs := by decide) :
    Spares rs ls s (t.stopOff d) :=
  .ite (((h.setFld hr).setFld hr).meshForget hf) (h.setFld hr)

end Spares

end Sys2Proof.Machine
end


section
/-! PROOF. What leaves the isolation switches, the wardens' roles and the package's state alone: `Steady`. Losing
spindles and quarries, holding the epochs, rewriting the routes, ringing a spindle and sending a message do. -/

set_option Elab.async false

namespace Sys2Proof.Machine

/-- The isolation switches, the roles, the package's state and the converters in service stand, and with them the DIE
reset a stop waits for and what led to OFF. -/
abbrev Steady : State → State → Prop :=
  Spares [.PW_DIE_ISO, .WD_ROLE, .WD_PKG_STAT, .PW_CONV_OK] [.msReset, .offCause]

/-- The roles and the package's state stand. -/
abbrev PkgStands : State → State → Prop := Spares [.WD_ROLE, .WD_PKG_STAT] []

namespace Spares

variable {s t u : State}

theorem pkgState (h : PkgStands s t) : t.pkgState = s.pkgState := h.wfld 0

/-! ## Spindles and plies -/

theorem updSpin {sp f} (h : Steady s t) : Steady s (t.updSpin sp f) := h.record

theorem updMates {sp f} (h : Steady s t) : Steady s (t.updMates sp f) := h.each fun _ _ h => h.updSpin

theorem setMatesFld {f : RField} {sp x} (h : Steady s t)
    (hf : f.reg ∉ [.PW_DIE_ISO, .WD_ROLE, .WD_PKG_STAT, .PW_CONV_OK] := by decide) : Steady s (t.setMatesFld f sp x) :=
  h.each fun _ _ h => h.setSpFld hf

theorem notice {sp bits} (h : Steady s t) : Steady s (t.notice sp bits) := h.setFld

theorem noticeAt {m bits} (h : Steady s t) : Steady s (t.noticeAt m bits) := .ite h.notice h

theorem writeEntries {p st} (h : Steady s t) : Steady s (t.writeEntries p st) :=
  h.each fun _ _ h => h.setReg.setReg.setSpFld

theorem halted {sp} (h : Steady s t) : Steady s (t.halted sp) :=
  h.each fun _ _ h => h.setSpFld.setSpFld.setSpFld.setSpFld.setLat

theorem passWord {sp pc} (h : Steady s t) : Steady s (t.passWord sp pc) :=
  setLat (h.each fun _ _ h => h.setSpFld.incFld.updSpin.setLat)

theorem retire {sp pc} (h : Steady s t) : Steady s (t.retire sp pc) := .ite h.passWord.halted h.passWord

theorem endWait {sp w pc hit} (h : Steady s t) : Steady s (t.endWait sp w pc hit) :=
  h.setSpFld.updMates.setMatesFld.retire

theorem testWait {sp} (h : Steady s t) : Steady s (t.testWait sp) := by
  unfold State.testWait
  refine .ite ?_ h
  split
  · split
    · exact h.endWait
    · exact h
  · exact h

theorem twinOn {d k} (h : Steady s t) : Steady s (t.twinOn d k) := .ite h h.setFld.setFld

theorem doorbell {sp bits} (h : Steady s t) : Steady s (t.doorbell sp bits) := by
  unfold State.doorbell
  extract_lets a b
  have hb : Steady s b := .ite h.setSpFld.setLat h.setSpFld
  exact .ite h.event (.ite hb.twinOn hb.testWait)

theorem flush {sp pc} (h : Steady s t) : Steady s (t.flush sp pc) := setLat (h.each fun _ _ h => h.setSpFld.updSpin)

theorem plyStop {p who} (h : Steady s t) : Steady s (t.plyStop p who) :=
  writeEntries (record (h.each fun _ _ h => .ite h (.ite (.ite h.updSpin.setSpFld.setLat h.updSpin) h)))

theorem replacePly {p qs} (h : Steady s t) : Steady s (t.replacePly p qs) := h.record

theorem memberGone {m cause} (h : Steady s t) : Steady s (t.memberGone m cause) := by
  unfold State.memberGone
  split
  · exact h
  · exact .ite h (.ite h.replacePly.plyStop.noticeAt h.replacePly.plyStop.noticeAt.event)

theorem unclaim {d} (h : Steady s t) : Steady s (t.unclaim d) := by
  unfold State.unclaim
  split
  · exact record (h.each fun _ _ h => .ite h.setFld h)
  · exact h

/-! ## Messages and doorbells of the package -/

theorem setTxData {w b bs} (h : Steady s t) : Steady s (t.setTxData w b bs) := h.each fun _ _ h => h.setReg

theorem txPending {w b} (h : Steady s t) : Steady s (t.txPending w b) := h.setFld.setFld.setLat.setLat.setLat

theorem sendOrw {ty dst payload retry life} (h : Steady s t) : Steady s (t.sendOrw ty dst payload retry life) := by
  unfold State.sendOrw
  dsimp only
  refine .ite ?_ h
  split
  · exact h
  · exact h.setReg.setReg.setTxData.txPending.setLat

theorem cdDeliver {d} (h : Steady s t) : Steady s (t.cdDeliver d) := .ite h.doorbell h

theorem resetCdSide {d} (h : Steady s t) : Steady s (t.resetCdSide d) := h.updSticky.wevent

/-! ## Routes -/

theorem writeRoutes (h : Steady s t) : Steady s t.writeRoutes := h.each fun _ _ h => h.setLat

theorem reroute (h : Steady s t) : Steady s t.reroute := h.writeRoutes.each fun _ _ h => h.setLat

theorem holdFlows {before} (h : Steady s t) : Steady s (t.holdFlows before) := h.each fun _ _ h => .ite h h.setLat.setLat

/-! ## Losses -/

theorem trigger {unit fails} (h : Steady s t) : Steady s (t.trigger unit fails) := .ite h (.ite h.setLat.setLat h.setLat)

theorem noteRunning {sp} (h : Steady s t) : Steady s (t.noteRunning sp) := by
  unfold State.noteRunning
  split
  · exact .ite h.setLat h
  · exact h

theorem loseSpindle {sp cause} (h : Steady s t) : Steady s (t.loseSpindle sp cause) := by
  have hm : Steady s ((t.noteRunning sp).memberLost sp cause) := h.noteRunning.memberGone
  unfold State.loseSpindle
  dsimp only
  split
  · exact hm.setWfld.trigger
  · exact hm

theorem clearSpLats {sp} (h : Steady s t) : Steady s (t.clearSpLats sp) :=
  State.each_induct (Steady s) spLats _
    (fun l hl _ hu => hu.setLat ((show ∀ l ∈ spLats, l ∉ [Lat.msReset, .offCause] by decide) l hl)) h

theorem clearSpin {sp} (h : Steady s t) : Steady s (t.clearSpin sp) := h.record.clearSpLats

theorem noteLosses {before d ps opened} (h : Steady s t) : Steady s (t.noteLosses before d ps opened) := by
  unfold State.noteLosses
  extract_lets hits copies a b
  have ha : Steady s a := h.each fun _ _ h => by
    split
    · exact h.setLat
    · exact h
    · exact h.setFld
  have hb : Steady s b := ha.each fun _ _ h => .ite h h.setFld
  split
  · exact hb.event
  · exact hb

theorem sourcesGone {before d} (h : Steady s t) : Steady s (t.sourcesGone before d) := .ite h h.record.noteLosses

theorem quarryLoss {d} (h : Steady s t) : Steady s (t.quarryLoss d) :=
  .ite h (trigger ((h.setLat.setLat.setLat).each fun _ _ h => h.sourcesGone))

theorem loadDieT {d} (h : Steady s t) : Steady s (t.loadDieT d) := .ite (h.each fun _ _ h => h.setReg) h

/-- The wardens' registers are in no other die's own blocks. -/
theorem not_inDie {r : Reg} (h : (regDesc r).place.dLo = 62) (d e : Nat) : inDie d r e = false := by
  simp only [inDie, h]
  by_cases k : 62 ≤ d
  · simp [Nat.not_lt.mpr k]
  · simp [k]

theorem dieGone {d dark} (h : Steady s t) : Steady s (t.dieGone d dark) := by
  unfold State.dieGone
  extract_lets sps a b p q f v w x y
  have hb : Steady s b := record (each (h.each fun _ _ h => h.loseSpindle) fun _ _ h => h.clearSpin)
  have hq : Steady s q := h.quarryLoss.record
  have hv : Steady s v := .ite (unclaim (record (hb.freeLocks.resetCdSide)))
    (.ite (.ite hq.record hq) (.ite h.record (.ite h.freeLocks.record h)))
  have hw : Steady s w := hv.resetLats fun l hl _ _ => by
    simp [(show ∀ l ∈ [Lat.msReset, .offCause], dieLats.any (fun m => latId m == latId l) = false by decide) l hl]
  have hx : Steady s x := hw.resetRegs fun r hr _ _ =>
    not_inDie ((show ∀ r ∈ [Reg.PW_DIE_ISO, .WD_ROLE, .WD_PKG_STAT, .PW_CONV_OK], (regDesc r).place.dLo = 62 by decide) r hr) _ _
  have hy : Steady s y := .ite hx hx.loadDieT
  exact .ite hy.holdFlows hy

/-! ## Holding the epochs -/

theorem stopUnit {i} (h : Steady s t) : Steady s (t.stopUnit i) := .ite h.setLat.flush.halted h

theorem stopUnits (h : Steady s t) : Steady s t.stopUnits :=
  h.each fun _ _ h => each (.ite h.stopUnit.setWfld h.stopUnit) fun _ _ h => h.setLat

theorem hold {code payload} (h : Steady s t) : Steady s (t.hold code payload) :=
  wevent (setLat (setWfld (h.stopUnits.each fun _ _ h => h.setFld.setLat)))

/-! ## Retired units -/

theorem addRetired {w} (h : Steady s t) : Steady s (t.addRetired w) := .ite h h.updSticky.setWfld

theorem logRetired {w cls} (h : Steady s t) : Steady s (t.logRetired w cls) := .ite h.record.setWfld h.wevent

theorem retireStop {d} (h : Steady s t) : Steady s (t.retireStop d) := by
  unfold State.retireStop
  extract_lets a
  have ha : Steady s a := h.setLat.event.reroute
  exact .ite (ha.each fun _ _ h => h.loseSpindle) (.ite ha.quarryLoss ha)

end Spares

end Sys2Proof.Machine
end


section
/-! PROOF. Input commands (R26 to R28, R535): the rail cap follows V_IN and the converters, an input trip leaves the
package in OFF, and the input's return leads to bring-up at the step I/O. -/

set_option Elab.async false

namespace Sys2Proof.Machine

variable (s : State)

/-! ## The rail cap -/

/-- No more converters are in service than there are. -/
theorem State.converters_le : s.converters ≤ 16 :=
  (List.length_filter_le _ _).trans (by simp)

/-- The converters in service are what PW_CONV_OK says. -/
theorem State.converters_congr {s t : State} (h : t.reg .PW_CONV_OK 62 0 = s.reg .PW_CONV_OK 62 0) :
    t.converters = s.converters := by rw [State.converters, h, State.converters]

/-- Forming the rail cap changes PW_RAIL_CAP, its latch and the recorder. -/
theorem Only.railCap {c : Change} {s : State} (hr : ∀ d i, c.regs .PW_RAIL_CAP d i = true) (hl : c.lats .railLow 0 0 = true)
    (h : c.Records) : Only c s s.railCap := by
  unfold State.railCap
  extract_lets cap t
  have ht : Only c s t := (Only.setFld _ _ _ _ fun y _ => hr y 0).trans (Only.setLat _ _ _ _ hl)
  exact Only.ite (ht.trans (Only.wevent _ _ _ _ h)) ht

/-- The rail cap is the lower of 150 A at V_IN and 480 W for each converter in service (R26, R27). -/
theorem State.fld_railCap :
    s.railCap.fld fPW_RAIL_CAP_CAP_W 62 0 = min (s.fld fPW_IN_MEAS_V_IN 62 0 * 150 / 1000) (s.converters * 480) := by
  unfold State.railCap
  extract_lets cap t
  have hcap : cap < 2 ^ 16 := by
    have := s.converters_le
    simp only [cap]; omega
  have ht : t.fld fPW_RAIL_CAP_CAP_W 62 0 = cap := s.fld_setFld_fits 62 0 (by decide) hcap
  split
  · exact ((Spares.refl (rs := [.PW_RAIL_CAP]) (ls := []) t).wevent.fld 62 0).trans ht
  · exact ht

/-- Forming the rail cap leaves other registers than its own and the recorder's alone. -/
theorem State.reg_railCap {r : Reg} (h : r ∉ .PW_RAIL_CAP :: recorderRegs) (d i : Nat) : s.railCap.reg r d i = s.reg r d i := by
  have k := Only.railCap (c := Change.recording { regs := regsOf [.PW_RAIL_CAP], lats := theLat .railLow 0 0 }) (s := s)
    (fun _ _ => rfl) rfl (Change.records_recording _)
  refine k.1 r d i ?_
  simp only [List.mem_cons, not_or] at h
  simp [Change.recording, orReg, regsOf, h.1, h.2]

/-- The rail cap shares its register with the marks of lost converters, which stay. -/
theorem State.bitOf_railCap {n : Nat} (h : 16 ≤ n) :
    bitOf (s.railCap.reg .PW_RAIL_CAP 62 0) n = bitOf (s.reg .PW_RAIL_CAP 62 0) n := by
  unfold State.railCap
  extract_lets cap t
  have ht : bitOf (t.reg .PW_RAIL_CAP 62 0) n = bitOf (s.reg .PW_RAIL_CAP 62 0) n := by
    have k := s.fld_setFld_disjoint (f := fPW_RAIL_CAP_CAP_W) (g := ⟨.PW_RAIL_CAP, n, n⟩) rfl (.inr (Nat.lt_of_succ_le h)) 62 62 0 0 cap
    rw [bitOf_eq_getBits, bitOf_eq_getBits]
    exact congrArg (· != 0) k
  split
  · rw [(Spares.refl (rs := [.PW_RAIL_CAP]) (ls := []) t).wevent.reg .PW_RAIL_CAP (by decide)]
    exact ht
  · exact ht

/-- A measurement is shown, and the rail cap formed with it (R26). -/
theorem railCapRecompute_completes (vin iin pin : Nat) (hv : vin < 2 ^ 16) (hi : iin < 2 ^ 16) (hp : pin < 2 ^ 32) :
    Completes (.railCapRecompute vin iin pin) s fun t =>
      t.fld fPW_IN_MEAS_V_IN 62 0 = vin ∧ t.fld fPW_IN_MEAS_I_IN 62 0 = iin ∧ t.fld fPW_IN_MEAS_P_IN 62 0 = pin ∧
        t.fld fPW_RAIL_CAP_CAP_W 62 0 = min (vin * 150 / 1000) (s.converters * 480) ∧
        Only (Change.recording { regs := regsOf [.PW_IN_MEAS, .PW_RAIL_CAP], lats := theLat .railLow 0 0 }) s t := by
  refine .of_next rfl ?_
  set a := s.setFld fPW_IN_MEAS_V_IN 62 0 vin
  set b := a.setFld fPW_IN_MEAS_I_IN 62 0 iin
  set u := b.setFld fPW_IN_MEAS_P_IN 62 0 pin
  have huv : u.fld fPW_IN_MEAS_V_IN 62 0 = vin :=
    calc u.fld fPW_IN_MEAS_V_IN 62 0 = b.fld fPW_IN_MEAS_V_IN 62 0 := b.fld_setFld_disjoint (by rfl) (by decide) _ _ _ _ _
      _ = a.fld fPW_IN_MEAS_V_IN 62 0 := a.fld_setFld_disjoint (by rfl) (by decide) _ _ _ _ _
      _ = vin := s.fld_setFld_fits 62 0 (by decide) hv
  have hui : u.fld fPW_IN_MEAS_I_IN 62 0 = iin :=
    (b.fld_setFld_disjoint (by rfl) (by decide) _ _ _ _ _).trans (a.fld_setFld_fits 62 0 (by decide) hi)
  have hup : u.fld fPW_IN_MEAS_P_IN 62 0 = pin := b.fld_setFld_fits 62 0 (by decide) hp
  have huc : u.converters = s.converters := State.converters_congr
    ((Spares.refl (rs := [.PW_CONV_OK]) (ls := []) s).setFld.setFld.setFld.reg _ (by decide) 62 0)
  have hm : ∀ f : RField, f.reg = .PW_IN_MEAS → u.railCap.fld f 62 0 = u.fld f 62 0 :=
    fun f hf => State.fld_congr (u.reg_railCap (by rw [hf]; decide) 62 0)
  refine ⟨(hm _ rfl).trans huv, (hm _ rfl).trans hui, (hm _ rfl).trans hup, ?_, ?_⟩
  · rw [u.fld_railCap, huv, huc]
  · refine Only.trans (t := u) ?_ (Only.railCap (fun _ _ => rfl) rfl (Change.records_recording _))
    exact ((Only.setFld _ _ _ _ fun _ _ => rfl).trans (Only.setFld _ _ _ _ fun _ _ => rfl)).trans
      (Only.setFld _ _ _ _ fun _ _ => rfl)

/-- A converter that fails leaves service, is shown lost, and the rail cap is formed again (R27). -/
theorem busConverterFail_completes (n : Nat) (hn : n < 16) (hs : bitOf (s.reg .PW_CONV_OK 62 0) n = true) :
    Completes (.busConverterFail n) s fun t =>
      bitOf (t.reg .PW_CONV_OK 62 0) n = false ∧ bitOf (t.reg .PW_RAIL_CAP 62 0) (16 + n) = true ∧
        t.fld fPW_RAIL_CAP_CAP_W 62 0 = min (s.fld fPW_IN_MEAS_V_IN 62 0 * 150 / 1000) (t.converters * 480) ∧
        Only (Change.recording { regs := regsOf [.PW_CONV_OK, .PW_RAIL_CAP], lats := theLat .railLow 0 0 }) s t := by
  refine .of_unit rfl (by simpa using hn) ?_
  rw [if_pos hs]
  set a := s.setFld ⟨.PW_CONV_OK, n, n⟩ 62 0 0 with ha
  set b := a.setFld ⟨.PW_RAIL_CAP, 16 + n, 16 + n⟩ 62 0 1 with hb
  set u := b.wevent 0x4310 .fault 0 n
  have hub : Spares [.PW_CONV_OK, .PW_RAIL_CAP, .PW_IN_MEAS] [] b u := (Spares.refl b).wevent
  have hconv : u.railCap.reg .PW_CONV_OK 62 0 = a.reg .PW_CONV_OK 62 0 := by
    rw [u.reg_railCap (by decide), hub.reg _ (by decide)]
    exact a.reg_setReg_name (show Reg.PW_CONV_OK ≠ .PW_RAIL_CAP by decide) _ _ _ _ _
  refine ⟨?_, ?_, ?_, ?_⟩
  · rw [hconv, bitOf_eq_getBits]
    exact s.flag_setFld_zero (f := ⟨.PW_CONV_OK, n, n⟩) 62 0 (by simp only; omega)
  · rw [u.bitOf_railCap (by omega), hub.reg _ (by decide), bitOf_eq_getBits]
    exact a.flag_setFld_one (f := ⟨.PW_RAIL_CAP, 16 + n, 16 + n⟩) 62 0 (by simp only; omega) (by simp)
  · have hv : u.fld fPW_IN_MEAS_V_IN 62 0 = s.fld fPW_IN_MEAS_V_IN 62 0 := by
      rw [hub.fld 62 0, hb, State.fld_setFld_name _ (show Reg.PW_IN_MEAS ≠ .PW_RAIL_CAP by decide), ha,
        State.fld_setFld_name _ (show Reg.PW_IN_MEAS ≠ .PW_CONV_OK by decide)]
    rw [u.fld_railCap, hv, State.converters_congr (u.reg_railCap (by decide) 62 0)]
  · refine Only.trans (t := u) ?_ (Only.railCap (fun _ _ => rfl) rfl (Change.records_recording _))
    exact ((Only.setFld _ _ _ _ fun _ _ => rfl).trans (Only.setFld _ _ _ _ fun _ _ => rfl)).trans
      (Only.wevent _ _ _ _ (Change.records_recording _))

/-! ## Input trips -/

namespace Spares

variable {s t : State}

theorem noteSuspension {before} (h : Steady s t) : Steady s (t.noteSuspension before) := .ite h.wevent.sendOrw h

theorem clampOff {c} (h : Steady s t) : Steady s (t.clampOff c) := .ite h.setLat.setWfld.wevent h.setLat

end Spares

/-- A package state that is entered is shown (R534). -/
theorem State.pkgState_enterState {st : Nat} (h : st < 8) : (s.enterState st).pkgState = st := by
  unfold State.enterState State.beginStep
  extract_lets t u
  have ht : t.pkgState = st := by
    refine (Spares.pkgState (Spares.refl _).setLat).trans ?_
    rw [State.pkgState, State.wfld_setWfld_disjoint _ (by decide) (by rfl) (by decide)]
    exact s.wfld_setWfld_fits (by decide) 0 (by decide) h
  have hu : PkgStands t u := (Spares.refl t).wevent
  split
  · exact hu.pkgState.trans ht
  · exact hu.setLat.setWfld.pkgState.trans ht

/-- Entering a state spares the converters and what led to OFF. -/
theorem Spares.enterState {t : State} {st} (h : Spares [.PW_CONV_OK] [.offCause] s t) :
    Spares [.PW_CONV_OK] [.offCause] s (t.enterState st) :=
  .ite h.setWfld.setWfld.setLat.wevent h.setWfld.setWfld.setLat.wevent.setLat.setWfld

/-- What follows the entry into STANDBY or OFF is steady. -/
theorem State.rest_steady (st : Nat) :
    ∃ u, Spares [.PW_CONV_OK] [.offCause] s u ∧ Steady (u.enterState st) (s.rest st) :=
  ⟨_, (Spares.refl s).setLat.setLat,
    (((Spares.refl _).noteSuspension.clampOff.setLat).setWfld).setWfld⟩

/-- The package stands in STANDBY or OFF as told, the converters and what led to OFF as they were. -/
theorem State.rest_enters {st : Nat} (h : st < 8) :
    (s.rest st).pkgState = st ∧ Spares [.PW_CONV_OK] [.offCause] s (s.rest st) := by
  obtain ⟨u, hu, hr⟩ := s.rest_steady st
  exact ⟨hr.mono.pkgState.trans (u.pkgState_enterState h), hu.enterState.trans hr.mono⟩

/-- Every rail opens, the converters stop, and the package stands in OFF for the cause given (R28). -/
theorem State.downToOff_stands {why : Nat} (h : s.pkgState ≠ 2) :
    (s.downToOff why).pkgState = 2 ∧ (s.downToOff why).reg .PW_CONV_OK 62 0 = 0 ∧ (s.downToOff why).lat .offCause 0 0 = why := by
  unfold State.downToOff
  rw [if_neg h]
  set t := (((s.darkCompute 5).darkIo 5).darkStops 5).convertersOff
  obtain ⟨hp, hr⟩ := (t.setLat .offCause 0 0 why).rest_enters (st := 2) (by decide)
  refine ⟨hp, (hr.reg _ (by decide) 62 0).trans ?_, (hr.lat _ (by decide) 0 0).trans (t.lat_setLat_self _ 0 0 why)⟩
  exact State.reg_setReg_self (((s.darkCompute 5).darkIo 5).darkStops 5) .PW_CONV_OK 62 0 0

/-- A power-fail save is under way (R547). -/
theorem State.saving_startSave : s.startSave.wflag fWD_PKG_STAT_SAVING 0 = true := by
  unfold State.startSave
  split
  · assumption
  · rw [State.wflag, State.wfld_setWfld_fits _ (by decide) 0 (by decide) (by decide)]; rfl

/-- Starting a save leaves the package's state, the converters and what led to OFF alone. -/
theorem State.startSave_stands : s.startSave.pkgState = s.pkgState ∧ Spares [.PW_CONV_OK] [.offCause] s s.startSave := by
  unfold State.startSave
  split
  · exact ⟨rfl, .refl s⟩
  · refine ⟨?_, (Spares.refl s).wevent.setWfld⟩
    refine (State.wfld_setWfld_disjoint _ (by decide) (by rfl) (by decide) 0 1).trans ?_
    exact Spares.pkgState (Spares.refl s).wevent

/-- An undervoltage leads to OFF with a save under way (R28, R547). -/
theorem vinUndervoltage_completes (h : s.pkgState ≠ 2) :
    Completes .vinUndervoltage s fun t =>
      t.pkgState = 2 ∧ t.reg .PW_CONV_OK 62 0 = 0 ∧ t.wflag fWD_PKG_STAT_SAVING 0 = true ∧ t.lat .offCause 0 0 = 2 := by
  refine .of_next rfl ?_
  set u := (s.wevent 0x4312 .fatal 0 0).setLat .inputBad 0 0 1
  have hu : u.pkgState ≠ 2 := fun k =>
    h ((Spares.pkgState (Spares.refl s).wevent.setLat).symm.trans k)
  obtain ⟨hp, hc, ho⟩ := u.downToOff_stands (why := 2) hu
  obtain ⟨kp, k⟩ := (u.downToOff 2).startSave_stands
  exact ⟨kp.trans hp, (k.reg _ (by decide) 62 0).trans hc, State.saving_startSave _, (k.lat _ (by decide) 0 0).trans ho⟩

/-- An overvoltage leads to OFF (R28). -/
theorem vinOvervoltage_completes (h : s.pkgState ≠ 2) :
    Completes .vinOvervoltage s fun t =>
      t.pkgState = 2 ∧ t.reg .PW_CONV_OK 62 0 = 0 ∧ t.lat .offCause 0 0 = 2 := by
  refine .of_next rfl (State.downToOff_stands _ fun k => h ?_)
  exact (Spares.pkgState (Spares.refl s).wevent.setLat.setReg).symm.trans k

/-! ## The return of the input -/

namespace Spares

variable {s t : State}

theorem bringupEvents (h : PkgStands s t) : PkgStands s t.bringupEvents := by
  unfold State.bringupEvents
  extract_lets a
  have ha : PkgStands s a := .ite h.event h
  exact .ite ha.wevent ha

theorem railsClose {d} (h : PkgStands s t) : PkgStands s (t.railsClose d) := by
  unfold State.railsClose
  extract_lets a b c
  have hb : PkgStands s b := h.setFld.setFld.setWfld
  have hc : PkgStands s c := .ite hb hb.setWfld
  exact .ite h (.ite h.setFld (.ite (hc.trans (Spares.refl c).cdDeliver.mono) hc))

theorem dieReady {d} (h : PkgStands s t) : PkgStands s (t.dieReady d) :=
  .ite (h.each fun _ _ h => h.setFld) (.ite (h.each fun _ _ h => .ite h.setFld.setFld h.setFld) h)

theorem closeDies {ds} (h : PkgStands s t) : PkgStands s (t.closeDies ds) := h.each fun _ _ h => h.railsClose.dieReady

end Spares

/-- Bring-up at the step I/O is shown in WD_PKG_STAT (R541, Table RST-8). -/
theorem State.bringup_io : (s.bringup 3).pkgState = 3 ∧ (s.bringup 3).wfld fWD_PKG_STAT_STEP 0 = 3 := by
  set a := ((s.setWfld fWD_PKG_STAT_STATE 0 3).setLat .offCause 0 0 0).setLat .soakSkip 0 0 1 with ha
  have hstate : a.pkgState = 3 :=
    (Spares.pkgState (Spares.refl _).setLat.setLat).trans
      (s.wfld_setWfld_fits (by decide) 0 (by decide) (by decide))
  have hend : PkgStands (a.setWfld fWD_PKG_STAT_STEP 0 3) (s.bringup 3) :=
    Spares.closeDies (((Spares.refl _).setLat.setReg.each fun _ _ h => h.stopClose).trans (Spares.refl _).writeRoutes.mono)
  refine ⟨hend.pkgState.trans ?_, (hend.wfld 0).trans ?_⟩
  · exact (a.wfld_setWfld_disjoint (by decide) (by rfl) (by decide) 0 3).trans hstate
  · exact a.wfld_setWfld_fits (by decide) 0 (by decide) (by decide)

/-- The input's return after an input trip leads out of OFF (R28, R535). -/
theorem vinBackInBand_completes (hp : s.pkgState = 2) (hb : s.lat .inputBad 0 0 = 1) (hc : s.lat .offCause 0 0 = 2)
    (ho : s.wfld fTH_ORDER_EFF_STATE 0 = 0) (hr : s.railsBarred = false) :
    Completes .vinBackInBand s fun t => t.pkgState = 3 ∧ t.wfld fWD_PKG_STAT_STEP 0 = 3 := by
  refine .of_next rfl ?_
  set u := (s.setLat .inputBad 0 0 0).setLat .offCause 0 0 4
  have hmay : u.offMayEnd = true := by
    simp [State.offMayEnd, u, State.lat_setLat_name _ (show Lat.inputBad ≠ .offCause by decide)]
  have hu : u.tryReturn = u.bringupEvents.bringup 3 := by
    unfold State.tryReturn
    rw [if_neg (by rw [not_or]; exact ⟨fun h => h ho, by rw [show u.railsBarred = s.railsBarred from rfl, hr]; decide⟩),
      if_neg (by rw [show u.pkgState = s.pkgState from rfl, hp]; decide), if_pos ⟨hp, hmay⟩]
  have hoff : (s.setLat .inputBad 0 0 0).lat .offCause 0 0 = 2 := (s.lat_setLat_name (by decide) _ _ _ _ _).trans hc
  rw [if_neg (by rw [hb]; decide)]
  dsimp only
  rw [if_pos hoff, hu]
  exact State.bringup_io _

/-- Settles O17, command by command. -/
theorem inputCommandsComplete : Obligations.InputCommandsComplete := by
  unfold Obligations.InputCommandsComplete
  exact ⟨fun vin iin pin s hv hi hp => railCapRecompute_completes s vin iin pin hv hi hp,
    fun n s hn hs => busConverterFail_completes s n hn hs, vinUndervoltage_completes, vinOvervoltage_completes,
    vinBackInBand_completes⟩

end Sys2Proof.Machine
end

section
/-! PROOF. Twin regulator commands: the window's least slack is not what is shown where the same window's fault takes
the die's rails away. The state below is met by a package whose warden set the threshold of class 4 to retire at the
first occurrence (COUNT 0, ACTION 2, legal for that class by R347): the least slack of 5 lies under the ALARM of 10, so
the window reports a slack fault, the die retires, its rails open, and PW_TWIN_SLACK returns to its reset value. -/

set_option Elab.async false

namespace Sys2Proof.Machine

/-- Die 3 is up, its twin 0 is ON, and a class 4 occurrence retires the unit at once. -/
def slackRetires : State :=
  (((((State.reset.setFld fPW_DIE_ISO_ON 62 3 1).setFld fPW_TWIN_CTL_STATE 3 0 2).setFld fPW_TWIN_CTL_VID 3 0 68).setWfld
    fWD_FLT_THR_COUNT 4 0).setWfld fWD_FLT_THR_ACTION 4 2)

/-- The twin of the refutation is ON. -/
theorem slackRetires_twinOn : slackRetires.twinState 3 0 = 2 := by decide +kernel

/-- Its threshold is one the package accepts. -/
theorem slackRetires_threshold_legal : thrBad 4 (slackRetires.wreg .WD_FLT_THR 4) = false := by decide +kernel

/-- The least slack an outcome shows for twin 0 of die 3. -/
def slackShown : Out → Option Nat
  | .next t => some (t.fld fPW_TWIN_SLACK_MIN 3 0)
  | _ => none

/-- A window whose least slack was 5 leaves the reset value 255 shown. -/
theorem slackShown_slackRetires : slackShown (exec (.slackWindowEnd 3 0 5 5 0 0 0 []) slackRetires) = some 255 := by
  decide +kernel

/-- Refutes O18: the clause of the window's end fails where the window's own slack fault retires the die, whose rails
open and reset PW_TWIN_SLACK. -/
theorem not_twinRegulatorCommandsComplete : ¬ Obligations.TwinRegulatorCommandsComplete := by
  unfold Obligations.TwinRegulatorCommandsComplete
  rintro ⟨-, -, -, -, window, -⟩
  obtain ⟨t, ht, hmin⟩ := window 3 0 5 5 0 0 0 [] slackRetires (by decide) (by decide) slackRetires_twinOn
  have shown := slackShown_slackRetires
  rw [ht] at shown
  have h255 : t.fld fPW_TWIN_SLACK_MIN 3 0 = 255 := Option.some.inj shown
  rw [h255] at hmin
  exact absurd hmin (by decide)

end Sys2Proof.Machine
end

section
/-! PROOF. Mesh commands (R18, R20, R21): a good flit is forwarded, kept and counted, or delivered; a bad one is replayed
and is one occurrence of class 0x07, which here is only counted. -/

set_option Elab.async false

namespace Sys2Proof.Machine

variable (s : State)

/-! ## Registers of one field -/

/-- A field of all 64 bits is the register. -/
theorem getBits_all (v : W64) : getBits v 63 0 = v.toNat := by
  refine Nat.eq_of_testBit_eq fun k => ?_
  have hlt := BitVec.lt_of_getLsbD (x := v) (i := k)
  rw [testBit_getBits, Nat.zero_add, BitVec.testBit_toNat]
  cases h : v.getLsbD k
  · rfl
  · simpa using hlt h

/-- A field of all 64 bits that is set is the register. -/
theorem setBits_all (v : W64) (x : Nat) : setBits v 63 0 x = BitVec.ofNat 64 x := by
  refine BitVec.eq_of_getLsbD_eq fun k hk => ?_
  rw [getLsbD_setBits _ _ _ _ _ hk, if_pos (by omega), BitVec.getLsbD_ofNat]
  simp [hk]

/-- A counter that fills its register counts the register up. -/
theorem State.reg_incFld_all {f : RField} (hi : f.hi = 63) (lo : f.lo = 0) (d i : Nat) :
    (s.incFld f d i 1).reg f.reg d i = s.reg f.reg d i + 1 := by
  rw [State.incFld, State.setFld, State.reg_setReg_self, State.fld, hi, lo, setBits_all, getBits_all, BitVec.ofNat_add,
    BitVec.ofNat_toNat, BitVec.setWidth_eq]
  rfl

/-! ## What a stop keeps for replay -/

/-- A flit that is sent is kept last. -/
theorem State.getLast?_meshKept_meshSend (d l : Nat) (x : MeshFlit) :
    ((s.meshSend d l x).meshKept d l).getLast? = some x := by
  rw [State.meshSend, State.meshKept, sget_sset_self, lastFlits, List.getLast?_drop, if_neg (by simp),
    List.getLast?_append]
  rfl

/-- Sending a flit changes what is kept for replay. -/
theorem Only.meshSend {c : Change} {s : State} (d l : Nat) (x : MeshFlit) (h : c.mesh = true) :
    Only c s (s.meshSend d l x) := by
  simp only [Only, h]
  exact ⟨fun _ _ _ _ => rfl, fun _ _ _ _ => rfl, fun _ _ => rfl, fun _ _ => rfl, fun _ _ => rfl, by simp [State.meshSend]⟩

/-- The sender of a flit that arrives keeps it. -/
theorem State.meshKept_meshArrives (d l : Nat) (x : MeshFlit) :
    ((s.meshArrives d l x).meshKept (meshNeighbour d l) (linkBack l)).contains x = true := by
  unfold State.meshArrives
  dsimp only
  split
  · assumption
  · exact List.contains_iff_mem.mpr (List.mem_of_getLast? (s.getLast?_meshKept_meshSend _ _ x))

/-- A flit that arrives changes what its sender keeps. -/
theorem Only.meshArrives {c : Change} {s : State} (d l : Nat) (x : MeshFlit) (h : c.mesh = true) :
    Only c s (s.meshArrives d l x) :=
  Only.ite (Only.refl c s) (Only.meshSend _ _ x h)

/-- A flit that arrives leaves the routes alone. -/
theorem State.routeMasks_meshArrives (d l : Nat) (x : MeshFlit) : (s.meshArrives d l x).routeMasks = s.routeMasks := by
  unfold State.meshArrives
  dsimp only
  split <;> rfl

/-- A good flit for another stop goes on over the link the routes name, kept and counted (R18). -/
theorem meshFlitReceive_forward (d link k : Nat) (x : MeshFlit) (hd : d < 64) (hl : link < 4) (hx : meshFits x = true)
    (hu : s.linkUp d link = true) (hg : meshGood x = true) (hn : x.dst ≠ d) (hk : nextLink s.routeMasks d x.dst = some k) :
    Completes (.meshFlitReceive d link x) s fun t =>
      t.reg .MESH_FLITS d 0 = s.reg .MESH_FLITS d 0 + 1 ∧ (t.meshKept d k).getLast? = some (flitVia x d link k) ∧
        Only ({ regs := theReg .MESH_FLITS d 0, mesh := true }) s t := by
  refine .of_unit rfl (by simp [hd, hl, hx]) ?_
  rw [if_pos hu, if_pos hg]
  set a := s.meshArrives d link x
  have ha : Only { regs := theReg .MESH_FLITS d 0, mesh := true } s a := Only.meshArrives d link x rfl
  have hsame : Only { mesh := true } s a := Only.meshArrives d link x rfl
  have e : a.meshForward d link x = (a.meshSend d k (flitVia x d link k)).incFld fMESH_FLITS_COUNT d 0 1 := by
    rw [State.meshForward, if_neg hn, State.routeMasks_meshArrives, hk]
  rw [e]
  refine ⟨?_, a.getLast?_meshKept_meshSend d k _, ha.trans ?_⟩
  · exact (State.reg_incFld_all _ (f := fMESH_FLITS_COUNT) rfl rfl d 0).trans
      (congrArg (· + 1) (hsame.1 .MESH_FLITS d 0 rfl))
  · exact (Only.meshSend _ _ _ rfl).trans (Only.setFld _ _ _ _ fun y hy => by simpa [theReg] using hy)

/-- A good flit for this stop is delivered to its die, uncounted (R18). -/
theorem meshFlitReceive_deliver (d link : Nat) (x : MeshFlit) (hd : d < 64) (hl : link < 4) (hx : meshFits x = true)
    (hu : s.linkUp d link = true) (hg : meshGood x = true) (hn : x.dst = d) :
    Completes (.meshFlitReceive d link x) s fun t =>
      (t.meshKept (meshNeighbour d link) (linkBack link)).contains x = true ∧ Only ({ mesh := true }) s t := by
  refine .of_unit rfl (by simp [hd, hl, hx]) ?_
  rw [if_pos hu, if_pos hg, State.meshForward, if_pos hn]
  exact ⟨s.meshKept_meshArrives d link x, Only.meshArrives d link x rfl⟩

/-! ## Occurrences that are only counted (R343, R344) -/

/-- Tallies of one warden's sticky block. -/
theorem Only.setTallies {c : Change} {s : State} (d : Nat) (l : SMap (Nat × Nat)) (h : c.tallies = true) :
    Only c s (s.setStickyOf d { s.stickyOf d with tallies := l }) := by
  unfold State.setStickyOf State.stickyOf
  split <;> simp [Only, h] <;> exact ⟨fun _ _ _ _ => rfl, fun _ _ _ _ => rfl, fun _ _ => rfl, fun _ _ => rfl, fun _ _ => rfl⟩

/-- The two wardens have each their own sticky block. -/
theorem State.stickyOf_setStickyOf_other (k : Sticky) :
    (s.setStickyOf s.aw k).stickyOf (otherWarden s.aw) = s.stickyOf (otherWarden s.aw) := by
  unfold otherWarden State.aw State.setStickyOf State.stickyOf
  split <;> simp

/-- Tallies the active warden changes, and the standby with it. -/
theorem Only.updTallies {c : Change} {s : State} (f : SMap (Nat × Nat) → SMap (Nat × Nat)) (h : c.tallies = true) :
    Only c s (s.updSticky fun k => { k with tallies := f k.tallies }) := by
  have h1 : Only c s (s.setStickyOf s.aw { s.stickyOf s.aw with tallies := f (s.stickyOf s.aw).tallies }) :=
    Only.setTallies _ _ h
  unfold State.updSticky
  refine Only.ite (h1.trans ?_) h1
  rw [← s.stickyOf_setStickyOf_other { s.stickyOf s.aw with tallies := f (s.stickyOf s.aw).tallies }]
  exact Only.setTallies _ _ h

/-- What a class at a unit has come to depends on the tallies, the retired units, the thresholds and the roles. -/
theorem State.countsOnly_congr {c : Change} {s t : State} {cls u : Nat} (h : Only c s t)
    (hrole : c.regs .WD_ROLE 63 0 = false) (hthr : ∀ d i, c.regs .WD_FLT_THR d i = false)
    (htal : c.tallies = false) (hret : c.retired = false) : t.countsOnly cls u = s.countsOnly cls u := by
  obtain ⟨hreg, -, -, -, -, -, -, htallies, hretired, -⟩ := h
  obtain ⟨ta, tb⟩ := htallies htal
  obtain ⟨ra, rb⟩ := hretired hret
  have haw : t.aw = s.aw := by rw [State.aw, State.flag_congr (hreg .WD_ROLE 63 0 hrole), State.aw]
  have hst : t.sticky.tallies = s.sticky.tallies ∧ t.sticky.retired = s.sticky.retired := by
    unfold State.sticky State.stickyOf
    rw [haw]
    split
    · exact ⟨tb, rb⟩
    · exact ⟨ta, ra⟩
  have hfld : ∀ f : RField, f.reg = .WD_FLT_THR → t.wfld f cls = s.wfld f cls := fun f hf => by
    rw [State.wfld, State.wreg, haw, hf, hreg _ _ _ (hthr _ _), State.wfld, State.wreg, hf]
  simp only [State.countsOnly, State.isRetired, hst.1, hst.2, hfld fWD_FLT_THR_COUNT rfl, hfld fWD_FLT_THR_ACTION rfl]

/-- A tally leaves the thresholds alone. -/
theorem State.wfld_updSticky (f : Sticky → Sticky) (g : RField) (i : Nat) : (s.updSticky f).wfld g i = s.wfld g i :=
  (Spares.refl (rs := [g.reg, .WD_ROLE]) (ls := []) s).updSticky.wfld i (by simp) (by simp)

/-- One more occurrence that is only counted changes its tally and may be reported. -/
theorem Only.occur_of_countsOnly {c : Change} {s : State} {cls u : Nat} (h : s.countsOnly cls u = true) (k : c.Records)
    (ht : c.tallies = true) : Only c s (s.occur cls u) := by
  unfold State.occur State.occurN
  split
  · exact Only.refl c s
  · next hr =>
    extract_lets key old fresh new t
    have hcount : Only c s t := Only.updTallies (fun m => sset (0, 0) m key new) ht
    split
    · next hpast =>
      have hnew : new.1 ≤ old.1 + 1 := by
        simp only [new]; split <;> simp
      have hact : s.wfld fWD_FLT_THR_ACTION cls = 0 := by
        simp only [State.countsOnly, Bool.or_eq_true, decide_eq_true_eq, beq_iff_eq] at h
        rcases h with (h | h) | h
        · exact absurd h hr
        · exact absurd (Nat.le_trans hnew h) (Nat.not_le.mpr hpast)
        · exact h
      have hact' : t.wfld fWD_FLT_THR_ACTION cls = 0 := (s.wfld_updSticky _ _ _).trans hact
      rw [State.takeAction, hact']
      exact hcount.trans (Only.event _ _ _ _ k)
    · exact hcount

/-- A flit whose CRC-32 does not match is replayed, counted and recorded (R21). -/
theorem meshFlitReceive_replay (d link : Nat) (x : MeshFlit) (hd : d < 64) (hl : link < 4) (hx : meshFits x = true)
    (hu : s.linkUp d link = true) (hg : meshGood x = false)
    (hc : s.countsOnly 0x07 (unitId d (0x300 + link)) = true) :
    Completes (.meshFlitReceive d link x) s fun t =>
      t.lat .meshReplays d link = s.lat .meshReplays d link + 1 ∧
        Only (Change.recording { lats := theLat .meshReplays d link, tallies := true }) s t := by
  refine .of_unit rfl (by simp [hd, hl, hx]) ?_
  rw [if_pos hu, if_neg (by simp [hg])]
  set a := s.setLat .meshReplays d link (s.lat .meshReplays d link + 1)
  set b := a.event 0x3120 .note (unitId d (0x300 + link)) 0
  have hab : Only (Change.recording {}) a b := Only.event _ _ _ _ (Change.records_recording _)
  have hsb : Only (Change.recording { lats := theLat .meshReplays d link }) s b :=
    (Only.setLat _ _ _ _ (by simp [Change.recording, orLat, theLat])).trans (Only.event _ _ _ _ (Change.records_recording _))
  have hcb : b.countsOnly 0x07 (unitId d (0x300 + link)) = true :=
    (State.countsOnly_congr hsb rfl (fun _ _ => rfl) rfl rfl).trans hc
  have hbt : Only (Change.recording { tallies := true }) b (b.occur 0x07 (unitId d (0x300 + link))) :=
    Only.occur_of_countsOnly hcb (Change.records_recording _) rfl
  refine ⟨?_, ?_⟩
  · rw [hbt.2.1 _ _ _ (by rfl), hab.2.1 _ _ _ (by rfl)]
    exact s.lat_setLat_self _ _ _ _
  · refine Only.trans ?_ (Only.occur_of_countsOnly hcb (Change.records_recording _) rfl)
    exact (Only.setLat _ _ _ _ (by simp [Change.recording, orLat, theLat])).trans
      (Only.event _ _ _ _ (Change.records_recording _))

/-- The end of a route hold clears it (R20). -/
theorem routeHoldEnd_completes (d : Nat) (hd : d < 64) :
    Completes (.routeHoldEnd d) s fun t => t.lat .routeHold d 0 = 0 ∧ Only ({ lats := theLat .routeHold d 0 }) s t :=
  .of_unit rfl (by simpa using hd) ⟨s.lat_setLat_self _ _ _ _, Only.setLat _ _ _ _ (by simp [theLat])⟩

end Sys2Proof.Machine
end

section
/-! PROOF. Trips (R22, R23, R31): a rail that opened stays open through the occurrence the trip is, whatever its ACTION:
a report, the retirement of the stop or of the die behind it, or the hold of the epochs. -/

set_option Elab.async false

namespace Sys2Proof.Machine

/-- The mesh stop's switch, the latched trip and the DIE reset the stop waits for are as they were, and rails that were
open are open. -/
structure StaysOpen (d : Nat) (s t : State) : Prop where
  msOn : t.flag fPW_DIE_ISO_MS_ON 62 d = s.flag fPW_DIE_ISO_MS_ON 62 d
  trip : t.flag fPW_DIE_ISO_TRIP 62 d = s.flag fPW_DIE_ISO_TRIP 62 d
  on : s.flag fPW_DIE_ISO_ON 62 d = false → t.flag fPW_DIE_ISO_ON 62 d = false
  msReset : t.lat .msReset d 0 = s.lat .msReset d 0

namespace StaysOpen

variable {d : Nat} {s t u : State}

theorem of_steady (h : Steady s t) : StaysOpen d s t :=
  ⟨h.flag 62 d, h.flag 62 d, fun k => (h.flag 62 d).trans k, h.lat _ (by decide) d 0⟩

theorem refl (s : State) : StaysOpen d s s := of_steady (Spares.refl s)

theorem trans (h : StaysOpen d s t) (k : StaysOpen d t u) : StaysOpen d s u :=
  ⟨k.msOn.trans h.msOn, k.trip.trans h.trip, fun x => k.on (h.on x), k.msReset.trans h.msReset⟩

/-- A field of PW_DIE_ISO other than the stop's switch, the trip and the rails. -/
theorem setFld (s : State) {f : RField} (x : Nat) (hf : f.reg = .PW_DIE_ISO) (hm : 3 < f.lo ∨ f.hi < 3)
    (ht : 2 < f.lo ∨ f.hi < 2) (ho : 0 < f.lo) : StaysOpen d s (s.setFld f 62 d x) :=
  ⟨s.flag_setFld_disjoint hf.symm hm _ _ _ _ _, s.flag_setFld_disjoint hf.symm ht _ _ _ _ _,
    fun k => (s.flag_setFld_disjoint hf.symm (.inl ho) _ _ _ _ _).trans k, rfl⟩

theorem railsOpen (s : State) (cause : Nat) : StaysOpen d s (s.railsOpen d cause) := by
  unfold State.railsOpen
  split
  · set a := s.setFld fPW_DIE_ISO_ON 62 d 0
    have ha : StaysOpen d s a :=
      ⟨s.flag_setFld_disjoint (by rfl) (by decide) _ _ _ _ _, s.flag_setFld_disjoint (by rfl) (by decide) _ _ _ _ _,
        fun _ => s.flag_setFld_zero _ _ (by decide), rfl⟩
    have hb : StaysOpen d s (a.setWfld fWD_DIE_PWR_ACT d 0) := ha.trans (of_steady (Spares.refl a).setWfld)
    refine StaysOpen.trans ?_ (of_steady (Spares.refl _).dieGone)
    split
    · exact hb
    · exact hb.trans (.setFld _ cause rfl (by decide) (by decide) (by decide))
  · exact refl s

theorem isolate (s : State) (cause : Nat) : StaysOpen d s (s.isolate d cause) :=
  (setFld s 0 rfl (by decide) (by decide) (by decide)).trans (railsOpen _ cause)

theorem retireDie (s : State) : StaysOpen d s (s.retireDie d) :=
  ((of_steady (Spares.refl s).setLat).trans (isolate _ 2)).trans (of_steady (Spares.refl _).event)

end StaysOpen

variable (s : State)

/-- Rails that are isolated are open. -/
theorem State.flag_on_isolate (d cause : Nat) : (s.isolate d cause).flag fPW_DIE_ISO_ON 62 d = false := by
  unfold State.isolate State.railsOpen
  split
  · refine (Spares.flag (Spares.dieGone (Spares.refl _) : Steady _ _) 62 d).trans ?_
    set a := s.setFld fPW_DIE_ISO_CLOSE 62 d 0
    have hw : ((a.setFld fPW_DIE_ISO_ON 62 d 0).setWfld fWD_DIE_PWR_ACT d 0).flag fPW_DIE_ISO_ON 62 d = false :=
      (Spares.flag (Spares.setWfld (Spares.refl _) : Steady _ _) 62 d).trans (a.flag_setFld_zero _ _ (by decide))
    split
    · exact hw
    · exact (State.flag_setFld_disjoint _ (by rfl) (by decide) _ _ _ _ _).trans hw
  · next h => exact Bool.eq_false_iff.mpr h

/-- A stop's rail that is opened is open. -/
theorem State.flag_msOn_stopOff (d : Nat) : (s.stopOff d).flag fPW_DIE_ISO_MS_ON 62 d = false := by
  unfold State.stopOff
  dsimp only
  split
  · refine (Spares.flag (Spares.meshForget (Spares.refl _) : Steady _ _) 62 d).trans ?_
    exact State.flag_setFld_zero _ _ _ (by decide)
  · next h => exact (s.flag_setFld_disjoint (by rfl) (by decide) _ _ _ _ _).trans (Bool.eq_false_iff.mpr h)

/-- Commands of the mesh stop's switch leave the trip alone. -/
theorem State.flag_trip_stopClose (d : Nat) :
    (s.stopClose d).flag fPW_DIE_ISO_TRIP 62 d = s.flag fPW_DIE_ISO_TRIP 62 d := by
  unfold State.stopClose
  split
  · rfl
  · exact (State.flag_setFld_disjoint _ (by rfl) (by decide) _ _ _ _ _).trans
      (s.flag_setFld_disjoint (by rfl) (by decide) _ _ _ _ _)

theorem State.flag_trip_stopOff (d : Nat) :
    (s.stopOff d).flag fPW_DIE_ISO_TRIP 62 d = s.flag fPW_DIE_ISO_TRIP 62 d := by
  unfold State.stopOff
  set a := s.setFld fPW_DIE_ISO_MS_CLOSE 62 d 0
  have ha : a.flag fPW_DIE_ISO_TRIP 62 d = s.flag fPW_DIE_ISO_TRIP 62 d :=
    s.flag_setFld_disjoint (by rfl) (by decide) _ _ _ _ _
  dsimp only
  split
  · refine (Spares.flag (Spares.meshForget (Spares.refl _) : Steady _ _) 62 d).trans ?_
    exact (a.flag_setFld_disjoint (by rfl) (by decide) _ _ _ _ _).trans ha
  · exact ha

/-! ## The occurrence a trip is -/

/-- A unit is die `d` itself or its mesh stop. -/
def OfRails (d u : Nat) : Prop := u = unitId d 0x310 ∨ u = dieUnit d

variable {d u : Nat}

theorem OfRails.die (h : OfRails d u) : u / 1024 = d := by
  rcases h with rfl | rfl
  · simp only [unitId]; omega
  · simp only [dieUnit, unitId]; omega

variable {again : State → Nat → Nat → State}

/-- Neither the stop's retirement nor the die's closes a rail. -/
theorem StaysOpen.enact (hd : d < 62) (h : OfRails d u) : StaysOpen d s (s.enact again u) := by
  have hdie := h.die
  rcases h with rfl | rfl
  · have hx : unitId d 0x310 % 1024 = 0x310 := by simp only [unitId]; omega
    have e : s.enact again (unitId d 0x310) = s.retireStop d := by
      simp only [State.enact, hdie, hx, if_neg (Nat.not_le.mpr hd)]; rfl
    exact e ▸ .of_steady (Spares.refl s).retireStop
  · have hx : dieUnit d % 1024 = 0x3FF := by simp only [dieUnit, unitId]; omega
    have e : s.enact again (dieUnit d) = s.retireDie d := by
      simp only [State.enact, hdie, hx, if_neg (Nat.not_le.mpr hd)]; rfl
    exact e ▸ .retireDie s

theorem StaysOpen.retireUnit (cls : Nat) (hd : d < 62) (h : OfRails d u) : StaysOpen d s (s.retireUnit again u cls) := by
  unfold State.retireUnit
  split
  · exact .refl s
  · exact ((of_steady (Spares.refl s).addRetired.event).trans (.enact _ hd h)).trans (of_steady (Spares.refl _).logRetired)

theorem StaysOpen.takeAction (cls : Nat) (hd : d < 62) (h : OfRails d u) : StaysOpen d s (s.takeAction again cls u) := by
  unfold State.takeAction
  split
  · exact of_steady (Spares.refl s).event
  · exact .retireUnit s cls hd h
  · rw [h.die, if_neg (Nat.not_le.mpr hd)]
    exact .retireUnit s cls hd (.inr rfl)
  · exact of_steady (Spares.refl s).hold
  · exact .refl s

theorem StaysOpen.occur (cls : Nat) (hd : d < 62) (h : OfRails d u) : StaysOpen d s (s.occur cls u) := by
  unfold State.occur State.occurN
  split
  · exact .refl s
  · extract_lets key old fresh new t
    have ht : StaysOpen d s t := of_steady (Spares.refl s).updSticky
    split
    · exact ht.trans (.takeAction t cls hd h)
    · exact ht

/-! ## The trips -/

/-- A trip of the mesh stop's rail opens it, and a DIE reset is due (R22, R23). -/
theorem meshStopRailTrip_completes (hd : d < 62) (hon : s.flag fPW_DIE_ISO_MS_ON 62 d = true) :
    Completes (.meshStopRailTrip d) s fun t =>
      t.flag fPW_DIE_ISO_MS_ON 62 d = false ∧ t.lat .msReset d 0 = 1 := by
  refine .of_unit rfl (by simpa [hasRails] using hd) ?_
  rw [if_pos hon]
  extract_lets a b
  set z := s.setLat .msReset d 0 1
  have hz : (z.stopOff d).lat .msReset d 0 = 1 :=
    (Spares.lat (Spares.stopOff (Spares.refl z) : Spares [] [.msReset] z _) _ (by decide) d 0).trans
      (s.lat_setLat_self _ _ _ _)
  have hb : StaysOpen d (z.stopOff d) b :=
    ((StaysOpen.isolate _ 3).trans (.setFld _ 3 rfl (by decide) (by decide) (by decide))).trans (.occur a 0x08 hd (.inl rfl))
  have hbs : b.flag fPW_DIE_ISO_MS_ON 62 d = false ∧ b.lat .msReset d 0 = 1 :=
    ⟨hb.msOn.trans (z.flag_msOn_stopOff d), hb.msReset.trans hz⟩
  split
  · exact hbs
  · have h : StaysOpen d b ((b.event 0x3122 .fault (unitId d 0x310) 0).reroute) := .of_steady (Spares.refl b).event.reroute
    exact ⟨h.msOn.trans hbs.1, h.msReset.trans hbs.2⟩

/-- An overcurrent trip opens the die's rails and latches TRIP (R31). -/
theorem dieOvercurrentTrip_completes (hd : d < 62) (hon : s.flag fPW_DIE_ISO_ON 62 d = true) :
    Completes (.dieOvercurrentTrip d) s fun t =>
      t.flag fPW_DIE_ISO_ON 62 d = false ∧ t.flag fPW_DIE_ISO_TRIP 62 d = true := by
  refine .of_unit rfl (by simpa [hasRails] using hd) ?_
  rw [if_pos hon]
  extract_lets a
  set z := (s.setLat .tripReset d 0 1).setFld fPW_DIE_ISO_TRIP 62 d 1
  have hz : z.flag fPW_DIE_ISO_TRIP 62 d = true := State.flag_setFld_one _ _ _ (by decide) (by decide)
  have ha : StaysOpen d (z.isolate d 1) (a.occur 0x05 (dieUnit d)) :=
    (StaysOpen.of_steady (Spares.refl _).event).trans (.occur a 0x05 hd (.inr rfl))
  exact ⟨ha.on (z.flag_on_isolate d 1), (ha.trip.trans (StaysOpen.isolate z 1).trip).trans hz⟩

/-! ## Isolation switches and current limits -/

/-- The rails close, with CLOSE and ON shown, where no trip, retirement or hard trip bars them (R32). -/
theorem State.railsClose_on {t : State} (htrip : t.flag fPW_DIE_ISO_TRIP 62 d = false) (hret : t.lat .dieRetired d 0 = 0)
    (hth : t.wflag fTH_STAT_TRIP 0 = false) :
    (t.railsClose d).flag fPW_DIE_ISO_ON 62 d = true ∧ (t.railsClose d).flag fPW_DIE_ISO_CLOSE 62 d = true := by
  unfold State.railsClose
  rw [htrip, hret, hth, if_neg (by decide), if_neg (by decide)]
  extract_lets a b c
  set z := t.setFld fPW_DIE_ISO_CLOSE 62 d 1
  have hz : z.flag fPW_DIE_ISO_CLOSE 62 d = true := t.flag_setFld_one _ _ (by decide) (by decide)
  have ha : a.flag fPW_DIE_ISO_ON 62 d = true ∧ a.flag fPW_DIE_ISO_CLOSE 62 d = true :=
    ⟨z.flag_setFld_one _ _ (by decide) (by decide), (z.flag_setFld_disjoint (by rfl) (by decide) _ _ _ _ _).trans hz⟩
  have hc : Steady a c := .ite (Spares.refl a).setWfld (Spares.refl a).setWfld.setWfld
  have h : Steady a (if d < 48 then c.cdDeliver d else c) := .ite hc.cdDeliver hc
  exact ⟨(h.flag 62 d).trans ha.1, (h.flag 62 d).trans ha.2⟩

/-- A close command of the active warden closes the rails (R24, R32). -/
theorem pwDieIsoWrite_closes (m : Master) (v : W64) (hd : d < 62) (hm : s.isActive m = true) (hv : bitOf v 1 = true)
    (htrip : s.flag fPW_DIE_ISO_TRIP 62 d = false) (hreset : s.lat .tripReset d 0 = 0)
    (hth : s.wflag fTH_STAT_TRIP 0 = false) (hret : s.lat .dieRetired d 0 = 0) :
    Completes (.pwDieIsoWrite m d v) s fun t =>
      t.flag fPW_DIE_ISO_ON 62 d = true ∧ t.flag fPW_DIE_ISO_CLOSE 62 d = true := by
  refine .of_unit rfl (by simp; omega) ?_
  rw [if_pos hm, if_pos (by simpa [hasRails] using hd), State.isoWrite]
  set a := if bitOf v 2 then s.setFld fPW_DIE_ISO_TRIP 62 d 0 else s
  set b := if bitOf v 4 then a.stopClose d else a.stopOff d
  have ha : a.flag fPW_DIE_ISO_TRIP 62 d = false ∧ Spares [.WD_ROLE, .TH_STAT] [.dieRetired] s a := by
    simp only [a]
    split
    · exact ⟨s.flag_setFld_zero _ _ (by decide), (Spares.refl s).setFld⟩
    · exact ⟨htrip, .refl s⟩
  have hb : b.flag fPW_DIE_ISO_TRIP 62 d = false ∧ Spares [.WD_ROLE, .TH_STAT] [.dieRetired] s b := by
    obtain ⟨hat, hs⟩ := ha
    simp only [b]
    split
    · exact ⟨(a.flag_trip_stopClose d).trans hat, hs.stopClose⟩
    · exact ⟨(a.flag_trip_stopOff d).trans hat, hs.stopOff⟩
  obtain ⟨hbt, hs⟩ := hb
  rw [if_pos hv, if_neg (by simp [htrip, hreset])]
  exact State.railsClose_on hbt ((hs.lat _ (by decide) d 0).trans hret) ((hs.wflag 0).trans hth)

end Sys2Proof.Machine
end

section
/-! PROOF. Current limits (R29), and the mesh and rail commands together. -/

set_option Elab.async false

namespace Sys2Proof.Machine

variable (s : State)

/-- The start of a current limit is shown in ILIM and recorded (R29). -/
theorem twinIlimEntry_starts (d k : Nat) (hd : d < 48) (hk : k < 17) (hon : s.twinState d k = 2)
    (hi : s.flag fPW_TWIN_CTL_ILIM d k = false) :
    Completes (.twinIlimEntry d k true) s fun t =>
      t.flag fPW_TWIN_CTL_ILIM d k = true ∧ Only (Change.recording { regs := theReg .PW_TWIN_CTL d k }) s t := by
  refine .of_unit rfl (by simp [hd, hk]) ?_
  rw [if_pos (by simp [hon, hi])]
  set a := s.setFld fPW_TWIN_CTL_ILIM d k 1
  refine ⟨?_, Only.trans (t := a) ?_ (Only.event _ _ _ _ (Change.records_recording _))⟩
  · exact ((Spares.refl (rs := [.PW_TWIN_CTL]) (ls := []) a).event.flag d k).trans
      (s.flag_setFld_one d k (by decide) (by decide))
  · exact Only.setFld _ _ _ _ fun y hy => by simpa [Change.recording, orReg, theReg] using .inl hy

/-- The end of a current limit clears ILIM, and raises begin again after it (R29). -/
theorem twinIlimEntry_ends (d k : Nat) (hd : d < 48) (hk : k < 17) (hi : s.flag fPW_TWIN_CTL_ILIM d k = true) :
    Completes (.twinIlimEntry d k false) s fun t =>
      t.flag fPW_TWIN_CTL_ILIM d k = false ∧ Only ({ regs := theReg .PW_TWIN_CTL d k, lats := theLat .ilimEnd d k }) s t := by
  refine .of_unit rfl (by simp [hd, hk]) ?_
  rw [if_neg (by simp), if_neg (by simp [hi])]
  refine ⟨s.flag_setFld_zero d k (by decide), Only.trans (t := s.setFld fPW_TWIN_CTL_ILIM d k 0) ?_ ?_⟩
  · exact Only.setFld _ _ _ _ fun y hy => by simpa [theReg] using hy
  · exact Only.setLat _ _ _ _ (by simp [theLat])

/-- Settles O16, command by command. -/
theorem meshAndRailCommandsComplete : Obligations.MeshAndRailCommandsComplete := by
  unfold Obligations.MeshAndRailCommandsComplete
  refine ⟨fun d link k x s => meshFlitReceive_forward s d link k x, fun d link x s => meshFlitReceive_deliver s d link x,
    fun d link x s => meshFlitReceive_replay s d link x, fun d s => routeHoldEnd_completes s d,
    fun d s => meshStopRailTrip_completes s, fun d s => dieOvercurrentTrip_completes s, ?_,
    fun d k s => twinIlimEntry_starts s d k, fun d k s => twinIlimEntry_ends s d k⟩
  intro m d v s hd hm hv htrip hreset hth hret
  exact pwDieIsoWrite_closes s m v hd hm hv htrip hreset hth hret

end Sys2Proof.Machine
end

section
/-! PROOF. Host port resets and links (R269, R270, R276): a reset stops the channels and leaves the port's registers at
their reset values, a Function Level Reset leaves the package number, a trained link is shown. -/

set_option Elab.async false

namespace Sys2Proof.Machine

variable (s : State)

/-! ## What the channels move -/

/-- The descriptors a channel moves are part of the ports' channels. -/
theorem State.dmaMoving_congr {s t : State} (h : t.dma = s.dma) (port c : Nat) : t.dmaMoving port c = s.dmaMoving port c := by
  rw [State.dmaMoving, h, State.dmaMoving]

/-- A frame without the channels keeps them. -/
theorem Only.dma_eq {c : Change} {s t : State} (h : Only c s t) (hc : c.dma = false) : t.dma = s.dma := by
  obtain ⟨-, -, -, -, -, -, -, -, -, -, -, -, hdma, -⟩ := h
  exact hdma hc

/-- What a channel moves after one of its port's channels was set. -/
theorem State.dmaMoving_setDmaMoving (port c e : Nat) (l : List W256) :
    (s.setDmaMoving port c l).dmaMoving port e = if e = c then l else s.dmaMoving port e := by
  rw [State.setDmaMoving, State.dmaMoving, sget_sset, State.dmaMoving]
  simp only [Nat.add_left_cancel_iff]

theorem State.dmaMoving_setDmaMoving_self (port c : Nat) (l : List W256) :
    (s.setDmaMoving port c l).dmaMoving port c = l := by
  rw [State.dmaMoving_setDmaMoving, if_pos rfl]

/-- Setting what a channel moves changes the channels. -/
theorem Only.setDmaMoving {c : Change} {s : State} (port n : Nat) (l : List W256) (h : c.dma = true) :
    Only c s (s.setDmaMoving port n l) := by
  simp only [Only, h]
  exact ⟨fun _ _ _ _ => rfl, fun _ _ _ _ => rfl, fun _ _ => rfl, fun _ _ => rfl, fun _ _ => rfl, by simp [State.setDmaMoving]⟩

/-- A channel that moves nothing and is not enabled. -/
structure ChannelStopped (port c : Nat) (t : State) : Prop where
  moving : t.dmaMoving port c = []
  enable : t.dmaFld fHI_DMA_CTL_ENABLE port c = 0

/-- One channel's part of the abort of a port (R276). -/
def State.channelAbort (s : State) (port c : Nat) (link : Bool) : State :=
  let n := (s.dmaMoving port c).length
  let u := (List.range n).foldl (fun (v : State) _ => v.dmaFail port c) s
  let u := if link ∧ n ≠ 0 then u.setDmaFld fHI_DMA_TAIL_INDEX port c (u.ringAdd port c (u.dmaFld fHI_DMA_TAIL_INDEX port c) n) else u
  ((u.setDmaMoving port c []).setDmaFld fHI_DMA_CTL_ENABLE port c 0).setDmaFld fHI_DMA_CTL_IDLE port c 1

theorem State.dmaAbort_eq (port : Nat) (link : Bool) :
    s.dmaAbort port link = s.each (List.range 4) fun c t => t.channelAbort port c link := rfl

/-- What every step of a list keeps and one of them reaches holds in the end. -/
theorem State.each_reaches {α : Type} {P : State → Prop} {f : α → State → State} {x : α} {l : List α} (hx : x ∈ l)
    (hf : ∀ t, P (f x t)) (hk : ∀ y t, P t → P (f y t)) : P (s.each l f) := by
  induction l generalizing s with
  | nil => exact absurd hx List.not_mem_nil
  | cons y l ih =>
    rcases List.mem_cons.mp hx with rfl | h
    · exact State.each_induct P l f (fun y _ t => hk y t) (hf s)
    · exact ih (f y s) h

/-- A descriptor that fails changes its channel's HI_DMA_CTL and is recorded (R275). -/
theorem Only.dmaFail {c : Change} {s : State} (port n : Nat) (hr : ∀ y i, c.regs .HI_DMA_CTL y i = true) (h : c.Records) :
    Only c s (s.dmaFail port n) :=
  ((Only.setFld _ _ _ _ fun y _ => hr y _).trans (Only.setFld _ _ _ _ fun y _ => hr y _)).trans (Only.event _ _ _ _ h)

/-- A channel's abort changes its registers and the channels, and is recorded. -/
theorem Only.channelAbort {c : Change} {s : State} (port n : Nat) (link : Bool) (hr : ∀ y i, c.regs .HI_DMA_CTL y i = true)
    (ht : ∀ y i, c.regs .HI_DMA_TAIL y i = true) (hd : c.dma = true) (h : c.Records) :
    Only c s (s.channelAbort port n link) := by
  unfold State.channelAbort
  extract_lets k u v
  have hu : Only c s u :=
    List.foldlRecOn (motive := Only c s) _ _ (Only.refl c s) fun t k _ _ => k.trans (Only.dmaFail port n hr h)
  have hv : Only c s v := Only.ite (hu.trans (Only.setFld _ _ _ _ fun y _ => ht y _)) hu
  exact ((hv.trans (Only.setDmaMoving _ _ _ hd)).trans (Only.setFld _ _ _ _ fun y _ => hr y _)).trans
    (Only.setFld _ _ _ _ fun y _ => hr y _)

/-- The abort of a port changes its channels and their registers, and is recorded. -/
theorem Only.dmaAbort {c : Change} {s : State} (port : Nat) (link : Bool) (hr : ∀ y i, c.regs .HI_DMA_CTL y i = true)
    (ht : ∀ y i, c.regs .HI_DMA_TAIL y i = true) (hd : c.dma = true) (h : c.Records) : Only c s (s.dmaAbort port link) :=
  Only.each _ _ (fun n _ _ => Only.channelAbort port n link hr ht hd h) s

namespace ChannelStopped

variable {port c : Nat} {s t : State}

theorem of_only {e : Change} (h : ChannelStopped port c s) (k : Only e s t) (hr : e.regs .HI_DMA_CTL 60 (port * 4 + c) = false)
    (hd : e.dma = false) : ChannelStopped port c t :=
  ⟨(State.dmaMoving_congr (k.dma_eq hd) port c).trans h.moving, (State.fld_congr (k.1 _ _ _ hr)).trans h.enable⟩

theorem setDmaFld {f : RField} (h : ChannelStopped port c s) (y x : Nat)
    (hf : f.reg = .HI_DMA_CTL ∧ 0 < f.lo ∨ .HI_DMA_CTL ≠ f.reg) : ChannelStopped port c (s.setDmaFld f port y x) := by
  refine ⟨h.moving, Eq.trans ?_ h.enable⟩
  rcases hf with ⟨hr, hl⟩ | hf
  · exact s.fld_setFld_disjoint hr.symm (.inl hl) _ _ _ _ _
  · exact s.fld_setFld_name hf _ _ _ _ _

theorem disable (h : ChannelStopped port c s) (y : Nat) : ChannelStopped port c (s.setDmaFld fHI_DMA_CTL_ENABLE port y 0) := by
  refine ⟨h.moving, ?_⟩
  by_cases hy : c = y
  · subst hy
    exact s.fld_setFld_fits _ _ (by decide) (by decide)
  · refine (State.fld_congr ?_).trans h.enable
    rw [State.setDmaFld, State.setFld, State.reg_setReg, if_neg fun k => hy (Nat.add_left_cancel k.2.2)]

theorem dmaFail (h : ChannelStopped port c s) (y : Nat) : ChannelStopped port c (s.dmaFail port y) :=
  ((h.setDmaFld y 1 (.inl ⟨rfl, by decide⟩)).disable y).of_only (Only.event _ _ _ _ (Change.records_recording {})) rfl rfl

theorem clear (h : ChannelStopped port c s) (y : Nat) : ChannelStopped port c (s.setDmaMoving port y []) := by
  refine ⟨?_, h.enable⟩
  rw [State.dmaMoving_setDmaMoving, h.moving, ite_self]

/-- The abort of any channel of the port keeps a stopped one stopped. -/
theorem channelAbort (link : Bool) (h : ChannelStopped port c s) (y : Nat) :
    ChannelStopped port c (s.channelAbort port y link) := by
  unfold State.channelAbort
  extract_lets n u v
  have hu : ChannelStopped port c u :=
    List.foldlRecOn (motive := ChannelStopped port c) _ _ h fun t k _ _ => k.dmaFail y
  have hv : ChannelStopped port c v := by
    simp only [v]
    split
    · exact hu.setDmaFld y _ (.inr (by decide))
    · exact hu
  exact ((hv.clear y).disable y).setDmaFld y 1 (.inl ⟨rfl, by decide⟩)

/-- The abort of a channel stops it. -/
theorem of_channelAbort (s : State) (port c : Nat) (link : Bool) : ChannelStopped port c (s.channelAbort port c link) := by
  unfold State.channelAbort
  extract_lets n u v
  set a := v.setDmaMoving port c []
  have ha : ChannelStopped port c (a.setDmaFld fHI_DMA_CTL_ENABLE port c 0) :=
    ⟨v.dmaMoving_setDmaMoving_self port c [], a.fld_setFld_fits _ _ (by decide) (by decide)⟩
  exact ha.setDmaFld c 1 (.inl ⟨rfl, by decide⟩)

/-- The abort of a port stops each of its channels (R276). -/
theorem of_dmaAbort (s : State) (port : Nat) (link : Bool) (hc : c < 4) : ChannelStopped port c (s.dmaAbort port link) := by
  rw [s.dmaAbort_eq]
  exact s.each_reaches (List.mem_range.mpr hc) (fun t => of_channelAbort t port c link) fun y t h => h.channelAbort link y

end ChannelStopped

/-! ## Resets -/

/-- Freeing locks changes the locks and records it (R405). -/
theorem Only.freeLocks {c : Change} {s : State} (p : Nat → Bool) (hl : ∀ y i, c.regs .LK_LOCK y i = true) (h : c.Records) :
    Only c s (s.freeLocks p) :=
  Only.each _ _ (fun i _ t => Only.ite ((Only.setWfld _ _ _ fun y => hl y i).trans (Only.wevent _ _ _ _ h)) (Only.refl c t)) s

/-- A reset is shown in WD_RST_STAT and recorded (R526). -/
theorem Only.resetRan {c : Change} {s : State} (k : RstKind) (unit cause : Nat) (hs : ∀ y i, c.regs .WD_RST_STAT y i = true)
    (h : c.Records) : Only c s (s.resetRan k unit cause) :=
  ((Only.setWfld _ _ _ fun y => hs y _).trans (Only.setWfld _ _ _ fun y => hs y _)).trans (Only.wevent _ _ _ _ h)

/-- WD_RST_STAT shows the kind and the cause of the reset that ran (R526). -/
theorem State.wfld_resetRan (k : RstKind) (unit : Nat) {cause : Nat} (hc : cause < 16) :
    (s.resetRan k unit cause).wfld fWD_RST_STAT_KIND 0 = k.code ∧ (s.resetRan k unit cause).wfld fWD_RST_STAT_CAUSE 0 = cause := by
  set a := s.setWfld fWD_RST_STAT_KIND 0 k.code
  set b := a.setWfld fWD_RST_STAT_CAUSE 0 cause
  have h : Spares [.WD_RST_STAT, .WD_ROLE] [] b (s.resetRan k unit cause) := (Spares.refl b).wevent
  have hk : k.code < 2 ^ 4 := by cases k <;> decide
  refine ⟨(h.wfld 0).trans ?_, (h.wfld 0).trans (a.wfld_setWfld_fits (by decide) 0 (by decide) hc)⟩
  exact (a.wfld_setWfld_disjoint (by decide) (by rfl) (by decide) 0 cause).trans
    (s.wfld_setWfld_fits (by decide) 0 (by decide) hk)

/-- The frame of what ends a PORT reset: locks, and WD_RST_STAT. -/
def portResetEnd : Change := Change.recording { regs := regsOf [.LK_LOCK, .WD_RST_STAT] }

theorem State.hostPortReset_eq (port cause : Nat) :
    s.hostPortReset port cause =
      (((s.dmaAbort port false).resetRegs (fun r d i => d == 60 && inHostPort port r i) portKeeps).freeLocks
        fun o => o == 0x8000 + port).resetRan .port (hostUnit port) cause := rfl

/-- A PORT reset's steps: the channels abort, the port's block is reset, and the reset is shown. -/
theorem State.hostPortReset_ends (port cause : Nat) :
    Only portResetEnd ((s.dmaAbort port false).resetRegs (fun r d i => d == 60 && inHostPort port r i) portKeeps)
      (s.hostPortReset port cause) := by
  rw [State.hostPortReset_eq]
  exact (Only.freeLocks _ (fun _ _ => rfl) (Change.records_recording _)).trans
    (Only.resetRan _ _ _ (fun _ _ => rfl) (Change.records_recording _))

/-- A PORT reset leaves a register of the port's block that keeps no field at its reset value (Table RST-2). -/
theorem State.reg_hostPortReset {port i : Nat} (cause : Nat) {r : Reg} (hin : inHostPort port r i = true)
    (hhome : regHome r 60 = 60) (hkeep : keepMask r portKeeps = 0) (hend : portResetEnd.regs r 60 i = false) :
    (s.hostPortReset port cause).reg r 60 i = regReset r 60 i := by
  rw [(s.hostPortReset_ends port cause).1 r 60 i hend,
    State.reg_resetRegs_of_sel _ r 60 i (by simp [hhome, hin]) hkeep, hhome]

theorem State.dmaMoving_resetRegs (sel : Reg → Nat → Nat → Bool) (keep : Cls → Bool) (port c : Nat) :
    (s.resetRegs sel keep).dmaMoving port c = s.dmaMoving port c := rfl

theorem State.lat_resetRegs (sel : Reg → Nat → Nat → Bool) (keep : Cls → Bool) (l : Lat) (d i : Nat) :
    (s.resetRegs sel keep).lat l d i = s.lat l d i := rfl

/-- What a PORT reset leaves of a host port (R269, R276). -/
theorem State.hostPortReset_leaves (port : Nat) {cause : Nat} (hc : cause < 16) :
    (s.hostPortReset port cause).wfld fWD_RST_STAT_KIND 0 = 6 ∧ (s.hostPortReset port cause).wfld fWD_RST_STAT_CAUSE 0 = cause ∧
      (∀ r ∈ [Reg.HI_BAR2_BASE, .HI_LINK_STAT], (s.hostPortReset port cause).reg r 60 port = regReset r 60 port) ∧
      ∀ c : Nat, c < 4 → (s.hostPortReset port cause).dmaMoving port c = [] ∧
        ∀ r ∈ [Reg.HI_DMA_BASE, .HI_DMA_CTL, .HI_DMA_HEAD, .HI_DMA_TAIL],
          (s.hostPortReset port cause).reg r 60 (port * 4 + c) = regReset r 60 (port * 4 + c) := by
  have hran : (s.hostPortReset port cause).wfld fWD_RST_STAT_KIND 0 = 6 ∧
      (s.hostPortReset port cause).wfld fWD_RST_STAT_CAUSE 0 = cause := by
    rw [State.hostPortReset_eq]
    exact State.wfld_resetRan _ .port (hostUnit port) hc
  obtain ⟨hkind, hcause⟩ := hran
  refine ⟨hkind, hcause, fun r hr => ?_, fun c hlt => ⟨?_, fun r hr => ?_⟩⟩
  · simp only [List.mem_cons, List.not_mem_nil, or_false] at hr
    rcases hr with rfl | rfl <;> exact s.reg_hostPortReset cause (by simp [inHostPort]) (by decide) (by decide) rfl
  · rw [State.dmaMoving_congr ((s.hostPortReset_ends port cause).dma_eq rfl), State.dmaMoving_resetRegs]
    exact (ChannelStopped.of_dmaAbort s port false hlt).moving
  · have hin : (port * 4 + c) / 4 = port := by omega
    simp only [List.mem_cons, List.not_mem_nil, or_false] at hr
    rcases hr with rfl | rfl | rfl | rfl <;>
      exact s.reg_hostPortReset cause (by simp [inHostPort, hin]) (by decide) (by decide) rfl

/-- A PORT reset leaves the latches alone that are not the recorder's. -/
theorem State.lat_hostPortReset (port cause : Nat) {l : Lat} (hl : l ∉ recorderLats) (d i : Nat) :
    (s.hostPortReset port cause).lat l d i = s.lat l d i := by
  have hrec : ∀ c : Change, c.lats = (fun _ _ _ => false) → c.recording.lats l d i = false := fun c hc => by
    simp [Change.recording, orLat, latsOf, hc, hl]
  have hab : Only (Change.recording { regs := regsOf [.HI_DMA_CTL, .HI_DMA_TAIL], dma := true }) s (s.dmaAbort port false) :=
    Only.dmaAbort port false (fun _ _ => rfl) (fun _ _ => rfl) rfl (Change.records_recording _)
  rw [(s.hostPortReset_ends port cause).2.1 l d i (hrec _ rfl), State.lat_resetRegs, hab.2.1 l d i (hrec _ rfl)]

/-- PCIE1_PERST_N asserted is a PORT reset (R269). -/
theorem pcie1Perst_completes :
    Completes .pcie1Perst s fun t =>
      t.lat .perst 1 0 = 1 ∧ t.wfld fWD_RST_STAT_KIND 0 = 6 ∧ t.wfld fWD_RST_STAT_CAUSE 0 = 1 ∧
        (∀ r ∈ [Reg.HI_BAR2_BASE, .HI_LINK_STAT], t.reg r 60 1 = regReset r 60 1) ∧
        ∀ c : Nat, c < 4 → t.dmaMoving 1 c = [] ∧ ∀ r ∈ [Reg.HI_DMA_BASE, .HI_DMA_CTL, .HI_DMA_HEAD, .HI_DMA_TAIL],
          t.reg r 60 (1 * 4 + c) = regReset r 60 (1 * 4 + c) :=
  .of_next rfl ⟨(State.lat_hostPortReset _ 1 1 (by decide) 1 0).trans (s.lat_setLat_self _ _ _ _),
    State.hostPortReset_leaves _ 1 (by decide)⟩

/-- A hot reset is a PORT reset (R269). -/
theorem pcieHotReset_completes (port : Nat) (hp : port < 2) :
    Completes (.pcieHotReset port) s fun t =>
      t.wfld fWD_RST_STAT_KIND 0 = 6 ∧ t.wfld fWD_RST_STAT_CAUSE 0 = 5 ∧
        (∀ r ∈ [Reg.HI_BAR2_BASE, .HI_LINK_STAT], t.reg r 60 port = regReset r 60 port) ∧
        ∀ c : Nat, c < 4 → t.dmaMoving port c = [] ∧ ∀ r ∈ [Reg.HI_DMA_BASE, .HI_DMA_CTL, .HI_DMA_HEAD, .HI_DMA_TAIL],
          t.reg r 60 (port * 4 + c) = regReset r 60 (port * 4 + c) :=
  .of_unit rfl (by simpa [isHostPort] using hp) (s.hostPortReset_leaves port (by decide))

/-! ## Links -/

/-- A change of the link may raise its vector. -/
theorem Only.linkChange {c : Change} {s : State} (before : State) (port : Nat) (h : c.Records) :
    Only c s (s.linkChange before port) :=
  Only.ite (Only.refl c s) (Only.raiseMsix _ _ (fun y => h.regs _ (by decide) y _) (h.lats _ (by decide) _ _))

/-- A Function Level Reset stops the channels, answers their ABORTED words, and leaves the package number (R269, R276). -/
theorem functionLevelReset_completes (port : Nat) (link : Bool) (hp : port < 2) :
    Completes (.functionLevelReset port link) s fun t =>
      t.reg .HI_BAR2_BASE 60 port = regReset .HI_BAR2_BASE 60 port ∧ t.flag fHI_LINK_STAT_DEGRADED 60 port = false ∧
        t.pkg = s.pkg ∧ (∀ c : Nat, c < 4 → t.dmaMoving port c = [] ∧ t.dmaFld fHI_DMA_CTL_ENABLE port c = 0) ∧
        (t.reply = ⟨.ok, if link then s.dmaAborted port else []⟩) := by
  refine .of_unit rfl (by simpa [isHostPort] using hp) ?_
  dsimp only
  set a := s.dmaAbort port link
  set b := a.setReg .HI_BAR2_BASE 60 port (regReset .HI_BAR2_BASE 60 port)
  set u := b.setFld fHI_LINK_STAT_DEGRADED 60 port 0
  set v := (u.linkChange s port).freeLocks fun o => o == 0x8000 + port
  have hsa : Only (Change.recording { regs := regsOf [.HI_DMA_CTL, .HI_DMA_TAIL], dma := true }) s a :=
    Only.dmaAbort port link (fun _ _ => rfl) (fun _ _ => rfl) rfl (Change.records_recording _)
  have hbu : Only { regs := regsOf [.HI_LINK_STAT] } b u := Only.setFld _ _ _ _ fun _ _ => rfl
  have hau : Only { regs := regsOf [.HI_BAR2_BASE, .HI_LINK_STAT] } a u :=
    (Only.setReg _ _ _ _ fun _ _ => rfl).trans (Only.setFld _ _ _ _ fun _ _ => rfl)
  have huv : Only (Change.recording { regs := regsOf [.LK_LOCK] }) u v :=
    (Only.linkChange s port (Change.records_recording _)).trans
      (Only.freeLocks _ (fun _ _ => rfl) (Change.records_recording _))
  refine ⟨?_, ?_, ?_, fun c hc => ?_, rfl⟩
  · exact (huv.1 .HI_BAR2_BASE 60 port rfl).trans ((hbu.1 .HI_BAR2_BASE 60 port rfl).trans (a.reg_setReg_self _ _ _ _))
  · exact (State.flag_congr (huv.1 .HI_LINK_STAT 60 port rfl)).trans (b.flag_setFld_zero _ _ (by decide))
  · exact State.fld_congr ((huv.1 .HI_PKG_NUM 60 0 rfl).trans ((hau.1 .HI_PKG_NUM 60 0 rfl).trans (hsa.1 .HI_PKG_NUM 60 0 rfl)))
  · have h := ((ChannelStopped.of_dmaAbort s port link hc).of_only hau rfl rfl).of_only huv rfl rfl
    exact ⟨h.moving, h.enable⟩

end Sys2Proof.Machine
end

section
/-! PROOF. Trained links (R270), the channels' registers and descriptors (R273 to R276), the package number and the window
base (R42, R277). -/

set_option Elab.async false

namespace Sys2Proof.Machine

variable (s : State)

/-- A write reaches a die that is up. -/
theorem State.toDie_up {d : Nat} (h : s.dieUp d = true) (f : State → State) : s.toDie d f = f s := by
  rw [State.toDie, if_pos h]

/-- A number read from a field fits it. -/
theorem State.dmaFld_setDmaFld_getBits {f : RField} (port c : Nat) {v : W64} {hi lo : Nat} (hf : f.hi < 64)
    (hw : hi + 1 - lo = f.hi + 1 - f.lo) : (s.setDmaFld f port c (getBits v hi lo)).dmaFld f port c = getBits v hi lo :=
  s.fld_setFld_fits _ _ hf (hw ▸ getBits_lt v hi lo)

/-! ## Links -/

/-- The fields of HI_LINK_STAT that training writes, each its own (Table LNK-6). -/
def State.linkShown (s : State) (port width speed : Nat) (flit : Bool) : State :=
  (((s.setFld fHI_LINK_STAT_UP 60 port 1).setFld fHI_LINK_STAT_WIDTH 60 port width).setFld fHI_LINK_STAT_SPEED 60 port
    speed).setFld fHI_LINK_STAT_FLIT 60 port flit.toNat

theorem Only.linkShown {c : Change} {s : State} (port width speed : Nat) (flit : Bool)
    (h : ∀ y, regHome .HI_LINK_STAT y = regHome .HI_LINK_STAT 60 → c.regs .HI_LINK_STAT y port = true) :
    Only c s (s.linkShown port width speed flit) :=
  (((Only.setFld _ _ _ _ h).trans (Only.setFld _ _ _ _ h)).trans (Only.setFld _ _ _ _ h)).trans (Only.setFld _ _ _ _ h)

/-- A trained link reads as it was shown, DEGRADED as before. -/
theorem State.linkShown_reads (port : Nat) {width speed : Nat} (flit : Bool) (hw : width < 32) (hs : speed < 16) :
    (s.linkShown port width speed flit).flag fHI_LINK_STAT_UP 60 port = true ∧
      (s.linkShown port width speed flit).fld fHI_LINK_STAT_WIDTH 60 port = width ∧
      (s.linkShown port width speed flit).fld fHI_LINK_STAT_SPEED 60 port = speed ∧
      (s.linkShown port width speed flit).flag fHI_LINK_STAT_FLIT 60 port = flit ∧
      (s.linkShown port width speed flit).flag fHI_LINK_STAT_DEGRADED 60 port = s.flag fHI_LINK_STAT_DEGRADED 60 port := by
  unfold State.linkShown
  set a := s.setFld fHI_LINK_STAT_UP 60 port 1
  set b := a.setFld fHI_LINK_STAT_WIDTH 60 port width
  set u := b.setFld fHI_LINK_STAT_SPEED 60 port speed
  refine ⟨?_, ?_, ?_, ?_, ?_⟩
  · rw [u.flag_setFld_disjoint (by rfl) (by decide), b.flag_setFld_disjoint (by rfl) (by decide),
      a.flag_setFld_disjoint (by rfl) (by decide)]
    exact s.flag_setFld_one _ _ (by decide) (by decide)
  · rw [u.fld_setFld_disjoint (by rfl) (by decide), b.fld_setFld_disjoint (by rfl) (by decide)]
    exact a.fld_setFld_fits _ _ (by decide) hw
  · rw [u.fld_setFld_disjoint (by rfl) (by decide)]
    exact b.fld_setFld_fits _ _ (by decide) hs
  · cases flit
    · exact u.flag_setFld_zero _ _ (by decide)
    · exact u.flag_setFld_one _ _ (by decide) (by decide)
  · rw [u.flag_setFld_disjoint (by rfl) (by decide), b.flag_setFld_disjoint (by rfl) (by decide),
      a.flag_setFld_disjoint (by rfl) (by decide), s.flag_setFld_disjoint (by rfl) (by decide)]

/-- A trained link that is narrow or slow is marked and recorded (R270). -/
def State.linkMarked (s : State) (port width speed : Nat) : State :=
  if width < 16 ∨ speed < 6 then (s.setFld fHI_LINK_STAT_DEGRADED 60 port 1).event 0x3302 .warn (hostUnit port) 0 else s

theorem Only.linkMarked {c : Change} {s : State} (port width speed : Nat)
    (h : ∀ y, regHome .HI_LINK_STAT y = regHome .HI_LINK_STAT 60 → c.regs .HI_LINK_STAT y port = true) (k : c.Records) :
    Only c s (s.linkMarked port width speed) :=
  Only.ite ((Only.setFld _ _ _ _ h).trans (Only.event _ _ _ _ k)) (Only.refl c s)

/-- Marking a link leaves its other fields alone. -/
theorem State.fld_linkMarked (port width speed : Nat) {f : RField} (hr : f.reg = .HI_LINK_STAT) (hf : 1 < f.lo ∨ f.hi < 1) :
    (s.linkMarked port width speed).fld f 60 port = s.fld f 60 port := by
  unfold State.linkMarked
  split
  · refine ((Spares.refl (rs := [.HI_LINK_STAT]) (ls := []) _).event.fld 60 port (by simp [hr])).trans ?_
    exact s.fld_setFld_disjoint hr (hf.symm.imp id id) _ _ _ _ _
  · rfl

/-- DEGRADED is set where the link is narrow or slow. -/
theorem State.flag_degraded_linkMarked (port width speed : Nat) :
    (s.linkMarked port width speed).flag fHI_LINK_STAT_DEGRADED 60 port =
      (s.flag fHI_LINK_STAT_DEGRADED 60 port || decide (width < 16 ∨ speed < 6)) := by
  unfold State.linkMarked
  split
  · next h =>
    rw [(Spares.refl (rs := [.HI_LINK_STAT]) (ls := []) _).event.flag 60 port, s.flag_setFld_one _ _ (by decide) (by decide),
      decide_eq_true h, Bool.or_true]
  · next h => rw [decide_eq_false h, Bool.or_false]

/-- A link that trained is shown, DEGRADED below x16 or 64 GT/s (R270). -/
theorem hostLinkTrained_completes (port width speed : Nat) (flit : Bool) (hp : port < 2) (hw : width < 32) (hs : speed < 16)
    (hr : s.lat .perst port 0 = 0) (hd : s.dieUp 60 = true) :
    Completes (.hostLinkTrained port width speed flit) s fun t =>
      t.flag fHI_LINK_STAT_UP 60 port = true ∧ t.fld fHI_LINK_STAT_WIDTH 60 port = width ∧
        t.fld fHI_LINK_STAT_SPEED 60 port = speed ∧ t.flag fHI_LINK_STAT_FLIT 60 port = flit ∧
        (t.flag fHI_LINK_STAT_DEGRADED 60 port = (s.flag fHI_LINK_STAT_DEGRADED 60 port || decide (width < 16 ∨ speed < 6))) ∧
        Only (Change.recording { regs := theReg .HI_LINK_STAT 60 port }) s t := by
  have e : exec (.hostLinkTrained port width speed flit) s = ifUnit (isHostPort port)
      (if s.lat .perst port 0 ≠ 0 ∨ !s.dieUp 60 then s
      else ((s.linkShown port width speed flit).linkMarked port width speed).linkChange s port) := rfl
  refine .of_unit e (by simpa [isHostPort] using hp) ?_
  rw [if_neg (by simp [hr, hd])]
  set u := s.linkShown port width speed flit
  set v := u.linkMarked port width speed with hv
  have ht : Only (Change.recording {}) v (v.linkChange s port) := Only.linkChange s port (Change.records_recording _)
  have hreg : (v.linkChange s port).reg .HI_LINK_STAT 60 port = v.reg .HI_LINK_STAT 60 port := ht.1 _ _ _ rfl
  obtain ⟨hup, hwidth, hspeed, hflit, hdeg⟩ := s.linkShown_reads port flit hw hs
  have hown : ∀ y, regHome .HI_LINK_STAT y = regHome .HI_LINK_STAT 60 →
      (Change.recording { regs := theReg .HI_LINK_STAT 60 port }).regs .HI_LINK_STAT y port = true := fun y hy => by
    simp [Change.recording, orReg, theReg, hy]
  have hflag : ∀ f : RField, f.reg = .HI_LINK_STAT → 1 < f.lo ∨ f.hi < 1 →
      (v.linkChange s port).fld f 60 port = u.fld f 60 port := fun f hf hl =>
    (State.fld_congr (by rw [hf]; exact hreg)).trans (u.fld_linkMarked port width speed hf hl)
  refine ⟨?_, (hflag _ rfl (by decide)).trans hwidth, (hflag _ rfl (by decide)).trans hspeed, ?_, ?_, ?_⟩
  · rw [State.flag, hflag _ rfl (by decide)]; exact hup
  · rw [State.flag, hflag _ rfl (by decide)]; exact hflit
  · rw [State.flag_congr hreg, hv, u.flag_degraded_linkMarked port width speed, hdeg]
  · exact ((Only.linkShown port width speed flit hown).trans (Only.linkMarked port width speed hown
      (Change.records_recording _))).trans (Only.linkChange s port (Change.records_recording _))

/-! ## A channel's registers -/

/-- The place of a channel's register in its frame. -/
theorem theReg_self (r : Reg) (d i y : Nat) (h : regHome r y = regHome r d) : theReg r d i r y i = true := by
  simp [theReg, h]

theorem theReg_recording_self (r : Reg) (d i y : Nat) (h : regHome r y = regHome r d) :
    (Change.recording { regs := theReg r d i }).regs r y i = true := by
  simp [Change.recording, orReg, theReg, h]

/-- What a write of HI_DMA_CTL does before ENABLE is looked at: LOG2 is taken, ERR cleared where told (Table LNK-6). -/
def State.dmaCtlTaken (s : State) (port c : Nat) (v : W64) : State :=
  let t := s.setDmaFld fHI_DMA_CTL_LOG2 port c (getBits v 20 16)
  if bitOf v 3 then t.setDmaFld fHI_DMA_CTL_ERR port c 0 else t

theorem State.dmaCtlWrite_eq (port c : Nat) (v : W64) :
    s.dmaCtlWrite port c v =
      if bitOf v 0 then
        if 1 ≤ getBits v 20 16 ∧ getBits v 20 16 ≤ 16 then
          (s.dmaCtlTaken port c v).setDmaFld fHI_DMA_CTL_ENABLE port c 1
        else ((s.dmaCtlTaken port c v).setDmaFld fHI_DMA_CTL_ENABLE port c 0).event 0x3304 .fault (hostUnit port) c
      else (s.dmaCtlTaken port c v).setDmaFld fHI_DMA_CTL_ENABLE port c 0 := rfl

theorem State.log2_dmaCtlTaken (port c : Nat) (v : W64) :
    (s.dmaCtlTaken port c v).dmaFld fHI_DMA_CTL_LOG2 port c = getBits v 20 16 := by
  have h := s.dmaFld_setDmaFld_getBits (f := fHI_DMA_CTL_LOG2) port c (v := v) (hi := 20) (lo := 16) (by decide) rfl
  unfold State.dmaCtlTaken
  dsimp only
  split
  · exact (State.fld_setFld_disjoint _ (by rfl) (by decide) _ _ _ _ _).trans h
  · exact h

theorem Only.dmaCtlTaken {e : Change} {s : State} (port c : Nat) (v : W64)
    (h : ∀ y, regHome .HI_DMA_CTL y = regHome .HI_DMA_CTL 60 → e.regs .HI_DMA_CTL y (port * 4 + c) = true) :
    Only e s (s.dmaCtlTaken port c v) :=
  Only.ite ((Only.setFld _ _ _ _ h).trans (Only.setFld _ _ _ _ h)) (Only.setFld _ _ _ _ h)

/-- ENABLE that is set reads back, LOG2 stays. -/
theorem State.dmaCtl_setEnable {t : State} (port c : Nat) {x n : Nat} (hx : x < 2) (ht : t.dmaFld fHI_DMA_CTL_LOG2 port c = n) :
    (t.setDmaFld fHI_DMA_CTL_ENABLE port c x).dmaFld fHI_DMA_CTL_ENABLE port c = x ∧
      (t.setDmaFld fHI_DMA_CTL_ENABLE port c x).dmaFld fHI_DMA_CTL_LOG2 port c = n :=
  ⟨t.fld_setFld_fits _ _ (by decide) hx, (t.fld_setFld_disjoint (by rfl) (by decide) _ _ _ _ _).trans ht⟩

/-- ENABLE 1 is taken with a LOG2 of 1 to 16 (Table LNK-6). -/
theorem hostDmaEnable_taken (port c : Nat) (v : W64) (hp : port < 2) (hc : c < 4) (hd : s.dieUp 60 = true)
    (hv : bitOf v 0 = true) (h1 : 1 ≤ getBits v 20 16) (h16 : getBits v 20 16 ≤ 16) :
    Completes (.hostDmaEnable port c v) s fun t =>
      t.dmaFld fHI_DMA_CTL_ENABLE port c = 1 ∧ t.dmaFld fHI_DMA_CTL_LOG2 port c = getBits v 20 16 ∧
        Only ({ regs := theReg .HI_DMA_CTL 60 (port * 4 + c) }) s t := by
  refine .of_unit rfl (by simp [isHostPort, hp, hc]) ?_
  rw [if_pos hv, s.toDie_up hd, s.dmaCtlWrite_eq, if_pos hv, if_pos ⟨h1, h16⟩]
  obtain ⟨hen, hlog⟩ := State.dmaCtl_setEnable port c (by decide : 1 < 2) (s.log2_dmaCtlTaken port c v)
  exact ⟨hen, hlog, (Only.dmaCtlTaken port c v (theReg_self _ _ _)).trans (Only.setFld _ _ _ _ (theReg_self _ _ _))⟩

/-- ENABLE 1 is refused with any other LOG2, which is recorded (Table LNK-6). -/
theorem hostDmaEnable_refused (port c : Nat) (v : W64) (hp : port < 2) (hc : c < 4) (hd : s.dieUp 60 = true)
    (hv : bitOf v 0 = true) (hlog2 : getBits v 20 16 = 0 ∨ 16 < getBits v 20 16) :
    Completes (.hostDmaEnable port c v) s fun t =>
      t.dmaFld fHI_DMA_CTL_ENABLE port c = 0 ∧ t.dmaFld fHI_DMA_CTL_LOG2 port c = getBits v 20 16 ∧
        Only (Change.recording { regs := theReg .HI_DMA_CTL 60 (port * 4 + c) }) s t := by
  refine .of_unit rfl (by simp [isHostPort, hp, hc]) ?_
  rw [if_pos hv, s.toDie_up hd, s.dmaCtlWrite_eq, if_pos hv, if_neg (by omega)]
  obtain ⟨hen, hlog⟩ := State.dmaCtl_setEnable port c (by decide : 0 < 2) (s.log2_dmaCtlTaken port c v)
  have hev := (Spares.refl (rs := [.HI_DMA_CTL]) (ls := [])
    ((s.dmaCtlTaken port c v).setDmaFld fHI_DMA_CTL_ENABLE port c 0)).event (code := 0x3304) (sev := .fault)
      (unit := hostUnit port) (payload := c)
  refine ⟨(hev.fld 60 _).trans hen, (hev.fld 60 _).trans hlog, ?_⟩
  exact ((Only.dmaCtlTaken port c v (theReg_recording_self _ _ _)).trans
    (Only.setFld _ _ _ _ (theReg_recording_self _ _ _))).trans (Only.event _ _ _ _ (Change.records_recording _))

/-- ENABLE 0 leaves the moving descriptors moving (R276). -/
theorem hostDmaDisable_completes (port c : Nat) (v : W64) (hp : port < 2) (hc : c < 4) (hd : s.dieUp 60 = true)
    (hv : bitOf v 0 = false) :
    Completes (.hostDmaDisable port c v) s fun t =>
      t.dmaFld fHI_DMA_CTL_ENABLE port c = 0 ∧ t.dmaMoving port c = s.dmaMoving port c ∧
        Only ({ regs := theReg .HI_DMA_CTL 60 (port * 4 + c) }) s t := by
  have hno : ¬ bitOf v 0 = true := by simp [hv]
  refine .of_unit rfl (by simp [isHostPort, hp, hc]) ?_
  rw [if_neg hno, s.toDie_up hd, s.dmaCtlWrite_eq, if_neg hno]
  have hframe : Only { regs := theReg .HI_DMA_CTL 60 (port * 4 + c) } s
      ((s.dmaCtlTaken port c v).setDmaFld fHI_DMA_CTL_ENABLE port c 0) :=
    (Only.dmaCtlTaken port c v (theReg_self _ _ _)).trans (Only.setFld _ _ _ _ (theReg_self _ _ _))
  exact ⟨State.fld_setFld_fits _ _ _ (by decide) (by decide), State.dmaMoving_congr (hframe.dma_eq rfl) port c, hframe⟩

/-- HEAD takes its index (R273). -/
theorem hostDmaHeadWrite_completes (port c : Nat) (v : W64) (hp : port < 2) (hc : c < 4) (hd : s.dieUp 60 = true) :
    Completes (.hostDmaHeadWrite port c v) s fun t =>
      t.dmaFld fHI_DMA_HEAD_INDEX port c = getBits v 15 0 ∧ Only ({ regs := theReg .HI_DMA_HEAD 60 (port * 4 + c) }) s t := by
  refine .of_unit rfl (by simp [isHostPort, hp, hc]) ?_
  rw [s.toDie_up hd]
  exact ⟨s.dmaFld_setDmaFld_getBits port c (by decide) rfl, Only.setFld _ _ _ _ (theReg_self _ _ _)⟩

/-- An enabled channel takes its next posted descriptor and is not IDLE (R273). -/
theorem hostDmaDescStart_completes (port c : Nat) (desc : W256) (hp : port < 2) (hc : c < 4) (hd : s.dieUp 60 = true)
    (hen : s.dmaFld fHI_DMA_CTL_ENABLE port c = 1) (hpost : (s.dmaMoving port c).length < s.dmaPosted port c) :
    Completes (.hostDmaDescStart port c desc) s fun t =>
      t.dmaMoving port c = s.dmaMoving port c ++ [desc] ∧ t.dmaFld fHI_DMA_CTL_IDLE port c = 0 ∧
        Only ({ regs := theReg .HI_DMA_CTL 60 (port * 4 + c), dma := true }) s t := by
  refine .of_unit rfl (by simp [isHostPort, hp, hc]) ?_
  rw [if_pos ⟨hd, hen, hpost⟩]
  exact ⟨s.dmaMoving_setDmaMoving_self port c _, State.fld_setFld_fits _ _ _ (by decide) (by decide),
    (Only.setDmaMoving _ _ _ rfl).trans (Only.setFld _ _ _ _ (theReg_self _ _ _))⟩

/-- A stopped channel that moves nothing shows IDLE (R276). -/
theorem hostDmaIdle_completes (port c : Nat) (hp : port < 2) (hc : c < 4) (hen : s.dmaFld fHI_DMA_CTL_ENABLE port c = 0)
    (hm : s.dmaMoving port c = []) :
    Completes (.hostDmaIdle port c) s fun t =>
      t.dmaFld fHI_DMA_CTL_IDLE port c = 1 ∧ Only ({ regs := theReg .HI_DMA_CTL 60 (port * 4 + c) }) s t := by
  refine .of_unit rfl (by simp [isHostPort, hp, hc]) ?_
  rw [if_pos ⟨hen, by simp [hm]⟩]
  exact ⟨s.fld_setFld_fits _ _ (by decide) (by decide), Only.setFld _ _ _ _ (theReg_self _ _ _)⟩

/-! ## The package number and the window base -/

/-- HI_PKG_NUM takes a write while no warp port is ACTIVE (R277). -/
theorem hiPkgNumWrite_taken (port : Nat) (v : W64) (hp : port < 2) (hd : s.dieUp 60 = true)
    (hw : ∀ p : Nat, p < 16 → s.wpFld fWP_PORT_STAT_STATE p ≠ 4) :
    Completes (.hiPkgNumWrite port v) s fun t =>
      t.pkg = getBits v 11 0 ∧ Only ({ regs := theReg .HI_PKG_NUM 60 0 }) s t := by
  refine .of_unit rfl (by simpa [isHostPort] using hp) ?_
  rw [s.toDie_up hd, if_neg (by simpa using hw)]
  exact ⟨s.fld_setFld_fits _ _ (by decide) (getBits_lt v 11 0), Only.setFld _ _ _ _ (theReg_self _ _ _)⟩

/-- HI_PKG_NUM takes no write while a warp port is ACTIVE, and the write is recorded (R277). -/
theorem hiPkgNumWrite_refused (port p : Nat) (v : W64) (hp : port < 2) (hd : s.dieUp 60 = true) (hlt : p < 16)
    (hw : s.wpFld fWP_PORT_STAT_STATE p = 4) :
    Completes (.hiPkgNumWrite port v) s fun t => t.pkg = s.pkg ∧ Only (Change.recording {}) s t := by
  refine .of_unit rfl (by simpa [isHostPort] using hp) ?_
  rw [s.toDie_up hd, if_pos (by simpa using ⟨p, hlt, hw⟩)]
  exact ⟨(Spares.refl (rs := [.HI_PKG_NUM]) (ls := []) s).event.fld 60 0, Only.event _ _ _ _ (Change.records_recording _)⟩

/-- HI_BAR2_BASE takes its writable bits (R42). -/
theorem hiBar2BaseWrite_completes (port : Nat) (v : W64) (hp : port < 2) (hd : s.dieUp 60 = true) :
    Completes (.hiBar2BaseWrite port v) s fun t =>
      t.reg .HI_BAR2_BASE 60 port = v &&& (maskOf 63 36 ||| 1) ∧ Only ({ regs := theReg .HI_BAR2_BASE 60 port }) s t := by
  refine .of_unit rfl (by simpa [isHostPort] using hp) ?_
  rw [s.toDie_up hd]
  exact ⟨s.reg_setReg_self _ _ _ _, Only.setReg _ _ _ _ (theReg_self _ _ _)⟩

end Sys2Proof.Machine
end

section
/-! PROOF. Descriptors of a DMA channel that complete with STATUS DONE (R273 to R275), and the host port commands
together. -/

set_option Elab.async false

namespace Sys2Proof.Machine

variable (s : State) (port c : Nat) (w : W256) (rest : List W256)

/-! ## How a descriptor ends -/

/-- TAIL passes the oldest moving descriptor (R273). -/
def State.tailPassed : State :=
  let t := s.setDmaMoving port c rest
  t.setDmaFld fHI_DMA_TAIL_INDEX port c (t.ringAdd port c (t.dmaFld fHI_DMA_TAIL_INDEX port c) 1)

/-- A descriptor that is done raises its vector where told, and the last one leaves an enabled channel IDLE (R274, R276). -/
def State.dmaDone : State :=
  let t := if dmaIrq w then s.raiseMsix port (2 + c) else s
  if rest.isEmpty ∧ t.dmaFld fHI_DMA_CTL_ENABLE port c = 1 then t.setDmaFld fHI_DMA_CTL_IDLE port c 1 else t

theorem State.dmaEnd_done (bs : List Byte) :
    s.dmaEnd port c 1 w rest bs = ((s.tailPassed port c rest).dmaDone port c w rest).answer .ok (bs ++ leBytes 2 1) := rfl

variable {s port c w rest}

theorem Only.tailPassed {e : Change}
    (ht : ∀ y, regHome .HI_DMA_TAIL y = regHome .HI_DMA_TAIL 60 → e.regs .HI_DMA_TAIL y (port * 4 + c) = true)
    (hd : e.dma = true) : Only e s (s.tailPassed port c rest) :=
  (Only.setDmaMoving _ _ _ hd).trans (Only.setFld _ _ _ _ ht)

theorem Only.dmaDone {e : Change}
    (hc : ∀ y, regHome .HI_DMA_CTL y = regHome .HI_DMA_CTL 60 → e.regs .HI_DMA_CTL y (port * 4 + c) = true)
    (hp : ∀ y, regHome .HI_MSIX_PBA y = regHome .HI_MSIX_PBA 60 → e.regs .HI_MSIX_PBA y port = true)
    (hl : e.lats .msixSent port (2 + c) = true) : Only e s (s.dmaDone port c w rest) := by
  unfold State.dmaDone
  extract_lets t
  have ht : Only e s t := Only.ite (Only.ite (Only.setReg _ _ _ _ hp) (Only.setLat _ _ _ _ hl)) (Only.refl e s)
  exact Only.ite (ht.trans (Only.setFld _ _ _ _ hc)) ht

/-- The frame of a descriptor's end after TAIL has passed it. -/
def dmaDoneFrame : Change := { regs := regsOf [.HI_DMA_CTL, .HI_MSIX_PBA], lats := latsOf [.msixSent] }

theorem Only.dmaDone_frame : Only dmaDoneFrame s (s.dmaDone port c w rest) :=
  Only.dmaDone (fun _ _ => rfl) (fun _ _ => rfl) rfl

/-- A descriptor that is done has left its channel. -/
theorem State.dmaMoving_dmaEnd_done (bs : List Byte) : (s.dmaEnd port c 1 w rest bs).dmaMoving port c = rest := by
  rw [State.dmaEnd_done, State.dmaMoving_congr (State.dma_answer _ _ _), State.dmaMoving_congr (Only.dmaDone_frame.dma_eq rfl)]
  exact s.dmaMoving_setDmaMoving_self port c rest

/-- TAIL is one slot on in the ring (R273). -/
theorem State.tail_dmaEnd_done (bs : List Byte) :
    (s.dmaEnd port c 1 w rest bs).dmaFld fHI_DMA_TAIL_INDEX port c =
      s.ringAdd port c (s.dmaFld fHI_DMA_TAIL_INDEX port c) 1 % 65536 := by
  rw [State.dmaEnd_done, State.dmaFld, State.fld_answer, State.fld_congr (Only.dmaDone_frame.1 .HI_DMA_TAIL 60 _ rfl)]
  exact (s.setDmaMoving port c rest).fld_setFld_self _ _ _ _ (by decide)

/-- The end of a descriptor leaves memory alone. -/
theorem State.byte_dmaEnd_done (bs : List Byte) (a : Nat) : (s.dmaEnd port c 1 w rest bs).byte a = s.byte a := by
  have h : Only { regs := regsOf [.HI_DMA_TAIL], dma := true } s (s.tailPassed port c rest) :=
    Only.tailPassed (fun _ _ => rfl) rfl
  rw [State.dmaEnd_done, State.byte_answer, Only.dmaDone_frame.2.2.1 a rfl, h.2.2.1 a rfl]

/-! ## How a move is served -/

/-- A move of no bytes is done at once. -/
theorem State.dmaMove_empty {data : Option (List Byte)} (hb : dmaBad w = false) (hlen : dmaLen w = 0) :
    s.dmaMove port w data = (1, [], s) := by
  unfold State.dmaMove
  rw [hb, if_neg Bool.false_ne_true, if_pos hlen]

/-- A served move to the host gives the bytes read (R274). -/
theorem State.dmaMove_toHost {data : Option (List Byte)} (hb : dmaBad w = false) (hlen : dmaLen w ≠ 0)
    (hdir : dmaToHost w = true) (hok : (s.moveRead (asHost port) (dmaSysAddr w) (dmaLen w)).1 = .ok) :
    s.dmaMove port w data = (1, (s.moveRead (asHost port) (dmaSysAddr w) (dmaLen w)).2) := by
  unfold State.dmaMove
  rw [hb, if_neg Bool.false_ne_true, if_neg hlen, if_pos hdir]
  dsimp only
  rw [hok, if_neg (by decide), State.noteUnpopulated, if_neg (by decide)]
  rfl

/-- A served move from the host has written the host's bytes (R274). -/
theorem State.dmaMove_fromHost {bs : List Byte} (hb : dmaBad w = false) (hlen : dmaLen w ≠ 0) (hdir : dmaToHost w = false)
    (hbs : dmaLen w ≤ bs.length)
    (hok : (s.moveWrite (asHost port) (dmaSysAddr w) (bs.take (dmaLen w))).1 = .ok) :
    s.dmaMove port w (some bs) = (1, [], (s.moveWrite (asHost port) (dmaSysAddr w) (bs.take (dmaLen w))).2) := by
  unfold State.dmaMove
  rw [hb, if_neg Bool.false_ne_true, if_neg hlen, hdir, if_neg Bool.false_ne_true]
  dsimp only
  rw [if_neg (Nat.not_lt.mpr hbs), hok, if_neg (by decide), State.noteUnpopulated, if_neg (by decide)]
  rfl

/-- A descriptor without a doorbell rings none. -/
theorem State.dmaBell_none (h : dmaDbe w = false) : s.dmaBell port w = s := by
  rw [State.dmaBell, h, if_neg Bool.false_ne_true]

/-- The oldest moving descriptor, its move served and its doorbell not held, rings it and ends DONE (R274). -/
theorem hostDmaDescComplete_done {data : Option (List Byte)} {bs : List Byte} {u : State} {P : State → Prop} (hp : port < 2)
    (hc : c < 4) (hm : s.dmaMoving port c = w :: rest) (hbell : (dmaDbe w && s.bellHeld (hostUnit port) (dmaTarget w)) = false)
    (hmove : s.dmaMove port w data = (1, bs, u)) (h : P ((u.dmaBell port w).dmaEnd port c 1 w rest bs)) :
    Completes (.hostDmaDescComplete port c data) s P := by
  refine .of_unit rfl (by simp [isHostPort, hp, hc]) ?_
  have e : s.dmaComplete port c w rest data = (u.dmaBell port w).dmaEnd port c 1 w rest bs := by
    rw [State.dmaComplete, hbell, if_neg Bool.false_ne_true, hmove]
    rfl
  rw [hm]
  dsimp only
  rw [e]
  exact h

/-- A served move to the host ends DONE with its data (R274). -/
theorem hostDmaDescComplete_toHost (data : Option (List Byte)) (hp : port < 2) (hc : c < 4)
    (hm : s.dmaMoving port c = w :: rest) (hb : dmaBad w = false)
    (hbell : (dmaDbe w && s.bellHeld (hostUnit port) (dmaTarget w)) = false) (hdir : dmaToHost w = true) (hlen : dmaLen w ≠ 0)
    (hok : (s.moveRead (asHost port) (dmaSysAddr w) (dmaLen w)).1 = .ok) :
    Completes (.hostDmaDescComplete port c data) s fun t =>
      t.dmaMoving port c = rest ∧
        t.reply = ⟨.ok, (s.moveRead (asHost port) (dmaSysAddr w) (dmaLen w)).2.1 ++ leBytes 2 1⟩ :=
  hostDmaDescComplete_done hp hc hm hbell (State.dmaMove_toHost hb hlen hdir hok) ⟨State.dmaMoving_dmaEnd_done _, rfl⟩

/-- A served move from the host ends DONE with the host's bytes written (R274). -/
theorem hostDmaDescComplete_fromHost (bs : List Byte) (hp : port < 2) (hc : c < 4) (hm : s.dmaMoving port c = w :: rest)
    (hb : dmaBad w = false) (hdbe : dmaDbe w = false) (hdir : dmaToHost w = false) (hlen : dmaLen w ≠ 0)
    (hbs : dmaLen w ≤ bs.length) (hok : (s.moveWrite (asHost port) (dmaSysAddr w) (bs.take (dmaLen w))).1 = .ok) :
    Completes (.hostDmaDescComplete port c (some bs)) s fun t =>
      t.dmaMoving port c = rest ∧ t.reply = ⟨.ok, leBytes 2 1⟩ ∧
        (∀ a : Nat, t.byte a = (s.moveWrite (asHost port) (dmaSysAddr w) (bs.take (dmaLen w))).2.byte a) := by
  refine hostDmaDescComplete_done hp hc hm (by rw [hdbe]; rfl) (State.dmaMove_fromHost hb hlen hdir hbs hok) ?_
  rw [State.dmaBell_none hdbe]
  exact ⟨State.dmaMoving_dmaEnd_done _, rfl, State.byte_dmaEnd_done _⟩

/-- A descriptor of no bytes ends DONE, and TAIL passes it (R273). -/
theorem hostDmaDescComplete_empty (data : Option (List Byte)) (hp : port < 2) (hc : c < 4)
    (hm : s.dmaMoving port c = w :: rest) (hb : dmaBad w = false) (hdbe : dmaDbe w = false) (hlen : dmaLen w = 0) :
    Completes (.hostDmaDescComplete port c data) s fun t =>
      t.dmaMoving port c = rest ∧ t.reply = ⟨.ok, leBytes 2 1⟩ ∧
        t.dmaFld fHI_DMA_TAIL_INDEX port c = s.ringAdd port c (s.dmaFld fHI_DMA_TAIL_INDEX port c) 1 % 65536 ∧
        Only ({ regs := orReg (regsIn [.HI_DMA_CTL, .HI_DMA_TAIL] 60 (port * 4 + c)) (theReg .HI_MSIX_PBA 60 port), lats := latsOf [.msixSent], dma := true, reply := true }) s t := by
  refine hostDmaDescComplete_done hp hc hm (by rw [hdbe]; rfl) (State.dmaMove_empty hb hlen) ?_
  rw [State.dmaBell_none hdbe]
  refine ⟨State.dmaMoving_dmaEnd_done _, rfl, State.tail_dmaEnd_done _, ?_⟩
  rw [State.dmaEnd_done]
  refine ((Only.tailPassed (fun y hy => ?_) rfl).trans (Only.dmaDone (fun y hy => ?_) (fun y hy => ?_) rfl)).trans
    (Only.answer _ _ rfl)
  · simp [orReg, regsIn, hy]
  · simp [orReg, regsIn, hy]
  · simp [orReg, theReg, hy]

/-- Settles O20, command by command. -/
theorem hostPortCommandsComplete : Obligations.HostPortCommandsComplete := by
  unfold Obligations.HostPortCommandsComplete
  exact ⟨pcie1Perst_completes, fun port s => pcieHotReset_completes s port,
    fun port link s => functionLevelReset_completes s port link,
    fun port width speed flit s => hostLinkTrained_completes s port width speed flit,
    fun port c v s => hostDmaEnable_taken s port c v, fun port c v s => hostDmaEnable_refused s port c v,
    fun port c v s => hostDmaDisable_completes s port c v, fun port c v s => hostDmaHeadWrite_completes s port c v,
    fun port c desc s => hostDmaDescStart_completes s port c desc,
    fun _ _ _ _ data _ => hostDmaDescComplete_toHost data,
    fun _ _ _ _ bs _ => hostDmaDescComplete_fromHost bs,
    fun _ _ _ _ data _ => hostDmaDescComplete_empty data,
    fun port c s => hostDmaIdle_completes s port c, fun port v s => hiPkgNumWrite_taken s port v,
    fun port p v s => hiPkgNumWrite_refused s port p v, fun port v s => hiBar2BaseWrite_completes s port v⟩

end Sys2Proof.Machine
end

section
/-! PROOF. What the operations on the members of a ply leave to read: their registers, their architectural state, and
that the members themselves stay the same. -/

set_option Elab.async false

namespace Sys2Proof.Machine

variable {c : Change} {s t u : State}

/-! ## The members within a frame -/

/-- Within a frame a field of a register it does not name is as it was. -/
theorem Only.spFld (h : Only c s t) {f : RField} {k : Nat} (hr : c.regs f.reg (spDie k) (spIdx k) = false) :
    t.spFld f k = s.spFld f k := State.fld_congr (h.1 _ _ _ hr)

/-- Within a frame a flag of a register it does not name is as it was. -/
theorem Only.spFlag (h : Only c s t) {f : RField} {k : Nat} (hr : c.regs f.reg (spDie k) (spIdx k) = false) :
    t.spFlag f k = s.spFlag f k := State.flag_congr (h.1 _ _ _ hr)

/-- Within a frame a latch it does not name is as it was. -/
theorem Only.lat (h : Only c s t) {l : Lat} {d i : Nat} (hl : c.lats l d i = false) : t.lat l d i = s.lat l d i :=
  h.2.1 l d i hl

/-- Within a frame the bytes it does not name are as they were. -/
theorem Only.byte (h : Only c s t) {a : Nat} (ha : c.mem a = false) : t.byte a = s.byte a := h.2.2.1 a ha

/-- Within a frame a spindle it does not name is as it was. -/
theorem Only.spin (h : Only c s t) {k : Nat} (hk : c.spins k = false) : t.spin k = s.spin k := h.2.2.2.1 k hk

theorem Only.plies_eq (h : Only c s t) (hp : c.plies = false) : t.plies = s.plies := by
  obtain ⟨-, -, -, -, -, h, -⟩ := h
  exact h hp

theorem Only.flaws_eq (h : Only c s t) (hf : c.flaws = false) : t.flaws = s.flaws := by
  obtain ⟨-, -, -, -, -, -, -, -, -, -, -, -, -, -, -, -, -, -, h, -⟩ := h
  exact h hf

/-- A frame leaves the plies and the package's number alone. -/
structure Change.KeepsPlies (c : Change) : Prop where
  plies : c.plies = false
  pkg : c.regs .HI_PKG_NUM 60 0 = false

theorem Only.pkg_eq (h : Only c s t) (k : c.KeepsPlies) : t.pkg = s.pkg := State.fld_congr (h.1 _ _ _ k.pkg)

theorem Only.plyOf_eq (h : Only c s t) (k : c.KeepsPlies) (sp : Nat) : t.plyOf sp = s.plyOf sp := by
  have e : t.inPly sp = s.inPly sp := by funext p; simp only [State.inPly, h.pkg_eq k]
  rw [State.plyOf, State.plyOf, e, h.plies_eq k.plies]

theorem Only.mates_eq (h : Only c s t) (k : c.KeepsPlies) (sp : Nat) : t.mates sp = s.mates sp :=
  State.mates_congr sp (h.plies_eq k.plies) (h.pkg_eq k)

theorem Only.plyStopped_eq (h : Only c s t) (k : c.KeepsPlies) (sp : Nat) : t.plyStopped sp = s.plyStopped sp := by
  simp only [State.plyStopped, h.plyOf_eq k]

/-- Between the states of such a frame what a word may change by retiring is the same. -/
theorem Only.wordFrame_eq (h : Only c s t) (k : c.KeepsPlies) (sp : Nat) : t.wordFrame sp = s.wordFrame sp := by
  simp only [State.wordFrame, h.plyStopped_eq k, h.mates_eq k]

/-- What a word may change by retiring leaves the plies alone. -/
theorem State.wordFrame_keepsPlies (s : State) (sp : Nat) : (s.wordFrame sp).KeepsPlies :=
  ⟨rfl, by simp only [State.wordFrame, regsOf]; split <;> rfl⟩

/-! ## A spindle in no ply of more than one -/

section
variable {sp : Nat} (h : s.inRealPly sp = false)
include h

theorem State.mates_single : s.mates sp = [(0, sp)] := by
  unfold State.inRealPly at h
  unfold State.mates
  split
  · next p e => rw [e] at h; exact if_neg (of_decide_eq_false h)
  · rfl

theorem State.isLead_single : s.isLead sp = true := by
  unfold State.inRealPly at h
  unfold State.isLead
  split
  · next p e => rw [e] at h; simp [Nat.not_lt.mp (of_decide_eq_false h)]
  · rfl

theorem State.plyStopped_single : s.plyStopped sp = false := by
  unfold State.inRealPly at h
  unfold State.plyStopped
  split
  · next p e => rw [e] at h; exact Bool.and_eq_false_imp.mpr fun _ => h
  · rfl

theorem State.updMates_single (f : Spin → Spin) : s.updMates sp f = s.updSpin sp f := by
  rw [State.updMates, State.mates_single h]; rfl

theorem State.setMatesFld_single (f : RField) (x : Nat) : s.setMatesFld f sp x = s.setSpFld f sp x := by
  rw [State.setMatesFld, State.mates_single h]; rfl

theorem State.retire_single (pc : Nat) : s.retire sp pc = s.passWord sp pc := by
  simp [State.retire, State.plyStopped_single h]

/-- Its only member is named where the frame names it. -/
theorem Change.OfMates.single {r : Reg} (k : ∀ x, regHome r x = regHome r (spDie sp) → c.regs r x (spIdx sp) = true) :
    c.OfMates s sp r := by
  unfold Change.OfMates
  rw [State.mates_single h]
  simpa using k

end

/-- What happens at a spindle, where only its own member changes, is in no ply of more than one if it was not. -/
theorem Only.inRealPly_eq (h : Only c s t) (k : c.KeepsPlies) (sp : Nat) : t.inRealPly sp = s.inRealPly sp := by
  simp only [State.inRealPly, h.plyOf_eq k]

/-! ## Fields -/

/-- Another field, of another register or of other bits, is left alone. -/
theorem State.fld_setFld_other {f g : RField} (h : g.reg ≠ f.reg ∨ g.hi < f.lo ∨ f.hi < g.lo) (d e i j x : Nat) :
    (s.setFld f d i x).fld g e j = s.fld g e j := by
  by_cases hr : g.reg = f.reg
  · exact s.fld_setFld_disjoint hr (h.resolve_left (not_not_intro hr)) d e i j x
  · exact s.fld_setFld_name hr d e i j x

theorem State.spFld_setSpFld_self {f : RField} (k x : Nat) (hf : f.hi < 64) :
    (s.setSpFld f k x).spFld f k = x % 2 ^ (f.hi + 1 - f.lo) := s.fld_setFld_self f _ _ x hf

theorem State.spFld_setSpFld_other {f g : RField} (h : g.reg ≠ f.reg ∨ g.hi < f.lo ∨ f.hi < g.lo) (m k x : Nat) :
    (s.setSpFld f m x).spFld g k = s.spFld g k := State.fld_setFld_other h ..

/-- A field that reads a value reads it still after the value is set in whatever member. -/
theorem State.spFld_setSpFld_again {f : RField} {k x : Nat} (hf : f.hi < 64)
    (h : s.spFld f k = x % 2 ^ (f.hi + 1 - f.lo)) (m : Nat) :
    (s.setSpFld f m x).spFld f k = x % 2 ^ (f.hi + 1 - f.lo) := by
  rw [← h]
  simp only [State.spFld, State.setSpFld, State.fld, State.setFld, State.reg_setReg]
  split
  · rw [getBits_setBits _ _ _ _ hf]; exact h.symm
  · rfl

/-- A field that is set in every member reads the value in each. -/
theorem State.spFld_setMatesFld {f : RField} {sp x : Nat} (hf : f.hi < 64) {m : Nat × Nat} (hm : m ∈ s.mates sp) :
    (s.setMatesFld f sp x).spFld f m.2 = x % 2 ^ (f.hi + 1 - f.lo) :=
  State.each_reaches s (P := fun t => t.spFld f m.2 = x % 2 ^ (f.hi + 1 - f.lo)) hm
    (fun _ => State.spFld_setSpFld_self _ _ hf) fun y _ h => State.spFld_setSpFld_again hf h y.2

theorem State.spFld_setMatesFld_other {f g : RField} (h : g.reg ≠ f.reg ∨ g.hi < f.lo ∨ f.hi < g.lo) (sp k x : Nat) :
    (s.setMatesFld f sp x).spFld g k = s.spFld g k :=
  State.each_keeps (fun t => t.spFld g k) (s.mates sp) (fun m t => t.setSpFld f m.2 x)
    (fun m _ _ => State.spFld_setSpFld_other h m.2 k x) s

/-- A flag that reads as a field that is 1 is set. -/
theorem State.spFlag_of_fld {f : RField} {k : Nat} (h : s.spFld f k = 1) : s.spFlag f k = true := by
  simp only [State.spFlag, State.flag, State.spFld] at *; rw [h]; rfl

theorem State.spFlag_of_fld_zero {f : RField} {k : Nat} (h : s.spFld f k = 0) : s.spFlag f k = false := by
  simp only [State.spFlag, State.flag, State.spFld] at *; rw [h]; rfl

/-- A change of the members' architectural state leaves the registers alone. -/
@[simp] theorem State.reg_updMates (s : State) (sp : Nat) (f : Spin → Spin) (r : Reg) (d i : Nat) :
    (s.updMates sp f).reg r d i = s.reg r d i :=
  State.each_keeps (fun t => t.reg r d i) (s.mates sp) (fun m t => t.updSpin m.2 f) (fun _ _ _ => rfl) s

@[simp] theorem State.spFld_updMates (sp : Nat) (f : Spin → Spin) (g : RField) (k : Nat) :
    (s.updMates sp f).spFld g k = s.spFld g k := State.fld_congr (s.reg_updMates ..)

@[simp] theorem State.spin_setMatesFld (f : RField) (sp x k : Nat) : (s.setMatesFld f sp x).spin k = s.spin k :=
  State.each_keeps (fun t => t.spin k) (s.mates sp) (fun m t => t.setSpFld f m.2 x) (fun _ _ _ => rfl) s

/-! ## Architectural state -/

/-- A part of the architectural state that a change leaves alone is as it was. -/
theorem State.spin_updSpin_keeps {β : Type} (p : Spin → β) {f : Spin → Spin} (h : ∀ x, p (f x) = p x) (m k : Nat) :
    p ((s.updSpin m f).spin k) = p (s.spin k) := by
  rw [State.spin_updSpin]
  split
  · next e => rw [h, e]
  · rfl

/-- What a change of every member makes true of a spindle's state is true of each member's. -/
theorem State.spin_updMates_of {P : Spin → Prop} {f : Spin → Spin} (h : ∀ x, P (f x)) {sp : Nat} {m : Nat × Nat}
    (hm : m ∈ s.mates sp) : P ((s.updMates sp f).spin m.2) :=
  State.each_reaches s (P := fun t => P (t.spin m.2)) hm (fun _ => by rw [State.spin_updSpin_self]; exact h _) fun y t k => by
    rw [State.spin_updSpin]
    split
    · exact h _
    · exact k

/-- Of changes of a list that each concern their own part of the state, one is felt once. -/
theorem State.each_at {α β : Type} (g : State → β) (key : α → Nat) {l : List α} (hl : (l.map key).Nodup)
    {f : α → State → State} {F : β → β} {x : α} (hx : x ∈ l) (hs : ∀ t, g (f x t) = F (g t))
    (ho : ∀ y ∈ l, key y ≠ key x → ∀ t, g (f y t) = g t) (s : State) : g (s.each l f) = F (g s) := by
  induction l generalizing s with
  | nil => exact absurd hx List.not_mem_nil
  | cons y l ih =>
    obtain ⟨hy, hl⟩ := List.nodup_cons.mp hl
    rcases List.mem_cons.mp hx with rfl | h
    · refine (State.each_keeps g l f (fun z hz => ho z (List.mem_cons_of_mem _ hz) fun e => hy ?_) _).trans (hs s)
      exact e ▸ List.mem_map_of_mem hz
    · refine (ih hl h (fun z hz => ho z (List.mem_cons_of_mem _ hz)) (f y s)).trans ?_
      rw [ho y List.mem_cons_self fun e => hy (e ▸ List.mem_map_of_mem h)]

end Sys2Proof.Machine
end

section
/-! PROOF. Retiring a word (R52, R55, R58, R174): what it leaves to read in every member and what it leaves alone; and the
queue, p0 and the ends of a WAIT (R45, R57, R76, R77). -/

set_option Elab.async false

namespace Sys2Proof.Machine

variable {c : Change} {s t u : State} {sp pc : Nat}

/-! ## The queue and p0 -/

/-- Settles O1. -/
theorem frontCommandRuns : Obligations.FrontCommandRuns := by
  unfold Obligations.FrontCommandRuns
  exact fun _ _ _ => rfl

/-- Settles O4: a command that completes keeps the queue, as it keeps canonical memory (`Keeps`). -/
theorem commandsLeaveTheQueue : Obligations.CommandsLeaveTheQueue := by
  unfold Obligations.CommandsLeaveTheQueue
  exact fun _ _ _ h => (Keeps.exec_next h).pending

/-- Settles O7: a word's outcome is its effect once its stream, its decoding and its predicate let it. -/
theorem predicateZeroReadsOne : Obligations.PredicateZeroReadsOne := by
  unfold Obligations.PredicateZeroReadsOne
  refine ⟨fun _ _ => if_pos rfl, fun _ => if_pos rfl, fun s sp pc w eff hs hd hp => ?_⟩
  simp only [State.wordOutcome, hs, hd, hp, Spin.getP, if_true]

/-! ## What leaving the spool changes -/

/-- What retiring changes, whatever the ply: the members' PC, count and control, and the words under way. -/
def retireFrame : Change :=
  { regs := regsOf [.SPN_PC, .SPN_RETIRED, .SPN_STAT, .SPN_CTL], lats := latsOf [.stepDone, .cleared], spins := fun _ => true }

/-- A frame that names the members and their registers allows what a word may change by retiring. -/
theorem State.wordFrame_le (hr : ∀ r ∈ [Reg.SPN_PC, .SPN_RETIRED, .SPN_STAT, .SPN_CTL], ∀ d i, c.regs r d i = true)
    (hl : ∀ l ∈ [Lat.stepDone, .cleared], ∀ d i, c.lats l d i = true) (hs : ∀ m ∈ s.mates sp, c.spins m.2 = true) :
    (s.wordFrame sp).Le c := by
  constructor
  case regs =>
    intro r d i h
    refine hr r ?_ d i
    simp only [State.wordFrame, regsOf] at h
    split at h <;> simp at h ⊢ <;> tauto
  case lats => exact fun l d i h => hl l (by simpa [State.wordFrame, latsOf] using h) d i
  case spins =>
    intro k h
    obtain ⟨m, hm, e⟩ := List.any_eq_true.mp h
    exact beq_iff_eq.mp e ▸ hs m hm
  all_goals simp [State.wordFrame]

/-- Retiring stays within the members and their registers. -/
theorem Only.retire_wordFrame (s : State) (sp pc : Nat) : Only (s.wordFrame sp) s (s.retire sp pc) := by
  have hr : ∀ r ∈ [Reg.SPN_PC, .SPN_RETIRED], ∀ d i, (s.wordFrame sp).regs r d i = true := fun r h d i => by
    simp only [State.wordFrame, regsOf]; split <;> simp at h ⊢ <;> tauto
  have hs : s.plyStopped sp = true → ∀ r ∈ [Reg.SPN_STAT, .SPN_CTL], ∀ d i, (s.wordFrame sp).regs r d i = true :=
    fun k r h d i => by simp only [State.wordFrame, regsOf, k]; simp at h ⊢; tauto
  exact Only.retire sp pc (fun _ _ _ _ => hr _ (by decide) _ _) (fun _ _ _ _ => hr _ (by decide) _ _)
    (fun m hm => List.any_eq_true.mpr ⟨m, hm, by simp⟩) (fun _ => rfl) rfl
    fun k => ⟨fun _ _ _ _ => hs k _ (by decide) _ _, fun _ _ _ _ => hs k _ (by decide) _ _⟩

theorem Only.retire_frame (s : State) (sp pc : Nat) : Only retireFrame s (s.retire sp pc) :=
  (Only.retire_wordFrame s sp pc).mono
    (State.wordFrame_le (fun _ h _ _ => by simpa [retireFrame, regsOf] using h)
      (fun _ h _ _ => by simpa [retireFrame, latsOf] using h) fun _ _ => rfl)

/-- A word that ends after changes in a frame is in the frame, where that names the members and their registers. -/
theorem Only.endWord_within (h : Only c s u) (k : c.KeepsPlies) (w : (s.wordFrame sp).Le c) (pc : Nat) :
    Only c s (u.endWord sp pc) :=
  h.trans ((Only.endWord_wordFrame sp pc).mono (h.wordFrame_eq k sp ▸ w))

/-- A frame allows itself. -/
theorem Change.Le.refl (c : Change) : c.Le c := by constructor <;> intros <;> assumption

/-- A word whose effect stays within its members and their registers ends within them. -/
theorem Only.endWord_of_wordFrame (h : Only (s.wordFrame sp) s u) (pc : Nat) : Only (s.wordFrame sp) s (u.endWord sp pc) :=
  h.endWord_within (s.wordFrame_keepsPlies sp) (Change.Le.refl _) pc

/-- A change of every member stays within them. -/
theorem Only.updMates_wordFrame (s : State) (sp : Nat) (f : Spin → Spin) : Only (s.wordFrame sp) s (s.updMates sp f) :=
  Only.updMates sp f fun m hm => List.any_eq_true.mpr ⟨m, hm, by simp⟩

/-! ## What retiring leaves to read -/

/-- A member's state once its oldest word has left the spool: younger words that changed in bank 0 go with it (R53). -/
def State.passed (s : State) (sp pc : Nat) (x : Spin) : Spin :=
  { x with spool := s.freshWords sp (s.lat .cleared sp 0 - 1) (x.spool.drop 1), replays := 0, overrun := decide (pc = 16384) }

/-- A word leaves the spool in one member after the other. -/
theorem State.passWord_eq (s : State) (sp pc : Nat) :
    s.passWord sp pc = (s.each (s.mates sp) fun m t =>
      (((t.setSpFld fSPN_PC_WORD m.2 pc).incFld fSPN_RETIRED_COUNT (spDie m.2) (spIdx m.2) 1).updSpin m.2
        (s.passed sp pc)).setLat .stepDone m.2 0 (t.spFld fSPN_CTL_STEP m.2)).setLat
        .cleared sp 0 (s.lat .cleared sp 0 - 1) := rfl

/-- Distinct spindles have distinct places. -/
theorem eq_of_place {a b : Nat} (hd : spDie a = spDie b) (hi : spIdx a = spIdx b) : a = b := by
  unfold spDie spIdx at *; omega

/-- Halting leaves other registers than the members' state and control, and the architectural state, alone. -/
def haltFrame : Change := { regs := regsOf [.SPN_STAT, .SPN_CTL], lats := latsOf [.stepDone] }

theorem Only.halted_frame (s : State) (sp : Nat) : Only haltFrame s (s.halted sp) :=
  Only.halted sp (fun _ _ _ _ => rfl) (fun _ _ _ _ => rfl) fun _ => rfl

/-- What leaving the spool and halting both leave, retiring leaves. -/
theorem State.retire_induct {P : State → Prop} (hp : P (s.passWord sp pc)) (hh : ∀ t, P t → P (t.halted sp)) :
    P (s.retire sp pc) := by
  unfold State.retire
  dsimp only
  split
  · exact hh _ hp
  · exact hp

/-- After a word retires every member's PC shows the next index (R52, R174). -/
theorem State.pc_retire {m : Nat × Nat} (hm : m ∈ s.mates sp) :
    (s.retire sp pc).spFld fSPN_PC_WORD m.2 = pc % 16384 := by
  refine State.retire_induct (P := fun t => t.spFld fSPN_PC_WORD m.2 = pc % 16384) ?_
    fun t h => ((Only.halted_frame t sp).spFld rfl).trans h
  rw [State.passWord_eq]
  refine State.each_reaches s (P := fun t => t.spFld fSPN_PC_WORD m.2 = pc % 16384) hm (fun t => ?_) fun y t h => ?_
  · exact (State.fld_setFld_name _ (by decide) ..).trans (State.spFld_setSpFld_self _ _ (by decide))
  · exact (State.fld_setFld_name _ (by decide) ..).trans (State.spFld_setSpFld_again (by decide) h y.2)

/-- After a word retires the rest of the spool, the replays and the end of the stream are renewed in every member. -/
theorem State.spin_retire (hn : ((s.mates sp).map fun x => x.2).Nodup) {m : Nat × Nat} (hm : m ∈ s.mates sp) :
    (s.retire sp pc).spin m.2 = s.passed sp pc (s.spin m.2) := by
  refine State.retire_induct (P := fun t => t.spin m.2 = _) ?_ fun t h => ((Only.halted_frame t sp).spin rfl).trans h
  rw [State.passWord_eq]
  refine State.each_at (·.spin m.2) (fun x => x.2) hn hm (F := s.passed sp pc) (fun t => ?_) (fun y _ h t => ?_) s
  · rw [State.spin_setLat, State.spin_updSpin_self]
    rfl
  · rw [State.spin_setLat, State.spin_updSpin_ne _ h.symm]
    rfl

/-- A retired word is counted once in every member (R58). -/
theorem State.retired_retire (hn : ((s.mates sp).map fun x => x.2).Nodup) {m : Nat × Nat} (hm : m ∈ s.mates sp) :
    (s.retire sp pc).reg .SPN_RETIRED (spDie m.2) (spIdx m.2) = s.reg .SPN_RETIRED (spDie m.2) (spIdx m.2) + 1 := by
  refine State.retire_induct (P := fun t => t.reg .SPN_RETIRED (spDie m.2) (spIdx m.2) = _) ?_
    fun t h => ((Only.halted_frame t sp).1 _ _ _ rfl).trans h
  rw [State.passWord_eq]
  refine State.each_at (fun t => t.reg .SPN_RETIRED (spDie m.2) (spIdx m.2)) (fun x => x.2) hn hm (F := (· + 1))
    (fun t => ?_) (fun y _ h t => ?_) s
  · refine (State.reg_incFld_all (f := fSPN_RETIRED_COUNT) _ rfl rfl (spDie m.2) (spIdx m.2)).trans ?_
    exact congrArg (· + 1) (State.reg_setReg_name _ (by decide) ..)
  · refine (State.reg_setReg _ .SPN_RETIRED .SPN_RETIRED ..).trans ?_
    rw [if_neg fun e => h (eq_of_place e.2.1 e.2.2).symm]
    exact State.reg_setReg_name _ (by decide) ..

/-- Settles O13: what `passWord` leaves in a member, which the halt of a stopped ply spares. -/
theorem retiredWordsMoveOn : Obligations.RetiredWordsMoveOn := by
  unfold Obligations.RetiredWordsMoveOn
  exact fun s sp pc hn _ => ⟨fun m hm => ⟨State.pc_retire hm, State.retired_retire hn hm, State.spin_retire hn hm⟩,
    Only.retire_wordFrame s sp pc⟩

end Sys2Proof.Machine
end

section
/-! PROOF. WAIT (R75 to R77): how it ends, and what its end changes. -/

set_option Elab.async false

namespace Sys2Proof.Machine

variable {c : Change} {s t u : State} {sp pc : Nat} {w : W256}

/-- What the end of a WAIT writes before the word retires: the doorbells left, its destinations and RUNNING (R75). -/
def State.waitEnded (s : State) (sp : Nat) (w : W256) (hit : Option Nat) : State :=
  ((s.setSpFld fSPN_DB_PEND_PEND sp (s.spFld fSPN_DB_PEND_PEND sp &&& (0xFFFFFFFF ^^^ hit.getD 0))).updMates sp fun x =>
    (x.setG (wGC w) (BitVec.ofNat 64 (hit.getD 0))).setP (wPD w) hit.isSome).setMatesFld fSPN_STAT_STATE sp 3

theorem State.endWait_eq (hit : Option Nat) : s.endWait sp w pc hit = (s.waitEnded sp w hit).retire sp (pc + 1) := rfl

/-- The members and their registers that the end of a WAIT changes. -/
def State.waitFrame (s : State) (sp : Nat) : Change :=
  { s.wordFrame sp with regs := regsOf [.SPN_PC, .SPN_RETIRED, .SPN_STAT, .SPN_CTL, .SPN_DB_PEND] }

theorem State.waitFrame_keepsPlies (s : State) (sp : Nat) : (s.waitFrame sp).KeepsPlies := ⟨rfl, rfl⟩

theorem Only.waitEnded (hit : Option Nat) : Only (s.waitFrame sp) s (s.waitEnded sp w hit) := by
  have ha : Only (s.waitFrame sp) s
      (s.setSpFld fSPN_DB_PEND_PEND sp (s.spFld fSPN_DB_PEND_PEND sp &&& (0xFFFFFFFF ^^^ hit.getD 0))) :=
    Only.setFld _ _ _ _ fun _ _ => rfl
  refine (ha.trans (Only.updMates sp _ fun m hm => ?_)).trans (Only.setMatesFld _ _ _ fun _ _ _ _ => rfl)
  rw [ha.mates_eq (s.waitFrame_keepsPlies sp)] at hm
  exact List.any_eq_true.mpr ⟨m, hm, by simp⟩

/-- Retiring after changes in a frame is in the frame, where that names the members and their registers. -/
theorem Only.retire_within (h : Only c s u) (k : c.KeepsPlies) (w : (s.wordFrame sp).Le c) (pc : Nat) :
    Only c s (u.retire sp pc) :=
  h.trans ((Only.retire_wordFrame u sp pc).mono (h.wordFrame_eq k sp ▸ w))

/-- A frame that names the registers of members, and otherwise what a word may change by retiring, allows that. -/
theorem State.wordFrame_le_regs {rs : List Reg} (h : ∀ r ∈ [Reg.SPN_PC, .SPN_RETIRED, .SPN_STAT, .SPN_CTL], r ∈ rs) :
    (s.wordFrame sp).Le { s.wordFrame sp with regs := regsOf rs } :=
  State.wordFrame_le (fun r hr _ _ => by simpa [regsOf] using h r hr)
    (fun _ hl _ _ => by simpa [State.wordFrame, latsOf] using hl) fun m hm => List.any_eq_true.mpr ⟨m, hm, by simp⟩

/-- The end of a WAIT stays within the members and the doorbells. -/
theorem Only.endWait (hit : Option Nat) : Only (s.waitFrame sp) s (s.endWait sp w pc hit) :=
  (Only.waitEnded hit).retire_within (s.waitFrame_keepsPlies sp) (State.wordFrame_le_regs (by decide)) _

/-- A WAIT that matched no bit leaves the pending bits (R77). -/
theorem State.pend_endWait_zero : (s.endWait sp w pc (some 0)).spFld fSPN_DB_PEND_PEND sp = s.spFld fSPN_DB_PEND_PEND sp := by
  have hlt : s.spFld fSPN_DB_PEND_PEND sp < 2 ^ 32 := getBits_lt _ _ _
  have hu : (s.waitEnded sp w (some 0)).spFld fSPN_DB_PEND_PEND sp = s.spFld fSPN_DB_PEND_PEND sp := by
    rw [State.waitEnded, State.spFld_setMatesFld_other (by decide)]
    rw [State.spFld_updMates, State.spFld_setSpFld_self _ _ (by decide)]
    change (s.spFld fSPN_DB_PEND_PEND sp &&& (2 ^ 32 - 1)) % 2 ^ 32 = _
    rw [Nat.and_two_pow_sub_one_eq_mod, Nat.mod_mod, Nat.mod_eq_of_lt hlt]
  exact ((Only.retire_frame _ sp (pc + 1)).spFld rfl).trans hu

/-- An empty mask never matches in mode ANY (R77). -/
theorem State.waitMatch_any_empty (hm : bitsOf ((s.spin sp).getG (wGA w)) 31 0 = 0) (ha : wMODE w = false) :
    s.waitMatch sp w = none := by simp [State.waitMatch, hm, ha]

/-- An empty mask matches at once in mode ALL (R77). -/
theorem State.waitMatch_all_empty (hm : bitsOf ((s.spin sp).getG (wGA w)) 31 0 = 0) (ha : wMODE w = true) :
    s.waitMatch sp w = some 0 := by simp [State.waitMatch, hm, ha]

/-- A WAIT that matches ends at once (R75). -/
theorem execWait_match {h : Nat} (hp : s.performs sp 0x312 w = true) (hm : s.waitMatch sp w = some h) :
    exec (.wait sp w) s = .next (s.endWait sp w (s.headPc sp) (some h)) :=
  wordStep_hold hp (by simp only [waitEff, hm])

/-- A WAIT with a timeout of zero and no match ends by timeout (R76). -/
theorem execWait_timeout (hp : s.performs sp 0x312 w = true) (hm : s.waitMatch sp w = none)
    (hz : (s.spin sp).getG (wGB w) = 0) : exec (.wait sp w) s = .next (s.endWait sp w (s.headPc sp) none) :=
  wordStep_hold hp (by simp only [waitEff, hm, State.gReg, hz, if_true])

/-- The timeout of a WAIT of the spindle that runs the stream, with no halt request, ends it (R75, R76). -/
theorem execWaitTimeout_ends {e : Entry} (hsp : sp < 1536) (hl : s.isLead sp = true) (hst : s.spState sp = 4)
    (hh : s.spFlag fSPN_CTL_HALT sp = false) (he : (s.spin sp).spool.head? = some e)
    (hg : (s.spin sp).getG (wGB e.word) ≠ BitVec.allOnes 64) :
    exec (.waitTimeout sp) s = .next (s.endWait sp e.word e.pc (s.waitMatch sp e.word)) := by
  change execWaitTimeout sp s = _
  simp only [execWaitTimeout, ifUnit, nSpindles, hsp, hl, hst, hh, he, if_neg hg, decide_true, beq_self_eq_true,
    Bool.not_false, Bool.and_self, if_true]

/-- A timeout of all ones never ends a WAIT (R76). -/
theorem execWaitTimeout_unlimited {e : Entry} (hsp : sp < 1536) (he : (s.spin sp).spool.head? = some e)
    (hg : (s.spin sp).getG (wGB e.word) = BitVec.allOnes 64) : exec (.waitTimeout sp) s = .next s := by
  change execWaitTimeout sp s = _
  simp only [execWaitTimeout, he, if_pos hg, ite_self, ifUnit, nSpindles, hsp, decide_true, if_true]

/-- Settles O8: each WAIT ends with the match there is, or by its timeout. -/
theorem waitTimeoutsAndEmptyMasks : Obligations.WaitTimeoutsAndEmptyMasks := by
  unfold Obligations.WaitTimeoutsAndEmptyMasks
  refine ⟨fun s sp w hp hz => ?_, fun s sp e hsp _ he hg => execWaitTimeout_unlimited hsp he hg,
    fun s sp h e hsp hl hst hh he hg hm => hm ▸ execWaitTimeout_ends hsp hl hst hh he hg,
    fun s sp pc w hm => ⟨State.waitMatch_any_empty hm, fun ha => ⟨State.waitMatch_all_empty hm ha, State.pend_endWait_zero⟩⟩⟩
  cases hm : s.waitMatch sp w with
  | some h => exact execWait_match hp hm
  | none => exact execWait_timeout hp hm hz

end Sys2Proof.Machine
end

section
/-! PROOF. C-words (R60, R66, R73, R75, R117 to R123): what each leaves where its spindle performs it. -/

set_option Elab.async false

namespace Sys2Proof.Machine

variable {c : Change} {s t u : State} {sp op : Nat} {w : W256} {eff : State → Nat → Nat → W256 → Perf}

/-! ## Words that retire -/

/-- A word whose effect stays within its members retires within them. -/
theorem wordStep_within {n : Nat} (h : s.performs sp op w = true) (k : eff s sp (s.headPc sp) w = .ok u n)
    (hu : Only (s.wordFrame sp) s u) :
    ∃ t, wordStep op sp w s eff = .next t ∧ t = u.endWord sp n ∧ Only (s.wordFrame sp) s t :=
  ⟨_, wordStep_ok h k, rfl, hu.endWord_of_wordFrame n⟩

/-- The low bits of a register. -/
theorem getBits_low (v : W64) (n : Nat) : getBits v n 0 = v.toNat % 2 ^ (n + 1) := by
  refine Nat.eq_of_testBit_eq fun k => ?_
  rw [testBit_getBits, Nat.testBit_mod_two_pow, BitVec.testBit_toNat, Nat.zero_add, Nat.sub_zero, Bool.and_comm]

theorem brr_completes (h : s.performs sp 0x301 w = true) : Completes (.brr sp w) s fun t =>
    t = s.endWord sp (getBits ((s.spin sp).getG (wGA w)) 13 0) ∧ Only (s.wordFrame sp) s t := by
  rw [getBits_low]
  exact wordStep_within h rfl (Only.refl _ s)

theorem callr_completes (h : s.performs sp 0x303 w = true) : Completes (.callr sp w) s fun t =>
    t = (s.updMates sp fun x => x.setG (wGA w) (BitVec.ofNat 64 (s.headPc sp + 1))).endWord sp
      (getBits ((s.spin sp).getG (wGB w)) 13 0) ∧ Only (s.wordFrame sp) s t := by
  rw [getBits_low]
  exact wordStep_within h rfl (Only.updMates_wordFrame ..)

/-- A LOOP that has count left counts down (R118). -/
theorem loop_counts (h : s.performs sp 0x304 w = true) (hn : (s.spin sp).getG (wGA w) ≠ 0) :
    Completes (.loop sp w) s fun t =>
      t = (s.updMates sp fun x => x.setG (wGA w) ((s.spin sp).getG (wGA w) - 1)).endWord sp
        (if (s.spin sp).getG (wGA w) = 1 then s.headPc sp + 1 else wTARGET w) ∧ Only (s.wordFrame sp) s t :=
  wordStep_within (eff := loopEff) h (if_neg hn) (Only.updMates_wordFrame ..)

/-- A LOOP whose register is 0 falls through (R118). -/
theorem loop_falls (h : s.performs sp 0x304 w = true) (hn : (s.spin sp).getG (wGA w) = 0) :
    Completes (.loop sp w) s fun t => t = s.endWord sp (s.headPc sp + 1) ∧ Only (s.wordFrame sp) s t :=
  wordStep_within (eff := loopEff) h (if_pos hn) (Only.refl _ s)

theorem sync_completes (h : s.performs sp 0x313 w = true) (hc : scopeCause s sp w = []) : Completes (.sync sp w) s fun t =>
    t = s.endWord sp (s.headPc sp + 1) ∧ Only (s.wordFrame sp) s t :=
  wordStep_within (eff := syncEff) h (by simp only [syncEff, hc, lowestCause]) (Only.refl _ s)

/-! ## HALT -/

/-- Every member that halts reads HALTED. -/
theorem State.state_halted {m : Nat × Nat} (hm : m ∈ s.mates sp) : (s.halted sp).spFld fSPN_STAT_STATE m.2 = 2 := by
  refine State.each_reaches s (P := fun t => t.spFld fSPN_STAT_STATE m.2 = 2) hm (fun t => ?_) fun y t h => ?_
  · exact (State.spFld_setSpFld_other (by decide) ..).trans ((State.spFld_setSpFld_other (by decide) ..).trans
      ((State.spFld_setSpFld_other (by decide) ..).trans (State.spFld_setSpFld_self _ _ (by decide))))
  · exact (State.spFld_setSpFld_other (by decide) ..).trans ((State.spFld_setSpFld_other (by decide) ..).trans
      ((State.spFld_setSpFld_other (by decide) ..).trans (State.spFld_setSpFld_again (by decide) h y.2)))

theorem retireFrame_keepsPlies : retireFrame.KeepsPlies := ⟨rfl, rfl⟩

/-- A HALT halts every member at the word after it (R122). -/
theorem halt_completes (h : s.performs sp 0x305 w = true) : Completes (.halt sp w) s fun t =>
    t = (s.retire sp (s.headPc sp + 1)).halted sp ∧
      (∀ x ∈ s.mates sp, t.spFld fSPN_STAT_STATE x.2 = 2 ∧ t.spFld fSPN_PC_WORD x.2 = (s.headPc sp + 1) % 16384) ∧
      Only ({ s.wordFrame sp with regs := regsOf [.SPN_PC, .SPN_RETIRED, .SPN_STAT, .SPN_CTL] }) s t := by
  have hm : (s.retire sp (s.headPc sp + 1)).mates sp = s.mates sp :=
    (Only.retire_frame s sp _).mates_eq retireFrame_keepsPlies sp
  refine ⟨_, wordStep_hold (eff := haltEff) h rfl, rfl, fun x hx => ⟨State.state_halted (hm ▸ hx), ?_⟩, ?_⟩
  · exact ((Only.halted_frame _ sp).spFld rfl).trans (State.pc_retire hx)
  · exact ((Only.retire_wordFrame s sp _).mono (State.wordFrame_le_regs (by decide))).trans
      (Only.halted sp (fun _ _ _ _ => rfl) (fun _ _ _ _ => rfl) fun _ => rfl)

/-! ## DOORBELL -/

/-- A DOORBELL of a checked target whose die serves it delivers its bits (R119). -/
theorem doorbell_completes (h : s.performs sp 0x311 w = true) (hf : dbForm ((s.spin sp).getG (wGA w)) = true)
    (hh : s.bellHeld (s.spUnit sp) ((s.spin sp).getG (wGA w)) = false)
    (hr : s.reachable (dbPkg ((s.spin sp).getG (wGA w))) = true)
    (hs : (s.sendBell sp ((s.spin sp).getG (wGA w))
      (if wMODE w then wIMM32 w else getBits ((s.spin sp).getG (wGB w)) 31 0)).isSome = true) :
    Completes (.doorbell sp w) s fun t =>
      (s.sendBell sp ((s.spin sp).getG (wGA w)) (if wMODE w then wIMM32 w else getBits ((s.spin sp).getG (wGB w)) 31 0)).map
        (fun u => u.endWord sp (s.headPc sp + 1)) = some t := by
  rw [getBits_low] at *
  obtain ⟨u, hu⟩ := Option.isSome_iff_exists.mp hs
  have k : doorbellEff s sp (s.headPc sp) w = .ok u (s.headPc sp + 1) := by
    simp only [doorbellEff, State.gReg, bellCause, hf, hr, Bool.and_self, if_true, lowestCause, hh, Bool.false_eq_true,
      if_false]
    rw [hu]
  exact ⟨_, wordStep_ok h k, by rw [hu]; rfl⟩

/-! ## WAIT -/

/-- A WAIT that neither matches nor has run out waits with its word at the head (R75). -/
theorem wait_waits (h : s.performs sp 0x312 w = true) (hm : s.waitMatch sp w = none) (hz : (s.spin sp).getG (wGB w) ≠ 0) :
    Completes (.wait sp w) s fun t =>
      (∀ x ∈ s.mates sp, t.spFld fSPN_STAT_STATE x.2 = 4) ∧
      (∀ x ∈ s.mates sp, ((t.spin x.2).spool.head?.map fun e => e.pc) =
        ((s.holdHead sp (s.headPc sp) w false).spin x.2).spool.head?.map fun e => e.pc) ∧
      Only ({ s.wordFrame sp with regs := regsOf [.SPN_STAT] }) s t := by
  have hw : Only ({ s.wordFrame sp with regs := regsOf [.SPN_STAT] }) s (s.holdHead sp (s.headPc sp) w false) :=
    Only.updMates sp _ fun m hm => List.any_eq_true.mpr ⟨m, hm, by simp⟩
  refine ⟨_, wordStep_hold (eff := waitEff) h (by simp only [waitEff, hm]; exact if_neg hz), fun x hx => ?_,
    fun x _ => by rw [State.spin_setMatesFld], hw.trans (Only.setMatesFld _ _ _ fun _ _ _ _ => rfl)⟩
  exact State.spFld_setMatesFld (by decide) ((hw.mates_eq ⟨rfl, rfl⟩ sp).symm ▸ hx)

theorem wait_matches {n : Nat} (h : s.performs sp 0x312 w = true) (hm : s.waitMatch sp w = some n) :
    Completes (.wait sp w) s fun t => t = s.endWait sp w (s.headPc sp) (some n) ∧ Only (s.waitFrame sp) s t :=
  ⟨_, execWait_match h hm, rfl, Only.endWait _⟩

theorem wait_timesOut (h : s.performs sp 0x312 w = true) (hm : s.waitMatch sp w = none) (hz : (s.spin sp).getG (wGB w) = 0) :
    Completes (.wait sp w) s fun t => t = s.endWait sp w (s.headPc sp) none ∧ Only (s.waitFrame sp) s t :=
  ⟨_, execWait_timeout h hm hz, rfl, Only.endWait _⟩

/-! ## Exception return -/

/-- RETX in a handler goes on where the exception or interrupt was kept, or past the word of an exception (R66, R73). -/
theorem retx_completes (h : s.performs sp 0x320 w = true) (hi : s.spFlag fSPN_STAT_IN_HANDLER sp = true) :
    Completes (.retx sp w) s fun t =>
      t = (s.setMatesFld fSPN_STAT_IN_HANDLER sp 0).endWord sp
        (s.spFld fSPN_EXC_PC_WORD sp + (if wMODE w ∧ s.spFld fSPN_EXC_CAUSE_CAUSE sp ≠ 0 then 1 else 0)) ∧
      Only ({ s.wordFrame sp with regs := regsOf [.SPN_PC, .SPN_RETIRED, .SPN_STAT, .SPN_CTL] }) s t := by
  have k : retxEff s sp (s.headPc sp) w = .ok (s.setMatesFld fSPN_STAT_IN_HANDLER sp 0)
      (s.spFld fSPN_EXC_PC_WORD sp + (if wMODE w ∧ s.spFld fSPN_EXC_CAUSE_CAUSE sp ≠ 0 then 1 else 0)) := by
    simp only [retxEff, State.returnFromHandler, hi, if_true, Bool.and_eq_true, bne_iff_ne]
    split <;> rfl
  refine ⟨_, wordStep_ok h k, rfl, Only.endWord_within (Only.setMatesFld _ _ _ fun _ _ _ _ => rfl) ⟨rfl, rfl⟩ ?_ _⟩
  exact State.wordFrame_le_regs (by decide)

/-! ## Epochs -/

/-- Retiring leaves the registers of the architectural state alone. -/
theorem State.getG_retire (sp pc k r : Nat) : ((s.retire sp pc).spin k).getG r = (s.spin k).getG r := by
  refine State.retire_induct (P := fun t => (t.spin k).getG r = (s.spin k).getG r) ?_
    fun t h => by rw [(Only.halted_frame t sp).spin rfl, h]
  rw [State.passWord_eq, State.spin_setLat]
  refine State.each_keeps (fun t => (t.spin k).getG r) (s.mates sp) _ (fun m _ t => ?_) s
  rw [State.spin_setLat, State.spin_updSpin_keeps (fun x => x.getG r) (f := s.passed sp pc) (fun _ => rfl) m.2 k]
  rfl

theorem State.getG_endWord (sp pc k r : Nat) : ((s.endWord sp pc).spin k).getG r = (s.spin k).getG r := by
  unfold State.endWord
  split
  · exact State.getG_retire ..
  · rfl

theorem Spin.getG_setG (x : Spin) (k : Nat) (v : W64) : (x.setG k v).getG k = v := sget_sset_self ..

/-- A g register that is set in every member reads the value in each. -/
theorem State.getG_setGs {m : Nat × Nat} (hm : m ∈ s.mates sp) (k : Nat) (v : W64) :
    ((s.setGs sp k v).spin m.2).getG k = v :=
  State.spin_updMates_of (P := fun x => x.getG k = v) (fun x => x.getG_setG k v) hm

/-- An event leaves the architectural state alone. -/
theorem State.spin_wevent (code : Nat) (v : Sev) (x p k : Nat) : (s.wevent code v x p).spin k = s.spin k :=
  (Only.wevent code v x p (Change.records_recording {})).spin rfl

/-- EPOCH of a unit not enrolled gives the epoch before the one in progress, and is recorded (R123). -/
theorem epoch_unenrolled (h : s.performs sp 0x322 w = true) (hn : s.unitEntry sp = none) : Completes (.epoch sp w) s fun t =>
    (∀ x ∈ s.mates sp, (t.spin x.2).getG (wGA w) = BitVec.ofNat 64 s.epochC - 1) ∧
      Only (Change.recording (s.wordFrame sp)) s t := by
  refine ⟨_, wordStep_ok (eff := epochEff) h (by simp only [epochEff, hn]; rfl), fun x hx => ?_, ?_⟩
  · rw [State.getG_endWord, State.spin_wevent, State.getG_setGs hx]
  · refine Only.endWord_within ?_ ⟨rfl, ?_⟩ (Change.le_recording _) _
    · exact ((Only.updMates_wordFrame ..).mono (Change.le_recording _)).trans
        (Only.wevent _ _ _ _ (Change.records_recording _))
    · simp only [Change.recording, orReg, (s.wordFrame_keepsPlies sp).pkg]; rfl

end Sys2Proof.Machine
end

section
/-! PROOF. The frames of writes to memory that mend blocks, of banks that are touched and of the images of an enrolled
unit (R228, R252, R357); and EPOCH of one (R358, R360), with the C-words together. -/

set_option Elab.async false

namespace Sys2Proof.Machine

variable {c : Change} {s t u : State} {sp op : Nat} {w : W256}

/-! ## Memory -/

/-- A write of less than a fragment leaves every error; none but the blocks' state changes otherwise (R228). -/
theorem Only.mend {a n : Nat} (hl : c.losses = true) (hf : c.flaws = true ∨ n < 64) : Only c s (s.mend a n) := by
  have hk : c.flaws = false →
      s.flaws.filter (fun x => !(decide (a ≤ 64 * x.1) && decide (64 * x.1 + 64 ≤ a + n))) = s.flaws := fun h => by
    have hn : n < 64 := hf.resolve_left (by simp [h])
    refine List.filter_eq_self.mpr fun x _ => ?_
    simp only [Bool.not_eq_true', Bool.and_eq_false_iff, decide_eq_false_iff_not]
    omega
  unfold State.mend
  extract_lets t
  have ht : Only c s t := by
    simp only [Only, hl]
    refine ⟨fun _ _ _ _ => rfl, fun _ _ _ _ => rfl, fun _ _ => rfl, fun _ _ => rfl, fun _ _ => rfl, ?_⟩
    simpa [t] using hk
  refine Only.ite ht (ht.trans (Only.each _ _ (fun i _ u => ?_) t))
  simp only [Only, hl]
  exact ⟨fun _ _ _ _ => rfl, fun _ _ _ _ => rfl, fun _ _ => rfl, fun _ _ => rfl, fun _ _ => rfl, by simp⟩

/-! ## Banks -/

/-- The registers and latches of banks, and the recorder. -/
structure Change.Banks (c : Change) : Prop where
  regs : ∀ r ∈ [Reg.CD_BNK_PWR, .WD_BNK_PWR, .CD_BNK_STAT, .WD_BNK_STAT], ∀ d i, c.regs r d i = true
  idle : ∀ d i, c.lats .bankIdle d i = true
  records : c.Records

theorem Only.setBnk (hc : c.Banks) (b : Bank) {cd wd : Reg} (hi lo x : Nat)
    (h : ∀ r ∈ [cd, wd], r ∈ [Reg.CD_BNK_PWR, .WD_BNK_PWR, .CD_BNK_STAT, .WD_BNK_STAT]) : Only c s (s.setBnk b cd wd hi lo x) :=
  Only.putFld _ _ _ _ fun y => hc.regs _ (h _ (by cases b <;> simp [Bank.pick])) y _

theorem Only.setBankOwn (hc : c.Banks) (b : Bank) (x : Nat) : Only c s (s.setBankOwn b x) := Only.setBnk hc b _ _ _ (by decide)

theorem Only.bankUsed (hc : c.Banks) (b : Bank) : Only c s (s.bankUsed b) := by
  cases b with
  | pad sp k => exact Only.setLat _ _ _ _ (hc.idle _ _)
  | sram w k => exact Only.refl c s

/-- Touching a bank may wake it (R252). -/
theorem Only.bankTouch (hc : c.Banks) (b : Bank) : Only c s (s.bankTouch b).2 := by
  have hw : Only c s ((s.setBankReq b 2).setBnkBit b 16) :=
    (Only.setBnk hc b _ _ _ (by decide)).trans (Only.setBnk hc b _ _ _ (by decide))
  unfold State.bankTouch
  split
  · exact Only.refl c s
  split
  · exact Only.bankUsed hc b
  extract_lets t
  have ht : Only c s t := by
    refine Only.ite (Only.refl c s) ?_
    cases b with
    | pad sp k => exact hw.trans (Only.event _ _ _ _ hc.records)
    | sram w k => exact hw
  split
  · exact ht.trans (Only.bankUsed hc b)
  · exact ht.trans (Only.setBankOwn hc b 3)

theorem Only.bankReady (hc : c.Banks) (b : Bank) : Only c s (s.bankReady b) := by
  unfold State.bankReady
  split
  · exact (Only.bankTouch hc b).trans (Only.setBankOwn hc b 2)
  · exact Only.bankTouch hc b

/-! ## Images -/

/-- What writing images changes: the snapshot region's memory, and banks that wake for it (R357). -/
def imageFrame : Change :=
  Change.recording
    { regs := regsOf [.CD_BNK_PWR, .WD_BNK_PWR, .CD_BNK_STAT, .WD_BNK_STAT], lats := latsOf [.bankIdle],
      mem := fun _ => true, losses := true, flaws := true }

theorem imageFrame_banks : imageFrame.Banks where
  regs := fun r h d i => by
    have : regsOf [.CD_BNK_PWR, .WD_BNK_PWR, .CD_BNK_STAT, .WD_BNK_STAT] r d i = true := by simpa [regsOf] using h
    simp [imageFrame, Change.recording, orReg, this]
  idle := fun _ _ => rfl
  records := Change.records_recording _

theorem Only.rgnWrite (d k off : Nat) (bs : List Byte) : Only imageFrame s (s.rgnWrite d k off bs) :=
  Only.each _ _ (fun _ _ _ => (Only.setBytes _ _ fun _ _ _ => rfl).trans (Only.mend rfl (.inl rfl))) s

theorem Only.writeImage (i ident m q e pc : Nat) (x : Spin) : Only imageFrame s (s.writeImage i ident m q e pc x) :=
  ((Only.each _ _ (fun _ _ _ => Only.bankReady imageFrame_banks _) s).trans (Only.rgnWrite ..)).trans
    (Only.each _ _ (fun _ _ _ => Only.rgnWrite ..) _)

theorem Only.writeImages (i e : Nat) (pc : State → Nat → Nat) (f : Spin → Spin) : Only imageFrame s (s.writeImages i e pc f) :=
  Only.each _ _ (fun _ _ _ => Only.writeImage ..) s

/-! ## EPOCH of an enrolled unit -/

/-- The word under way is the head of every member's spool. -/
theorem State.started_holdHead {pc : Nat} {m : Nat × Nat} (hm : m ∈ s.mates sp) :
    ((s.holdHead sp pc w true).spin m.2).spool.head?.map (fun e => e.started) = some true :=
  State.spin_updMates_of (P := fun x => x.spool.head?.map (fun e => e.started) = some true)
    (fun x => by cases x.spool <;> rfl) hm

/-- A change of the members' architectural state leaves the active warden's registers alone. -/
theorem State.wfld_updMates (f : Spin → Spin) (g : RField) (i : Nat) : (s.updMates sp f).wfld g i = s.wfld g i := by
  have ha : (s.updMates sp f).aw = s.aw := by rw [State.aw, State.flag_congr (s.reg_updMates ..), State.aw]
  rw [State.wfld, State.wreg, ha, State.reg_updMates, State.wfld, State.wreg]

/-- The images of entry `i` written for an EPOCH of spindle `sp`, and the unit marked as waiting for the commit (R358). -/
def State.epochBegun (s : State) (sp : Nat) (w : W256) (i : Nat) : State :=
  (s.writeImages i (s.epochC + 1) (fun _ _ => s.headPc sp + 1) fun x => x.setG (wGA w) (BitVec.ofNat 64 s.epochC)).setWfld
    fWD_EP_ENT0_STATE i 2

theorem State.mates_epochBegun {i : Nat} (k : Nat) : (s.epochBegun sp w i).mates k = s.mates k := by
  have hi : ∀ e pc f, (s.writeImages i e pc f).mates k = s.mates k := fun _ _ _ =>
    (Only.writeImages ..).mates_eq ⟨rfl, rfl⟩ k
  rw [← hi, State.epochBegun]
  exact (Only.setWfld (c := { regs := regsOf [.WD_EP_ENT0] }) _ _ _ fun _ => rfl).mates_eq ⟨rfl, rfl⟩ k

/-- EPOCH of an enrolled unit that runs is under way, its unit waiting for the commit (R358, R360). -/
theorem epoch_enrolled {i : Nat} (h : s.performs sp 0x322 w = true) (hn : s.unitEntry sp = some i)
    (hr : s.wfld fWD_EP_ENT0_STATE i = 1) : Completes (.epoch sp w) s fun t =>
      t.wfld fWD_EP_ENT0_STATE i = 2 ∧ (∀ x ∈ s.mates sp, (t.spin x.2).spool.head?.map (fun e => e.started) = some true) := by
  have k : epochEff s sp (s.headPc sp) w = .hold ((s.epochBegun sp w i).holdHead sp (s.headPc sp) w true) := by
    simp only [epochEff, hn]; exact if_pos hr
  refine ⟨_, wordStep_hold h k, ?_, fun x hx => State.started_holdHead (by rwa [State.mates_epochBegun])⟩
  rw [State.holdHead, State.wfld_updMates]
  exact State.wfld_setWfld_fits _ (by decide) i (by decide) (by decide)

/-- Settles O54, word by word. -/
theorem flowWordsComplete : Obligations.FlowWordsComplete := by
  unfold Obligations.FlowWordsComplete
  exact ⟨fun _ _ _ h => wordStep_within (eff := brEff) h rfl (Only.refl _ _), fun _ _ _ => brr_completes,
    fun _ _ _ h => wordStep_within (eff := callEff) h rfl (Only.updMates_wordFrame ..), fun _ _ _ => callr_completes,
    fun _ _ _ => loop_counts, fun _ _ _ => loop_falls, fun _ _ _ => halt_completes,
    fun _ _ _ h => wordStep_within (eff := fenceEff) h rfl (Only.refl _ _), fun _ _ _ => sync_completes,
    fun _ _ _ => doorbell_completes, fun _ _ _ _ => wait_matches, fun _ _ _ => wait_timesOut, fun _ _ _ => wait_waits,
    fun _ _ _ => retx_completes, fun _ _ _ h => ⟨_, wordStep_exc (eff := brkEff) h rfl, rfl⟩,
    fun _ _ _ => epoch_unenrolled,
    fun _ _ _ h => wordStep_within (eff := rdepochEff) h rfl (Only.updMates_wordFrame ..), fun _ _ _ _ => epoch_enrolled⟩

end Sys2Proof.Machine
end

section
/-! PROOF. S-words of one slot that write registers (R45, R93, R95, R96, R98, R99): each form computes its result once and
writes it in every member. -/

set_option Elab.async false

namespace Sys2Proof.Machine

variable {s t u : State} {sp pc x op : Nat} {w : W256}

/-! ## Words of one slot -/

/-- The slots of a word of one slot. -/
theorem slots_one (hc : sCount w = 1) (hx : slotOf w 1 = x) :
    (List.range (sCount w)).map (fun k => slotOf w (k + 1)) = [x] := by
  rw [hc, ← hx]; rfl

/-- A word of one slot that takes effect retires on the state its slot leaves (R93). -/
theorem sEff_ok (hc : sCount w = 1) (hx : slotOf w 1 = x) (hs : s.slot sp x = .ok u) : sEff s sp pc w = .ok u (pc + 1) := by
  simp only [sEff, slots_one hc hx, State.slots', hs]

/-- A word of one slot that raises a cause raises the slot's (R63, R93). -/
theorem sEff_exc {c : Cause} (hc : sCount w = 1) (hx : slotOf w 1 = x) (hs : s.slot sp x = .exc c) (hlt : c.1 ≤ 0x10) :
    sEff s sp pc w = .exc c 0 := by
  have hl : (SlotEnd.exc c).least (.ok s) = .exc c := if_neg (Nat.not_lt.mpr hlt)
  simp only [sEff, slots_one hc hx, State.slots', hs, hl]

/-- An S-word whose slots all take effect leaves what they leave in order (R93). -/
theorem sWord_slotsDone (h : s.performs sp 0 w = true) (hd : (s.slotsDone sp w).isSome = true) :
    Completes (.sWord sp w) s fun t => s.slotsDone sp w = some t := by
  unfold State.slotsDone at *
  cases k : s.slots' sp ((List.range (sCount w)).map fun k => slotOf w (k + 1)) with
  | ok u => exact ⟨_, wordStep_ok h (eff := sEff) (by simp only [sEff, k]), rfl⟩
  | exc c => rw [k] at hd; cases hd
  | missed st q a n bs => rw [k] at hd; cases hd

section
variable (h : s.performs sp 0 w = true) (hc : sCount w = 1) (hx : slotOf w 1 = x) (hop : lSOP x = op)
include h hc hx

/-- A word of one slot that changes every member's registers retires within the members (R45). -/
theorem sWord_updMates {f : Spin → Spin} (hs : s.slot sp x = .ok (s.updMates sp f)) : Completes (.sWord sp w) s fun t =>
    t = (s.updMates sp f).endWord sp (s.headPc sp + 1) ∧ Only (s.wordFrame sp) s t :=
  wordStep_within (eff := sEff) h (sEff_ok hc hx hs) (Only.updMates_wordFrame ..)

include hop

/-! ## The forms of a slot -/

/-- A register operation writes its result on two registers, or on one. -/
theorem sWord_reg {v : W64} (hf : sopForm op = some .R ∨ sopForm op = some .R1)
    (hv : alu op ((s.spin sp).getG (lRS1 x)) ((s.spin sp).getG (lRS2 x)) = .ok v) : Completes (.sWord sp w) s fun t =>
    t = (s.updMates sp fun y => y.setG (lRD x) v).endWord sp (s.headPc sp + 1) ∧ Only (s.wordFrame sp) s t := by
  refine sWord_updMates h hc hx ?_
  rcases hf with hf | hf <;> simp only [State.slot, hop, hf, hv, State.slotSet]

/-- An operation on a register and an immediate writes its result. -/
theorem sWord_imm {v : W64} (hf : sopForm op = some .I ∨ sopForm op = some .Sh)
    (hv : alu op ((s.spin sp).getG (lRS1 x)) (lIMM14 x) = .ok v) : Completes (.sWord sp w) s fun t =>
    t = (s.updMates sp fun y => y.setG (lRD x) v).endWord sp (s.headPc sp + 1) ∧ Only (s.wordFrame sp) s t := by
  refine sWord_updMates h hc hx ?_
  rcases hf with hf | hf <;> simp only [State.slot, hop, hf, hv, State.slotSet]

/-- A division by zero raises DIV_ZERO and writes nothing (R96). -/
theorem sWord_divZero (hf : sopForm op = some .R)
    (hv : alu op ((s.spin sp).getG (lRS1 x)) ((s.spin sp).getG (lRS2 x)) = .error (0xD, 0)) :
    Completes (.sWord sp w) s fun t => t = s.takeException sp (s.headPc sp) 0xD 0 0 :=
  ⟨_, wordStep_exc (eff := sEff) h
    (sEff_exc hc hx (c := (0xD, 0)) (by simp only [State.slot, hop, hf, hv]) (by decide)), rfl⟩

/-- A move of an immediate writes a chunk of 16 bits, over zero or over what the register held. -/
theorem sWord_chunk {o : W64} (hf : sopForm op = some .W) (ho : (if op = 0x1B then 0 else (s.spin sp).getG (lRD x)) = o) :
    Completes (.sWord sp w) s fun t =>
      t = (s.updMates sp fun y => y.setG (lRD x) (setBits o (16 * lCHUNK x + 15) (16 * lCHUNK x) (lIMM16 x))).endWord
        sp (s.headPc sp + 1) ∧ Only (s.wordFrame sp) s t :=
  sWord_updMates h hc hx (by simp only [State.slot, hop, hf, ho, State.slotSet])

/-- A compare of registers writes a predicate. -/
theorem sWord_compare {b : Bool} (hf : sopForm op = some .P)
    (hv : compareOp op ((s.spin sp).getG (lRS1 x)) ((s.spin sp).getG (lRS2 x)) = b) : Completes (.sWord sp w) s fun t =>
    t = (s.updMates sp fun y => y.setP (lPD x) b).endWord sp (s.headPc sp + 1) ∧ Only (s.wordFrame sp) s t :=
  sWord_updMates h hc hx (by simp only [State.slot, hop, hf, hv, State.slotSet])

/-- A compare with an immediate writes a predicate. -/
theorem sWord_compareImm {b : Bool} (hf : sopForm op = some .PI)
    (hv : compareOp op ((s.spin sp).getG (lRS1 x)) (lIMM14 x) = b) : Completes (.sWord sp w) s fun t =>
    t = (s.updMates sp fun y => y.setP (lPD x) b).endWord sp (s.headPc sp + 1) ∧ Only (s.wordFrame sp) s t :=
  sWord_updMates h hc hx (by simp only [State.slot, hop, hf, hv, State.slotSet])

/-- Predicate logic writes a predicate. -/
theorem sWord_logic {b : Bool} (hf : sopForm op = some .Q ∨ sopForm op = some .Q1)
    (hv : predOp op ((s.spin sp).getP (lPS1 x)) ((s.spin sp).getP (lPS2 x)) = b) : Completes (.sWord sp w) s fun t =>
    t = (s.updMates sp fun y => y.setP (lPD x) b).endWord sp (s.headPc sp + 1) ∧ Only (s.wordFrame sp) s t := by
  refine sWord_updMates h hc hx ?_
  rcases hf with hf | hf <;> simp only [State.slot, hop, hf, hv, State.slotSet]

/-- A register that is not 0 sets a predicate. -/
theorem sWord_nonzero (hf : sopForm op = some .PS) : Completes (.sWord sp w) s fun t =>
    t = (s.updMates sp fun y => y.setP (lPD x) ((s.spin sp).getG (lRS1 x) != 0)).endWord sp (s.headPc sp + 1) ∧
      Only (s.wordFrame sp) s t :=
  sWord_updMates h hc hx (by simp only [State.slot, hop, hf, State.slotSet])

/-- SEL chooses by a predicate. -/
theorem sWord_select (hf : sopForm op = some .SEL) : Completes (.sWord sp w) s fun t =>
    t = (s.updMates sp fun y => y.setG (lRD x) (if (s.spin sp).getP (lPS x) then (s.spin sp).getG (lRS1 x)
      else (s.spin sp).getG (lRS2 x))).endWord sp (s.headPc sp + 1) ∧ Only (s.wordFrame sp) s t :=
  sWord_updMates h hc hx (by simp only [State.slot, hop, hf, State.slotSet])

/-- The predicates, the time and the identity are read as numbers. -/
theorem sWord_number {v : W64} (hf : sopForm op = some .N)
    (hv : (if op = 0x3C then BitVec.ofNat 64 ((List.range 16).foldl (fun a k => a + ((s.spin sp).getP k).toNat * 2 ^ k) 0)
      else if op = 0x4C then BitVec.ofNat 64 s.now else s.rdid sp) = v) : Completes (.sWord sp w) s fun t =>
    t = (s.updMates sp fun y => y.setG (lRD x) v).endWord sp (s.headPc sp + 1) ∧ Only (s.wordFrame sp) s t :=
  sWord_updMates h hc hx (by simp only [State.slot, hop, hf, hv, State.slotSet])

/-- BASE or LENGTH of a descriptor is read. -/
theorem sWord_descField {n : Nat} (hf : sopForm op = some .G)
    (hv : (if op = 0x48 then aBASE ((s.spin sp).getA (lAS x)) else aLENGTH ((s.spin sp).getA (lAS x))) = n) :
    Completes (.sWord sp w) s fun t =>
      t = (s.updMates sp fun y => y.setG (lRD x) (BitVec.ofNat 64 n)).endWord sp (s.headPc sp + 1) ∧
        Only (s.wordFrame sp) s t :=
  sWord_updMates h hc hx (by simp only [State.slot, hop, hf, hv, State.slotSet])

/-- A selector is read. -/
theorem sWord_selectorRead (hf : sopForm op = some .FG) : Completes (.sWord sp w) s fun t =>
    t = (s.updMates sp fun y => y.setG (lRD x) (BitVec.ofNat 64 ((s.spin sp).getF (lFS x)).toNat)).endWord
      sp (s.headPc sp + 1) ∧ Only (s.wordFrame sp) s t :=
  sWord_updMates h hc hx (by simp only [State.slot, hop, hf, State.slotSet])

/-- A selector is written. -/
theorem sWord_selectorWrite (hf : sopForm op = some .F) : Completes (.sWord sp w) s fun t =>
    t = (s.updMates sp fun y => y.setF (lFS x) (BitVec.ofNat 32 ((s.spin sp).getG (lRS1 x)).toNat)).endWord
      sp (s.headPc sp + 1) ∧ Only (s.wordFrame sp) s t :=
  sWord_updMates h hc hx (by simp only [State.slot, hop, hf, State.slotSet])

/-- BASE or LENGTH of a descriptor is written. -/
theorem sWord_descWrite {v : W128} (hf : sopForm op = some .DS)
    (hv : (if op = 0x45 then
        BitVec.ofNat 128 (((s.spin sp).getG (lRS1 x)).toNat * 2 ^ 64 + ((s.spin sp).getA (lPD x)).toNat % 2 ^ 64)
      else BitVec.ofNat 128 (aBASE ((s.spin sp).getA (lPD x)) * 2 ^ 64 +
        ((s.spin sp).getG (lRS1 x)).toNat % 2 ^ 32 * 2 ^ 32 + ((s.spin sp).getA (lPD x)).toNat % 2 ^ 32)) = v) :
    Completes (.sWord sp w) s fun t =>
      t = (s.updMates sp fun y => y.setA (lPD x) v).endWord sp (s.headPc sp + 1) ∧ Only (s.wordFrame sp) s t :=
  sWord_updMates h hc hx (by simp only [State.slot, hop, hf, hv, State.slotSet])

/-- ACCESS and KIND of a descriptor are written. -/
theorem sWord_descKind (hf : sopForm op = some .K) : Completes (.sWord sp w) s fun t =>
    t = (s.updMates sp fun y => y.setA (lPD x) (BitVec.ofNat 128 (aBASE ((s.spin sp).getA (lPD x)) * 2 ^ 64 +
      aLENGTH ((s.spin sp).getA (lPD x)) * 2 ^ 32 + x % 64))).endWord sp (s.headPc sp + 1) ∧ Only (s.wordFrame sp) s t :=
  sWord_updMates h hc hx (by simp only [State.slot, hop, hf, State.slotSet])

end

end Sys2Proof.Machine
end

section
/-! PROOF. Loads and stores of one slot to HBM in one piece (R97, R166, R195, R218, R236). -/

set_option Elab.async false

namespace Sys2Proof.Machine

variable {c : Change} {s t u : State} {sp x a n p q o : Nat} {w : W256} {k : Requester} {bs : List Byte}

/-! ## The quarry's engine -/

/-- A frame allows what a quarry's engine counts (R221, R236). -/
structure Change.Engine (c : Change) : Prop where
  regs : ∀ r ∈ [Reg.QD_ENG_SLOTS, .QD_ENG_DEGRADED], ∀ d i, c.regs r d i = true
  lats : ∀ d i, c.lats .slotThird d i = true

theorem Only.slots (hc : c.Engine) (d m : Nat) : Only c s (s.slots d m) :=
  (Only.setLat _ _ _ _ (hc.lats _ _)).trans (Only.setReg _ _ _ _ fun y _ => hc.regs _ (by decide) y _)

/-- Without errors a fragment that is rebuilt costs slots alone. -/
theorem Only.fragRebuild (hc : c.Engine) (hf : s.flaw a = 0) (h : Shield) : Only c s (s.fragRebuild a h) := by
  unfold State.fragRebuild
  dsimp only
  rw [hf, if_neg (by decide : ¬(0 = 2))]
  exact Only.ite ((Only.slots hc _ _).trans (Only.setReg _ _ _ _ fun y _ => hc.regs _ (by decide) y _)) (Only.slots hc _ _)

/-- Where no fragment holds an error, reading one costs slots alone (R195, R221). -/
theorem Only.noteRaw (hc : c.Engine) (hf : s.flaws = []) (a : Nat) : Only c s (s.noteRaw a) := by
  have hz : s.flaw a = 0 := by rw [State.flaw, hf]; rfl
  unfold State.noteRaw
  rw [hz]
  refine Only.ite (Only.ite (Only.refl c s) (Only.ite ?_ (Only.slots hc _ _))) ?_
  · split
    · exact Only.fragRebuild hc hz _
    · exact Only.slots hc _ _
  · rw [if_neg (by simp)]
    exact Only.refl c s

/-- Where no fragment holds an error, a read of HBM costs slots alone. -/
theorem Only.noteRead (hc : c.Engine) (hk : c.flaws = false) (hf : s.flaws = []) (a n : Nat) : Only c s (s.noteRead a n) := by
  unfold State.noteRead
  refine List.foldlRecOn (motive := fun acc : Bool × State => Only c s acc.2) _ _ (Only.refl c s) fun acc h x _ => ?_
  split
  · split
    · exact h.trans (Only.noteRaw hc ((h.flaws_eq hk).trans hf) _)
    · exact h
  · exact h

/-! ## One piece of HBM -/

/-- Memory of this package is no window. -/
theorem State.windowAt_piece (hw : s.windowAt p = none) (hp : p / 2 ^ 52 = s.pkg) :
    s.windowAt (s.pkg * 2 ^ 52 + p % 2 ^ 52) = none := by
  rw [← hp, Nat.mul_comm, Nat.div_add_mod, hw]

theorem State.readAt_memory {m : Master} (h : s.windowAt (s.pkg * 2 ^ 52 + a) = none) :
    State.readAt m s a n = s.movePiece a n :=
  State.readAt_induct (P := fun r => r = s.movePiece a n) (fun _ e => by rw [h] at e; cases e) fun _ => rfl

theorem State.writeAt_memory {m : Master} (h : s.windowAt (s.pkg * 2 ^ 52 + a) = none) :
    State.writeAt m s a bs = s.putPiece a bs :=
  State.writeAt_induct (P := fun r => r = s.putPiece a bs) (fun _ e => by rw [h] at e; cases e) fun _ => rfl

/-- HBM lies below its own end (R37). -/
theorem State.lt_of_locate_hbm (h : s.locate a = .hbm q) : a < 0x12000000000 := by
  by_contra hc
  rw [State.locate, if_neg hc] at h
  split at h
  · dsimp only at h
    split at h <;> cases h
  · split at h
    · dsimp only at h
      repeat' split at h
      all_goals cases h
    · cases h

/-- A write of HBM outside every region, which its quarry takes, puts the bytes there (R218). -/
theorem State.writePiece_free (hs : s.site a = .free) (hl : a < 0x12000000000) (hu : s.quiescing (sliceDie a) = false) :
    s.writePiece a bs = (.ok, ((s.setBytes a bs).mend a bs.length).slots (sliceDie a) 3) := by
  rw [State.writePiece, hs]
  dsimp only
  rw [State.writeFree, if_pos hl, hu, if_neg Bool.false_ne_true]

/-- An access to memory of this package is cut at the fragments. -/
theorem State.cuts_memory (hw : s.windowAt p = none) (n : Nat) : s.cuts p n = pieces (p % 2 ^ 52) n := by
  simp [State.cuts, hw]

theorem State.readEach_one (f : State → Nat → Nat → Status × List Byte × State) :
    (s.readEach [(a, n)] f).2.2 = (f s a n).2.2 := by simp [State.readEach]

theorem State.writeEach_one (f : State → Nat → List Byte → Status × State) :
    s.writeEach a bs [(a, bs.length)] f = f s a bs := by simp [State.writeEach]

/-- A read that is served does not wait. -/
theorem State.moveRead_served (h : (s.moveRead k p n).1 = .ok) : s.moveWaits k p n = false := by
  by_contra hc
  rw [State.moveRead, if_pos (by simpa using hc)] at h
  cases h

/-- A read of one piece of HBM that is served costs what reading its fragments costs. -/
theorem State.moveRead_piece (hw : s.windowAt p = none) (hp : p / 2 ^ 52 = s.pkg) (hq : s.locate (p % 2 ^ 52) = .hbm q)
    (hk : pieces (p % 2 ^ 52) n = [(p % 2 ^ 52, n)]) (h : (s.moveRead k p n).1 = .ok) :
    (s.moveRead k p n).2.2 = s.noteRead (p % 2 ^ 52) n := by
  have hr : s.moveRead k p n = s.readEach [(p % 2 ^ 52, n)] (State.readAt k.m) := by
    rw [State.moveRead, State.moveRead_served h, if_neg Bool.false_ne_true, if_pos hp, State.cuts_memory hw, hk]
  rw [hr, State.readEach_one, State.readAt_memory (State.windowAt_piece hw hp), State.movePiece, hq]

/-- A write of one piece of HBM outside every region, which its quarry takes, puts the bytes there (R218). -/
theorem State.moveWrite_piece (hw : s.windowAt p = none) (hp : p / 2 ^ 52 = s.pkg) (hq : s.locate (p % 2 ^ 52) = .hbm q)
    (hk : pieces (p % 2 ^ 52) bs.length = [(p % 2 ^ 52, bs.length)]) (hs : s.site (p % 2 ^ 52) = .free)
    (hu : s.quiescing (sliceDie (p % 2 ^ 52)) = false)
    (h : s.moveWaits k p bs.length = false) :
    s.moveWrite k p bs =
      (.ok, ((s.setBytes (p % 2 ^ 52) bs).mend (p % 2 ^ 52) bs.length).slots (sliceDie (p % 2 ^ 52)) 3) := by
  rw [State.moveWrite, h, if_neg Bool.false_ne_true, if_pos hp, State.cuts_memory hw, hk]
  rw [State.writeEach_one, State.writeAt_memory (State.windowAt_piece hw hp), State.putPiece, hq]
  exact State.writePiece_free hs (State.lt_of_locate_hbm hq) hu

end Sys2Proof.Machine
end

section
/-! PROOF. The load and the store of one slot to HBM in one piece (R97, R166). -/

set_option Elab.async false

namespace Sys2Proof.Machine

variable {c : Change} {s t u : State} {sp x o n p q : Nat} {w : W256} {bs : List Byte}

/-! ## Bytes kept -/

/-- What a frame keeps of memory reads the same. -/
theorem Only.bytes (h : Only c s t) {a n : Nat} (ha : ∀ b, c.mem b = false) : t.bytes a n = s.bytes a n :=
  List.map_congr_left fun _ _ => h.byte (ha _)

/-! ## The frame of a load and a store -/

/-- What a load of HBM may change beside the registers of its members, and what it may change by retiring. -/
def State.accessFrame (s : State) (sp : Nat) : Change :=
  { regs := regsOf [.SPN_PC, .SPN_RETIRED, .SPN_STAT, .SPN_CTL, .QD_ENG_SLOTS, .QD_ENG_DEGRADED],
    lats := latsOf [.stepDone, .cleared, .slotThird], spins := fun k => (s.mates sp).any (fun m => m.2 == k) }

theorem State.accessFrame_engine (s : State) (sp : Nat) : (s.accessFrame sp).Engine :=
  ⟨fun _ h _ _ => by simp at h; rcases h with rfl | rfl <;> rfl, fun _ _ => rfl⟩

theorem State.wordFrame_le_access (s : State) (sp : Nat) : (s.wordFrame sp).Le (s.accessFrame sp) :=
  State.wordFrame_le (fun r h _ _ => by simp at h; rcases h with rfl | rfl | rfl | rfl <;> rfl)
    (fun l h _ _ => by simp at h; rcases h with rfl | rfl <;> rfl) fun m hm => List.any_eq_true.mpr ⟨m, hm, by simp⟩

/-! ## Loads -/

/-- A load whose checks pass and whose access is served leaves what it makes of the bytes (R97). -/
theorem State.slotLoad_ok {k : Nat} {f : State → List Byte → State} (hs : s.slotCause sp k o n = none)
    (hp : s.descAddr sp ((s.spin sp).getA k) o = p) (hok : (s.moveRead (s.asSpindle sp) p n).1 = .ok)
    (hr : lowestCause (rightsCause (s.spin sp) k 1) = none) :
    s.slotLoad sp k o n f =
      .ok (f (s.moveRead (s.asSpindle sp) p n).2.2 (s.moveRead (s.asSpindle sp) p n).2.1) := by
  simp only [State.slotLoad, State.loadBytes, hs, hp, hok, hr, reduceCtorEq, if_false, if_true]

/-- A load from one piece of HBM without errors writes the value of the bytes in every member (R97, R166). -/
theorem sWord_load {op : Nat} {v : W64} (h : s.performs sp 0 w = true) (hc : sCount w = 1) (hx : slotOf w 1 = x)
    (hop : lSOP x = op) (hf : sopForm op = some .L ∧ op ≠ 0x42)
    (ho : (((s.spin sp).getG (lRS1 x)).toNat + lIMM8 x * 2 ^ lSIZE x) % 2 ^ 64 = o)
    (hs : s.slotCause sp (lAS x) o (2 ^ lSIZE x) = none) (hp : s.descAddr sp ((s.spin sp).getA (lAS x)) o = p)
    (hw : s.windowAt p = none) (hok : (s.moveRead (s.asSpindle sp) p (2 ^ lSIZE x)).1 = .ok)
    (hbs : (s.moveRead (s.asSpindle sp) p (2 ^ lSIZE x)).2.1 = bs) (hfl : s.flaws = [])
    (hr : lowestCause (rightsCause (s.spin sp) (lAS x) 1) = none) (hl : s.locate (p % 2 ^ 52) = .hbm q)
    (hk : pieces (p % 2 ^ 52) (2 ^ lSIZE x) = [(p % 2 ^ 52, 2 ^ lSIZE x)]) (hg : p / 2 ^ 52 = s.pkg)
    (hv : (if op = 0x40 then BitVec.ofNat 64 (leValue bs)
      else BitVec.ofInt 64 (signedOf (8 * 2 ^ lSIZE x) (leValue bs))) = v) :
    Completes (.sWord sp w) s fun t =>
      (∀ k ∈ s.mates sp, (t.spin k.2).getG (lRD x) = v) ∧ Only (s.accessFrame sp) s t := by
  have hu : (s.moveRead (s.asSpindle sp) p (2 ^ lSIZE x)).2.2 = s.noteRead (p % 2 ^ 52) (2 ^ lSIZE x) :=
    State.moveRead_piece hw hg hl hk hok
  generalize hz : s.noteRead (p % 2 ^ 52) (2 ^ lSIZE x) = u at hu
  have hou : Only (s.accessFrame sp) s u := hz ▸ Only.noteRead (s.accessFrame_engine sp) rfl hfl _ _
  have hslot : s.slot sp x = .ok (u.setGs sp (lRD x) v) := by
    simp only [State.slot, hop, hf.1, if_neg hf.2, ho, State.slotLoad_ok hs hp hok hr, hu, hbs, hv]
  have hm : u.mates sp = s.mates sp := hou.mates_eq ⟨rfl, rfl⟩ sp
  refine ⟨_, wordStep_ok (eff := sEff) h (sEff_ok hc hx hslot), fun k hk => ?_, ?_⟩
  · rw [State.getG_endWord, State.getG_setGs (hm.symm ▸ hk)]
  · refine Only.endWord_within (hou.trans (Only.updMates _ _ fun m hm' => ?_)) ⟨rfl, rfl⟩ (s.wordFrame_le_access sp) _
    exact List.any_eq_true.mpr ⟨m, hm ▸ hm', by simp⟩

/-! ## Stores -/

/-- A store to system memory whose checks pass and which is served leaves what its write leaves (R97). -/
theorem State.slotStore_ok {k : Nat} (hs : s.slotCause sp k o bs.length = none)
    (hp : s.descAddr sp ((s.spin sp).getA k) o = p) (ha : aKIND ((s.spin sp).getA k) = 3)
    (hm : s.moveWrite (s.asSpindle sp) p bs = (.ok, u)) (hr : lowestCause (rightsCause (s.spin sp) k 2) = none) :
    s.slotStore sp k o bs = .ok u := by
  have hn : ¬(3 = 1) := by decide
  simp only [State.slotStore, hs, ha, if_neg hn, List.foldl_cons, List.foldl_nil, State.storeBytes, hp, hm, if_true, hr]

/-- What a store of HBM may change besides. -/
def State.storeFrame (s : State) (sp a n : Nat) : Change := { s.accessFrame sp with mem := span a n, losses := true }

/-- What a store may change beside the bytes it writes. -/
def State.lossFrame (s : State) (sp : Nat) : Change := { s.accessFrame sp with losses := true }

theorem State.lossFrame_engine (s : State) (sp : Nat) : (s.lossFrame sp).Engine :=
  ⟨(s.accessFrame_engine sp).regs, (s.accessFrame_engine sp).lats⟩

/-- Bytes written to one piece of HBM, with the quarry's cost. -/
def State.storedPiece (s : State) (a : Nat) (b : List Byte) : State :=
  ((s.setBytes a b).mend a b.length).slots (sliceDie a) 3

/-- Bytes of less than a fragment that a word writes to HBM read back once it has retired, and change nothing else. -/
theorem State.endWord_storedPiece (s : State) (sp a pc : Nat) (hb : bs.length < 64) :
    ((s.storedPiece a bs).endWord sp pc).bytes a bs.length = bs ∧
      Only (s.storeFrame sp a bs.length) s ((s.storedPiece a bs).endWord sp pc) := by
  have hset : Only (s.storeFrame sp a bs.length) s (s.setBytes a bs) :=
    Only.setBytes a bs fun y h1 h2 => by simp [State.storeFrame, span, h1, h2]
  have hword : ((s.setBytes a bs).wordFrame sp).Le (s.lossFrame sp) := by
    rw [hset.wordFrame_eq ⟨rfl, rfl⟩ sp]
    exact { s.wordFrame_le_access sp with losses := fun _ => rfl }
  have hend : Only (s.lossFrame sp) (s.setBytes a bs) ((s.storedPiece a bs).endWord sp pc) :=
    Only.endWord_within (c := s.lossFrame sp)
      ((Only.mend rfl (.inr hb)).trans (Only.slots (s.lossFrame_engine sp) _ _))
      ⟨rfl, rfl⟩ hword pc
  have hle : (s.lossFrame sp).Le (s.storeFrame sp a bs.length) :=
    { Change.Le.refl (s.lossFrame sp) with mem := fun _ h => by cases h }
  exact ⟨by rw [hend.bytes fun _ => rfl, State.bytes_setBytes_self], hset.trans (hend.mono hle)⟩

/-- A store to one piece of HBM outside every region puts its bytes there (R97, R166, R218). -/
theorem sWord_store (h : s.performs sp 0 w = true) (hc : sCount w = 1) (hx : slotOf w 1 = x) (hop : lSOP x = 0x42)
    (ho : (((s.spin sp).getG (lRS1 x)).toNat + lIMM8 x * 2 ^ lSIZE x) % 2 ^ 64 = o)
    (hs : s.slotCause sp (lAS x) o (2 ^ lSIZE x) = none) (hp : s.descAddr sp ((s.spin sp).getA (lAS x)) o = p)
    (hw : s.windowAt p = none) (ha : aKIND ((s.spin sp).getA (lAS x)) = 3)
    (hr : lowestCause (rightsCause (s.spin sp) (lAS x) 2) = none) (hl : s.locate (p % 2 ^ 52) = .hbm q)
    (hk : pieces (p % 2 ^ 52) (2 ^ lSIZE x) = [(p % 2 ^ 52, 2 ^ lSIZE x)]) (hg : p / 2 ^ 52 = s.pkg)
    (hf : s.site (p % 2 ^ 52) = .free) (hq : s.quiescing (sliceDie (p % 2 ^ 52)) = false)
    (hwt : s.moveWaits (s.asSpindle sp) p (2 ^ lSIZE x) = false) :
    Completes (.sWord sp w) s fun t =>
      t.bytes (p % 2 ^ 52) (2 ^ lSIZE x) = leBytes (2 ^ lSIZE x) ((s.spin sp).getG (lRD x)).toNat ∧
        Only (s.storeFrame sp (p % 2 ^ 52) (2 ^ lSIZE x)) s t := by
  have hlen : 2 ^ lSIZE x < 64 := by
    have : lSIZE x < 4 := Nat.mod_lt _ (by decide)
    calc 2 ^ lSIZE x < 2 ^ 4 := Nat.pow_lt_pow_right (by decide) this
      _ < 64 := by decide
  obtain ⟨b, hb⟩ : ∃ b, leBytes (2 ^ lSIZE x) ((s.spin sp).getG (lRD x)).toNat = b := ⟨_, rfl⟩
  have hn : b.length = 2 ^ lSIZE x := by rw [← hb, length_leBytes]
  rw [← hn] at hs hk hwt hlen
  have hmw := State.moveWrite_piece hw hg hl hk hf hq hwt
  have hslot : s.slot sp x = .ok (s.storedPiece (p % 2 ^ 52) b) := by
    have hform : sopForm 0x42 = some .L := rfl
    simp only [State.slot, hop, hform, if_true, ho, hb]
    exact State.slotStore_ok hs hp ha hmw hr
  obtain ⟨hbytes, hend⟩ := s.endWord_storedPiece sp (p % 2 ^ 52) (s.headPc sp + 1) hlen
  exact ⟨_, wordStep_ok (eff := sEff) h (sEff_ok hc hx hslot), by rw [← hn, hbytes, ← hb, length_leBytes], by rwa [← hn]⟩

end Sys2Proof.Machine
end

section
/-! PROOF. The S-words together (R93 to R99, R166): each form by its rule. -/

set_option Elab.async false

namespace Sys2Proof.Machine

/-- Settles O58: the slots in order, and each form of a word of one slot by its own rule. -/
theorem scalarWordsComplete : Obligations.ScalarWordsComplete :=
  ⟨fun _ _ _ h hd => sWord_slotsDone h hd,
    fun _ _ _ _ h hc hx hop => sWord_reg h hc hx hop (.inl rfl) rfl,
    fun _ _ _ _ h hc hx hop => sWord_reg h hc hx hop (.inl rfl) rfl,
    fun _ _ _ _ h hc hx hop => sWord_reg h hc hx hop (.inl rfl) rfl,
    fun _ _ _ _ h hc hx hop => sWord_reg h hc hx hop (.inl rfl) rfl,
    fun _ _ _ _ h hc hx hop => sWord_reg h hc hx hop (.inl rfl) rfl,
    fun _ _ _ _ h hc hx hop => sWord_reg h hc hx hop (.inl rfl) rfl,
    fun _ _ _ _ h hc hx hop => sWord_reg h hc hx hop (.inl rfl) rfl,
    fun _ _ _ _ h hc hx hop => sWord_reg h hc hx hop (.inl rfl) rfl,
    fun _ _ _ _ h hc hx hop => sWord_reg h hc hx hop (.inl rfl) rfl,
    fun _ _ _ _ h hc hx hop => sWord_reg h hc hx hop (.inl rfl) rfl,
    fun _ _ _ _ h hc hx hop => sWord_reg h hc hx hop (.inl rfl) rfl,
    fun _ _ _ _ h hc hx hop => sWord_reg h hc hx hop (.inl rfl) rfl,
    fun _ _ _ _ h hc hx hop hb => sWord_reg h hc hx hop (.inl rfl) (if_neg hb),
    fun _ _ _ _ h hc hx hop hb => sWord_reg h hc hx hop (.inl rfl) (if_neg hb),
    fun _ _ _ _ h hc hx hop hb => sWord_reg h hc hx hop (.inl rfl) (if_neg hb),
    fun _ _ _ _ h hc hx hop hb => sWord_reg h hc hx hop (.inl rfl) (if_neg hb),
    fun _ _ _ _ h hc hx hop hb => sWord_divZero h hc hx hop rfl (if_pos hb),
    fun _ _ _ _ h hc hx hop => sWord_imm h hc hx hop (.inl rfl) rfl,
    fun _ _ _ _ h hc hx hop => sWord_imm h hc hx hop (.inl rfl) rfl,
    fun _ _ _ _ h hc hx hop => sWord_imm h hc hx hop (.inl rfl) rfl,
    fun _ _ _ _ h hc hx hop => sWord_imm h hc hx hop (.inl rfl) rfl,
    fun _ _ _ _ h hc hx hop => sWord_imm h hc hx hop (.inr rfl) rfl,
    fun _ _ _ _ h hc hx hop => sWord_imm h hc hx hop (.inr rfl) rfl,
    fun _ _ _ _ h hc hx hop => sWord_imm h hc hx hop (.inr rfl) rfl,
    fun _ _ _ _ h hc hx hop => sWord_reg h hc hx hop (.inr rfl) rfl,
    fun _ _ _ _ h hc hx hop => sWord_reg h hc hx hop (.inr rfl) rfl,
    fun _ _ _ _ h hc hx hop => sWord_reg h hc hx hop (.inr rfl) rfl,
    fun _ _ _ _ h hc hx hop => sWord_chunk h hc hx hop rfl (if_pos rfl),
    fun _ _ _ _ h hc hx hop => sWord_chunk h hc hx hop rfl (if_neg (by decide)),
    fun _ _ _ _ h hc hx hop => sWord_compare h hc hx hop rfl rfl,
    fun _ _ _ _ h hc hx hop => sWord_compare h hc hx hop rfl rfl,
    fun _ _ _ _ h hc hx hop => sWord_compare h hc hx hop rfl rfl,
    fun _ _ _ _ h hc hx hop => sWord_compare h hc hx hop rfl rfl,
    fun _ _ _ _ h hc hx hop => sWord_compareImm h hc hx hop rfl rfl,
    fun _ _ _ _ h hc hx hop => sWord_compareImm h hc hx hop rfl rfl,
    fun _ _ _ _ h hc hx hop => sWord_logic h hc hx hop (.inl rfl) rfl,
    fun _ _ _ _ h hc hx hop => sWord_logic h hc hx hop (.inl rfl) rfl,
    fun _ _ _ _ h hc hx hop => sWord_logic h hc hx hop (.inl rfl) rfl,
    fun _ _ _ _ h hc hx hop => sWord_logic h hc hx hop (.inl rfl) rfl,
    fun _ _ _ _ h hc hx hop => sWord_logic h hc hx hop (.inr rfl) rfl,
    fun _ _ _ _ h hc hx hop => sWord_nonzero h hc hx hop rfl,
    fun _ _ _ _ h hc hx hop => sWord_select h hc hx hop rfl,
    fun _ _ _ _ h hc hx hop => sWord_number h hc hx hop rfl (if_pos rfl),
    fun _ _ _ _ h hc hx hop => sWord_number h hc hx hop rfl ((if_neg (by decide)).trans (if_pos rfl)),
    fun _ _ _ _ h hc hx hop => sWord_number h hc hx hop rfl ((if_neg (by decide)).trans (if_neg (by decide))),
    fun _ _ _ _ h hc hx hop => sWord_descField h hc hx hop rfl (if_pos rfl),
    fun _ _ _ _ h hc hx hop => sWord_descField h hc hx hop rfl (if_neg (by decide)),
    fun _ _ _ _ h hc hx hop => sWord_selectorRead h hc hx hop rfl,
    fun _ _ _ _ h hc hx hop => sWord_selectorWrite h hc hx hop rfl,
    fun _ _ _ _ h hc hx hop => sWord_descWrite h hc hx hop rfl (if_pos rfl),
    fun _ _ _ _ h hc hx hop => sWord_descWrite h hc hx hop rfl (if_neg (by decide)),
    fun _ _ _ _ h hc hx hop => sWord_descKind h hc hx hop rfl,
    fun _ _ _ _ _ _ _ _ _ h hc hx hop ho ha hs hp hw hok hbs hfl hr hl hk hg =>
      sWord_load h hc hx hop ⟨rfl, by decide⟩ ho hs (ha ▸ hp) hw hok hbs hfl hr hl hk hg (if_pos rfl),
    fun _ _ _ _ _ _ _ _ _ h hc hx hop ho ha hs hp hw hok hbs hfl hr hl hk hg =>
      sWord_load h hc hx hop ⟨rfl, by decide⟩ ho hs (ha ▸ hp) hw hok hbs hfl hr hl hk hg (if_neg (by decide)),
    fun _ _ _ _ _ _ _ _ h hc hx hop ho ha hs hp hw hk3 hr hl hk hg hf hq _ hwt =>
      sWord_store h hc hx hop ho hs (ha ▸ hp) hw (ha ▸ hk3) hr hl hk hg hf hq hwt⟩

end Sys2Proof.Machine
end

section
/-! PROOF. The control of a spindle from outside its words (R59, R69, R72, R76, R81, R82, R178): requests, doorbells, the timer,
refusals, timeouts of WAIT, and the halt. -/

set_option Elab.async false

namespace Sys2Proof.Machine

variable {c : Change} {s t u : State} {m : Master} {sp pc : Nat} {w : W256}

/-! ## Frames of one place -/

theorem regsIn_self {l : List Reg} {r : Reg} {d i x : Nat} (h : r ∈ l) (hx : regHome r x = regHome r d) :
    regsIn l d i r x i = true := by simp [regsIn, h, hx]

theorem theLat_self (l : Lat) (d i : Nat) : theLat l d i l d i = true := by simp [theLat]

/-! ## The state a spindle reads -/

/-- A spindle whose state reads neither OFF nor RETIRED is powered (R80). -/
theorem State.powered_of_spState (h : 2 ≤ s.spState sp) (h6 : s.spState sp ≠ 6) : s.spPowered sp = true := by
  by_contra hp
  unfold State.spState at *
  split at h
  · next k => exact h6 (if_pos k)
  · simp at h

/-- The state that a powered spindle in service reads is its register's. -/
theorem State.spFld_of_spState (h : 2 ≤ s.spState sp) (h6 : s.spState sp ≠ 6) :
    s.spFld fSPN_STAT_STATE sp = s.spState sp := by
  have hp := State.powered_of_spState h h6
  unfold State.spState at *
  split at h
  · next k => exact absurd (if_pos k) h6
  · next k => rw [if_neg k, if_pos hp]; rfl

/-- A frame leaves alone what the state of a spindle reads from. -/
structure Change.KeepsSpState (c : Change) : Prop where
  regs : ∀ r ∈ [Reg.PW_DIE_ISO, .PW_TWIN_CTL, .SPN_MAP, .SPN_STAT], ∀ d i, c.regs r d i = false
  lats : ∀ k, c.lats .slotRetired k 0 = false

theorem Only.spState_eq (h : Only c s t) (k : c.KeepsSpState) (sp : Nat) : t.spState sp = s.spState sp := by
  have hf : ∀ (f : RField) d i, f.reg ∈ [Reg.PW_DIE_ISO, .PW_TWIN_CTL, .SPN_MAP, .SPN_STAT] → t.fld f d i = s.fld f d i :=
    fun f d i hr => State.fld_congr (h.1 _ _ _ (k.regs _ hr d i))
  have hp : t.spPowered sp = s.spPowered sp := by
    rw [State.spPowered, State.spPowered, State.twinState, State.twinState, State.twinOf, State.twinOf, State.phys, State.phys,
      State.flag, State.flag, hf fPW_DIE_ISO_ON _ _ (by decide), hf fPW_TWIN_CTL_STATE _ _ (by decide),
      hf fSPN_MAP_PHYS _ _ (by decide)]
  rw [State.spState, State.spState, hp, h.lat (k.lats sp), hf fSPN_STAT_STATE _ _ (by decide)]

/-! ## Requests -/

/-- SPN_CTL of a powered spindle of a live die is not hidden. -/
theorem State.spnHidden_ctl (h : 2 ≤ s.spState sp) (h6 : s.spState sp ≠ 6) : s.spnHidden sp .SPN_CTL = false := by
  rw [State.spnHidden, if_neg h6, State.powered_of_spState h h6]
  rfl

/-- A write of SPN_CTL reaches a spindle in no ply of more than one (R81). -/
theorem State.ctlWrite_single {f : State → State} (hd : s.dieUp (spDie sp) = true) (hr : s.inRealPly sp = false)
    (h : 2 ≤ s.spState sp) (h6 : s.spState sp ≠ 6) : s.ctlWrite m sp f = f s := by
  simp [State.ctlWrite, hd, hr, State.spnHidden_ctl h h6]

/-- A spindle that may run is HALTED. -/
theorem State.spState_of_canRun (h : s.canRun sp = true) : s.spState sp = 2 := by
  simp only [State.canRun, Bool.and_eq_true, beq_iff_eq] at h
  exact h.1.1.1

/-- RUN starts a spindle that may run (R82). -/
theorem spnRun_completes (hsp : sp < 1536) (hd : s.dieUp (spDie sp) = true) (hr : s.inRealPly sp = false)
    (hc : s.canRun sp = true) : Completes (.spnRun m sp) s fun t =>
    t.spFld fSPN_STAT_STATE sp = 3 ∧ Only { regs := theReg .SPN_STAT (spDie sp) (spIdx sp) } s t := by
  have h2 := State.spState_of_canRun hc
  refine Completes.of_unit (t := s.setSpFld fSPN_STAT_STATE sp 3) ?_ (decide_eq_true hsp)
    ⟨State.spFld_setSpFld_self _ _ (by decide), Only.setFld _ _ _ _ (theReg_self _ _ _)⟩
  change ifUnit _ (s.ctlWrite m sp _) = _
  rw [State.ctlWrite_single hd hr (by omega) (by omega)]
  simp only [State.ctlRequest, State.runOp, hc, if_true, State.setMatesFld_single hr, Bool.false_eq_true, if_false,
    Bool.and_false]
  rfl

/-- STEP starts a spindle that may run, with its request (R82). -/
theorem spnStep_completes (hsp : sp < 1536) (hd : s.dieUp (spDie sp) = true) (hr : s.inRealPly sp = false)
    (hc : s.canRun sp = true) : Completes (.spnStep m sp) s fun t =>
    t.spFld fSPN_STAT_STATE sp = 3 ∧ t.spFlag fSPN_CTL_STEP sp = true ∧ t.lat .stepDone sp 0 = 0 ∧
      Only { regs := regsIn [.SPN_STAT, .SPN_CTL] (spDie sp) (spIdx sp), lats := theLat .stepDone sp 0 } s t := by
  have h2 := State.spState_of_canRun hc
  refine Completes.of_unit (t := ((s.setSpFld fSPN_STAT_STATE sp 3).setSpFld fSPN_CTL_STEP sp 1).setLat .stepDone sp 0 0) ?_
    (decide_eq_true hsp) ⟨?_, ?_, State.lat_setLat_self .., ?_⟩
  · change ifUnit _ (s.ctlWrite m sp _) = _
    rw [State.ctlWrite_single hd hr (by omega) (by omega)]
    simp only [State.ctlRequest, State.runOp, hc, if_true, State.mates_single hr, Bool.false_eq_true, if_false, Bool.and_true]
    rfl
  · exact (State.spFld_setSpFld_other (by decide) ..).trans (State.spFld_setSpFld_self _ _ (by decide))
  · exact State.spFlag_of_fld (State.spFld_setSpFld_self (f := fSPN_CTL_STEP) _ _ (by decide))
  · exact ((Only.setFld _ _ _ _ fun _ => regsIn_self (by decide)).trans
      (Only.setFld _ _ _ _ fun _ => regsIn_self (by decide))).trans (Only.setLat _ _ _ _ (theLat_self ..))

/-- HALT asks a running or waiting spindle to halt (R82). -/
theorem spnHaltRequest_completes (hsp : sp < 1536) (hd : s.dieUp (spDie sp) = true) (hr : s.inRealPly sp = false)
    (hs : s.spState sp = 3 ∨ s.spState sp = 4) : Completes (.spnHaltRequest m sp) s fun t =>
    t.spFlag fSPN_CTL_HALT sp = true ∧ Only { regs := theReg .SPN_CTL (spDie sp) (spIdx sp) } s t := by
  refine Completes.of_unit (t := s.setSpFld fSPN_CTL_HALT sp 1) ?_ (decide_eq_true hsp)
    ⟨State.spFlag_of_fld (State.spFld_setSpFld_self _ _ (by decide)), Only.setFld _ _ _ _ (theReg_self _ _ _)⟩
  change ifUnit _ (s.ctlWrite m sp _) = _
  rw [State.ctlWrite_single hd hr (by omega) (by omega)]
  simp only [State.ctlRequest, State.runOp, if_pos hs, if_true, State.setMatesFld_single hr]
  rfl

/-- A request to a member of a ply is only recorded (R81). -/
theorem spnRun_ply (hsp : sp < 1536) (hr : s.inRealPly sp = true) (hm : m ≠ .hw) :
    Completes (.spnRun m sp) s (Only (Change.recording {}) s) := by
  refine Completes.of_unit rfl (decide_eq_true hsp) ?_
  unfold State.ctlWrite
  refine Only.ite (Only.refl _ s) ?_
  rw [if_pos (by simp [hr, hm])]
  exact Only.event _ _ _ _ (Change.records_recording _)

/-! ## Doorbells and the timer -/

/-- Doorbell bits that arrive at a powered spindle that does not wait are pending (R69). -/
theorem State.doorbell_powered {b : Nat} (hs : s.spState sp = 2 ∨ s.spState sp = 3) (hb : b < 2 ^ 32) :
    (s.doorbell sp b).spFld fSPN_DB_PEND_PEND sp = s.spFld fSPN_DB_PEND_PEND sp ||| b ∧
      Only { regs := theReg .SPN_DB_PEND (spDie sp) (spIdx sp), lats := theLat .dbArrived sp 0 } s (s.doorbell sp b) := by
  have hreg := State.spFld_of_spState (s := s) (sp := sp) (by omega) (by omega)
  have hpow := State.powered_of_spState (s := s) (sp := sp) (by omega) (by omega)
  have hlt : s.spFld fSPN_DB_PEND_PEND sp ||| b < 2 ^ 32 := Nat.or_lt_two_pow (getBits_lt _ 31 0) hb
  unfold State.doorbell
  extract_lets t₁ t
  have ht₁ : t₁.spFld fSPN_DB_PEND_PEND sp = s.spFld fSPN_DB_PEND_PEND sp ||| b := by
    rw [State.spFld_setSpFld_self _ _ (by decide), Nat.mod_eq_of_lt hb]
    exact Nat.mod_eq_of_lt hlt
  have hl : Only { lats := theLat .dbArrived sp 0 } t₁ t :=
    Only.ite (Only.setLat _ _ _ _ (theLat_self ..)) (Only.refl _ t₁)
  have ho : Only { regs := theReg .SPN_DB_PEND (spDie sp) (spIdx sp), lats := theLat .dbArrived sp 0 } s t :=
    (Only.setFld _ _ _ _ (theReg_self _ _ _)).trans (Only.ite (Only.setLat _ _ _ _ (theLat_self ..)) (Only.refl _ t₁))
  have hstate : t.spState sp = s.spState sp := ho.spState_eq ⟨by simp [theReg], by simp [theLat]⟩ sp
  have hwait : t.testWait sp = t := by
    rw [State.testWait, hstate, if_neg (by rcases hs with h | h <;> simp [h])]
  rw [if_neg (by omega), hpow, if_neg (by simp), hwait]
  exact ⟨(hl.spFld rfl).trans ht₁, ho⟩

/-- Doorbell bits arrive at a HALTED or RUNNING spindle of a live die (R69). -/
theorem doorbellSetArrive_completes {v : W64} (hsp : sp < 1536) (hd : s.dieUp (spDie sp) = true)
    (hs : s.spState sp = 2 ∨ s.spState sp = 3) : Completes (.doorbellSetArrive m sp v) s fun t =>
    t.spFld fSPN_DB_PEND_PEND sp = s.spFld fSPN_DB_PEND_PEND sp ||| getBits v 31 0 ∧
      Only { regs := theReg .SPN_DB_PEND (spDie sp) (spIdx sp), lats := theLat .dbArrived sp 0 } s t := by
  refine Completes.of_unit (t := s.doorbell sp (getBits v 31 0)) (congrArg (ifUnit _) (if_pos ?_)) (decide_eq_true hsp)
    (State.doorbell_powered hs (getBits_lt v 31 0))
  rcases hs with h | h <;> simp [hd, h]

/-- A timer past its compare value sets SPN_IRQ.TIMER (R72). -/
theorem timerCompare_completes (hsp : sp < 1536) (hp : s.spPowered sp = true)
    (ht : (s.reg .SPN_TIMER_CMP (spDie sp) (spIdx sp)).toNat ≤ s.now) : Completes (.timerCompare sp) s fun t =>
    t.spFlag fSPN_IRQ_TIMER sp = true ∧ Only { regs := theReg .SPN_IRQ (spDie sp) (spIdx sp) } s t :=
  Completes.of_unit (t := s.setSpFld fSPN_IRQ_TIMER sp 1)
    (congrArg (ifUnit _) (if_pos ⟨hp, ht⟩)) (decide_eq_true hsp)
    ⟨State.spFlag_of_fld (State.spFld_setSpFld_self _ _ (by decide)), Only.setFld _ _ _ _ (theReg_self _ _ _)⟩

end Sys2Proof.Machine
end

section
/-! PROOF. Refusals of committed writes, timeouts of WAIT, and the halt of a spindle in no ply of more than one (R59, R76, R82,
R178). -/

set_option Elab.async false

namespace Sys2Proof.Machine

variable {c : Change} {s t u : State} {m : Master} {sp pc : Nat} {w : W256}

/-! ## Refusals -/

/-- What a refusal does at its own spindle: ASYNC with the address of the first, and a record (R59). -/
def State.refused (s : State) (sp : Nat) (addr : W64) : State :=
  ((if s.spFlag fSPN_IRQ_ASYNC sp then s else s.setReg .SPN_ASYNC_ADDR (spDie sp) (spIdx sp) addr).setSpFld
    fSPN_IRQ_ASYNC sp 1).event 0x1106 .warn (s.spUnit sp) addr.toNat

/-- What a refusal changes at its own spindle. -/
def refusalFrame (sp : Nat) : Change := Change.recording { regs := regsIn [.SPN_IRQ, .SPN_ASYNC_ADDR] (spDie sp) (spIdx sp) }

/-- What a refusal changes at another member than `l`, its lead. -/
def noticeFrame (sp l : Nat) : Change :=
  Change.recording
    { regs := orReg (theReg .PLY_ENTRY_STAT (spDie l) (spIdx l)) (regsIn [.SPN_IRQ, .SPN_ASYNC_ADDR] (spDie sp) (spIdx sp)) }

theorem refusalFrame_le (sp l : Nat) : (refusalFrame sp).Le (noticeFrame sp l) := by
  have hregs : ∀ r d i, (refusalFrame sp).regs r d i = true → (noticeFrame sp l).regs r d i = true := fun r d i h => by
    simp only [refusalFrame, noticeFrame, Change.recording, orReg, Bool.or_eq_true] at h ⊢
    exact h.imp_left .inr
  exact { Change.Le.refl (refusalFrame sp) with regs := hregs }

theorem State.async_refused (s : State) (sp : Nat) (addr : W64) : (s.refused sp addr).spFlag fSPN_IRQ_ASYNC sp = true :=
  State.spFlag_of_fld (((Only.event _ _ _ _ (Change.records_recording {})).spFld rfl).trans
    (State.spFld_setSpFld_self _ _ (by decide)))

theorem State.asyncAddr_refused (s : State) (sp : Nat) (addr : W64) :
    (s.refused sp addr).reg .SPN_ASYNC_ADDR (spDie sp) (spIdx sp) =
      if s.spFlag fSPN_IRQ_ASYNC sp then s.reg .SPN_ASYNC_ADDR (spDie sp) (spIdx sp) else addr := by
  refine ((Only.event _ _ _ _ (Change.records_recording {})).1 _ _ _ rfl).trans ?_
  refine (State.reg_setReg_name _ (by decide) ..).trans ?_
  split
  · rfl
  · exact State.reg_setReg_self ..

theorem Only.refused (s : State) (sp : Nat) (addr : W64) : Only (refusalFrame sp) s (s.refused sp addr) := by
  have hself : ∀ r ∈ [Reg.SPN_IRQ, .SPN_ASYNC_ADDR], ∀ x, regHome r x = regHome r (spDie sp) →
      (refusalFrame sp).regs r x (spIdx sp) = true := fun r hr x hx =>
    (Change.le_recording _).regs _ _ _ (regsIn_self hr hx)
  exact (Only.trans (Only.ite (Only.refl _ s) (Only.setReg _ _ _ _ (hself .SPN_ASYNC_ADDR (by decide))))
    (Only.setFld _ _ _ _ (hself .SPN_IRQ (by decide)))).trans (Only.event _ _ _ _ (Change.records_recording _))

theorem State.refusal_lead {addr : W64} (h : s.isLead sp = true) : s.refusal sp addr = s.refused sp addr := by
  simp [State.refusal, State.refused, h]

theorem State.refusal_member {addr : W64} (hr : s.inRealPly sp = true) (h : s.isLead sp = false) (hl : s.leadOf sp ≠ sp) :
    s.refusal sp addr = (s.refused sp addr).notice (s.leadOf sp) 1 := by
  simp [State.refusal, State.refused, h, hr, hl]

theorem execWriteRefusalNotice_powered {addr : W64} (hsp : sp < 1536) (hd : s.dieUp (spDie sp) = true)
    (hp : s.spPowered sp = true) : exec (.writeRefusalNotice sp addr) s = .next (s.refusal sp addr) := by
  change execWriteRefusalNotice sp addr s = _
  simp [execWriteRefusalNotice, ifUnit, nSpindles, hsp, hd, hp]

/-- A refusal at member 0, or at a spindle in no ply, sets its ASYNC (R59). -/
theorem writeRefusalNotice_lead {addr : W64} (hsp : sp < 1536) (hd : s.dieUp (spDie sp) = true)
    (hp : s.spPowered sp = true) (h : s.isLead sp = true) : Completes (.writeRefusalNotice sp addr) s fun t =>
    t.spFlag fSPN_IRQ_ASYNC sp = true ∧ (t.reg .SPN_ASYNC_ADDR (spDie sp) (spIdx sp) =
      if s.spFlag fSPN_IRQ_ASYNC sp then s.reg .SPN_ASYNC_ADDR (spDie sp) (spIdx sp) else addr) ∧
      Only (refusalFrame sp) s t :=
  ⟨_, execWriteRefusalNotice_powered hsp hd hp, State.refusal_lead h ▸
    ⟨s.async_refused sp addr, s.asyncAddr_refused sp addr, Only.refused s sp addr⟩⟩

/-- A refusal at another member is also noted at member 0 (R178). -/
theorem writeRefusalNotice_member {addr : W64} {l : Nat} (hsp : sp < 1536) (hd : s.dieUp (spDie sp) = true)
    (hp : s.spPowered sp = true) (hr : s.inRealPly sp = true) (h : s.isLead sp = false) (hl : s.leadOf sp = l) (hn : l ≠ sp) :
    Completes (.writeRefusalNotice sp addr) s fun t =>
      t.spFlag fSPN_IRQ_ASYNC sp = true ∧ t.fld fPLY_ENTRY_STAT_NOTICE (spDie l) (spIdx l) =
        s.fld fPLY_ENTRY_STAT_NOTICE (spDie l) (spIdx l) ||| 1 ∧
      Only (noticeFrame sp l) s t := by
  subst hl
  have hu := Only.refused s sp addr
  have hnotice : (s.refused sp addr).fld fPLY_ENTRY_STAT_NOTICE (spDie (s.leadOf sp)) (spIdx (s.leadOf sp)) =
      s.fld fPLY_ENTRY_STAT_NOTICE (spDie (s.leadOf sp)) (spIdx (s.leadOf sp)) := State.fld_congr (hu.1 _ _ _ rfl)
  refine ⟨_, execWriteRefusalNotice_powered hsp hd hp, ?_⟩
  rw [State.refusal_member hr h hn]
  refine ⟨?_, ?_, ?_⟩
  · exact (State.flag_setFld_name _ (by decide) ..).trans (s.async_refused sp addr)
  · unfold State.notice
    rw [State.fld_setFld_self _ _ _ _ _ (by decide), hnotice]
    exact Nat.mod_eq_of_lt (Nat.or_lt_two_pow (getBits_lt _ 35 32) (by decide))
  · refine (hu.mono ?_).trans (Only.setFld _ _ _ _ fun y hy => ?_)
    · exact refusalFrame_le _ _
    · simp [noticeFrame, Change.recording, orReg, theReg, hy]

/-! ## The end of a word, a flush and a halt of one spindle -/

/-- What ends and halts of one spindle's words change. -/
def spindleFrame (sp : Nat) (rs : List Reg) : Change :=
  { regs := regsIn rs (spDie sp) (spIdx sp), lats := orLat (theLat .stepDone sp 0) (theLat .cleared sp 0),
    spins := fun k => k == sp }

theorem spindleFrame_keepsPlies {rs : List Reg} (h : Reg.HI_PKG_NUM ∉ rs) : (spindleFrame sp rs).KeepsPlies :=
  ⟨rfl, by simp [spindleFrame, regsIn, h]⟩

theorem spindleFrame_regs {rs : List Reg} {r : Reg} (h : r ∈ rs) (x : Nat) (hx : regHome r x = regHome r (spDie sp)) :
    (spindleFrame sp rs).regs r x (spIdx sp) = true := regsIn_self h hx

theorem spindleFrame_spin (rs : List Reg) : (spindleFrame sp rs).spins sp = true := beq_self_eq_true sp

theorem spindleFrame_stepDone (rs : List Reg) : (spindleFrame sp rs).lats .stepDone sp 0 = true := by
  simp [spindleFrame, orLat, theLat]

theorem spindleFrame_cleared (rs : List Reg) : (spindleFrame sp rs).lats .cleared sp 0 = true := by
  simp [spindleFrame, orLat, theLat]

section
variable {rs : List Reg} (h : s.inRealPly sp = false)
include h

/-- A word that leaves the spool of one spindle changes that spindle alone (R55, R58). -/
theorem Only.passWord_single (h1 : Reg.SPN_PC ∈ rs) (h2 : Reg.SPN_RETIRED ∈ rs) (pc : Nat) :
    Only (spindleFrame sp rs) s (s.passWord sp pc) := by
  rw [State.passWord_eq, State.mates_single h]
  exact ((((Only.setFld _ _ _ _ (spindleFrame_regs h1)).trans (Only.setFld _ _ _ _ (spindleFrame_regs h2))).trans
    (Only.updSpin _ _ (spindleFrame_spin _))).trans (Only.setLat _ _ _ _ (spindleFrame_stepDone _))).trans
    (Only.setLat _ _ _ _ (spindleFrame_cleared _))

/-- Discarding the words of one spindle changes that spindle alone. -/
theorem Only.flush_single (h1 : Reg.SPN_PC ∈ rs) (pc : Nat) : Only (spindleFrame sp rs) s (s.flush sp pc) := by
  refine Only.flush sp pc (Change.OfMates.single h (spindleFrame_regs h1)) (fun m hm => ?_) (spindleFrame_cleared _)
  rw [State.mates_single h, List.mem_singleton] at hm
  rw [hm]
  exact spindleFrame_spin _

/-- The halt of one spindle changes that spindle alone. -/
theorem Only.halted_single (h1 : Reg.SPN_STAT ∈ rs) (h2 : Reg.SPN_CTL ∈ rs) : Only (spindleFrame sp rs) s (s.halted sp) := by
  unfold State.halted
  rw [State.mates_single h]
  exact ((((Only.setFld _ _ _ _ (spindleFrame_regs h1)).trans (Only.setFld _ _ _ _ (spindleFrame_regs h2))).trans
    (Only.setFld _ _ _ _ (spindleFrame_regs h2))).trans (Only.setFld _ _ _ _ (spindleFrame_regs h2))).trans
    (Only.setLat _ _ _ _ (spindleFrame_stepDone _))

end

@[simp] theorem State.inRealPly_updSpin (k : Nat) (f : Spin → Spin) (i : Nat) :
    (s.updSpin k f).inRealPly i = s.inRealPly i := rfl

/-- A field of a register of a spindle is in no ply's list. -/
theorem State.inRealPly_setSpFld {f : RField} (h : Reg.HI_PKG_NUM ≠ f.reg) (k x i : Nat) :
    (s.setSpFld f k x).inRealPly i = s.inRealPly i :=
  (Only.setFld (c := { regs := regsOf [f.reg] }) f (spDie k) (spIdx k) x fun _ _ => by simp [regsOf]).inRealPly_eq
    ⟨rfl, by simp [regsOf, h]⟩ i

/-! ## Timeouts of WAIT -/

/-- Words are as fresh as the memory they issued from. -/
theorem State.freshWords_congr (h : ∀ p, t.wordAt sp p = s.wordAt sp p) (n : Nat) (l : List Entry) :
    t.freshWords sp n l = s.freshWords sp n l := by
  induction l generalizing n with
  | nil => cases n <;> rfl
  | cons e es ih => cases n <;> simp only [State.freshWords, h, ih]

theorem Spin.getP_setP (x : Spin) {k : Nat} (hk : k ≠ 0) (v : Bool) : (x.setP k v).getP k = v := by
  rw [Spin.getP, if_neg hk, Spin.setP, if_neg hk]
  exact sget_sset_self ..

/-- A predicate write leaves the registers. -/
theorem Spin.getG_setP (x : Spin) (k r : Nat) (v : Bool) : (x.setP k v).getG r = x.getG r := by
  unfold Spin.setP; split <;> rfl

theorem Spin.spool_setP (x : Spin) (k : Nat) (v : Bool) : (x.setP k v).spool = x.spool := by
  unfold Spin.setP; split <;> rfl

theorem State.getP_passed (s : State) (sp pc k : Nat) (x : Spin) : (s.passed sp pc x).getP k = x.getP k := rfl

theorem State.spool_passed (s : State) (sp pc : Nat) (x : Spin) :
    (s.passed sp pc x).spool = s.freshWords sp (s.lat .cleared sp 0 - 1) (x.spool.drop 1) := rfl

/-- What the end of a WAIT leaves of one spindle before the word retires. -/
theorem State.waitEnded_single (h : s.inRealPly sp = false) (hit : Option Nat) :
    s.waitEnded sp w hit =
      ((s.setSpFld fSPN_DB_PEND_PEND sp (s.spFld fSPN_DB_PEND_PEND sp &&& (0xFFFFFFFF ^^^ hit.getD 0))).updSpin sp fun x =>
        (x.setG (wGC w) (BitVec.ofNat 64 (hit.getD 0))).setP (wPD w) hit.isSome).setSpFld fSPN_STAT_STATE sp 3 := by
  have h1 : (s.setSpFld fSPN_DB_PEND_PEND sp (s.spFld fSPN_DB_PEND_PEND sp &&& (0xFFFFFFFF ^^^ hit.getD 0))).inRealPly sp =
      false := (State.inRealPly_setSpFld (by decide) ..).trans h
  rw [State.waitEnded, State.updMates_single h1]
  exact State.setMatesFld_single ((State.inRealPly_updSpin ..).trans h1) ..

/-- The registers a timeout of WAIT changes. -/
def waitRegs : List Reg := [.SPN_PC, .SPN_RETIRED, .SPN_STAT, .SPN_DB_PEND]

section
variable (h : s.inRealPly sp = false)
include h

theorem Only.waitEnded_single (hit : Option Nat) : Only (spindleFrame sp waitRegs) s (s.waitEnded sp w hit) := by
  rw [State.waitEnded_single h]
  exact ((Only.setFld _ _ _ _ (spindleFrame_regs (by decide))).trans (Only.updSpin _ _ (spindleFrame_spin _))).trans
    (Only.setFld _ _ _ _ (spindleFrame_regs (by decide)))

theorem State.spin_waitEnded_single (hit : Option Nat) : (s.waitEnded sp w hit).spin sp =
    ((s.spin sp).setG (wGC w) (BitVec.ofNat 64 (hit.getD 0))).setP (wPD w) hit.isSome := by
  rw [State.waitEnded_single h, State.setSpFld, State.spin_setFld, State.spin_updSpin_self]
  rfl

theorem State.state_waitEnded_single (hit : Option Nat) : (s.waitEnded sp w hit).spFld fSPN_STAT_STATE sp = 3 := by
  rw [State.waitEnded_single h]
  exact State.spFld_setSpFld_self _ _ (by decide)

theorem State.inRealPly_waitEnded_single (hit : Option Nat) : (s.waitEnded sp w hit).inRealPly sp = false :=
  ((Only.waitEnded_single h hit).inRealPly_eq (spindleFrame_keepsPlies (by decide)) sp).trans h

theorem State.mem_mates_single : (0, sp) ∈ s.mates sp := by rw [State.mates_single h]; exact List.mem_singleton.mpr rfl

/-- The word of one spindle that retires leaves it its state but for the spool. -/
theorem State.spin_retire_single (pc : Nat) : (s.retire sp pc).spin sp = s.passed sp pc (s.spin sp) :=
  State.spin_retire (by rw [State.mates_single h]; exact List.nodup_singleton _) (State.mem_mates_single h)

/-- Retiring leaves the state of one spindle. -/
theorem State.state_retire_single (pc : Nat) : (s.retire sp pc).spFld fSPN_STAT_STATE sp = s.spFld fSPN_STAT_STATE sp := by
  rw [State.retire_single h]
  exact (Only.passWord_single h (rs := [.SPN_PC, .SPN_RETIRED]) (by decide) (by decide) pc).spFld rfl

/-- What is fresh of the rest of the spool at the end of a WAIT was fresh before. -/
theorem State.freshWords_waitEnded_single (hit : Option Nat) (n : Nat) (l : List Entry) :
    (s.waitEnded sp w hit).freshWords sp n l = s.freshWords sp n l :=
  State.freshWords_congr (fun _ => by rw [State.wordAt, (Only.waitEnded_single h hit).bytes fun _ => rfl]; rfl) n l

theorem State.cleared_waitEnded_single (hit : Option Nat) :
    (s.waitEnded sp w hit).lat .cleared sp 0 = s.lat .cleared sp 0 := by
  rw [State.waitEnded_single h]; rfl

end

/-- A WAIT that times out without a match writes 0 and false, and its spindle runs on past it (R76). -/
theorem waitTimeout_completes {e : Entry} (hsp : sp < 1536) (h : s.inRealPly sp = false) (hst : s.spState sp = 4)
    (he : (s.spin sp).spool.head? = some e) (hg : (s.spin sp).getG (wGB e.word) ≠ BitVec.allOnes 64)
    (hm : s.waitMatch sp e.word = none) (hp : wPD e.word ≠ 0) (hh : s.spFlag fSPN_CTL_HALT sp = false) :
    Completes (.waitTimeout sp) s fun t =>
      t.spFld fSPN_STAT_STATE sp = 3 ∧ (t.spin sp).getG (wGC e.word) = 0 ∧ (t.spin sp).getP (wPD e.word) = false ∧
        (t.spin sp).spool = s.freshWords sp (s.lat .cleared sp 0 - 1) ((s.spin sp).spool.drop 1) ∧
        t.spFld fSPN_PC_WORD sp = (e.pc + 1) % 16384 ∧ Only (spindleFrame sp waitRegs) s t := by
  refine ⟨_, hm ▸ execWaitTimeout_ends hsp (State.isLead_single h) hst hh he hg, ?_⟩
  rw [State.endWait_eq]
  have hi := State.inRealPly_waitEnded_single (w := e.word) h none
  refine ⟨?_, ?_, ?_, ?_, State.pc_retire (m := (0, sp)) (State.mem_mates_single hi), ?_⟩
  · rw [State.state_retire_single hi, State.state_waitEnded_single h]
  · rw [State.getG_retire, State.spin_waitEnded_single h, Spin.getG_setP, Spin.getG_setG]
    rfl
  · rw [State.spin_retire_single hi, State.getP_passed, State.spin_waitEnded_single h, Spin.getP_setP _ hp]
    rfl
  · rw [State.spin_retire_single hi, State.spool_passed, State.spin_waitEnded_single h, Spin.spool_setP,
      State.freshWords_waitEnded_single h, State.cleared_waitEnded_single h]
    rfl
  · rw [State.retire_single hi]
    exact (Only.waitEnded_single h none).trans (Only.passWord_single hi (by decide) (by decide) _)

/-! ## The halt -/

/-- Discarding words puts every member's PC where it says. -/
theorem State.pc_flush {x : Nat × Nat} (hx : x ∈ s.mates sp) :
    (s.flush sp pc).spFld fSPN_PC_WORD x.2 = pc % 16384 :=
  State.each_reaches s (P := fun t => t.spFld fSPN_PC_WORD x.2 = pc % 16384) hx
    (fun _ => State.spFld_setSpFld_self _ _ (by decide)) fun y _ h => State.spFld_setSpFld_again (by decide) h y.2

/-- Discarding words empties every member's spool. -/
theorem State.spool_flush {x : Nat × Nat} (hx : x ∈ s.mates sp) : ((s.flush sp pc).spin x.2).spool = [] := by
  refine State.each_reaches s (P := fun t => (t.spin x.2).spool = []) hx (fun t => ?_) fun y t h => ?_
  · rw [State.spin_updSpin_self]
  · rw [State.spin_updSpin]
    split
    · rfl
    · exact h

/-- A request that the halt ends reads 0 in every member (R82). -/
theorem State.request_halted {f : RField} (hf : f = fSPN_CTL_HALT ∨ f = fSPN_CTL_STEP) {x : Nat × Nat}
    (hx : x ∈ s.mates sp) : (s.halted sp).spFlag f x.2 = false := by
  refine State.spFlag_of_fld_zero ?_
  rcases hf with rfl | rfl
  · refine State.each_reaches s (P := fun t => t.spFld fSPN_CTL_HALT x.2 = 0) hx (fun t => ?_) fun y t h => ?_
    · exact (State.spFld_setSpFld_other (by decide) ..).trans (State.spFld_setSpFld_self _ _ (by decide))
    · refine (State.spFld_setSpFld_other (by decide) ..).trans (State.spFld_setSpFld_again (by decide) ?_ y.2)
      exact (State.spFld_setSpFld_other (by decide) ..).trans ((State.spFld_setSpFld_other (by decide) ..).trans h)
  · refine State.each_reaches s (P := fun t => t.spFld fSPN_CTL_STEP x.2 = 0) hx (fun t => ?_) fun y t h => ?_
    · exact (State.spFld_setSpFld_other (by decide) ..).trans ((State.spFld_setSpFld_other (by decide) ..).trans
        (State.spFld_setSpFld_self _ _ (by decide)))
    · refine (State.spFld_setSpFld_other (by decide) ..).trans ((State.spFld_setSpFld_other (by decide) ..).trans
        (State.spFld_setSpFld_again (by decide) ?_ y.2))
      exact (State.spFld_setSpFld_other (by decide) ..).trans h

/-- The registers the halt of a spindle changes. -/
def haltRegs : List Reg := [.SPN_PC, .SPN_STAT, .SPN_CTL]

/-- A spindle with a halt request, or a done step, halts at its oldest word (R79, R82). -/
theorem spindleHalted_completes (hsp : sp < 1536) (h : s.inRealPly sp = false) (hst : s.spState sp = 3 ∨ s.spState sp = 4)
    (hq : s.spFlag fSPN_CTL_HALT sp = true ∨ s.lat .stepDone sp 0 ≠ 0) (hb : s.between sp = true) :
    Completes (.spindleHalted sp) s fun t =>
      t.spFld fSPN_STAT_STATE sp = 2 ∧ t.spFlag fSPN_CTL_HALT sp = false ∧ t.spFlag fSPN_CTL_STEP sp = false ∧
        (t.spin sp).spool = [] ∧ ((s.spin sp).overrun = false → t.spFld fSPN_PC_WORD sp = s.headPc sp % 16384) ∧
        Only (spindleFrame sp haltRegs) s t := by
  obtain ⟨pc, hpc⟩ : ∃ pc, (if (s.spin sp).spool.isEmpty && (s.spin sp).overrun then 16384 else s.headPc sp) = pc := ⟨_, rfl⟩
  have hrun : exec (.spindleHalted sp) s = .next ((s.flush sp pc).halted sp) := by
    subst hpc
    exact (congrArg (ifUnit _) (if_pos (by simp [State.isLead_single h, hst, hq, hb]))).trans (if_pos (decide_eq_true hsp))
  have hfl : Only (spindleFrame sp haltRegs) s (s.flush sp pc) := Only.flush_single h (by decide) pc
  have hi : (s.flush sp pc).inRealPly sp = false := (hfl.inRealPly_eq (spindleFrame_keepsPlies (by decide)) sp).trans h
  have hm := State.mem_mates_single h
  have hm' := State.mem_mates_single hi
  have hh := Only.halted_frame (s.flush sp pc) sp
  refine ⟨_, hrun, State.state_halted (m := (0, sp)) hm', State.request_halted (x := (0, sp)) (.inl rfl) hm',
    State.request_halted (x := (0, sp)) (.inr rfl) hm', ?_, fun ho => ?_,
    hfl.trans (Only.halted_single hi (by decide) (by decide))⟩
  · rw [hh.spin rfl]
    exact State.spool_flush hm
  · rw [hh.spFld rfl, State.pc_flush (x := (0, sp)) hm, ← hpc, ho, Bool.and_false, if_neg Bool.false_ne_true]

/-- Settles O51, command by command: what each changes at its one spindle, and what is only recorded in a ply. -/
theorem spindleControlCommandsComplete : Obligations.SpindleControlCommandsComplete :=
  ⟨fun _ _ _ hsp hd hr hc => spnRun_completes hsp hd hr hc, fun _ _ _ hsp hd hr hc => spnStep_completes hsp hd hr hc,
    fun _ _ _ hsp hd hr hs => spnHaltRequest_completes hsp hd hr hs, fun _ _ _ hsp _ hr hm => spnRun_ply hsp hr hm,
    fun _ _ _ _ hsp hd hs => doorbellSetArrive_completes hsp hd hs, fun _ _ hsp hp ht => timerCompare_completes hsp hp ht,
    fun _ _ _ hsp hd hp h => writeRefusalNotice_lead hsp hd hp h,
    fun _ _ _ _ hsp hd hp hr h hl hn => writeRefusalNotice_member hsp hd hp hr h hl hn,
    fun _ _ _ hsp h hst he hg hm hp hh => waitTimeout_completes hsp h hst he hg hm hp hh,
    fun _ _ hsp h hst hq hb => spindleHalted_completes hsp h hst hq hb⟩

end Sys2Proof.Machine
end

section
/-! PROOF. The spool of a spindle (R52, R53, R55, R58, R61, R63, R64, R73): the word that issues, completes or replays, and the
exception or interrupt that is taken. -/

set_option Elab.async false

namespace Sys2Proof.Machine

variable {c : Change} {s t u : State} {sp l pc : Nat} {w : W256} {h : Entry}

/-! ## Issue -/

/-- A bank that is on and asked to be, and of which no line is borrowed, serves an access and is marked used (R252). -/
theorem State.bankReach_on {b : Bank} (hs : s.bankSupply b = 2) (ho : s.bankOwn b = 2) (hr : s.bankReq b = 2)
    (hb : s.borrowedIn b = none) (off n : Nat) : s.bankReach b off n = (.serve, s.bankUsed b) := by
  have hn : s.bankName b off n = s := by simp only [State.bankName, hb]
  unfold State.bankReach State.bankTouch
  rw [hn, if_neg (not_not_intro hs), if_pos ⟨ho, hr⟩]

/-- The next word, which its bank serves and nothing older holds back, joins the spool (R55). -/
theorem State.issue_served (hpc : s.nextPc sp = pc) (hlt : pc < 16384)
    (hb : s.bankReach (padBank sp (32 * pc)) (32 * pc) 32 = (.serve, u)) (hw : s.wordAt sp pc = w)
    (hl : ((s.spin sp).spool.all fun e => e.lets w) = true) :
    s.issue sp = u.pushEntry sp ⟨w, pc, if (s.spin sp).spool.isEmpty then decodeCause s sp w else none, false⟩ := by
  simp only [State.issue, hpc, if_neg (Nat.not_le.mpr hlt), hb, hw, hl, if_true]

/-- The words of a stream stand in bank 0. -/
theorem padBank_word (hlt : pc < 16384) : padBank sp (32 * pc) = .pad sp 0 := by
  have : 32 * pc / 0x80000 = 0 := by omega
  rw [padBank, this]

/-- The next word in program order joins the spool of a spindle in no ply of more than one (R53, R55). -/
theorem wordIssue_completes (hsp : sp < 1536) (h : s.inRealPly sp = false) (hm : s.mayIssue sp = true)
    (hw : s.window sp = true) (hpc : s.nextPc sp = pc) (hlt : pc < 16384) (hs : s.bankSupply (padBank sp (32 * pc)) = 2)
    (ho : s.bankOwn (padBank sp (32 * pc)) = 2) (hr : s.bankReq (padBank sp (32 * pc)) = 2)
    (hb : s.borrowedIn (padBank sp (32 * pc)) = none) (hword : s.wordAt sp pc = w)
    (hl : ((s.spin sp).spool.all fun e => e.lets w) = true) : Completes (.wordIssue sp) s fun t =>
    (t.spin sp).spool = (s.spin sp).spool ++
      [⟨w, pc, if (s.spin sp).spool.isEmpty then decodeCause s sp w else none, false⟩] ∧
    Only { spins := fun k => k == sp, lats := theLat .bankIdle (spDie sp) (spIdx sp * 4) } s t := by
  have hissue := State.issue_served hpc hlt (State.bankReach_on hs ho hr hb _ _) hword hl
  have hu : Only { lats := theLat .bankIdle (spDie sp) (spIdx sp * 4) } s (s.bankUsed (.pad sp 0)) :=
    Only.setLat _ _ _ _ (theLat_self ..)
  rw [padBank_word hlt, State.pushEntry, State.updMates_single ((hu.inRealPly_eq ⟨rfl, rfl⟩ sp).trans h)] at hissue
  refine Completes.of_unit (congrArg (ifUnit _) ((if_pos (by simp [hm, hw])).trans hissue)) (decide_eq_true hsp) ⟨?_, ?_⟩
  · rw [State.spin_updSpin_self]
    rfl
  · exact (Only.setLat _ _ _ _ (theLat_self ..)).trans (Only.updSpin _ _ (beq_self_eq_true sp))

/-! ## Completion and replay -/

/-- A spindle that can perform a word is RUNNING. -/
theorem State.spState_of_canPerform (h : s.canPerform sp w = true) : s.spState sp = 3 := by
  simp only [State.canPerform, Bool.and_eq_true, beq_iff_eq] at h
  exact h.1.1.1.1.1.2

/-- A word of a false predicate, of which nothing is found wrong, only retires (R92). -/
theorem State.completeHead_skipped (hh : (s.spin l).spool.head? = some h) (hc : h.cause = none)
    (hd : decodeCause s l h.word = none) (hp : (s.spin l).getP (wPred h.word) = false) (hst : s.spState l = 3) :
    s.completeHead l h.word = s.retire l (h.pc + 1) := by
  have hne : (s.spin l).spool.isEmpty = false := by
    cases k : (s.spin l).spool with
    | nil => rw [k] at hh; cases hh
    | cons e es => rfl
  simp only [State.completeHead, State.performWord, hne, Bool.false_and, State.headPc, hh, State.wordOutcome,
    State.streamCause, hc, hd, hp, State.finishWord, State.endWord, hst, if_true, Bool.false_eq_true, if_false]

/-- The oldest word of a false predicate retires without another effect (R52, R58, R92). -/
theorem wordComplete_skipped (hsp : sp < 1536) (hl : s.leadOf sp = l) (hn : ((s.mates l).map fun x => x.2).Nodup)
    (hh : (s.spin l).spool.head? = some h) (hp : s.canPerform l h.word = true) (hc : h.cause = none)
    (hd : decodeCause s l h.word = none) (hf : (s.spin l).getP (wPred h.word) = false) :
    Completes (.wordComplete sp .ok) s fun t =>
      (∀ x ∈ s.mates l, (t.spin x.2).spool = s.freshWords l (s.lat .cleared l 0 - 1) ((s.spin x.2).spool.drop 1) ∧
        t.spFld fSPN_PC_WORD x.2 = (h.pc + 1) % 16384) ∧ Only (s.wordFrame l) s t := by
  refine Completes.of_unit (t := s.retire l (h.pc + 1)) ?_ (decide_eq_true hsp)
    ⟨fun x hx => ⟨by rw [State.spin_retire hn hx]; rfl, State.pc_retire hx⟩, Only.retire_wordFrame ..⟩
  change execWordComplete sp .ok s = _
  simp only [execWordComplete, hl, hh, hp, if_true,
    State.completeHead_skipped hh hc hd hf (State.spState_of_canPerform hp)]
  rfl

/-- What a replay changes. -/
def State.replayFrame (s : State) (sp : Nat) : Change :=
  Change.recording { spins := fun k => k == sp, lats := theLat .injReplay (s.spUnit sp) 0, tallies := true }

/-- A step whose check fails, not for the fourth time, is counted, recorded and made again (R61). -/
theorem State.replayWord_counted (hr : (s.spin sp).replays < 3) (hc : s.countsOnly 0x00 (s.spUnit sp) = true) :
    (s.replayWord sp).spin sp = { s.spin sp with replays := (s.spin sp).replays + 1 } ∧
      Only (s.replayFrame sp) s (s.replayWord sp) := by
  obtain ⟨a, ha⟩ : ∃ a, (s.setLat .injReplay (s.spUnit sp) 0 0).updSpin sp
    (fun x => { x with replays := x.replays + 1 }) = a := ⟨_, rfl⟩
  have hax : a.spin sp = { s.spin sp with replays := (s.spin sp).replays + 1 } := by
    rw [← ha, State.spin_updSpin_self]; rfl
  have hoa : Only { spins := fun k => k == sp, lats := theLat .injReplay (s.spUnit sp) 0 } s a :=
    ha ▸ (Only.setLat _ _ _ _ (theLat_self ..)).trans (Only.updSpin _ _ (beq_self_eq_true sp))
  have hev : Only (Change.recording {}) a (a.event 0x1110 .note (s.spUnit sp) 0) :=
    Only.event _ _ _ _ (Change.records_recording _)
  have hcount : (a.event 0x1110 .note (s.spUnit sp) 0).countsOnly 0x00 (s.spUnit sp) = true := by
    rw [State.countsOnly_congr hev rfl (fun _ _ => rfl) rfl rfl, State.countsOnly_congr hoa rfl (fun _ _ => rfl) rfl rfl, hc]
  have hoc : Only (Change.recording { tallies := true }) (a.event 0x1110 .note (s.spUnit sp) 0)
      ((a.event 0x1110 .note (s.spUnit sp) 0).occur 0x00 (s.spUnit sp)) :=
    Only.occur_of_countsOnly hcount (Change.records_recording _) rfl
  have heq : s.replayWord sp = (a.event 0x1110 .note (s.spUnit sp) 0).occur 0x00 (s.spUnit sp) := by
    subst ha
    exact if_neg (Nat.not_le.mpr hr)
  rw [heq]
  refine ⟨((hoc.spin rfl).trans (hev.spin rfl)).trans hax, ?_⟩
  have hor : Only (s.replayFrame sp) s a := ha ▸
    (Only.setLat _ _ _ _ ((Change.le_recording _).lats _ _ _ (theLat_self ..))).trans (Only.updSpin _ _ (beq_self_eq_true sp))
  exact (hor.trans (Only.event _ _ _ _ (Change.records_recording _))).trans
    (Only.occur_of_countsOnly hcount (Change.records_recording _) rfl)

/-- A word that accumulates, whose step fails its check, replays (R61). -/
theorem wordComplete_replays (hsp : sp < 1536) (hh : (s.spin sp).spool.head? = some h) (hl : s.leadOf sp = sp)
    (hp : s.canPerform sp h.word = true) (ha : accumulates h.word = true) (hr : (s.spin sp).replays < 3)
    (hc : s.countsOnly 0x00 (s.spUnit sp) = true) : Completes (.wordComplete sp .residue) s fun t =>
    (t.spin sp).replays = (s.spin sp).replays + 1 ∧ (t.spin sp).spool = (s.spin sp).spool ∧
      Only (s.replayFrame sp) s t := by
  obtain ⟨hx, ho⟩ := State.replayWord_counted hr hc
  refine Completes.of_unit (t := s.replayWord sp) ?_ (decide_eq_true hsp) ⟨by rw [hx], by rw [hx], ho⟩
  change execWordComplete sp .residue s = _
  simp only [execWordComplete, hl, hh, hp, ha, if_true]
  rfl

end Sys2Proof.Machine
end

section
/-! PROOF. The exception of the oldest word and the pending interrupt that are taken (R63 to R65, R73), in every member. -/

set_option Elab.async false

namespace Sys2Proof.Machine

variable {c : Change} {s t u : State} {sp pc cause vec n : Nat} {info : W64} {x : Nat × Nat} {h : Entry} {rs : List Reg}

/-! ## Frames of the members -/

/-- Registers of some names, and what the members of a spindle's ply keep of a word in progress. -/
def State.membersFrame (s : State) (sp : Nat) (rs : List Reg) : Change :=
  { regs := regsOf rs, lats := latsOf [.stepDone, .cleared], spins := fun k => (s.mates sp).any (fun x => x.2 == k) }

theorem membersFrame_regs {r : Reg} (hr : r ∈ rs) (d i : Nat) : (s.membersFrame sp rs).regs r d i = true := by
  simp [State.membersFrame, regsOf, hr]

theorem membersFrame_keepsPlies (hk : Reg.HI_PKG_NUM ∉ rs) : (s.membersFrame sp rs).KeepsPlies :=
  ⟨rfl, by simp [State.membersFrame, regsOf, hk]⟩

/-- Words discarded after changes of the members stay in their frame. -/
theorem Only.flush_members (ho : Only (s.membersFrame sp rs) s t) (hr : Reg.SPN_PC ∈ rs)
    (hk : Reg.HI_PKG_NUM ∉ rs) (pc : Nat) : Only (s.membersFrame sp rs) s (t.flush sp pc) :=
  ho.trans (Only.flush sp pc (fun _ _ _ _ => membersFrame_regs hr _ _)
    (fun m hm => List.any_eq_true.mpr ⟨m, ho.mates_eq (membersFrame_keepsPlies hk) sp ▸ hm, by simp⟩) rfl)

/-- A field that is set in every member after changes of them stays in their frame. -/
theorem Only.setMatesFld_members {f : RField} (ho : Only (s.membersFrame sp rs) s t) (hr : f.reg ∈ rs) (n : Nat) :
    Only (s.membersFrame sp rs) s (t.setMatesFld f sp n) :=
  ho.trans (Only.setMatesFld f sp n fun _ _ _ _ => membersFrame_regs hr _ _)

/-! ## What is noted -/

/-- What an exception leaves in one member: cause, word index and information (R63). -/
def noteFault (pc cause : Nat) (info : W64) (x : Nat × Nat) (t : State) : State :=
  ((t.setSpFld fSPN_EXC_CAUSE_CAUSE x.2 cause).setSpFld fSPN_EXC_PC_WORD x.2 pc).setReg .SPN_EXC_INFO
    (spDie x.2) (spIdx x.2) info

/-- What an exception leaves in every member, and which member raised it at member 0 of a ply. -/
def State.faultNoted (s : State) (sp pc cause : Nat) (info : W64) (mem : Nat) : State :=
  if s.inRealPly sp then
    (s.each (s.mates sp) (noteFault pc cause info)).setFld fPLY_ENTRY_STAT_EXC_MEMBER (spDie sp) (spIdx sp) mem
  else s.each (s.mates sp) (noteFault pc cause info)

/-- The registers that an exception notes itself in. -/
def faultRegs : List Reg := [.SPN_PC, .SPN_EXC_CAUSE, .SPN_EXC_PC, .SPN_EXC_INFO, .SPN_STAT, .SPN_CTL, .PLY_ENTRY_STAT]

theorem Only.faultNoted (s : State) (sp pc cause : Nat) (info : W64) (mem : Nat) :
    Only (s.membersFrame sp faultRegs) s (s.faultNoted sp pc cause info mem) := by
  have he : Only (s.membersFrame sp faultRegs) s (s.each (s.mates sp) (noteFault pc cause info)) :=
    Only.each _ _ (fun m _ t => ((Only.setFld _ _ _ _ fun _ _ => rfl).trans (Only.setFld _ _ _ _ fun _ _ => rfl)).trans
      (Only.setReg _ _ _ _ fun _ _ => rfl)) s
  exact Only.ite (he.trans (Only.setFld _ _ _ _ fun _ _ => rfl)) he

/-- What an exception is read to have been in one member. -/
structure State.Faulted (s : State) (k pc cause : Nat) (info : W64) : Prop where
  cause : s.spFld fSPN_EXC_CAUSE_CAUSE k = cause
  word : s.spFld fSPN_EXC_PC_WORD k = pc
  info : s.reg .SPN_EXC_INFO (spDie k) (spIdx k) = info

/-- Every member notes the exception (R63). -/
theorem State.faulted_faultNoted (hc : cause < 256) (hpc : pc < 16384) (hx : x ∈ s.mates sp) (mem : Nat) :
    (s.faultNoted sp pc cause info mem).Faulted x.2 pc cause info := by
  have hn : (s.each (s.mates sp) (noteFault pc cause info)).Faulted x.2 pc cause info := by
    have hcm : cause % 2 ^ (fSPN_EXC_CAUSE_CAUSE.hi + 1 - fSPN_EXC_CAUSE_CAUSE.lo) = cause := Nat.mod_eq_of_lt hc
    have hpm : pc % 2 ^ (fSPN_EXC_PC_WORD.hi + 1 - fSPN_EXC_PC_WORD.lo) = pc := Nat.mod_eq_of_lt hpc
    have hreg : ∀ (f : RField) (k : Nat) (t : State) y, f.reg ≠ .SPN_EXC_INFO →
        (t.setReg .SPN_EXC_INFO (spDie y) (spIdx y) info).spFld f k = t.spFld f k :=
      fun f k t y hf => State.fld_congr (State.reg_setReg_name _ hf ..)
    refine State.each_reaches s (P := fun t => t.Faulted x.2 pc cause info) hx (fun t => ⟨?_, ?_, ?_⟩)
      fun y t h => ⟨?_, ?_, ?_⟩
    · exact (hreg _ _ _ _ (by decide)).trans ((State.spFld_setSpFld_other (by decide) ..).trans
        ((State.spFld_setSpFld_self _ _ (by decide)).trans hcm))
    · exact (hreg _ _ _ _ (by decide)).trans ((State.spFld_setSpFld_self _ _ (by decide)).trans hpm)
    · exact State.reg_setReg_self ..
    · exact (hreg _ _ _ _ (by decide)).trans ((State.spFld_setSpFld_other (by decide) ..).trans
        ((State.spFld_setSpFld_again (by decide) (h.cause.trans hcm.symm) y.2).trans hcm))
    · exact (hreg _ _ _ _ (by decide)).trans ((State.spFld_setSpFld_again (by decide)
        ((State.spFld_setSpFld_other (by decide) ..).trans (h.word.trans hpm.symm)) y.2).trans hpm)
    · rw [noteFault, State.reg_setReg]
      split
      · rfl
      · exact (State.reg_setReg_name _ (by decide) ..).trans ((State.reg_setReg_name _ (by decide) ..).trans h.info)
  unfold State.faultNoted
  split
  · exact ⟨(State.fld_setFld_name _ (by decide) ..).trans hn.cause, (State.fld_setFld_name _ (by decide) ..).trans hn.word,
      (State.reg_setReg_name _ (by decide) ..).trans hn.info⟩
  · exact hn

/-- What leaves the exception registers alone leaves the exception read. -/
theorem State.Faulted.of_only (h : s.Faulted x.2 pc cause info) (ho : Only c s t)
    (hr : ∀ r ∈ [Reg.SPN_EXC_CAUSE, .SPN_EXC_PC, .SPN_EXC_INFO], ∀ d i, c.regs r d i = false) :
    t.Faulted x.2 pc cause info :=
  ⟨(ho.spFld (hr _ (by decide) _ _)).trans h.cause, (ho.spFld (hr _ (by decide) _ _)).trans h.word,
    (ho.1 _ _ _ (hr _ (by decide) _ _)).trans h.info⟩

/-! ## Vector and halt -/

/-- What a vector or a halt changes beside what was noted. -/
def leaveFrame : Change :=
  { regs := regsOf [.SPN_PC, .SPN_STAT, .SPN_CTL], lats := latsOf [.stepDone, .cleared], spins := fun _ => true }

theorem Only.flush_leave (s : State) (sp pc : Nat) : Only leaveFrame s (s.flush sp pc) :=
  Only.flush sp pc (fun _ _ _ _ => rfl) (fun _ _ => rfl) rfl

theorem Only.setMatesFld_leave (s : State) (f : RField) (hf : f.reg = .SPN_STAT) (sp n : Nat) :
    Only leaveFrame s (s.setMatesFld f sp n) := Only.setMatesFld f sp n fun _ _ _ _ => by rw [hf]; rfl

theorem leaveFrame_keepsPlies : leaveFrame.KeepsPlies := ⟨rfl, rfl⟩

theorem State.mates_setMatesFld (f : RField) (hf : f.reg = .SPN_STAT) (sp n k : Nat) :
    (s.setMatesFld f sp n).mates k = s.mates k := (Only.setMatesFld_leave s f hf sp n).mates_eq leaveFrame_keepsPlies k

theorem State.mates_flush (sp pc k : Nat) : (s.flush sp pc).mates k = s.mates k :=
  (Only.flush_leave s sp pc).mates_eq leaveFrame_keepsPlies k

/-- The members stand at a vector, in the handler, and run. -/
structure State.InHandler (s : State) (k vec : Nat) : Prop where
  word : s.spFld fSPN_PC_WORD k = vec
  handler : s.spFlag fSPN_STAT_IN_HANDLER k = true
  state : s.spFld fSPN_STAT_STATE k = 3

/-- An exception vectors every member (R65). -/
theorem State.inHandler_vectored (hx : x ∈ s.mates sp) (hv : vec < 16384) :
    (((s.flush sp vec).setMatesFld fSPN_STAT_IN_HANDLER sp 1).setMatesFld fSPN_STAT_STATE sp 3).InHandler x.2 vec := by
  have hm : x ∈ (s.flush sp vec).mates sp := by rwa [State.mates_flush]
  have hm' : x ∈ ((s.flush sp vec).setMatesFld fSPN_STAT_IN_HANDLER sp 1).mates sp := by
    rwa [State.mates_setMatesFld _ rfl]
  refine ⟨?_, State.spFlag_of_fld ?_, State.spFld_setMatesFld (by decide) hm'⟩
  · rw [State.spFld_setMatesFld_other (by decide), State.spFld_setMatesFld_other (by decide), State.pc_flush hx,
      Nat.mod_eq_of_lt hv]
  · exact (State.spFld_setMatesFld_other (by decide) ..).trans (State.spFld_setMatesFld (by decide) hm)

/-- An interrupt, whose members are in the handler already, vectors them too (R73). -/
theorem State.inHandler_interrupted (hx : x ∈ s.mates sp) (hv : vec < 16384)
    (hi : s.spFld fSPN_STAT_IN_HANDLER x.2 = 1) : ((s.flush sp vec).setMatesFld fSPN_STAT_STATE sp 3).InHandler x.2 vec := by
  have hm : x ∈ (s.flush sp vec).mates sp := by rwa [State.mates_flush]
  refine ⟨?_, State.spFlag_of_fld ?_, State.spFld_setMatesFld (by decide) hm⟩
  · rw [State.spFld_setMatesFld_other (by decide), State.pc_flush hx, Nat.mod_eq_of_lt hv]
  · rw [State.spFld_setMatesFld_other (by decide)]
    refine Eq.trans ?_ hi
    exact (Only.flush (c := { regs := regsOf [.SPN_PC], lats := fun _ _ _ => true, spins := fun _ => true }) sp vec
      (fun _ _ _ _ => rfl) (fun _ _ => rfl) rfl).spFld rfl

/-- The halt leaves the flag that says why (R64). -/
theorem State.excHalt_halted (s : State) (sp k : Nat) :
    (s.halted sp).spFld fSPN_STAT_EXC_HALT k = s.spFld fSPN_STAT_EXC_HALT k := by
  unfold State.halted
  refine State.each_keeps (fun t => t.spFld fSPN_STAT_EXC_HALT k) (s.mates sp) _ (fun m _ t => ?_) s
  exact (State.spFld_setSpFld_other (by decide) ..).trans ((State.spFld_setSpFld_other (by decide) ..).trans
    ((State.spFld_setSpFld_other (by decide) ..).trans (State.spFld_setSpFld_other (by decide) ..)))

/-- The members have halted at a word for an exception. -/
structure State.ExcHalted (s : State) (k pc : Nat) : Prop where
  word : s.spFld fSPN_PC_WORD k = pc
  why : s.spFlag fSPN_STAT_EXC_HALT k = true
  state : s.spFld fSPN_STAT_STATE k = 2

/-- An exception halts every member (R64). -/
theorem State.excHalted_halted (hx : x ∈ s.mates sp) (hpc : pc < 16384) :
    (((s.flush sp pc).setMatesFld fSPN_STAT_EXC_HALT sp 1).halted sp).ExcHalted x.2 pc := by
  have hm : x ∈ (s.flush sp pc).mates sp := by rwa [State.mates_flush]
  have hm' : x ∈ ((s.flush sp pc).setMatesFld fSPN_STAT_EXC_HALT sp 1).mates sp := by
    rwa [State.mates_setMatesFld _ rfl]
  refine ⟨?_, State.spFlag_of_fld ?_, State.state_halted hm'⟩
  · rw [(Only.halted_frame _ sp).spFld rfl, State.spFld_setMatesFld_other (by decide), State.pc_flush hx, Nat.mod_eq_of_lt hpc]
  · rw [State.excHalt_halted, State.spFld_setMatesFld (by decide) hm]
    rfl

/-- What leaves the members' PC and state alone leaves them halted. -/
theorem State.ExcHalted.of_only {k : Nat} (h : s.ExcHalted k pc) (ho : Only c s t)
    (hr : ∀ r ∈ [Reg.SPN_PC, .SPN_STAT], ∀ d i, c.regs r d i = false) : t.ExcHalted k pc :=
  ⟨(ho.spFld (hr _ (by decide) _ _)).trans h.word, (ho.spFlag (hr _ (by decide) _ _)).trans h.why,
    (ho.spFld (hr _ (by decide) _ _)).trans h.state⟩

/-! ## Exceptions -/

/-- An exception found in the oldest word of a spindle that can perform it is taken (R63). -/
theorem execExceptionTaken_found {k : Nat × W64} (hsp : sp < 1536) (hh : (s.spin sp).spool.head? = some h)
    (hc : h.cause = some k) (hp : s.canPerform sp h.word = true) (hq : s.spFlag fSPN_CTL_HALT sp = false) :
    exec (.exceptionTaken sp) s = .next (s.takeException sp h.pc k.1 k.2 0) := by
  change execExceptionTaken sp s = _
  simp only [execExceptionTaken, hh, hp, hq, State.wordOutcome, State.streamCause, hc, State.finishWord, ifUnit,
    nSpindles, hsp, decide_true, Bool.not_false, Bool.and_self, if_true]

/-- With EXC_MODE 1 an exception outside the handler vectors, where no STEP ends there. -/
theorem State.takeException_vectors {mem : Nat} (hi : s.spFlag fSPN_STAT_IN_HANDLER sp = false)
    (hs : s.spFlag fSPN_CTL_STEP sp = false) (he : s.spFlag fSPN_CTL_EXC_MODE sp = true) :
    s.takeException sp pc cause info mem =
      (((s.faultNoted sp pc cause info mem).flush sp (s.spFld fSPN_VEC_EXC_WORD sp)).setMatesFld
        fSPN_STAT_IN_HANDLER sp 1).setMatesFld fSPN_STAT_STATE sp 3 := by
  simp only [State.takeException, hi, hs, he, if_true, Bool.false_eq_true, if_false]
  rfl

/-- With EXC_MODE 0 an exception outside the handler halts. -/
theorem State.takeException_halts {mem : Nat} (hi : s.spFlag fSPN_STAT_IN_HANDLER sp = false)
    (he : s.spFlag fSPN_CTL_EXC_MODE sp = false) :
    s.takeException sp pc cause info mem =
      ((((s.faultNoted sp pc cause info mem).flush sp (pc % 16384)).setMatesFld fSPN_STAT_EXC_HALT sp 1).halted sp).event
        0x1101 .warn (s.spUnit sp) cause := by
  simp only [State.takeException, hi, he, Bool.false_eq_true, if_false]
  rfl

/-- What an exception that vectors leaves in every member (R63, R65). -/
theorem State.takeException_vectors_members {mem : Nat} (hc : cause < 256) (hpc : pc < 16384)
    (hi : s.spFlag fSPN_STAT_IN_HANDLER sp = false) (hs : s.spFlag fSPN_CTL_STEP sp = false)
    (he : s.spFlag fSPN_CTL_EXC_MODE sp = true) :
    (∀ x ∈ s.mates sp, (s.takeException sp pc cause info mem).Faulted x.2 pc cause info ∧
      (s.takeException sp pc cause info mem).InHandler x.2 (s.spFld fSPN_VEC_EXC_WORD sp)) ∧
      Only (s.membersFrame sp faultRegs) s (s.takeException sp pc cause info mem) := by
  rw [State.takeException_vectors hi hs he]
  have hn := Only.faultNoted s sp pc cause info mem
  refine ⟨fun x hx => ⟨?_, ?_⟩, ?_⟩
  · exact (State.faulted_faultNoted hc hpc hx mem).of_only (((Only.flush_leave _ _ _).trans
      (Only.setMatesFld_leave _ _ rfl _ _)).trans (Only.setMatesFld_leave _ _ rfl _ _)) (by simp [leaveFrame, regsOf])
  · exact State.inHandler_vectored ((hn.mates_eq (membersFrame_keepsPlies (by decide)) sp).symm ▸ hx) (getBits_lt _ 13 0)
  · exact ((hn.flush_members (by decide) (by decide) _).setMatesFld_members (by decide) _).setMatesFld_members (by decide) _

/-- What an exception that halts leaves in every member (R63, R64). -/
theorem State.takeException_halts_members {mem : Nat} (hc : cause < 256) (hpc : pc < 16384)
    (hi : s.spFlag fSPN_STAT_IN_HANDLER sp = false) (he : s.spFlag fSPN_CTL_EXC_MODE sp = false) :
    (∀ x ∈ s.mates sp, (s.takeException sp pc cause info mem).Faulted x.2 pc cause info ∧
      (s.takeException sp pc cause info mem).ExcHalted x.2 pc) ∧
      Only (Change.recording (s.membersFrame sp faultRegs)) s (s.takeException sp pc cause info mem) := by
  rw [State.takeException_halts hi he, Nat.mod_eq_of_lt hpc]
  have hn := Only.faultNoted s sp pc cause info mem
  have hev : ∀ t : State, Only (Change.recording {}) t (t.event 0x1101 .warn (s.spUnit sp) cause) := fun _ =>
    Only.event _ _ _ _ (Change.records_recording _)
  refine ⟨fun x hx => ⟨?_, ?_⟩, ?_⟩
  · refine State.Faulted.of_only ?_ (hev _) (by simp [Change.recording, orReg, regsOf, recorderRegs])
    exact (State.faulted_faultNoted hc hpc hx mem).of_only (((Only.flush_leave _ _ _).trans
      (Only.setMatesFld_leave _ _ rfl _ _)).trans (Only.halted _ (fun _ _ _ _ => rfl) (fun _ _ _ _ => rfl) fun _ => rfl))
      (by simp [leaveFrame, regsOf])
  · exact (State.excHalted_halted ((hn.mates_eq (membersFrame_keepsPlies (by decide)) sp).symm ▸ hx) hpc).of_only (hev _)
      (by simp [Change.recording, orReg, regsOf, recorderRegs])
  · refine Only.trans (Only.mono ?_ (Change.le_recording _)) (Only.event _ _ _ _ (Change.records_recording _))
    exact ((hn.flush_members (by decide) (by decide) _).setMatesFld_members (by decide) _).trans
      (Only.halted _ (fun _ _ _ _ => rfl) (fun _ _ _ _ => rfl) fun _ => rfl)

/-! ## Interrupts -/

/-- What an interrupt leaves in one member: cause 0, the word index, and IN_HANDLER (R73). -/
def noteInterrupt (pc : Nat) (x : Nat × Nat) (t : State) : State :=
  ((t.setSpFld fSPN_EXC_CAUSE_CAUSE x.2 0).setSpFld fSPN_EXC_PC_WORD x.2 pc).setSpFld fSPN_STAT_IN_HANDLER x.2 1

/-- The registers that an interrupt changes. -/
def interruptRegs : List Reg := [.SPN_PC, .SPN_EXC_CAUSE, .SPN_EXC_PC, .SPN_STAT, .SPN_CTL]

theorem Only.interruptNoted (s : State) (sp pc : Nat) :
    Only (s.membersFrame sp interruptRegs) s (s.each (s.mates sp) (noteInterrupt pc)) :=
  Only.each _ _ (fun _ _ _ => ((Only.setFld _ _ _ _ fun _ _ => rfl).trans (Only.setFld _ _ _ _ fun _ _ => rfl)).trans
    (Only.setFld _ _ _ _ fun _ _ => rfl)) s

/-- Every member notes the interrupt (R73). -/
theorem State.interruptNoted_reads (hx : x ∈ s.mates sp) :
    (s.each (s.mates sp) (noteInterrupt pc)).spFld fSPN_EXC_CAUSE_CAUSE x.2 = 0 ∧
      (s.each (s.mates sp) (noteInterrupt pc)).spFld fSPN_EXC_PC_WORD x.2 = pc % 16384 ∧
      (s.each (s.mates sp) (noteInterrupt pc)).spFld fSPN_STAT_IN_HANDLER x.2 = 1 := by
  refine State.each_reaches s (P := fun t => t.spFld fSPN_EXC_CAUSE_CAUSE x.2 = 0 ∧ t.spFld fSPN_EXC_PC_WORD x.2 = pc % 16384 ∧
    t.spFld fSPN_STAT_IN_HANDLER x.2 = 1) hx (fun t => ⟨?_, ?_, ?_⟩) fun y t h => ⟨?_, ?_, ?_⟩
  · exact (State.spFld_setSpFld_other (by decide) ..).trans ((State.spFld_setSpFld_other (by decide) ..).trans
      (State.spFld_setSpFld_self _ _ (by decide)))
  · exact (State.spFld_setSpFld_other (by decide) ..).trans (State.spFld_setSpFld_self _ _ (by decide))
  · exact State.spFld_setSpFld_self _ _ (by decide)
  · exact (State.spFld_setSpFld_other (by decide) ..).trans ((State.spFld_setSpFld_other (by decide) ..).trans
      (State.spFld_setSpFld_again (by decide) h.1 y.2))
  · exact (State.spFld_setSpFld_other (by decide) ..).trans (State.spFld_setSpFld_again (by decide)
      ((State.spFld_setSpFld_other (by decide) ..).trans h.2.1) y.2)
  · exact State.spFld_setSpFld_again (by decide) ((State.spFld_setSpFld_other (by decide) ..).trans
      ((State.spFld_setSpFld_other (by decide) ..).trans h.2.2)) y.2

/-- Where no STEP ends there, an interrupt vectors. -/
theorem State.takeInterrupt_vectors (hs : s.spFlag fSPN_CTL_STEP sp = false) :
    s.takeInterrupt sp = ((s.each (s.mates sp) (noteInterrupt (s.headPc sp))).flush sp
      (s.spFld fSPN_VEC_IRQ_WORD sp)).setMatesFld fSPN_STAT_STATE sp 3 := by
  simp only [State.takeInterrupt, hs, Bool.false_eq_true, if_false]
  rfl

/-- A pending interrupt is taken between words (R73). -/
theorem execInterruptTaken_due (hsp : sp < 1536) (hl : s.isLead sp = true) (hst : s.spState sp = 3 ∨ s.spState sp = 4)
    (hh : s.spFlag fSPN_CTL_HALT sp = false) (hd : s.lat .stepDone sp 0 = 0) (hq : s.irqPending sp = true)
    (hi : s.spFlag fSPN_STAT_IN_HANDLER sp = false) (hb : s.between sp = true) (hf : s.faultDue sp = false) :
    exec (.interruptTaken sp) s = .next (s.takeInterrupt sp) :=
  (congrArg (ifUnit _) (if_pos (by simp [hl, hst, hh, hd, State.irqDue, hq, hi, hb, hf]))).trans
    (if_pos (decide_eq_true hsp))

/-- What an interrupt leaves in every member (R73). -/
theorem State.takeInterrupt_members (hs : s.spFlag fSPN_CTL_STEP sp = false) :
    (∀ x ∈ s.mates sp, (s.takeInterrupt sp).spFld fSPN_EXC_CAUSE_CAUSE x.2 = 0 ∧
      (s.takeInterrupt sp).spFld fSPN_EXC_PC_WORD x.2 = s.headPc sp % 16384 ∧
      (s.takeInterrupt sp).InHandler x.2 (s.spFld fSPN_VEC_IRQ_WORD sp)) ∧
      Only (s.membersFrame sp interruptRegs) s (s.takeInterrupt sp) := by
  rw [State.takeInterrupt_vectors hs]
  have hn := Only.interruptNoted s sp (s.headPc sp)
  refine ⟨fun x hx => ?_, (hn.flush_members (by decide) (by decide) _).setMatesFld_members (by decide) _⟩
  obtain ⟨hcause, hword, hhandler⟩ := State.interruptNoted_reads (pc := s.headPc sp) hx
  have ho := (Only.flush_leave (s.each (s.mates sp) (noteInterrupt (s.headPc sp))) sp (s.spFld fSPN_VEC_IRQ_WORD sp)).trans
    (Only.setMatesFld_leave _ fSPN_STAT_STATE rfl sp 3)
  refine ⟨(ho.spFld rfl).trans hcause, (ho.spFld rfl).trans hword,
    State.inHandler_interrupted ?_ (getBits_lt _ 29 16) hhandler⟩
  exact (hn.mates_eq (membersFrame_keepsPlies (by decide)) sp).symm ▸ hx

/-- Settles O52: issue, retirement and replay by their rules, and the exception or interrupt read back in every member. -/
theorem spoolCommandsComplete : Obligations.SpoolCommandsComplete := by
  unfold Obligations.SpoolCommandsComplete
  refine ⟨fun _ _ _ _ hsp h hm hw hpc hlt hs ho hr hb hword hl => ?_, fun _ _ _ _ hsp hl _ hn hh hp hc hd hf => ?_,
    fun _ _ _ hsp _ hh hl hp ha hr hc => ?_, fun _ _ _ _ hsp hh hk hc hpc _ hp hq hi hs he => ?_,
    fun _ _ _ _ hsp hh hk hc hpc _ hp hq hi _ he => ?_, fun _ _ hsp hl hst hh hs hd hq hi hb hf => ?_⟩
  · exact wordIssue_completes hsp h hm hw hpc hlt hs ho hr hb hword.symm hl
  · exact wordComplete_skipped hsp hl hn hh hp hc hd hf
  · exact wordComplete_replays hsp hh hl hp ha hr hc
  · obtain ⟨hx, ho⟩ := State.takeException_vectors_members hc hpc hi hs he
    refine ⟨_, execExceptionTaken_found hsp hh hk hp hq, fun x hm => ?_, ho⟩
    obtain ⟨⟨hcause, hword, hinfo⟩, ⟨hvec, hhandler, hstate⟩⟩ := hx x hm
    exact ⟨hcause, hword, hinfo, hvec, hhandler, hstate⟩
  · obtain ⟨hx, ho⟩ := State.takeException_halts_members hc hpc hi he
    refine ⟨_, execExceptionTaken_found hsp hh hk hp hq, fun x hm => ?_, ho⟩
    obtain ⟨⟨hcause, hword, hinfo⟩, ⟨hstop, hwhy, hstate⟩⟩ := hx x hm
    exact ⟨hcause, hword, hinfo, hstop, hwhy, hstate⟩
  · obtain ⟨hx, ho⟩ := State.takeInterrupt_members hs
    refine ⟨_, execInterruptTaken_due hsp hl hst hh hd hq hi hb hf, fun x hm => ?_, ho⟩
    obtain ⟨hcause, hword, hvec, hhandler, hstate⟩ := hx x hm
    exact ⟨hcause, hword, hvec, hhandler, hstate⟩

end Sys2Proof.Machine
end

section
/-! PROOF. Word kinds and illegal opcodes (R88): every opcode a table lists is assigned and of its table's kind, so a word
of any other opcode is found ILLEGAL_OPCODE at decode. -/

set_option Elab.async false

namespace Sys2Proof.Machine

variable {s : State} {sp op : Nat} {w : W256}

theorem tSpec_assigned : (tSpec op).isSome = true → op ∈ opcodes ∧ op / 256 = 1 := by
  unfold tSpec
  split <;> simp [opcodes]

theorem mSpec_assigned : (mSpec op).isSome = true → op ∈ opcodes ∧ op / 256 = 2 := by
  unfold mSpec
  split <;> simp [opcodes]

theorem cSpec_assigned : (cSpec w op).isSome = true → op ∈ opcodes ∧ op / 256 = 3 := by
  unfold cSpec
  split <;> simp [opcodes]

/-- A table that lists assigned opcodes alone does not list another one. -/
theorem eq_none_of_unassigned {α : Type} {spec : Option α} {p : Prop} (h : spec.isSome = true → op ∈ opcodes ∧ p)
    (hop : op ∉ opcodes) : spec = none :=
  Option.not_isSome_iff_eq_none.mp fun k => hop (h k).1

/-- A word of an opcode outside the tables is found illegal at decode (R88). -/
theorem decodeCause_unassigned (h : wOp w ∉ opcodes) : decodeCause s sp w = some (2, BitVec.ofNat 64 (wOp w)) := by
  have hne : wOp w ≠ 0 := fun e => h (e ▸ by decide)
  have hm := eq_none_of_unassigned (mSpec_assigned (op := wOp w)) h
  have ht := eq_none_of_unassigned (tSpec_assigned (op := wOp w)) h
  have hc := eq_none_of_unassigned (cSpec_assigned (w := w) (op := wOp w)) h
  unfold decodeCause
  dsimp only
  split
  · rw [if_pos hne]
  · rw [ht]
  · rw [hm]
  · rw [hc]

/-- Settles O9: the kinds table by table, and decode's answer to an opcode no table lists. -/
theorem unassignedOpcodesAreIllegal : Obligations.UnassignedOpcodesAreIllegal := by
  unfold Obligations.UnassignedOpcodesAreIllegal
  refine ⟨fun _ h => (tSpec_assigned h).2, fun _ h => (mSpec_assigned h).2, fun _ _ h => (cSpec_assigned h).2, by decide,
    fun s sp pc w eff hs hop => ?_⟩
  simp only [State.wordOutcome, hs, decodeCause_unassigned hop]

end Sys2Proof.Machine
end

section
/-! PROOF. Integer division and wrapping (R95, R96): a slot of two registers, or of one and an immediate, comes to what
`alu` gives, and `alu` is two's complement arithmetic of 64 bits. -/

set_option Elab.async false

namespace Sys2Proof.Machine

variable {s : State} {sp x op : Nat} {a b v : W64} {c : Cause}

/-! ## What a slot comes to -/

/-- A slot of two registers writes the result of its operation in every member. -/
theorem State.slot_reg (hop : lSOP x = op) (hf : sopForm op = some .R) (ha : (s.spin sp).getG (lRS1 x) = a)
    (hb : (s.spin sp).getG (lRS2 x) = b) (hv : alu op a b = .ok v) :
    s.slot sp x = .ok (s.updMates sp fun y => y.setG (lRD x) v) := by
  simp only [State.slot, hop, hf, ha, hb, hv, State.slotSet]

/-- A slot of a register and an immediate does the same. -/
theorem State.slot_imm (hop : lSOP x = op) (hf : sopForm op = some .I) (ha : (s.spin sp).getG (lRS1 x) = a)
    (hv : alu op a (lIMM14 x) = .ok v) : s.slot sp x = .ok (s.updMates sp fun y => y.setG (lRD x) v) := by
  simp only [State.slot, hop, hf, ha, hv, State.slotSet]

/-- A slot of two registers raises what its operation raises. -/
theorem State.slot_raises (hop : lSOP x = op) (hf : sopForm op = some .R) (hb : (s.spin sp).getG (lRS2 x) = b)
    (hv : ∀ a, alu op a b = .error c) : s.slot sp x = .exc c := by
  simp only [State.slot, hop, hf, hb, hv]

/-! ## Division -/

theorem alu_div_zero (h : op = 0x15 ∨ op = 0x16 ∨ op = 0x17 ∨ op = 0x18) (a : W64) : alu op a 0 = .error (0xD, 0) := by
  rcases h with rfl | rfl | rfl | rfl <;> rfl

theorem sopForm_div (h : op = 0x15 ∨ op = 0x16 ∨ op = 0x17 ∨ op = 0x18) : sopForm op = some .R := by
  rcases h with rfl | rfl | rfl | rfl <;> rfl

theorem alu_divs (hb : b ≠ 0) : alu 0x16 a b = .ok (a.sdiv b) := if_neg hb

theorem alu_rems (hb : b ≠ 0) : alu 0x18 a b = .ok (a.srem b) := if_neg hb

/-- The one quotient that does not fit wraps to the dividend. -/
theorem intMin_sdiv_neg_one : (BitVec.intMin 64).sdiv (-1) = BitVec.intMin 64 := by decide

theorem intMin_srem_neg_one : (BitVec.intMin 64).srem (-1) = 0 := by decide

/-- Every other quotient is the exact one truncated toward zero. -/
theorem toInt_sdiv_of_fits (h : ¬(a = BitVec.intMin 64 ∧ b = -1)) : (a.sdiv b).toInt = a.toInt.tdiv b.toInt :=
  BitVec.toInt_sdiv_of_ne_or_ne a b (not_and_or.mp h)

/-! ## Sums and products -/

theorem ofInt_toInt_add (a : W64) (i : Int) : BitVec.ofInt 64 (a.toInt + i) = a + BitVec.ofInt 64 i := by
  rw [BitVec.ofInt_add, BitVec.ofInt_toInt]

theorem ofInt_toNat_sub (a b : W64) : BitVec.ofInt 64 ((a.toNat : Int) - b.toNat) = a - b := by
  rw [Int.sub_eq_add_neg, BitVec.ofInt_add, BitVec.ofInt_neg]
  simp only [BitVec.ofInt_natCast, BitVec.ofNat_toNat, BitVec.setWidth_eq, BitVec.sub_eq_add_neg]

theorem ofNat_toNat_mul (a b : W64) : BitVec.ofNat 64 (a.toNat * b.toNat) = a * b := by
  rw [BitVec.ofNat_mul, BitVec.ofNat_toNat, BitVec.ofNat_toNat, BitVec.setWidth_eq, BitVec.setWidth_eq]

/-- Settles O10: the forms of division by `alu`, and the rest modulo 2^64. -/
theorem integerDivisionAndWrapping : Obligations.IntegerDivisionAndWrapping := by
  unfold Obligations.IntegerDivisionAndWrapping
  refine ⟨fun s sp x hb hop => State.slot_raises rfl (sopForm_div hop) hb (alu_div_zero hop),
    fun s sp x a b ha hb h0 hop => ⟨a.sdiv b, State.slot_reg hop rfl ha hb (alu_divs h0), ?_, toInt_sdiv_of_fits⟩,
    fun s sp x a b ha hb h0 hop => ⟨a.srem b, State.slot_reg hop rfl ha hb (alu_rems h0), ?_, BitVec.toInt_srem a b⟩,
    fun s sp x a b ha hb => ⟨fun hop => ?_, fun hop => ?_, fun hop => ?_, fun hop => ?_⟩⟩
  · rintro ⟨rfl, rfl⟩
    exact intMin_sdiv_neg_one
  · rintro ⟨rfl, rfl⟩
    exact intMin_srem_neg_one
  · exact State.slot_reg hop rfl ha hb (congrArg Except.ok (BitVec.add_def a b))
  · exact State.slot_reg hop rfl ha hb (congrArg Except.ok (ofInt_toNat_sub a b).symm)
  · exact State.slot_imm hop rfl ha (congrArg Except.ok (ofInt_toInt_add a _).symm)
  · exact State.slot_reg hop rfl ha hb (congrArg Except.ok (ofNat_toNat_mul a b).symm)

end Sys2Proof.Machine
end


section
/-! PROOF. Branches (R117): each is settled by its own rule (`flowWordsComplete`), and retiring leaves the target in the PC
of every member and the link in its register. -/

set_option Elab.async false

namespace Sys2Proof.Machine

variable {s t : State} {sp op pc : Nat} {w : W256} {m : Nat × Nat}

/-- A spindle that performs a word is RUNNING. -/
theorem State.spState_of_performs (h : s.performs sp op w = true) : s.spState sp = 3 := by
  obtain ⟨-, -, hcan, -⟩ := State.performs_iff.1 h
  exact State.spState_of_canPerform hcan

/-- A word that ends in a RUNNING spindle leaves every member's PC at the next index. -/
theorem State.pc_endWord (hr : s.spState sp = 3) (hm : m ∈ s.mates sp) (hpc : pc < 16384) :
    (s.endWord sp pc).spFld fSPN_PC_WORD m.2 = pc := by
  rw [State.endWord, if_pos hr, State.pc_retire hm, Nat.mod_eq_of_lt hpc]

/-- A change of spindles' own registers changes nothing else. -/
def spinsFrame : Change := { spins := fun _ => true }

theorem Only.updMates_spins (s : State) (sp : Nat) (f : Spin → Spin) : Only spinsFrame s (s.updMates sp f) :=
  Only.updMates sp f fun _ _ => rfl

/-- After a link a RUNNING spindle's branch goes to its target in every member, and the link stands in its register. -/
theorem State.link_endWord {k : Nat} {v : W64} (hr : s.spState sp = 3) (hm : m ∈ s.mates sp) (hpc : pc < 16384) :
    ((s.updMates sp fun x => x.setG k v).endWord sp pc).spFld fSPN_PC_WORD m.2 = pc ∧
      (((s.updMates sp fun x => x.setG k v).endWord sp pc).spin m.2).getG k = v := by
  have hu := Only.updMates_spins s sp fun x => x.setG k v
  refine ⟨State.pc_endWord ?_ ?_ hpc, (State.getG_endWord ..).trans (State.getG_setGs hm k v)⟩
  · rw [hu.spState_eq ⟨fun _ _ _ _ => rfl, fun _ => rfl⟩ sp, hr]
  · rwa [hu.mates_eq ⟨rfl, rfl⟩ sp]

theorem wTARGET_lt (w : W256) : wTARGET w < 16384 := Nat.mod_lt _ (by decide)

/-- Settles O11: what the rules of the four words leave, read back. -/
theorem branchesAndLinks : Obligations.BranchesAndLinks := by
  unfold Obligations.BranchesAndLinks
  obtain ⟨hbr, hbrr, hcall, hcallr, -⟩ := flowWordsComplete
  refine ⟨fun s sp w h => ?_, fun s sp w h => ?_, fun s sp w h => ?_, fun s sp w h => ?_⟩
  · obtain ⟨t, ht, rfl, -⟩ := hbr sp w s h
    exact ⟨_, ht, fun x hx => State.pc_endWord (State.spState_of_performs h) hx (wTARGET_lt w)⟩
  · obtain ⟨t, ht, rfl, -⟩ := hbrr sp w s h
    exact ⟨_, ht, fun x hx => State.pc_endWord (State.spState_of_performs h) hx (getBits_lt _ 13 0)⟩
  · obtain ⟨t, ht, rfl, -⟩ := hcall sp w s h
    exact ⟨_, ht, fun x hx => State.link_endWord (State.spState_of_performs h) hx (wTARGET_lt w)⟩
  · obtain ⟨t, ht, rfl, -⟩ := hcallr sp w s h
    exact ⟨_, ht, fun x hx => State.link_endWord (State.spState_of_performs h) hx (getBits_lt _ 13 0)⟩

end Sys2Proof.Machine
end

section
/-! PROOF. Elements of a shape (R102, R105): an element is kept in bytes of its own, but that two half-byte elements of a
row share one; so each write of a shape leaves every other element's code and the bytes outside its row. -/

set_option Elab.async false

namespace Sys2Proof.Machine

variable {x : Spin} {f : Fmt} {k : Nat} {h : Shape} {r e r' e' c : Nat}

/-! ## Where an element is kept -/

/-- The formats an element can be read back in: half-bytes, or whole bytes that hold the width. -/
def Fmt.Holds (f : Fmt) : Prop := f.slot = 1 ∨ (f.slot % 2 = 0 ∧ 0 < f.slot ∧ f.width ≤ 4 * f.slot)

/-- The rows of a shape do not overlap. -/
def Shape.Apart (h : Shape) (f : Fmt) : Prop := h.rows ≤ 1 ∨ rowBytes f h.elems ≤ h.rstride

/-- The offset of the first byte that holds part of element (r, e). -/
def Shape.place (h : Shape) (f : Fmt) (r e : Nat) : Nat := h.off + r * h.rstride + e * f.slot / 2

/-- The bytes that hold an element. -/
def Fmt.size (f : Fmt) : Nat := (f.slot + 1) / 2

theorem Fmt.size_half (hf : f.slot = 1) : f.size = 1 := by rw [Fmt.size, hf]

theorem Fmt.size_whole (hf : f.slot % 2 = 0) : f.size = f.slot / 2 := by unfold Fmt.size; omega

theorem Shape.place_half (hf : f.slot = 1) : h.place f r e = h.off + r * h.rstride + e / 2 := by
  rw [Shape.place, hf, Nat.mul_one]

theorem Shape.place_whole (hf : f.slot % 2 = 0) : h.place f r e = h.off + r * h.rstride + e * (f.slot / 2) := by
  rw [Shape.place, Nat.mul_div_assoc _ (Nat.dvd_of_mod_eq_zero hf)]

/-- An element's bytes are among its row's. -/
theorem Shape.place_in_row (hf : f.Holds) (he : e < h.elems) :
    h.place f r e + f.size ≤ h.off + r * h.rstride + rowBytes f h.elems := by
  rcases hf with hf | ⟨hf, -, -⟩
  · rw [Shape.place_half hf, Fmt.size_half hf, rowBytes, hf]
    omega
  · rw [Shape.place_whole hf, Fmt.size_whole hf, rowBytes]
    have hm : (e + 1) * (f.slot / 2) ≤ h.elems * (f.slot / 2) := Nat.mul_le_mul_right _ he
    have hs : h.elems * f.slot = 2 * (h.elems * (f.slot / 2)) := by
      rw [Nat.mul_left_comm, Nat.mul_div_cancel' (Nat.dvd_of_mod_eq_zero hf)]
    rw [Nat.succ_mul] at hm
    omega

/-- Rows further down start where an earlier row has ended. -/
theorem Shape.row_end_le (ha : h.Apart f) (hr : r' < h.rows) (hlt : r < r') :
    r * h.rstride + rowBytes f h.elems ≤ r' * h.rstride := by
  have hs : rowBytes f h.elems ≤ h.rstride := ha.resolve_left (by omega)
  calc r * h.rstride + rowBytes f h.elems ≤ r * h.rstride + h.rstride := Nat.add_le_add_left hs _
    _ = (r + 1) * h.rstride := (Nat.succ_mul ..).symm
    _ ≤ r' * h.rstride := Nat.mul_le_mul_right _ hlt

/-- Two elements whose bytes are not apart. -/
def Shape.Meet (h : Shape) (f : Fmt) (r e r' e' : Nat) : Prop :=
  h.place f r e < h.place f r' e' + f.size ∧ h.place f r' e' < h.place f r e + f.size

/-- Elements that meet are in one row. -/
theorem Shape.row_eq_of_meet (hf : f.Holds) (ha : h.Apart f) (hr : r < h.rows) (hr' : r' < h.rows) (he : e < h.elems)
    (he' : e' < h.elems) (hm : h.Meet f r e r' e') : r = r' := by
  obtain ⟨h1, h2⟩ := hm
  have hp := Shape.place_in_row (h := h) (r := r) hf he
  have hp' := Shape.place_in_row (h := h) (r := r') hf he'
  have hl : ∀ a b, h.off + a * h.rstride ≤ h.place f a b := fun _ _ => Nat.le_add_right _ _
  have hl1 := hl r e
  have hl2 := hl r' e'
  rcases Nat.lt_trichotomy r r' with hlt | heq | hlt
  · have := Shape.row_end_le ha hr' hlt
    omega
  · exact heq
  · have := Shape.row_end_le ha hr hlt
    omega

/-- Of a row the elements of whole bytes that meet are one. -/
theorem Shape.elem_eq_of_meet (hf : f.slot % 2 = 0) (hm : h.Meet f r e r e') : e = e' := by
  obtain ⟨h1, h2⟩ := hm
  rw [Shape.place_whole hf, Shape.place_whole hf, Fmt.size_whole hf] at h1 h2
  have hle : ∀ a b, a < b → a * (f.slot / 2) + f.slot / 2 ≤ b * (f.slot / 2) := fun a b hab => by
    rw [← Nat.succ_mul]
    exact Nat.mul_le_mul_right _ hab
  rcases Nat.lt_trichotomy e e' with hlt | heq | hlt
  · have := hle _ _ hlt
    omega
  · exact heq
  · have := hle _ _ hlt
    omega

/-! ## One element -/

/-- The code of an element depends on its own bytes alone. -/
theorem Spin.elem_congr {y : Spin} (hf : f.Holds)
    (hb : ∀ a, k * 16384 + h.place f r e ≤ a → a < k * 16384 + h.place f r e + f.size → sget 0 y.tile a = sget 0 x.tile a) :
    y.elem f k h r e = x.elem f k h r e := by
  have ht : y.tileBytes k (h.place f r e) f.size = x.tileBytes k (h.place f r e) f.size :=
    List.map_congr_left fun i hi => hb _ (Nat.le_add_right _ _) (Nat.add_lt_add_left (List.mem_range.mp hi) _)
  unfold Spin.elem
  rcases hf with hf | ⟨hf, hp, -⟩
  · rw [Shape.place_half hf, Fmt.size_half hf] at ht
    simp only [if_pos hf, ht]
  · rw [Shape.place_whole hf, Fmt.size_whole hf] at ht
    simp only [if_neg (show ¬f.slot = 1 by omega), ht]

/-- A write of an element leaves the bytes of the tiles beside its own. -/
theorem Spin.tile_putElem_of_out {a : Nat} (hf : f.Holds)
    (ha : a < k * 16384 + h.place f r e ∨ k * 16384 + h.place f r e + f.size ≤ a) :
    sget 0 (x.putElem f k h r e c).tile a = sget 0 x.tile a := by
  unfold Spin.putElem
  rcases hf with hf | ⟨hf, hp, -⟩
  · rw [Shape.place_half hf, Fmt.size_half hf] at ha
    simp only [if_pos hf]
    exact sget_ssetList_of_out _ (by rwa [length_leBytes])
  · rw [Shape.place_whole hf, Fmt.size_whole hf] at ha
    simp only [if_neg (show ¬f.slot = 1 by omega)]
    exact sget_ssetList_of_out _ (by rwa [length_leBytes])

/-- Reading back tile bytes. -/
theorem Spin.tileBytes_setTileBytes (x : Spin) (k o : Nat) (bs : List Byte) :
    (x.setTileBytes k o bs).tileBytes k o bs.length = bs := sgetList_ssetList ..

/-- The code an element reads as: cut to its half-byte, or to the width of its format. -/
def Fmt.cut (f : Fmt) (c : Nat) : Nat := c % if f.slot = 1 then 16 else 2 ^ f.width

/-- The byte of a half-byte element after its half was written. -/
theorem Spin.byte_putElem_half (hf : f.slot = 1) :
    leValue ((x.putElem f k h r e c).tileBytes k (h.off + r * h.rstride + e / 2) 1) =
      (if e % 2 = 0 then leValue (x.tileBytes k (h.off + r * h.rstride + e / 2) 1) / 16 * 16 + c % 16
        else leValue (x.tileBytes k (h.off + r * h.rstride + e / 2) 1) % 16 + c % 16 * 16) := by
  have ho : leValue (x.tileBytes k (h.off + r * h.rstride + e / 2) 1) < 256 := by
    simp only [Spin.tileBytes, sgetList, List.range_one, List.map_cons, List.map_nil, leValue]
    omega
  simp only [Spin.putElem, if_pos hf]
  generalize leValue (x.tileBytes k (h.off + r * h.rstride + e / 2) 1) = o at ho ⊢
  have hb := x.tileBytes_setTileBytes k (h.off + r * h.rstride + e / 2)
    (leBytes 1 (if e % 2 = 0 then o / 16 * 16 + c % 16 else o % 16 + c % 16 * 16))
  rw [length_leBytes] at hb
  rw [hb, leValue_leBytes]
  split <;> omega

/-- An element that is written reads back (R105). -/
theorem Spin.elem_putElem_self (hf : f.Holds) : (x.putElem f k h r e c).elem f k h r e = f.cut c := by
  rcases hf with hf | ⟨hf, hp, hw⟩
  · have hb := Spin.byte_putElem_half (x := x) (k := k) (h := h) (r := r) (e := e) (c := c) hf
    simp only [Spin.elem, Fmt.cut, if_pos hf, hb]
    split
    · next he => rw [he]; omega
    · next he => rw [show e % 2 = 1 by omega]; omega
  · have h1 : ¬f.slot = 1 := by omega
    have hb := x.tileBytes_setTileBytes k (h.off + r * h.rstride + e * (f.slot / 2)) (leBytes (f.slot / 2) c)
    rw [length_leBytes] at hb
    simp only [Spin.elem, Spin.putElem, Fmt.cut, if_neg h1, hb, leValue_leBytes]
    refine Nat.mod_mod_of_dvd _ ?_
    rw [show (256 : Nat) = 2 ^ 8 by rfl, ← Nat.pow_mul]
    exact Nat.pow_dvd_pow 2 (by omega)

/-- The other element of its byte keeps its half. -/
theorem Spin.elem_putElem_half (hf : f.slot = 1) (hb : e / 2 = e' / 2) (hne : e ≠ e') :
    (x.putElem f k h r e' c).elem f k h r e = x.elem f k h r e := by
  have hv := Spin.byte_putElem_half (x := x) (k := k) (h := h) (r := r) (e := e') (c := c) hf
  simp only [Spin.elem, if_pos hf, hb, hv]
  split
  · next he => rw [show e % 2 = 1 by omega]; omega
  · next he => rw [show e % 2 = 0 by omega]; omega

/-- A write of an element leaves every other element of the shape. -/
theorem Spin.elem_putElem_other (hf : f.Holds) (ha : h.Apart f) (hr : r < h.rows) (he : e < h.elems) (hr' : r' < h.rows)
    (he' : e' < h.elems) (hne : (r', e') ≠ (r, e)) : (x.putElem f k h r' e' c).elem f k h r e = x.elem f k h r e := by
  by_cases hm : h.Meet f r e r' e'
  · obtain rfl := Shape.row_eq_of_meet hf ha hr hr' he he' hm
    have hne' : e ≠ e' := fun h => hne (h ▸ rfl)
    rcases hf with h1 | ⟨h2, -, -⟩
    · refine Spin.elem_putElem_half h1 ?_ hne'
      obtain ⟨hl, hg⟩ := hm
      rw [Shape.place_half h1, Shape.place_half h1, Fmt.size_half h1] at hl hg
      omega
    · exact absurd (Shape.elem_eq_of_meet h2 hm) hne'
  · refine Spin.elem_congr hf fun a h1 h2 => Spin.tile_putElem_of_out hf ?_
    unfold Shape.Meet at hm
    omega

/-! ## Every element -/

/-- What each step of a fold keeps and one of them reaches holds in the end. -/
theorem foldl_reaches {α σ : Type} {P : σ → Prop} {g : σ → α → σ} {l : List α} {a : α} (ha : a ∈ l) (hg : ∀ y, P (g y a))
    (hk : ∀ b ∈ l, ∀ y, P y → P (g y b)) (y : σ) : P (l.foldl g y) := by
  induction l generalizing y with
  | nil => exact absurd ha List.not_mem_nil
  | cons b l ih =>
    have hk' : ∀ b ∈ l, ∀ y, P y → P (g y b) := fun b hb => hk b (List.mem_cons_of_mem _ hb)
    rcases List.mem_cons.mp ha with rfl | ha
    · exact List.foldlRecOn l g (hg y) fun y hy b hb => hk' b hb y hy
    · exact ih ha hk' _

theorem Shape.mem_cells : (r, e) ∈ h.cells ↔ r < h.rows ∧ e < h.elems := by
  simp [Shape.cells]

theorem Spin.fillShape_eq (g : Nat → Nat → Nat) :
    x.fillShape f k h g = h.cells.foldl (fun y c => y.putElem f k h c.1 c.2 (g c.1 c.2)) x := by
  rw [Spin.fillShape, List.foldl_map]

/-- Every element of a filled shape reads as its code (R105). -/
theorem Spin.elem_fillShape (hf : f.Holds) (ha : h.Apart f) (g : Nat → Nat → Nat) (hr : r < h.rows) (he : e < h.elems) :
    (x.fillShape f k h g).elem f k h r e = f.cut (g r e) := by
  rw [Spin.fillShape_eq]
  refine foldl_reaches (P := fun y : Spin => y.elem f k h r e = f.cut (g r e)) (a := (r, e))
    (Shape.mem_cells.mpr ⟨hr, he⟩) (fun _ => Spin.elem_putElem_self hf) (fun b hb y hy => ?_) x
  obtain ⟨hr', he'⟩ := Shape.mem_cells.mp hb
  by_cases hne : b = (r, e)
  · rw [hne]
    exact Spin.elem_putElem_self hf
  · rw [Spin.elem_putElem_other hf ha hr he hr' he' hne, hy]

/-- A filled shape leaves the bytes outside its rows (R102). -/
theorem Spin.tile_fillShape_of_out {a : Nat} (hf : f.Holds) (g : Nat → Nat → Nat)
    (ha : ∀ r < h.rows, a < k * 16384 + h.off + r * h.rstride ∨ k * 16384 + h.off + r * h.rstride + rowBytes f h.elems ≤ a) :
    sget 0 (x.fillShape f k h g).tile a = sget 0 x.tile a := by
  rw [Spin.fillShape_eq]
  refine List.foldlRecOn (motive := fun y : Spin => sget 0 y.tile a = sget 0 x.tile a) h.cells _ rfl fun y hy c hc => ?_
  obtain ⟨hr, he⟩ := Shape.mem_cells.mp hc
  rw [Spin.tile_putElem_of_out hf, hy]
  have hp := Shape.place_in_row (h := h) (r := c.1) hf he
  have hl : h.off + c.1 * h.rstride ≤ h.place f c.1 c.2 := Nat.le_add_right _ _
  have hout := ha c.1 hr
  generalize k * 16384 = base at *
  omega

/-- Settles O15: each element reads back after the writes of the others, and the writes stay in the rows. -/
theorem filledShapesReadBack : Obligations.FilledShapesReadBack := by
  unfold Obligations.FilledShapesReadBack
  intro x f k h g hf ha
  refine ⟨fun r e hr he => ?_, fun a ho => ?_⟩
  · exact Spin.elem_fillShape hf ha g hr he
  · exact Spin.tile_fillShape_of_out hf g ho

end Sys2Proof.Machine
end

section
/-! PROOF. Elementwise words and moves: their frame fails where a ply has lost a member. A word past its commit point still
ends after the ply has stopped (R180). The members a word may change are then those that are not lost (`State.mates`, log entry
182), but a T-word acts on every local member of its groups (`State.groups`), the lost one with them. -/

set_option Elab.async false

namespace Sys2Proof.Machine

/-- The state a command that completes leaves. -/
def State.afterCommand (s : State) (i : Instr) : State := match exec i s with | .next t => t | _ => s

/-- Die 3 is up, its twin 0 is ON, and spindle 96 of it is RUNNING. -/
def stRunning : State :=
  (((State.reset.setFld fPW_DIE_ISO_ON 62 3 1).setFld fPW_DIE_ISO_MS_ON 62 3 1).setFld fPW_TWIN_CTL_STATE 3 0 2).setSpFld
    fSPN_STAT_STATE 96 3

/-- A spindle with word `w` at its head, two elements in tile 1 and none elsewhere. -/
def spinWith (w : W256) (x : Spin) : Spin :=
  { x with spool := [⟨w, 9, none, false⟩] }.setTileBytes 1 0 (leBytes 4 0x3FC00000 ++ leBytes 4 0x40000000)

/-- Spindles 96 and 97, the twin's, are a ply about to perform word `w`. -/
def stPlyOf (w : W256) : State :=
  let s := ((stRunning.setSpFld fSPN_STAT_STATE 97 3).updSpin 96 (spinWith w)).updSpin 97 (spinWith w)
  { s with plies := [⟨[(0, 96), (0, 97)], 1, [], 16, true, false, []⟩] }

/-- The word passes its commit point, and then spindle 97 is lost. -/
def stLost (w : W256) : State := ((stPlyOf w).afterCommand (.plyWordCleared 96 1)).afterCommand (.plyMemberLost 0 97)

/-- Tile 3 of the lost member in an outcome. -/
def lostTile : Out → Option (List Byte)
  | .next t => some ((t.spin 97).tileBytes 3 0 8)
  | _ => none

/-- A T-word that spindle 96 performs there, with its checks at issue passed, changes the lost member, which is none of those
it may change. -/
structure TouchesLost (i : Instr) (op : Nat) (w : W256) : Prop where
  performs : (stLost w).performs 96 op w = true
  clear : (stLost w).tileClear 96 w = true
  lost : ((stLost w).mates 96).any (fun x => x.2 == 97) = false
  changed : lostTile (exec i (stLost w)) ≠ some (((stLost w).spin 97).tileBytes 3 0 8)

/-- Such a word does not stay in the frame of the ply's words. -/
theorem TouchesLost.not_only {i : Instr} {op : Nat} {w : W256} {t : State} (h : TouchesLost i op w)
    (ht : exec i (stLost w) = .next t) : ¬ Only ((stLost w).wordFrame 96) (stLost w) t := by
  intro ho
  have hspin : t.spin 97 = (stLost w).spin 97 := ho.spin h.lost
  have hchanged := h.changed
  rw [ht, lostTile, hspin] at hchanged
  exact hchanged rfl

/-- The tile shape of one row of two elements. -/
def rowOfTwo : Nat := 2 ^ 32 + 2 * 2 ^ 48

/-- TADD of two elements of tiles 1 and 2 into tile 3. -/
def wordTadd : W256 :=
  BitVec.ofNat 256 (0x110 * 2 ^ 6 + 3 * 2 ^ 16 + 1 * 2 ^ 20 + 2 * 2 ^ 24 + rowOfTwo * 2 ^ 64 + rowOfTwo * 2 ^ 128 +
    rowOfTwo * 2 ^ 192)

theorem wordTadd_touchesLost : TouchesLost (.tadd 96 wordTadd) 0x110 wordTadd where
  performs := by decide +kernel
  clear := by decide +kernel
  lost := by decide +kernel
  changed := by decide +kernel

/-- Refutes O55: a TADD past its commit point changes tile D of a member its ply has lost, outside its frame. -/
theorem not_elementwiseWordsComplete : ¬ Obligations.ElementwiseWordsComplete := by
  unfold Obligations.ElementwiseWordsComplete
  rintro ⟨htadd, -⟩
  have hw := wordTadd_touchesLost
  obtain ⟨t, ht, -, ho⟩ := htadd 96 wordTadd (stLost wordTadd) hw.performs hw.clear
  exact hw.not_only ht ho

/-- TCOPY of two elements of tile 1 to tile 3. -/
def wordTcopy : W256 :=
  BitVec.ofNat 256 (0x130 * 2 ^ 6 + 3 * 2 ^ 16 + 1 * 2 ^ 20 + rowOfTwo * 2 ^ 64 + rowOfTwo * 2 ^ 192)

theorem wordTcopy_touchesLost : TouchesLost (.tcopy 96 wordTcopy) 0x130 wordTcopy where
  performs := by decide +kernel
  clear := by decide +kernel
  lost := by decide +kernel
  changed := by decide +kernel

/-- Refutes O57: a TCOPY past its commit point changes tile D of a member its ply has lost, outside its frame. -/
theorem not_moveAndConvertWordsComplete : ¬ Obligations.MoveAndConvertWordsComplete := by
  unfold Obligations.MoveAndConvertWordsComplete
  rintro ⟨htcopy, -⟩
  have hw := wordTcopy_touchesLost
  obtain ⟨t, ht, -, ho⟩ := htcopy 96 wordTcopy (stLost wordTcopy) hw.performs hw.clear
  exact hw.not_only ht ho

end Sys2Proof.Machine
end

section
/-! PROOF. Memory words: the frame of DMAF fails where it fills a whole fragment that holds an error. The write leaves the
fragment without the error (`State.mend`), and the clause, unlike that of a plain write (O47), names no error in its frame. -/

set_option Elab.async false

namespace Sys2Proof.Machine

/-- DMAF of the 64 bytes from the start of a[2]. -/
def wordDmaf : W256 :=
  BitVec.ofNat 256 (0x211 * 2 ^ 6 + 2 * 2 ^ 16 + 0x0102030405060708 * 2 ^ 128 + 64 * 2 ^ 192)

/-- A descriptor of the 4,096 bytes of HBM at 0x1000, which may be read and written. -/
def descHbm : W128 := BitVec.ofNat 128 (0x1000 * 2 ^ 64 + 4096 * 2 ^ 32 + 0x33)

/-- Spindle 96 has the word at its head, quarry 48 is up, and the fragment at 0x1000 holds an uncorrectable error. -/
def stFlawed : State :=
  (((stRunning.setFld fPW_DIE_ISO_ON 62 48 1).setFld fPW_DIE_ISO_MS_ON 62 48 1).updSpin 96 fun x =>
    { x with spool := [⟨wordDmaf, 9, none, false⟩] }.setA 2 descHbm).setFlaw 0x1000 2

/-- The word is performed by one member, with no failing check. -/
theorem stFlawed_performs : stFlawed.performs 96 0x211 wordDmaf = true ∧
    (firstFail (stFlawed.mdFails 96 wordDmaf true)).isNone = true ∧ mDBE wordDmaf = false ∧
    stFlawed.groups 96 (wScope wordDmaf) = [⟨1, [(0, 96)]⟩] ∧ mLEN (stFlawed.spin 96) wordDmaf ≠ 0 := by
  decide +kernel

/-- Its destination is one piece of HBM outside every region. -/
theorem stFlawed_destination :
    stFlawed.descAddr 96 ((stFlawed.spin 96).getA (mAD wordDmaf)) (mOff (stFlawed.spin 96) wordDmaf) = 0x1000 ∧
    stFlawed.locate (0x1000 % 2 ^ 52) = .hbm 0 ∧ 0x1000 / 2 ^ 52 = stFlawed.pkg ∧
    pieces (0x1000 % 2 ^ 52) (mLEN (stFlawed.spin 96) wordDmaf) = [(0x1000 % 2 ^ 52, mLEN (stFlawed.spin 96) wordDmaf)] ∧
    stFlawed.moveWaits (stFlawed.asSpindle 96) 0x1000 (mLEN (stFlawed.spin 96) wordDmaf) = false ∧
    stFlawed.site (0x1000 % 2 ^ 52) = .free := by
  decide +kernel

/-- Its quarry takes the write. -/
theorem stFlawed_quarry : stFlawed.quiescing (sliceDie (0x1000 % 2 ^ 52)) = false ∧
    stFlawed.quarryUp (sliceDie (0x1000 % 2 ^ 52)) = true := by
  decide +kernel

/-- The errors of memory in an outcome. -/
def flawsOf : Out → Option (SMap Nat)
  | .next t => some t.flaws
  | _ => none

/-- The fragment that was filled holds no error. -/
theorem flawsOf_stFlawed : flawsOf (exec (.dmaf 96 wordDmaf) stFlawed) = some [] ∧ stFlawed.flaws = [(0x40, 2)] := by
  decide +kernel

/-- Refutes O59: a DMAF of a whole fragment that held an error leaves it without, and the clause's frame keeps every error. -/
theorem not_memoryWordsComplete : ¬ Obligations.MemoryWordsComplete := by
  unfold Obligations.MemoryWordsComplete
  rintro ⟨-, -, -, -, -, -, -, hdmaf⟩
  obtain ⟨hp, hf, hb, hg, hl⟩ := stFlawed_performs
  obtain ⟨ha, hloc, hpkg, hpiece, hw, hs⟩ := stFlawed_destination
  obtain ⟨hq, hu⟩ := stFlawed_quarry
  obtain ⟨t, ht, -, ho⟩ := hdmaf 96 0x1000 0 wordDmaf stFlawed hp hf hb hg hl ha hloc hpkg hpiece hw hs hq hu
  obtain ⟨hafter, hbefore⟩ := flawsOf_stFlawed
  rw [ht, flawsOf, ho.flaws_eq rfl, hbefore] at hafter
  exact absurd hafter (by decide)

end Sys2Proof.Machine
end

section
/-! PROOF. Mortar lanes: an accumulation keeps the residue in step with the value, overflow included, and while a lane has
room for its addends its value is their exact sum and its flags their OR, so a lane that starts consistent ends in a state
that does not depend on their order. -/

set_option Elab.async false

namespace Sys2Proof.Machine

/-! ## The residue of a sum (R152) -/

theorem Lane.consistent_iff {l : Lane} : l.consistent = true ↔ residue l.n = l.res := by
  rw [Lane.consistent, beq_iff_eq]

theorem two_pow_640_mod_255 : 2 ^ 640 % 255 = 1 := by decide +kernel

/-- The carry out of a width whose modulus is 1 modulo 255 is worth 1. -/
theorem toNat_add_mod_255 {w : Nat} (hw : 2 ^ w % 255 = 1) (n p : BitVec w) :
    (n + p).toNat % 255 = (n.toNat % 255 + p.toNat % 255 + 255 - if 2 ^ w ≤ n.toNat + p.toNat then 1 else 0) % 255 := by
  have hn := n.isLt
  have hp := p.isLt
  rw [BitVec.toNat_add]
  split
  case isTrue hcarry =>
    rw [Nat.mod_eq_sub_mod hcarry, Nat.mod_eq_of_lt (show n.toNat + p.toNat - 2 ^ w < 2 ^ w by omega)]
    omega
  case isFalse hcarry =>
    rw [Nat.mod_eq_of_lt (show n.toNat + p.toNat < 2 ^ w by omega)]
    omega

theorem residue_add (n p : BitVec 640) :
    residue (n + p) = (residue n + residue p + 255 - if 2 ^ 640 ≤ n.toNat + p.toNat then 1 else 0) % 255 :=
  toNat_add_mod_255 two_pow_640_mod_255 n p

theorem toNat_ofInt_mod_255 {w : Nat} (hw : 2 ^ w % 255 = 1) {x : Int} (hx : x.natAbs < 2 ^ w) :
    (BitVec.ofInt w x).toNat % 255 = addendResidue (decide (x < 0)) x.natAbs := by
  rw [BitVec.toNat_ofInt]
  by_cases hneg : x < 0
  · rw [Int.emod_eq_add_self_emod, Int.emod_eq_of_lt (by omega) (by omega)]
    simp only [addendResidue, hneg, decide_true, if_true]
    omega
  · rw [Int.emod_eq_of_lt (by omega) (by omega)]
    simp only [addendResidue, hneg, decide_false, Bool.false_eq_true, if_false]
    omega

theorem residue_ofInt {x : Int} (hx : x.natAbs < 2 ^ 640) :
    residue (BitVec.ofInt 640 x) = addendResidue (decide (x < 0)) x.natAbs :=
  toNat_ofInt_mod_255 two_pow_640_mod_255 hx

/-! ## Accumulations keep the residue (R153) -/

theorem Lane.val_bounds (l : Lane) : -2 ^ 639 ≤ l.val ∧ l.val < 2 ^ 639 := ⟨BitVec.le_toInt l.n, BitVec.toInt_lt⟩

theorem Lane.addFinite_consistent {l : Lane} (h : l.consistent = true) (x : Int) : (l.addFinite x).consistent = true := by
  obtain ⟨hl, hu⟩ := l.val_bounds
  rw [Lane.consistent_iff] at h
  simp only [Lane.addFinite]
  split
  case isTrue => exact Lane.consistent_iff.mpr h
  split
  case isTrue => simp only [Lane.consistent_iff]; decide +kernel
  split
  case isTrue => simp only [Lane.consistent_iff]; decide +kernel
  case isFalse hlow hhigh =>
    rw [Lane.consistent_iff, residue_add, residue_ofInt (by omega), h]

theorem Lane.accumulate_consistent {l : Lane} (h : l.consistent = true) (v : FV) : (l.accumulate v).consistent = true := by
  match v with
  | .nan | .inf false | .inf true => exact h
  | .fin s n d => exact l.addFinite_consistent h _

theorem Lane.accumulateAll_consistent {l : Lane} (h : l.consistent = true) (vs : List FV) :
    (l.accumulateAll vs).consistent = true := by
  induction vs generalizing l with
  | nil => exact h
  | cons v vs ih => exact ih (l.accumulate_consistent h v)

/-! ## Accumulations of a lane with room are exact (R144, R147) -/

/-- What an accumulation adds to N. -/
def FV.addend (v : FV) : Int := signedNum v.sign v.units

/-- The flag an accumulation sets. -/
def FV.laneFlag : FV → BitVec 5
  | .nan => 0b00001
  | .inf false => 0b00010
  | .inf true => 0b00100
  | .fin _ _ _ => 0#5

theorem FV.natAbs_addend (v : FV) : v.addend.natAbs = v.units := by
  rw [FV.addend, signedNum]
  split
  · exact (Int.natAbs_neg _).trans (Int.natAbs_natCast _)
  · exact Int.natAbs_natCast _

/-- The lane has not overflowed, and addends of k units together cannot make it. -/
def Lane.Room (l : Lane) (k : Nat) : Prop := l.ovf = false ∧ l.val.natAbs + k < 2 ^ 639

theorem Lane.Room.mono {l : Lane} {j k : Nat} (h : l.Room k) (hjk : j ≤ k) : l.Room j :=
  ⟨h.1, (Nat.add_le_add_left hjk _).trans_lt h.2⟩

theorem Lane.addFinite_exact {l : Lane} {x : Int} (h : l.Room x.natAbs) :
    (l.addFinite x).val = l.val + x ∧ (l.addFinite x).flags = l.flags := by
  obtain ⟨hovf, hroom⟩ := h
  have hsum : l.n + BitVec.ofInt 640 x = BitVec.ofInt 640 (l.val + x) := by
    rw [BitVec.ofInt_add, Lane.val, BitVec.ofInt_toInt]
  simp only [Lane.addFinite, hovf, Bool.false_eq_true, if_false, hsum]
  rw [if_neg (by omega), if_neg (by omega)]
  exact ⟨BitVec.toInt_ofInt_eq_self (by omega) (by omega) (by omega), rfl⟩

theorem Lane.accumulate_fin (l : Lane) (s : Bool) (n d : Nat) :
    l.accumulate (.fin s n d) = l.addFinite (FV.fin s n d).addend := rfl

theorem Lane.accumulate_exact {l : Lane} {v : FV} (h : l.Room v.units) :
    (l.accumulate v).val = l.val + v.addend ∧ (l.accumulate v).flags = l.flags ||| v.laneFlag := by
  cases v with
  | nan => exact ⟨(Int.add_zero _).symm, rfl⟩
  | inf s =>
    cases s with
    | false => exact ⟨(Int.add_zero _).symm, rfl⟩
    | true => exact ⟨(Int.add_zero _).symm, rfl⟩
  | fin s n d =>
    rw [Lane.accumulate_fin, FV.laneFlag, BitVec.or_zero]
    exact l.addFinite_exact ((FV.natAbs_addend _).symm ▸ h)

theorem FV.ovf_or_laneFlag (v : FV) (f : BitVec 5) : bitOf (f ||| v.laneFlag) 3 = bitOf f 3 := by
  have hclear : v.laneFlag.getLsbD 3 = false := by
    match v with
    | .nan | .inf false | .inf true => rfl
    | .fin _ _ _ => exact BitVec.getLsbD_zero
  rw [bitOf, BitVec.getLsbD_or, hclear, Bool.or_false, bitOf]

theorem Lane.accumulate_room {l : Lane} {v : FV} {k : Nat} (h : l.Room (v.units + k)) : (l.accumulate v).Room k := by
  obtain ⟨hval, hflags⟩ := Lane.accumulate_exact (h.mono (Nat.le_add_right _ k))
  obtain ⟨hovf, hroom⟩ := h
  have habs := v.natAbs_addend
  exact ⟨by rwa [Lane.ovf, hflags, v.ovf_or_laneFlag], by omega⟩

theorem Lane.accumulateAll_exact {l : Lane} {vs : List FV} (h : l.Room (vs.map FV.units).sum) :
    (l.accumulateAll vs).val = l.val + (vs.map FV.addend).sum ∧
      (l.accumulateAll vs).flags = (vs.map FV.laneFlag).foldl (· ||| ·) l.flags := by
  induction vs generalizing l with
  | nil => exact ⟨(Int.add_zero _).symm, rfl⟩
  | cons v vs ih =>
    simp only [List.map_cons, List.sum_cons, List.foldl_cons] at h ⊢
    obtain ⟨hval, hflags⟩ := Lane.accumulate_exact (h.mono (Nat.le_add_right _ _))
    rw [← Int.add_assoc, ← hval, ← hflags]
    exact ih (Lane.accumulate_room h)

/-! ## The order of the addends (R151) -/

/-- The value and the flags of a consistent lane are all of it. -/
theorem Lane.eq_of_consistent {l m : Lane} (hl : l.consistent = true) (hm : m.consistent = true) (hval : l.val = m.val)
    (hflags : l.flags = m.flags) : l = m := by
  rw [Lane.consistent_iff] at hl hm
  obtain ⟨n, f, r⟩ := l
  obtain ⟨n', f', r'⟩ := m
  obtain rfl : n = n' := BitVec.eq_of_toInt_eq hval
  obtain rfl : f = f' := hflags
  obtain rfl : r = r' := hl.symm.trans hm
  rfl

theorem Lane.accumulateAll_perm {l : Lane} {vs ws : List FV} (hl : l.consistent = true)
    (hroom : l.Room (vs.map FV.units).sum) (h : vs.Perm ws) : l.accumulateAll vs = l.accumulateAll ws := by
  obtain ⟨hval, hflags⟩ := Lane.accumulateAll_exact hroom
  obtain ⟨hval', hflags'⟩ := Lane.accumulateAll_exact (vs := ws) ((h.map FV.units).sum_eq ▸ hroom)
  refine Lane.eq_of_consistent (l.accumulateAll_consistent hl vs) (l.accumulateAll_consistent hl ws) ?_ ?_
  · rw [hval, hval', (h.map FV.addend).sum_eq]
  · rw [hflags, hflags', (h.map FV.laneFlag).foldl_op_eq]

theorem Lane.zero_consistent : Lane.zero.consistent = true := by decide +kernel

theorem Lane.zero_room {k : Nat} (h : k < 2 ^ 639) : Lane.zero.Room k := by
  have hval : Lane.zero.val = 0 := by decide +kernel
  exact ⟨rfl, by omega⟩

/-- Settles O12: the residue by induction on the addends, and their order because a lane with room holds their exact sum. -/
theorem lanesAddExactly : Obligations.LanesAddExactly := by
  unfold Obligations.LanesAddExactly
  exact ⟨fun _ vs h => Lane.accumulateAll_consistent h vs,
    fun _ _ hperm hsum => Lane.accumulateAll_perm Lane.zero_consistent (Lane.zero_room (by omega)) hperm⟩

end Sys2Proof.Machine
end

section
/-! PROOF. Groups (R160, R161, R170): the members of every group, one after another, make one list. Where it names no spindle
twice each member gets its own new state, made from its state before, and a spindle it does not name keeps its state. -/

set_option Elab.async false

namespace Sys2Proof.Machine

variable {s : State} {sp scope : Nat} {f : Grp → Nat → Spin → Spin}

/-- The members of every group of a scope, each with its group. -/
def State.groupMembers (s : State) (sp scope : Nat) : List (Grp × Nat × Nat) :=
  (s.groups sp scope).flatMap fun g => g.mems.map fun m => (g, m)

theorem State.mem_groupMembers {g : Grp} {m : Nat × Nat} :
    (g, m) ∈ s.groupMembers sp scope ↔ g ∈ s.groups sp scope ∧ m ∈ g.mems := by
  simp [State.groupMembers]

theorem State.groupMembers_spindles :
    ((s.groupMembers sp scope).map fun x => x.2.2) = ((s.groups sp scope).flatMap fun g => g.mems).map fun m => m.2 := by
  simp [State.groupMembers, List.map_flatMap, Function.comp_def]

/-- The changes of the members of each group in turn are one list of changes. -/
theorem State.eachMember_eq_each :
    s.eachMember sp scope f = s.each (s.groupMembers sp scope) fun x t => t.updSpin x.2.2 (f x.1 x.2.1) := by
  simp only [State.eachMember, State.each, State.groupMembers, List.foldl_flatMap, List.foldl_map]

/-- Settles O14: the members of all groups, in one list without repetition, are each changed once. -/
theorem groupsReachEveryMember : Obligations.GroupsReachEveryMember := by
  unfold Obligations.GroupsReachEveryMember
  refine fun s sp scope f hn => ⟨fun g hg m hm => ?_, fun q hq => ?_⟩
  · rw [State.eachMember_eq_each]
    rw [← State.groupMembers_spindles] at hn
    exact State.each_at (·.spin m.2) (fun x => x.2.2) hn (State.mem_groupMembers.mpr ⟨hg, hm⟩) (F := f g m.1)
      (fun t => t.spin_updSpin_self _ _) (fun x _ hne t => t.spin_updSpin_ne (Ne.symm hne) _) s
  · rw [State.eachMember_eq_each]
    refine State.each_keeps (·.spin q) _ _ (fun x hx t => t.spin_updSpin_ne ?_ _) s
    obtain ⟨hg, hm⟩ := State.mem_groupMembers.mp hx
    exact (hq x.1 hg x.2 hm).symm

end Sys2Proof.Machine
end

section
/-! PROOF. Ply commands: two clauses fail in states whose plies overlap, which no hypothesis excludes. The unit that is
restored after an AUTO ply is re-formed is the ply its entry's identity names (`State.restoreUnit`), and the unit noted as
having run before a member elsewhere is lost is that of the ply a local member is first found in (`State.loseRemote`). Either
may be another ply than the one the clause speaks of. -/

set_option Elab.async false

namespace Sys2Proof.Machine

theorem State.eq_afterCommand {s t : State} {i : Instr} (h : exec i s = .next t) : t = s.afterCommand i := by
  rw [State.afterCommand, h]

/-! ## Two plies of one identity (R157, R191) -/

/-- A stopped ply that has lost no member. -/
def plyNamesake : Ply := ⟨[(5, 3), (5, 4)], 1, [], 16, false, true, []⟩

/-- An AUTO ply of the same identity that has lost its second member, of this package. -/
def plyAuto : Ply := ⟨[(5, 3), (0, 96)], 1, [], 16, true, true, [1]⟩

/-- The identity is enrolled in entry 0, a rollback has restored the epoch, and spindle 97, HALTED, is in reserve. -/
def stNamesakes : State :=
  let s := ({ stRunning with plies := [plyNamesake, plyAuto] }.setSpFld fSPN_STAT_STATE 97 2).setReg .PLY_RESERVE 3 0 2
  (((s.setWfld fWD_EP_ENT0_PKG 0 5).setWfld fWD_EP_ENT0_SPINDLE 0 3).setWfld fWD_EP_ENT0_STATE 0 3).setLat .epochBack 0 0 1

/-- The AUTO ply may be re-formed with spindle 97. -/
theorem stNamesakes_mayReform : stNamesakes.plyOf 96 = some plyAuto ∧ stNamesakes.unitEntry 96 = some 0 ∧
    stNamesakes.mayReform 0 = true ∧ stNamesakes.chooseReserve plyAuto plyAuto.lost [] = some [(1, 0, 97)] := by
  decide +kernel

/-- Its re-forming starts the other ply again. -/
theorem stNamesakes_reformed : (stNamesakes.afterCommand (.plyAutoReform 96)).plies =
    [{ plyNamesake with stopped := false }, plyAuto.reformed [(1, 0, 97)]] := by
  decide +kernel

/-- Refutes O49: re-forming an AUTO ply changes the stopped ply that has the same identity as well. -/
theorem not_plyFormingCommandsComplete : ¬ Obligations.PlyFormingCommandsComplete := by
  unfold Obligations.PlyFormingCommandsComplete
  rintro ⟨-, -, -, -, -, -, -, -, -, -, -, -, -, -, hreform, -⟩
  obtain ⟨hply, hentry, hmay, hchoice⟩ := stNamesakes_mayReform
  obtain ⟨t, ht, hplies⟩ := hreform 96 0 plyAuto [(1, 0, 97)] stNamesakes (by decide) hply hentry hmay rfl (by decide) hchoice
  rw [State.eq_afterCommand ht, stNamesakes_reformed] at hplies
  exact absurd hplies (by decide +kernel)

/-! ## A spindle in two plies (R180, R189) -/

/-- A ply of spindle 97 and a spindle of package 5. -/
def plyAbroad : Ply := ⟨[(0, 97), (5, 3)], 1, [], 16, true, false, []⟩

/-- That ply once its member of package 5 is lost. -/
def plyAbroadLost : Ply := { plyAbroad with lost := [1], stopped := true }

/-- The ply of spindles 96 and 97. -/
def plyHome : Ply := ⟨[(0, 96), (0, 97)], 1, [], 16, true, false, []⟩

/-- Spindle 97 is also in the ply of spindle 96, which is RUNNING and enrolled in entry 0. -/
def stShared : State :=
  ({ stRunning with plies := [plyHome, plyAbroad] }.setWfld fWD_EP_ENT0_SPINDLE 0 96).setWfld fWD_EP_ENT0_STATE 0 1

/-- The member of package 5 may be lost to a ply that is not enrolled. -/
theorem stShared_memberLost :
    stShared.plies.find? (fun y => y.members.contains (5, 3)) = some plyAbroad ∧
      plyAbroad.members.findIdx? (fun k => decide (k = (5, 3))) = some 1 ∧ plyAbroadLost.carrier.1 = stShared.pkg ∧
      stShared.enrolment (plyAbroad.members.head?.getD (0, 0)).1 (plyAbroad.members.head?.getD (0, 0)).2 = none ∧
      5 ≠ stShared.pkg := by
  decide +kernel

/-- Its loss notes that the unit of entry 0, the other ply, has run. -/
theorem stShared_runAfter : stShared.lat .runAfter 0 0 = 0 ∧
    (stShared.afterCommand (.plyMemberLost 5 3)).lat .runAfter 0 0 = 1 := by
  decide +kernel

/-- Refutes O50: the loss of a member elsewhere notes, outside the frame, that another ply with the same spindle has run. -/
theorem not_plyRunningCommandsComplete : ¬ Obligations.PlyRunningCommandsComplete := by
  unfold Obligations.PlyRunningCommandsComplete
  rintro ⟨-, -, -, -, -, -, -, hlost, -⟩
  obtain ⟨hfind, hidx, hcarrier, hfree, hpkg⟩ := stShared_memberLost
  obtain ⟨t, ht, -, -, ho⟩ := hlost 5 3 1 plyAbroad plyAbroadLost stShared (by decide) (by decide) hfind hidx rfl rfl hcarrier
    hfree hpkg
  obtain ⟨hbefore, hafter⟩ := stShared_runAfter
  have hkept : t.lat .runAfter 0 0 = stShared.lat .runAfter 0 0 := ho.lat rfl
  rw [State.eq_afterCommand ht, hafter, hbefore] at hkept
  exact absurd hkept (by decide)

end Sys2Proof.Machine
end

section
/-! PROOF. Region and skein commands (R203 to R206, R230, R232, R233): a command register of a quarry takes its write, a
region command then fails at once or leaves its slot under way, and one that ends shows RESULT 0. -/

set_option Elab.async false

namespace Sys2Proof.Machine

variable {s : State} {m : Master} {d k c : Nat} {v : W64}

/-! ## Registers of a quarry -/

theorem isQuarry_of_range (hlo : 48 ≤ d) (hhi : d < 56) : isQuarry d = true := by simp [isQuarry, hlo, hhi]

/-- A register set in a die of which the frame names it. -/
theorem Only.setReg_at {l : List Reg} {ls : Lat → Nat → Nat → Bool} {r : Reg} (hr : r ∈ l) (i : Nat) (x : W64) :
    Only { regs := regsAt l d, lats := ls } s (s.setReg r d i x) :=
  Only.setReg _ _ _ _ fun y hy => by simp [regsAt, hr, hy]

/-- The active warden is no quarry. -/
theorem State.ne_aw (hhi : d < 56) : d ≠ s.aw := by
  unfold State.aw
  split <;> omega

/-- A quarry's register without fields that need presence takes a write, and nothing else changes (R10, R12). -/
theorem State.plainWrite_quarry (hhi : d < 56) {r : Reg} (hr : ∀ f ∈ (regDesc r).fields, f.acc ≠ .wp) (i : Nat) (v : W64) :
    ∃ x, s.plainWrite r d i v = s.setReg r d i x := by
  have hnone : refusedField r (fun f => s.shown d (f.needs v)) (s.reg r d i) v = none :=
    List.find?_eq_none.mpr fun f hf => by simp [hr f hf]
  refine ⟨writtenValue r (fun f => s.shown d (f.needs v)) (s.reg r d i) v, ?_⟩
  simp only [State.plainWrite, hnone, State.putReg, if_neg (s.ne_aw hhi)]

/-- Within a frame the records of a quarry it does not name are as they were. -/
theorem Only.skein {e : Change} {t : State} (h : Only e s t) (hd : e.skeins d = false) : t.skein d = s.skein d := by
  obtain ⟨-, -, -, -, h, -⟩ := h
  exact h d hd

/-- The registers of a region's slot. -/
def rgnRegs : List Reg := [.QD_RGN0, .QD_RGN1, .QD_RGN2, .QD_RGN3, .QD_RGN_INFO]

theorem Spares.rgn {rs : List Reg} {ls : List Lat} {t : State} (h : Spares rs ls s t) (d k : Nat)
    (hr : ∀ r ∈ rgnRegs, r ∈ rs := by decide) : t.rgn d k = s.rgn d k := by
  have hreg : ∀ r ∈ rgnRegs, t.reg r d k = s.reg r d k := fun r hm => h.reg r (hr r hm) d k
  simp (disch := decide) only [State.rgn, hreg]

/-! ## The region commands (R203, R206) -/

/-- A region command written while not BUSY by a master that may command is taken (R206). -/
theorem State.rgnCmd_taken (hhi : d < 56) (hup : s.dieUp d = true) (hm : s.hostOrActive m = true)
    (hbusy : s.flag fQD_RGN_STAT_BUSY d 0 = false) :
    ∃ x, ∀ f, s.rgnCmd m d v f = f (getBits v 15 8) (s.setReg .QD_RGN_CMD d 0 x) := by
  obtain ⟨x, hx⟩ := State.plainWrite_quarry (s := s) hhi (r := .QD_RGN_CMD) (by decide) 0 v
  exact ⟨x, fun f => by rw [State.rgnCmd, s.toDie_up hup, if_neg (by simp [hbusy, hm]), hx]⟩

/-- A region command that fails at once shows its code and is not BUSY (R203). -/
theorem State.rgnFail_shows (hc : c < 256) :
    (s.rgnFail d c).fld fQD_RGN_STAT_RESULT d 0 = c ∧ (s.rgnFail d c).flag fQD_RGN_STAT_BUSY d 0 = false := by
  have hev := (Spares.refl (rs := [.QD_RGN_STAT]) (ls := [])
    ((s.setFld fQD_RGN_STAT_RESULT d 0 c).setFld fQD_RGN_STAT_BUSY d 0 0)).event (code := 0x2110) (sev := .warn)
      (unit := engineUnit d) (payload := c)
  refine ⟨(hev.fld d 0).trans ?_, (hev.flag d 0).trans (State.flag_setFld_zero _ _ _ (by decide))⟩
  rw [State.fld_setFld_disjoint _ (by rfl) (by decide), s.fld_setFld_fits d 0 (by decide) hc]

theorem Only.rgnFail {w : W64} :
    Only (Change.recording { regs := regsIn [.QD_RGN_CMD, .QD_RGN_STAT] d 0 }) s
      ((s.setReg .QD_RGN_CMD d 0 w).rgnFail d c) :=
  (((Only.setReg _ _ _ _ fun _ => regsIn_self (by decide)).trans
    ((Only.setFld _ _ _ _ fun _ => regsIn_self (by decide)).trans (Only.setFld _ _ _ _ fun _ => regsIn_self (by decide)))).mono
      (Change.le_recording _)).trans (Only.event _ _ _ _ (Change.records_recording _))

/-- A region command that completes shows RESULT 0 and is not BUSY (Table QD-4). -/
theorem State.rgnDone_shows : (s.rgnDone d).flag fQD_RGN_STAT_BUSY d 0 = false ∧
    (s.rgnDone d).fld fQD_RGN_STAT_RESULT d 0 = 0 ∧ (s.rgnDone d).lat .rgnDue d 0 = 0 := by
  have hev := (Spares.refl (rs := [.QD_RGN_STAT]) (ls := [.rgnDue])
    (((s.setFld fQD_RGN_STAT_RESULT d 0 0).setFld fQD_RGN_STAT_BUSY d 0 0).setLat .rgnDue d 0 0)).event (code := 0x2111)
      (sev := .note) (unit := engineUnit d) (payload := 0)
  refine ⟨(hev.flag d 0).trans (State.flag_setFld_zero _ _ _ (by decide)), (hev.fld d 0).trans ?_,
    (hev.lat _ (by decide) d 0).trans (State.lat_setLat_self _ _ _ _ _)⟩
  rw [State.fld_setLat, State.fld_setFld_disjoint _ (by rfl) (by decide), s.fld_setFld_fits d 0 (by decide) (by decide)]

theorem State.rgnState_rgnDone (e : Nat) : (s.rgnDone d).rgnState e k = s.rgnState e k :=
  (((Spares.refl (rs := [.QD_RGN_INFO]) (ls := []) s).setFld.setFld.setLat).event).fld e k

theorem Only.rgnDone :
    Only (Change.recording { regs := regsAt [.QD_RGN_STAT, .QD_RGN_INFO] d, lats := theLat .rgnDue d 0 }) s (s.rgnDone d) :=
  (((Only.setReg_at (by decide) 0 _).trans ((Only.setReg_at (by decide) 0 _).trans (Only.setLat _ _ _ _ (theLat_self ..)))).mono
    (Change.le_recording _)).trans (Only.event _ _ _ _ (Change.records_recording _))

/-! ## LOAD (R204) -/

/-- The registers that the checks of a LOAD read (Table QD-4). -/
def loadRegs : List Reg :=
  [.QD_RGN_STAGE0, .QD_RGN_STAGE1, .QD_RGN_STAGE2, .QD_RGN_STAGE3, .QD_RGN0, .QD_RGN1, .QD_RGN2, .QD_RGN3, .QD_RGN_INFO,
    .QD_MIR0, .QD_MIR1, .QD_MIR2, .QD_MIR3, .QD_MIR_INFO, .QD_CFG, .QD_CARVE, .QD_OPEN_TOP, .QD_TEN, .CX_PORT_STAT, .PW_DIE_ISO]

/-- The latches that they read. -/
def loadLats : List Lat := [.quarryLost, .stopRetired, .inReset]

namespace Spares
variable {t : State} (h : Spares loadRegs loadLats s t)
include h

theorem staged : t.staged d = s.staged d := by
  simp (disch := decide) only [State.staged, h.reg]

theorem stageBad : t.stageBad d = s.stageBad d := by
  simp (disch := decide) only [State.stageBad, h.reg]

theorem mir : t.mir = s.mir := by
  funext e j
  simp (disch := decide) only [State.mir, h.reg]

theorem rgnState : t.rgnState = s.rgnState := by
  funext e j
  exact h.fld e j

theorem mirState : t.mirState = s.mirState := by
  funext e j
  exact h.fld e j

theorem rgnSlots : t.rgnSlots = s.rgnSlots := by
  funext e
  rw [State.rgnSlots, h.rgnState, State.rgnSlots]

theorem mirSlots : t.mirSlots = s.mirSlots := by
  funext e
  rw [State.mirSlots, h.mirState, State.mirSlots]

theorem taken : t.taken = s.taken := by
  funext e j x a n
  simp only [State.taken, h.rgnSlots, h.mirSlots, h.mir, h.rgn]

theorem inOpen : t.inOpen = s.inOpen := by
  funext e a n
  rw [State.inOpen, h.reg _ (by decide), State.inOpen]

theorem inCxl : t.inCxl = s.inCxl := by
  funext a n
  rw [State.inCxl, State.cxlBytes, h.fld (f := fCX_PORT_STAT_STATE), h.fld (f := fCX_PORT_STAT_CAP), State.inCxl,
    State.cxlBytes]

theorem parityFits : t.parityFits = s.parityFits := by
  funext e j r
  have hrgn : t.rgn = s.rgn := funext₂ h.rgn
  rw [State.parityFits, State.parityUsed, h.rgnSlots, h.mirSlots, h.mir, hrgn, h.fld, State.parityFits, State.parityUsed]

theorem tenUsed : t.tenUsed = s.tenUsed := by
  funext e j n
  simp only [State.tenUsed, h.rgnSlots, h.rgn]

theorem quarryUp : t.quarryUp = s.quarryUp := by
  funext e
  simp (disch := decide) only [State.quarryUp, State.dieUp, h.flag (f := fPW_DIE_ISO_ON), h.flag (f := fPW_DIE_ISO_MS_ON),
    h.lat]

theorem partner : t.partner d = s.partner d := by
  rw [State.partner, h.fld, State.partner]

/-- The checks of a LOAD look at nothing else. -/
theorem loadCodes : t.loadCodes d k = s.loadCodes d k := by
  have hcap : t.fld fQD_TEN_CAP_GIB = s.fld fQD_TEN_CAP_GIB := by
    funext e i
    exact h.fld e i
  rw [State.loadCodes, h.staged, h.stageBad, h.inOpen, h.inCxl, h.taken, h.parityFits, h.partner, h.quarryUp, h.mirState,
    h.tenUsed, h.rgnState, h.flag, h.fld (f := fQD_CARVE_SKEIN_GIB), hcap, State.loadCodes]

end Spares

/-- A code that a LOAD answers is one of Table QD-4. -/
theorem State.loadCodes_le (h : c ∈ s.loadCodes d k) : c ≤ 0xA := by
  simp only [State.loadCodes, List.mem_append, List.mem_ite_nil_right, List.mem_singleton] at h
  omega

theorem mem_of_lowest {l : List Nat} (h : lowest l = some c) : c ∈ l := by
  induction l generalizing c with
  | nil => cases h
  | cons x l ih =>
    rw [lowest] at h
    split at h
    · next y hy =>
      obtain rfl : min x y = c := Option.some.inj h
      rcases Nat.le_total x y with hxy | hxy
      · simp [Nat.min_eq_left hxy]
      · simp [Nat.min_eq_right hxy, ih hy]
    · obtain rfl : x = c := Option.some.inj h
      exact List.mem_cons_self

/-- A slot that is placed holds the staged descriptor and is LOADING, with a mirror or without. -/
theorem State.placeRgn_stands (mirror : Bool) :
    (s.placeRgn d k mirror).rgn d k = s.staged d ∧ (s.placeRgn d k mirror).rgnState d k = 1 := by
  unfold State.placeRgn
  extract_lets t t' p u
  have ht : t'.rgn d k = s.staged d ∧ t'.rgnState d k = 1 := by
    constructor
    · simp (disch := decide) only [t', t, State.rgn, State.staged, State.reg_setLat, State.reg_setReg_name,
        State.reg_setReg_self]
    · simp only [t', State.rgnState, State.fld, State.reg_setLat, State.reg_setReg_self]; decide
  have hu : Spares rgnRegs [] t' (u.setReg .QD_MIR_INFO p k 1) := (Spares.refl t').setReg.setReg.setReg.setReg.setReg
  split
  · exact ⟨(hu.rgn d k).trans ht.1, (hu.fld d k).trans ht.2⟩
  · exact ht

section
variable (hlo : 48 ≤ d) (hhi : d < 56) (hup : s.dieUp d = true) (hm : s.hostOrActive m = true)
  (hbusy : s.flag fQD_RGN_STAT_BUSY d 0 = false)
include hlo hhi hup hm hbusy

/-- A LOAD without a failing check copies the staged descriptor into its slot, which is LOADING (R204). -/
theorem regionLoad_starts (hop : getBits v 3 0 = 1) (hk : k = getBits v 15 8) (hok : s.loadCodes d k = []) :
    Completes (.regionLoad m d v) s fun t =>
      t.rgnState d k = 1 ∧ t.flag fQD_RGN_STAT_BUSY d 0 = true ∧ t.lat .rgnDue d 0 = k + 1 ∧ t.rgn d k = s.staged d := by
  obtain ⟨x, hcmd⟩ := State.rgnCmd_taken (v := v) hhi hup hm hbusy
  refine .of_unit rfl (isQuarry_of_range hlo hhi) ?_
  have hcmdReg : Spares loadRegs loadLats s (s.setReg .QD_RGN_CMD d 0 x) := (Spares.refl s).setReg
  rw [if_pos hop, hcmd, ← hk, hcmdReg.loadCodes, hok, ← hcmdReg.staged]
  set t := s.setReg .QD_RGN_CMD d 0 x
  obtain ⟨hrgn, hstate⟩ := State.placeRgn_stands (s := t) (d := d) (k := k) (t.staged d).mirror
  set u := t.placeRgn d k (t.staged d).mirror
  have hafter : Spares rgnRegs [] u ((u.setFld fQD_RGN_STAT_BUSY d 0 1).setLat .rgnDue d 0 (k + 1)) :=
    (Spares.refl u).setFld.setLat
  exact ⟨(hafter.fld d k).trans hstate, u.flag_setFld_one d 0 (by decide) (by decide), State.lat_setLat_self ..,
    (hafter.rgn d k).trans hrgn⟩

/-- A LOAD with failing checks answers the lowest code and leaves its slot as it was (R203). -/
theorem regionLoad_fails (hop : getBits v 3 0 = 1) (hc : lowest (s.loadCodes d (getBits v 15 8)) = some c) :
    Completes (.regionLoad m d v) s fun t =>
      t.fld fQD_RGN_STAT_RESULT d 0 = c ∧ t.flag fQD_RGN_STAT_BUSY d 0 = false ∧
        Only (Change.recording { regs := regsIn [.QD_RGN_CMD, .QD_RGN_STAT] d 0 }) s t := by
  obtain ⟨x, hcmd⟩ := State.rgnCmd_taken (v := v) hhi hup hm hbusy
  refine .of_unit rfl (isQuarry_of_range hlo hhi) ?_
  have hcmdReg : Spares loadRegs loadLats s (s.setReg .QD_RGN_CMD d 0 x) := (Spares.refl s).setReg
  rw [if_pos hop, hcmd, hcmdReg.loadCodes, hc]
  have hle : c ≤ 0xA := State.loadCodes_le (mem_of_lowest hc)
  obtain ⟨hres, hbusy'⟩ := State.rgnFail_shows (s := s.setReg .QD_RGN_CMD d 0 x) (d := d) (c := c) (by omega)
  exact ⟨hres, hbusy', Only.rgnFail⟩

/-- An UNLOAD of a slot without records in the skein that serves it leaves the slot UNLOADING (R205). -/
theorem regionUnload_starts (hop : getBits v 3 0 = 2) (hk : k = getBits v 15 8) (hused : s.rgnState d k ≠ 0)
    (hrec : (s.skein (s.servingDie d k)).any (fun r => r.handle == s.handleOf d k) = false) :
    Completes (.regionUnload m d v) s fun t =>
      t.rgnState d k = 5 ∧ t.flag fQD_RGN_STAT_BUSY d 0 = true ∧ t.lat .rgnDue d 0 = k + 1 ∧
        Only ({ regs := regsAt [.QD_RGN_CMD, .QD_RGN_STAT, .QD_RGN_INFO] d, lats := theLat .rgnDue d 0 }) s t := by
  obtain ⟨x, hcmd⟩ := State.rgnCmd_taken (v := v) hhi hup hm hbusy
  refine .of_unit rfl (isQuarry_of_range hlo hhi) ?_
  have hcmdReg : Spares [.QD_RGN_INFO, .HI_PKG_NUM] [] s (s.setReg .QD_RGN_CMD d 0 x) := (Spares.refl s).setReg
  have hstate : (s.setReg .QD_RGN_CMD d 0 x).rgnState d k = s.rgnState d k := hcmdReg.fld d k
  have hhandle : (s.setReg .QD_RGN_CMD d 0 x).handleOf d k = s.handleOf d k := by
    rw [State.handleOf, State.pkg, hcmdReg.fld 60 0, State.handleOf, State.pkg]
  have hserve : (s.setReg .QD_RGN_CMD d 0 x).servingDie d k = s.servingDie d k := rfl
  rw [if_pos hop, hcmd, ← hk, if_neg (hstate ▸ hused), hhandle, hserve, State.skein_setReg, if_neg (by simp [hrec])]
  set t := s.setReg .QD_RGN_CMD d 0 x
  refine ⟨?_, State.flag_setFld_one _ _ _ (by decide) (by decide), State.lat_setLat_self .., ?_⟩
  · exact (((Spares.refl (rs := [.QD_RGN_INFO]) (ls := []) _).setFld.setLat).fld d k).trans
      (t.fld_setFld_fits d k (by decide) (by decide))
  · exact (((Only.setReg_at (by decide) 0 x).trans (Only.setReg_at (by decide) k _)).trans
      (Only.setReg_at (by decide) 0 _)).trans (Only.setLat _ _ _ _ (theLat_self ..))

/-- An UNLOAD of an empty slot answers SLOT_EMPTY (R205, Table QD-4). -/
theorem regionUnload_empty (hop : getBits v 3 0 = 2) (hempty : s.rgnState d (getBits v 15 8) = 0) :
    Completes (.regionUnload m d v) s fun t =>
      t.fld fQD_RGN_STAT_RESULT d 0 = 0xB ∧
        Only (Change.recording { regs := regsIn [.QD_RGN_CMD, .QD_RGN_STAT] d 0 }) s t := by
  obtain ⟨x, hcmd⟩ := State.rgnCmd_taken (v := v) hhi hup hm hbusy
  refine .of_unit rfl (isQuarry_of_range hlo hhi) ?_
  have hstate : (s.setReg .QD_RGN_CMD d 0 x).rgnState d (getBits v 15 8) = 0 :=
    ((Spares.refl (rs := [.QD_RGN_INFO]) (ls := []) s).setReg.fld d _).trans hempty
  rw [if_pos hop, hcmd, if_pos hstate]
  exact ⟨(State.rgnFail_shows (by decide)).1, Only.rgnFail⟩

/-- A reserved OP answers BAD_COMMAND (Table QD-4). -/
theorem regionBadCommand_fails (hop : getBits v 3 0 = 0 ∨ 3 ≤ getBits v 3 0) :
    Completes (.regionBadCommand m d v) s fun t =>
      t.fld fQD_RGN_STAT_RESULT d 0 = 1 ∧
        Only (Change.recording { regs := regsIn [.QD_RGN_CMD, .QD_RGN_STAT] d 0 }) s t := by
  obtain ⟨x, hcmd⟩ := State.rgnCmd_taken (v := v) hhi hup hm hbusy
  refine .of_unit rfl (isQuarry_of_range hlo hhi) ?_
  rw [if_pos hop, hcmd]
  exact ⟨(State.rgnFail_shows (by decide)).1, Only.rgnFail⟩

end

/-! ## The ends of region commands (R204, R205) -/

/-- A LOAD of a region without a mirror ends ACTIVE, or DAMAGED where it lost a block (R204, R228, log entry 193). -/
theorem regionLoadDone_completes (hlo : 48 ≤ d) (hhi : d < 56) (hdue : s.lat .rgnDue d 0 = k + 1) (hload : s.rgnState d k = 1)
    (hmir : (s.rgn d k).mirror = false) :
    Completes (.regionLoadDone d) s fun t =>
      t.rgnState d k = s.loadedState d k 2 ∧ t.flag fQD_RGN_STAT_BUSY d 0 = false ∧ t.fld fQD_RGN_STAT_RESULT d 0 = 0 ∧
        t.lat .rgnDue d 0 = 0 ∧
        Only (Change.recording { regs := regsAt [.QD_RGN_STAT, .QD_RGN_INFO] d, lats := theLat .rgnDue d 0 }) s t := by
  refine .of_unit rfl (isQuarry_of_range hlo hhi) ?_
  have hk : s.lat .rgnDue d 0 - 1 = k := by omega
  dsimp only
  rw [hk, if_pos ⟨by omega, hload⟩, if_neg (by simp [hmir])]
  have hfits : s.loadedState d k 2 < 2 ^ 3 := by unfold State.loadedState; split <;> decide
  obtain ⟨hbusy, hres, hdone⟩ :=
    State.rgnDone_shows (s := s.setFld fQD_RGN_INFO_STATE d k (s.loadedState d k 2)) (d := d)
  refine ⟨(State.rgnState_rgnDone d).trans (s.fld_setFld_fits d k (by decide) hfits), hbusy, hres, hdone, ?_⟩
  exact ((Only.setReg_at (by decide) k _).mono (Change.le_recording _)).trans Only.rgnDone

theorem State.rgnState_emptySlot : (s.emptySlot d k).rgnState d k = 0 := by
  simp only [State.emptySlot, State.rgnState, State.fld, State.reg_setReg_self]
  decide

/-- An UNLOAD of a region its own quarry serves ends EMPTY (R205). -/
theorem regionUnloadDone_completes (hlo : 48 ≤ d) (hhi : d < 56) (hdue : s.lat .rgnDue d 0 = k + 1)
    (hunload : s.rgnState d k = 5) (hword : s.wordOn d k = false) (hown : s.lat .servedBy d k = 0) :
    Completes (.regionUnloadDone d) s fun t =>
      t.rgnState d k = 0 ∧ t.flag fQD_RGN_STAT_BUSY d 0 = false ∧ t.fld fQD_RGN_STAT_RESULT d 0 = 0 := by
  refine .of_unit rfl (isQuarry_of_range hlo hhi) ?_
  have hk : s.lat .rgnDue d 0 - 1 = k := by omega
  dsimp only
  rw [hk, if_pos ⟨by omega, hunload, hword⟩, if_neg (by simp [hown])]
  obtain ⟨hbusy, hres, -⟩ := State.rgnDone_shows (d := d)
  exact ⟨(State.rgnState_rgnDone d).trans State.rgnState_emptySlot, hbusy, hres⟩

/-! ## The skein commands (R230, R232, R233) -/

/-- A skein command of the active warden's core is taken (Table QD-17). -/
theorem State.skeinCmd_active {op : Nat} (hhi : d < 56) (hup : s.dieUp d = true) (hm : s.isActive m = true) (hne : m ≠ .hw)
    (hop : getBits v 3 0 = op) : ∃ x, ∀ f, s.skeinCmd m d op v f = f (s.setReg .QD_SKEIN_CMD d 0 x) := by
  obtain ⟨x, hx⟩ := State.plainWrite_quarry (s := s) hhi (r := .QD_SKEIN_CMD) (by decide) 0 v
  exact ⟨x, fun f => by rw [State.skeinCmd, s.toDie_up hup, if_neg hne, if_neg (by simp [hop]), if_pos hm, hx]⟩

/-- A skein command of the epoch machinery is taken as it is. -/
theorem State.skeinCmd_hw (hup : s.dieUp d = true) (op : Nat) (f : State → State) : s.skeinCmd .hw d op v f = f s := by
  rw [State.skeinCmd, s.toDie_up hup, if_pos rfl]

/-- A rollback that meets no bad record restores every record and empties the skein (R233). -/
theorem State.skeinRollback_none :
    s.skeinRollback d none =
      ((((s.each (s.skein d).reverse fun r u => u.restoreRec d r).setLat .rollingBack d 0 0).setSkein d []).setFld
        fQD_SKEIN_STAT_FULL d 0 0).event 0x2143 .note (engineUnit d) 0 := by
  have hall : (s.skein d).reverse.takeWhile (fun r => some r.seq != none) = (s.skein d).reverse :=
    List.takeWhile_eq_self_iff.mpr fun r _ => rfl
  simp only [State.skeinRollback, hall, lt_irrefl, if_false]

section
variable (hlo : 48 ≤ d) (hhi : d < 56) (hup : s.dieUp d = true)
include hlo hhi hup

/-- QUIESCE waits for the changes that are accepted (R233). -/
theorem skeinQuiesce_waits (hm : s.isActive m = true) (hne : m ≠ .hw) (hop : getBits v 3 0 = 1)
    (hq : s.flag fQD_SKEIN_STAT_QUIESCED d 0 = false) :
    Completes (.skeinQuiesce m d v) s fun t =>
      t.lat .quiesceDue d 0 = 1 ∧ Only ({ regs := theReg .QD_SKEIN_CMD d 0, lats := theLat .quiesceDue d 0 }) s t := by
  obtain ⟨x, hcmd⟩ := State.skeinCmd_active hhi hup hm hne hop
  refine .of_unit rfl (isQuarry_of_range hlo hhi) ?_
  have hq' : (s.setReg .QD_SKEIN_CMD d 0 x).flag fQD_SKEIN_STAT_QUIESCED d 0 = false :=
    ((Spares.refl (rs := [.QD_SKEIN_STAT]) (ls := []) s).setReg.flag d 0).trans hq
  rw [hcmd, if_neg (by simp [hq'])]
  exact ⟨State.lat_setLat_self .., (Only.setReg _ _ _ _ (theReg_self _ _ _)).trans (Only.setLat _ _ _ _ (theLat_self ..))⟩

/-- A QUIESCE is shown once no accepted change is left (R233). -/
theorem skeinQuiesceDone_completes (hdue : s.lat .quiesceDue d 0 ≠ 0) (hon : s.changeOn d = false) :
    Completes (.skeinQuiesceDone d) s fun t =>
      t.flag fQD_SKEIN_STAT_QUIESCED d 0 = true ∧ t.lat .quiesceDue d 0 = 0 ∧
        Only ({ regs := theReg .QD_SKEIN_STAT d 0, lats := theLat .quiesceDue d 0 }) s t := by
  refine .of_unit rfl (isQuarry_of_range hlo hhi) ?_
  rw [if_pos ⟨hdue, hup, hon⟩]
  exact ⟨s.flag_setFld_one d 0 (by decide) (by decide), State.lat_setLat_self ..,
    (Only.setFld _ _ _ _ (theReg_self _ _ _)).trans (Only.setLat _ _ _ _ (theLat_self ..))⟩

/-- RESUME releases the quiesce (R233). -/
theorem skeinResume_completes :
    Completes (.skeinResume .hw d v) s fun t =>
      t.flag fQD_SKEIN_STAT_QUIESCED d 0 = false ∧ t.lat .quiesceDue d 0 = 0 ∧ t.lat .rollingBack d 0 = 0 ∧
        Only ({ regs := theReg .QD_SKEIN_STAT d 0, lats := latsOf [.quiesceDue, .rollingBack] }) s t := by
  refine .of_unit rfl (isQuarry_of_range hlo hhi) ?_
  rw [State.skeinCmd_hw hup]
  refine ⟨s.flag_setFld_zero d 0 (by decide), ?_, State.lat_setLat_self .., ?_⟩
  · exact (State.lat_setLat_name _ (by decide) ..).trans (State.lat_setLat_self ..)
  · exact ((Only.setFld _ _ _ _ (theReg_self _ _ _)).trans (Only.setLat _ _ _ _ rfl)).trans (Only.setLat _ _ _ _ rfl)

/-- A ROLLBACK while quiesced runs (R233). -/
theorem skeinRollback_starts (hq : s.flag fQD_SKEIN_STAT_QUIESCED d 0 = true) :
    Completes (.skeinRollback .hw d v) s fun t =>
      t.lat .rollingBack d 0 = 1 ∧ Only ({ lats := theLat .rollingBack d 0 }) s t := by
  refine .of_unit rfl (isQuarry_of_range hlo hhi) ?_
  rw [State.skeinCmd_hw hup, if_pos hq]
  exact ⟨State.lat_setLat_self .., Only.setLat _ _ _ _ (theLat_self ..)⟩

/-- A rollback that meets no bad record leaves the skein empty and not FULL, and no longer runs (R233, log entry 87). -/
theorem skeinRollbackDone_completes (hroll : s.lat .rollingBack d 0 ≠ 0) :
    Completes (.skeinRollbackDone d none) s fun t =>
      t.skein d = [] ∧ t.flag fQD_SKEIN_STAT_FULL d 0 = false ∧ t.lat .rollingBack d 0 = 0 := by
  refine .of_unit rfl (isQuarry_of_range hlo hhi) ?_
  rw [if_pos ⟨hroll, hup⟩, State.skeinRollback_none]
  set u := (s.each (s.skein d).reverse fun r w => w.restoreRec d r).setLat .rollingBack d 0 0
  set t := (u.setSkein d []).setFld fQD_SKEIN_STAT_FULL d 0 0
  have hev : Only (Change.recording {}) t (t.event 0x2143 .note (engineUnit d) 0) :=
    Only.event _ _ _ _ (Change.records_recording _)
  have hsp : Spares [.QD_SKEIN_STAT] [.rollingBack] t (t.event 0x2143 .note (engineUnit d) 0) := (Spares.refl t).event
  refine ⟨(hev.skein rfl).trans ?_, (hsp.flag d 0).trans (State.flag_setFld_zero _ d 0 (by decide)), ?_⟩
  · rw [State.skein_setFld, State.skein_setSkein, if_pos rfl]
  · rw [hsp.lat _ (by decide), State.lat_setFld]
    change u.lat .rollingBack d 0 = 0
    exact State.lat_setLat_self ..

/-- COMMIT of an epoch not past drops the records up to it (R232). -/
theorem skeinCommit_completes (he : (s.reg .QD_SKEIN_EPOCH d 0).toNat ≤ getBits v 63 8) :
    Completes (.skeinCommit .hw d v) s fun t =>
      (t.reg .QD_SKEIN_EPOCH d 0).toNat = getBits v 63 8 + 1 ∧
        (t.skein d = (s.skein d).filter (fun r => decide (getBits v 63 8 < r.epoch))) ∧
        Only ({ regs := regsIn [.QD_SKEIN_EPOCH, .QD_SKEIN_STAT] d 0, lats := latsOf [.fullSeen, .markSeen],
                skeins := fun e => e == d }) s t := by
  refine .of_unit rfl (isQuarry_of_range hlo hhi) ?_
  have hfits : getBits v 63 8 < 2 ^ 56 := getBits_lt v 63 8
  rw [State.skeinCmd_hw hup, State.skeinCommit, if_neg (by omega)]
  extract_lets t
  have hepoch : t.reg .QD_SKEIN_EPOCH d 0 = BitVec.ofNat 64 (getBits v 63 8 + 1) := State.reg_setReg_self ..
  have hafter : Spares [.QD_SKEIN_EPOCH] [] t
      (((t.setFld fQD_SKEIN_STAT_FULL d 0 0).setLat .fullSeen d 0 0).setLat .markSeen d 0 0) :=
    (Spares.refl t).setFld.setLat.setLat
  refine ⟨?_, ?_, ?_⟩
  · rw [hafter.reg _ (by decide), hepoch, BitVec.toNat_ofNat, Nat.mod_eq_of_lt (by omega)]
  · simp only [State.skein_setLat, State.skein_setFld, t, State.skein_setReg, State.skein_setSkein, if_pos]
  · exact ((((Only.setSkein _ _ (beq_self_eq_true d)).trans (Only.setReg _ _ _ _ fun _ => regsIn_self (by decide))).trans
      (Only.setFld _ _ _ _ fun _ => regsIn_self (by decide))).trans (Only.setLat _ _ _ _ rfl)).trans
        (Only.setLat _ _ _ _ rfl)

end

/-- Settles O48, command by command. -/
theorem regionAndSkeinCommandsComplete : Obligations.RegionAndSkeinCommandsComplete := by
  unfold Obligations.RegionAndSkeinCommandsComplete
  exact ⟨fun _ _ _ _ _ => regionLoad_starts, fun _ _ _ _ _ => regionLoad_fails, fun _ _ _ => regionLoadDone_completes,
    fun _ _ _ _ _ => regionUnload_starts, fun _ _ _ _ => regionUnload_empty, fun _ _ _ => regionUnloadDone_completes,
    fun _ _ _ _ => regionBadCommand_fails, fun _ _ _ _ => skeinQuiesce_waits, fun _ _ => skeinQuiesceDone_completes,
    fun _ _ _ => skeinResume_completes, fun _ _ _ => skeinRollback_starts, fun _ _ => skeinRollbackDone_completes,
    fun _ _ _ => skeinCommit_completes⟩

end Sys2Proof.Machine
end

section
/-! PROOF. Memory banks (R238 to R241, R244, R247, R249 to R254): a request whose read meets no error is served by its read or
its write alone, a handshake serves the request whose turn it is and keeps the others, and a bank's power registers hold what
was set. -/

set_option Elab.async false

namespace Sys2Proof.Machine

variable {c : Change} {s t : State} {b : Bank} {p q : BankReq} {bs : List Byte}

/-! ## The registers of a bank (Tables BNK-7, BNK-8) -/

/-- A register of which no field is mirrored takes a value like any other. -/
theorem State.putReg_unmirrored {r : Reg} (h : mirrorMask r = 0) (d i : Nat) (v : W64) :
    s.putReg r d i v = s.setReg r d i v := by
  unfold State.putReg State.setWreg
  split
  · next hd => simp [h, hd]
  · rfl

theorem Spares.putFld {rs : List Reg} {ls : List Lat} {f : RField} {d i n : Nat} (h : Spares rs ls s t)
    (hf : f.reg ∉ rs := by decide) : Spares rs ls s (t.putFld f d i n) := .ite (h.setWreg hf) (h.setReg hf)

/-- The registers of banks, of which no field is of class S or E. -/
def bankRegs : List Reg :=
  [.CD_BNK_PWR, .WD_BNK_PWR, .CD_BNK_STAT, .WD_BNK_STAT, .CD_BNK_MAXWAIT, .WD_BNK_MAXWAIT, .CD_BNK_STARVE, .WD_BNK_STARVE]

theorem mirrorMask_bankRegs : ∀ r ∈ bankRegs, mirrorMask r = 0 := by decide

theorem Bank.pick_mem {l : List Reg} {cd wd : Reg} (hc : cd ∈ l) (hw : wd ∈ l) : b.pick cd wd ∈ l := by
  cases b
  · exact hc
  · exact hw

theorem Bank.num_lt (h : b.ok = true) : b.num < 4 := by
  cases b <;> simp only [Bank.ok, Bool.and_eq_true, decide_eq_true_eq] at h <;> exact h.2

section
variable {cd wd : Reg} {hi lo n : Nat}

/-- A field of a bank is set in its own register alone. -/
theorem State.setBnk_eq (hc : cd ∈ bankRegs) (hw : wd ∈ bankRegs) :
    s.setBnk b cd wd hi lo n = s.setFld ⟨b.pick cd wd, hi, lo⟩ b.die b.blk n :=
  State.putReg_unmirrored (mirrorMask_bankRegs _ (Bank.pick_mem hc hw)) _ _ _

theorem State.bnk_setBnk_fits (hhi : hi < 64) (hn : n < 2 ^ (hi + 1 - lo)) (hc : cd ∈ bankRegs := by decide)
    (hw : wd ∈ bankRegs := by decide) : (s.setBnk b cd wd hi lo n).bnk b cd wd hi lo = n := by
  rw [State.setBnk_eq hc hw]
  exact s.fld_setFld_fits b.die b.blk hhi hn

/-- Other bits of banks' registers of one kind are left alone. -/
theorem State.bnk_setBnk_disjoint {e : Bank} {hi' lo' : Nat} (h : hi' < lo ∨ hi < lo') (hc : cd ∈ bankRegs := by decide)
    (hw : wd ∈ bankRegs := by decide) :
    (s.setBnk e cd wd hi lo n).bnk b cd wd hi' lo' = s.bnk b cd wd hi' lo' := by
  rw [State.setBnk_eq hc hw]
  by_cases hr : b.pick cd wd = e.pick cd wd
  · exact s.fld_setFld_disjoint hr h _ _ _ _ _
  · exact s.fld_setFld_name hr _ _ _ _ _

theorem Only.setBnk_at
    (h : ∀ i, regHome (b.pick cd wd) i = regHome (b.pick cd wd) b.die → c.regs (b.pick cd wd) i b.blk = true)
    (hc : cd ∈ bankRegs := by decide) (hw : wd ∈ bankRegs := by decide) : Only c s (s.setBnk b cd wd hi lo n) := by
  rw [State.setBnk_eq hc hw]
  exact Only.setFld _ _ _ _ h

theorem Spares.setBnk {rs : List Reg} {ls : List Lat} (h : Spares rs ls s t) (hc : cd ∉ rs := by decide)
    (hw : wd ∉ rs := by decide) : Spares rs ls s (t.setBnk b cd wd hi lo n) := by
  cases b with
  | pad sp k => exact h.putFld hc
  | sram w k => exact h.putFld hw

theorem Spares.bnk {rs : List Reg} {ls : List Lat} (h : Spares rs ls s t) (hc : cd ∈ rs := by decide)
    (hw : wd ∈ rs := by decide) : t.bnk b cd wd hi lo = s.bnk b cd wd hi lo := h.fld _ _ (Bank.pick_mem hc hw)

end

/-- The power registers of banks stand. -/
abbrev PowerStands : State → State → Prop := Spares [.CD_BNK_PWR, .WD_BNK_PWR] []

theorem Spares.bankReq (h : PowerStands s t) : t.bankReq b = s.bankReq b := h.bnk

theorem Spares.bankOwn (h : PowerStands s t) : t.bankOwn b = s.bankOwn b := h.bnk

/-- The supply of a bank is read from the rails, the twins and the map of the slots (R249). -/
theorem Spares.bankSupply (h : Spares [.PW_DIE_ISO, .PW_TWIN_CTL, .SPN_MAP] [] s t) : t.bankSupply b = s.bankSupply b := by
  cases b with
  | pad sp k =>
    simp only [State.bankSupply, State.twinState, State.twinOf, State.phys]
    rw [h.flag (f := fPW_DIE_ISO_ON), h.fld (f := fPW_TWIN_CTL_STATE), h.fld (f := fSPN_MAP_PHYS)]
  | sram w k => rfl

theorem State.bankReq_setBankReq {n : Nat} (hb : b.num < 4) (hn : n < 4) : (s.setBankReq b n).bankReq b = n :=
  State.bnk_setBnk_fits (by omega) (by rwa [show 2 * b.num + 1 + 1 - 2 * b.num = 2 by omega])

theorem State.bankOwn_setBankOwn {n : Nat} (hb : b.num < 4) (hn : n < 4) : (s.setBankOwn b n).bankOwn b = n :=
  State.bnk_setBnk_fits (by omega) (by rwa [show 17 + 2 * b.num + 1 - (16 + 2 * b.num) = 2 by omega])

theorem State.bankReq_setBankReq_other {e : Bank} (h : e.num ≠ b.num) (n : Nat) :
    (s.setBankReq e n).bankReq b = s.bankReq b :=
  State.bnk_setBnk_disjoint (by omega)

theorem State.bankReq_setBankOwn {e : Bank} (hb : b.num < 4) (n : Nat) : (s.setBankOwn e n).bankReq b = s.bankReq b :=
  State.bnk_setBnk_disjoint (by omega)

theorem State.bankOwn_setBankReq {e : Bank} (he : e.num < 4) (n : Nat) : (s.setBankReq e n).bankOwn b = s.bankOwn b :=
  State.bnk_setBnk_disjoint (by omega)

/-! ## The requests that wait at a bank (R239, R252) -/

@[simp] theorem State.bankQueue_setBankQueue (l : List BankWait) : (s.setBankQueue b l).bankQueue b = l := sget_sset_self ..

@[simp] theorem State.bankQueue_bankUsed : (s.bankUsed b).bankQueue b = s.bankQueue b := by cases b <;> rfl

theorem State.bankQueue_setBnk {cd wd : Reg} {hi lo n : Nat} (hc : cd ∈ bankRegs := by decide)
    (hw : wd ∈ bankRegs := by decide) : (s.setBnk b cd wd hi lo n).bankQueue b = s.bankQueue b := by
  rw [State.setBnk_eq hc hw]
  rfl

/-- Within a frame that does not name the requests that wait they are as they were. -/
theorem Only.waits (h : Only c s t) (hc : c.waits = false) (k : Nat) : sget [] t.banks k = sget [] s.banks k := by
  obtain ⟨-, -, -, -, -, -, -, -, -, -, -, -, -, -, -, -, -, -, -, h, -⟩ := h
  exact h hc k

theorem Only.bankQueue (h : Only c s t) (hc : c.waits = false) : t.bankQueue b = s.bankQueue b := h.waits hc _

theorem Only.setBankQueue (h : c.waits = true) (l : List BankWait) : Only c s (s.setBankQueue b l) := by
  simp [Only, h]

/-- Where the requests that wait are as they were, a frame need not name them. -/
theorem Only.of_waits (h : Only { c with waits := true } s t) (hk : ∀ k, sget [] t.banks k = sget [] s.banks k) :
    Only c s t := by
  obtain ⟨h1, h2, h3, h4, h5, h6, h7, h8, h9, h10, h11, h12, h13, h14, h15, h16, h17, h18, h19, -, h21, h22⟩ := h
  exact ⟨h1, h2, h3, h4, h5, h6, h7, h8, h9, h10, h11, h12, h13, h14, h15, h16, h17, h18, h19, fun _ => hk, h21, h22⟩

theorem Change.le_waits (c : Change) : c.Le { c with waits := true } := by constructor <;> simp

/-- The requests that wait at a bank may be set to what they are. -/
theorem Only.setBankQueue_same {l : List BankWait} (hq : s.bankQueue b = l) : Only c s (s.setBankQueue b l) := by
  refine Only.of_waits (Only.setBankQueue rfl l) fun k => ?_
  change sget [] (sset [] s.banks _ l) k = _
  rw [sget_sset]
  split
  · next hk => rw [hk, ← hq]; rfl
  · rfl

/-- Requests that join the empty queue of a bank and leave it again leave no trace there. -/
theorem Only.emptied (hq : s.bankQueue b = []) (hc : c.waits = false) {l : List BankWait} (h : Only c (s.setBankQueue b l) t) :
    Only c s (t.setBankQueue b []) := by
  refine Only.of_waits ((Only.setBankQueue rfl l).trans ((h.mono c.le_waits).trans (Only.setBankQueue rfl []))) fun k => ?_
  change sget [] (sset [] t.banks _ []) k = _
  rw [sget_sset]
  split
  · next hk => rw [hk]; exact hq.symm
  · next hk => exact (h.waits hc k).trans (sget_sset_ne s.banks l hk)

/-! ## A request is served (R243 to R245, R247) -/

/-- The reads of a request meet no error. -/
def ReadsGood (r : BankReq) : Prop := ∀ k, reqEcc r k = .good

theorem readsGood_of_ecc (h : p.ecc.all (· == .good) = true) : ReadsGood p := fun k => by
  unfold reqEcc
  split
  · cases hk : p.ecc[k]? with
    | none => rfl
    | some e => exact beq_iff_eq.mp (List.all_eq_true.mp h e (List.mem_of_getElem? hk))
  · rfl

/-- A plain write reads nothing. -/
theorem readsGood_of_plain (hd : p.data = some bs) (hm : p.mode = 0) : ReadsGood p := fun k => by
  simp [reqEcc, reqReads, hd, hm]

theorem wordsOf_good (h : ReadsGood p) {e : Ecc} (he : .good ≠ e) : wordsOf p e = [] := by
  simp [wordsOf, h _, he]

theorem State.bankCorrected_good (h : ReadsGood p) : s.bankCorrected b p = s := by
  simp [State.bankCorrected, wordsOf_good h, State.each]

theorem State.bankMultibit_good (h : ReadsGood p) : s.bankMultibit b p = s := by
  simp [State.bankMultibit, wordsOf_good h]

theorem length_aliasBytes (a : Alias) {old : List Byte} (h : old.length = bs.length) :
    (aliasBytes a old bs).length = bs.length := by
  cases a <;> simp [aliasBytes, h]

/-- Serving one request without an error is its write and its answer. -/
theorem State.bankServe_good (h : ReadsGood p) :
    s.bankServe b [p] = (s.bankPut b p).answer .ok ((s.bankPut b p).bankGet b p) := by
  simp only [State.bankServe, State.each, List.foldl_cons, List.foldl_nil, List.flatMap_cons, List.flatMap_nil,
    List.append_nil, Bool.false_eq_true, if_false, State.bankCorrected_good h, State.bankMultibit_good h]

/-- A read answers its bytes. -/
theorem State.bankServe_read (hd : p.data = none) (h : ReadsGood p) :
    s.bankServe b [p] = s.answer .ok (s.bytes (b.base + p.off) p.len) := by
  have hput : s.bankPut b p = s := by simp [State.bankPut, hd]
  rw [State.bankServe_good h, hput, State.bankGet, hd]
  rfl

/-- The write of a request that meets no error takes place in every byte. -/
theorem State.bankPut_good (hd : p.data = some bs) (h : ReadsGood p) : s.bankPut b p =
    s.setBytes (b.base + p.off) (aliasBytes (reqAlias p) (s.bytes (b.base + p.off) bs.length) bs) := by
  simp only [State.bankPut, hd, wordsOf_good h (e := .multibit) (by decide), List.contains_nil, Bool.false_eq_true, if_false]
  generalize hold : s.bytes (b.base + p.off) bs.length = old
  have hlen : (aliasBytes (reqAlias p) old bs).length ≤ old.length := by
    rw [length_aliasBytes _ (by simp [← hold]), ← hold, State.length_bytes]
  rw [show (fun x : (Byte × Byte) × Nat => x.1.1) = Prod.fst ∘ Prod.fst from rfl, ← List.map_map, List.zipIdx_map_fst,
    List.map_fst_zip hlen]

/-- A write answers without bytes. -/
theorem State.bankServe_write (hd : p.data = some bs) (h : ReadsGood p) : s.bankServe b [p] =
    (s.setBytes (b.base + p.off) (aliasBytes (reqAlias p) (s.bytes (b.base + p.off) bs.length) bs)).answer .ok [] := by
  rw [State.bankServe_good h, State.bankPut_good hd h, State.bankGet, hd]
  rfl

/-! ## The turns of the ports (R239, R240) -/

theorem sourceTurn_lt (r : BankSource) : sourceTurn r < 5 := by
  unfold sourceTurn
  split <;> decide

/-- The rotation of the DMA port comes to every source. -/
theorem exists_rotation {k : Nat} (last : Nat) (hk : k < 5) : ∃ j ∈ List.range 5, k = (last + 1 + j) % 5 :=
  ⟨(k + 4 * (last + 1)) % 5, List.mem_range.mpr (Nat.mod_lt _ (by decide)), by omega⟩

/-- Sources of different ports are different. -/
theorem source_beq_false {r r' : BankSource} (h : onProc r ≠ onProc r') : (r == r') = false :=
  beq_false_of_ne fun e => h (congrArg onProc e)

theorem onProc_iff {r : BankSource} : onProc r = true ↔ r = .core ∨ r = .fetch := by
  cases r <;> simp [onProc]

theorem procTurn_of_proc {x : BankWait} {l : List BankWait} (h : onProc x.req.source = true)
    (hl : ∀ y ∈ l, onProc y.req.source = false) : procTurn (x :: l) = some 0 := by
  have hcore : l.findIdx? (fun y => y.req.source == .core) = none :=
    List.findIdx?_eq_none_iff.mpr fun y hy => source_beq_false (by rw [hl y hy]; decide)
  rcases onProc_iff.mp h with hs | hs <;> simp [procTurn, List.findIdx?_cons, hs, hcore]

theorem procTurn_of_dma {x : BankWait} (h : onProc x.req.source = false) : procTurn [x] = none := by
  have hcore : (x.req.source == .core) = false := source_beq_false (by rw [h]; decide)
  have hfetch : (x.req.source == .fetch) = false := source_beq_false (by rw [h]; decide)
  simp [procTurn, List.findIdx?_cons, hcore, hfetch]

/-- A load or store goes before a fetch. -/
theorem procTurn_core_first {x y : BankWait} (hx : x.req.source = .fetch) (hy : y.req.source = .core) :
    procTurn [x, y] = some 1 := by
  simp [procTurn, List.findIdx?_cons, hx, hy]

/-- The DMA port passes over the processor port's requests. -/
theorem dmaTurn_cons {x : BankWait} (last : Nat) (h : onProc x.req.source = true) (l : List BankWait) :
    dmaTurn last (x :: l) = (dmaTurn last l).map (· + 1) := by
  have hcap : (x.req.source == .capture) = false := source_beq_false (by rw [h]; decide)
  simp only [dmaTurn, List.findIdx?_cons, hcap, h, Bool.not_true, Bool.false_and, Bool.false_eq_true, if_false]
  cases l.findIdx? fun y => y.req.source == .capture with
  | some k => rfl
  | none => exact List.map_findSome?.symm

/-- A request alone at the DMA port has its turn, whatever source was served last. -/
theorem dmaTurn_one {x : BankWait} (last : Nat) (h : onProc x.req.source = false) : dmaTurn last [x] = some 0 := by
  simp only [dmaTurn, List.findIdx?_cons, h, List.findIdx?_nil, Option.map_none, Bool.not_false, Bool.true_and]
  split
  · next k hc =>
    obtain ⟨-, hk⟩ := Option.ite_none_right_eq_some.mp hc
    exact hk.symm
  · cases hf : (List.range 5).findSome? _ with
    | none =>
      obtain ⟨j, hj, hk⟩ := exists_rotation last (sourceTurn_lt x.req.source)
      have hnone := List.findSome?_eq_none_iff.mp hf j hj
      simp [hk] at hnone
    | some k =>
      obtain ⟨j, -, hk⟩ := List.exists_of_findSome?_eq_some hf
      exact (Option.ite_none_right_eq_some.mp hk).2.symm

/-- The places of the requests that a handshake of an ON bank serves: the one of each port whose turn it is, and on a conflict
the processor port's alone. -/
def State.bankGo (s : State) (b : Bank) : List Nat :=
  let q := s.bankQueue b
  let i := procTurn q
  let j := dmaTurn (s.lat .bankTurn b.die (b.blk * 4 + b.num)) q
  let conflict := match i.bind (q[·]?), j.bind (q[·]?) with
    | some x, some y => reqConflict b x.req y.req
    | _, _ => false
  i.toList ++ (if conflict then [] else j.toList)

/-- The latches of a bank's ports. -/
def bankLats (b : Bank) : Lat → Nat → Nat → Bool := fun l e _ => [Lat.bankIdle, .bankTurn].contains l && e == b.die

/-- The requests at some places of a queue. -/
def reqsAt (q : List BankWait) (go : List Nat) : List BankReq := (go.filterMap (q[·]?)).map (·.req)

/-- What a queue holds at other places. -/
def waitsBeside (q : List BankWait) (go : List Nat) : List BankWait := (q.zipIdx.filter fun x => !go.contains x.2).map (·.1)

/-- A handshake serves the requests whose turn it is, and the others wait. -/
theorem State.bankHandshake_eq : s.bankHandshake b =
    (((s.setBankQueue b []).each (waitsBeside (s.bankQueue b) (s.bankGo b)) fun x t => t.bankWaits b x).each
      ((reqsAt (s.bankQueue b) (s.bankGo b)).filter fun r => !onProc r.source && r.source != .capture) fun r t =>
        t.setLat .bankTurn b.die (b.blk * 4 + b.num) (sourceTurn r.source)).bankServe b
      (reqsAt (s.bankQueue b) (s.bankGo b)) := rfl

theorem State.bankHandshake_one {k : Nat} {x : BankWait} (hgo : s.bankGo b = [k]) (hx : (s.bankQueue b)[k]? = some x) :
    ∃ t, Only { lats := bankLats b }
        ((s.setBankQueue b []).each (waitsBeside (s.bankQueue b) [k]) fun y u => u.bankWaits b y) t ∧
      s.bankHandshake b = t.bankServe b [x.req] := by
  have hserved : reqsAt (s.bankQueue b) [k] = [x.req] := by simp [reqsAt, hx]
  rw [State.bankHandshake_eq, hgo, hserved]
  exact ⟨_, Only.each _ _ (fun _ _ _ => Only.setLat _ _ _ _ (by simp [bankLats])) _, rfl⟩

theorem State.bankGo_alone {x : BankWait} (hq : s.bankQueue b = [x]) : s.bankGo b = [0] := by
  rw [State.bankGo, hq]
  cases h : onProc x.req.source
  · rw [procTurn_of_dma h, dmaTurn_one _ h]
    rfl
  · rw [procTurn_of_proc h (by simp), dmaTurn_cons _ h]
    rfl

theorem State.bankGo_conflict {x y : BankWait} (hq : s.bankQueue b = [x, y]) (hx : onProc x.req.source = true)
    (hy : onProc y.req.source = false) (hc : reqConflict b x.req y.req = true) : s.bankGo b = [0] := by
  rw [State.bankGo, hq, procTurn_of_proc hx (by simpa using hy), dmaTurn_cons _ hx, dmaTurn_one _ hy]
  simp [hc]

theorem State.bankGo_core_first {x y : BankWait} (hq : s.bankQueue b = [x, y]) (hx : x.req.source = .fetch)
    (hy : y.req.source = .core) : s.bankGo b = [1] := by
  rw [State.bankGo, hq, procTurn_core_first hx hy, dmaTurn_cons _ (by rw [hx]; rfl), dmaTurn_cons _ (by rw [hy]; rfl)]
  rfl

/-! ## Requests that wait one handshake more (R241) -/

theorem State.bankWaits_proc {x : BankWait} (h : onProc x.req.source = true) :
    s.bankWaits b x = s.setBankQueue b (s.bankQueue b ++ [x]) := if_pos h

/-- A request of the DMA port that has not waited yet counts the wait; the limit is not passed. -/
theorem State.bankWaits_dma (h : onProc q.source = false) : s.bankWaits b ⟨q, 0, false⟩ =
    (s.setBnk b .CD_BNK_MAXWAIT .WD_BNK_MAXWAIT (16 * b.num + 15) (16 * b.num) (max (s.bankMaxWait b) 1)).setBankQueue b
      (s.bankQueue b ++ [⟨q, 1, false⟩]) := by
  have hlate : ∀ n : Nat, (n != 0 && decide (n < 0 + 1) && !false) = false := fun n => by
    cases n <;> simp
  simp only [State.bankWaits, h, Bool.false_eq_true, if_false, hlate, Bool.or_false]
  rw [State.bankQueue_setBnk]
  rfl

theorem State.bankMaxWait_setBankQueue (l : List BankWait) : (s.setBankQueue b l).bankMaxWait b = s.bankMaxWait b := rfl

/-! ## An access to a bank (R239, R252) -/

/-- A bank that is ON and requested ON serves. -/
theorem State.bankTouch_on (hs : s.bankSupply b = 2) (ho : s.bankOwn b = 2) (hr : s.bankReq b = 2) :
    s.bankTouch b = (.serve, s.bankUsed b) := by
  unfold State.bankTouch
  rw [if_neg (not_not_intro hs), if_pos ⟨ho, hr⟩]

theorem State.bankTouch_absent (hs : s.bankSupply b ≠ 2) : s.bankTouch b = (.absent, s) := if_pos hs

/-- A bank that sleeps is requested ON, begins its wake and holds the access (R252). -/
theorem State.bankTouch_asleep (hn : b.num < 4) (hs : s.bankSupply b = 2) (ho : s.bankOwn b < 2) :
    ∃ u, PowerStands (s.setBankReq b 2) u ∧ u.bankQueue b = s.bankQueue b ∧ s.bankTouch b = (.wait, u.setBankOwn b 3) := by
  set t := (s.setBankReq b 2).setBnkBit b 16
  have ht : PowerStands (s.setBankReq b 2) t := (Spares.refl _).setBnk
  have hqueue : t.bankQueue b = s.bankQueue b := (State.bankQueue_setBnk).trans State.bankQueue_setBnk
  obtain ⟨u, hu, huq, htouch⟩ : ∃ u, PowerStands t u ∧ u.bankQueue b = t.bankQueue b ∧
      s.bankTouch b = if u.bankOwn b = 2 then (.serve, u.bankUsed b) else (.wait, u.setBankOwn b 3) := by
    unfold State.bankTouch
    rw [if_neg (not_not_intro hs), if_neg (show ¬(s.bankOwn b = 2 ∧ s.bankReq b = 2) by omega),
      if_neg (show ¬(s.bankReq b = 2 ∧ s.bankOwn b = 3) by omega)]
    cases b with
    | pad sp k =>
      exact ⟨t.event 0x1142 .note (s.bankUnit (.pad sp k)) k, (Spares.refl t).event,
        (Only.event _ _ _ _ (Change.records_recording {})).bankQueue rfl, rfl⟩
    | sram w k => exact ⟨t, Spares.refl t, rfl, rfl⟩
  have hown : u.bankOwn b = s.bankOwn b := (ht.trans hu).bankOwn.trans (State.bankOwn_setBankReq hn 2)
  rw [if_neg (by omega)] at htouch
  exact ⟨u, ht.trans hu, huq.trans hqueue, htouch⟩

theorem State.bankName_unborrowed (h : s.borrowedIn b = none) (off n : Nat) : s.bankName b off n = s := by
  simp only [State.bankName, h]

/-- Requests that arrive, none of which has waited. -/
def arrivals (rs : List BankReq) : List BankWait := rs.map fun r => ⟨r, 0, false⟩

/-- Requests that arrive where no line is borrowed and nothing waits touch the bank. -/
theorem State.bankAccess_reaches (hb : s.borrowedIn b = none) (hq : s.bankQueue b = []) {rs : List BankReq} (hrs : rs ≠ []) :
    s.bankAccess b rs = match (s.setBankQueue b (arrivals rs)).bankTouch b with
      | (.absent, u) => (u.setBankQueue b []).each (arrivals rs) fun x v => v.bankAbsent b x.req
      | (.wait, u) => u.answer .held []
      | (.serve, u) => u.bankHandshake b := by
  have hnames : (s.setBankQueue b (arrivals rs)).each (arrivals rs) (fun x u => u.bankName b x.req.off (reqLen x.req)) =
      s.setBankQueue b (arrivals rs) :=
    State.each_induct (fun u => u = s.setBankQueue b (arrivals rs)) _ _
      (fun _ _ _ hu => by rw [hu, State.bankName_unborrowed (s := s.setBankQueue b (arrivals rs)) hb]) rfl
  have hne : (arrivals rs).isEmpty = false := by simpa [arrivals] using hrs
  unfold State.bankAccess
  rw [hq, List.nil_append, ← arrivals]
  dsimp only
  rw [if_neg (by simp [hne]), hnames] <;> rfl

theorem Only.bankUsed_idle : Only { lats := bankLats b } s (s.bankUsed b) := by
  cases b with
  | pad sp k => exact Only.setLat _ _ _ _ (by simp [bankLats])
  | sram w k => exact Only.refl _ s

/-- The latches of a bank's ports within a wider frame. -/
theorem bankLats_le {e : Change} (h : ∀ l d i, bankLats b l d i = true → e.lats l d i = true) :
    Change.Le { lats := bankLats b } e := by
  constructor
  case lats => exact h
  all_goals simp

section
variable (hs : s.bankSupply b = 2) (ho : s.bankOwn b = 2) (hr : s.bankReq b = 2) (hb : s.borrowedIn b = none)
  (hq : s.bankQueue b = [])
include hs ho hr hb hq

/-- Requests that arrive at an ON bank at which nothing waits meet a handshake. -/
theorem State.bankAccess_on {rs : List BankReq} (hrs : rs ≠ []) :
    s.bankAccess b rs = ((s.setBankQueue b (arrivals rs)).bankUsed b).bankHandshake b := by
  rw [State.bankAccess_reaches hb hq hrs, State.bankTouch_on (s := s.setBankQueue b (arrivals rs)) hs ho hr]

/-- Of the requests that arrive at an ON bank at which nothing waits one is served; the others wait. -/
theorem State.bankAccess_serves {rs : List BankReq} {k : Nat} (hk : rs[k]? = some p)
    (hgo : ((s.setBankQueue b (arrivals rs)).bankUsed b).bankGo b = [k]) :
    ∃ u t, Only { lats := bankLats b } s u ∧ u.bankQueue b = [] ∧
      Only { lats := bankLats b } (u.each (waitsBeside (arrivals rs) [k]) fun y v => v.bankWaits b y) t ∧
      s.bankAccess b rs = t.bankServe b [p] := by
  have hrs : rs ≠ [] := by
    rintro rfl
    cases hk
  obtain ⟨t, ht, hserve⟩ := State.bankHandshake_one (x := ⟨p, 0, false⟩) hgo (by simp [arrivals, hk])
  rw [State.bankQueue_bankUsed, State.bankQueue_setBankQueue] at ht
  exact ⟨_, t, Only.emptied hq rfl Only.bankUsed_idle, State.bankQueue_setBankQueue _, ht,
    (State.bankAccess_on hs ho hr hb hq hrs).trans hserve⟩

/-- A request that arrives alone at an ON bank at which nothing waits is served. -/
theorem State.bankAccess_alone (p : BankReq) :
    ∃ t, Only { lats := bankLats b } s t ∧ s.bankAccess b [p] = t.bankServe b [p] := by
  obtain ⟨u, t, hu, -, ht, hserve⟩ := State.bankAccess_serves hs ho hr hb hq (rs := [p]) (k := 0) rfl
    (State.bankGo_alone (x := ⟨p, 0, false⟩) (by simp [arrivals]))
  exact ⟨t, hu.trans ht, hserve⟩

/-- A write whose reads meet no error changes exactly the bytes it names. -/
theorem State.bankAccess_writes (hd : p.data = some bs) (hg : ReadsGood p) :
    (s.bankAccess b [p]).bytes (b.base + p.off) bs.length =
        aliasBytes (reqAlias p) (s.bytes (b.base + p.off) bs.length) bs ∧
      (s.bankAccess b [p]).reply.status = .ok ∧
      Only { mem := span (b.base + p.off) bs.length, lats := bankLats b, reply := true } s (s.bankAccess b [p]) := by
  obtain ⟨t, ht, hserve⟩ := State.bankAccess_alone hs ho hr hb hq p
  rw [hserve, State.bankServe_write hd hg, ht.bytes fun _ => rfl]
  set l := aliasBytes (reqAlias p) (s.bytes (b.base + p.off) bs.length) bs
  have hlen : l.length = bs.length := length_aliasBytes _ (State.length_bytes ..)
  rw [← hlen]
  exact ⟨State.bytes_setBytes_self .., rfl, ((ht.mono (bankLats_le fun _ _ _ h => h)).trans
    (Only.setBytes _ l fun x hx hy => by simp [span, hx, hy])).trans (Only.answer _ _ rfl)⟩

end

/-! ## Reads and writes of an ON bank (R239 to R241, R244, R247) -/

section
variable (hok : b.ok = true) (hs : s.bankSupply b = 2) (ho : s.bankOwn b = 2) (hr : s.bankReq b = 2)
  (hb : s.borrowedIn b = none) (hq : s.bankQueue b = [])
include hok hs ho hr hb hq

/-- A read answers its bytes. -/
theorem bankAccess_reads (hp : reqOk b p = true) (hd : p.data = none) (he : p.ecc.all (· == .good) = true) :
    Completes (.bankAccess b [p]) s fun t =>
      t.reply = ⟨.ok, s.bytes (b.base + p.off) p.len⟩ ∧ Only { lats := bankLats b, reply := true } s t := by
  obtain ⟨t, ht, hserve⟩ := State.bankAccess_alone hs ho hr hb hq p
  refine .of_unit rfl (by simp [hok, hp]) ?_
  rw [hserve, State.bankServe_read hd (readsGood_of_ecc he)]
  refine ⟨?_, (ht.mono (bankLats_le fun _ _ _ h => h)).trans (Only.answer _ _ rfl)⟩
  rw [← ht.bytes fun _ => rfl]
  rfl

/-- A plain write changes exactly the bytes named. -/
theorem bankAccess_plainWrites (hp : reqOk b p = true) (hd : p.data = some bs) (hm : p.mode = 0) :
    Completes (.bankAccess b [p]) s fun t =>
      t.bytes (b.base + p.off) bs.length = bs ∧ t.reply.status = .ok ∧
        Only { mem := span (b.base + p.off) bs.length, lats := bankLats b, reply := true } s t := by
  refine .of_unit rfl (by simp [hok, hp]) ?_
  have h := State.bankAccess_writes hs ho hr hb hq hd (readsGood_of_plain hd hm)
  rwa [reqAlias, hm] at h

/-- A write of bits to set or to clear changes exactly the bits named (R247). -/
theorem bitAliasWrite_completes {off : Nat} {clear : Bool} {m : Master} {data : List Byte}
    (hp : reqOk b (aliasReq b off clear m data []) = true) :
    Completes (.bitAliasWrite b off clear m data []) s fun t =>
      (t.bytes (b.base + off) data.length =
        aliasBytes (if clear then .clearBits else .setBits) (s.bytes (b.base + off) data.length) data) ∧
      Only { mem := span (b.base + off) data.length, lats := bankLats b, reply := true } s t := by
  refine .of_unit rfl (by simp [hok, hp]) ?_
  have hg : ReadsGood (aliasReq b off clear m data []) := readsGood_of_ecc rfl
  obtain ⟨hbytes, -, honly⟩ := State.bankAccess_writes hs ho hr hb hq (p := aliasReq b off clear m data []) rfl hg
  refine ⟨hbytes.trans ?_, honly⟩
  cases clear <;> rfl

/-- On a conflict the DMA port's request waits and counts the wait (R239, R241). -/
theorem bankAccess_conflict (hp : reqOk b p = true) (hq' : reqOk b q = true) (hproc : onProc p.source = true)
    (hdma : onProc q.source = false) (hd : p.data = none) (he : p.ecc.all (· == .good) = true)
    (hc : reqConflict b p q = true) :
    Completes (.bankAccess b [p, q]) s fun t =>
      t.reply = ⟨.ok, s.bytes (b.base + p.off) p.len⟩ ∧ (t.bankQueue b).map (·.req) = [q] ∧
        (t.bankQueue b).map (·.waited) = [1] ∧ t.bankMaxWait b = max (s.bankMaxWait b) 1 ∧
        Only (Change.recording
          { regs := regsAt [b.pick .CD_BNK_MAXWAIT .WD_BNK_MAXWAIT, b.pick .CD_BNK_STAT .WD_BNK_STAT] b.die, waits := true,
            lats := bankLats b, reply := true }) s t := by
  obtain ⟨u, t, hu, hempty, ht, hserve⟩ := State.bankAccess_serves hs ho hr hb hq (rs := [p, q]) (k := 0) rfl
    (State.bankGo_conflict (x := ⟨p, 0, false⟩) (y := ⟨q, 0, false⟩) (by simp [arrivals]) hproc hdma hc)
  refine .of_unit rfl (by simp [hok, hp, hq']) ?_
  change Only _ (u.bankWaits b ⟨q, 0, false⟩) t at ht
  rw [State.bankWaits_dma hdma, hempty, List.nil_append] at ht
  rw [hserve, State.bankServe_read hd (readsGood_of_ecc he)]
  set F : Change := Change.recording
    { regs := regsAt [b.pick .CD_BNK_MAXWAIT .WD_BNK_MAXWAIT, b.pick .CD_BNK_STAT .WD_BNK_STAT] b.die, waits := true,
      lats := bankLats b, reply := true }
  have hle : Change.Le { lats := bankLats b } F := bankLats_le fun l d i h => by simp [F, Change.recording, orLat, h]
  have hst : Only F s t := (((hu.mono hle).trans (Only.setBnk_at fun i hi => by
    simp [F, Change.recording, orReg, regsAt, hi])).trans (Only.setBankQueue rfl _)).trans (ht.mono hle)
  have hwaits : t.bankQueue b = [⟨q, 1, false⟩] := (ht.bankQueue rfl).trans (State.bankQueue_setBankQueue _)
  have hkept {v w : State} (h : Only { lats := bankLats b } v w) : w.bankMaxWait b = v.bankMaxWait b :=
    State.fld_congr (h.1 _ _ _ rfl)
  refine ⟨?_, congrArg (List.map _) hwaits, congrArg (List.map _) hwaits, ?_, hst.trans (Only.answer _ _ rfl)⟩
  · rw [hst.bytes fun _ => rfl]
    rfl
  · change t.bankMaxWait b = _
    rw [hkept ht, State.bankMaxWait_setBankQueue, ← hkept hu]
    have hnum := Bank.num_lt hok
    exact State.bnk_setBnk_fits (by omega) (max_lt (getBits_lt ..) (Nat.one_lt_two_pow (by omega)))

/-- Of a fetch and a load the load goes first (R240). -/
theorem bankAccess_coreFirst (hp : reqOk b p = true) (hq' : reqOk b q = true) (hcore : p.source = .core)
    (hfetch : q.source = .fetch) (hd : p.data = none) (he : p.ecc.all (· == .good) = true) :
    Completes (.bankAccess b [q, p]) s fun t =>
      t.reply = ⟨.ok, s.bytes (b.base + p.off) p.len⟩ ∧ (t.bankQueue b).map (·.req) = [q] ∧
        Only { waits := true, lats := bankLats b, reply := true } s t := by
  obtain ⟨u, t, hu, hempty, ht, hserve⟩ := State.bankAccess_serves hs ho hr hb hq (rs := [q, p]) (k := 1) rfl
    (State.bankGo_core_first (x := ⟨q, 0, false⟩) (y := ⟨p, 0, false⟩) (by simp [arrivals]) hfetch hcore)
  refine .of_unit rfl (by simp [hok, hp, hq']) ?_
  change Only _ (u.bankWaits b ⟨q, 0, false⟩) t at ht
  rw [State.bankWaits_proc (by simp [hfetch, onProc]), hempty, List.nil_append] at ht
  rw [hserve, State.bankServe_read hd (readsGood_of_ecc he)]
  have hle : Change.Le { lats := bankLats b } { waits := true, lats := bankLats b, reply := true } :=
    bankLats_le fun _ _ _ h => h
  have hst := ((hu.mono hle).trans (Only.setBankQueue rfl _)).trans (ht.mono hle)
  have hwaits : t.bankQueue b = [⟨q, 0, false⟩] := (ht.bankQueue rfl).trans (State.bankQueue_setBankQueue _)
  refine ⟨?_, congrArg (List.map _) hwaits, hst.trans (Only.answer _ _ rfl)⟩
  rw [hst.bytes fun _ => rfl]
  rfl

end

/-! ## Banks that are idle, unsupplied or asleep (R239, R252) -/

/-- A handshake without a request changes nothing but the count of idle ones. -/
theorem bankAccess_idle (hok : b.ok = true) (hq : s.bankQueue b = []) :
    Completes (.bankAccess b []) s fun t => Only { lats := theLat .bankIdle b.die (b.blk * 4 + b.num) } s t := by
  refine .of_unit rfl (by simp [hok]) ?_
  unfold State.bankAccess
  rw [hq]
  change Only _ s (if _ then s else _)
  exact Only.ite (Only.refl _ s) (Only.setLat _ _ _ _ (theLat_self ..))

/-- A request to a bank without a supply answers an address fault (R38, R252). -/
theorem bankAccess_absent (hok : b.ok = true) (hp : reqOk b p = true) (hb : s.borrowedIn b = none) (hq : s.bankQueue b = [])
    (hs : s.bankSupply b ≠ 2) (hm : ∀ port, reqMaster b p ≠ .host port) :
    Completes (.bankAccess b [p]) s fun t =>
      t.reply = ⟨.addressFault, []⟩ ∧ Only (Change.recording { reply := true }) s t := by
  refine .of_unit rfl (by simp [hok, hp]) ?_
  rw [State.bankAccess_reaches hb hq (by simp), State.bankTouch_absent (s := s.setBankQueue b (arrivals [p])) hs]
  have hempty : Only (Change.recording { reply := true }) s ((s.setBankQueue b (arrivals [p])).setBankQueue b []) :=
    Only.emptied hq rfl (Only.refl _ _)
  refine ⟨?_, hempty.trans ((Only.event _ _ _ _ (Change.records_recording _)).trans (Only.answer _ _ rfl))⟩
  change State.reply (State.bankAbsent _ b p) = _
  unfold State.bankAbsent
  cases hr : reqMaster b p with
  | host port => exact absurd hr (hm port)
  | _ => rfl

/-- A request to a bank that is not ON wakes it and is held (R252). -/
theorem bankAccess_held (hok : b.ok = true) (hp : reqOk b p = true) (hb : s.borrowedIn b = none) (hq : s.bankQueue b = [])
    (hs : s.bankSupply b = 2) (ho : s.bankOwn b < 2) :
    Completes (.bankAccess b [p]) s fun t =>
      t.reply = ⟨.held, []⟩ ∧ t.bankReq b = 2 ∧ t.bankOwn b = 3 ∧ t.bankQueue b = [⟨p, 0, false⟩] := by
  have hn := Bank.num_lt hok
  refine .of_unit rfl (by simp [hok, hp]) ?_
  obtain ⟨u, hu, huq, htouch⟩ := State.bankTouch_asleep (s := s.setBankQueue b (arrivals [p])) hn hs ho
  rw [State.bankAccess_reaches hb hq (by simp), htouch]
  refine ⟨rfl, ?_, State.bankOwn_setBankOwn (s := u) hn (by decide), ?_⟩
  · exact (State.bankReq_setBankOwn (s := u) hn 3).trans (hu.bankReq.trans (State.bankReq_setBankReq hn (by decide)))
  · exact (State.bankQueue_setBnk).trans (huq.trans (State.bankQueue_setBankQueue _))

/-! ## Power (R249 to R254) -/

/-- One bank's part of a write of requested states. -/
def State.writeReq (s : State) (v : W64) (b : Bank) : State :=
  let x := getBits v (2 * b.num + 1) (2 * b.num)
  if x = 3 then s else (s.setBankReq b x).bankWake b

theorem State.writeReqs_eq (s : State) (l : List Bank) (v : W64) : s.writeReqs l v = s.each l fun b t => t.writeReq v b := rfl

theorem State.bankReq_bankWake {e : Bank} (hb : b.num < 4) : (s.bankWake e).bankReq b = s.bankReq b := by
  unfold State.bankWake
  split
  · exact State.bankReq_setBankOwn hb 3
  · rfl

theorem State.bankReq_setBankReq_same {e : Bank} {n : Nat} (hb : b.num < 4) (hn : n < 4) (he : e.num = b.num)
    (h : s.bankReq b = n) : (s.setBankReq e n).bankReq b = n := by
  unfold State.setBankReq State.bankReq State.bnk at *
  rw [State.setBnk_eq (by decide) (by decide), State.fld, State.setFld, State.reg_setReg, he]
  split
  · rw [getBits_setBits _ _ _ _ (show 2 * b.num + 1 < 64 by omega),
      Nat.mod_eq_of_lt (by rwa [show 2 * b.num + 1 + 1 - 2 * b.num = 2 by omega])]
  · exact h

/-- A requested state that is written stands in REQ, and no bank's part of the write gives it another value. -/
theorem State.bankReq_writeReq {v : W64} (hb : b.num < 4) (hv : getBits v (2 * b.num + 1) (2 * b.num) ≠ 3) :
    (s.writeReq v b).bankReq b = getBits v (2 * b.num + 1) (2 * b.num) ∧
      ∀ e, s.bankReq b = getBits v (2 * b.num + 1) (2 * b.num) →
        (s.writeReq v e).bankReq b = getBits v (2 * b.num + 1) (2 * b.num) := by
  have hfits : getBits v (2 * b.num + 1) (2 * b.num) < 4 := by
    simpa [show 2 * b.num + 1 + 1 - 2 * b.num = 2 by omega] using getBits_lt v (2 * b.num + 1) (2 * b.num)
  unfold State.writeReq
  refine ⟨by rw [if_neg hv, State.bankReq_bankWake hb, State.bankReq_setBankReq hb hfits], fun e h => ?_⟩
  dsimp only
  split
  · exact h
  · rw [State.bankReq_bankWake hb]
    by_cases he : e.num = b.num
    · rw [he]
      exact State.bankReq_setBankReq_same hb hfits he h
    · rw [State.bankReq_setBankReq_other he, h]

theorem State.bankReq_writeReqs {l : List Bank} {v : W64} (hmem : b ∈ l) (hb : b.num < 4)
    (hv : getBits v (2 * b.num + 1) (2 * b.num) ≠ 3) :
    (s.writeReqs l v).bankReq b = getBits v (2 * b.num + 1) (2 * b.num) := by
  rw [State.writeReqs_eq]
  exact s.each_reaches (P := fun t => t.bankReq b = _) hmem (fun _ => (State.bankReq_writeReq hb hv).1)
    fun e _ => (State.bankReq_writeReq hb hv).2 e

theorem Only.writeReq {v : W64}
    (h : ∀ i, regHome (b.pick .CD_BNK_PWR .WD_BNK_PWR) i = regHome (b.pick .CD_BNK_PWR .WD_BNK_PWR) b.die →
      c.regs (b.pick .CD_BNK_PWR .WD_BNK_PWR) i b.blk = true) : Only c s (s.writeReq v b) := by
  have hset : ∀ (t : State) (hi lo n : Nat), Only c t (t.setBnk b .CD_BNK_PWR .WD_BNK_PWR hi lo n) :=
    fun _ _ _ _ => Only.setBnk_at h
  exact Only.ite (Only.refl c s) ((hset s _ _ _).trans (Only.ite (hset _ _ _ _) (Only.refl c _)))

/-- Power requests written by the host or the active warden stand in REQ of a scratchpad's bank (R250). -/
theorem cdBnkPwrWrite_requests {m : Master} {sp k : Nat} {v : W64} (hsp : sp < 1536) (hk : k < 4) (hm : s.hostOrActive m = true)
    (hup : s.dieUp (spDie sp) = true) (hv : getBits v (2 * k + 1) (2 * k) ≠ 3) :
    Completes (.cdBnkPwrWrite m sp v) s fun t =>
      t.bankReq (.pad sp k) = getBits v (2 * k + 1) (2 * k) ∧
        Only { regs := theReg .CD_BNK_PWR (spDie sp) (spIdx sp) } s t := by
  refine .of_unit rfl (decide_eq_true hsp) ?_
  rw [s.toDie_up hup, if_pos hm]
  refine ⟨State.bankReq_writeReqs (b := .pad sp k) (List.mem_map.mpr ⟨k, List.mem_range.mpr hk, rfl⟩) hk hv, ?_⟩
  rw [State.writeReqs_eq]
  refine Only.each _ _ (fun e he t => ?_) s
  obtain ⟨j, -, rfl⟩ := List.mem_map.mp he
  exact Only.writeReq (theReg_self _ _ _)

/-- Power requests written by the owning warden stand in REQ of its banks 2 and 3 (R254). -/
theorem wdBnkPwrWrite_requests {w k : Nat} {v : W64} (hw : w < 2) (hk : k = 2 ∨ k = 3)
    (hv : getBits v (2 * k + 1) (2 * k) ≠ 3) :
    Completes (.wdBnkPwrWrite (.warden w) w v) s fun t => t.bankReq (.sram w k) = getBits v (2 * k + 1) (2 * k) := by
  refine .of_unit rfl (decide_eq_true hw) ?_
  rw [if_pos rfl]
  exact State.bankReq_writeReqs (b := .sram w k) (by rcases hk with rfl | rfl <;> simp) (show k < 4 by omega) hv

/-- What the power of a bank is read from (R249). -/
def powerRegs : List Reg := [.CD_BNK_PWR, .WD_BNK_PWR, .PW_DIE_ISO, .PW_TWIN_CTL, .SPN_MAP]

/-- A line that is given back leaves the power of the banks as it was (R263). -/
theorem Spares.mtestRestore (h : Spares powerRegs [] s t) : Spares powerRegs [] s (t.mtestRestore b) := by
  cases b with
  | pad sp k => exact h.setLat.putFld (f := fCD_MTEST_STAT_BORROWED)
  | sram w k => exact h.setLat.putFld (f := fWD_MTEST_STAT_BORROWED)

/-- A request takes effect: ON by way of a wake, OFF with the contents lost (R251). -/
theorem State.bankSettle_settles (hn : b.num < 4) (hs : s.bankSupply b = 2) (ho : s.bankOwn b ≠ 3) (hr : s.bankReq b < 3)
    (hne : s.bankOwn b ≠ s.bankReq b) :
    ((s.bankSettle b).bankOwn b = if s.bankReq b = 2 then 3 else s.bankReq b) ∧
      (s.bankReq b = 0 → ∀ a : Nat, b.base ≤ a → a < b.base + b.size → (s.bankSettle b).byte a = 0) := by
  unfold State.bankSettle
  dsimp only
  rw [if_neg (by omega), if_neg (by omega)]
  split
  · next h => exact ⟨State.bankOwn_setBankOwn hn (by decide), fun h0 => by omega⟩
  split
  · next h =>
    refine ⟨?_, fun _ a hlo hhi => ?_⟩
    · rw [h]
      exact State.bankOwn_setBankOwn (s := s) hn (by decide)
    · rw [State.clearBank, State.byte_clearBytes, if_pos ⟨hlo, hhi⟩]
      rfl
  · next h2 h0 =>
    refine ⟨?_, fun h => absurd h h0⟩
    rw [State.bankOwn_setBankOwn hn (by decide)]
    omega

theorem bankPowerTransition_settles (hok : b.ok = true) (hs : s.bankSupply b = 2) (ho : s.bankOwn b ≠ 3) (hr : s.bankReq b < 3)
    (hne : s.bankOwn b ≠ s.bankReq b) (hq : s.bankReq b = 2 ∨ s.bankQueue b = []) :
    Completes (.bankPowerTransition b) s fun t =>
      (t.bankOwn b = if s.bankReq b = 2 then 3 else s.bankReq b) ∧
        (s.bankReq b = 0 → ∀ a : Nat, b.base ≤ a → a < b.base + b.size → t.byte a = 0) := by
  refine .of_unit rfl hok ?_
  rw [if_neg (by tauto)]
  set t := if ((s.borrowedIn b).isSome && s.bankReq b != 2) = true then s.mtestRestore b else s
  have ht : Spares powerRegs [] s t := .ite (Spares.refl s).mtestRestore (.refl s)
  have hreq : t.bankReq b = s.bankReq b := ht.mono.bankReq
  have hown : t.bankOwn b = s.bankOwn b := ht.mono.bankOwn
  have hsup : t.bankSupply b = s.bankSupply b := ht.mono.bankSupply
  rw [← hreq] at hr hne ⊢
  rw [← hown] at ho hne
  exact State.bankSettle_settles (Bank.num_lt hok) (hsup.trans hs) ho hr hne

/-- What the end of a wake may change of a bank's registers (R253). -/
theorem Only.bankWoken : Only { regs := regsAt [b.pick .CD_BNK_PWR .WD_BNK_PWR] b.die } s (s.setBankOwn b 2) :=
  Only.setBnk_at fun i hi => by simp [regsAt, hi]

section
variable (hok : b.ok = true) (hs : s.bankSupply b = 2) (ho : s.bankOwn b = 3)
include hok hs ho

theorem execBankWakeDone_wakes : exec (.bankWakeDone b) s = .next ((s.setBankOwn b 2).bankFlush b) := by
  change ifUnit b.ok (if _ then (s.bankWoken b).bankFlush b else s) = _
  rw [hok, ifUnit_true, if_pos ⟨hs, ho⟩, State.bankWoken, if_pos ⟨hs, ho⟩]

theorem bankWakeDone_wakes (hq : s.bankQueue b = []) :
    Completes (.bankWakeDone b) s fun t =>
      t.bankOwn b = 2 ∧ Only { regs := regsAt [b.pick .CD_BNK_PWR .WD_BNK_PWR] b.die } s t := by
  refine .of_next (execBankWakeDone_wakes hok hs ho) ?_
  have hqueue : (s.setBankOwn b 2).bankQueue b = [] := (State.bankQueue_setBnk).trans hq
  unfold State.bankFlush
  rw [hqueue]
  refine ⟨State.bankOwn_setBankOwn (s := s) (Bank.num_lt hok) (by decide),
    Only.bankWoken.trans (Only.setBankQueue_same hqueue)⟩

/-- A read held for a wake is served when the bank has woken (R252). -/
theorem bankWakeDone_serves (hq : s.bankQueue b = [⟨p, 0, false⟩]) (hd : p.data = none)
    (he : p.ecc.all (· == .good) = true) :
    Completes (.bankWakeDone b) s fun t =>
      t.bankOwn b = 2 ∧ t.bankQueue b = [] ∧ t.reply = ⟨.ok, s.bytes (b.base + p.off) p.len⟩ ∧
        Only { regs := regsAt [b.pick .CD_BNK_PWR .WD_BNK_PWR] b.die, waits := true, lats := bankLats b, reply := true }
          s t := by
  refine .of_next (execBankWakeDone_wakes hok hs ho) ?_
  have hqueue : (s.setBankOwn b 2).bankQueue b = [⟨p, 0, false⟩] := (State.bankQueue_setBnk).trans hq
  have hflush : (s.setBankOwn b 2).bankFlush b = ((s.setBankOwn b 2).setBankQueue b []).answer .ok
      ((s.setBankOwn b 2).bytes (b.base + p.off) p.len) := by
    unfold State.bankFlush
    rw [hqueue]
    exact State.bankServe_read hd (readsGood_of_ecc he)
  rw [hflush, Only.bankWoken.bytes fun _ => rfl]
  refine ⟨State.bankOwn_setBankOwn (s := s) (Bank.num_lt hok) (by decide),
    State.bankQueue_setBankQueue (s := s.setBankOwn b 2) (b := b) [], rfl, ?_⟩
  exact ((Only.bankWoken.mono (by constructor <;> simp)).trans (Only.setBankQueue rfl _)).trans (Only.answer _ _ rfl)

end

/-- Settles O45, command by command (log entries 31, 172, 177). -/
theorem bankCommandsComplete : Obligations.BankCommandsComplete := by
  unfold Obligations.BankCommandsComplete
  refine ⟨fun _ _ _ => bankAccess_reads, fun _ _ _ _ => bankAccess_plainWrites, fun _ _ _ _ => bankAccess_conflict,
    fun _ _ _ _ => bankAccess_coreFirst, fun _ _ => bankAccess_idle, ?_, fun _ _ _ => bankAccess_held,
    fun _ _ _ _ _ _ hok hs ho hr hb hq => bitAliasWrite_completes hok hs ho hr hb hq,
    fun _ _ _ _ _ => cdBnkPwrWrite_requests, fun _ _ _ _ => wdBnkPwrWrite_requests,
    fun _ _ => bankPowerTransition_settles, fun _ _ => bankWakeDone_wakes, fun _ _ _ => bankWakeDone_serves⟩
  intro b p s hok hp hb hq hs hm
  exact bankAccess_absent hok hp hb hq hs fun port h => by simp [h] at hm

end Sys2Proof.Machine
end

section
/-! PROOF. CXL port commands (R278, R279, R281 to R283): bring-up, the loss of a link, a retrain and the event log. -/

set_option Elab.async false

namespace Sys2Proof.Machine

variable {c : Change} {s t : State} {p : Nat}

/-! ## The port's fields -/

theorem State.cxFld_setCxFld_fits {f : RField} {x : Nat} (s : State) (p : Nat) (hf : f.hi < 64) (hx : x < 2 ^ (f.hi + 1 - f.lo)) :
    (s.setCxFld f p x).cxFld f p = x := s.fld_setFld_fits _ _ hf hx

theorem State.cxFld_setCxFld_other {f g : RField} (h : g.reg ≠ f.reg ∨ g.hi < f.lo ∨ f.hi < g.lo) (s : State) (p x : Nat) :
    (s.setCxFld f p x).cxFld g p = s.cxFld g p := State.fld_setFld_other h ..

/-- The port's block in a frame. -/
def Change.CxlPort (c : Change) (p : Nat) : Prop :=
  ∀ r ∈ [Reg.CX_PORT_CTL, .CX_PORT_STAT, .CX_PORT_SN], ∀ y, regHome r y = regHome r (60 + p / 2) → c.regs r y (p % 2) = true

/-- Frames that name the port's block. -/
theorem Change.cxlPort_regsIn {c : Change} (h : c.regs = regsIn [.CX_PORT_CTL, .CX_PORT_STAT, .CX_PORT_SN] (60 + p / 2) (p % 2)) :
    c.recording.CxlPort p := fun r hr y hy => by
  simp only [Change.recording, orReg, h, regsIn_self hr hy, Bool.true_or]

theorem Only.setCxFld {f : RField} {x : Nat} (h : c.CxlPort p)
    (hf : f.reg ∈ [Reg.CX_PORT_CTL, .CX_PORT_STAT, .CX_PORT_SN] := by decide) : Only c s (s.setCxFld f p x) :=
  Only.setFld _ _ _ _ (h _ hf)

/-! ## Bring-up (R278, R279) -/

/-- A port brought up shows its expander: STATE MAPPED, its capacity, its link and its serial number. -/
def State.cxlShown (s : State) (p : Nat) (x : Expander) : State :=
  let t := s.setCxFld fCX_PORT_CTL_RETRAIN p 0
  let t := ((t.setCxFld fCX_PORT_STAT_STATE p 2).setCxFld fCX_PORT_STAT_REASON p 0).setCxFld fCX_PORT_STAT_CAP p (cxlCap x)
  let t := ((t.setCxFld fCX_PORT_STAT_VERSION p x.version).setCxFld fCX_PORT_STAT_SPEED p x.speed).setCxFld
    fCX_PORT_STAT_WIDTH p x.width
  (t.setCxFld fCX_PORT_STAT_FLIT256 p x.flit256.toNat).setReg .CX_PORT_SN (60 + p / 2) (p % 2) x.serial

theorem cxlCap_lt (x : Expander) : cxlCap x < 2 ^ 16 := Nat.lt_of_le_of_lt (Nat.min_le_right _ _) (by decide)

theorem State.cxlShown_reads (s : State) (p : Nat) (x : Expander) :
    (s.cxlShown p x).cxFld fCX_PORT_STAT_STATE p = 2 ∧ (s.cxlShown p x).cxFld fCX_PORT_STAT_CAP p = cxlCap x ∧
      (s.cxlShown p x).reg .CX_PORT_SN (60 + p / 2) (p % 2) = x.serial := by
  unfold State.cxlShown
  extract_lets a b d
  have hstat : ∀ (f : RField) (u : State), f.reg = .CX_PORT_STAT →
      (u.setReg .CX_PORT_SN (60 + p / 2) (p % 2) x.serial).cxFld f p = u.cxFld f p := fun f u hf =>
    State.fld_congr (State.reg_setReg_name u (by rw [hf]; decide) _ _ _ _ _)
  refine ⟨?_, ?_, State.reg_setReg_self _ _ _ _ _⟩
  · rw [hstat _ _ rfl]
    simp (disch := decide) only [d, b, State.cxFld_setCxFld_other, State.cxFld_setCxFld_fits]
  · rw [hstat _ _ rfl]
    simp (disch := decide) only [d, State.cxFld_setCxFld_other]
    exact State.cxFld_setCxFld_fits _ _ (by decide) (cxlCap_lt x)

theorem Only.cxlShown (h : c.CxlPort p) (x : Expander) : Only c s (s.cxlShown p x) :=
  ((((((((Only.setCxFld h).trans (Only.setCxFld h)).trans (Only.setCxFld h)).trans (Only.setCxFld h)).trans
    (Only.setCxFld h)).trans (Only.setCxFld h)).trans (Only.setCxFld h)).trans (Only.setCxFld h)).trans
      (Only.setReg _ _ _ _ (h _ (by decide)))

/-- An enabled port whose expander is not refused is MAPPED (R278, R279). -/
theorem cxlPortBringup_maps (x : Expander) (hp : p < 4) (hd : s.dieUp (60 + p / 2) = true)
    (he : s.cxFld fCX_PORT_CTL_ENABLE p = 1) (hst : s.cxFld fCX_PORT_STAT_STATE p ≤ 1) (hr : s.cxlReason p x = 0) :
    Completes (.cxlPortBringup p x) s fun t =>
      t.cxFld fCX_PORT_STAT_STATE p = 2 ∧ t.cxFld fCX_PORT_STAT_CAP p = cxlCap x ∧ t.reg .CX_PORT_SN (60 + p / 2) (p % 2) = x.serial ∧ Only (Change.recording { regs := regsIn [.CX_PORT_CTL, .CX_PORT_STAT, .CX_PORT_SN] (60 + p / 2) (p % 2), lats := latsOf [.cxlWasSn, .cxlWasCap, .cxlWrote] }) s t := by
  refine .of_unit rfl (by simpa [isCxlPort] using hp) ?_
  rw [if_pos ⟨hd, he, hst⟩]
  dsimp only
  rw [if_neg (not_not_intro hr)]
  change _ ∧ _ ∧ _ ∧ Only _ s (((((s.cxlShown p x).setLat .cxlWrote p 0 0).setLat .cxlWasSn p 0 0).setLat .cxlWasCap p 0 0).wevent
    0x3401 .note 0 (p + cxlCap x * 2 ^ 8))
  obtain ⟨hstate, hcap, hsn⟩ := s.cxlShown_reads p x
  have h : Spares [.CX_PORT_STAT, .CX_PORT_SN] [] (s.cxlShown p x)
      (((((s.cxlShown p x).setLat .cxlWrote p 0 0).setLat .cxlWasSn p 0 0).setLat .cxlWasCap p 0 0).wevent
        0x3401 .note 0 (p + cxlCap x * 2 ^ 8)) := (Spares.refl _).setLat.setLat.setLat.wevent
  refine ⟨(h.fld _ _).trans hstate, (h.fld _ _).trans hcap, (h.reg _ (by decide) _ _).trans hsn, ?_⟩
  exact ((((Only.cxlShown (Change.cxlPort_regsIn rfl) x).trans (Only.setLat _ _ _ _ rfl)).trans (Only.setLat _ _ _ _ rfl)).trans
    (Only.setLat _ _ _ _ rfl)).trans (Only.wevent _ _ _ _ (Change.records_recording _))

/-! ## A link lost, a retrain, the event log (R281 to R283) -/

/-- The link of a MAPPED port that goes down leaves it LOST (R281). -/
theorem cxlLinkDown_loses (hp : p < 4) (hst : s.cxFld fCX_PORT_STAT_STATE p = 2) :
    Completes (.cxlLinkDown p) s fun t =>
      t.cxFld fCX_PORT_STAT_STATE p = 4 ∧ t.cxFld fCX_PORT_STAT_SPEED p = 0 ∧ t.cxFld fCX_PORT_STAT_WIDTH p = 0 ∧ Only (Change.recording { regs := regsIn [.CX_PORT_CTL, .CX_PORT_STAT, .CX_PORT_SN] (60 + p / 2) (p % 2), lats := theLat .cxlWrote p 0 }) s t := by
  refine .of_unit rfl (by simpa [isCxlPort] using hp) ?_
  rw [if_pos hst]
  extract_lets a
  have h : Spares [.CX_PORT_STAT] [] a ((a.setLat .cxlWrote p 0 0).event 0x3403 .fault (cxlUnit p) 0) :=
    (Spares.refl a).setLat.event
  have hc := Change.cxlPort_regsIn (p := p)
    (c := { regs := regsIn [.CX_PORT_CTL, .CX_PORT_STAT, .CX_PORT_SN] (60 + p / 2) (p % 2), lats := theLat .cxlWrote p 0 }) rfl
  refine ⟨(h.fld _ _).trans ?_, (h.fld _ _).trans ?_, (h.fld _ _).trans ?_, ?_⟩
  · exact ((State.cxFld_setCxFld_other (by decide) _ p 0).trans (State.cxFld_setCxFld_other (by decide) _ p 0)).trans
      (s.cxFld_setCxFld_fits p (by decide) (by decide))
  · exact (State.cxFld_setCxFld_other (by decide) _ p 0).trans (State.cxFld_setCxFld_fits _ p (by decide) (by decide))
  · exact State.cxFld_setCxFld_fits _ p (by decide) (by decide)
  · exact ((((Only.setCxFld hc).trans (Only.setCxFld hc)).trans (Only.setCxFld hc)).trans
      (Only.setLat _ _ _ _ (by simp [Change.recording, orLat, theLat]))).trans
        (Only.event _ _ _ _ (Change.records_recording _))

/-- A write of RETRAIN trains the port again (R282). -/
theorem State.cxlRetrain_trains (s : State) (p : Nat) :
    (s.cxlRetrain p).cxFld fCX_PORT_STAT_STATE p = 1 ∧ (s.cxlRetrain p).cxFld fCX_PORT_CTL_RETRAIN p = 1 := by
  set a := (s.resetRegs (fun r d i => inCxlPort p r d i) portKeeps).setCxFld fCX_PORT_STAT_STATE p 1
  have hreset : Spares [.CX_PORT_STAT] [] a (s.cxlPortReset p 0) := (Spares.refl a).setWfld.setWfld.wevent
  have hstate : ((s.cxlPortReset p 0).setCxFld fCX_PORT_CTL_RETRAIN p 1).cxFld fCX_PORT_STAT_STATE p = 1 :=
    ((State.cxFld_setCxFld_other (by decide) _ p 1).trans (hreset.fld _ _)).trans
      (State.cxFld_setCxFld_fits _ p (by decide) (by decide))
  have hretrain : ((s.cxlPortReset p 0).setCxFld fCX_PORT_CTL_RETRAIN p 1).cxFld fCX_PORT_CTL_RETRAIN p = 1 :=
    State.cxFld_setCxFld_fits _ p (by decide) (by decide)
  unfold State.cxlRetrain
  extract_lets was sn cap u
  split
  · exact ⟨hstate, hretrain⟩
  · exact ⟨hstate, hretrain⟩

/-- A write of a port register that its master may write reaches it (R268). -/
theorem State.portWrite_allowed {m : Master} {d : Nat} (hd : s.dieUp d = true) (hm : s.hostOrActive m = true)
    (f : State → State) : s.portWrite m d f = f s := by
  rw [State.portWrite, s.toDie_up hd, if_pos hm]

theorem cxlRetrain_completes (m : Master) (hp : p < 4) (hd : s.dieUp (60 + p / 2) = true) (hm : s.hostOrActive m = true) :
    Completes (.cxlRetrain m p) s fun t => t.cxFld fCX_PORT_STAT_STATE p = 1 ∧ t.cxFld fCX_PORT_CTL_RETRAIN p = 1 := by
  refine .of_unit rfl (by simpa [isCxlPort] using hp) ?_
  rw [State.portWrite_allowed hd hm]
  exact s.cxlRetrain_trains p

/-- Each new record of a MAPPED expander's event log is offered to the recorder, in order (R283). -/
theorem cxlEventLogPoll_records (recs : List Nat) (hp : p < 4) (hst : s.cxFld fCX_PORT_STAT_STATE p = 2) :
    Completes (.cxlEventLogPoll p recs) s fun t =>
      (t = recs.foldl (fun (u : State) r => u.wevent 0x3405 .note 0 (r % 2 ^ 128)) s) ∧ Only (Change.recording {}) s t := by
  refine .of_unit rfl (by simpa [isCxlPort] using hp) ?_
  rw [if_pos hst]
  exact ⟨rfl, Only.each _ _ (fun _ _ _ => Only.wevent _ _ _ _ (Change.records_recording _)) s⟩

/-- Settles O21, command by command. -/
theorem cxlPortCommandsComplete : Obligations.CxlPortCommandsComplete := by
  unfold Obligations.CxlPortCommandsComplete
  exact ⟨fun _ x _ => cxlPortBringup_maps x, fun _ _ => cxlLinkDown_loses, fun m _ _ => cxlRetrain_completes m,
    fun _ recs _ => cxlEventLogPoll_records recs⟩

end Sys2Proof.Machine
end

section
/-! PROOF. Routes to packages (R297, R298, R300): a route choice written, a route hold that ends, and a request to another
package that waited too long, which completes with DIE_LOST at its requester. -/

set_option Elab.async false

namespace Sys2Proof.Machine

variable {c : Change} {s t : State}

/-! ## Choices and holds (R297, R298) -/

/-- Holding flows changes what they used before, and since when. -/
theorem Only.holdFlows (before : State) (h1 : ∀ k, c.lats .flowHold k 0 = true) (h2 : ∀ k, c.lats .flowSince k 0 = true) :
    Only c s (s.holdFlows before) :=
  Only.each _ _ (fun k _ t => Only.ite (Only.refl c t) ((Only.setLat _ _ _ _ (h1 k)).trans (Only.setLat _ _ _ _ (h2 k)))) s

/-- A choice keeps its writable bits, and fits its register (R297). -/
theorem routeChoice_lt (v : W64) : getBits v 31 0 &&& 0xCFCFCFCF < 2 ^ 32 :=
  Nat.lt_of_le_of_lt Nat.and_le_left (getBits_lt v 31 0)

theorem wpRouteWrite_completes (m : Master) (k : Nat) (v : W64) (hk : k < 4096) (hd : s.dieUp 56 = true)
    (hm : s.hostOrActive m = true) :
    Completes (.wpRouteWrite m 0 k v) s fun t =>
      t.fld fWP_ROUTE_CHOICE 56 k = getBits v 31 0 &&& 0xCFCFCFCF ∧ Only ({ regs := theReg .WP_ROUTE 56 k, lats := latsOf [.flowHold, .flowSince] }) s t := by
  refine .of_unit rfl (by simpa using hk) ?_
  rw [State.portWrite_allowed hd hm, if_pos rfl]
  set a := s.setFld fWP_ROUTE_CHOICE 56 k (getBits v 31 0 &&& 0xCFCFCFCF)
  have h : Only { lats := latsOf [.flowHold, .flowSince] } a (a.holdFlows s) :=
    Only.holdFlows s (fun _ => rfl) fun _ => rfl
  refine ⟨(State.fld_congr (h.1 _ _ _ rfl)).trans (s.fld_setFld_fits 56 k (by decide) (routeChoice_lt v)), ?_⟩
  exact (Only.setFld _ _ _ _ (theReg_self _ _ _)).trans (Only.holdFlows s (fun _ => rfl) fun _ => rfl)

theorem flowRouteHoldEnd_completes (pkg : Nat) (hp : pkg < 4096) :
    Completes (.flowRouteHoldEnd pkg) s fun t =>
      t.lat .flowHold pkg 0 = 0 ∧ Only ({ lats := theLat .flowHold pkg 0 }) s t :=
  .of_unit rfl (by simpa using hp) ⟨s.lat_setLat_self _ _ _ _, Only.setLat _ _ _ _ (theLat_self _ _ _)⟩

/-! ## Requests that waited too long (R300) -/

/-- The recorder leaves alone what the state of a spindle reads from. -/
theorem Change.keepsSpState_recording (c : Change)
    (hr : ∀ r ∈ [Reg.PW_DIE_ISO, .PW_TWIN_CTL, .SPN_MAP, .SPN_STAT], ∀ d i, c.regs r d i = false)
    (hl : ∀ k, c.lats .slotRetired k 0 = false) : c.recording.KeepsSpState where
  regs r h d i := by
    have hrec : r ∉ recorderRegs :=
      (by decide : ∀ r ∈ [Reg.PW_DIE_ISO, .PW_TWIN_CTL, .SPN_MAP, .SPN_STAT], r ∉ recorderRegs) r h
    simp [Change.recording, orReg, regsOf, hr r h d i, hrec]
  lats k := by simp [Change.recording, orLat, latsOf, hl k, recorderLats]

/-- The timeout of a request of a requester that exists is recorded, and the request is lost. -/
theorem remoteRequestTimeout_of {xd : Nat} {x : Waiter} {P : State → Prop} (hxd : xd < 4) (hx : waiterOk x = true)
    (ht : s.fld fWP_GCFG_TIMEOUT_US 56 0 ≠ 0) (h : P ((s.event 0x3210 .fault (dieUnit (56 + xd)) 0).remoteLost x)) :
    Completes (.remoteRequestTimeout xd x) s P := by
  refine .of_unit rfl (by simpa [hx] using hxd) ?_
  rw [if_neg ht]
  exact h

theorem remoteRequestTimeout_read (port xd : Nat) (hp : port < 2) (hxd : xd < 4) (ht : s.fld fWP_GCFG_TIMEOUT_US 56 0 ≠ 0) :
    Completes (.remoteRequestTimeout xd ⟨.host port, .read⟩) s fun t =>
      t.reply = ⟨.dieLost, []⟩ ∧ Only (Change.recording { reply := true }) s t :=
  remoteRequestTimeout_of hxd (by simpa [waiterOk, isHostPort] using hp) ht
    ⟨rfl, (Only.event _ _ _ _ (Change.records_recording _)).trans (Only.answer _ _ rfl)⟩

theorem remoteRequestTimeout_write (port xd a : Nat) (hp : port < 2) (hxd : xd < 4)
    (ht : s.fld fWP_GCFG_TIMEOUT_US 56 0 ≠ 0) :
    Completes (.remoteRequestTimeout xd ⟨.host port, .write a⟩) s fun t =>
      t.reply = ⟨.ok, []⟩ ∧ Only (Change.recording { reply := true }) s t :=
  remoteRequestTimeout_of hxd (by simpa [waiterOk, isHostPort] using hp) ht
    ⟨rfl, ((Only.event _ _ _ _ (Change.records_recording _)).trans (Only.event _ _ _ _ (Change.records_recording _))).trans
      (Only.answer _ _ rfl)⟩

/-! ## A DMA channel's oldest descriptor (R275) -/

/-- A descriptor that fails stops its channel with ERR. -/
theorem State.dmaFail_stops (s : State) (port c : Nat) :
    (s.dmaFail port c).dmaFld fHI_DMA_CTL_ERR port c = 1 ∧ (s.dmaFail port c).dmaFld fHI_DMA_CTL_ENABLE port c = 0 := by
  set a := s.setDmaFld fHI_DMA_CTL_ERR port c 1
  have h : Spares [.HI_DMA_CTL] [] (a.setDmaFld fHI_DMA_CTL_ENABLE port c 0) (s.dmaFail port c) := (Spares.refl _).event
  refine ⟨(h.fld _ _).trans ?_, (h.fld _ _).trans (a.fld_setFld_fits _ _ (by decide) (by decide))⟩
  exact (a.fld_setFld_disjoint (by rfl) (by decide) _ _ _ _ _).trans (s.fld_setFld_fits _ _ (by decide) (by decide))

/-- A descriptor that ends with DATA_LOST: TAIL passes it, and its channel stops. -/
theorem State.dmaEnd_dataLost (s : State) (port c : Nat) (w : W256) (rest : List W256) (bs : List Byte) :
    s.dmaEnd port c 3 w rest bs = ((s.tailPassed port c rest).dmaFail port c).answer .ok (bs ++ leBytes 2 3) := by
  have h := ((s.tailPassed port c rest).dmaFail_stops port c).2
  change (if rest.isEmpty ∧ ((s.tailPassed port c rest).dmaFail port c).dmaFld fHI_DMA_CTL_ENABLE port c = 1 then _
    else (s.tailPassed port c rest).dmaFail port c).answer .ok (bs ++ leBytes 2 3) = _
  rw [if_neg (by rw [h]; simp)]

theorem remoteRequestTimeout_dma (port xd n : Nat) (w : W256) (rest : List W256) (hp : port < 2) (hxd : xd < 4) (hn : n < 4)
    (ht : s.fld fWP_GCFG_TIMEOUT_US 56 0 ≠ 0) (hm : s.dmaMoving port n = w :: rest) :
    Completes (.remoteRequestTimeout xd ⟨.host port, .dma n⟩) s fun t =>
      t.dmaMoving port n = rest ∧ t.reply = ⟨.ok, leBytes 2 3⟩ ∧ t.dmaFld fHI_DMA_CTL_ERR port n = 1 ∧ t.dmaFld fHI_DMA_CTL_ENABLE port n = 0 := by
  refine remoteRequestTimeout_of hxd (by simp [waiterOk, isHostPort, hp, hn]) ht ?_
  set a := s.event 0x3210 .fault (dieUnit (56 + xd)) 0
  have ha : Only (Change.recording {}) s a := Only.event _ _ _ _ (Change.records_recording _)
  have hlost : a.remoteLost ⟨.host port, .dma n⟩ = a.dmaEnd port n 3 w rest [] := by
    simp only [State.remoteLost, State.dmaMoving_congr (ha.dma_eq rfl), hm]
  rw [hlost, State.dmaEnd_dataLost]
  obtain ⟨herr, hen⟩ := (a.tailPassed port n rest).dmaFail_stops port n
  have hfail : Only (Change.recording { regs := regsOf [.HI_DMA_CTL] }) (a.tailPassed port n rest)
      ((a.tailPassed port n rest).dmaFail port n) := Only.dmaFail port n (fun _ _ => rfl) (Change.records_recording _)
  exact ⟨(State.dmaMoving_congr (hfail.dma_eq rfl) port n).trans (a.dmaMoving_setDmaMoving_self port n rest), rfl, herr, hen⟩

/-! ## A machine check (R62) -/

/-- A unit about to stop is noted as having run. -/
theorem Only.noteRunning (sp : Nat) (h : ∀ i, c.lats .runAfter i 0 = true) : Only c s (s.noteRunning sp) := by
  unfold State.noteRunning
  split
  · exact Only.ite (Only.setLat _ _ _ _ (h _)) (Only.refl c s)
  · exact Only.refl c s

/-- A trigger makes a rollback due, with the conditions that fail. -/
theorem Only.trigger (unit fails : Nat) (h1 : c.lats .rollbackFail 0 0 = true) (h2 : c.lats .rollbackDue 0 0 = true) :
    Only c s (s.trigger unit fails) :=
  Only.ite (Only.refl c s) (Only.ite ((Only.setLat _ _ _ _ h1).trans (Only.setLat _ _ _ _ h2)) (Only.setLat _ _ _ _ h1))

/-- What a machine check changes of a spindle in no ply, beside its tally. -/
def checkFrame (sp : Nat) : Change :=
  Change.recording { regs := theReg .SPN_STAT (spDie sp) (spIdx sp), lats := latsOf [.runAfter, .rollbackFail, .rollbackDue] }

section
variable {sp : Nat} (hp : s.plyOf sp = none)
include hp

/-- A spindle in no ply that takes a machine check stops alone. -/
theorem State.machineCheck_unplied (cause : Nat) :
    s.machineCheck sp cause = (s.setSpFld fSPN_STAT_STATE sp 5).event 0x1111 .fault (s.spUnit sp) cause := by
  rw [State.machineCheck, hp]

theorem Only.checkSpindle_unplied (cause : Nat) : Only (checkFrame sp) s (s.checkSpindle sp cause) := by
  have h : Only (checkFrame sp) s (s.noteRunning sp) := Only.noteRunning sp fun _ => rfl
  have hm : Only (checkFrame sp) s ((s.noteRunning sp).machineCheck sp cause) := by
    rw [State.machineCheck_unplied ((h.plyOf_eq ⟨rfl, rfl⟩ sp).trans hp)]
    exact (h.trans (Only.setFld _ _ _ _ (theReg_recording_self _ _ _))).trans (Only.event _ _ _ _ (Change.records_recording _))
  unfold State.checkSpindle
  dsimp only
  split
  · exact hm.trans (Only.trigger _ _ rfl rfl)
  · exact hm

/-- It is CHECKED. -/
theorem State.state_checkSpindle_unplied (cause : Nat) : (s.checkSpindle sp cause).spFld fSPN_STAT_STATE sp = 5 := by
  have h : Only (checkFrame sp) s (s.noteRunning sp) := Only.noteRunning sp fun _ => rfl
  have hm : ((s.noteRunning sp).machineCheck sp cause).spFld fSPN_STAT_STATE sp = 5 := by
    rw [State.machineCheck_unplied ((h.plyOf_eq ⟨rfl, rfl⟩ sp).trans hp)]
    exact ((Spares.refl (rs := [.SPN_STAT]) (ls := []) _).event.fld _ _).trans
      (State.fld_setFld_fits _ _ _ (by decide) (by decide))
  have ht : ∀ unit fails, ∀ u : State, (u.trigger unit fails).spFld fSPN_STAT_STATE sp = u.spFld fSPN_STAT_STATE sp :=
    fun unit fails u => Only.spFld (c := { lats := latsOf [.rollbackFail, .rollbackDue] }) (Only.trigger unit fails rfl rfl) rfl
  unfold State.checkSpindle
  dsimp only
  split
  · exact (ht _ _ _).trans hm
  · exact hm

/-- Its machine check, where one more occurrence of class 0x01 is only counted, leaves it CHECKED. -/
theorem State.state_check_unplied (cause : Nat) (hc : s.countsOnly 0x01 (s.spUnit sp) = true) :
    (s.check sp cause).spFld fSPN_STAT_STATE sp = 5 := by
  have h := Only.checkSpindle_unplied hp cause
  have hcount := (State.countsOnly_congr (cls := 0x01) (u := s.spUnit sp) h rfl (fun _ _ => rfl) rfl rfl).trans hc
  have hocc : Only (Change.recording { tallies := true }) (s.checkSpindle sp cause) (s.check sp cause) :=
    Only.occur_of_countsOnly hcount (Change.records_recording _) rfl
  exact (hocc.spFld rfl).trans (State.state_checkSpindle_unplied hp cause)

end

theorem remoteRequestTimeout_spindle (sp xd : Nat) (hxd : xd < 4) (hsp : sp < 1536) (ht : s.fld fWP_GCFG_TIMEOUT_US 56 0 ≠ 0)
    (hst : s.spState sp = 3) (hp : s.plyOf sp = none) (hc : s.countsOnly 0x01 (s.spUnit sp) = true) :
    Completes (.remoteRequestTimeout xd ⟨.spindle sp, .read⟩) s fun t => t.spFld fSPN_STAT_STATE sp = 5 := by
  refine remoteRequestTimeout_of hxd (by simp [waiterOk, nSpindles, hsp]) ht ?_
  set a := s.event 0x3210 .fault (dieUnit (56 + xd)) 0
  have ha : Only (Change.recording {}) s a := Only.event _ _ _ _ (Change.records_recording _)
  have hst' : a.spState sp = 3 := (ha.spState_eq (Change.keepsSpState_recording {} (fun _ _ _ _ => rfl) fun _ => rfl) sp).trans hst
  have hu : a.spUnit sp = s.spUnit sp := congrArg (unitId _) (State.fld_congr (ha.1 _ _ _ rfl))
  have hlost : a.remoteLost ⟨.spindle sp, .read⟩ = a.check sp mcDieLost := by
    simp only [State.remoteLost, hst', true_or, if_true]
  rw [hlost]
  refine State.state_check_unplied ((ha.plyOf_eq ⟨rfl, rfl⟩ sp).trans hp) _ ?_
  rw [hu]
  exact (State.countsOnly_congr ha rfl (fun _ _ => rfl) rfl rfl).trans hc

/-- Settles O23, command by command (log entry 206). -/
theorem routeCommandsComplete : Obligations.RouteCommandsComplete := by
  unfold Obligations.RouteCommandsComplete
  exact ⟨fun m k v _ => wpRouteWrite_completes m k v, fun pkg _ => flowRouteHoldEnd_completes pkg,
    fun port xd _ => remoteRequestTimeout_read port xd, fun port xd a _ => remoteRequestTimeout_write port xd a,
    fun port xd n w rest _ => remoteRequestTimeout_dma port xd n w rest,
    fun sp xd _ => remoteRequestTimeout_spindle sp xd⟩

end Sys2Proof.Machine
end

section
/-! PROOF. Warp ports (R284 to R288, R291 to R295): negotiation and training, ACTIVE and HELD, replays and retrains, the
retirement of a lane and of a port. -/

set_option Elab.async false

namespace Sys2Proof.Machine

variable {c : Change} {s t : State} {p : Nat}

/-! ## The port's registers -/

/-- The port's block in a frame. -/
def Change.WarpPort (c : Change) (p : Nat) : Prop :=
  ∀ r ∈ [Reg.WP_PORT_STAT, .WP_PORT_CTL, .WP_PORT_ERR, .WP_PORT_FEC], ∀ y, regHome r y = regHome r (warpDie p) →
    c.regs r y (p % 4) = true

/-- Frames that name the port's block. -/
theorem Change.warpPort_regsIn {c : Change}
    (h : c.regs = regsIn [.WP_PORT_STAT, .WP_PORT_CTL, .WP_PORT_ERR, .WP_PORT_FEC] (warpDie p) (p % 4)) :
    c.WarpPort p ∧ c.recording.WarpPort p :=
  ⟨fun r hr y hy => by rw [h, regsIn_self hr hy], fun r hr y hy => by
    simp only [Change.recording, orReg, h, regsIn_self hr hy, Bool.true_or]⟩

/-- Frames that name one register of the port. -/
theorem Change.theReg_recording {c : Change} {r : Reg} {d i : Nat} (h : c.regs = theReg r d i) (y : Nat)
    (hy : regHome r y = regHome r d) : c.recording.regs r y i = true := by
  simp only [Change.recording, orReg, h, theReg_self r d i y hy, Bool.true_or]

theorem State.wpFld_setWpFld_fits {f : RField} {x : Nat} (s : State) (p : Nat) (hf : f.hi < 64) (hx : x < 2 ^ (f.hi + 1 - f.lo)) :
    (s.setWpFld f p x).wpFld f p = x := s.fld_setFld_fits _ _ hf hx

theorem State.wpFld_setWpFld_other {f g : RField} (h : g.reg ≠ f.reg ∨ g.hi < f.lo ∨ f.hi < g.lo) (s : State) (p x : Nat) :
    (s.setWpFld f p x).wpFld g p = s.wpFld g p := State.fld_setFld_other h ..

theorem State.wpFld_satWpFld_other {f g : RField} (h : g.reg ≠ f.reg ∨ g.hi < f.lo ∨ f.hi < g.lo) (s : State) (p n : Nat) :
    (s.satWpFld f p n).wpFld g p = s.wpFld g p := State.fld_setFld_other h ..

/-- A saturating count reads as counted. -/
theorem State.wpFld_satWpFld_self {f : RField} (s : State) (p n : Nat) (hf : f.hi < 64) :
    (s.satWpFld f p n).wpFld f p = satAdd (f.hi + 1 - f.lo) (s.wpFld f p) n :=
  s.fld_setFld_fits _ _ hf (Nat.lt_of_le_of_lt (satAdd_le _ _ _) (Nat.sub_lt (by positivity) (by decide)))

theorem Spares.wpFld {rs : List Reg} {ls : List Lat} {f : RField} (h : Spares rs ls s t) (p : Nat)
    (hf : f.reg ∈ rs := by decide) : t.wpFld f p = s.wpFld f p := h.fld _ _ hf

/-- Setting a field of a port, where the frame names its register of the port. -/
theorem Only.setWpFld {f : RField} {x : Nat}
    (h : ∀ y, regHome f.reg y = regHome f.reg (warpDie p) → c.regs f.reg y (p % 4) = true) : Only c s (s.setWpFld f p x) :=
  Only.setFld _ _ _ _ h

/-- Setting a field of a port, where the frame names its block. -/
theorem Change.WarpPort.setWpFld {f : RField} {x : Nat} (h : c.WarpPort p)
    (hf : f.reg ∈ [Reg.WP_PORT_STAT, .WP_PORT_CTL, .WP_PORT_ERR, .WP_PORT_FEC] := by decide) : Only c s (s.setWpFld f p x) :=
  Only.setWpFld (h _ hf)

/-! ## Negotiation and training (R284 to R287) -/

theorem warpNegotiateStart_completes (hp : p < 16) (hu : s.warpUp p = true) (he : s.wpFld fWP_PORT_CTL_TRAIN_EN p = 1)
    (hst : s.wpFld fWP_PORT_STAT_STATE p = 0) :
    Completes (.warpNegotiateStart p) s fun t =>
      t.wpFld fWP_PORT_STAT_STATE p = 1 ∧ t.reply = ⟨.ok, s.warpPages p⟩ ∧ Only ({ regs := theReg .WP_PORT_STAT (warpDie p) (p % 4), reply := true }) s t := by
  refine .of_unit rfl (by simpa [isWarpPort] using hp) ?_
  rw [if_pos ⟨hu, he, hst⟩]
  exact ⟨s.wpFld_setWpFld_fits p (by decide) (by decide), rfl,
    (Only.setWpFld (theReg_self _ _ _)).trans (Only.answer _ _ rfl)⟩

/-- Two ends share at most the three rates there are (R285). -/
theorem State.sharedRates_lt (s : State) (p rates : Nat) : s.sharedRates p rates < 8 := by
  have h : s.wpFld fWP_PORT_CTL_RATES p &&& rates % 8 < 8 := Nat.lt_of_le_of_lt Nat.and_le_right (Nat.mod_lt _ (by decide))
  unfold State.sharedRates
  dsimp only
  split
  · exact Nat.lt_of_le_of_lt Nat.and_le_left h
  · exact h

/-- The highest of a port's rates is one of them. -/
theorem two_pow_log2_lt {x : Nat} (h0 : x ≠ 0) (h8 : x < 8) : 2 ^ Nat.log2 x < 2 ^ 3 :=
  Nat.lt_of_le_of_lt (Nat.log2_self_le h0) h8

/-- What agreeing pages fix at a port, which then trains (R285). -/
def State.warpAgreed (s : State) (p rate lanes pkg port : Nat) : State :=
  let t := ((s.setWpFld fWP_PORT_STAT_RATE p rate).setWpFld fWP_PORT_STAT_PROTO p 1).setWpFld fWP_PORT_STAT_LANES_UP p lanes
  ((t.setWpFld fWP_PORT_STAT_PEER_PKG p pkg).setWpFld fWP_PORT_STAT_PEER_PORT p port).setWpFld fWP_PORT_STAT_STATE p 2

theorem State.warpAgreed_reads {rate lanes pkg port : Nat} (s : State) (hr : rate < 2 ^ 3) (hl : lanes < 2 ^ 8)
    (hpkg : pkg < 2 ^ 12) (hport : port < 2 ^ 4) :
    (s.warpAgreed p rate lanes pkg port).wpFld fWP_PORT_STAT_STATE p = 2 ∧
      (s.warpAgreed p rate lanes pkg port).wpFld fWP_PORT_STAT_RATE p = rate ∧
      (s.warpAgreed p rate lanes pkg port).wpFld fWP_PORT_STAT_LANES_UP p = lanes ∧
      (s.warpAgreed p rate lanes pkg port).wpFld fWP_PORT_STAT_PEER_PKG p = pkg ∧
      (s.warpAgreed p rate lanes pkg port).wpFld fWP_PORT_STAT_PEER_PORT p = port := by
  unfold State.warpAgreed
  refine ⟨State.wpFld_setWpFld_fits _ p (by decide) (by decide), ?_, ?_, ?_, ?_⟩
  · simp (disch := decide) only [State.wpFld_setWpFld_other]
    exact s.wpFld_setWpFld_fits p (by decide) hr
  · simp (disch := decide) only [State.wpFld_setWpFld_other]
    exact State.wpFld_setWpFld_fits _ p (by decide) hl
  · simp (disch := decide) only [State.wpFld_setWpFld_other]
    exact State.wpFld_setWpFld_fits _ p (by decide) hpkg
  · simp (disch := decide) only [State.wpFld_setWpFld_other]
    exact State.wpFld_setWpFld_fits _ p (by decide) hport

theorem Only.warpAgreed {rate lanes pkg port : Nat}
    (h : ∀ y, regHome .WP_PORT_STAT y = regHome .WP_PORT_STAT (warpDie p) → c.regs .WP_PORT_STAT y (p % 4) = true) :
    Only c s (s.warpAgreed p rate lanes pkg port) :=
  (((((Only.setWpFld h).trans (Only.setWpFld h)).trans (Only.setWpFld h)).trans (Only.setWpFld h)).trans
    (Only.setWpFld h)).trans (Only.setWpFld h)

theorem warpPagesExchanged_agree (rates versions peerPkg peerPort peerRetired : Nat) (hp : p < 16) (hu : s.warpUp p = true)
    (hst : s.wpFld fWP_PORT_STAT_STATE p = 1) (hr : s.sharedRates p rates ≠ 0) (hv : versions.testBit 1 = true)
    (hl : 4 ≤ popc8 (255 - ((s.wpFld fWP_PORT_STAT_RETIRED_LANES p ||| peerRetired) % 256))) (hpkg : peerPkg < 4096)
    (hport : peerPort < 16) :
    Completes (.warpPagesExchanged p rates versions peerPkg peerPort peerRetired) s fun t =>
      t.wpFld fWP_PORT_STAT_STATE p = 2 ∧ t.wpFld fWP_PORT_STAT_RATE p = 2 ^ Nat.log2 (s.sharedRates p rates) ∧ t.wpFld fWP_PORT_STAT_LANES_UP p = 255 - ((s.wpFld fWP_PORT_STAT_RETIRED_LANES p ||| peerRetired) % 256) ∧ t.wpFld fWP_PORT_STAT_PEER_PKG p = peerPkg ∧ t.wpFld fWP_PORT_STAT_PEER_PORT p = peerPort ∧ Only ({ regs := theReg .WP_PORT_STAT (warpDie p) (p % 4), lats := theLat .warpPeer p 0 }) s t := by
  refine .of_unit rfl (by simpa [isWarpPort] using hp) ?_
  rw [if_pos ⟨hu, hst⟩]
  dsimp only
  rw [if_neg (by simp [hr, hv]; omega)]
  obtain ⟨h1, h2, h3, h4, h5⟩ := (s.setLat .warpPeer p 0 (peerRetired % 256)).warpAgreed_reads (p := p)
    (two_pow_log2_lt hr (s.sharedRates_lt p rates))
    (by omega : 255 - ((s.wpFld fWP_PORT_STAT_RETIRED_LANES p ||| peerRetired) % 256) < 2 ^ 8) hpkg hport
  exact ⟨h1, h2, h3, h4, h5, (Only.setLat _ _ _ _ (theLat_self _ _ _)).trans (Only.warpAgreed (theReg_self _ _ _))⟩

theorem warpTrainingDone_holds (failed : Nat) (hp : p < 16) (hu : s.warpUp p = true) (hst : s.wpFld fWP_PORT_STAT_STATE p = 2)
    (hf : failed &&& s.wpFld fWP_PORT_STAT_LANES_UP p = 0) :
    Completes (.warpTrainingDone p failed) s fun t =>
      t.wpFld fWP_PORT_STAT_STATE p = 3 ∧ t.wpFld fWP_PORT_CTL_RETRAIN p = 0 ∧ t.lat .warpFails p 0 = 0 ∧ Only ({ regs := regsIn [.WP_PORT_STAT, .WP_PORT_CTL, .WP_PORT_ERR, .WP_PORT_FEC] (warpDie p) (p % 4), lats := theLat .warpFails p 0 }) s t := by
  refine .of_unit rfl (by simpa [isWarpPort] using hp) ?_
  rw [if_pos ⟨hu, hst⟩, hf]
  simp only [Nat.zero_testBit, List.filter_false]
  refine ⟨?_, State.wpFld_setWpFld_fits _ p (by decide) (by decide), State.lat_setLat_self _ _ _ _ _, ?_⟩
  · exact (State.wpFld_setWpFld_other (by decide) (s.setWpFld fWP_PORT_STAT_STATE p 3) p 0).trans
      (s.wpFld_setWpFld_fits p (by decide) (by decide))
  · exact ((Change.warpPort_regsIn rfl).1.setWpFld.trans (Change.warpPort_regsIn rfl).1.setWpFld).trans (Only.setLat _ _ _ _ (theLat_self _ _ _))

/-! ## ACTIVE and HELD (R288) -/

theorem warpEnterActive_enters (hp : p < 16) (hu : s.warpUp p = true) (hst : s.wpFld fWP_PORT_STAT_STATE p = 3)
    (he : s.wpFld fWP_PORT_CTL_ENABLE p = 1) (hpeer : s.wpFld fWP_PORT_STAT_PEER_PKG p ≠ s.pkg) :
    Completes (.warpEnterActive p) s fun t =>
      t.wpFld fWP_PORT_STAT_STATE p = 4 ∧ Only (Change.recording { regs := theReg .WP_PORT_STAT (warpDie p) (p % 4), lats := latsOf [.flowHold, .flowSince] }) s t := by
  refine .of_unit rfl (by simpa [isWarpPort] using hp) ?_
  rw [if_pos ⟨hu, hst, he⟩, if_neg hpeer]
  set a := s.setWpFld fWP_PORT_STAT_STATE p 4
  have h : Spares [.WP_PORT_STAT] [] a ((a.event 0x3206 .note (warpUnit p) 0).holdFlows s) :=
    (Spares.refl a).event.of_only (c := { lats := latsOf [.flowHold, .flowSince] })
      (Only.holdFlows s (fun _ => rfl) fun _ => rfl) (fun _ _ _ _ => rfl) (by simp)
  refine ⟨(h.wpFld p).trans (s.wpFld_setWpFld_fits p (by decide) (by decide)), ?_⟩
  exact ((Only.setWpFld (Change.theReg_recording rfl)).trans (Only.event _ _ _ _ (Change.records_recording _))).trans
    (Only.holdFlows s (fun _ => rfl) fun _ => rfl)

theorem warpLeaveActive_leaves (hp : p < 16) (hst : s.wpFld fWP_PORT_STAT_STATE p = 4)
    (he : s.wpFld fWP_PORT_CTL_ENABLE p = 0) :
    Completes (.warpLeaveActive p) s fun t =>
      t.wpFld fWP_PORT_STAT_STATE p = 3 ∧ Only ({ regs := theReg .WP_PORT_STAT (warpDie p) (p % 4), lats := latsOf [.flowHold, .flowSince] }) s t := by
  refine .of_unit rfl (by simpa [isWarpPort] using hp) ?_
  rw [if_pos ⟨hst, he⟩]
  set a := s.setWpFld fWP_PORT_STAT_STATE p 3
  have h : Spares [.WP_PORT_STAT] [] a (a.holdFlows s) :=
    (Spares.refl a).of_only (c := { lats := latsOf [.flowHold, .flowSince] })
      (Only.holdFlows s (fun _ => rfl) fun _ => rfl) (fun _ _ _ _ => rfl) (by simp)
  exact ⟨(h.wpFld p).trans (s.wpFld_setWpFld_fits p (by decide) (by decide)),
    (Only.setWpFld (theReg_self _ _ _)).trans (Only.holdFlows s (fun _ => rfl) fun _ => rfl)⟩

/-! ## Replays (R291) -/

/-- An acknowledgement of some of the flits that wait for one (R290). -/
theorem State.warpAck_advances {a : Nat} (h0 : (a + 4096 - s.lat .warpAcked p 0) % 4096 ≠ 0)
    (h : (a + 4096 - s.lat .warpAcked p 0) % 4096 < s.lat .warpUnacked p 0) :
    s.warpAck p a = ((s.setLat .warpAcked p 0 a).setLat .warpUnacked p 0
      (s.lat .warpUnacked p 0 - (a + 4096 - s.lat .warpAcked p 0) % 4096)).setLat .warpReplays p 0 0 := by
  unfold State.warpAck
  exact if_neg (by omega)

theorem warpNakReceive_replays (ackseq : Nat) (hp : p < 16) (hu : s.warpUp p = true) (hst : 3 ≤ s.wpFld fWP_PORT_STAT_STATE p)
    (h0 : (ackseq % 4096 + 4096 - s.lat .warpAcked p 0) % 4096 ≠ 0)
    (h : (ackseq % 4096 + 4096 - s.lat .warpAcked p 0) % 4096 < s.lat .warpUnacked p 0) :
    Completes (.warpNakReceive p ackseq) s fun t =>
      t.lat .warpAcked p 0 = ackseq % 4096 ∧ t.lat .warpUnacked p 0 = s.lat .warpUnacked p 0 - (ackseq % 4096 + 4096 - s.lat .warpAcked p 0) % 4096 ∧ t.lat .warpReplays p 0 = 1 ∧ t.wpFld fWP_PORT_ERR_REPLAYS p = min (s.wpFld fWP_PORT_ERR_REPLAYS p + 1) 65535 ∧ Only (Change.recording { regs := theReg .WP_PORT_ERR (warpDie p) (p % 4), lats := latsOf [.warpAcked, .warpUnacked, .warpReplays] }) s t := by
  refine .of_unit rfl (by simpa [isWarpPort] using hp) ?_
  rw [if_pos ⟨hst, hu⟩, State.warpNak, State.warpAck_advances h0 h]
  set n := (ackseq % 4096 + 4096 - s.lat .warpAcked p 0) % 4096
  set a := ((s.setLat .warpAcked p 0 (ackseq % 4096)).setLat .warpUnacked p 0 (s.lat .warpUnacked p 0 - n)).setLat .warpReplays p 0 0
  have hacked : a.lat .warpAcked p 0 = ackseq % 4096 :=
    ((State.lat_setLat_name _ (by decide) _ _ _ _ _).trans (State.lat_setLat_name _ (by decide) _ _ _ _ _)).trans
      (s.lat_setLat_self _ _ _ _)
  have hunacked : a.lat .warpUnacked p 0 = s.lat .warpUnacked p 0 - n :=
    (State.lat_setLat_name _ (by decide) _ _ _ _ _).trans (State.lat_setLat_self _ _ _ _ _)
  have hreplays : a.lat .warpReplays p 0 = 0 := State.lat_setLat_self _ _ _ _ _
  have hcount : a.wpFld fWP_PORT_ERR_REPLAYS p = s.wpFld fWP_PORT_ERR_REPLAYS p := rfl
  rw [if_neg (by rw [hunacked]; omega), hreplays]
  set b := (a.satWpFld fWP_PORT_ERR_REPLAYS p 1).setLat .warpReplays p 0 (0 + 1)
  have hab : Spares [] [.warpAcked, .warpUnacked] a (b.event 0x3201 .note (warpUnit p) 0) := (Spares.refl a).setFld.setLat.event
  have hb : Spares [.WP_PORT_ERR] [.warpReplays] b (b.event 0x3201 .note (warpUnit p) 0) := (Spares.refl b).event
  refine ⟨(hab.lat _ (by decide) _ _).trans hacked, (hab.lat _ (by decide) _ _).trans hunacked,
    (hb.lat _ (by decide) _ _).trans (State.lat_setLat_self _ _ _ _ _), (hb.wpFld _).trans ?_, ?_⟩
  · rw [← hcount]
    exact a.wpFld_satWpFld_self p 1 (by decide)
  · exact ((((((Only.setLat _ _ _ _ rfl).trans (Only.setLat _ _ _ _ rfl)).trans (Only.setLat _ _ _ _ rfl)).trans
      (Only.setFld _ _ _ _ (Change.theReg_recording rfl))).trans (Only.setLat _ _ _ _ rfl)).trans
        (Only.event _ _ _ _ (Change.records_recording _)))

/-! ## Retrains and DOWN (R292, R293) -/

/-- A port that retrains holds its flits and negotiates again. -/
def State.warpRetrained (s : State) (p : Nat) : State :=
  let t := ((s.setWpFld fWP_PORT_STAT_STATE p 1).satWpFld fWP_PORT_ERR_RETRAINS p 1).setWpFld fWP_PORT_CTL_RETRAIN p 1
  let t := (t.setWpFld fWP_PORT_STAT_LANES_UP p 0).setLat .warpReplays p 0 0
  (t.event 0x3202 .warn (warpUnit p) 0).holdFlows s

/-- What holding flows after a record spares. -/
theorem Spares.event_holdFlows {rs : List Reg} {ls : List Lat} {before : State} {code unit payload : Nat} {v : Sev}
    (h : Spares rs ls s t) (hr : ∀ r ∈ rs, r ∉ recorderRegs := by decide) (hl : ∀ l ∈ ls, l ∉ recorderLats := by decide)
    (h1 : .flowHold ∉ ls := by decide) (h2 : .flowSince ∉ ls := by decide) :
    Spares rs ls s ((t.event code v unit payload).holdFlows before) :=
  (h.event hr hl).each fun _ _ h => .ite h ((h.setLat h1).setLat h2)

/-- What an occurrence that is only counted spares. -/
theorem Spares.counted {rs : List Reg} {ls : List Lat} {u : State} (h : Spares rs ls s t)
    (k : Only (Change.recording { tallies := true }) t u) (hr : ∀ r ∈ rs, r ∉ recorderRegs := by decide)
    (hl : ∀ l ∈ ls, l ∉ recorderLats := by decide) : Spares rs ls s u :=
  h.of_only k (fun r m d i => by simp [Change.recording, orReg, regsOf, hr r m])
    (fun l m d i => by simp [Change.recording, orLat, latsOf, hl l m])

theorem State.warpRetrained_reads (s : State) (p : Nat) :
    (s.warpRetrained p).wpFld fWP_PORT_STAT_STATE p = 1 ∧ (s.warpRetrained p).wpFld fWP_PORT_CTL_RETRAIN p = 1 ∧
      (s.warpRetrained p).lat .warpReplays p 0 = 0 ∧
        (s.warpRetrained p).wpFld fWP_PORT_STAT_RETIRED_LANES p = s.wpFld fWP_PORT_STAT_RETIRED_LANES p := by
  unfold State.warpRetrained
  extract_lets a b
  have h : Spares [.WP_PORT_STAT, .WP_PORT_CTL] [.warpReplays] b ((b.event 0x3202 .warn (warpUnit p) 0).holdFlows s) :=
    (Spares.refl b).event_holdFlows
  have hb : ∀ f, b.wpFld f p = (a.setWpFld fWP_PORT_STAT_LANES_UP p 0).wpFld f p := fun f => rfl
  refine ⟨(h.wpFld p).trans ?_, (h.wpFld p).trans ?_, (h.lat _ (by decide) _ _).trans (State.lat_setLat_self _ _ _ _ _),
    (h.wpFld p).trans ?_⟩ <;> rw [hb] <;> simp (disch := decide) only [a, State.wpFld_setWpFld_other, State.wpFld_satWpFld_other]
  · exact s.wpFld_setWpFld_fits p (by decide) (by decide)
  · exact State.wpFld_setWpFld_fits _ p (by decide) (by decide)

theorem Only.warpRetrained (hc : c.WarpPort p) (hl : c.lats .warpReplays p 0 = true) (h1 : ∀ k, c.lats .flowHold k 0 = true)
    (h2 : ∀ k, c.lats .flowSince k 0 = true) (hr : c.Records) : Only c s (s.warpRetrained p) :=
  ((((((hc.setWpFld).trans (Only.setFld _ _ _ _ (hc _ (by decide)))).trans hc.setWpFld).trans hc.setWpFld).trans
    (Only.setLat _ _ _ _ hl)).trans (Only.event _ _ _ _ hr)).trans (Only.holdFlows _ h1 h2)

/-- The retrain's occurrence, where one more of class 0x0D is only counted. -/
theorem Only.occur_warpRetrained (hc : s.countsOnly 0x0D (warpUnit p) = true) (h : c.Records) (ht : c.tallies = true) :
    Only c (s.warpRetrained p) (s.warpRetrain State.occur p) := by
  have hr : Only (Change.recording { regs := regsIn [.WP_PORT_STAT, .WP_PORT_CTL, .WP_PORT_ERR, .WP_PORT_FEC] (warpDie p) (p % 4), lats := latsOf [.warpReplays, .flowHold, .flowSince] }) s (s.warpRetrained p) :=
    Only.warpRetrained (Change.warpPort_regsIn rfl).2 rfl (fun _ => rfl) (fun _ => rfl) (Change.records_recording _)
  exact Only.occur_of_countsOnly ((State.countsOnly_congr hr rfl (fun _ _ => rfl) rfl rfl).trans hc) h ht

theorem warpRetrain_completes (hp : p < 16) (hu : s.warpUp p = true) (hst : s.wpFld fWP_PORT_STAT_STATE p = 4)
    (hr : 8 ≤ s.lat .warpReplays p 0) (hc : s.countsOnly 0x0D (warpUnit p) = true) :
    Completes (.warpRetrain p) s fun t =>
      t.wpFld fWP_PORT_STAT_STATE p = 1 ∧ t.wpFld fWP_PORT_CTL_RETRAIN p = 1 ∧ t.lat .warpReplays p 0 = 0 ∧ Only (Change.recording { regs := regsIn [.WP_PORT_STAT, .WP_PORT_CTL, .WP_PORT_ERR, .WP_PORT_FEC] (warpDie p) (p % 4), lats := latsOf [.warpReplays, .flowHold, .flowSince], tallies := true }) s t := by
  refine .of_unit rfl (by simpa [isWarpPort] using hp) ?_
  dsimp only
  rw [if_pos ⟨hu, .inr hst, .inl hr⟩]
  have hocc : Spares [.WP_PORT_STAT, .WP_PORT_CTL] [.warpReplays] (s.warpRetrained p) (s.warpRetrain State.occur p) :=
    (Spares.refl _).counted (Only.occur_warpRetrained hc (Change.records_recording _) rfl)
  obtain ⟨hstate, hretrain, hreplays, -⟩ := s.warpRetrained_reads p
  refine ⟨(hocc.wpFld p).trans hstate, (hocc.wpFld p).trans hretrain, (hocc.lat _ (by decide) _ _).trans hreplays, ?_⟩
  exact (Only.warpRetrained (Change.warpPort_regsIn rfl).2 rfl (fun _ => rfl) (fun _ => rfl) (Change.records_recording _)).trans
    (Only.occur_warpRetrained hc (Change.records_recording _) rfl)

/-- A frame that drops a port's flits. -/
theorem Only.dropFlits (h1 : c.lats .warpUnacked p 0 = true) (h2 : c.lats .warpReplays p 0 = true)
    (h3 : c.lats .warpDrop p 0 = true) (h4 : ∀ vc, c.lats .warpCredit p vc = true) : Only c s (s.dropFlits p) :=
  (((Only.setLat _ _ _ _ h1).trans (Only.setLat _ _ _ _ h2)).trans (Only.setLat _ _ _ _ h3)).trans
    (Only.each _ _ (fun vc _ _ => Only.setLat _ _ _ _ (h4 vc)) _)

/-- What dropping a port's flits spares. -/
theorem Spares.dropFlits {rs : List Reg} {ls : List Lat} (h : Spares rs ls s t) (h1 : .warpUnacked ∉ ls := by decide)
    (h2 : .warpReplays ∉ ls := by decide) (h3 : .warpDrop ∉ ls := by decide) (h4 : .warpCredit ∉ ls := by decide) :
    Spares rs ls s (t.dropFlits p) :=
  (((h.setLat h1).setLat h2).setLat h3).each fun _ _ h => h.setLat h4

/-- No flit waits for its acknowledgement at a port that dropped them. -/
theorem State.unacked_dropFlits (s : State) (p : Nat) : (s.dropFlits p).lat .warpUnacked p 0 = 0 := by
  have h : Spares [] [.warpUnacked] (s.setLat .warpUnacked p 0 0) (s.dropFlits p) :=
    ((Spares.refl _).setLat.setLat).each fun _ _ h => h.setLat
  exact (h.lat _ (by decide) _ _).trans (s.lat_setLat_self _ _ _ _)

/-- A port whose third retrain failed: DOWN, what it kept discarded. -/
def State.warpDowned (s : State) (p : Nat) : State :=
  let t := ((((s.setWpFld fWP_PORT_STAT_STATE p 0).setWpFld fWP_PORT_STAT_LANES_UP p 0).setWpFld fWP_PORT_CTL_RETRAIN p
    0).dropFlits p).setLat .warpFails p 0 0
  (t.event 0x3204 .fault (warpUnit p) 0).holdFlows s

theorem State.warpPortDown_nil : s.warpPortDown p [] = (s.warpDowned p).occur 0x0E (warpUnit p) := rfl

theorem State.warpDowned_reads (s : State) (p : Nat) :
    (s.warpDowned p).wpFld fWP_PORT_STAT_STATE p = 0 ∧ (s.warpDowned p).wpFld fWP_PORT_STAT_LANES_UP p = 0 ∧
      (s.warpDowned p).lat .warpUnacked p 0 = 0 := by
  set a := (s.setWpFld fWP_PORT_STAT_STATE p 0).setWpFld fWP_PORT_STAT_LANES_UP p 0
  set b := (a.setWpFld fWP_PORT_CTL_RETRAIN p 0).dropFlits p
  have ha : Spares [.WP_PORT_STAT] [] a (s.warpDowned p) := (Spares.refl a).setFld.dropFlits.setLat.event_holdFlows
  have hb : Spares [] [.warpUnacked] b (s.warpDowned p) := (Spares.refl b).setLat.event_holdFlows
  refine ⟨(ha.wpFld p).trans ?_, (ha.wpFld p).trans ?_, (hb.lat _ (by decide) _ _).trans (State.unacked_dropFlits _ p)⟩
  · exact (State.wpFld_setWpFld_other (by decide) _ p 0).trans (s.wpFld_setWpFld_fits p (by decide) (by decide))
  · exact State.wpFld_setWpFld_fits _ p (by decide) (by decide)

theorem Only.warpDowned (hc : c.WarpPort p) (h1 : c.lats .warpUnacked p 0 = true) (h2 : c.lats .warpReplays p 0 = true)
    (h3 : c.lats .warpDrop p 0 = true) (h4 : ∀ vc, c.lats .warpCredit p vc = true) (h5 : c.lats .warpFails p 0 = true)
    (h6 : ∀ k, c.lats .flowHold k 0 = true) (h7 : ∀ k, c.lats .flowSince k 0 = true) (hr : c.Records) :
    Only c s (s.warpDowned p) :=
  ((((((hc.setWpFld).trans hc.setWpFld).trans hc.setWpFld).trans (Only.dropFlits h1 h2 h3 h4)).trans
    (Only.setLat _ _ _ _ h5)).trans (Only.event _ _ _ _ hr)).trans (Only.holdFlows _ h6 h7)

theorem warpPortDown_completes (silent : Nat) (hp : p < 16) (hu : s.warpUp p = true) (hst : s.wpFld fWP_PORT_STAT_STATE p = 2)
    (hr : s.retraining p = true) (hf : 3 ≤ s.lat .warpFails p 0 + silent) (hc : s.countsOnly 0x0E (warpUnit p) = true) :
    Completes (.warpPortDown p silent []) s fun t =>
      t.wpFld fWP_PORT_STAT_STATE p = 0 ∧ t.wpFld fWP_PORT_STAT_LANES_UP p = 0 ∧ t.lat .warpUnacked p 0 = 0 ∧ Only (Change.recording { regs := regsIn [.WP_PORT_STAT, .WP_PORT_CTL, .WP_PORT_ERR, .WP_PORT_FEC] (warpDie p) (p % 4), lats := latsOf [.warpReplays, .warpUnacked, .warpDrop, .warpCredit, .warpFails, .flowHold, .flowSince], tallies := true }) s t := by
  refine .of_unit rfl (by simpa [isWarpPort] using hp) ?_
  dsimp only
  rw [if_pos ⟨hu, .inr hst, hr, hf⟩, State.warpPortDown_nil]
  have hdown : ∀ b, Only (Change.recording { regs := regsIn [.WP_PORT_STAT, .WP_PORT_CTL, .WP_PORT_ERR, .WP_PORT_FEC] (warpDie p) (p % 4), lats := latsOf [.warpReplays, .warpUnacked, .warpDrop, .warpCredit, .warpFails, .flowHold, .flowSince], tallies := b }) s (s.warpDowned p) :=
    fun b => Only.warpDowned (Change.warpPort_regsIn rfl).2 rfl rfl rfl (fun _ => rfl) rfl (fun _ => rfl) (fun _ => rfl)
      (Change.records_recording _)
  have hcount : (s.warpDowned p).countsOnly 0x0E (warpUnit p) = true :=
    (State.countsOnly_congr (hdown false) rfl (fun _ _ => rfl) rfl rfl).trans hc
  have hocc : Spares [.WP_PORT_STAT] [.warpUnacked] (s.warpDowned p) ((s.warpDowned p).occur 0x0E (warpUnit p)) :=
    (Spares.refl _).counted (Only.occur_of_countsOnly hcount (Change.records_recording _) rfl)
  obtain ⟨hstate, hlanes, hunacked⟩ := s.warpDowned_reads p
  exact ⟨(hocc.wpFld p).trans hstate, (hocc.wpFld p).trans hlanes, (hocc.lat _ (by decide) _ _).trans hunacked,
    (hdown true).trans (Only.occur_of_countsOnly hcount (Change.records_recording _) rfl)⟩

/-! ## Retirement (R294, R295) -/

theorem State.stickyOf_setStickyOf_self (s : State) (d : Nat) (k : Sticky) : (s.setStickyOf d k).stickyOf d = k := by
  unfold State.setStickyOf State.stickyOf
  split <;> rfl

theorem State.stickyOf_setStickyOf_otherWarden (s : State) (k : Sticky) :
    (s.setStickyOf (otherWarden s.aw) k).stickyOf s.aw = s.stickyOf s.aw := by
  unfold otherWarden State.aw State.setStickyOf State.stickyOf
  split <;> simp

/-- A change of the sticky block shows in the active warden's. -/
theorem State.sticky_updSticky (s : State) (f : Sticky → Sticky) : (s.updSticky f).sticky = f s.sticky := by
  have haw : ∀ k, (s.setStickyOf s.aw k).aw = s.aw := fun k =>
    (Spares.refl (rs := [.WD_ROLE]) (ls := []) s).setStickyOf.aw
  have h : (s.updSticky f).aw = s.aw := (Spares.refl (rs := [.WD_ROLE]) (ls := []) s).updSticky.aw
  rw [State.sticky, h]
  unfold State.updSticky
  dsimp only
  split
  · have hother := (s.setStickyOf s.aw (f (s.stickyOf s.aw))).stickyOf_setStickyOf_otherWarden
      (f (s.stickyOf (otherWarden s.aw)))
    rw [haw] at hother
    exact hother.trans (s.stickyOf_setStickyOf_self _ _)
  · exact s.stickyOf_setStickyOf_self _ _

/-- What a unit that joins the retired ones spares. -/
theorem Spares.joinRetired {rs : List Reg} {ls : List Lat} {n : Nat} (h : Spares rs ls s t)
    (hr : .WD_RET_STAT ∉ rs := by decide) : Spares rs ls s (t.addRetired n) := .ite h (h.updSticky.setWfld hr)

/-- The count of the retired units leaves the sticky block alone. -/
theorem State.sticky_setWfld_retStat (s : State) (x : Nat) : (s.setWfld fWD_RET_STAT_RETIRED 0 x).sticky = s.sticky := by
  have h : (s.setWfld fWD_RET_STAT_RETIRED 0 x).aw = s.aw := (Spares.refl (rs := [.WD_ROLE]) (ls := []) s).setWfld.aw
  rw [State.sticky, h]
  unfold State.setWfld State.setWreg
  dsimp only
  split <;> rfl

/-- A unit joins the retired ones behind those that were; the tallies stand. -/
theorem State.sticky_addRetired (s : State) (n : Nat) :
    (s.addRetired n).sticky = if s.sticky.retired.contains n then s.sticky
      else { s.sticky with retired := s.sticky.retired ++ [n] } := by
  unfold State.addRetired
  split
  · rfl
  · exact (State.sticky_setWfld_retStat _ _).trans (s.sticky_updSticky _)

theorem State.isRetired_addRetired_self (s : State) (n : Nat) : (s.addRetired n).isRetired n = true := by
  rw [State.isRetired, State.sticky_addRetired]
  split
  · next h => rw [h, Bool.true_or]
  · simp

theorem State.isRetired_addRetired {n u : Nat} (h : s.isRetired u = true) : (s.addRetired n).isRetired u = true := by
  rw [State.isRetired, State.sticky_addRetired]
  split
  · exact h
  · simp only [State.isRetired, Bool.or_eq_true, Bool.and_eq_true, List.contains_iff_mem, List.mem_append] at h ⊢
    exact h.imp .inl fun hd => ⟨hd.1, .inl hd.2⟩

/-- An occurrence that is only counted still is when a unit has joined the retired ones. -/
theorem State.countsOnly_addRetired {n cls u : Nat} (h : s.countsOnly cls u = true) : (s.addRetired n).countsOnly cls u = true := by
  have hs : Spares [.WD_ROLE, .WD_FLT_THR] [] s (s.addRetired n) := (Spares.refl s).joinRetired
  have htally : (s.addRetired n).sticky.tallies = s.sticky.tallies := by
    rw [State.sticky_addRetired]
    split <;> rfl
  simp only [State.countsOnly, htally, hs.wfld (f := fWD_FLT_THR_COUNT) cls, hs.wfld (f := fWD_FLT_THR_ACTION) cls,
    Bool.or_eq_true] at h ⊢
  exact h.imp_left (Or.imp_left State.isRetired_addRetired)

/-- Retired units stand where neither they nor the roles change. -/
theorem State.isRetired_congr (h : Only c s t) (hrole : c.regs .WD_ROLE 63 0 = false) (hret : c.retired = false) (u : Nat) :
    t.isRetired u = s.isRetired u := by
  obtain ⟨hreg, -, -, -, -, -, -, -, hretired, -⟩ := h
  obtain ⟨ra, rb⟩ := hretired hret
  have haw : t.aw = s.aw := by rw [State.aw, State.flag_congr (hreg .WD_ROLE 63 0 hrole), State.aw]
  have hst : t.sticky.retired = s.sticky.retired := by
    unfold State.sticky State.stickyOf
    rw [haw]
    split
    · exact rb
    · exact ra
  simp only [State.isRetired, hst]

/-- A port that is retired: RETIRED, no lane up, the lanes it retired still shown. -/
theorem State.retirePort_reads (s : State) (p : Nat) :
    (s.retirePort p).wpFld fWP_PORT_STAT_STATE p = 5 ∧ (s.retirePort p).wpFld fWP_PORT_STAT_LANES_UP p = 0 ∧
      (s.retirePort p).wpFld fWP_PORT_STAT_RETIRED_LANES p = s.wpFld fWP_PORT_STAT_RETIRED_LANES p := by
  set a := (s.setWpFld fWP_PORT_STAT_STATE p 5).setWpFld fWP_PORT_STAT_LANES_UP p 0
  have h : Spares [.WP_PORT_STAT] [] a (s.retirePort p) := (Spares.refl a).dropFlits.event_holdFlows
  refine ⟨(h.wpFld p).trans ?_, (h.wpFld p).trans ?_, (h.wpFld p).trans ?_⟩
  · exact (State.wpFld_setWpFld_other (by decide) _ p 0).trans (s.wpFld_setWpFld_fits p (by decide) (by decide))
  · exact State.wpFld_setWpFld_fits _ p (by decide) (by decide)
  · exact (State.wpFld_setWpFld_other (by decide) _ p 0).trans (State.wpFld_setWpFld_other (by decide) s p 5)

/-- What the retirement of a port changes. -/
def retireFrameOf (p : Nat) : Change :=
  Change.recording { regs := regsIn [.WP_PORT_STAT, .WP_PORT_CTL, .WP_PORT_ERR, .WP_PORT_FEC] (warpDie p) (p % 4), lats := latsOf [.warpReplays, .warpUnacked, .warpDrop, .warpCredit, .flowHold, .flowSince] }

theorem Only.retirePort (s : State) (p : Nat) : Only (retireFrameOf p) s (s.retirePort p) :=
  (((((Change.warpPort_regsIn rfl).2.setWpFld).trans (Change.warpPort_regsIn rfl).2.setWpFld).trans
    (Only.dropFlits rfl rfl rfl fun _ => rfl)).trans (Only.event _ _ _ _ (Change.records_recording _))).trans
      (Only.holdFlows _ (fun _ => rfl) fun _ => rfl)

theorem warpPortRetire_completes (hp : p < 16) (hu : s.warpUp p = true) :
    Completes (.warpPortRetire p) s fun t =>
      t.wpFld fWP_PORT_STAT_STATE p = 5 ∧ t.wpFld fWP_PORT_STAT_LANES_UP p = 0 ∧ t.isRetired (warpUnit p) = true := by
  refine .of_unit rfl (by simpa [isWarpPort] using hp) ?_
  rw [if_pos hu]
  obtain ⟨hstate, hlanes, -⟩ := (s.addRetired (warpUnit p)).retirePort_reads p
  exact ⟨hstate, hlanes, (State.isRetired_congr (Only.retirePort _ p) rfl rfl _).trans (s.isRetired_addRetired_self _)⟩

/-- A retired lane is shown, whatever becomes of its port (R294). -/
theorem State.retireLane_shows {l : Nat} (hl : l < 8) (hc : s.countsOnly 0x0D (warpUnit p) = true) :
    ((s.retireLane State.occur p l).wpFld fWP_PORT_STAT_RETIRED_LANES p).testBit l = true := by
  unfold State.retireLane
  extract_lets m t
  have hm : m < 2 ^ 8 := Nat.or_lt_two_pow (getBits_lt _ _ _) (Nat.pow_lt_pow_right (by decide) hl)
  have hbit : m.testBit l = true := by simp [m, Nat.testBit_two_pow_self]
  set a := s.setWpFld fWP_PORT_STAT_RETIRED_LANES p m
  have hat : Spares [.WP_PORT_STAT] [] a t := (Spares.refl a).event
  have ht : t.wpFld fWP_PORT_STAT_RETIRED_LANES p = m := (hat.wpFld p).trans (s.wpFld_setWpFld_fits p (by decide) hm)
  have hst : Only (Change.recording { regs := theReg .WP_PORT_STAT (warpDie p) (p % 4) }) s t :=
    (Only.setWpFld (Change.theReg_recording rfl)).trans (Only.event _ _ _ _ (Change.records_recording _))
  have hct : t.countsOnly 0x0D (warpUnit p) = true := (State.countsOnly_congr hst rfl (fun _ _ => rfl) rfl rfl).trans hc
  split_ifs
  · have hr : Spares [.WP_PORT_STAT] [] t (t.addRetired (warpUnit p)) := (Spares.refl t).joinRetired
    obtain ⟨-, -, hlanes⟩ := (t.addRetired (warpUnit p)).retirePort_reads p
    rw [hlanes, hr.wpFld p, ht, hbit]
  · rw [ht, hbit]
  · have hocc : Spares [.WP_PORT_STAT] [] (t.warpRetrained p) (t.warpRetrain State.occur p) :=
      (Spares.refl _).counted (Only.occur_warpRetrained hct (Change.records_recording _) rfl)
    obtain ⟨-, -, -, hlanes⟩ := t.warpRetrained_reads p
    rw [hocc.wpFld p, hlanes, ht, hbit]

theorem warpLaneRetire_shows (l : Nat) (hp : p < 16) (hu : s.warpUp p = true) (hl : l < 8)
    (hr : (s.wpFld fWP_PORT_STAT_RETIRED_LANES p).testBit l = false) (hc : s.countsOnly 0x0D (warpUnit p) = true) :
    Completes (.warpLaneRetire p l) s fun t => (t.wpFld fWP_PORT_STAT_RETIRED_LANES p).testBit l = true := by
  refine .of_unit rfl (by simp [isWarpPort, hp, hl]) ?_
  rw [if_pos ⟨hu, hr⟩]
  exact State.retireLane_shows hl (State.countsOnly_addRetired hc)

end Sys2Proof.Machine
end

section
/-! PROOF. What an access from another package, or of the collective engine, leaves alone. `Stands s t` says that from `s`
to `t` every warp port expects the SEQ it did, no port begins to drop, and the collectives queued are those that were or
none (the queue goes with die 56). Such an access counts as of no host port and no warden (R268), so the rows of a register
that only those may write refuse it. An operation has one lemma, under its own name in the namespace `Stands`, so that a
proof reads as the operation's composition. -/

set_option Elab.async false

namespace Sys2Proof.Machine

/-- What a port expects stands, none begins to drop, and the queue of collectives stands or is gone. -/
structure Stands (s t : State) : Prop where
  expect : ∀ p, t.lat .warpExpect p 0 = s.lat .warpExpect p 0
  drop : ∀ p, s.lat .warpDrop p 0 = 0 → t.lat .warpDrop p 0 = 0
  coll : t.coll = s.coll ∨ t.coll = []

/-- A command that completes leaves it alone. -/
def OutStands (s : State) : Out → Prop
  | .next t => Stands s t
  | _ => True

/-- Where there is a state, it is left alone. -/
def OptStands (s : State) : Option State → Prop
  | some t => Stands s t
  | none => True

/-- The effect of a ply command's job leaves it alone. -/
def JobStands (s : State) (j : PlyJob) : Prop := ∀ t, Stands s t → Stands s (j.act t).1

/-- The rows a written value may spell leave it alone. -/
def RowsStand (s : State) (fs : List (State → Out)) : Prop := ∀ f ∈ fs, ∀ t, Stands s t → OutStands s (f t)

/-- A register's rows, where it has some, leave it alone. -/
def OptRowsStand (s : State) : Option (List (State → Out)) → Prop
  | some fs => RowsStand s fs
  | none => True

variable {s t u : State}

theorem RowsStand.nil : RowsStand s [] := fun _ h => absurd h List.not_mem_nil

theorem RowsStand.cons {f : State → Out} {fs : List (State → Out)} (hf : ∀ t, Stands s t → OutStands s (f t))
    (h : RowsStand s fs) : RowsStand s (f :: fs) := List.forall_mem_cons.mpr ⟨hf, h⟩

theorem RowsStand.one {f : State → Out} (hf : ∀ t, Stands s t → OutStands s (f t)) : RowsStand s [f] := .cons hf .nil

theorem OptRowsStand.one {f : State → Out} (hf : ∀ t, Stands s t → OutStands s (f t)) : OptRowsStand s (some [f]) :=
  RowsStand.one hf

theorem OptRowsStand.two {f g : State → Out} (hf : ∀ t, Stands s t → OutStands s (f t))
    (hg : ∀ t, Stands s t → OutStands s (g t)) : OptRowsStand s (some [f, g]) := RowsStand.cons hf (.one hg)

theorem OutStands.ite {p : Prop} {i : Decidable p} {a b : Out} (h : OutStands s a) (k : OutStands s b) :
    OutStands s (if p then a else b) := by
  split
  · exact h
  · exact k

theorem OutStands.unit {b : Bool} (h : Stands s t) : OutStands s (ifUnit b t) := .ite h trivial

theorem OptStands.getD {o : Option State} (h : OptStands s o) (k : Stands s t) : Stands s (o.getD t) := by
  cases o
  · exact k
  · exact h

theorem OptStands.ite {p : Prop} {i : Decidable p} {a b : Option State} (h : OptStands s a) (k : OptStands s b) :
    OptStands s (if p then a else b) := by
  split
  · exact h
  · exact k

namespace Stands

theorem refl (s : State) : Stands s s := ⟨fun _ => rfl, fun _ => id, .inl rfl⟩

/-- A record update of other fields than the latches and the collectives. -/
theorem record {regs mem spins plies stickyA stickyB sides retLog flash skeins losses mended flaws dma collGroups
    mesh plyRuns banks heat saved reply free pending} (h : Stands s t) :
    Stands s { t with
      regs := regs, mem := mem, spins := spins, plies := plies, stickyA := stickyA, stickyB := stickyB,
      sides := sides, retLog := retLog, flash := flash, skeins := skeins, losses := losses, mended := mended,
      flaws := flaws, dma := dma, collGroups := collGroups, mesh := mesh, plyRuns := plyRuns,
      banks := banks, heat := heat, saved := saved, reply := reply, free := free, pending := pending } :=
  ⟨h.expect, h.drop, h.coll⟩

/-- The queue of collectives goes. -/
theorem collGone {collGroups} (h : Stands s t) : Stands s { t with coll := [], collGroups := collGroups } :=
  ⟨h.expect, h.drop, .inr rfl⟩

theorem ite {p : Prop} {i : Decidable p} (h : Stands s t) (k : Stands s u) : Stands s (if p then t else u) := by
  split
  · exact h
  · exact k

theorem each {α : Type} {l : List α} {f : α → State → State} (h : Stands s t)
    (hf : ∀ x u, Stands s u → Stands s (f x u)) : Stands s (t.each l f) :=
  State.each_induct (Stands s) l f (fun x _ => hf x) h

/-- A fold leaves it alone in the state `p` finds in its accumulator when each of its steps does. -/
theorem foldl {α β : Type} (p : β → State) {l : List α} {f : β → α → β} {b : β} (h : Stands s (p b))
    (hf : ∀ b x, Stands s (p b) → Stands s (p (f b x))) : Stands s (p (l.foldl f b)) :=
  List.foldlRecOn (motive := fun b => Stands s (p b)) l f h fun b hb x _ => hf b x hb

/-! ## Registers, latches and bytes -/

theorem setBytes {a bs} (h : Stands s t) : Stands s (t.setBytes a bs) := h.record

theorem clearBytes {a n} (h : Stands s t) : Stands s (t.clearBytes a n) := h.record

theorem setReg {r d i v} (h : Stands s t) : Stands s (t.setReg r d i v) := h.record

theorem setFld {f d i x} (h : Stands s t) : Stands s (t.setFld f d i x) := h.setReg

theorem incFld {f d i n} (h : Stands s t) : Stands s (t.incFld f d i n) := h.setFld

theorem satFld {f d i n} (h : Stands s t) : Stands s (t.satFld f d i n) := h.setFld

theorem setWreg {r i v} (h : Stands s t) : Stands s (t.setWreg r i v) := .ite h.setReg.setReg h.setReg

theorem setWfld {f i x} (h : Stands s t) : Stands s (t.setWfld f i x) := h.setWreg

theorem satWfld {f i n} (h : Stands s t) : Stands s (t.satWfld f i n) := h.setWfld

theorem setLat {l d i v} (h : Stands s t) (hl : l ≠ .warpExpect ∧ l ≠ .warpDrop := by decide) :
    Stands s (t.setLat l d i v) where
  expect p := (t.lat_setLat_name hl.1.symm _ _ _ _ _).trans (h.expect p)
  drop p hp := (t.lat_setLat_name hl.2.symm _ _ _ _ _).trans (h.drop p hp)
  coll := h.coll

/-- A port that stops dropping. -/
theorem setLat_warpDrop {p} (h : Stands s t) : Stands s (t.setLat .warpDrop p 0 0) where
  expect q := (t.lat_setLat_name (by decide) _ _ _ _ _).trans (h.expect q)
  drop q hq := by
    by_cases e : q = p
    · rw [e]
      exact t.lat_setLat_self _ _ _ _
    · exact ((t.lat_setLat _ _ _ _ _ _ _).trans (if_neg fun k => e k.2.1)).trans (h.drop q hq)
  coll := h.coll

theorem resetLats {sel} (h : Stands s t) (he : ∀ d i, sel (latId .warpExpect) d i = false)
    (hd : ∀ d i, sel (latId .warpDrop) d i = false) : Stands s (t.resetLats sel) where
  expect p := (t.lat_resetLats_of_not_sel _ _ _ (he _ _)).trans (h.expect p)
  drop p hp := (t.lat_resetLats_of_not_sel _ _ _ (hd _ _)).trans (h.drop p hp)
  coll := h.coll

theorem ite_hw {w : Nat} (h : Stands s t) : Stands s (if Master.hw = .warden w then u else t) := by
  rw [if_neg (by simp)]
  exact h

/-! ## The recorder and the sticky block -/

theorem setStickyOf {d k} (h : Stands s t) : Stands s (t.setStickyOf d k) := .ite h.record h.record

theorem updSticky {f} (h : Stands s t) : Stands s (t.updSticky f) := .ite h.setStickyOf.setStickyOf h.setStickyOf

theorem dropWaits {d} (h : Stands s t) : Stands s (t.dropWaits d) := h.record

theorem raiseMsix {port vec} (h : Stands s t) : Stands s (t.raiseMsix port vec) := .ite h.setReg h.setLat

theorem setSide {k x} (h : Stands s t) : Stands s (t.setSide k x) := h.record

theorem hostDoorbell {pair bits} (h : Stands s t) : Stands s (t.hostDoorbell pair bits) :=
  .ite h.setSide.raiseMsix.raiseMsix h.setSide

theorem appendRecord {e r} (h : Stands s t) : Stands s (t.appendRecord e r) :=
  .ite h.satWfld (.ite h.updSticky.setLat.setWfld.setWfld.hostDoorbell h.updSticky.setLat.setWfld.setWfld)

theorem event {code sev unit payload} (h : Stands s t) : Stands s (t.event code sev unit payload) :=
  .ite h.setLat.setLat.satWfld.setLat h.setLat.setLat.appendRecord

theorem wevent {code sev u' payload} (h : Stands s t) : Stands s (t.wevent code sev u' payload) := h.event

theorem answer {st bs} (h : Stands s t) : Stands s (t.answer st bs) := h.record

/-! ## Spindles -/

theorem setSpFld {f sp x} (h : Stands s t) : Stands s (t.setSpFld f sp x) := h.setFld

theorem updSpin {sp f} (h : Stands s t) : Stands s (t.updSpin sp f) := h.record

theorem updMates {sp f} (h : Stands s t) : Stands s (t.updMates sp f) := h.each fun _ _ h => h.updSpin

theorem setMatesFld {f sp x} (h : Stands s t) : Stands s (t.setMatesFld f sp x) := h.each fun _ _ h => h.setSpFld

theorem notice {sp bits} (h : Stands s t) : Stands s (t.notice sp bits) := h.setFld

theorem writeEntries {p st} (h : Stands s t) : Stands s (t.writeEntries p st) :=
  h.each fun _ _ h => h.setReg.setReg.setSpFld

theorem halted {sp} (h : Stands s t) : Stands s (t.halted sp) :=
  h.each fun _ _ h => h.setSpFld.setSpFld.setSpFld.setSpFld.setLat

theorem passWord {sp pc'} (h : Stands s t) : Stands s (t.passWord sp pc') :=
  .setLat (h.each (fun _ _ h => h.setSpFld.incFld.updSpin.setLat))

theorem retire {sp pc'} (h : Stands s t) : Stands s (t.retire sp pc') := .ite h.passWord.halted h.passWord

theorem endWait {sp w pc hit} (h : Stands s t) : Stands s (t.endWait sp w pc hit) :=
  h.setSpFld.updMates.setMatesFld.retire

theorem testWait {sp} (h : Stands s t) : Stands s (t.testWait sp) := by
  unfold State.testWait
  refine .ite ?_ h
  split
  · split
    · exact h.endWait
    · exact h
  · exact h

theorem twinOn {d k} (h : Stands s t) : Stands s (t.twinOn d k) := .ite h h.setFld.setFld

theorem doorbell {sp bits} (h : Stands s t) : Stands s (t.doorbell sp bits) :=
  .ite h.event (.ite (.twinOn (.ite h.setSpFld.setLat h.setSpFld)) (.testWait (.ite h.setSpFld.setLat h.setSpFld)))

theorem flush {sp pc} (h : Stands s t) : Stands s (t.flush sp pc) := .setLat (h.each (fun _ _ h => h.setSpFld.updSpin))

theorem runOp {sp o} (h : Stands s t) : Stands s (t.runOp sp o) := by
  unfold State.runOp
  split
  · exact .ite h.setMatesFld h
  · exact .ite (h.each (fun _ _ h => h.setSpFld.setSpFld.setLat)) h
  · exact .ite h.setMatesFld h

theorem plyStop {p who} (h : Stands s t) : Stands s (t.plyStop p who) :=
  .writeEntries (.record (h.each (fun _ _ h => .ite h (.ite (.ite h.updSpin.setSpFld.setLat h.updSpin) h))))

/-! ## Flits and doorbells -/

theorem sendFlit {q vc} (h : Stands s t) : Stands s (t.sendFlit q vc) := h.setLat.setLat

theorem flitLeaves {pkg unit addr response late} (h : Stands s t) :
    Stands s (t.flitLeaves pkg unit addr response late) := by
  unfold State.flitLeaves
  split
  · exact h.sendFlit
  · exact h

theorem wardenDoorbell {d bits} (h : Stands s t) : Stands s (t.wardenDoorbell d bits) := h.updSticky

theorem ring {d u' tgt bits} (h : Stands s t) : OptStands s (t.ring d u' tgt bits) :=
  .ite (.ite h.flitLeaves trivial) (.ite h.wardenDoorbell (.ite trivial h.doorbell))

/-! ## Register writes -/

theorem putReg {r d i v} (h : Stands s t) : Stands s (t.putReg r d i v) := .ite h.setWreg h.setReg

theorem putFld {f d i x} (h : Stands s t) : Stands s (t.putFld f d i x) := h.putReg

theorem presenceRefused {d addr p} (h : Stands s t) : Stands s (t.presenceRefused d addr p) := h.event

theorem plainWrite {r d i v} (h : Stands s t) : Stands s (t.plainWrite r d i v) := by
  unfold State.plainWrite
  dsimp only
  split
  · exact h.putReg.presenceRefused
  · exact h.putReg

theorem wardenRefused {addr} (h : Stands s t) : Stands s (t.wardenRefused addr) := h.wevent

/-- No host port and no warden: the write is refused. -/
theorem guardedWrite {r d i f} (h : Stands s t) : Stands s (t.guardedWrite .hw r d i f) := h.wardenRefused

theorem resetRegs {sel keep} (h : Stands s t) : Stands s (t.resetRegs sel keep) := h.record

/-- A DIE reset clears no latch of a warp port. -/
theorem resetLats_die {d} (h : Stands s t) :
    Stands s (t.resetLats fun n e _ => e == d && dieLats.any fun l => latId l == n) :=
  h.resetLats (fun _ _ => by rw [(by decide : (dieLats.any fun l => latId l == latId .warpExpect) = false), Bool.and_false])
    fun _ _ => by rw [(by decide : (dieLats.any fun l => latId l == latId .warpDrop) = false), Bool.and_false]

/-- Nor does a warden's reset. -/
theorem resetLats_warden {w} (h : Stands s t) :
    Stands s (t.resetLats fun n d _ => d == w && wardenLats.any fun l => latId l == n) :=
  h.resetLats (fun _ _ => by rw [(by decide : (wardenLats.any fun l => latId l == latId .warpExpect) = false), Bool.and_false])
    fun _ _ => by rw [(by decide : (wardenLats.any fun l => latId l == latId .warpDrop) = false), Bool.and_false]

theorem powerWrite {r d i f} (h : Stands s t) : Stands s (t.powerWrite .hw r d i f) := h.wardenRefused

/-! ## Wardens -/

theorem putImage {w l} (h : Stands s t) : Stands s (t.putImage w l) := h.each fun _ _ h => h.setReg

theorem setTxData {w b bs} (h : Stands s t) : Stands s (t.setTxData w b bs) := h.each fun _ _ h => h.setReg

theorem txPending {w b} (h : Stands s t) : Stands s (t.txPending w b) := h.setFld.setFld.setLat.setLat.setLat

theorem sendOrw {ty dst payload retry life} (h : Stands s t) : Stands s (t.sendOrw ty dst payload retry life) := by
  unfold State.sendOrw
  dsimp only
  refine .ite ?_ h
  split
  · exact h
  · exact h.setReg.setReg.setTxData.txPending.setLat

theorem powerReport {result seq} (h : Stands s t) : Stands s (t.powerReport result seq) := h.sendOrw

theorem announce (h : Stands s t) : Stands s t.announce := h.sendOrw

theorem statusSend {forced} (h : Stands s t) : Stands s (t.statusSend forced) := h.record.sendOrw

theorem tbJoin {w} (h : Stands s t) : Stands s (t.tbJoin w) := .ite h.setFld.setFld.setFld h

theorem txLost {w} (h : Stands s t) : Stands s (t.txLost w) := h.setLat.each fun _ _ h => h.setFld.setLat.setLat.setLat

theorem tbRole {w o forced} (h : Stands s t) : Stands s (t.tbRole w o forced) := by
  unfold State.tbRole
  extract_lets a b c
  have ha : Stands s a := h.txLost.setFld.setFld
  have hb : Stands s b := .ite ha ha.setFld
  have hc : Stands s c := .ite hb.setFld.tbJoin hb
  exact hc.announce.powerReport.statusSend

theorem setVid {d k x} (h : Stands s t) : Stands s (t.setVid d k x) := .ite h.setFld.setFld h.setFld

theorem floorTwins (h : Stands s t) : Stands s t.floorTwins := h.each fun _ _ h => h.each (fun _ _ h => .ite h.setVid h)

theorem svOff {w c} (h : Stands s t) : Stands s (t.svOff w c) := by
  unfold State.svOff
  dsimp only
  split
  · exact h.setLat.setLat.setFld
  · exact h.setLat.setLat.setFld
  · exact h.setLat.setLat.setFld
  · exact h.setLat.setLat

theorem signalsEnd (h : Stands s t) : Stands s t.signalsEnd := h.each fun _ _ h => .ite h.putFld.event h

theorem loopsHeld {w} (h : Stands s t) : Stands s (t.loopsHeld w) := h.each fun _ _ h => .ite h.setLat h

theorem forcedFans {w} (h : Stands s t) : Stands s (t.forcedFans w) := h.each fun _ _ h => h.setFld.setFld.setLat.setLat

theorem forcedBegin {w} (h : Stands s t) : Stands s (t.forcedBegin w) :=
  h.floorTwins.forcedFans.signalsEnd.loopsHeld.each fun _ _ h => .ite h.setFld h.setFld.svOff

theorem rollbackAgain (h : Stands s t) : Stands s t.rollbackAgain := .ite (h.setWfld.each (fun _ _ h => h.setLat)) h

theorem takeover {w first} (h : Stands s t) (hf : ∀ u, Stands s u → Stands s (first u)) :
    Stands s (t.takeover w first) := by
  unfold State.takeover
  extract_lets stale a b c d
  have hc : Stands s c := (hf _ h.setFld.setFld.setFld.setFld.setFld).rollbackAgain.wevent
  have hd : Stands s d := .ite hc.wevent hc
  exact hd.forcedBegin.hostDoorbell.tbRole

theorem checkRoleWith {first} (h : Stands s t) (hfirst : ∀ u, Stands s u → Stands s (first u)) :
    Stands s (t.checkRoleWith first) :=
  .ite (h.takeover (hfirst)) (hfirst _ h)

theorem checkRole (h : Stands s t) : Stands s t.checkRole := h.checkRoleWith fun _ h => h

theorem resetSide {k} (h : Stands s t) : Stands s (t.resetSide k) :=
  .wevent (.ite h.setSide.setSide.raiseMsix.raiseMsix h.setSide.setSide)

theorem resetCdSide {d} (h : Stands s t) : Stands s (t.resetCdSide d) := h.updSticky.wevent

theorem cdDeliver {d} (h : Stands s t) : Stands s (t.cdDeliver d) := .ite h.doorbell h

theorem freeLocks {p} (h : Stands s t) : Stands s (t.freeLocks p) := h.each fun _ _ h => .ite h.setWfld.wevent h

theorem loadFirmware {w c} (h : Stands s t) : Stands s (t.loadFirmware w c) := h.setBytes.setLat

theorem retryFirmware {w before} (h : Stands s t) : Stands s (t.retryFirmware w before) := by
  unfold State.retryFirmware
  dsimp only
  split
  · exact h.setFld.setFld.loadFirmware.event
  · exact .ite h h.setLat

theorem loadTable {w n} (h : Stands s t) : Stands s (t.loadTable w n) := by
  unfold State.loadTable
  extract_lets c one a u1 u2 b d bs bad v1 v2 v3
  have ha : Stands s a := .ite h.event h
  have hu : Stands s u2 := (ha.each fun _ _ h => h.event).setFld.setFld
  have hd : Stands s d := .ite ha.setFld.setFld.setLat.loadFirmware ha.setFld.setFld
  have hv : Stands s v2 := hd.putImage.each fun _ _ h => h.event
  exact .ite (.ite hu.setLat hu) (.ite hd (setFld (.ite hv hv.setFld)))

theorem putStraps {w} (h : Stands s t) : Stands s (t.putStraps w) := h.setFld.setFld

theorem loadTables {w} (h : Stands s t) : Stands s (t.loadTables w) :=
  .setFld (h.resetRegs.each (fun _ _ h => h.loadTable))

theorem resetRan {k unit cause} (h : Stands s t) : Stands s (t.resetRan k unit cause) := h.setWfld.setWfld.wevent

theorem wdr {w cause} (h : Stands s t) : Stands s (t.wdr w cause) := by
  unfold State.wdr
  extract_lets a b c d e f g i j k l m n
  have he : Stands s e := h.setFld.setFld.setFld.resetRegs.dropWaits.resetLats_warden.setLat.clearBytes
  have hg : Stands s g := he.putStraps.loadTables.retryFirmware.setFld.setFld
  have hi : Stands s i := hg.each fun _ _ h => h.setFld
  have hj : Stands s j := hi.each fun _ _ h => h.setFld
  have hk : Stands s k := .ite hj.forcedBegin.setLat hj
  have hm : Stands s m := hk.resetSide.resetSide.checkRoleWith fun _ h => .ite h.event h
  exact hm.freeLocks.setLat.resetRan

/-! ## Banks -/

theorem setBnk {b cd wd hi lo x} (h : Stands s t) : Stands s (t.setBnk b cd wd hi lo x) := h.putFld

theorem setBnkBit {b lo} (h : Stands s t) : Stands s (t.setBnkBit b lo) := h.setBnk

theorem setBankReq {b x} (h : Stands s t) : Stands s (t.setBankReq b x) := h.setBnk

theorem setBankOwn {b x} (h : Stands s t) : Stands s (t.setBankOwn b x) := h.setBnk

theorem clearBank {b} (h : Stands s t) : Stands s (t.clearBank b) := h.clearBytes

theorem bankUsed {b} (h : Stands s t) : Stands s (t.bankUsed b) := by
  unfold State.bankUsed
  split
  · exact h.setLat
  · exact h

theorem bankTouch {b} (h : Stands s t) : Stands s (t.bankTouch b).2 := by
  unfold State.bankTouch
  extract_lets u
  have hu : Stands s u := by
    unfold u
    refine .ite h ?_
    split
    · exact h.setBankReq.setBnkBit.event
    · exact h.setBankReq.setBnkBit
  split
  · exact h
  · split
    · exact h.bankUsed
    · split
      · exact hu.bankUsed
      · exact hu.setBankOwn

theorem mtestRestore {b} (h : Stands s t) : Stands s (t.mtestRestore b) := h.setLat.putFld

theorem bankName {b off n} (h : Stands s t) : Stands s (t.bankName b off n) := by
  unfold State.bankName
  split
  · exact .ite h.mtestRestore h
  · exact h

theorem bankReach {b off n} (h : Stands s t) : Stands s (t.bankReach b off n).2 := h.bankName.bankTouch

theorem aliasWrite {mode a bs} (h : Stands s t) : Stands s (t.aliasWrite mode a bs) := h.setBytes

/-! ## Fragments and skeins -/

theorem setFlaw {a x} (h : Stands s t) : Stands s (t.setFlaw a x) := h.record

theorem mend {a n} (h : Stands s t) : Stands s (t.mend a n) := .ite h.record (h.record.each (fun _ _ h => h.record))

theorem setSkein {d l} (h : Stands s t) : Stands s (t.setSkein d l) := h.record

theorem skeinFull {d} (h : Stands s t) : Stands s (t.skeinFull d) := .ite h.setFld.setLat.event h.setFld

theorem skeinMark {d} (h : Stands s t) : Stands s (t.skeinMark d) :=
  have hm {d i v c f w p} : Stands s ((t.setLat .markSeen d i v).event c f w p) := h.setLat.event
  .ite (.ite (hm.ring.getD hm) hm) h

theorem skeinAppend {d handle place frag bytes} (h : Stands s t) : Stands s (t.skeinAppend d handle place frag bytes) :=
  h.setSkein.setLat.skeinMark

theorem rgnWrite {d k off bs} (h : Stands s t) : Stands s (t.rgnWrite d k off bs) := h.each fun _ _ h => h.setBytes.mend

theorem logOld {d k place frag bytes} (h : Stands s t) : Stands s (t.logOld d k place frag bytes) :=
  h.each fun _ _ h => h.skeinAppend

theorem logStall {d k n} (h : Stands s t) : Stands s (t.logStall d k n) := h.each fun _ _ h => .ite h h.skeinFull

theorem slots {d n3} (h : Stands s t) : Stands s (t.slots d n3) := h.setLat.setReg

theorem rebuilt {d n} (h : Stands s t) : Stands s (t.rebuilt d n) := h.setReg

theorem spendChange {d k r n log} (h : Stands s t) : Stands s (t.spendChange d k r n log) := h.each fun _ _ h => h.slots

theorem cxlDiscard {a} (h : Stands s t) : Stands s (t.cxlDiscard a) := .ite h.setLat.event h

/-! ## Losses -/

theorem noteLosses {before d ps opened} (h : Stands s t) : Stands s (t.noteLosses before d ps opened) := by
  unfold State.noteLosses
  extract_lets hits copies a b
  have ha : Stands s a := h.each fun _ _ h => by
    split
    · exact h.setLat
    · exact h
    · exact h.setFld
  have hb : Stands s b := ha.each fun _ _ h => .ite h h.setFld
  split
  · exact hb.event
  · exact hb

theorem retirePc {d p} (h : Stands s t) : Stands s (t.retirePc d p) := by
  unfold State.retirePc
  extract_lets others safe w a b c es e f g
  have hb : Stands s b := .ite h.setFld.incFld.setFld h.setFld.incFld
  have hf : Stands s f := hb.event.record.setLat
  have hg : Stands s g := .ite hf.setLat hf.setLat.event
  exact hg.noteLosses

theorem sourcesGone {before d} (h : Stands s t) : Stands s (t.sourcesGone before d) := .ite h h.record.noteLosses

theorem setLinkRetired {d l} (h : Stands s t) : Stands s (t.setLinkRetired d l) := h.setReg.setReg

theorem writeRoutes (h : Stands s t) : Stands s t.writeRoutes := h.each fun _ _ h => h.setLat

theorem reroute (h : Stands s t) : Stands s t.reroute := h.writeRoutes.each fun _ _ h => h.setLat

/-! ## Plies -/

theorem copyReplicated {a b} (h : Stands s t) : Stands s (t.copyReplicated a b) :=
  .setSpFld (.setSpFld (h.updSpin.each (fun _ _ h => h.setReg)))

theorem clearMortar {sp} (h : Stands s t) : Stands s (t.clearMortar sp) := h.updSpin

theorem freeEntry {m} (h : Stands s t) : Stands s (t.freeEntry m) := .ite h.setReg.setReg.setSpFld h

theorem noticeAt {m bits} (h : Stands s t) : Stands s (t.noticeAt m bits) := .ite h.notice h

theorem replacePly {p qs} (h : Stands s t) : Stands s (t.replacePly p qs) := h.record

theorem formPly {ms p} (h : Stands s t) : Stands s (t.formPly ms p) := by
  unfold State.formPly
  extract_lets q u
  have hu : Stands s u := by
    unfold u; split
    · exact h.each fun _ _ h => .clearMortar (.ite h.copyReplicated h)
    · exact h
  exact hu.record.writeEntries

theorem joinPlies {ps p} (h : Stands s t) : Stands s (t.joinPlies ps p) := by
  unfold State.joinPlies
  split
  · exact h
  · extract_lets n subs q u
    have hu : Stands s u := by
      refine h.each fun _ _ h => ?_
      split
      · exact .ite (.clearMortar (.ite h.copyReplicated h)) (.ite h.copyReplicated h)
      · exact h
    exact hu.record.writeEntries

theorem releaseEnrolment {p} (h : Stands s t) : Stands s (t.releaseEnrolment p) := by
  unfold State.releaseEnrolment
  split
  · split
    · exact h.setWreg.setWreg.wevent
    · exact h
  · exact h

theorem splitPly {p} (h : Stands s t) : Stands s (t.splitPly p) :=
  .noticeAt (h.releaseEnrolment.replacePly.each (fun _ _ h => h.writeEntries))

theorem dissolvePly {p} (h : Stands s t) : Stands s (t.dissolvePly p) :=
  .noticeAt (h.releaseEnrolment.replacePly.each (fun _ _ h => h.freeEntry))

theorem reformPly {p pairs} (h : Stands s t) : Stands s (t.reformPly p pairs) := by
  unfold State.reformPly
  extract_lets idx q survivor low src a b c d
  clear_value src
  have ha : Stands s a := h.each fun _ _ h => by
    split
    · exact h.freeEntry
    · exact h
  have hb : Stands s b := ha.each fun _ _ h => by
    refine .ite (.updSpin ?_) h
    split
    · exact .ite h.copyReplicated h
    · exact h
  have hc : Stands s c := by
    unfold c
    split
    · split
      · exact hb.setWfld.setWfld
      · exact hb
    · exact hb
  have hd : Stands s d := hc.replacePly.writeEntries
  exact .ite hd.noticeAt hd

theorem memberGone {m cause} (h : Stands s t) : Stands s (t.memberGone m cause) := by
  unfold State.memberGone
  split
  · exact h
  · exact .ite h (.ite h.replacePly.plyStop.noticeAt h.replacePly.plyStop.noticeAt.event)

theorem memberLost {sp cause} (h : Stands s t) : Stands s (t.memberLost sp cause) := h.memberGone

theorem jobForm {d v x} : JobStands s (t.jobForm d v x) := by
  unfold State.jobForm
  split
  · exact fun _ h => h
  · exact fun _ h => h.formPly

theorem jobJoin {d v x} : JobStands s (t.jobJoin d v x) := by
  unfold State.jobJoin
  split
  · exact fun _ h => h
  · exact fun _ h => h.joinPlies

theorem jobOn {d v codes act} (ha : ∀ p u, Stands s u → Stands s (act p u)) : JobStands s (t.jobOn d v codes act) := by
  unfold State.jobOn
  split
  · exact fun _ h => h
  · exact fun _ h => ha _ _ h

theorem jobSplit {d v} : JobStands s (t.jobSplit d v) := jobOn fun _ _ h => h.splitPly

theorem jobDissolve {d v} : JobStands s (t.jobDissolve d v) := jobOn fun _ _ h => h.dissolvePly

theorem jobRun {d v o} : JobStands s (t.jobRun d v o) := by
  refine jobOn fun _ _ h => ?_
  split
  · exact h.runOp
  · exact h

theorem jobReform {d v x} : JobStands s (t.jobReform d v x) := by
  unfold State.jobReform
  extract_lets home
  split
  · exact fun _ h => h
  · extract_lets p
    split
    · exact fun _ h => h.reformPly
    · exact fun _ h => h

theorem setEntryState {sp st} (h : Stands s t) : Stands s (t.setEntryState sp st) := h.setFld

theorem claim {sps} (h : Stands s t) : Stands s (t.claim sps) := h.each fun _ _ h => h.setEntryState

theorem unclaimAll {sps} (h : Stands s t) : Stands s (t.unclaimAll sps) := h.each fun _ _ h => .ite h.setEntryState h

theorem setPlyRun {d x} (h : Stands s t) : Stands s (t.setPlyRun d x) := h.record

theorem unclaim {d} (h : Stands s t) : Stands s (t.unclaim d) := by
  unfold State.unclaim
  split
  · exact h.unclaimAll.setPlyRun
  · exact h

theorem plyRefused {d} (h : Stands s t) : Stands s (t.plyRefused d) := h.setFld.event

theorem plyTaken {d v} (h : Stands s t) : Stands s (t.plyTaken d v) := h.setFld.setFld.setFld.setFld.setLat.record

theorem keepBell {d j c} (h : Stands s t) : Stands s (t.keepBell d j c) := by
  unfold State.keepBell
  split
  · exact .ite h.setLat.setLat.setLat h.setLat
  · exact h.setLat

theorem plyStart {d x j} (h : Stands s t) (hj : JobStands s j) : Stands s (t.plyStart d x j) := by
  unfold State.plyStart
  extract_lets c u v
  have hu : Stands s u := h.keepBell.setLat.setLat
  refine .ite hu ?_
  split
  · exact hu.claim.setPlyRun
  · exact (hj u hu).setLat

theorem plyCmdWrite {m d v job} (h : Stands s t) (hj : ∀ u x, JobStands s (job u x)) :
    Stands s (t.plyCmdWrite m d v job) :=
  .ite h.plyRefused (h.plyTaken.plyStart (hj _ _))

/-! ## Units that stop -/

theorem trigger {unit fails} (h : Stands s t) : Stands s (t.trigger unit fails) := .ite h (.ite h.setLat.setLat h.setLat)

theorem noteRunning {sp} (h : Stands s t) : Stands s (t.noteRunning sp) := by
  unfold State.noteRunning
  split
  · exact .ite h.setLat h
  · exact h

theorem loseSpindle {sp cause} (h : Stands s t) : Stands s (t.loseSpindle sp cause) := by
  unfold State.loseSpindle
  dsimp only
  split
  · exact h.noteRunning.memberLost.setWfld.trigger
  · exact h.noteRunning.memberLost

theorem clearSpLats {sp} (h : Stands s t) : Stands s (t.clearSpLats sp) :=
  State.each_induct (Stands s) spLats _ (fun l hl _ h =>
    h.setLat ((by decide : ∀ l ∈ spLats, l ≠ .warpExpect ∧ l ≠ .warpDrop) l hl)) h

theorem clearSpin {sp} (h : Stands s t) : Stands s (t.clearSpin sp) := h.record.clearSpLats

theorem freshSpindle {sp} (h : Stands s t) : Stands s (t.freshSpindle sp) := h.resetRegs.clearSpin.setSpFld

theorem banksOff {sp} (h : Stands s t) : Stands s (t.banksOff sp) := h.each fun _ _ h => h.setBankOwn.clearBank

theorem holdFlows {before} (h : Stands s t) : Stands s (t.holdFlows before) := h.each fun _ _ h => .ite h h.setLat.setLat

theorem quarryLoss {d} (h : Stands s t) : Stands s (t.quarryLoss d) :=
  .ite h (.trigger (h.setLat.setLat.setLat.each (fun _ _ h => h.sourcesGone)))

theorem loadDieT {d} (h : Stands s t) : Stands s (t.loadDieT d) := .ite (h.each (fun _ _ h => h.setReg)) h

theorem clearDieMem {d dark} (h : Stands s t) : Stands s (t.clearDieMem d dark) := h.clearBytes

theorem clearSlice {d} (h : Stands s t) : Stands s (t.clearSlice d) := h.clearBytes.record

theorem dieGone {d dark} (h : Stands s t) : Stands s (t.dieGone d dark) := by
  unfold State.dieGone
  extract_lets sps a b p q f v w x y
  have hb : Stands s b := .clearDieMem (.each (h.each fun _ _ h => h.loseSpindle) fun _ _ h => h.clearSpin)
  have hq : Stands s q := h.quarryLoss.setSkein
  have hf : Stands s f := h.freeLocks
  have hv : Stands s v := .ite hb.freeLocks.resetCdSide.dropWaits.unclaim
    (.ite (.ite hq.clearSlice hq) (.ite h.collGone (.ite hf.record h)))
  have hx : Stands s x := hv.resetLats_die.resetRegs
  have hy : Stands s y := .ite hx hx.loadDieT
  exact .ite hy.holdFlows hy

theorem railsOpen {d cause} (h : Stands s t) : Stands s (t.railsOpen d cause) :=
  .ite (.dieGone (.ite h.setFld.setWfld h.setFld.setWfld.setFld)) h

theorem isolate {d cause} (h : Stands s t) : Stands s (t.isolate d cause) := h.setFld.railsOpen

theorem railsClose {d} (h : Stands s t) : Stands s (t.railsClose d) :=
  .ite h (.ite h.setFld (.ite (.cdDeliver (.ite h.setFld.setFld.setWfld h.setFld.setFld.setWfld.setWfld)) (.ite
    h.setFld.setFld.setWfld h.setFld.setFld.setWfld.setWfld)))

theorem stopUnit {i} (h : Stands s t) : Stands s (t.stopUnit i) := .ite h.setLat.flush.halted h

theorem stopUnits (h : Stands s t) : Stands s t.stopUnits :=
  h.each fun _ _ h => .each (.ite h.stopUnit.setWfld h.stopUnit) (fun _ _ h => h.setLat)

theorem quiesce {d} (h : Stands s t) : Stands s (t.quiesce d) := h.setFld.setLat

theorem hold {code payload} (h : Stands s t) : Stands s (t.hold code payload) :=
  .wevent (.setLat (.setWfld (h.stopUnits.each (fun _ _ h => h.quiesce))))

theorem addRetired {u'} (h : Stands s t) : Stands s (t.addRetired u') := .ite h h.updSticky.setWfld

theorem logRetired {u' cls} (h : Stands s t) : Stands s (t.logRetired u' cls) := .ite h.record.setWfld h.wevent

theorem remap {d sp} (h : Stands s t) : Stands s (t.remap d sp) := by
  unfold State.remap
  dsimp only
  split
  · exact h.loseSpindle.twinOn.setSpFld.setSpFld.freshSpindle.banksOff.setReg.wevent
  · exact .ite h.loseSpindle.setLat.clearSpin.banksOff.freeLocks.setLat.event
      h.loseSpindle.setLat.clearSpin.banksOff.freeLocks

theorem retireSpindle {d ph} (h : Stands s t) : Stands s (t.retireSpindle d ph) := by
  unfold State.retireSpindle
  split
  · exact h.remap
  · exact h

theorem retireTwin {d k} (h : Stands s t) : Stands s (t.retireTwin d k) := by
  unfold State.retireTwin
  extract_lets a b u v w
  clear_value a b
  have hu : Stands s u := h.setFld.addRetired.addRetired
  have hv : Stands s v := by
    unfold v
    split
    · exact hu.remap
    · exact hu
  have hw : Stands s w := by
    unfold w
    split
    · exact hv.remap
    · exact hv
  exact hw.setFld.setFld.setFld

theorem retireDie {d} (h : Stands s t) : Stands s (t.retireDie d) := h.setLat.isolate.event

theorem retireLink {d l} (h : Stands s t) : Stands s (t.retireLink d l) := h.setLinkRetired.event.reroute

theorem retireStop {d} (h : Stands s t) : Stands s (t.retireStop d) :=
  .ite (h.setLat.event.reroute.each (fun _ _ h => h.loseSpindle)) (.ite h.setLat.event.reroute.quarryLoss
    h.setLat.event.reroute)

/-! ## Warp ports -/

theorem setWpFld {f p x} (h : Stands s t) : Stands s (t.setWpFld f p x) := h.setFld

theorem satWpFld {f p n} (h : Stands s t) : Stands s (t.satWpFld f p n) := h.satFld

theorem dropFlits {p} (h : Stands s t) : Stands s (t.dropFlits p) := h.setLat.setLat.setLat_warpDrop.each fun _ _ h => h.setLat

theorem retirePort {p} (h : Stands s t) : Stands s (t.retirePort p) := h.setWpFld.setWpFld.dropFlits.event.holdFlows

theorem warpRetrain {again p} (h : Stands s t) (hagain : ∀ u x1 x2, Stands s u → Stands s (again u x1 x2)) :
    Stands s (State.warpRetrain again t p) :=
  hagain _ _ _ h.setWpFld.satWpFld.setWpFld.setWpFld.setLat.event.holdFlows

theorem retireLane {again p l} (h : Stands s t) (hagain : ∀ u x1 x2, Stands s u → Stands s (again u x1 x2)) :
    Stands s (State.retireLane again t p l) :=
  .ite h.setWpFld.event.addRetired.retirePort (.ite h.setWpFld.event (h.setWpFld.event.warpRetrain (hagain)))

/-! ## Occurrences -/

theorem enact {again u'} (h : Stands s t) (ha : ∀ u x y, Stands s u → Stands s (again u x y)) :
    Stands s (State.enact again t u') := by
  unfold State.enact
  extract_lets d x
  refine .ite ?_ (.ite h.retireDie (.ite h.retireLink (.ite h.retireStop (.ite ?_ (.ite ?_ ?_)))))
  · exact .ite h.wdr.setLat.checkRole h
  · exact .ite h.retireSpindle (.ite h.retireTwin h)
  · exact .ite h.retirePc h
  · exact .ite (.ite h.retirePort (.ite (h.retireLane ha) h)) h

theorem retireUnit {again u' cls} (h : Stands s t) (hagain : ∀ u x1 x2, Stands s u → Stands s (again u x1 x2)) :
    Stands s (State.retireUnit again t u' cls) :=
  .ite h (.logRetired (h.addRetired.event.enact (hagain)))

theorem takeAction {again cls u'} (h : Stands s t) (hagain : ∀ u x1 x2, Stands s u → Stands s (again u x1 x2)) :
    Stands s (State.takeAction again t cls u') := by
  unfold State.takeAction
  split
  · exact h.event
  · exact h.retireUnit (hagain)
  · exact h.retireUnit (hagain)
  · exact h.hold
  · exact h

theorem occurN {n cls w} (h : Stands s t) : Stands s (t.occurN n cls w) := by
  induction n generalizing t cls w with
  | zero => exact h
  | succ n ih => exact .ite h (.ite (h.updSticky.takeAction fun _ _ _ h => ih h) h.updSticky)

theorem occur {cls u'} (h : Stands s t) : Stands s (t.occur cls u') := h.occurN

/-! ## Reads and writes of fragments -/

theorem fragCorrect {a} (h : Stands s t) : Stands s (t.fragCorrect a) := h.setFlaw.satFld.event.occur

theorem fragUncorrected {a rebuilt} (h : Stands s t) : Stands s (t.fragUncorrected a rebuilt) := h.satFld.event.occur

theorem fragRebuild {a h'} (h : Stands s t) : Stands s (t.fragRebuild a h') :=
  .ite h.slots.rebuilt (.ite h.slots.slots.setFlaw h.slots)

theorem noteRaw {a} (h : Stands s t) : Stands s (t.noteRaw a) := by
  unfold State.noteRaw
  refine .ite ?_ (.ite h.event h)
  refine .ite h ?_
  split
  · refine .ite ?_ h.slots
    split
    · exact h.fragRebuild
    · exact h.slots
  · exact h.fragCorrect.slots
  · split
    · exact h.fragUncorrected.fragRebuild
    · exact h.fragUncorrected.slots

theorem noteRead {a n} (h : Stands s t) : Stands s (t.noteRead a n) := by
  refine foldl (fun acc : Bool × State => acc.2) h fun acc x hx => ?_
  split
  · split
    · exact hx.noteRaw
    · exact hx
  · exact hx

theorem noteRgn {d k off n} (h : Stands s t) : Stands s (t.noteRgn d k off n) := by
  unfold State.noteRgn
  split
  · exact h.each (fun _ _ h => h.noteRaw)
  · exact h

theorem writeFree {a bs} (h : Stands s t) : Stands s (t.writeFree a bs).2 := by
  unfold State.writeFree
  split
  · split
    · exact h
    · exact h.setBytes.mend.slots
  · split
    · exact h.cxlDiscard
    · exact h.setBytes.mend

theorem writeRgn {d k off a bs} (h : Stands s t) : Stands s (t.writeRgn d k off a bs).2 := by
  unfold State.writeRgn
  extract_lets r f u n v
  have hu : Stands s u := .ite h.noteRgn h
  have hv : Stands s v := h.noteRgn.record
  split
  · exact h
  split
  · exact h.cxlDiscard
  split
  · dsimp only
    exact hu.rgnWrite.spendChange
  split
  · dsimp only
    exact hv.logOld.rgnWrite.spendChange
  · exact h.logStall

theorem writePiece {a bs} (h : Stands s t) : Stands s (t.writePiece a bs).2 := by
  unfold State.writePiece
  split
  · exact h
  · exact h.writeFree
  · exact h.writeRgn

/-! ## Quarries -/

theorem qdRefused {d} (h : Stands s t) : Stands s (t.qdRefused d) := h.event

theorem qdIgnored {d payload} (h : Stands s t) : Stands s (t.qdIgnored d payload) := h.event

theorem toDie {d f} (h : Stands s t) (hf : ∀ u, Stands s u → Stands s (f u)) : Stands s (t.toDie d f) :=
  .ite (hf _ h) h.answer

theorem qdWrite {m d f} (h : Stands s t) (hf : ∀ u, Stands s u → Stands s (f u)) : Stands s (t.qdWrite m d f) := by
  unfold State.qdWrite
  refine h.toDie (fun _ h => ?_)
  split
  · exact h.qdRefused
  · exact hf _ h

theorem execQdCarveWrite {m d v} (h : Stands s t) : OutStands s (execQdCarveWrite m d v t) :=
  .unit (h.qdWrite (fun _ h => .ite h.qdIgnored h.plainWrite.setFld))

theorem execQdCfgWrite {m d v} (h : Stands s t) : OutStands s (execQdCfgWrite m d v t) :=
  .unit (h.qdWrite (fun _ h => .ite h.qdIgnored h.plainWrite))

theorem execQdTenWrite {m d k v} (h : Stands s t) : OutStands s (execQdTenWrite m d k v t) :=
  .unit (h.qdWrite (fun _ h => .ite h.qdIgnored h.plainWrite))

theorem skeinCmd {m d op v f} (h : Stands s t) (hf : ∀ u, Stands s u → Stands s (f u)) :
    Stands s (t.skeinCmd m d op v f) :=
  h.toDie fun _ h => .ite (hf _ h) (.ite h (.ite (hf _ h.plainWrite) h.qdRefused))

theorem execSkeinQuiesce {m d v} (h : Stands s t) : OutStands s (execSkeinQuiesce m d v t) :=
  .unit (h.skeinCmd (fun _ h => .ite h h.setLat))

theorem skeinResume {d} (h : Stands s t) : Stands s (t.skeinResume d) := h.setFld.setLat.setLat

theorem execSkeinResume {m d v} (h : Stands s t) : OutStands s (execSkeinResume m d v t) :=
  .unit (h.skeinCmd (fun _ h => h.skeinResume))

theorem execSkeinRollback {m d v} (h : Stands s t) : OutStands s (execSkeinRollback m d v t) :=
  .unit (h.skeinCmd (fun _ h => .ite h.setLat h.qdRefused))

theorem skeinCommit {d e} (h : Stands s t) : Stands s (t.skeinCommit d e) := .ite h h.setSkein.setReg.setFld.setLat.setLat

theorem execSkeinCommit {m d v} (h : Stands s t) : OutStands s (execSkeinCommit m d v t) :=
  .unit (h.skeinCmd (fun _ h => h.skeinCommit))

/-! ## State views -/

theorem replicatedWrite {sp f} (h : Stands s t) (hf : ∀ x0 u, Stands s u → Stands s (f x0 u)) :
    Stands s (t.replicatedWrite sp f) :=
  .ite h.event (.ite (h.each (fun _ _ h => hf _ _ h)) (hf _ _ h))

theorem fmtNotice {sp k} (h : Stands s t) : Stands s (t.fmtNotice sp k) := .ite h.event (.ite h.event h)

theorem viewWrite {sp l v} (h : Stands s t) : Stands s (t.viewWrite sp l v) := by
  unfold State.viewWrite
  dsimp only
  split
  · exact .ite (.ite (h.replicatedWrite (fun _ _ h => h.updSpin)) h.updSpin) (.fmtNotice (.ite (h.replicatedWrite (fun
      _ _ h => h.updSpin)) h.updSpin))
  · exact .ite (h.replicatedWrite (fun _ _ h => h.updSpin)) h.updSpin

/-! ## Movers -/

theorem moveBank {b off n} (h : Stands s t) : Stands s (t.moveBank b off n).2 := by
  have hr : Stands s (t.bankReach b off n).2 := h.bankReach
  unfold State.moveBank
  split
  · next e => rw [e] at hr; exact hr
  · next e => rw [e] at hr; exact hr
  · next e => rw [e] at hr; exact hr

theorem movePiece {a n} (h : Stands s t) : Stands s (t.movePiece a n).2.2 := by
  unfold State.movePiece
  split
  · exact h.noteRead
  · exact h.noteRead
  · split
    · dsimp only
      split
      · exact h.moveBank
      · exact h.moveBank
    · exact h
  · split
    · exact h
    · exact h
  · dsimp only
    split
    · exact h.moveBank
    · exact h.moveBank
  · split
    · exact h
    · exact h
  · split
    · exact h
    · exact h
  · exact h

theorem readEach {l f} (h : Stands s t) (hf : ∀ u a n, Stands s u → Stands s (f u a n).2.2) :
    Stands s (t.readEach l f).2.2 := by
  refine foldl (fun acc : Status × List Byte × State => acc.2.2) h fun acc x hx => ?_
  dsimp only
  split
  · exact hx
  · exact hf _ _ _ hx

theorem writeEach {a bs l f} (h : Stands s t) (hf : ∀ u a b, Stands s u → Stands s (f u a b).2) :
    Stands s (t.writeEach a bs l f).2 := by
  refine foldl (fun acc : Status × State => acc.2) h fun acc x hx => ?_
  split
  · exact hx
  · exact hf _ _ _ hx

theorem putPiece {a bs} (h : Stands s t) : Stands s (t.putPiece a bs).2 := by
  unfold State.putPiece
  split
  · exact h.writePiece
  · exact h.writePiece
  · split
    · dsimp only
      split
      · exact h.moveBank.aliasWrite
      · exact h.moveBank
    · exact h
  · split
    · exact h.setBytes
    · exact h
  · dsimp only
    split
    · exact h.moveBank.aliasWrite
    · exact h.moveBank
  · exact h
  · exact h
  · exact h

/-! ## Ports -/

theorem setDmaFld {f port c x} (h : Stands s t) : Stands s (t.setDmaFld f port c x) := h.setFld

theorem linkChange {before port} (h : Stands s t) : Stands s (t.linkChange before port) := .ite h h.raiseMsix

theorem portRefused {d} (h : Stands s t) : Stands s (t.portRefused d) := h.event

theorem portWrite {d f} (h : Stands s t) : Stands s (t.portWrite .hw d f) := h.toDie fun _ h => h.portRefused

/-! ## Ply commands -/

theorem plyRow {m d op v job} (h : Stands s t) (hj : ∀ u x, JobStands s (job u x)) :
    OutStands s (plyRow m d op v t job) :=
  .unit (.ite (h.plyCmdWrite hj) h)

theorem execPlyForm {m d v} (h : Stands s t) : OutStands s (execPlyForm m d v t) := h.plyRow fun _ _ => jobForm

theorem execPlyJoin {m d v} (h : Stands s t) : OutStands s (execPlyJoin m d v t) := h.plyRow fun _ _ => jobJoin

theorem execPlySplit {m d v} (h : Stands s t) : OutStands s (execPlySplit m d v t) := h.plyRow fun _ _ => jobSplit

theorem execPlyDissolve {m d v} (h : Stands s t) :
    OutStands s (execPlyDissolve m d v t) := h.plyRow fun _ _ => jobDissolve

theorem execPlyRun {m d v} (h : Stands s t) : OutStands s (execPlyRun m d v t) := h.plyRow fun _ _ => jobRun

theorem execPlyHalt {m d v} (h : Stands s t) : OutStands s (execPlyHalt m d v t) := h.plyRow fun _ _ => jobRun

theorem execPlyStep {m d v} (h : Stands s t) : OutStands s (execPlyStep m d v t) := h.plyRow fun _ _ => jobRun

theorem execPlyReform {m d v} (h : Stands s t) : OutStands s (execPlyReform m d v t) := h.plyRow fun _ _ => jobReform

theorem execPlyBadCommand {m d v} (h : Stands s t) : OutStands s (execPlyBadCommand m d v t) :=
  .unit (.ite (h.plyCmdWrite fun _ _ _ k => k) h)

theorem faultWrite {f} (h : Stands s t) : Stands s (t.faultWrite .hw f) := h.wevent

theorem dmaCtlWrite {port c v} (h : Stands s t) : Stands s (t.dmaCtlWrite port c v) :=
  .ite (.ite (.setDmaFld (.ite h.setDmaFld.setDmaFld h.setDmaFld)) (.event (.setDmaFld (.ite h.setDmaFld.setDmaFld
    h.setDmaFld)))) (.setDmaFld (.ite h.setDmaFld.setDmaFld h.setDmaFld))

theorem execHostDmaEnable {port c v} (h : Stands s t) : OutStands s (execHostDmaEnable port c v t) :=
  .unit (.ite (h.toDie (fun _ h => h.dmaCtlWrite)) h)

theorem execHostDmaDisable {port c v} (h : Stands s t) : OutStands s (execHostDmaDisable port c v t) :=
  .unit (.ite h (h.toDie (fun _ h => h.dmaCtlWrite)))

theorem execHostDmaHeadWrite {port c v} (h : Stands s t) : OutStands s (execHostDmaHeadWrite port c v t) :=
  .unit (h.toDie (fun _ h => h.setDmaFld))

theorem execHiPkgNumWrite {port v} (h : Stands s t) : OutStands s (execHiPkgNumWrite port v t) :=
  .unit (h.toDie (fun _ h => .ite h.event h.setFld))

theorem execHiBar2BaseWrite {port v} (h : Stands s t) : OutStands s (execHiBar2BaseWrite port v t) :=
  .unit (h.toDie (fun _ h => h.setReg))

/-! ## Mailboxes -/

theorem setMbSide {pair low x} (h : Stands s t) : Stands s (t.setMbSide pair low x) := .ite h.setSide h.updSticky

theorem wakeDie {d} (h : Stands s t) : Stands s (t.wakeDie d) := .ite h (.ite h.setLat.railsClose.twinOn h.setLat)

theorem mbBell {pair low bits} (h : Stands s t) : Stands s (t.mbBell pair low bits) :=
  .ite h.hostDoorbell (.ite (.ite (.ite h.setMbSide.cdDeliver h.setMbSide) (.wakeDie (.ite h.setMbSide.cdDeliver
    h.setMbSide))) h.setMbSide)

theorem mbRefuse {pair low} (h : Stands s t) : Stands s (t.mbRefuse pair low) := h.setMbSide.wevent

theorem mbEndWait {pair low w} (h : Stands s t) : Stands s (t.mbEndWait pair low w) := h.setMbSide.mbBell

theorem mbCross {pair} (h : Stands s t) : Stands s (t.mbCross pair) := .ite h.mbEndWait.wevent h

theorem mbPost {pair low wait} (h : Stands s t) : Stands s (t.mbPost pair low wait) :=
  .ite h.setMbSide.mbBell h.setMbSide.mbBell.mbCross

theorem mbAck {pair low r} (h : Stands s t) : Stands s (t.mbAck pair low r) := .ite h.setMbSide.mbBell h.mbRefuse

theorem mbReset {pair low} (h : Stands s t) : Stands s (t.mbReset pair low) := .ite h.resetSide (.ite h.resetCdSide h)

theorem mbCommand {m pair low f} (h : Stands s t) (hf : ∀ u, Stands s u → Stands s (f u)) :
    OutStands s (mbCommand m pair low t f) :=
  .unit (.ite h.wevent (.ite (h.toDie (hf)) (hf _ h)))

theorem execMbOutWrite {m pair low off data} (h : Stands s t) : OutStands s (execMbOutWrite m pair low off data t) :=
  h.mbCommand fun _ h => .ite h (.ite h.mbRefuse h.setMbSide)

theorem execMbPost {m pair low} (h : Stands s t) : OutStands s (execMbPost m pair low t) :=
  h.mbCommand fun _ h => .ite h.mbPost h.mbRefuse

theorem execMbWait {m pair low} (h : Stands s t) : OutStands s (execMbWait m pair low t) :=
  h.mbCommand fun _ h => .ite h.setMbSide.mbCross h

theorem execMbPostWait {m pair low} (h : Stands s t) : OutStands s (execMbPostWait m pair low t) :=
  h.mbCommand fun _ h => .ite h.mbPost h.mbRefuse

theorem execMbResetIn {m pair low} (h : Stands s t) : OutStands s (execMbResetIn m pair low t) :=
  h.mbCommand fun _ h => h.mbReset

theorem execMbAck {m pair low x} (h : Stands s t) : OutStands s (execMbAck m pair low x t) :=
  h.mbCommand fun _ h => h.mbAck

theorem execMbDbOutWrite {m pair low x} (h : Stands s t) : OutStands s (execMbDbOutWrite m pair low x t) :=
  h.mbCommand fun _ h => h.mbBell

/-! ## Tray controllers -/

theorem tbEvent {w code sev payload} (h : Stands s t) : Stands s (t.tbEvent w code sev payload) := h.event

theorem tbRefused {w addr} (h : Stands s t) : Stands s (t.tbRefused w addr) := h.tbEvent

theorem tbWrite {w addr f} (h : Stands s t) : Stands s (t.tbWrite .hw w addr f) := h.tbRefused

theorem tbOwn {w addr f} (h : Stands s t) : Stands s (t.tbOwn .hw w addr f) := by
  unfold State.tbOwn
  rw [if_neg (by simp)]
  exact h.tbRefused

theorem timerTest {sp} (h : Stands s t) : Stands s (t.timerTest sp) := .ite h.setSpFld h

theorem ctlRequest {sp run halt step} (h : Stands s t) : Stands s (t.ctlRequest sp run halt step) :=
  .ite h.runOp (.ite h (.ite h.runOp (.ite h.runOp h)))

theorem ctlWrite {m sp f} (h : Stands s t) (hf : ∀ u, Stands s u → Stands s (f u)) : Stands s (t.ctlWrite m sp f) :=
  .ite h (.ite h.event (hf _ h))

theorem dbSetWrite {sp v} (h : Stands s t) : Stands s (t.dbSetWrite sp v) := .ite h.doorbell h

/-! ## Reads of registers -/

/-- A receive buffer shows only its own warden something. -/
theorem execRxBufferRead {w b off} (h : Stands s t) : OutStands s (execRxBufferRead .hw w b off t) := by
  unfold Machine.execRxBufferRead
  refine .unit ?_
  dsimp only
  rw [if_pos (by simp)]
  exact h.answer

theorem readWhole {r d i} (h : Stands s t) : Stands s (t.readWhole .hw r d i).2 := by
  unfold State.readWhole
  split
  · exact h
  split
  · exact h
  split
  · next x _ =>
    have hu : OutStands s (Machine.execRxBufferRead .hw (d - 62) x.1 x.2 t) := h.execRxBufferRead
    split
    · next e =>
      rw [e] at hu
      exact record hu
    · exact h
  · exact .ite h h.putReg

theorem readReg {r d i b size} (h : Stands s t) : Stands s (t.readReg .hw r d i b size).2 := by
  unfold State.readReg
  dsimp only
  split
  · exact h.readWhole
  · split
    · exact h.readWhole.setLat
    · split
      · split
        · exact .ite h h.putReg
        · exact h.setLat
      · exact h

theorem readMailbox {m pair low here off size} (h : Stands s t) :
    Stands s (t.readMailbox m pair low here off size).2 := by
  unfold State.readMailbox
  split
  · exact h.wevent
  · exact h

theorem readSite {x size} (h : Stands s t) : Stands s (t.readSite .hw x size).2 := by
  unfold State.readSite
  split
  · exact h.readReg
  · exact h
  · exact h.readMailbox
  · exact h

theorem viewHalf {sp off} (h : Stands s t) : Stands s (t.viewHalf sp off).2 := by
  unfold State.viewHalf
  dsimp only
  split
  · exact h.setLat
  · split
    · exact h
    · exact h.setLat

theorem viewRead {sp off size} (h : Stands s t) : Stands s (t.viewRead sp off size).2 := by
  unfold State.viewRead
  split
  · split
    · exact h
    · split
      · exact h.viewHalf
      · exact h
  · exact h.event

theorem viewPut {sp off size v} (h : Stands s t) : Stands s (t.viewPut sp off size v) :=
  .ite (.ite h.viewWrite h) (.ite h.event.event h.event)

theorem readWindow {l size} (h : Stands s t) : Stands s (t.readWindow .hw l size).2.2 := by
  unfold State.readWindow
  split
  · split
    · exact h.viewRead
    · exact h
  · split
    · exact h.readSite
    · exact h
  · exact h

/-! ## Rows of a register -/

theorem ranState {f : State → Out} (h : Stands s t) (hf : OutStands s (f t)) : Stands s (ranState f t) := by
  unfold Machine.ranState
  split
  · next e => rw [e] at hf; exact hf
  · exact h

theorem ranAll {fs} (h : Stands s t) (hf : RowsStand s fs) : Stands s (ranAll fs t) :=
  List.foldlRecOn (motive := Stands s) fs _ h fun _ hu f k => hu.ranState (hf f k _ hu)

theorem plyCmdRows {m d v} : RowsStand s (plyCmdRows m d v) := by
  unfold Machine.plyCmdRows
  split
  · exact .one fun _ h => h.execPlyForm
  · exact .one fun _ h => h.execPlyJoin
  · exact .one fun _ h => h.execPlySplit
  · exact .one fun _ h => h.execPlyDissolve
  · exact .one fun _ h => h.execPlyRun
  · exact .one fun _ h => h.execPlyHalt
  · exact .one fun _ h => h.execPlyStep
  · exact .one fun _ h => h.execPlyReform
  · exact .one fun _ h => h.execPlyBadCommand

theorem rgnCmd {d v f} (h : Stands s t) : Stands s (t.rgnCmd .hw d v f) :=
  h.toDie fun u h => by
    rw [if_pos (by simp [State.hostOrActive, State.isActive])]
    exact h.setFld.qdRefused

theorem rgnCmdRows {d v} : RowsStand s (rgnCmdRows .hw d v) :=
  .cons (fun _ h => .unit (.ite h.rgnCmd h)) <| .cons (fun _ h => .unit (.ite h.rgnCmd h)) <|
    .one fun _ h => .unit (.ite h.rgnCmd h)

theorem skeinCmdRows {m d v} : RowsStand s (skeinCmdRows m d v) :=
  .cons (fun _ h => h.execSkeinQuiesce) <| .cons (fun _ h => h.execSkeinResume) <|
    .cons (fun _ h => h.execSkeinRollback) <| .one fun _ h => h.execSkeinCommit

theorem epCmd {op v held codes act} (h : Stands s t) : Stands s (t.epCmd .hw op v held codes act) := .ite h h.faultWrite

theorem epCmdRows {v} : RowsStand s (epCmdRows .hw v) :=
  .cons (fun _ h => h.epCmd) <| .cons (fun _ h => h.epCmd) <| .cons (fun _ h => h.epCmd) <|
    .cons (fun _ h => h.epCmd) <| .cons (fun _ h => h.epCmd) <| .one fun _ h => ite h.epCmd h

theorem collPost {v} (h : Stands s t) : Stands s (t.collPost .hw v) := h.toDie fun _ h => h.portRefused

theorem execColrepProgram {w v} (h : Stands s t) : OutStands s (execColrepProgram .hw w v t) := .unit h.wardenRefused

theorem execWatchdogKick {w v} (h : Stands s t) : OutStands s (execWatchdogKick .hw w v t) := by
  unfold Machine.execWatchdogKick
  refine .unit ?_
  rw [if_pos (.inl (by simp))]
  exact h

theorem txCmdRows {d i : Nat} {v : W64} : RowsStand s ((if bitOf v 0 then [execTxRequest .hw (d - 62) i] else []) ++
    if bitOf v 1 then [execTxAbort .hw (d - 62) i] else []) := by
  refine fun f hf t h => ?_
  rcases List.mem_append.mp hf with hf | hf
  · split at hf
    · rw [List.mem_singleton.mp hf]
      exact .unit h.tbOwn
    · exact absurd hf List.not_mem_nil
  · split at hf
    · rw [List.mem_singleton.mp hf]
      exact .unit h.tbOwn
    · exact absurd hf List.not_mem_nil

/-- A register's rows: the spindles', the quarries' and the host ports' are written, the others refused. -/
theorem writeRows {r d i v} : OptRowsStand s (writeRows .hw r d i v) := by
  unfold Machine.writeRows
  split
  · exact .one fun _ h => .unit h.wardenRefused
  · exact .one fun _ h => .unit h.wardenRefused
  · exact .one fun _ h => .unit h.wardenRefused
  · exact plyCmdRows
  · exact .one fun _ h => h.execQdCfgWrite
  · exact .one fun _ h => h.execQdCarveWrite
  · exact .one fun _ h => h.execQdTenWrite
  · exact rgnCmdRows
  · exact skeinCmdRows
  · exact .one fun _ h => .unit (h.toDie fun _ h => h.event)
  · exact .one fun _ h => .unit (ite_hw h.event)
  · exact .one fun _ h => h.execColrepProgram
  · exact .one fun _ h => h.execHiBar2BaseWrite
  · exact .one fun _ h => h.execHiPkgNumWrite
  · exact .two (fun _ h => h.execHostDmaEnable) fun _ h => h.execHostDmaDisable
  · exact .one fun _ h => h.execHostDmaHeadWrite
  · exact .one fun _ h => .unit h.portWrite
  · exact .one fun _ h => h.collPost
  · exact .one fun _ h => h.execWatchdogKick
  · exact .one fun _ h => .unit (ite_hw h)
  · exact .one fun _ h => ite h.guardedWrite h
  · exact .one fun _ h => .unit h.guardedWrite
  · exact .one fun _ h => .unit h.guardedWrite
  · exact .one fun _ h => .unit h.guardedWrite
  · exact .one fun _ h => .unit h.tbWrite
  · exact .one fun _ h => .unit h.tbWrite
  · exact .one fun _ h => .unit h.tbWrite
  · exact txCmdRows
  · trivial

theorem execPolicyRegisterWrite {off v} (h : Stands s t) : OutStands s (execPolicyRegisterWrite .hw off v t) := by
  unfold Machine.execPolicyRegisterWrite
  split
  · exact h.guardedWrite
  · trivial

/-- Every row of the active warden's own window is refused. -/
theorem activeRows {r i v} : OptRowsStand s (activeRows .hw r i v) := by
  unfold Machine.activeRows
  split
  · exact .one fun _ h => h.guardedWrite
  · exact .one fun _ h => h.guardedWrite
  · exact .one fun _ h => .unit h.guardedWrite
  · exact .one fun _ h => .unit h.guardedWrite
  · exact .one fun _ h => .unit h.guardedWrite
  · exact .one fun _ h => .unit h.guardedWrite
  · exact .one fun _ h => .unit h.faultWrite
  · exact .one fun _ h => h.faultWrite
  · exact .one fun _ h => h.faultWrite
  · exact epCmdRows
  · exact .one fun _ h => h.faultWrite
  · exact .one fun _ h => .unit h
  · exact .one fun _ h => h.wardenRefused
  · split
    · exact .one fun _ h => ite h.guardedWrite h
    · trivial
  · exact .one fun _ h => .unit h.guardedWrite
  · exact .one fun _ h => h.wardenRefused
  · exact .one fun _ h => h.execPolicyRegisterWrite
  · exact .one fun _ h => h.execPolicyRegisterWrite
  · exact .one fun _ h => h.execPolicyRegisterWrite
  · exact .one fun _ h => h.execPolicyRegisterWrite
  · exact .one fun _ h => h.execPolicyRegisterWrite
  · exact .one fun _ h => h.execPolicyRegisterWrite
  · exact .one fun _ h => h.guardedWrite
  · exact .one fun _ h => .unit h.guardedWrite
  · exact .one fun _ h => .unit h.guardedWrite
  · exact .one fun _ h => .unit h.guardedWrite
  · exact .two (fun _ h => h.guardedWrite) fun _ h => h.guardedWrite
  · exact .two (fun _ h => h.guardedWrite) fun _ h => h.guardedWrite
  · exact .one fun _ h => .unit h.guardedWrite
  · exact .two (fun _ h => .unit h.guardedWrite) fun _ h => .unit h.guardedWrite
  · exact .one fun _ h => .unit h.guardedWrite
  · exact .one fun _ h => .unit h.guardedWrite
  · exact .one fun _ h => .unit h.guardedWrite
  · exact .one fun _ h => .unit h.guardedWrite
  · exact .two (fun _ h => .unit h.guardedWrite) fun _ h => .unit h.guardedWrite
  · exact .one fun _ h => h.guardedWrite
  · exact .one fun _ h => h.guardedWrite
  · trivial

/-! ## Registers without a row -/

theorem spnWrite {m r sp v} (h : Stands s t) : Stands s (t.spnWrite m r sp v) := by
  unfold State.spnWrite
  dsimp only
  refine .ite h ?_
  split
  · exact h.ctlWrite (fun _ h => h.setReg.ctlRequest)
  · exact h.dbSetWrite
  · exact .ite (h.replicatedWrite (fun _ _ h => h.plainWrite.updSpin)) h
  · exact h.replicatedWrite (fun _ _ h => h.plainWrite)
  · exact h.replicatedWrite (fun _ _ h => h.plainWrite)
  · exact h.replicatedWrite (fun _ _ h => h.plainWrite)
  · exact h.replicatedWrite (fun _ _ h => h.plainWrite)
  · exact .each (h.replicatedWrite (fun _ _ h => h.plainWrite)) (fun _ _ h => h.timerTest)
  · exact h.plainWrite.timerTest
  · exact h.plainWrite

/-- Every register of a warden is refused. -/
theorem wardenWrite {r d i v} (h : Stands s t) : Stands s (t.wardenWrite .hw r d i v) := by
  unfold State.wardenWrite
  dsimp only
  split
  · exact h.guardedWrite
  · exact h.guardedWrite
  · exact h.powerWrite
  · exact h.powerWrite
  · exact h.powerWrite
  · exact h.guardedWrite
  · exact h.faultWrite
  · exact h.faultWrite
  · exact h.faultWrite
  · exact h.faultWrite
  · exact h.faultWrite
  · exact h.faultWrite
  · exact h.faultWrite
  · exact h.guardedWrite
  · exact h.guardedWrite
  · exact h.guardedWrite
  · exact h.guardedWrite
  · exact h.guardedWrite
  · exact h.guardedWrite
  · exact h.guardedWrite
  · exact h.guardedWrite
  · exact h.guardedWrite
  · exact h.guardedWrite
  · exact h.guardedWrite
  · exact h.guardedWrite
  · exact h.guardedWrite
  · exact h.guardedWrite
  · exact h.guardedWrite
  · exact h.guardedWrite
  · exact h.guardedWrite
  · exact h.guardedWrite
  · exact h.guardedWrite
  · exact h.guardedWrite
  · exact h.guardedWrite
  · exact h.guardedWrite
  · exact h.guardedWrite
  · exact h.guardedWrite
  · exact h.guardedWrite
  · exact h.guardedWrite
  · exact h.guardedWrite
  · exact h.guardedWrite
  · exact h.guardedWrite
  · exact h.guardedWrite
  · exact h.guardedWrite
  · exact h.guardedWrite
  · exact h.guardedWrite
  · exact h.guardedWrite
  · exact h.guardedWrite
  · exact h.guardedWrite
  · exact h.tbWrite
  · exact h.tbWrite
  · exact h.tbOwn
  · exact h.tbOwn
  · exact h.tbOwn
  · exact h.tbOwn
  · exact h.tbOwn
  · exact h.tbOwn
  · exact h.tbOwn
  · exact h.tbOwn
  · exact h.tbOwn
  · exact h.tbOwn
  · exact h.tbOwn
  · exact h.tbWrite
  · exact h.tbWrite
  · exact h.tbWrite
  · exact h.tbWrite
  · exact h.guardedWrite

theorem hostWrite {r i v} (h : Stands s t) : Stands s (t.hostWrite r i v) := by
  unfold State.hostWrite
  dsimp only
  split
  · exact h.plainWrite.linkChange
  · exact .ite h.plainWrite.setReg.raiseMsix h.plainWrite
  · exact h.plainWrite

theorem writeBlock {r d i v} (h : Stands s t) : Stands s (t.writeBlock .hw r d i v) := by
  unfold State.writeBlock
  refine .ite h.spnWrite ?_
  refine .ite h.hostWrite ?_
  refine .ite h.wardenWrite ?_
  split
  · split
    · exact h.portWrite
    · exact h.portWrite
    · exact h.portWrite
  · refine .ite (h.qdWrite (fun _ h => h.plainWrite)) ?_
    split
    · exact h.powerWrite
    · exact h.powerWrite
    · exact h.powerWrite
    · exact h
    · exact h.plainWrite

theorem writeReg {r d i v} (h : Stands s t) : Stands s (t.writeReg .hw r d i v) := by
  have hw : OptRowsStand s (Machine.writeRows .hw r d i v) := writeRows
  have ha : OptRowsStand s (Machine.activeRows .hw r i v) := activeRows
  unfold State.writeReg
  split
  · next e => rw [e] at hw; exact h.ranAll hw
  · split
    · next e =>
      split at e
      · rw [e] at ha; exact h.ranAll ha
      · contradiction
    · exact h.writeBlock

/-! ## Windows -/

theorem mbMaskWrite {pair low v} (h : Stands s t) : Stands s (t.mbMaskWrite pair low v) :=
  .ite (.ite h.setMbSide h.setMbSide.raiseMsix.raiseMsix) (.ite (.ite h.setMbSide.cdDeliver h.setMbSide) h.setMbSide)

theorem mbRegWrite {m pair low off v} (h : Stands s t) : Stands s (t.mbRegWrite m pair low off v) := by
  unfold State.mbRegWrite
  refine .ite h.wevent ?_
  dsimp only
  split
  · exact .ite h.setMbSide h
  · exact h.setMbSide
  · exact h.mbMaskWrite
  · exact .ite h.setMbSide h
  · exact h

theorem writeMailbox {m pair low here off size v} (h : Stands s t) :
    Stands s (t.writeMailbox m pair low here off size v) := by
  unfold State.writeMailbox
  refine .ite h.wevent (.ite (h.ranState h.execMbOutWrite) (.ite ?_ h))
  split
  · split
    · exact h.ranState h.execMbPost
    · exact h.ranState h.execMbWait
    · exact h.ranState h.execMbPostWait
    · exact h.ranState h.execMbResetIn
    · exact h.mbRegWrite
  · exact h.ranState h.execMbAck
  · exact h.ranState h.execMbDbOutWrite
  · exact h.mbRegWrite

theorem writeSite {x size v} (h : Stands s t) : Stands s (t.writeSite .hw x size v) := by
  unfold State.writeSite
  split
  · exact .ite h.writeReg h
  · exact h.writeMailbox
  · exact h
  · exact h

theorem writeWindow {l size v} (h : Stands s t) : Stands s (t.writeWindow .hw l size v).2 := by
  unfold State.writeWindow
  split
  · split
    · exact h.viewPut
    · exact h
  · split
    · exact h.writeSite
    · exact h
  · exact h

/-! ## Accesses -/

theorem readAt {a n} (h : Stands s t) : Stands s (State.readAt .hw t a n).2.2 :=
  State.readAt_induct (P := fun r => Stands s r.2.2) (fun _ _ => h.readEach fun _ _ _ h => h.readWindow) fun _ =>
    h.movePiece

theorem writeAt {a bs} (h : Stands s t) : Stands s (State.writeAt .hw t a bs).2 :=
  State.writeAt_induct (P := fun r => Stands s r.2) (fun _ _ => h.writeEach fun _ _ _ h => h.writeWindow) fun _ =>
    h.putPiece

theorem warpSend {q a n} (h : Stands s t) : Stands s (t.warpSend q a n) := h.each fun _ _ h => h.flitLeaves

theorem moveRead {q a n} (h : Stands s t) (hq : q.m = .hw) : Stands s (t.moveRead q a n).2.2 := by
  unfold State.moveRead
  split
  · exact h
  split
  · exact h.readEach fun _ _ _ h => (hq ▸ h.readAt)
  split
  · exact h
  split
  · exact h.warpSend.record
  · exact h

theorem moveWrite {q a bs} (h : Stands s t) (hq : q.m = .hw) : Stands s (t.moveWrite q a bs).2 := by
  unfold State.moveWrite
  split
  · exact h
  split
  · exact h.writeEach fun _ _ _ h => (hq ▸ h.writeAt)
  split
  · exact h
  split
  · exact h.warpSend
  · exact h

end Stands

end Sys2Proof.Machine
end

section
/-! PROOF. A data flit in order (R290, R291): its port expects the next SEQ and drops none, whatever the flit asks of the
package. -/

set_option Elab.async false

namespace Sys2Proof.Machine

variable {s t : State} {p : Nat}

/-! ## What a flit asks -/

theorem Stands.noteUnpopulated {st u a} (h : Stands s t) : Stands s (t.noteUnpopulated st u a) := .ite h.event h

theorem Stands.remoteAct {x : RemoteAct} (h : Stands s t) : Stands s (t.remoteAct p x) := by
  unfold State.remoteAct
  split
  · exact (h.moveWrite rfl).noteUnpopulated
  · exact .ite (h.ring.getD h.event) h

theorem Stands.takeFlit {x : Flit} (h : Stands s t) : Stands s (t.takeFlit p x) := by
  unfold State.takeFlit
  extract_lets a b
  have ha : Stands s a := h.setLat
  have hb : Stands s b := .ite (ha.each fun _ _ h => h.remoteAct) (.ite ha.event (.ite ha ha.event))
  split
  · exact .ite hb hb.flitLeaves
  · exact hb

/-! ## Whether it waits (R289, R298) -/

/-- What holds a flit back stands. -/
abbrev FlowStands : State → State → Prop :=
  Spares [.HI_PKG_NUM, .WP_ROUTE, .WP_PORT_STAT, .WP_GCFG, .WD_TIME_NS] [.flowHold, .flowSince, .warpUnacked, .warpCredit]

theorem Spares.routes (h : FlowStands s t) (pkg : Nat) : t.routes pkg = s.routes pkg := by
  simp only [State.routes, h.fld (f := fWP_ROUTE_CHOICE) 56 pkg, fun d i => h.fld (f := fWP_PORT_STAT_STATE) d i]

theorem Spares.flitHeld (h : FlowStands s t) (pkg unit addr : Nat) (response late : Bool) :
    t.flitHeld pkg unit addr response late = s.flitHeld pkg unit addr response late := by
  have hlat : ∀ l ∈ [Lat.flowHold, .flowSince, .warpUnacked, .warpCredit], ∀ d i, t.lat l d i = s.lat l d i := h.lat
  have hnow : t.now = s.now := congrArg BitVec.toNat (h.reg .WD_TIME_NS (by decide) 62 0)
  simp only [State.flitHeld, State.flowHeld, State.portRoom, State.choices, h.routes, hnow,
    h.fld (f := fWP_GCFG_TIMEOUT_US) 56 0, hlat .flowHold (by decide), hlat .flowSince (by decide),
    hlat .warpUnacked (by decide), hlat .warpCredit (by decide)]

theorem Spares.flitWaits (h : FlowStands s t) (x : Flit) : t.flitWaits x = s.flitWaits x := by
  have hpkg : t.pkg = s.pkg := h.fld (f := fHI_PKG_NUM_NUM) 60 0
  simp only [State.flitWaits, State.flitOn, hpkg, h.flitHeld]

/-! ## The flit -/

/-- A good flit with the SEQ its port expects, which does not wait, is taken in. -/
theorem State.dataFlit_inOrder {x : Flit} (s : State) (hf : x.fec = true) (hg : x.good = true) (hlt : x.seq < 4096)
    (he : x.seq = s.lat .warpExpect p 0) (hw : s.flitWaits x = false) :
    s.dataFlit p x = ((s.setLat .warpExpect p 0 ((x.seq + 1) % 4096)).setLat .warpDrop p 0 0).takeFlit p x := by
  rw [State.dataFlit, if_neg (by simp [hf]), if_neg (by simp [hg]), if_pos ((Nat.mod_eq_of_lt hlt).trans he),
    if_neg (by simp [hw])]

theorem warpFlitReceive_inOrder (x : Flit) (hp : p < 16) (hu : s.warpUp p = true) (hst : s.wpFld fWP_PORT_STAT_STATE p = 4)
    (hk : x.kind = 1) (hg : x.good = true) (hf : x.fec = true) (ha : x.ack = false) (hn : x.nak = false) (hlt : x.seq < 4096)
    (he : x.seq = s.lat .warpExpect p 0) (hw : s.flitWaits x = false) :
    Completes (.warpFlitReceive p x) s fun t =>
      t.lat .warpExpect p 0 = (x.seq + 1) % 4096 ∧ t.lat .warpDrop p 0 = 0 := by
  refine .of_unit rfl (by simpa [isWarpPort] using hp) ?_
  dsimp only
  rw [if_pos ⟨hu, .inr hst⟩, if_pos ⟨hk, hst⟩, if_pos ⟨hg, hf⟩, if_neg (by simp [hn]), if_neg (by simp [ha])]
  set a := s.setWpFld fWP_PORT_FEC_SYMBOLS p (s.wpFld fWP_PORT_FEC_SYMBOLS p + x.corrected)
  have hflow : FlowStands s a := (Spares.refl s).setFld
  rw [a.dataFlit_inOrder hf hg hlt he ((hflow.flitWaits x).trans hw)]
  set b := a.setLat .warpExpect p 0 ((x.seq + 1) % 4096)
  have h : Stands (b.setLat .warpDrop p 0 0) ((b.setLat .warpDrop p 0 0).takeFlit p x) := (Stands.refl _).takeFlit
  have hb : (b.setLat .warpDrop p 0 0).lat .warpExpect p 0 = (x.seq + 1) % 4096 :=
    (b.lat_setLat_name (by decide) _ _ _ _ _).trans (a.lat_setLat_self _ _ _ _)
  exact ⟨(h.expect p).trans hb, h.drop p (b.lat_setLat_self _ _ _ _)⟩

/-- Settles O22, command by command (log entry 204). -/
theorem warpPortCommandsComplete : Obligations.WarpPortCommandsComplete := by
  unfold Obligations.WarpPortCommandsComplete
  exact ⟨fun _ _ => warpNegotiateStart_completes,
    fun _ rates versions peerPkg peerPort peerRetired _ =>
      warpPagesExchanged_agree rates versions peerPkg peerPort peerRetired,
    fun _ failed _ => warpTrainingDone_holds failed, fun _ _ => warpEnterActive_enters, fun _ _ => warpLeaveActive_leaves,
    fun _ x _ hp hu hst hk hg hf ha hn _ hlt he hw => warpFlitReceive_inOrder x hp hu hst hk hg hf ha hn hlt he hw,
    fun _ ackseq _ => warpNakReceive_replays ackseq, fun _ _ => warpRetrain_completes,
    fun _ silent _ => warpPortDown_completes silent, fun _ l _ => warpLaneRetire_shows l, fun _ _ => warpPortRetire_completes⟩

end Sys2Proof.Machine
end

section
/-! PROOF. What a die's read of this package's memory depends on. `MemAlike s t` says that such reads cannot tell `s` from
`t`: the registers and latches they read, directly or by what the errors they meet set off (an occurrence past its
threshold, a unit retired, a die isolated, a warden's reset), have the same entries in both, and so have the memory and its
errors, the flash, the skeins and the two wardens' tallies and retired units. The recorder, the plies, the spindles, the
tray bus, the locks, the mailboxes and the collectives are none of it. An operation that touches nothing of it has a lemma
under its own name in the namespace `MemAlike`; one that does has a congruence, `…_congr`. -/

set_option Elab.async false

namespace Sys2Proof.Machine

/-! ## The entries of a sparse map under one key -/

/-- The entries under one key. -/
def keyed {α : Type} (m : SMap α) (k : Nat) : SMap α := m.filter fun x => x.1 == k

theorem sget_keyed {α : Type} (d : α) (m : SMap α) (k : Nat) : sget d (keyed m k) k = sget d m k := by
  induction m with
  | nil => rfl
  | cons x m ih =>
    rw [keyed, List.filter_cons]
    split
    · next h => simp only [sget, eq_of_beq h, if_true]
    · next h => rw [sget, if_neg (by simpa using h)]; exact ih

theorem keyed_cons_same {α : Type} (m : SMap α) (k : Nat) (v : α) : keyed ((k, v) :: m) k = (k, v) :: keyed m k :=
  List.filter_cons_of_pos (beq_self_eq_true k)

theorem keyed_cons_other {α : Type} {m : SMap α} {j k : Nat} {v : α} (h : j ≠ k) : keyed ((j, v) :: m) k = keyed m k :=
  List.filter_cons_of_neg (by simpa using h)

theorem keyed_sdel {α : Type} (m : SMap α) (a k : Nat) : keyed (sdel a m) k = if k = a then [] else keyed m k := by
  induction m with
  | nil => split <;> rfl
  | cons x m ih =>
    obtain ⟨j, v⟩ := x
    rw [sdel]
    by_cases hk : j = k
    · subst hk
      rw [keyed_cons_same]
      split
      · next e => rw [ih, if_pos e]
      · next e => rw [keyed_cons_same, ih, if_neg e]
    · rw [keyed_cons_other hk]
      split
      · exact ih
      · rw [keyed_cons_other hk, ih]

theorem keyed_sins {α : Type} (m : SMap α) (a k : Nat) (v : α) (h : keyed m a = []) :
    keyed (sins a v m) k = if k = a then [(a, v)] else keyed m k := by
  induction m with
  | nil =>
    split
    · next e => exact e ▸ keyed_cons_same ..
    · next e => exact keyed_cons_other (Ne.symm e)
  | cons x m ih =>
    obtain ⟨j, w⟩ := x
    have hj : j ≠ a := by
      rintro rfl
      rw [keyed_cons_same] at h
      cases h
    rw [keyed_cons_other hj] at h
    rw [sins]
    split
    · split
      · next e => rw [e, keyed_cons_same, keyed_cons_other hj, h]
      · next e => exact keyed_cons_other (Ne.symm e)
    · by_cases hk : j = k
      · subst hk
        rw [keyed_cons_same, keyed_cons_same, ih h, if_neg hj, if_neg hj]
      · rw [keyed_cons_other hk, keyed_cons_other hk, ih h]

theorem keyed_sset {α : Type} [DecidableEq α] (d : α) (m : SMap α) (a k : Nat) (v : α) :
    keyed (sset d m a v) k = if k = a then (if v = d then [] else [(a, v)]) else keyed m k := by
  rw [sset]
  split
  · rw [keyed_sdel]
  · rw [keyed_sins _ _ _ _ (by simp [keyed_sdel]), keyed_sdel]
    split <;> rfl

theorem keyed_filterMap {α : Type} {f : Nat × α → Option (Nat × α)} (hf : ∀ x y, f x = some y → y.1 = x.1)
    (m : SMap α) (k : Nat) : keyed (m.filterMap f) k = (keyed m k).filterMap f := by
  induction m with
  | nil => rfl
  | cons x m ih =>
    obtain ⟨j, v⟩ := x
    cases hx : f (j, v) with
    | none =>
      rw [List.filterMap_cons_none hx, ih]
      by_cases hj : j = k
      · subst hj
        rw [keyed_cons_same, List.filterMap_cons_none hx]
      · rw [keyed_cons_other hj]
    | some y =>
      obtain ⟨i, w⟩ := y
      obtain rfl : i = j := hf _ _ hx
      rw [List.filterMap_cons_some hx]
      by_cases hj : i = k
      · subst hj
        rw [keyed_cons_same, keyed_cons_same, List.filterMap_cons_some hx, ih]
      · rw [keyed_cons_other hj, keyed_cons_other hj, ih]

theorem keyed_filter {α : Type} (f : Nat × α → Bool) (m : SMap α) (k : Nat) :
    keyed (m.filter f) k = (keyed m k).filter f := by
  simp only [keyed, List.filter_filter, Bool.and_comm]

/-! ## What reads of memory depend on -/

/-- The registers all of whose entries they depend on. -/
def memRegs (r : Reg) : Bool :=
  match r with
  | .WD_ROLE | .WD_DIE_PWR | .WD_FLT_THR | .WD_TIME_NS | .PW_DIE_ISO | .PW_TWIN_CTL | .PW_TWIN_AVS | .SPN_MAP | .CD_BNK_PWR
  | .WD_BNK_PWR | .CX_PORT_STAT | .QD_RGN0 | .QD_RGN1 | .QD_RGN2 | .QD_RGN3 | .QD_RGN_INFO | .QD_MIR0 | .QD_MIR1 | .QD_MIR2
  | .QD_MIR3 | .QD_MIR_INFO | .QD_OPEN_TOP | .QD_CFG | .QD_CARVE | .QD_PC | .WP_PORT_STAT => true
  | _ => false

/-- The register entries they depend on: of the flash tables' only that of the firmware. -/
def memReg (r : Reg) (i : Nat) : Bool := memRegs r || (r == .WD_FLASH_TBL && i == 0)

/-- The latches they depend on. -/
def memLat (l : Lat) : Bool :=
  match l with
  | .stopRetired | .inReset | .slotRetired | .mtestLine | .servedBy | .quarryLost | .pcReach | .pcKept | .warpPeer | .foldback
  | .fwSince => true
  | _ => false

/-- The parts of two sticky blocks they depend on are the same. -/
def stickyAlike (k l : Sticky) : Prop := l.retired = k.retired ∧ l.tallies = k.tallies

/-- Reads of memory cannot tell the states apart. -/
structure MemAlike (s t : State) : Prop where
  regs : ∀ r i, memReg r i = true → ∀ h,
    keyed t.regs (Nat.pair (regId r) (Nat.pair h i)) = keyed s.regs (Nat.pair (regId r) (Nat.pair h i))
  lats : ∀ l, memLat l = true → ∀ d i,
    keyed t.lats (Nat.pair (latId l) (Nat.pair d i)) = keyed s.lats (Nat.pair (latId l) (Nat.pair d i))
  mem : t.mem = s.mem
  losses : t.losses = s.losses
  mended : t.mended = s.mended
  flaws : t.flaws = s.flaws
  flash : t.flash = s.flash
  skeins : t.skeins = s.skeins
  stickyA : stickyAlike s.stickyA t.stickyA
  stickyB : stickyAlike s.stickyB t.stickyB

/-- Two answers that are the same, each with a state, where reads of memory cannot tell the states apart. -/
def PairAlike {α : Type} (x y : α × State) : Prop := y.1 = x.1 ∧ MemAlike x.2 y.2

theorem PairAlike.ite {α : Type} {p : Prop} {i : Decidable p} {a b x y : α × State} (h : PairAlike a b) (k : PairAlike x y) :
    PairAlike (if p then a else x) (if p then b else y) := by
  split
  · exact h
  · exact k

variable {s t u : State}

namespace MemAlike

theorem refl (s : State) : MemAlike s s :=
  ⟨fun _ _ _ _ => rfl, fun _ _ _ _ => rfl, rfl, rfl, rfl, rfl, rfl, rfl, ⟨rfl, rfl⟩, ⟨rfl, rfl⟩⟩

theorem symm (h : MemAlike s t) : MemAlike t s where
  regs r i hr k := (h.regs r i hr k).symm
  lats l hl d i := (h.lats l hl d i).symm
  mem := h.mem.symm
  losses := h.losses.symm
  mended := h.mended.symm
  flaws := h.flaws.symm
  flash := h.flash.symm
  skeins := h.skeins.symm
  stickyA := ⟨h.stickyA.1.symm, h.stickyA.2.symm⟩
  stickyB := ⟨h.stickyB.1.symm, h.stickyB.2.symm⟩

theorem trans (h : MemAlike s t) (k : MemAlike t u) : MemAlike s u where
  regs r i hr a := (k.regs r i hr a).trans (h.regs r i hr a)
  lats l hl d i := (k.lats l hl d i).trans (h.lats l hl d i)
  mem := k.mem.trans h.mem
  losses := k.losses.trans h.losses
  mended := k.mended.trans h.mended
  flaws := k.flaws.trans h.flaws
  flash := k.flash.trans h.flash
  skeins := k.skeins.trans h.skeins
  stickyA := ⟨k.stickyA.1.trans h.stickyA.1, k.stickyA.2.trans h.stickyA.2⟩
  stickyB := ⟨k.stickyB.1.trans h.stickyB.1, k.stickyB.2.trans h.stickyB.2⟩

/-- Two states alike each to one of two that are alike. -/
theorem both {s' t' : State} (h : MemAlike s t) (hs : MemAlike s s') (ht : MemAlike t t') : MemAlike s' t' :=
  (hs.symm.trans h).trans ht

/-- A record update of what reads of memory do not depend on. -/
theorem record {spins plies sides retLog dma coll collGroups mesh plyRuns banks heat saved reply free pending}
    (h : MemAlike s t) :
    MemAlike s { t with
      spins := spins, plies := plies, sides := sides, retLog := retLog, dma := dma, coll := coll, collGroups := collGroups,
      mesh := mesh, plyRuns := plyRuns, banks := banks, heat := heat, saved := saved, reply := reply, free := free,
      pending := pending } :=
  { h with }

theorem ite {p : Prop} {i : Decidable p} (h : MemAlike s t) (k : MemAlike s u) : MemAlike s (if p then t else u) := by
  split
  · exact h
  · exact k

theorem each {α : Type} {l : List α} {f : α → State → State} (h : MemAlike s t)
    (hf : ∀ x u, MemAlike s u → MemAlike s (f x u)) : MemAlike s (t.each l f) :=
  State.each_induct (MemAlike s) l f (fun x _ => hf x) h

theorem ite_congr {p : Prop} {i : Decidable p} {a b : State} (h : MemAlike s t) (k : MemAlike a b) :
    MemAlike (if p then s else a) (if p then t else b) := by
  split
  · exact h
  · exact k

theorem each_congr {α : Type} {l : List α} {f g : α → State → State} (h : MemAlike s t)
    (hf : ∀ x u v, MemAlike u v → MemAlike (f x u) (g x v)) : MemAlike (s.each l f) (t.each l g) :=
  List.foldl_rel (r := MemAlike) h fun x _ => hf x

/-! ## What is read -/

theorem reg_of (h : MemAlike s t) {r : Reg} {i : Nat} (hr : memReg r i = true) (d : Nat) : t.reg r d i = s.reg r d i := by
  rw [State.reg, ← sget_keyed, regKey, h.regs r i hr, sget_keyed]
  rfl

theorem reg (h : MemAlike s t) {r : Reg} (hr : memRegs r = true) (d i : Nat) : t.reg r d i = s.reg r d i :=
  h.reg_of (by simp [memReg, hr]) d

theorem lat (h : MemAlike s t) {l : Lat} (hl : memLat l = true) (d i : Nat) : t.lat l d i = s.lat l d i := by
  rw [State.lat, ← sget_keyed, h.lats l hl, sget_keyed]
  rfl

theorem fld (h : MemAlike s t) {f : RField} (hf : memRegs f.reg = true) (d i : Nat) : t.fld f d i = s.fld f d i :=
  State.fld_congr (h.reg hf d i)

theorem flag (h : MemAlike s t) {f : RField} (hf : memRegs f.reg = true) (d i : Nat) : t.flag f d i = s.flag f d i :=
  State.flag_congr (h.reg hf d i)

theorem aw (h : MemAlike s t) : t.aw = s.aw := by
  rw [State.aw, h.flag rfl, State.aw]

theorem wreg_of (h : MemAlike s t) {r : Reg} {i : Nat} (hr : memReg r i = true) : t.wreg r i = s.wreg r i := by
  rw [State.wreg, h.aw, h.reg_of hr, State.wreg]

theorem wfld (h : MemAlike s t) {f : RField} (hf : memRegs f.reg = true) (i : Nat) : t.wfld f i = s.wfld f i := by
  rw [State.wfld, State.wreg, h.aw, h.reg hf, State.wfld, State.wreg]

/-! ## Registers -/

/-- Setting a register changes the entries under its key only. -/
theorem keyed_setReg (s : State) (r q : Reg) (d i h j : Nat) (v : W64) :
    keyed (s.setReg r d i v).regs (Nat.pair (regId q) (Nat.pair h j)) =
      if q = r ∧ h = regHome r d ∧ j = i then
        (if v = regReset r (regHome r d) i then [] else [(regKey r d i, v)])
      else keyed s.regs (Nat.pair (regId q) (Nat.pair h j)) := by
  rw [State.setReg, keyed_sset]
  by_cases e : q = r ∧ h = regHome r d ∧ j = i
  · obtain ⟨rfl, rfl, rfl⟩ := e
    simp [regKey]
  · rw [if_neg e, if_neg]
    intro k
    rw [regKey, Nat.pair_eq_pair, Nat.pair_eq_pair] at k
    exact e ⟨regId_inj k.1, k.2.1, k.2.2⟩

theorem setReg {r d i v} (h : MemAlike s t) (hr : memReg r i = false := by rfl) : MemAlike s (t.setReg r d i v) :=
  { h with
    regs := fun q j hq a => by
      rw [keyed_setReg, if_neg]
      · exact h.regs q j hq a
      · rintro ⟨rfl, -, rfl⟩
        exact absurd hq (by simp [hr]) }

/-- The same value, where it matters, written to the same register. -/
theorem setReg_congr_of {r d i v w} (h : MemAlike s t) (hv : memReg r i = true → w = v) :
    MemAlike (s.setReg r d i v) (t.setReg r d i w) :=
  { h with
    regs := fun q j hq a => by
      rw [keyed_setReg, keyed_setReg]
      split
      · next e => obtain ⟨rfl, -, rfl⟩ := e; rw [hv hq]
      · exact h.regs q j hq a }

theorem setReg_congr {r d i v} (h : MemAlike s t) : MemAlike (s.setReg r d i v) (t.setReg r d i v) :=
  h.setReg_congr_of fun _ => rfl

theorem setFld {f d i x} (h : MemAlike s t) (hf : memReg f.reg i = false := by rfl) : MemAlike s (t.setFld f d i x) :=
  h.setReg hf

theorem setFld_congr {f d i x} (h : MemAlike s t) : MemAlike (s.setFld f d i x) (t.setFld f d i x) :=
  h.setReg_congr_of fun hr => by rw [h.reg_of hr]

theorem incFld {f d i n} (h : MemAlike s t) (hf : memReg f.reg i = false := by rfl) : MemAlike s (t.incFld f d i n) :=
  h.setReg hf

theorem satFld_congr {f d i n} (h : MemAlike s t) : MemAlike (s.satFld f d i n) (t.satFld f d i n) :=
  h.setReg_congr_of fun hr => by rw [State.fld, State.fld, h.reg_of hr]

theorem satFld {f d i n} (h : MemAlike s t) (hf : memReg f.reg i = false := by rfl) : MemAlike s (t.satFld f d i n) :=
  h.setReg hf

theorem setWreg {r i v} (h : MemAlike s t) (hr : memReg r i = false := by rfl) : MemAlike s (t.setWreg r i v) :=
  .ite ((h.setReg hr).setReg hr) (h.setReg hr)

theorem setWfld {f i x} (h : MemAlike s t) (hf : memReg f.reg i = false := by rfl) : MemAlike s (t.setWfld f i x) :=
  h.setWreg hf

theorem satWfld {f i n} (h : MemAlike s t) (hf : memReg f.reg i = false := by rfl) : MemAlike s (t.satWfld f i n) :=
  h.setWfld hf

theorem setWreg_congr_of {r i v w} (h : MemAlike s t) (hv : memReg r i = true → w = v) :
    MemAlike (s.setWreg r i v) (t.setWreg r i w) := by
  have hw : MemAlike (s.setReg r s.aw i v) (t.setReg r s.aw i w) := h.setReg_congr_of hv
  unfold State.setWreg
  rw [h.aw, h.flag rfl]
  exact .ite_congr (hw.setReg_congr_of fun hr => by rw [hw.reg_of hr, hv hr]) hw

theorem setWfld_congr {f i x} (h : MemAlike s t) : MemAlike (s.setWfld f i x) (t.setWfld f i x) :=
  h.setWreg_congr_of fun hr => by rw [h.wreg_of hr]

theorem putReg {r d i v} (h : MemAlike s t) (hr : memReg r i = false := by rfl) : MemAlike s (t.putReg r d i v) :=
  .ite (h.setWreg hr) (h.setReg hr)

theorem putFld {f d i x} (h : MemAlike s t) (hf : memReg f.reg i = false := by rfl) : MemAlike s (t.putFld f d i x) :=
  h.putReg hf

theorem putFld_congr {f d i x} (h : MemAlike s t) : MemAlike (s.putFld f d i x) (t.putFld f d i x) := by
  have hv : memReg f.reg i = true → setBits (t.reg f.reg d i) f.hi f.lo x = setBits (s.reg f.reg d i) f.hi f.lo x :=
    fun hr => by rw [h.reg_of hr]
  unfold State.putFld State.putReg
  rw [h.aw]
  exact .ite_congr (h.setWreg_congr_of hv) (h.setReg_congr_of hv)

theorem resetRegs_congr {sel keep} (h : MemAlike s t) : MemAlike (s.resetRegs sel keep) (t.resetRegs sel keep) :=
  { h with
    regs := fun r i hr a => by
      rw [State.resetRegs, State.resetRegs, keyed_filterMap resetEntry_key, keyed_filterMap resetEntry_key, h.regs r i hr] }

/-! ## Latches -/

/-- Setting a latch changes the entries under its key only. -/
theorem keyed_setLat (s : State) (l m : Lat) (d i e j v : Nat) :
    keyed (s.setLat l d i v).lats (Nat.pair (latId m) (Nat.pair e j)) =
      if m = l ∧ e = d ∧ j = i then (if v = 0 then [] else [(Nat.pair (latId l) (Nat.pair d i), v)])
      else keyed s.lats (Nat.pair (latId m) (Nat.pair e j)) := by
  rw [State.setLat, keyed_sset]
  by_cases k : m = l ∧ e = d ∧ j = i
  · obtain ⟨rfl, rfl, rfl⟩ := k
    simp
  · rw [if_neg k, if_neg]
    intro c
    rw [Nat.pair_eq_pair, Nat.pair_eq_pair] at c
    exact k ⟨latId_inj c.1, c.2.1, c.2.2⟩

theorem setLat {l d i v} (h : MemAlike s t) (hl : memLat l = false := by rfl) : MemAlike s (t.setLat l d i v) :=
  { h with
    lats := fun m hm e j => by
      rw [keyed_setLat, if_neg]
      · exact h.lats m hm e j
      · rintro ⟨rfl, -, -⟩
        exact absurd hm (by simp [hl]) }

theorem setLat_congr {l d i v} (h : MemAlike s t) : MemAlike (s.setLat l d i v) (t.setLat l d i v) :=
  { h with
    lats := fun m hm e j => by
      rw [keyed_setLat, keyed_setLat]
      split
      · rfl
      · exact h.lats m hm e j }

theorem resetLats_congr {sel} (h : MemAlike s t) : MemAlike (s.resetLats sel) (t.resetLats sel) :=
  { h with
    lats := fun m hm e j => by rw [State.resetLats, State.resetLats, keyed_filter, keyed_filter, h.lats m hm] }

/-! ## Memory, its errors and the skeins -/

theorem setBytes_congr {a bs} (h : MemAlike s t) : MemAlike (s.setBytes a bs) (t.setBytes a bs) :=
  { h with mem := congrArg (fun m => ssetList memBlank m a bs) h.mem }

theorem clearBytes_congr {a n} (h : MemAlike s t) : MemAlike (s.clearBytes a n) (t.clearBytes a n) :=
  { h with mem := congrArg (fun m : List Host.Cell => m.filter fun c : Host.Cell => c.1 < a || a + n ≤ c.1) h.mem }

theorem setFlaw_congr {a x} (h : MemAlike s t) : MemAlike (s.setFlaw a x) (t.setFlaw a x) :=
  { h with flaws := congrArg (fun m => sset 0 m (a / 64) x) h.flaws }

theorem setSkein_congr {d l} (h : MemAlike s t) : MemAlike (s.setSkein d l) (t.setSkein d l) :=
  { h with skeins := congrArg (fun m => sset [] m d l) h.skeins }

/-- More blocks are lost. -/
theorem lose_congr {es} (h : MemAlike s t) :
    MemAlike { s with losses := es ++ s.losses } { t with losses := es ++ t.losses } :=
  { h with losses := congrArg (es ++ ·) h.losses }

/-! ## The sticky blocks -/

theorem setStickyOf {d k} (h : MemAlike s t) (hk : stickyAlike (t.stickyOf d) k) : MemAlike s (t.setStickyOf d k) := by
  unfold State.setStickyOf
  unfold State.stickyOf at hk
  split
  · next e =>
    rw [if_pos e] at hk
    exact { h with stickyB := ⟨hk.1.trans h.stickyB.1, hk.2.trans h.stickyB.2⟩ }
  · next e =>
    rw [if_neg e] at hk
    exact { h with stickyA := ⟨hk.1.trans h.stickyA.1, hk.2.trans h.stickyA.2⟩ }

/-- A change of the sticky blocks that leaves tallies and retired units alone. -/
theorem updSticky {f} (h : MemAlike s t) (hf : ∀ k, stickyAlike k (f k) := by exact fun _ => ⟨rfl, rfl⟩) :
    MemAlike s (t.updSticky f) := by
  have hw : MemAlike s (t.setStickyOf t.aw (f (t.stickyOf t.aw))) := h.setStickyOf (hf _)
  refine .ite (hw.setStickyOf ?_) hw
  rw [State.stickyOf_setStickyOf_other]
  exact hf _

theorem stickyOf (h : MemAlike s t) (d : Nat) : stickyAlike (s.stickyOf d) (t.stickyOf d) := by
  unfold State.stickyOf
  split
  · exact h.stickyB
  · exact h.stickyA

theorem setStickyOf_congr {d k l} (h : MemAlike s t) (hk : stickyAlike k l) :
    MemAlike (s.setStickyOf d k) (t.setStickyOf d l) := by
  unfold State.setStickyOf
  split
  · exact { h with stickyB := hk }
  · exact { h with stickyA := hk }

/-- A change of the sticky blocks whose tallies and retired units follow from those there are. -/
theorem updSticky_congr {f} (h : MemAlike s t) (hf : ∀ k l, stickyAlike k l → stickyAlike (f k) (f l)) :
    MemAlike (s.updSticky f) (t.updSticky f) := by
  unfold State.updSticky
  rw [h.aw, h.flag rfl]
  have hw := h.setStickyOf_congr (d := s.aw) (hf _ _ (h.stickyOf s.aw))
  exact .ite_congr (hw.setStickyOf_congr (hf _ _ (h.stickyOf _))) hw

/-! ## Functions of the state that reads of memory use -/

theorem now (h : MemAlike s t) : t.now = s.now := by
  rw [State.now, h.reg rfl, State.now]

theorem sticky (h : MemAlike s t) : stickyAlike s.sticky t.sticky := by
  rw [State.sticky, State.sticky, h.aw]
  exact h.stickyOf _

theorem isRetired (h : MemAlike s t) (u : Nat) : t.isRetired u = s.isRetired u := by
  rw [State.isRetired, h.sticky.1, State.isRetired]

theorem wpFld (h : MemAlike s t) {f : RField} (hf : memRegs f.reg = true) (p : Nat) : t.wpFld f p = s.wpFld f p :=
  h.fld hf _ _

theorem dieUp (h : MemAlike s t) (d : Nat) : t.dieUp d = s.dieUp d := by
  simp (disch := decide) only [State.dieUp, h.flag, h.lat]

theorem phys (h : MemAlike s t) (sp : Nat) : t.phys sp = s.phys sp := by
  simp (disch := decide) only [State.phys, h.fld]

theorem twinOf (h : MemAlike s t) (sp : Nat) : t.twinOf sp = s.twinOf sp := by
  rw [State.twinOf, h.phys, State.twinOf]

theorem twinState (h : MemAlike s t) (d k : Nat) : t.twinState d k = s.twinState d k := by
  simp (disch := decide) only [State.twinState, h.flag, h.fld]

theorem slotOf (h : MemAlike s t) (d ph : Nat) : t.slotOf d ph = s.slotOf d ph := by
  simp (disch := decide) only [State.slotOf, h.lat, h.phys]

theorem spareOf (h : MemAlike s t) (d : Nat) : t.spareOf d = s.spareOf d := by
  simp (disch := decide) only [State.spareOf, h.slotOf, h.isRetired, h.flag]

theorem cxlBytes (h : MemAlike s t) (p : Nat) : t.cxlBytes p = s.cxlBytes p := by
  simp (disch := decide) only [State.cxlBytes, h.fld]

theorem cxlLost (h : MemAlike s t) (p : Nat) : t.cxlLost p = s.cxlLost p := by
  simp (disch := decide) only [State.cxlLost, h.fld]

theorem locate (h : MemAlike s t) (a : Nat) : t.locate a = s.locate a := by
  simp only [State.locate, h.cxlBytes]

theorem dieRetained (h : MemAlike s t) (d : Nat) : t.dieRetained d = s.dieRetained d := by
  simp (disch := decide) only [State.dieRetained, h.wfld]

theorem dieAnswer (h : MemAlike s t) (d : Nat) : t.dieAnswer d = s.dieAnswer d := by
  simp only [State.dieAnswer, h.dieUp, h.dieRetained]

theorem padUp (h : MemAlike s t) (sp : Nat) : t.padUp sp = s.padUp sp := by
  simp (disch := decide) only [State.padUp, h.dieAnswer, h.lat]

theorem bytes (h : MemAlike s t) (a n : Nat) : t.bytes a n = s.bytes a n := by
  rw [State.bytes, h.mem, State.bytes]

/-! ### Banks -/

theorem memRegs_pwr (b : Bank) : memRegs (b.pick .CD_BNK_PWR .WD_BNK_PWR) = true := by
  cases b <;> rfl

theorem bankOwn (h : MemAlike s t) (b : Bank) : t.bankOwn b = s.bankOwn b := h.fld (memRegs_pwr b) _ _

theorem bankReq (h : MemAlike s t) (b : Bank) : t.bankReq b = s.bankReq b := h.fld (memRegs_pwr b) _ _

theorem bankSupply (h : MemAlike s t) (b : Bank) : t.bankSupply b = s.bankSupply b := by
  cases b with
  | pad sp k => simp only [State.bankSupply, h.twinState, h.twinOf]
  | sram w k => rfl

theorem borrowedIn (h : MemAlike s t) (b : Bank) : t.borrowedIn b = s.borrowedIn b := by
  simp (disch := decide) only [State.borrowedIn, h.lat]

/-! ### Regions, copies and what is lost -/

theorem rgn (h : MemAlike s t) (d k : Nat) : t.rgn d k = s.rgn d k := by
  simp (disch := decide) only [State.rgn, h.reg]

theorem mir (h : MemAlike s t) (d k : Nat) : t.mir d k = s.mir d k := by
  simp (disch := decide) only [State.mir, h.reg]

theorem rgnState (h : MemAlike s t) (d k : Nat) : t.rgnState d k = s.rgnState d k := by
  simp (disch := decide) only [State.rgnState, h.fld]

theorem mirState (h : MemAlike s t) (d k : Nat) : t.mirState d k = s.mirState d k := by
  simp (disch := decide) only [State.mirState, h.fld]

theorem rgnSlots (h : MemAlike s t) (d : Nat) : t.rgnSlots d = s.rgnSlots d := by
  simp only [State.rgnSlots, h.rgnState]

theorem mirSlots (h : MemAlike s t) (d : Nat) : t.mirSlots d = s.mirSlots d := by
  simp only [State.mirSlots, h.mirState]

theorem mirrorOk (h : MemAlike s t) (d k : Nat) : t.mirrorOk d k = s.mirrorOk d k := by
  simp (disch := decide) only [State.mirrorOk, h.rgn, h.flag]

theorem partner (h : MemAlike s t) (d : Nat) : t.partner d = s.partner d := by
  simp (disch := decide) only [State.partner, h.fld]

theorem quarryUp (h : MemAlike s t) (d : Nat) : t.quarryUp d = s.quarryUp d := by
  simp (disch := decide) only [State.quarryUp, h.dieUp, h.lat]

theorem servedAt (h : MemAlike s t) (a : Nat) : t.servedAt a = s.servedAt a := by
  simp (disch := decide) only [State.servedAt, h.lat, h.mir]

theorem regionAt (h : MemAlike s t) (a : Nat) : t.regionAt a = s.regionAt a := by
  simp only [State.regionAt, h.rgnSlots, h.rgn]

theorem pcsDown (h : MemAlike s t) (d : Nat) : t.pcsDown d = s.pcsDown d := by
  simp (disch := decide) only [State.pcsDown, h.flag, h.lat]

theorem isLost (h : MemAlike s t) (a : Nat) : t.isLost a = s.isLost a := by
  rw [State.isLost, h.mended, h.losses, State.isLost]

theorem degradedAt (h : MemAlike s t) (a : Nat) : t.degradedAt a = s.degradedAt a := by
  simp (disch := decide) only [State.degradedAt, h.flag, h.lat]

theorem copyCurrent (h : MemAlike s t) (d k : Nat) : t.copyCurrent d k = s.copyCurrent d k := by
  simp only [State.copyCurrent, h.mir, h.quarryUp, h.mirrorOk, h.partner]

theorem shields (h : MemAlike s t) (d : Nat) : t.shields d = s.shields d := by
  simp only [State.shields, h.rgnSlots, h.rgn, h.mirrorOk, h.quarryUp, h.partner, h.mirSlots, h.mir, h.copyCurrent]

theorem guarded (h : MemAlike s t) (d : Nat) : t.guarded d = s.guarded d := by
  simp only [State.guarded, h.rgnSlots, h.rgn, h.mirrorOk, h.mirSlots, h.mir]

theorem flaw (h : MemAlike s t) (a : Nat) : t.flaw a = s.flaw a := by
  rw [State.flaw, h.flaws, State.flaw]

theorem rebuilder (h : MemAlike s t) (a : Nat) : t.rebuilder a = s.rebuilder a := by
  simp only [State.rebuilder, h.shields, h.quarryUp, h.isLost, h.flaw, h.pcsDown]

theorem fragOk (h : MemAlike s t) (a : Nat) : t.fragOk a = s.fragOk a := by
  simp (disch := decide) only [State.fragOk, h.isLost, h.flaw, h.rebuilder, h.dieUp, h.fld]

theorem homes (h : MemAlike s t) (d k : Nat) : t.homes d k = s.homes d k := by
  simp (disch := decide) only [State.homes, h.lat, h.mir, h.rgn, h.mirrorOk, h.partner]

theorem rgnRead (h : MemAlike s t) (d k off n : Nat) : t.rgnRead d k off n = s.rgnRead d k off n := by
  simp only [State.rgnRead, h.homes, h.bytes]

theorem rgnReadable (h : MemAlike s t) (d k off n : Nat) : t.rgnReadable d k off n = s.rgnReadable d k off n := by
  simp only [State.rgnReadable, h.homes, h.quarryUp, h.fragOk]

theorem site (h : MemAlike s t) (a : Nat) : t.site a = s.site a := by
  simp (disch := decide) only [State.site, h.servedAt, h.quarryUp, h.mir, h.lat, h.dieRetained, h.reg, h.mirSlots, h.regionAt,
    h.rgnState, h.rgn]

theorem readPiece (h : MemAlike s t) (a n : Nat) : t.readPiece a n = s.readPiece a n := by
  simp only [State.readPiece, h.site, h.fragOk, h.bytes, h.rgnReadable, h.rgnRead]

theorem readSlow (h : MemAlike s t) (a n : Nat) : t.readSlow a n = s.readSlow a n := by
  simp only [State.readSlow, h.readPiece]

theorem rawAt (h : MemAlike s t) (a : Nat) : t.rawAt a = s.rawAt a := by
  simp only [State.rawAt, h.site, h.homes]

theorem skein (h : MemAlike s t) (d : Nat) : t.skein d = s.skein d := by
  rw [State.skein, h.skeins, State.skein]

theorem skeinOn (h : MemAlike s t) (d p : Nat) : t.skeinOn d p = s.skeinOn d p := by
  simp (disch := decide) only [State.skeinOn, State.skeinCap, h.fld, h.skein]

theorem spareTakes (h : MemAlike s t) (d p : Nat) : t.spareTakes d p = s.spareTakes d p := by
  simp (disch := decide) only [State.spareTakes, h.fld, h.lat, h.guarded, h.skeinOn]

theorem firstLost (h : MemAlike s t) {a b : State} (k : MemAlike a b) (d : Nat) (ps : List Nat) (o n c : Nat) :
    t.firstLost b d ps o n c = s.firstLost a d ps o n c := by
  simp only [State.firstLost, h.pcsDown, h.isLost, k.isLost]

/-! ### The flash -/

theorem copyValid (h : MemAlike s t) (k : Nat) (bs : List Byte) : t.copyValid k bs = s.copyValid k bs := by
  simp (disch := decide) only [State.copyValid, h.lat]

theorem flashCopy (h : MemAlike s t) (k : Nat) : t.flashCopy k = s.flashCopy k := by
  simp only [State.flashCopy, h.flash, h.copyValid]

theorem fallbackCopy (h : MemAlike s t) (w : Nat) : t.fallbackCopy w = s.fallbackCopy w := by
  have hc : t.fld fWD_FLASH_TBL_COPY w 0 = s.fld fWD_FLASH_TBL_COPY w 0 := State.fld_congr (h.reg_of rfl w)
  simp (disch := decide) only [State.fallbackCopy, h.flash, h.copyValid, hc, h.lat, h.now]

/-! ## What touches nothing of it

Doorbells, the recorder, the tray bus, the plies and the spindles, the routes, the epochs and the locks are no part of what
reads of memory depend on. -/

theorem dropWaits {d} (h : MemAlike s t) : MemAlike s (t.dropWaits d) := h.record

theorem raiseMsix {port vec} (h : MemAlike s t) : MemAlike s (t.raiseMsix port vec) := .ite h.setReg h.setLat

theorem setSide {k x} (h : MemAlike s t) : MemAlike s (t.setSide k x) := h.record

theorem hostDoorbell {pair bits} (h : MemAlike s t) : MemAlike s (t.hostDoorbell pair bits) :=
  .ite h.setSide.raiseMsix.raiseMsix h.setSide

theorem appendRecord {e r} (h : MemAlike s t) : MemAlike s (t.appendRecord e r) :=
  .ite h.satWfld (.ite h.updSticky.setLat.setWfld.setWfld.hostDoorbell h.updSticky.setLat.setWfld.setWfld)

theorem event {code sev unit payload} (h : MemAlike s t) : MemAlike s (t.event code sev unit payload) :=
  .ite h.setLat.setLat.satWfld.setLat h.setLat.setLat.appendRecord

theorem wevent {code sev u' payload} (h : MemAlike s t) : MemAlike s (t.wevent code sev u' payload) := h.event

theorem setSpFld {f sp x} (h : MemAlike s t) (hf : memReg f.reg (spIdx sp) = false := by rfl) :
    MemAlike s (t.setSpFld f sp x) := h.setFld hf

theorem updSpin {sp f} (h : MemAlike s t) : MemAlike s (t.updSpin sp f) := h.record

theorem notice {sp bits} (h : MemAlike s t) : MemAlike s (t.notice sp bits) := h.setFld

theorem writeEntries {p st} (h : MemAlike s t) : MemAlike s (t.writeEntries p st) :=
  h.each fun _ _ h => h.setReg.setReg.setSpFld

theorem halted {sp} (h : MemAlike s t) : MemAlike s (t.halted sp) :=
  h.each fun _ _ h => h.setSpFld.setSpFld.setSpFld.setSpFld.setLat

theorem flush {sp pc} (h : MemAlike s t) : MemAlike s (t.flush sp pc) := .setLat (h.each (fun _ _ h => h.setSpFld.updSpin))

theorem plyStop {p who} (h : MemAlike s t) : MemAlike s (t.plyStop p who) :=
  .writeEntries (.record (h.each (fun _ _ h => .ite h (.ite (.ite h.updSpin.setSpFld.setLat h.updSpin) h))))

theorem setTxData {w b bs} (h : MemAlike s t) : MemAlike s (t.setTxData w b bs) := h.each fun _ _ h => h.setReg

theorem txPending {w b} (h : MemAlike s t) : MemAlike s (t.txPending w b) := h.setFld.setFld.setLat.setLat.setLat

theorem sendOrw {ty dst payload retry life} (h : MemAlike s t) : MemAlike s (t.sendOrw ty dst payload retry life) := by
  unfold State.sendOrw
  dsimp only
  refine .ite ?_ h
  split
  · exact h
  · exact h.setReg.setReg.setTxData.txPending.setLat

theorem powerReport {result seq} (h : MemAlike s t) : MemAlike s (t.powerReport result seq) := h.sendOrw

theorem announce (h : MemAlike s t) : MemAlike s t.announce := h.sendOrw

theorem statusSend {forced} (h : MemAlike s t) : MemAlike s (t.statusSend forced) := h.record.sendOrw

theorem tbJoin {w} (h : MemAlike s t) : MemAlike s (t.tbJoin w) := .ite h.setFld.setFld.setFld h

theorem txLost {w} (h : MemAlike s t) : MemAlike s (t.txLost w) := h.setLat.each fun _ _ h => h.setFld.setLat.setLat.setLat

theorem tbRole {w o forced} (h : MemAlike s t) : MemAlike s (t.tbRole w o forced) := by
  unfold State.tbRole
  extract_lets a b c
  have ha : MemAlike s a := h.txLost.setFld.setFld
  have hb : MemAlike s b := .ite ha ha.setFld
  have hc : MemAlike s c := .ite hb.setFld.tbJoin hb
  exact hc.announce.powerReport.statusSend

theorem svOff {w c} (h : MemAlike s t) : MemAlike s (t.svOff w c) := by
  unfold State.svOff
  dsimp only
  split
  · exact h.setLat.setLat.setFld
  · exact h.setLat.setLat.setFld
  · exact h.setLat.setLat.setFld
  · exact h.setLat.setLat

theorem signalsEnd (h : MemAlike s t) : MemAlike s t.signalsEnd := h.each fun _ _ h => .ite h.putFld.event h

theorem loopsHeld {w} (h : MemAlike s t) : MemAlike s (t.loopsHeld w) := h.each fun _ _ h => .ite h.setLat h

theorem forcedFans {w} (h : MemAlike s t) : MemAlike s (t.forcedFans w) := h.each fun _ _ h => h.setFld.setFld.setLat.setLat

theorem rollbackAgain (h : MemAlike s t) : MemAlike s t.rollbackAgain := .ite (h.setWfld.each (fun _ _ h => h.setLat)) h

theorem resetSide {k} (h : MemAlike s t) : MemAlike s (t.resetSide k) :=
  .wevent (.ite h.setSide.setSide.raiseMsix.raiseMsix h.setSide.setSide)

theorem resetCdSide {d} (h : MemAlike s t) : MemAlike s (t.resetCdSide d) := h.updSticky.wevent

theorem freeLocks {p} (h : MemAlike s t) : MemAlike s (t.freeLocks p) := h.each fun _ _ h => .ite h.setWfld.wevent h

theorem putStraps {w} (h : MemAlike s t) : MemAlike s (t.putStraps w) := h.setFld.setFld

theorem resetRan {k unit cause} (h : MemAlike s t) : MemAlike s (t.resetRan k unit cause) := h.setWfld.setWfld.wevent

theorem setBnkBit {b lo} (h : MemAlike s t) : MemAlike s (t.setBnkBit b lo) := by
  cases b <;> exact h.putFld

theorem bankUsed {b} (h : MemAlike s t) : MemAlike s (t.bankUsed b) := by
  unfold State.bankUsed
  split
  · exact h.setLat
  · exact h

theorem slots {d n3} (h : MemAlike s t) : MemAlike s (t.slots d n3) := h.setLat.setReg

theorem rebuilt {d n} (h : MemAlike s t) : MemAlike s (t.rebuilt d n) := h.setReg

theorem setLinkRetired {d l} (h : MemAlike s t) : MemAlike s (t.setLinkRetired d l) := h.setReg.setReg

theorem writeRoutes (h : MemAlike s t) : MemAlike s t.writeRoutes := h.each fun _ _ h => h.setLat

theorem reroute (h : MemAlike s t) : MemAlike s t.reroute := h.writeRoutes.each fun _ _ h => h.setLat

theorem noticeAt {m bits} (h : MemAlike s t) : MemAlike s (t.noticeAt m bits) := .ite h.notice h

theorem replacePly {p qs} (h : MemAlike s t) : MemAlike s (t.replacePly p qs) := h.record

theorem memberGone {m cause} (h : MemAlike s t) : MemAlike s (t.memberGone m cause) := by
  unfold State.memberGone
  split
  · exact h
  · exact .ite h (.ite h.replacePly.plyStop.noticeAt h.replacePly.plyStop.noticeAt.event)

theorem memberLost {sp cause} (h : MemAlike s t) : MemAlike s (t.memberLost sp cause) := h.memberGone

theorem setEntryState {sp st} (h : MemAlike s t) : MemAlike s (t.setEntryState sp st) := h.setFld

theorem unclaimAll {sps} (h : MemAlike s t) : MemAlike s (t.unclaimAll sps) := h.each fun _ _ h => .ite h.setEntryState h

theorem setPlyRun {d x} (h : MemAlike s t) : MemAlike s (t.setPlyRun d x) := h.record

theorem unclaim {d} (h : MemAlike s t) : MemAlike s (t.unclaim d) := by
  unfold State.unclaim
  split
  · exact h.unclaimAll.setPlyRun
  · exact h

theorem trigger {unit fails} (h : MemAlike s t) : MemAlike s (t.trigger unit fails) := .ite h (.ite h.setLat.setLat h.setLat)

theorem noteRunning {sp} (h : MemAlike s t) : MemAlike s (t.noteRunning sp) := by
  unfold State.noteRunning
  split
  · exact .ite h.setLat h
  · exact h

theorem loseSpindle {sp cause} (h : MemAlike s t) : MemAlike s (t.loseSpindle sp cause) := by
  unfold State.loseSpindle
  dsimp only
  split
  · exact h.noteRunning.memberLost.setWfld.trigger
  · exact h.noteRunning.memberLost

theorem clearSpLats {sp} (h : MemAlike s t) : MemAlike s (t.clearSpLats sp) :=
  State.each_induct (MemAlike s) spLats _
    (fun l hl _ h => h.setLat ((by decide : ∀ l ∈ spLats, memLat l = false) l hl)) h

theorem clearSpin {sp} (h : MemAlike s t) : MemAlike s (t.clearSpin sp) := h.record.clearSpLats

theorem holdFlows {before} (h : MemAlike s t) : MemAlike s (t.holdFlows before) := h.each fun _ _ h => .ite h h.setLat.setLat

theorem loadDieT {d} (h : MemAlike s t) : MemAlike s (t.loadDieT d) := .ite (h.each (fun _ _ h => h.setReg)) h

theorem stopUnit {i} (h : MemAlike s t) : MemAlike s (t.stopUnit i) := .ite h.setLat.flush.halted h

theorem stopUnits (h : MemAlike s t) : MemAlike s t.stopUnits :=
  h.each fun _ _ h => .each (.ite h.stopUnit.setWfld h.stopUnit) (fun _ _ h => h.setLat)

theorem quiesce {d} (h : MemAlike s t) : MemAlike s (t.quiesce d) := h.setFld.setLat

theorem hold {code payload} (h : MemAlike s t) : MemAlike s (t.hold code payload) :=
  .wevent (.setLat (.setWfld (h.stopUnits.each (fun _ _ h => h.quiesce))))

theorem logRetired {u' cls} (h : MemAlike s t) : MemAlike s (t.logRetired u' cls) := .ite h.record.setWfld h.wevent

theorem setWpFld {f p x} (h : MemAlike s t) (hf : memReg f.reg (p % 4) = false := by rfl) :
    MemAlike s (t.setWpFld f p x) := h.setFld hf

theorem satWpFld {f p n} (h : MemAlike s t) (hf : memReg f.reg (p % 4) = false := by rfl) :
    MemAlike s (t.satWpFld f p n) := h.satFld hf

theorem dropFlits {p} (h : MemAlike s t) : MemAlike s (t.dropFlits p) := h.setLat.setLat.setLat.each fun _ _ h => h.setLat

/-! ## Banks -/

theorem setBankReq_congr {b x} (h : MemAlike s t) : MemAlike (s.setBankReq b x) (t.setBankReq b x) := h.putFld_congr

theorem setBankOwn_congr {b x} (h : MemAlike s t) : MemAlike (s.setBankOwn b x) (t.setBankOwn b x) := h.putFld_congr

theorem clearBank_congr {b} (h : MemAlike s t) : MemAlike (s.clearBank b) (t.clearBank b) := h.clearBytes_congr

theorem bankTouch_congr {b} (h : MemAlike s t) : PairAlike (s.bankTouch b) (t.bankTouch b) := by
  unfold State.bankTouch
  rw [h.bankSupply, h.bankReq, h.bankOwn]
  refine .ite ⟨rfl, h⟩ (.ite ⟨rfl, h.bankUsed.symm.bankUsed.symm⟩ ?_)
  extract_lets a b'
  have hab : MemAlike a b' := by
    refine .ite_congr h ?_
    cases b with
    | pad sp k => exact h.setBankReq_congr.setBnkBit.symm.setBnkBit.symm.event.symm.event.symm
    | sram w k => exact h.setBankReq_congr.setBnkBit.symm.setBnkBit.symm
  rw [hab.bankOwn]
  exact .ite ⟨rfl, hab.bankUsed.symm.bankUsed.symm⟩ ⟨rfl, hab.setBankOwn_congr⟩

theorem mtestRestore_congr {b} (h : MemAlike s t) : MemAlike (s.mtestRestore b) (t.mtestRestore b) :=
  h.setLat_congr.putFld_congr

theorem bankName_congr {b off n} (h : MemAlike s t) : MemAlike (s.bankName b off n) (t.bankName b off n) := by
  unfold State.bankName
  rw [h.borrowedIn]
  split
  · exact .ite_congr h.mtestRestore_congr h
  · exact h

theorem moveBank_congr {b off n} (h : MemAlike s t) : PairAlike (s.moveBank b off n) (t.moveBank b off n) := by
  have hb : PairAlike (s.bankReach b off n) (t.bankReach b off n) := h.bankName_congr.bankTouch_congr
  unfold State.moveBank
  generalize s.bankReach b off n = x at hb ⊢
  generalize t.bankReach b off n = y at hb ⊢
  obtain ⟨a, u⟩ := x
  obtain ⟨c, v⟩ := y
  obtain ⟨rfl : c = a, huv⟩ := hb
  cases c <;> exact ⟨rfl, huv⟩

/-! ## What is lost, and quarries -/

theorem clearDieMem_congr {d dark} (h : MemAlike s t) : MemAlike (s.clearDieMem d dark) (t.clearDieMem d dark) :=
  h.clearBytes_congr

theorem clearSlice_congr {d} (h : MemAlike s t) : MemAlike (s.clearSlice d) (t.clearSlice d) := by
  unfold State.clearSlice
  extract_lets a gone b
  have hab : MemAlike a b := h.clearBytes_congr
  exact { hab with losses := by rw [hab.losses], flaws := by rw [hab.flaws] }

/-- A region hurt by a loss. -/
theorem rgnLost_congr {d k} (h : MemAlike s t) :
    MemAlike
      (match s.rgnState d k with
        | 1 => s.setLat .rgnHurt d k 1
        | 5 => s
        | _ => s.setFld fQD_RGN_INFO_STATE d k 4)
      (match t.rgnState d k with
        | 1 => t.setLat .rgnHurt d k 1
        | 5 => t
        | _ => t.setFld fQD_RGN_INFO_STATE d k 4) := by
  rw [h.rgnState]
  split
  · exact h.setLat_congr
  · exact h
  · exact h.setFld_congr

theorem noteLosses_congr {a b : State} {d ps o} (h : MemAlike s t) (k : MemAlike a b) :
    MemAlike (s.noteLosses a d ps o) (t.noteLosses b d ps o) := by
  unfold State.noteLosses
  simp only [h.rgnSlots, h.rgn, h.firstLost k, h.mirSlots, h.mir]
  have hu := h.each_congr (l := (s.rgnSlots d).filterMap fun k =>
      if 0x12000000000 ≤ (s.rgn d k).base then none
      else (s.firstLost a d ps ((s.rgn d k).base - sliceBase d) (s.rgn d k).size (s.rgn d k).mbase).map fun o => (k, o))
    fun x _ _ h => h.rgnLost_congr (d := d) (k := x.1)
  have hv := hu.each_congr (l := (s.mirSlots d).filterMap fun k =>
      (s.firstLost a d ps ((s.mir d k).mbase - sliceBase d) (s.mir d k).size (s.mir d k).base).map fun o => (k, o))
    (f := fun x u => if u.mirState d x.1 = 1 then u else u.setFld fQD_MIR_INFO_STATE d x.1 4)
    (g := fun x u => if u.mirState d x.1 = 1 then u else u.setFld fQD_MIR_INFO_STATE d x.1 4)
    fun x _ _ h => by
      rw [h.mirState]
      exact .ite_congr h h.setFld_congr
  split
  · exact hv.event.symm.event.symm
  · exact hv

theorem sourcesGone_congr {a b : State} {d} (h : MemAlike s t) (k : MemAlike a b) :
    MemAlike (s.sourcesGone a d) (t.sourcesGone b d) := by
  unfold State.sourcesGone
  simp only [k.pcsDown, k.guarded, h.shields]
  exact .ite_congr h (h.lose_congr.noteLosses_congr k)

theorem retirePc_congr {d p} (h : MemAlike s t) : MemAlike (s.retirePc d p) (t.retirePc d p) := by
  unfold State.retirePc
  rw [h.pcsDown, h.shields, h.spareTakes, h.guarded, h.reg (r := .QD_OPEN_TOP) rfl]
  extract_lets others safe w a b c es l m x a' b' c' l' m' x'
  have ha : MemAlike a a' := h.setFld_congr.incFld.symm.incFld.symm
  have hb : MemAlike b b' := ha.both (.ite (refl a).setFld (refl a)) (.ite (refl a').setFld (refl a'))
  have hl : MemAlike l l' := hb.event.symm.event.symm.lose_congr
  have hm : MemAlike m m' := hl.setLat_congr
  have hx : MemAlike x x' := .ite_congr hm.setLat_congr hm.setLat_congr.event.symm.event.symm
  exact hx.noteLosses_congr h

theorem quarryLoss_congr {d} (h : MemAlike s t) : MemAlike (s.quarryLoss d) (t.quarryLoss d) := by
  unfold State.quarryLoss
  rw [h.lat rfl]
  refine .ite_congr h ?_
  extract_lets snap um a b snap' um' a' b'
  have ha : MemAlike a a' := h.setLat_congr.setLat.setLat.symm.setLat.setLat.symm
  have hb : MemAlike b b' := by
    simp only [b, b', ha.quarryUp]
    exact ha.each_congr fun _ _ _ k => k.sourcesGone_congr h
  exact hb.trigger.symm.trigger.symm

/-! ## Dies and rails -/

theorem dieGone_congr {d dark} (h : MemAlike s t) : MemAlike (s.dieGone d dark) (t.dieGone d dark) := by
  unfold State.dieGone
  extract_lets sps a b c e f g l r x a' b' c' e' f' g' l' r' x'
  have ha : MemAlike a a' := h.both ((refl s).each fun _ _ h => h.loseSpindle) ((refl t).each fun _ _ h => h.loseSpindle)
  have hb : MemAlike b b' :=
    (ha.both ((refl a).each fun _ _ h => h.clearSpin) ((refl a').each fun _ _ h => h.clearSpin)).clearDieMem_congr
  have he : MemAlike e e' := h.quarryLoss_congr.setSkein_congr
  have hg : MemAlike g g' :=
    .ite_congr (hb.freeLocks.resetCdSide.dropWaits.unclaim.symm.freeLocks.resetCdSide.dropWaits.unclaim.symm) <|
      .ite_congr (.ite_congr he.clearSlice_congr he) <| .ite_congr h.record.symm.record.symm <|
        .ite_congr h.freeLocks.record.symm.freeLocks.record.symm h
  have hr : MemAlike r r' := hg.resetLats_congr.resetRegs_congr
  have hx : MemAlike x x' := .ite_congr hr hr.loadDieT.symm.loadDieT.symm
  exact .ite_congr hx.holdFlows.symm.holdFlows.symm hx

theorem railsOpen_congr {d cause} (h : MemAlike s t) : MemAlike (s.railsOpen d cause) (t.railsOpen d cause) := by
  unfold State.railsOpen
  rw [h.flag rfl]
  refine .ite_congr ?_ h
  extract_lets a b
  have hab : MemAlike a b := h.setFld_congr.setWfld_congr
  exact dieGone_congr (.ite_congr hab hab.setFld_congr)

theorem isolate_congr {d cause} (h : MemAlike s t) : MemAlike (s.isolate d cause) (t.isolate d cause) :=
  h.setFld_congr.railsOpen_congr

/-! ## Units retired -/

theorem addRetired_congr {u} (h : MemAlike s t) : MemAlike (s.addRetired u) (t.addRetired u) := by
  unfold State.addRetired
  rw [h.sticky.1]
  refine .ite_congr h ?_
  extract_lets a b
  have hab : MemAlike a b := h.updSticky_congr fun k l hk => ⟨by rw [hk.1], hk.2⟩
  exact hab.setWfld.symm.setWfld.symm

theorem twinOn_congr {d k} (h : MemAlike s t) : MemAlike (s.twinOn d k) (t.twinOn d k) := by
  unfold State.twinOn
  rw [h.flag rfl, h.dieUp, h.fld rfl]
  exact .ite_congr h h.setFld_congr.setFld_congr

theorem freshSpindle_congr {sp} (h : MemAlike s t) : MemAlike (s.freshSpindle sp) (t.freshSpindle sp) := by
  unfold State.freshSpindle
  extract_lets pm a pm' a'
  have ha : MemAlike a a' := h.resetRegs_congr
  exact ha.clearSpin.setSpFld.symm.clearSpin.setSpFld.symm

theorem banksOff_congr {sp} (h : MemAlike s t) : MemAlike (s.banksOff sp) (t.banksOff sp) :=
  h.each_congr fun _ _ _ h => by
    dsimp only
    rw [h.bankReq]
    exact h.setBankOwn_congr.clearBank_congr

theorem remap_congr {d sp} (h : MemAlike s t) : MemAlike (s.remap d sp) (t.remap d sp) := by
  unfold State.remap
  have hl : MemAlike (s.loseSpindle sp 0) (t.loseSpindle sp 0) := h.loseSpindle.symm.loseSpindle.symm
  dsimp only
  rw [hl.spareOf]
  split
  · next ph _ =>
    have hf := (hl.twinOn_congr (d := d) (k := ph / 2)).setFld_congr (f := fSPN_MAP_PHYS) (d := spDie sp) (i := spIdx sp)
      (x := ph)
    exact hf.setFld_congr.freshSpindle_congr.banksOff_congr.setReg_congr.wevent.symm.wevent.symm
  · have hb : MemAlike ((((s.loseSpindle sp 0).setLat .slotRetired sp 0 1).clearSpin sp).banksOff sp)
        ((((t.loseSpindle sp 0).setLat .slotRetired sp 0 1).clearSpin sp).banksOff sp) :=
      hl.setLat_congr.clearSpin.symm.clearSpin.symm.banksOff_congr
    exact hb.both (.ite (refl _).freeLocks.setLat.event (refl _).freeLocks)
      (.ite (refl _).freeLocks.setLat.event (refl _).freeLocks)

theorem remapSlot_congr {d} (o : Option Nat) (h : MemAlike s t) :
    MemAlike (match o with | some sp => s.remap d sp | none => s) (match o with | some sp => t.remap d sp | none => t) := by
  cases o with
  | some sp => exact h.remap_congr
  | none => exact h

theorem retireSpindle_congr {d ph} (h : MemAlike s t) : MemAlike (s.retireSpindle d ph) (t.retireSpindle d ph) := by
  unfold State.retireSpindle
  rw [h.slotOf]
  exact remapSlot_congr _ h

theorem retireTwin_congr {d k} (h : MemAlike s t) : MemAlike (s.retireTwin d k) (t.retireTwin d k) := by
  unfold State.retireTwin
  rw [h.slotOf, h.slotOf]
  exact (remapSlot_congr _ (remapSlot_congr _ h.setFld_congr.addRetired_congr.addRetired_congr)).setFld_congr.setFld_congr
    |>.setFld_congr

theorem retireDie_congr {d} (h : MemAlike s t) : MemAlike (s.retireDie d) (t.retireDie d) :=
  h.setLat_congr.isolate_congr.event.symm.event.symm

theorem retireLink {d l} (h : MemAlike s t) : MemAlike s (t.retireLink d l) := h.setLinkRetired.event.reroute

theorem retireStop_congr {d} (h : MemAlike s t) : MemAlike (s.retireStop d) (t.retireStop d) := by
  unfold State.retireStop
  extract_lets a b
  have hab : MemAlike a b := h.setLat_congr.event.reroute.symm.event.reroute.symm
  exact .ite_congr (hab.both ((refl a).each fun _ _ h => h.loseSpindle) ((refl b).each fun _ _ h => h.loseSpindle))
    (.ite_congr hab.quarryLoss_congr hab)

/-! ## Flash tables and firmware -/

/-- A register whose entries reads of memory depend on is in no section of the flash tables but that of the thresholds. -/
theorem flashSection_of_memReg {r : Reg} {i : Nat} (h : memReg r i = true) : r = .WD_FLT_THR ∨ flashSection r = 0 := by
  unfold flashSection
  split
  · exact .inl rfl
  rotate_right
  · exact .inr rfl
  all_goals cases h

/-- The section of the thresholds has no other register. -/
theorem eq_of_flashSection {r : Reg} (h : flashSection r = 1) : r = .WD_FLT_THR := by
  unfold flashSection at h
  split at h
  · rfl
  all_goals cases h

theorem not_mem_tableSections (k : Nat) : 0 ∉ tableSections k := by
  unfold tableSections
  split <;> decide

/-- What an image gives is of one of its table's sections. -/
theorem section_of_mem_imageOf {k : Nat} {body : List Byte} {x : Reg × Nat × W64} (h : x ∈ imageOf k body) :
    flashSection x.1 ∈ tableSections k := by
  obtain ⟨kv, -, hx⟩ := List.mem_filterMap.mp h
  dsimp only at hx
  split at hx
  · split at hx
    · next hc => cases hx; exact List.contains_iff_mem.mp hc
    · cases hx
  · cases hx

/-- Of what reads of memory depend on an image gives the thresholds at most. -/
theorem eq_of_mem_imageOf {k : Nat} {body : List Byte} {x : Reg × Nat × W64} (h : x ∈ imageOf k body)
    (hm : memReg x.1 x.2.1 = true) : x.1 = .WD_FLT_THR :=
  (flashSection_of_memReg hm).resolve_right fun e => not_mem_tableSections k (e ▸ section_of_mem_imageOf h)

/-- Whether the thresholds are rejected follows from the image. -/
theorem badSections_contains_one (s t : State) (w k : Nat) (body : List Byte) :
    (t.badSections w k body).contains 1 = (s.badSections w k body).contains 1 := by
  have hb : ∀ u v : State, (imageOf k body).any (fun y => flashSection y.1 == 1 && u.loadBad w y.1 y.2.1 y.2.2) =
      (imageOf k body).any (fun y => flashSection y.1 == 1 && v.loadBad w y.1 y.2.1 y.2.2) := fun u v =>
    congrArg _ <| funext fun y => by
      by_cases hy : flashSection y.1 = 1
      · rw [eq_of_flashSection hy]
        rfl
      · rw [beq_eq_false_iff_ne.mpr hy, Bool.false_and, Bool.false_and]
  rw [Bool.eq_iff_iff]
  simp only [State.badSections, List.contains_iff_mem, List.mem_filter]
  rw [hb]

/-- The firmware is in no section. -/
theorem badSections_eq_nil (s : State) (w : Nat) {k : Nat} (body : List Byte) (hk : k ≤ 1) : s.badSections w k body = [] := by
  interval_cases k <;> rfl

theorem putImage_filter_cons (s : State) (w : Nat) (p : Reg × Nat × W64 → Bool) (x : Reg × Nat × W64)
    (l : List (Reg × Nat × W64)) :
    s.putImage w ((x :: l).filter p) =
      (if p x = true then
        s.setReg x.1 w x.2.1 ((s.reg x.1 w x.2.1 &&& ~~~(maskT x.1)) ||| (x.2.2 &&& maskT x.1))
      else s).putImage w (l.filter p) := by
  rw [List.filter_cons]
  split <;> rfl

/-- Parts of one image that give the same thresholds. -/
theorem putImage_congr {w : Nat} {l : List (Reg × Nat × W64)} {p q : Reg × Nat × W64 → Bool} (h : MemAlike s t)
    (hpq : ∀ x ∈ l, memReg x.1 x.2.1 = true → q x = p x) :
    MemAlike (s.putImage w (l.filter p)) (t.putImage w (l.filter q)) := by
  induction l generalizing s t with
  | nil => exact h
  | cons x l ih =>
    rw [putImage_filter_cons, putImage_filter_cons]
    refine ih ?_ (List.forall_mem_of_forall_mem_cons hpq)
    cases hx : memReg x.1 x.2.1 with
    | true =>
      rw [hpq x List.mem_cons_self hx]
      exact .ite_congr (h.setReg_congr_of fun hr => by rw [h.reg_of hr]) h
    | false => exact h.both (.ite ((refl s).setReg hx) (refl s)) (.ite ((refl t).setReg hx) (refl t))

theorem loadFirmware_congr {w c} (h : MemAlike s t) : MemAlike (s.loadFirmware w c) (t.loadFirmware w c) := by
  unfold State.loadFirmware
  rw [h.flash, h.now]
  exact h.setBytes_congr.setLat_congr

theorem retryFirmware_congr {a b : State} {w} (h : MemAlike s t) (k : MemAlike a b) :
    MemAlike (s.retryFirmware w a) (t.retryFirmware w b) := by
  unfold State.retryFirmware
  rw [k.fallbackCopy, k.lat rfl, h.flash]
  dsimp only
  split
  · exact h.setFld_congr.setFld_congr.loadFirmware_congr.event.symm.event.symm
  · exact .ite_congr h h.setLat_congr

theorem loadTable_congr {w k} (h : MemAlike s t) : MemAlike (s.loadTable w k) (t.loadTable w k) := by
  unfold State.loadTable
  rw [h.flashCopy, h.copyValid, h.copyValid, h.flash]
  extract_lets c one a e f b l bs bad m x y a' e' f' b' l' bs' bad' m' x' y'
  have ha : MemAlike a a' := .ite_congr h.event.symm.event.symm h
  have hf : MemAlike f f' := MemAlike.setFld_congr <| MemAlike.setFld_congr <|
    ha.both ((refl a).each fun _ _ h => h.event) ((refl a').each fun _ _ h => h.event)
  have hb : MemAlike b b' := ha.setFld_congr.setFld_congr
  have hl : MemAlike l l' := .ite_congr hb.setLat_congr.loadFirmware_congr hb
  have hbs : bs' = bs := congrArg (fun m : SMap (List Byte) => sget [] m (2 * k + c - 1)) hl.flash
  have hm : MemAlike m m' := by
    simp only [m', bad', hbs]
    refine hl.putImage_congr fun z hz hr => ?_
    rw [eq_of_mem_imageOf hz hr]
    exact congrArg _ (badSections_contains_one ..)
  have hx : MemAlike x x' := hm.both ((refl m).each fun _ _ h => h.event) ((refl m').each fun _ _ h => h.event)
  have hy : MemAlike y y' := by
    by_cases hk : k ≤ 1
    · simp only [y, y', bad, bad', badSections_eq_nil _ _ _ hk]
      exact hx
    · have hr : memReg fWD_FLASH_TBL_LOAD.reg (k - 1) = false := by
        simp [memReg, memRegs]
        omega
      exact hx.both (.ite (refl x) ((refl x).setFld hr)) (.ite (refl x') ((refl x').setFld hr))
  rw [hbs]
  exact .ite_congr (.ite_congr hf.setLat_congr hf) (.ite_congr hl hy.setFld_congr)

theorem loadTables_congr {w} (h : MemAlike s t) : MemAlike (s.loadTables w) (t.loadTables w) := by
  unfold State.loadTables
  extract_lets a b
  have hab : MemAlike a b := h.resetRegs_congr
  have hl : MemAlike (a.each [1, 2, 3, 4, 5, 6, 7, 8] fun k u => u.loadTable w k)
      (b.each [1, 2, 3, 4, 5, 6, 7, 8] fun k u => u.loadTable w k) := hab.each_congr fun _ _ _ h => h.loadTable_congr
  exact hl.both (refl _).setFld (refl _).setFld

/-! ## The wardens' roles -/

theorem setVid_congr {d k x} (h : MemAlike s t) : MemAlike (s.setVid d k x) (t.setVid d k x) := by
  unfold State.setVid
  extract_lets a b
  have hab : MemAlike a b := h.setFld_congr
  rw [hab.twinState]
  exact .ite_congr hab.setFld_congr hab

theorem floorTwins_congr (h : MemAlike s t) : MemAlike s.floorTwins t.floorTwins :=
  h.each_congr fun _ _ _ h => h.each_congr fun _ _ _ h => by
    rw [h.twinState, h.fld rfl]
    exact .ite_congr h.setVid_congr h

/-- The solenoids of a forced emergency are no part of it. -/
theorem forcedSolenoid {w c} (h : MemAlike s t) :
    MemAlike s
      (if t.closing w c then
        let p := t.fld fSV_STAT_PHASE w c
        let q := t.fld fSV_STAT_PHASE (otherWarden w) c
        let on := fun (x : Nat) => decide (1 ≤ x) && decide (x ≤ 3)
        t.setFld fSV_STAT_PHASE w c (if on p then p else if on q then q else 1)
      else (t.setFld fSV_CMD_ON w c 0).svOff w c) := .ite h.setFld h.setFld.svOff

theorem forcedBegin_congr {w} (h : MemAlike s t) : MemAlike (s.forcedBegin w) (t.forcedBegin w) :=
  have hf := h.floorTwins_congr
  hf.both
    ((((refl _).forcedFans.signalsEnd.loopsHeld).each fun _ _ h => h.forcedSolenoid))
    ((((refl _).forcedFans.signalsEnd.loopsHeld).each fun _ _ h => h.forcedSolenoid))

theorem takeover_congr {w} {first : State → State} (h : MemAlike s t)
    (hf : ∀ a b, MemAlike a b → MemAlike (first a) (first b)) :
    MemAlike (s.takeover w first) (t.takeover w first) := by
  unfold State.takeover
  extract_lets stale a b c e stale' a' b' c' e'
  have hb : MemAlike b b' := h.setFld_congr.setFld_congr.setFld_congr.setFld_congr.setFld_congr
  have hc : MemAlike c c' := (hf _ _ hb).rollbackAgain.wevent.symm.rollbackAgain.wevent.symm
  have he : MemAlike e e' := hc.both (.ite (refl c).wevent (refl c)) (.ite (refl c').wevent (refl c'))
  exact he.forcedBegin_congr.hostDoorbell.tbRole.symm.hostDoorbell.tbRole.symm

theorem checkRoleWith_congr {first : State → State} (h : MemAlike s t)
    (hf : ∀ a b, MemAlike a b → MemAlike (first a) (first b)) :
    MemAlike (s.checkRoleWith first) (t.checkRoleWith first) := by
  unfold State.checkRoleWith
  simp (disch := decide) only [h.aw, h.flag]
  exact .ite_congr (h.takeover_congr hf) (hf _ _ h)

theorem checkRole_congr (h : MemAlike s t) : MemAlike s.checkRole t.checkRole := h.checkRoleWith_congr fun _ _ => id

theorem wdr_congr {w cause} (h : MemAlike s t) : MemAlike (s.wdr w cause) (t.wdr w cause) := by
  unfold State.wdr
  extract_lets a b c e f g i j k l m n o a' b' c' e' f' g' i' j' k' l' m' n' o'
  have hb : MemAlike b b' := h.setFld_congr.setFld_congr.setFld_congr
  have hc : MemAlike c c' := hb.resetRegs_congr
  have he : MemAlike e e' := (hc.dropWaits.symm.dropWaits.symm.resetLats_congr).setLat_congr
  have hf : MemAlike f f' := he.clearBytes_congr
  have hg : MemAlike g g' :=
    (hf.putStraps.symm.putStraps.symm.loadTables_congr.retryFirmware_congr h).setFld.symm.setFld.symm
  have hi : MemAlike i i' := hg.setFld.symm.setFld.symm
  have hj : MemAlike j j' := hi.both ((refl i).each fun _ _ h => h.setFld) ((refl i').each fun _ _ h => h.setFld)
  have hk : MemAlike k k' := hj.both ((refl j).each fun _ _ h => h.setFld) ((refl j').each fun _ _ h => h.setFld)
  have hl : MemAlike l l' := by
    simp only [l, l']
    rw [hk.flag rfl]
    exact .ite_congr hk.forcedBegin_congr.setLat.symm.setLat.symm hk
  have hm : MemAlike m m' := hl.resetSide.resetSide.symm.resetSide.resetSide.symm
  have hn : MemAlike n n' := hm.checkRoleWith_congr fun _ _ h => .ite_congr h.event.symm.event.symm h
  have ho : MemAlike o o' := hn.freeLocks.symm.freeLocks.symm
  exact ho.setLat.resetRan.symm.setLat.resetRan.symm

/-! ## Occurrences -/

theorem retirePort_congr {p} (h : MemAlike s t) : MemAlike (s.retirePort p) (t.retirePort p) := by
  unfold State.retirePort
  extract_lets a b
  have hs : MemAlike ((s.setWpFld fWP_PORT_STAT_STATE p 5).setWpFld fWP_PORT_STAT_LANES_UP p 0)
      ((t.setWpFld fWP_PORT_STAT_STATE p 5).setWpFld fWP_PORT_STAT_LANES_UP p 0) := setFld_congr h.setFld_congr
  have hab : MemAlike a b := hs.dropFlits.symm.dropFlits.symm
  exact hab.event.holdFlows.symm.event.holdFlows.symm

/-- What takes a further occurrence does the same to states that reads of memory cannot tell apart. -/
def Congruent (again : State → Nat → Nat → State) : Prop :=
  ∀ {a b} cls u, MemAlike a b → MemAlike (again a cls u) (again b cls u)

variable {again : State → Nat → Nat → State}

theorem warpRetrain_congr {p} (h : MemAlike s t) (ha : Congruent again) :
    MemAlike (s.warpRetrain again p) (t.warpRetrain again p) := by
  unfold State.warpRetrain
  extract_lets a b c a' b' c'
  have hs : MemAlike (s.setWpFld fWP_PORT_STAT_STATE p 1) (t.setWpFld fWP_PORT_STAT_STATE p 1) := h.setFld_congr
  have h1 : MemAlike a a' := hs.satWpFld.setWpFld.symm.satWpFld.setWpFld.symm
  have hu : MemAlike (a.setWpFld fWP_PORT_STAT_LANES_UP p 0) (a'.setWpFld fWP_PORT_STAT_LANES_UP p 0) := h1.setFld_congr
  have h2 : MemAlike b b' := hu.setLat.symm.setLat.symm
  have h3 : MemAlike c c' := h2.event.holdFlows.symm.event.holdFlows.symm
  exact ha _ _ h3

theorem retireLane_congr {p l} (h : MemAlike s t) (ha : Congruent again) :
    MemAlike (s.retireLane again p l) (t.retireLane again p l) := by
  unfold State.retireLane
  rw [h.wpFld rfl, h.lat rfl]
  extract_lets m a b
  have hs : MemAlike (s.setWpFld fWP_PORT_STAT_RETIRED_LANES p m) (t.setWpFld fWP_PORT_STAT_RETIRED_LANES p m) :=
    h.setFld_congr
  have hab : MemAlike a b := hs.event.symm.event.symm
  rw [hab.wpFld rfl]
  exact .ite_congr hab.addRetired_congr.retirePort_congr (.ite_congr hab (hab.warpRetrain_congr ha))

theorem enact_congr {u} (h : MemAlike s t) (ha : Congruent again) : MemAlike (s.enact again u) (t.enact again u) :=
  .ite_congr (.ite_congr h.wdr_congr.setLat.symm.setLat.symm.checkRole_congr h) <|
    .ite_congr h.retireDie_congr <| .ite_congr h.retireLink.symm.retireLink.symm <| .ite_congr h.retireStop_congr <|
      .ite_congr (.ite_congr h.retireSpindle_congr (.ite_congr h.retireTwin_congr h)) <|
        .ite_congr (.ite_congr h.retirePc_congr h) <|
          .ite_congr (.ite_congr h.retirePort_congr (.ite_congr (h.retireLane_congr ha) h)) h

theorem retireUnit_congr {u cls} (h : MemAlike s t) (ha : Congruent again) :
    MemAlike (s.retireUnit again u cls) (t.retireUnit again u cls) := by
  unfold State.retireUnit
  rw [h.isRetired, h.isRetired]
  refine .ite_congr h ?_
  exact (enact_congr h.addRetired_congr.event.symm.event.symm ha).logRetired.symm.logRetired.symm

theorem takeAction_congr {cls u} (h : MemAlike s t) (ha : Congruent again) :
    MemAlike (s.takeAction again cls u) (t.takeAction again cls u) := by
  unfold State.takeAction
  rw [h.wfld rfl]
  split
  · exact h.event.symm.event.symm
  · exact h.retireUnit_congr ha
  · exact h.retireUnit_congr ha
  · exact h.hold.symm.hold.symm
  · exact h

theorem tally_congr {k v} (h : MemAlike s t) :
    MemAlike (s.updSticky fun x => { x with tallies := sset (0, 0) x.tallies k v })
      (t.updSticky fun x => { x with tallies := sset (0, 0) x.tallies k v }) :=
  h.updSticky_congr fun _ _ hk => ⟨hk.1, by rw [hk.2]⟩

theorem occurN_congr (n : Nat) : Congruent (State.occurN n) := by
  induction n with
  | zero => exact fun _ _ h => h
  | succ n ih =>
    intro s t cls u h
    unfold State.occurN
    simp (disch := decide) only [h.isRetired, h.sticky.2, h.wfld, h.now]
    refine .ite_congr h ?_
    exact .ite_congr (h.tally_congr.takeAction_congr ih) h.tally_congr

theorem occur_congr {cls u} (h : MemAlike s t) : MemAlike (s.occur cls u) (t.occur cls u) := occurN_congr 4 cls u h

/-! ## Reads -/

theorem fragCorrect_congr {a} (h : MemAlike s t) : MemAlike (s.fragCorrect a) (t.fragCorrect a) :=
  h.setFlaw_congr.satFld_congr.event.symm.event.symm.occur_congr

theorem fragUncorrected_congr {a b} (h : MemAlike s t) : MemAlike (s.fragUncorrected a b) (t.fragUncorrected a b) :=
  h.satFld_congr.event.symm.event.symm.occur_congr

theorem fragRebuild_congr {a x} (h : MemAlike s t) : MemAlike (s.fragRebuild a x) (t.fragRebuild a x) := by
  unfold State.fragRebuild
  rw [h.flaw]
  exact .ite_congr h.slots.rebuilt.symm.slots.rebuilt.symm
    (.ite_congr h.slots.slots.symm.slots.slots.symm.setFlaw_congr h.slots.symm.slots.symm)

theorem noteRaw_congr {a} (h : MemAlike s t) : MemAlike (s.noteRaw a) (t.noteRaw a) := by
  have hs : ∀ {d n}, MemAlike (s.slots d n) (t.slots d n) := h.slots.symm.slots.symm
  unfold State.noteRaw
  rw [h.isLost, h.flaw, h.degradedAt, h.rebuilder, h.cxlLost]
  refine .ite_congr (.ite_congr h ?_) (.ite_congr h.event.symm.event.symm h)
  split
  · refine .ite_congr ?_ hs
    split
    · exact h.fragRebuild_congr
    · exact hs
  · exact h.fragCorrect_congr.slots.symm.slots.symm
  · split
    · exact h.fragUncorrected_congr.fragRebuild_congr
    · exact h.fragUncorrected_congr.slots.symm.slots.symm

theorem noteRead_congr {a n} (h : MemAlike s t) : MemAlike (s.noteRead a n) (t.noteRead a n) := by
  refine (List.foldl_rel (r := PairAlike) (a := (true, s)) (b := (true, t)) ⟨rfl, h⟩ ?_).2
  rintro p - ⟨go, u⟩ ⟨_, v⟩ ⟨rfl, hv⟩
  dsimp only at hv ⊢
  rw [hv.rawAt]
  refine .ite ?_ ⟨rfl, hv⟩
  split
  · exact ⟨hv.fragOk _, hv.noteRaw_congr⟩
  · exact ⟨rfl, hv⟩

/-- Two readings that are the same, each with a state, where reads of memory cannot tell the states apart. -/
def ReadAlike (x y : Status × List Byte × State) : Prop := y.1 = x.1 ∧ PairAlike x.2 y.2

theorem ReadAlike.ite {p : Prop} {i : Decidable p} {a b x y : Status × List Byte × State} (h : ReadAlike a b)
    (k : ReadAlike x y) : ReadAlike (if p then a else x) (if p then b else y) := by
  split
  · exact h
  · exact k

theorem moveBankPiece_congr {b off n c m} (h : MemAlike s t) :
    ReadAlike
      (if (s.moveBank b off n).1 = .ok then (.ok, s.bytes c m, (s.moveBank b off n).2)
        else ((s.moveBank b off n).1, [], (s.moveBank b off n).2))
      (if (t.moveBank b off n).1 = .ok then (.ok, t.bytes c m, (t.moveBank b off n).2)
        else ((t.moveBank b off n).1, [], (t.moveBank b off n).2)) := by
  have hb : PairAlike (s.moveBank b off n) (t.moveBank b off n) := h.moveBank_congr
  rw [hb.1, h.bytes]
  exact .ite ⟨rfl, rfl, hb.2⟩ ⟨rfl, rfl, hb.2⟩

theorem movePiece_congr {a n} (h : MemAlike s t) : ReadAlike (s.movePiece a n) (t.movePiece a n) := by
  unfold State.movePiece
  rw [h.locate, h.readSlow]
  split
  · exact ⟨rfl, rfl, h.noteRead_congr⟩
  · exact ⟨rfl, rfl, h.noteRead_congr⟩
  · rw [h.padUp]
    exact .ite h.moveBankPiece_congr ⟨rfl, rfl, h⟩
  · rw [h.dieAnswer, h.bytes]
    exact .ite ⟨rfl, rfl, h⟩ ⟨rfl, rfl, h⟩
  · exact h.moveBankPiece_congr
  · rw [h.dieAnswer]
    exact .ite ⟨rfl, rfl, h⟩ ⟨rfl, rfl, h⟩
  · rw [h.dieAnswer]
    exact .ite ⟨rfl, rfl, h⟩ ⟨rfl, rfl, h⟩
  · exact ⟨rfl, rfl, h⟩

theorem readEach_congr {l} (h : MemAlike s t) : ReadAlike (s.readEach l State.movePiece) (t.readEach l State.movePiece) := by
  refine List.foldl_rel (r := ReadAlike) (a := (.ok, [], s)) (b := (.ok, [], t)) ⟨rfl, rfl, h⟩ ?_
  rintro p - ⟨st, bs, u⟩ ⟨_, _, v⟩ ⟨rfl, rfl, hv⟩
  dsimp only at hv ⊢
  obtain ⟨h1, h2, h3⟩ := hv.movePiece_congr (a := p.1) (n := p.2)
  rw [h1, h2]
  exact .ite ⟨rfl, rfl, hv⟩ ⟨rfl, rfl, h3⟩

end MemAlike

end Sys2Proof.Machine
end

section
/-! PROOF. Collective commands (R302, R303, R306 to R309). Where a command queues or ends a descriptor, the engine's queue
and WP_COLL_STAT differ while it goes on; what it goes on to read of the package depends on neither (`MemAlike`). -/

set_option Elab.async false

namespace Sys2Proof.Machine

variable {c : Change} {s t u : State} {j : CollJob} {g n : Nat} {m : Master} {v : W64}

/-! ## A doorbell changes no memory and no collective -/

/-- What a doorbell may change: registers, latches and spindles, and through a warden's mailbox its sticky block. -/
def ringFrame : Change :=
  { regs := fun _ _ _ => true, lats := fun _ _ _ => true, spins := fun _ => true, records := true, tallies := true,
    retired := true, pairs := true }

theorem ringFrame_records : ringFrame.Records := ⟨fun _ _ _ _ => rfl, fun _ _ _ _ => rfl, rfl, rfl⟩

theorem Only.setSticky_ring (s : State) (d : Nat) (k : Sticky) : Only ringFrame s (s.setStickyOf d k) := by
  unfold State.setStickyOf
  split <;> simp [Only, ringFrame] <;> exact ⟨fun _ => rfl, fun _ => rfl⟩

theorem Only.setFld_ring (s : State) (f : RField) (d i x : Nat) : Only ringFrame s (s.setFld f d i x) :=
  Only.setFld _ _ _ _ fun _ _ => rfl

theorem Only.setLat_ring (s : State) (l : Lat) (d i x : Nat) : Only ringFrame s (s.setLat l d i x) := Only.setLat _ _ _ _ rfl

theorem Only.event_ring (s : State) (code : Nat) (sev : Sev) (unit payload : Nat) :
    Only ringFrame s (s.event code sev unit payload) := Only.event _ _ _ _ ringFrame_records

theorem Only.twinOn_ring (s : State) (d k : Nat) : Only ringFrame s (s.twinOn d k) :=
  Only.ite (Only.refl _ _) ((Only.setFld_ring ..).trans (Only.setFld_ring ..))

theorem waitFrame_le_ring (s : State) (sp : Nat) : (s.waitFrame sp).Le ringFrame := by
  constructor <;> simp [ringFrame, State.waitFrame, State.wordFrame]

theorem Only.testWait_ring (s : State) (sp : Nat) : Only ringFrame s (s.testWait sp) := by
  unfold State.testWait
  refine Only.ite ?_ (Only.refl _ _)
  split
  · split
    · exact (Only.endWait _).mono (waitFrame_le_ring s sp)
    · exact Only.refl _ _
  · exact Only.refl _ _

theorem Only.doorbell_ring (s : State) (sp bits : Nat) : Only ringFrame s (s.doorbell sp bits) := by
  unfold State.doorbell
  extract_lets a b
  have ha : Only ringFrame s a := Only.setFld_ring ..
  have hb : Only ringFrame s b := Only.ite (ha.trans (Only.setLat_ring ..)) ha
  exact Only.ite (Only.event_ring ..) (Only.ite (hb.trans (Only.twinOn_ring ..)) (hb.trans (Only.testWait_ring ..)))

theorem Only.flitLeaves_ring (s : State) (pkg unit addr : Nat) (response late : Bool) :
    Only ringFrame s (s.flitLeaves pkg unit addr response late) := by
  unfold State.flitLeaves
  split
  · exact (Only.setLat_ring ..).trans (Only.setLat_ring ..)
  · exact Only.refl _ _

theorem Only.wardenDoorbell_ring (s : State) (d bits : Nat) : Only ringFrame s (s.wardenDoorbell d bits) :=
  Only.ite ((Only.setSticky_ring ..).trans (Only.setSticky_ring ..)) (Only.setSticky_ring ..)

theorem Only.ring (s : State) (d unit bits : Nat) (tgt : W64) (h : Only ringFrame s u) :
    Only ringFrame s ((s.ring d unit tgt bits).getD u) := by
  unfold State.ring
  split
  · split
    · exact Only.flitLeaves_ring ..
    · exact h
  · split
    · exact Only.wardenDoorbell_ring ..
    · split
      · exact h
      · exact Only.doorbell_ring ..

/-! ## The end of a descriptor (R308) -/

/-- Another queue of collectives, where the frame names the collectives. -/
theorem Only.coll (s : State) (l : List CollJob) (h : c.coll = true) : Only c s { s with coll := l } := by
  simp [Only, h]
  exact ⟨fun _ _ _ _ => rfl, fun _ _ _ _ => rfl, fun _ _ => rfl, fun _ _ => rfl, fun _ _ => rfl⟩

/-- What the end of a descriptor sets off before WP_COLL_STAT shows it: its doorbell and its event. -/
def State.collTold (s : State) (j : CollJob) (result : Nat) : State :=
  let t := if result = 0 ∧ j.dbe then
      (s.ring 56 (dieUnit 56) j.target (2 ^ j.dbbit)).getD (s.event 0x3F01 .warn (dieUnit 56) j.target.toNat)
    else s
  match result with
  | 5 => t.event 0x3502 .warn (dieUnit 56) j.seq
  | 6 => t.event 0x3503 .fault (dieUnit 56) j.seq
  | _ => t

theorem State.collEnd_eq (s : State) (j : CollJob) (result : Nat) :
    s.collEnd j result =
      ((((({ s with coll := s.coll.erase j } : State).collTold j result).setFld fWP_COLL_STAT_RESULT 56 0 result).setFld
        fWP_COLL_STAT_SEQ 56 0 j.seq).setFld fWP_COLL_STAT_GROUP 56 0 j.group).collShow := rfl

theorem Only.collTold (s : State) (j : CollJob) (result : Nat) : Only ringFrame s (s.collTold j result) := by
  unfold State.collTold
  extract_lets a
  have ha : Only ringFrame s a := Only.ite (Only.ring _ _ _ _ _ (Only.event_ring ..)) (Only.refl _ _)
  split
  · exact ha.trans (Only.event_ring ..)
  · exact ha.trans (Only.event_ring ..)
  · exact ha

theorem Only.coll_eq (h : Only c s t) (hc : c.coll = false) : t.coll = s.coll ∧ t.collGroups = s.collGroups := by
  obtain ⟨-, -, -, -, -, -, -, -, -, -, -, -, -, hcoll, -⟩ := h
  exact hcoll hc

theorem State.coll_collEnd (s : State) (j : CollJob) (result : Nat) : (s.collEnd j result).coll = s.coll.erase j :=
  ((Only.collTold _ j result).coll_eq rfl).1

theorem State.collGroup_collEnd (s : State) (j : CollJob) (result g : Nat) :
    (s.collEnd j result).collGroup g = s.collGroup g :=
  congrArg (sget [] · g) ((Only.collTold { s with coll := s.coll.erase j } j result).coll_eq rfl).2

theorem State.byte_collEnd (s : State) (j : CollJob) (result a : Nat) : (s.collEnd j result).byte a = s.byte a :=
  (Only.collTold _ j result).2.2.1 a rfl

theorem State.result_collEnd (s : State) (j : CollJob) {result : Nat} (h : result < 2 ^ 8) :
    (s.collEnd j result).fld fWP_COLL_STAT_RESULT 56 0 = result := by
  rw [State.collEnd_eq, State.collShow, State.fld_setFld_other (by decide), State.fld_setFld_other (by decide),
    State.fld_setFld_other (by decide)]
  exact State.fld_setFld_fits _ _ _ (by decide) h

/-! ## The engine's queue -/

theorem State.collAdvance_of_empty (h : s.coll = []) : State.collAdvance g n s = s := by
  cases n with
  | zero => rfl
  | succ n => rw [State.collAdvance, State.collHead, h]; rfl

/-- The end of the only descriptor empties the queue, and the engine rests. -/
theorem State.coll_collEnd_of_one (h : s.coll = [j] ∨ s.coll = []) (result : Nat) : (s.collEnd j result).coll = [] := by
  rw [s.coll_collEnd]
  obtain h | h := h <;> simp [h]

theorem State.collAdvance_collEnd_of_one (h : s.coll = [j] ∨ s.coll = []) (result : Nat) :
    State.collAdvance g n (s.collEnd j result) = s.collEnd j result :=
  State.collAdvance_of_empty (State.coll_collEnd_of_one h result)

theorem State.collHead_of_one (h : s.coll = [j]) (hg : j.group = g) : s.collHead g = some j := by
  rw [State.collHead, h]
  exact List.find?_cons_of_pos (by simpa using hg)

/-! ## A member lost (R309) -/

/-- A descriptor that ends with MEMBER_LOST changes the queue, WP_COLL_STAT and the recorder. -/
theorem Only.collEnd_lost (s : State) (j : CollJob) :
    Only (Change.recording { regs := theReg .WP_COLL_STAT 56 0, coll := true }) s (s.collEnd j 6) := by
  have hf : ∀ (u : State) (f : RField) (x : Nat), f.reg = .WP_COLL_STAT →
      Only (Change.recording { regs := theReg .WP_COLL_STAT 56 0, coll := true }) u (u.setFld f 56 0 x) := fun u f x hr =>
    Only.setFld _ _ _ _ fun y hy => by simp [Change.recording, orReg, hr, theReg_self _ _ _ _ (hr ▸ hy)]
  rw [State.collEnd_eq]
  exact (((((Only.coll s _ rfl).trans (Only.event _ _ _ _ (Change.records_recording _))).trans (hf _ _ _ rfl)).trans
    (hf _ _ _ rfl)).trans (hf _ _ _ rfl)).trans (hf _ _ _ rfl)

theorem collMemberLost_completes (hg : g < 16) (hd : s.dieUp 56 = true) (hc : s.coll = [j]) (hj : j.group = g) :
    Completes (.collMemberLost g) s fun t =>
      t.coll = [] ∧ t.fld fWP_COLL_STAT_RESULT 56 0 = 6 ∧ t.lat .collLost g 0 = 1 ∧ Only (Change.recording { regs := theReg .WP_COLL_STAT 56 0, lats := theLat .collLost g 0, coll := true }) s t := by
  refine .of_unit rfl (by simpa using hg) ?_
  rw [if_pos hd, State.collLose, State.collHead_of_one hc hj]
  dsimp only
  set a := s.setLat .collLost g 0 1
  have ha : a.coll = [j] ∨ a.coll = [] := .inl hc
  rw [State.collAdvance_collEnd_of_one ha]
  have hw : Only (Change.recording { regs := theReg .WP_COLL_STAT 56 0, lats := theLat .collLost g 0, coll := true }) s a :=
    Only.setLat _ _ _ _ (by simp [Change.recording, orLat, theLat_self])
  have he := Only.collEnd_lost a j
  refine ⟨State.coll_collEnd_of_one ha 6, a.result_collEnd j (by decide), ?_, hw.trans (he.mono ?_)⟩
  · exact (he.2.1 .collLost g 0 rfl).trans (s.lat_setLat_self _ _ _ _)
  · constructor <;> simp +contextual [Change.recording, orReg, orLat]

/-! ## A collective that has begun completes (R308) -/

theorem Stands.coll_of_one (h : Stands s t) (hc : s.coll = [j]) : t.coll = [j] ∨ t.coll = [] := h.coll.imp_left (·.trans hc)

/-- With its reads and its write made, the collective ends DONE. -/
theorem State.collFinish_ok (sent : List (List Byte)) (hop : j.op ≠ 1) (hn : j.count ≠ 0) (hr : (s.srcRead j).1 = .ok)
    (hw : (s.dstWrite j sent).1 = .ok) :
    s.collFinish j sent = State.collAdvance j.group 17 ((s.dstWrite j sent).2.collEnd j 0) := by
  unfold State.collFinish
  extract_lets ms m reads r len parts w
  have hrd : reads := ⟨hn, .inl hop⟩
  have hre : r = s.srcRead j := if_pos hrd
  have hwe : w = s.dstWrite j sent := by
    have hw : w = r.2.2.moveWrite asEngine (s.pkg * 2 ^ 52 + j.dst) (j.result m parts) := if_neg hn
    rw [hw]
    simp only [parts, hre]
    rfl
  rw [hre, hr, if_neg (by decide), if_neg (by decide), hwe, hw, if_neg (by decide), if_pos rfl]

theorem collComplete_completes (sent : List (List Byte)) (hg : g < 16) (hd : s.dieUp 56 = true) (hc : s.coll = [j])
    (hj : j.group = g) (hb : j.begun = true) (hop : j.op ≠ 1) (hn : j.count ≠ 0) (hr : (s.srcRead j).1 = .ok)
    (hw : (s.dstWrite j sent).1 = .ok) :
    Completes (.collComplete g sent) s fun t =>
      t.coll = [] ∧ t.fld fWP_COLL_STAT_RESULT 56 0 = 0 ∧ (∀ a, t.byte a = (s.dstWrite j sent).2.byte a) := by
  refine .of_unit rfl (by simpa using hg) ?_
  rw [State.collHead_of_one hc hj]
  dsimp only
  rw [if_pos ⟨hb, hd⟩, State.collFinish_ok sent hop hn hr hw]
  have hs : Stands s (s.dstWrite j sent).2 := ((Stands.refl s).moveRead rfl).moveWrite rfl
  have hq := hs.coll_of_one hc
  rw [State.collAdvance_collEnd_of_one hq]
  exact ⟨State.coll_collEnd_of_one hq 0, State.result_collEnd _ j (by decide), fun a => State.byte_collEnd _ j 0 a⟩

/-! ## A matched collective begins (R307) -/

/-- The first entry of a list that meets a test, changed so that it meets it still, is the first that does. -/
theorem find?_modify_idxOf {α : Type} [DecidableEq α] {p : α → Bool} {f : α → α} {x : α} {l : List α} (h : l.find? p = some x)
    (hf : p (f x) = true) : (l.modify (l.idxOf x) f).find? p = some (f x) := by
  induction l with
  | nil => cases h
  | cons y l ih =>
    cases hy : p y with
    | true =>
      rw [List.find?_cons_of_pos hy] at h
      cases h
      rw [List.idxOf_cons_self, List.modify_zero_cons, List.find?_cons_of_pos hf]
    | false =>
      rw [List.find?_cons_of_neg (by simp [hy])] at h
      have hne : y ≠ x := by
        rintro rfl
        simp [List.find?_some h] at hy
      rw [List.idxOf_cons_ne _ hne, List.modify_succ_cons, List.find?_cons_of_neg (by simp [hy])]
      exact ih h

theorem collBegin_completes (hg : g < 16) (hd : s.dieUp 56 = true) (hh : s.collHead g = some j) (hb : j.begun = false)
    (hop : j.op ≠ 6) :
    Completes (.collBegin g true) s fun t =>
      t.collHead g = some { j with begun := true } ∧ Only ({ coll := true }) s t := by
  refine .of_unit rfl (by simpa using hg) ?_
  rw [hh]
  dsimp only
  rw [if_neg (by simp [hb, hd]), if_neg hop, if_pos (.inl rfl)]
  exact ⟨find?_modify_idxOf hh (List.find?_some hh :), Only.coll s _ rfl⟩

/-! ## A descriptor is queued (R302, R306) -/

/-- The state after a descriptor joined the queue and WP_COLL_STAT shows it. -/
def State.collQueued (s : State) (j : CollJob) : State := ({ s with coll := s.coll ++ [j] } : State).collShow

theorem State.queued_collQueued (s : State) (j : CollJob) (h : s.coll.length < 16) :
    (s.collQueued j).fld fWP_COLL_STAT_QUEUED 56 0 = s.coll.length + 1 := by
  have hl : (s.coll ++ [j]).length = s.coll.length + 1 := List.length_append
  exact (State.fld_setFld_fits _ _ _ (by decide) (hl ▸ (by omega : s.coll.length + 1 < 2 ^ 5))).trans hl

theorem Only.collQueued (s : State) (j : CollJob) :
    Only { regs := theReg .WP_COLL_STAT 56 0, coll := true } s (s.collQueued j) :=
  (Only.coll s _ rfl).trans (Only.setFld _ _ _ _ (theReg_self _ _ _))

theorem MemAlike.collQueued (s : State) (j : CollJob) : MemAlike s (s.collQueued j) := (MemAlike.refl s).record.setFld

theorem Spares.collQueued (s : State) (j : CollJob) : FlowStands s (s.collQueued j) := (Spares.refl s).record.setFld

theorem State.pkg_collQueued (s : State) (j : CollJob) : (s.collQueued j).pkg = s.pkg :=
  (Spares.collQueued s j).fld (f := fHI_PKG_NUM_NUM) 60 0

theorem State.badPlaces_collQueued (s : State) (i j : CollJob) (n : Nat) :
    (s.collQueued i).badPlaces j n = s.badPlaces j n := by
  simp only [State.badPlaces, State.populated, State.reachable, State.choices, s.pkg_collQueued i,
    (MemAlike.collQueued s i).locate, (Spares.collQueued s i).routes]

theorem State.collBad_collQueued (s : State) (i j : CollJob) (n : Nat) : (s.collQueued i).collBad j n = s.collBad j n := by
  rw [State.collBad, s.badPlaces_collQueued, State.collBad]

theorem State.collOwn_collQueued (s : State) (i j : CollJob) : (s.collQueued i).collOwn j = s.collOwn j := by
  have hl : (s.collQueued i).lat .collLost j.group 0 = s.lat .collLost j.group 0 := rfl
  have hg : (s.collQueued i).collGroup j.group = s.collGroup j.group := rfl
  simp only [State.collOwn, s.badPlaces_collQueued i, s.collBad_collQueued i, hl, hg]

theorem State.groupCode_collQueued (s : State) (j : CollJob) (k : Nat) (l : List Nat) :
    (s.collQueued j).groupCode k l = s.groupCode k l := by
  simp only [State.groupCode, s.pkg_collQueued j]

/-- The first descriptor of its group is at the head of it. -/
theorem State.collHead_collQueued (h : (s.collHead j.group).isNone = true) : (s.collQueued j).collHead j.group = some j := by
  have hn : s.coll.find? (fun i => i.group == j.group) = none := Option.isNone_iff_eq_none.mp h
  change (s.coll ++ [j]).find? _ = _
  rw [List.find?_append, hn, Option.none_or]
  exact List.find?_cons_of_pos (beq_self_eq_true _)

/-- A post that is not refused queues the descriptor, and the engine looks at it. -/
theorem collCommand_queues {i : Instr} {op : Nat} {P : State → Prop} (e : exec i s = collCommand op m v s)
    (hd : s.dieUp 56 = true) (hm : s.mayPost m = true) (hl : s.coll.length < 16) (hop : (s.collRead v).op = op)
    (h : P (State.collAdvance (s.collRead v).group 17 (s.collQueued (s.collRead v)))) : Completes i s P := by
  refine .of_next e ?_
  rw [if_pos hop, State.collPost, State.toDie, if_pos hd, if_neg (by simp [hm]), if_neg (Nat.not_le.mpr hl)]
  exact h

/-- A descriptor that waits for the other members. -/
theorem collCommand_waits {i : Instr} {op : Nat} (e : exec i s = collCommand op m v s)
    (hd : s.dieUp 56 = true) (hm : s.mayPost m = true) (hl : s.coll.length < 16) (hop : (s.collRead v).op = op)
    (h : (s.collHead (s.collRead v).group).isNone = true ∧ s.collOwn (s.collRead v) = none) (h6 : op ≠ 6 := by decide) :
    Completes i s fun t =>
      t.coll = s.coll ++ [s.collRead v] ∧ t.fld fWP_COLL_STAT_QUEUED 56 0 = s.coll.length + 1 ∧ Only ({ regs := theReg .WP_COLL_STAT 56 0, coll := true }) s t := by
  obtain ⟨hh, ho⟩ := h
  refine collCommand_queues e hd hm hl hop ?_
  rw [State.collAdvance, State.collHead_collQueued hh]
  dsimp only
  rw [if_neg (by simp [State.collRead]), if_neg (hop ▸ h6), s.collOwn_collQueued, ho]
  exact ⟨rfl, s.queued_collQueued _ hl, Only.collQueued s _⟩

/-! ## A group is loaded (R302, R303) -/

theorem MemAlike.ownRead_congr {d a n : Nat} (h : MemAlike s t) (hw : t.meshWaits d (s.pkg * 2 ^ 52 + a) n =
    s.meshWaits d (s.pkg * 2 ^ 52 + a) n) (hp : t.pkg = s.pkg) : ReadAlike (s.ownRead d a n) (t.ownRead d a n) := by
  unfold State.ownRead
  rw [hp, hw]
  exact .ite ⟨rfl, rfl, h⟩ h.readEach_congr

theorem State.meshWaits_collQueued (s : State) (j : CollJob) (d a n : Nat) :
    (s.collQueued j).meshWaits d a n = s.meshWaits d a n := by
  have hr : (s.collQueued j).lat .routeHold d 0 = s.lat .routeHold d 0 := rfl
  simp only [State.meshWaits, State.crossHeld, hr, s.pkg_collQueued j, (MemAlike.collQueued s j).locate]

/-- The engine reads the same with the descriptor queued. -/
theorem State.ownRead_collQueued (s : State) (j : CollJob) (d a n : Nat) :
    ((s.collQueued j).ownRead d a n).1 = (s.ownRead d a n).1 ∧ ((s.collQueued j).ownRead d a n).2.1 = (s.ownRead d a n).2.1 := by
  obtain ⟨h1, h2, -⟩ := (MemAlike.collQueued s j).ownRead_congr (d := d) (a := a) (n := n) (s.meshWaits_collQueued j _ _ _)
    (s.pkg_collQueued j)
  exact ⟨h1, h2⟩

theorem Stands.ownRead {d a n : Nat} (h : Stands s t) : Stands s (t.ownRead d a n).2.2 := by
  unfold State.ownRead
  split
  · exact h
  · exact h.readEach fun _ _ _ h => h.movePiece

/-- A group whose slot holds these members, with what WP_COLL_GRP shows of it, and which has lost none. -/
def State.groupSet (s : State) (g : Nat) (es : List Nat) (x : W64) : State :=
  (({ s with collGroups := sset [] s.collGroups g es } : State).setReg .WP_COLL_GRP 56 g x).setLat .collLost g 0 0

theorem State.collGroup_groupSet (s : State) (g : Nat) (es : List Nat) (x : W64) : (s.groupSet g es x).collGroup g = es :=
  sget_sset_self ..

/-- A group whose members were read is loaded with them, and the descriptor ends DONE. -/
theorem State.groupLoad_ok (h0 : s.groupCode j.count [s.pkg] = 0) (hb : s.collBad j 1 = false)
    (hr : (s.ownRead 56 j.src (4 * j.count)).1 = .ok) (hl : s.groupCode j.count (s.listRead j) = 0)
    (he : (s.listRead j).all (fun e => decide (e < 4096)) = true) :
    ∃ x, s.groupLoad j = ((s.ownRead 56 j.src (4 * j.count)).2.2.groupSet j.group (s.listRead j) x).collEnd j 0 := by
  have ha : ¬ (s.listRead j).any (fun e => decide (4096 ≤ e)) = true := by
    simpa only [List.any_eq_true, List.all_eq_true, decide_eq_true_eq, not_exists, not_and, Nat.not_le] using he
  unfold State.groupLoad
  extract_lets code0 r es code g a b
  have hcode : code = 0 := (if_neg ha).trans hl
  rw [if_neg (not_not_intro h0), if_neg (by simp [hb]), if_neg (by simp [r, hr]), if_neg (not_not_intro hr),
    if_neg (not_not_intro hcode)]
  exact ⟨_, rfl⟩

/-- Alone in the queue, a GROUP_LOAD loads what the engine reads, and leaves the queue empty. -/
theorem State.groupLoad_collQueued (hc : s.coll = []) (h0 : s.groupCode j.count [s.pkg] = 0) (hb : s.collBad j 1 = false)
    (hr : (s.ownRead 56 j.src (4 * j.count)).1 = .ok) (hl : s.groupCode j.count (s.listRead j) = 0)
    (he : (s.listRead j).all (fun e => decide (e < 4096)) = true) :
    ∃ u : State, (s.collQueued j).groupLoad j = u.collEnd j 0 ∧ u.collGroup j.group = s.listRead j ∧
      (u.coll = [j] ∨ u.coll = []) := by
  obtain ⟨h1, h2⟩ := s.ownRead_collQueued j 56 j.src (4 * j.count)
  have hlist : (s.collQueued j).listRead j = s.listRead j := by rw [State.listRead, h2, State.listRead]
  obtain ⟨x, hx⟩ := State.groupLoad_ok (s := s.collQueued j) (j := j)
    (by rw [s.pkg_collQueued, s.groupCode_collQueued]; exact h0) ((s.collBad_collQueued ..).trans hb) (h1.trans hr)
    (by rw [hlist, s.groupCode_collQueued]; exact hl) (by rw [hlist]; exact he)
  rw [hlist] at hx
  exact ⟨_, hx, State.collGroup_groupSet .., (Stands.refl _).ownRead.coll_of_one (congrArg (· ++ [j]) hc)⟩

theorem collGroupLoad_completes (hd : s.dieUp 56 = true) (hm : s.mayPost m = true) (hc : s.coll = [])
    (hop : (s.collRead v).op = 6) (h0 : s.groupCode (s.collRead v).count [s.pkg] = 0) (hb : s.collBad (s.collRead v) 1 = false)
    (hr : (s.ownRead 56 (s.collRead v).src (4 * (s.collRead v).count)).1 = .ok)
    (hl : s.groupCode (s.collRead v).count (s.listRead (s.collRead v)) = 0)
    (he : (s.listRead (s.collRead v)).all (fun e => decide (e < 4096)) = true) :
    Completes (.collGroupLoad m v) s fun t =>
      t.collGroup (s.collRead v).group = (s.listRead (s.collRead v)) ∧ t.coll = [] ∧ t.fld fWP_COLL_STAT_RESULT 56 0 = 0 := by
  refine collCommand_queues rfl hd hm (by simp [hc]) hop ?_
  have hnone : (s.collHead (s.collRead v).group).isNone = true := by simp [State.collHead, hc]
  obtain ⟨u, hu, hg, hq⟩ := State.groupLoad_collQueued hc h0 hb hr hl he
  rw [State.collAdvance, State.collHead_collQueued hnone]
  dsimp only
  rw [if_neg (by simp [State.collRead]), if_pos hop, hu, State.collAdvance_collEnd_of_one hq]
  exact ⟨(u.collGroup_collEnd ..).trans hg, State.coll_collEnd_of_one hq 0, u.result_collEnd _ (by decide)⟩

/-- Settles O24, command by command. -/
theorem collectiveCommandsComplete : Obligations.CollectiveCommandsComplete := by
  unfold Obligations.CollectiveCommandsComplete
  exact ⟨fun _ _ _ hd hm hl hop => collCommand_waits rfl hd hm hl hop,
    fun _ _ _ hd hm hl hop => collCommand_waits rfl hd hm hl hop, fun _ _ _ hd hm hl hop => collCommand_waits rfl hd hm hl hop,
    fun _ _ _ hd hm hl hop => collCommand_waits rfl hd hm hl hop, fun _ _ _ hd hm hl hop => collCommand_waits rfl hd hm hl hop,
    fun _ _ _ => collGroupLoad_completes, fun _ _ _ => collBegin_completes,
    fun _ _ sent _ => collComplete_completes sent, fun _ _ _ => collMemberLost_completes⟩

end Sys2Proof.Machine
end
